-- ==== Sys2Proof/Word.lean ====
section
/-!
DEFINITION. The words of the register map: 32-bit words (spec 00 Registers), 64-bit register pairs (R18), and their
plainest arithmetic.
-/

namespace Sys2Proof

/-- Every register is 32 bits wide (00_scope.md, Registers). -/
abbrev Word := BitVec 32

/-- A 64-bit register occupies two consecutive words (R18). -/
abbrev DWord := BitVec 64

/-- The low half of a 64-bit register. -/
def DWord.lo (d : DWord) : Word := d.setWidth 32

/-- The high half of a 64-bit register. -/
def DWord.hi (d : DWord) : Word := (d >>> 32).setWidth 32

/-- A 64-bit register from its two halves, low half first (R18). -/
def DWord.ofHalves (lo hi : Word) : DWord := hi ++ lo

/-- Bits hi..lo of a word, as a number. -/
def Word.bits (w : Word) (hi lo : Nat) : Nat := w.toNat / 2 ^ lo % 2 ^ (hi + 1 - lo)

/-- The mask of bits hi..lo. -/
def Word.mask (hi lo : Nat) : Word := BitVec.ofNat 32 ((2 ^ (hi + 1 - lo) - 1) * 2 ^ lo)

/-- A word with bits hi..lo replaced by the low bits of a number; every other bit is kept. -/
def Word.setBits (w : Word) (hi lo v : Nat) : Word :=
  (w &&& ~~~ Word.mask hi lo) ||| (BitVec.ofNat 32 (v * 2 ^ lo) &&& Word.mask hi lo)

/-- One bit of a word. -/
def Word.bit (w : Word) (i : Nat) : Bool := w.getLsbD i

/-- A word with one bit set to a value. -/
def Word.setBit (w : Word) (i : Nat) (b : Bool) : Word := w.setBits i i (if b then 1 else 0)

/-- A two's complement number of n bits (R7). -/
def signedOf (n v : Nat) : Int := if v % 2 ^ n < 2 ^ (n - 1) then (v % 2 ^ n : Nat) else (v % 2 ^ n : Nat) - (2 ^ n : Nat)

/-- The n-bit two's complement code of an integer (R7). -/
def codeOf (n : Nat) (i : Int) : Nat := (i % (2 ^ n : Nat)).toNat

/-- A voltage in volts, or another measured quantity in its SI unit, exact. -/
abbrev Volt := Rat

/-- The nearest integer, ties toward +∞ (R103). -/
def roundRat (x : Rat) : Int := (x + 1 / 2).floor

/-- A quantity limited to a range. -/
def clampRat (lo hi x : Rat) : Rat := if x < lo then lo else if hi < x then hi else x

/-- The largest n of at most `bits` bits (above `acc`) with n^k at most x: a k-th root, rounded down. -/
def rootBits (k x : Nat) : Nat → Nat → Nat
  | 0, acc => acc
  | b + 1, acc => rootBits k x b (if (acc + 2 ^ b) ^ k ≤ x then acc + 2 ^ b else acc)

/-- An integer limited to a range. -/
def clampInt (lo hi i : Int) : Int := if i < lo then lo else if hi < i then hi else i

/-- A counter that stops at its largest value. -/
def satInc (width v : Nat) : Nat := if v + 1 < 2 ^ width then v + 1 else 2 ^ width - 1

end Sys2Proof
end

