-- ==== Sys2Proof/Syntax.lean ====
section
/-!
DEFINITION. The commands of the block, one constructor for each row of spec/opcode_table.json, with the row's operands;
what the outside decides at an event (a measurement, an arrival, a verification's verdict) is an operand.
-/

namespace Sys2Proof

/-- A region, 00 to 15 (00_scope.md). -/
abbrev Rgn := Fin 16

/-- An access path: a reader and a writer of its own (R18). -/
inductive Reader where
  | hla | hlb | sb | jtag
  | le (r : Rgn)
  | fab (r : Rgn)
  deriving DecidableEq, Repr

/-- A number for each access path, the key of its holding registers. -/
def Reader.code : Reader → Nat
  | .hla => 0 | .hlb => 1 | .sb => 2 | .jtag => 3
  | .le r => 4 + r.val
  | .fab r => 20 + r.val

/-- A source of spoor records: HUB bit, region and UNIT code (R353, R355). -/
structure Src where
  hub : Bool
  rgn : Rgn
  unit : Fin 256
  deriving DecidableEq, Repr

/-- A number for each source. -/
def Src.key (x : Src) : Nat := ((if x.hub then 16 else x.rgn.val) * 256) + x.unit.val

/-- Who starts a substitution of a unit: a reader by a write of START, or the wear logic (R92, R520). -/
inductive Starter where
  | by (a : Reader)
  | wear
  deriving DecidableEq, Repr

/-- The edges of a channel's waveform that fall within a period (R201, R202). -/
inductive PwmEdge where
  /-- Into the high level. -/
  | rise
  /-- Out of the high level. -/
  | fall
  /-- The end of the LOWMAX low interval (three-level mode). -/
  | lowEnd
  deriving DecidableEq, Repr

/-- What the board, the sensors and the past of the analogue signals present at one instant: the quantities that no rule
computes from the state of the block. -/
inductive Sense where
  /-- The level at an AIO ball that no cell drives (R555), in V. -/
  | aio (r : Rgn) (j : Fin 32)
  /-- The level at a FIN ball, P or N, of a converter group, in V. -/
  | fin (r : Rgn) (g : Fin 4) (n : Bool)
  /-- The current into a transimpedance cell, in A (R72). -/
  | current (r : Rgn) (k : Fin 12) (n : Fin 8)
  /-- The response of a biquad cell to a difference Vp − Vn that has not been constant, in V (R72). -/
  | filtered (r : Rgn) (k : Fin 12) (n : Fin 8)
  /-- The level that a sample-and-hold cell took at its trigger, in V (R75). -/
  | held (r : Rgn) (k : Fin 12) (n : Fin 8)
  /-- What is left of a cell's last output at its destinations while its output switches are open, in V (R557). -/
  | cellDecay (r : Rgn) (k : Fin 12) (n : Fin 8)
  /-- What is left of the last level of a region bus, or of the neighbour line between regions r and r + 1, that no cell
  drives, in V (R557). -/
  | busDecay (r : Rgn) (j : Fin 8)
  | lineDecay (r : Rgn) (j : Fin 4)
  /-- The output of a cell that stands in a loop of cells, in V. -/
  | looped (r : Rgn) (k : Fin 12) (n : Fin 8)
  /-- Which of the levels that a procedure applies the cluster calibration source drives (R556). -/
  | calLevel (r : Rgn) (k : Fin 12)
  /-- The junction temperature at the region's sensor, in °C (R111). -/
  | temp (r : Rgn)
  /-- VDDA, in V. -/
  | vdda
  /-- The core voltage as delivered to the region, in V (R109). -/
  | core (r : Rgn)
  /-- VDD_CORE at the region's supply balls, in V (R109). -/
  | coreBall (r : Rgn)
  /-- The region reference less the die reference, in V (R88, R111). -/
  | refError (r : Rgn)
  deriving DecidableEq, Repr

/-- The quantities present at one instant; one that is not listed is 0, or what the state says of it. -/
abbrev Levels := List (Sense × Volt)

/-- One sample of a converter slice. -/
structure Sample where
  /-- What is present at the sample instant. -/
  levels : Levels
  /-- The grid point modulo 8, which says what slice takes the sample (R106, R144). -/
  point : Fin 8
  /-- What the slice's own offset, gain and bandwidth and its noise add, in LSB. -/
  error : Rat
  /-- The part of the sample that alternates from one sample to the next, in LSB (R150: what the bandwidth correction
  acts on). -/
  swing : Rat
  /-- The dither value added, in LSB (R156). -/
  dither : Int
  deriving DecidableEq, Repr

/-- What the estimator makes of one position at the end of a block: estimated errors and moves of TRIM, TC and BW, in the
units of their fields (R150). -/
structure EstMove where
  trimErr : Int
  trim : Int
  tcErr : Int
  tc : Int
  bwErr : Int
  bw : Int
  deriving DecidableEq, Repr

/-- One thing that happens in a region's fabric. -/
inductive FabStep where
  /-- The levels at a cluster's 64 routed inputs and at the clock enables of CK0 and CK1 (R282). -/
  | inputs (c : Fin 96) (v : BitVec 64) (ce : BitVec 2)
  /-- An edge of a clock tree: 0 to 15 global, 16 to 23 regional (R287, R288). -/
  | edge (tree : Fin 24)
  /-- What a cluster's flip-flops show after edges that are not given one by one. -/
  | shown (c : Fin 96) (v : Word)
  deriving DecidableEq, Repr

/-- An image as its source holds it: header, records and the 112 bytes of tag and signature, each with its first byte in
bits 7..0 (R319). -/
structure RawImage where
  hdr : BitVec 2048
  recs : List (BitVec 1088)
  tail : BitVec 896
  deriving DecidableEq, Repr

/-- The content of a Herd frame (R427). What the JOIN, LEAVE and MOVE frames carry beyond R427's list is what R432 and
R433 have their receivers check (log entry 16). -/
inductive Body where
  | credit
  /-- One 32-byte record (R352). -/
  | alarm (rec : BitVec 256)
  | sync (t1 : DWord)
  | dreq
  | dresp (t4 : DWord)
  /-- Budget in W, cap cycle number. -/
  | cap (w cyc : Word)
  /-- Subtree demand and floor in W. -/
  | demand (d f : Word)
  /-- The parent's ID, its depth, the root's ID, the parent's ancestors (R423). -/
  | beacon (id depth root : Nat) (anc : List Nat)
  /-- Joining node, the depth it would have, its parent and its parent's root ID, subtree depth and size, node IDs. -/
  | join (node level parent root depth size : Nat) (ids : List Nat)
  /-- Joining node; 0 accepted, 1 DUP, 2 DEPTH, 3 FULL, 4 ROOT; the first conflicting ID. -/
  | joinResp (node res ofs : Nat)
  /-- The node whose subtree has left, and the parent that sends it. -/
  | leave (id parent : Nat)
  /-- Node ID, subtree depth, and the new parent once it forwards the frame. -/
  | move (id depth : Nat) (parent : Option Nat)
  /-- 0 accepted, 1 DEPTH, 2 ROOT. -/
  | moveAck (res : Nat)
  | nak
  deriving DecidableEq, Repr

/-- KIND of R427. -/
def Body.kind : Body → Nat
  | .credit => 0x0 | .alarm _ => 0x1 | .sync _ => 0x2 | .dreq => 0x3 | .dresp _ => 0x4 | .cap _ _ => 0x5
  | .demand _ _ => 0x6 | .beacon _ _ _ _ => 0x7 | .join _ _ _ _ _ _ _ => 0x8 | .joinResp _ _ _ => 0x9
  | .leave _ _ => 0xA | .move _ _ _ => 0xB | .moveAck _ => 0xC | .nak => 0xD

/-- The header fields of a received frame that the link layer acts on (R426). -/
structure Hdr where
  seq : Fin 4096
  ack : Fin 4096
  acred : Fin 32
  ccred : Fin 32
  srcCnt : Fin 16384
  deriving DecidableEq, Repr

/-- How a read of the posting map completes (R404). -/
inductive ReadRes where
  /-- The 8-byte words read. -/
  | data (ws : List DWord)
  | poison | ur | ca
  deriving DecidableEq, Repr

/-- What the host answers beside map reads (R397, R413, R417). -/
inductive Answer where
  /-- A translation of a flow's page, with its permissions. -/
  | trans (flow : Fin 4096) (page : DWord) (read write : Bool)
  | transUr (flow : Fin 4096)
  | rp (flow : Fin 4096) (v : DWord)
  /-- A failed RP read, with its cause of R404. -/
  | rpFail (flow : Fin 4096) (cause : Fin 5)
  /-- The zero-length read of a failback. -/
  | zero
  deriving DecidableEq, Repr

/-- The shape in which a block-memory port addresses its block (R295). -/
inductive Shape where
  | by36 | by18 | by9
  deriving DecidableEq, Repr

/-- What a block-memory port's output register takes at a write (R295). -/
inductive WrMode where
  | readFirst | writeFirst | noChange
  deriving DecidableEq, Repr

/-- Where a transfer to a Loop Engine input port comes from (R265): an output port of an engine, or the Hub. -/
inductive PortSrc where
  | engine (r : Rgn) (p : Fin 8)
  | hub (r : Rgn) (p : Fin 8) (w0 w1 : BitVec 24)
  deriving DecidableEq, Repr

/-- Who writes a queue (R302): fabric logic of its region, with the END mark of packet mode, or an engine's output port. -/
inductive QueueSrc where
  | fabric (r : Rgn) (q : Fin 16) (v : BitVec 72) (fin : Bool)
  | engine (r : Rgn) (p : Fin 8)
  deriving DecidableEq, Repr

/-- The byte address of a word of the register map is 4 times its number (R66). -/
abbrev WNum := Fin 8388608

/-- What the hub-memory scrub or a read finds in a word (R524): corrected; uncorrectable, with the area it lies in and,
for a flow's reservation or the best-effort buffer, the flow of the record it holds; or a memory test that fails a row or
a column. -/
inductive MemFind where
  | corrected
  | uncorrectable (area : Fin 6) (flow : Option (Fin 4096)) (frames : List Nat)
  | rowFails
  | columnFails
  deriving DecidableEq, Repr

/-- The commands, in the table's order. -/
inductive Instr where
  /-- READ_LOW_HALF (R19). A read of the low half of a 64-bit register returns it and latches the high half into that reader's holding register. -/
  | readLowHalf (a : Reader) (n : WNum)
  /-- READ_HIGH_HALF (R19). A read of the high half returns the held value and empties the holding register, or returns the live half if nothing is held. -/
  | readHighHalf (a : Reader) (n : WNum)
  /-- WRITE_LOW_HALF (R20). A write of the low half of a writable 64-bit register stages the value for that writer. -/
  | writeLowHalf (a : Reader) (n : WNum) (v : Word)
  /-- WRITE_HIGH_HALF (R20). A write of the high half updates all 64 bits in one cycle, using the staged low half if there is one. -/
  | writeHighHalf (a : Reader) (n : WNum) (v : Word)
  /-- READ_CLEAR (R15). A read of an RC field returns its value and then clears it, keeping any event of the same cycle recorded. -/
  | readClear (a : Reader) (n : WNum) (ev : Word)
  /-- REGISTER_WRITE (R10). A write to a register that has no row of its own takes effect field by field under the access codes, LOCK and the owner check. -/
  | registerWrite (a : Reader) (n : WNum) (v : Word) (hw : Word)
  /-- HERD_TIME_REFRESH (R52). Every 1 µs the Hub refreshes each region's copy of Herd Time. -/
  | herdTimeRefresh
  /-- TEMP_SAMPLE (R35). Every 100 µs the die samples each region temperature sensor, rounded to 0.25 °C. -/
  | tempSample (readings : List Int)
  /-- REF_TRIM_DONE (R87). A reference trim ends and the trimmed reference takes effect. -/
  | refTrimDone (r : Rgn)
  /-- DIE_LINK_REPLAY (R36). A die-to-die transfer that fails its CRC-32C is replayed. -/
  | dieLinkReplay (d : Fin 2) (ns : Nat)
  /-- VF_REQUEST (R42). A write of RGN_VF is checked under R42, R105 and R286, then started, queued or refused. -/
  | vfRequest (a : Reader) (r : Rgn) (v : Word)
  /-- VF_CHANGE_END (R42). A voltage ramp and frequency change in progress ends. -/
  | vfChangeEnd (r : Rgn)
  /-- VF_WAITING_START (R42). A waiting request starts from the values then in force, after R105 is checked again. -/
  | vfWaitingStart (r : Rgn)
  /-- SAFE_N_ASSERT (R50). SAFE_N driven low sends every PWM ball to its safe state within 25 ns and enters Safe hold. -/
  | safeNAssert
  /-- SAFE_N_RELEASE (R500). SAFE_N returns high and its Safe source ends. -/
  | safeNRelease
  /-- PLL_SWITCH (R55). On loss of lock or drift of the active timebase PLL, the Hub switches to the other PLL at a phase-aligned edge. -/
  | pllSwitch (cause : Fin 2)
  /-- REFCLK_LOSS (R56). REFCLK25 stops, the PLLs hold their frequency and a REFCLK_LOSS alarm is raised within 10 µs. -/
  | refclkLoss
  /-- XTAL_FAIL (R57). The Sett crystal stops, the Sett switches to the RC backup and logs the event. -/
  | xtalFail
  /-- CLOCK_START (R60). Pending work starts a stopped region fast clock. -/
  | clockStart (r : Rgn)
  /-- CLOCK_GATE (R62). After 32 idle fast-clock cycles the region clock goes to Gated. -/
  | clockGate (r : Rgn)
  /-- CLOCK_COLD (R62). A clock that has stayed Gated for the Gated-to-Cold time goes to Cold. -/
  | clockCold (r : Rgn)
  /-- REGION_WAKE (R64). A wake request restarts the idle count, reopens a Gated clock, or starts the synthesiser of a Cold clock. -/
  | regionWake (r : Rgn)
  /-- SYNTH_LOCK (R63). The region synthesiser locks, the clock is Running and event 31 becomes pending. -/
  | synthLock (r : Rgn)
  /-- AC_CELL_CFG_WRITE (R78). A write of AC_CELLn_CFG is checked under R75 and changes the cell's function, mode or gain, opening its outputs on a FUNC change. -/
  | acCellCfgWrite (a : Reader) (r : Rgn) (k : Fin 12) (n : Fin 8) (v : Word)
  /-- AC_CELL_FILT_WRITE (R75). A write of AC_CELLn_FILT is checked against the power-mode limits and refused whole if it breaks them. -/
  | acCellFiltWrite (a : Reader) (r : Rgn) (k : Fin 12) (n : Fin 8) (v : Word)
  /-- AC_CELL_ROUTE_WRITE (R82). A write of AC_CELLn_ROUTE is refused whole if it adds a second driver or names a missing neighbour line. -/
  | acCellRouteWrite (a : Reader) (r : Rgn) (k : Fin 12) (n : Fin 8) (v : Word)
  /-- AC_CTRL_WRITE (R75). A write of AC_CTRL changes SC_DIV after checking every SC biquad of the cluster. -/
  | acCtrlWrite (a : Reader) (r : Rgn) (k : Fin 12) (v : Word)
  /-- OUTPUT_SWITCH_CLOSE (R78). After one settling time a cell's held-open output switches close again. -/
  | outputSwitchClose (r : Rgn) (k : Fin 12) (n : Fin 8)
  /-- SH_TRIGGER (R75). A trigger edge switches a sample-and-hold cell to hold, or restarts its hold. -/
  | shTrigger (r : Rgn) (trig : Fin 32) (e : Levels)
  /-- SH_HOLD_END (R75). The hold time expires and the sample-and-hold cell returns to tracking. -/
  | shHoldEnd (r : Rgn) (k : Fin 12) (n : Fin 8)
  /-- CELL_CLIP (R76). A cell output clips at its range limit and sets CLIP. -/
  | cellClip (r : Rgn) (k : Fin 12) (n : Fin 8) (e : Levels)
  /-- REF_FAULT (R88). A region reference off its die reference by over 3 mV for 10 µs sets REF_FAULT and raises an alarm. -/
  | refFault (r : Rgn) (diff : Int)
  /-- REF_FAULT_CLEAR (R88). The difference stays below 2 mV for 10 µs and REF_FAULT clears. -/
  | refFaultClear (r : Rgn)
  /-- INJECTION_DETECT (R91). A ball's injection detector trips, sets its bit and makes the region's results carry SETTLE. -/
  | injectionDetect (r : Rgn) (ball : Fin 40)
  /-- INJECTION_RELEASE (R134). The last tripped detector of the region releases and SETTLE marking ends 200 ns later. -/
  | injectionRelease (r : Rgn)
  /-- MIGRATION_START (R92). A write of 1 to AC_MIG.START, or the wear logic, starts a live migration of a cell onto the spare. -/
  | migrationStart (start : Starter) (r : Rgn) (k : Fin 12) (n : Fin 8)
  /-- MIGRATION_STEP_END (R96). A timed step of a running migration ends and the next step begins. -/
  | migrationStepEnd (r : Rgn) (k : Fin 12) (ok : Bool) (trim : Nat) (meas : Nat)
  /-- CG_MODE_CHANGE (R107). A write of CG_CTRL.MODE changes the group among Off, low-power, full rate and paired, or is refused. -/
  | cgModeChange (a : Reader) (r : Rgn) (g : Fin 4) (v : Word)
  /-- CG_MODE_READY (R107). After the mode-change time results begin to flow in the new mode. -/
  | cgModeReady (r : Rgn) (g : Fin 4)
  /-- SELF_CALIBRATION (R136). A write of 1 to CG_CTRL.CAL starts the 12.0 ms self-calibration, or is refused. -/
  | selfCalibration (a : Reader) (r : Rgn) (g : Fin 4)
  /-- CALIBRATION_DONE (R139). Self-calibration ends, fills the calibration registers, sets CAL_DONE and decides CAL_VALID. -/
  | calibrationDone (r : Rgn) (g : Fin 4) (passed : Nat) (cals : List Word) (skews : List Word) (bws : List Word)
  /-- SCAN_GO (R114). A write of 1 to CG_SCAN.GO starts or remembers one pass, or sets TRIG_MISS. -/
  | scanGo (a : Reader) (r : Rgn) (g : Fin 4)
  /-- SCAN_TRIGGER (R114). A pass trigger from TRIG_SRC starts or remembers one pass. -/
  | scanTrigger (r : Rgn) (g : Fin 4)
  /-- SCAN_PASS_END (R114). A scan pass ends and a remembered or continuous pass starts. -/
  | scanPassEnd (r : Rgn) (g : Fin 4)
  /-- BATCH_DONE (R113). The last averaged sample of a batch is taken and one corrected result is formed. -/
  | batchDone (r : Rgn) (g : Fin 4) (xs : List Sample) (sub : Fin 40)
  /-- EXCURSION (R132). The slice front end detects an input beyond full scale by more than 3 %, marking following results SETTLE. -/
  | excursion (r : Rgn) (g : Fin 4) (disc : Bool)
  /-- HOST_URGENT_REQUEST (R117). A host write to CG_URG enters an urgent request into the queue. -/
  | hostUrgentRequest (a : Reader) (r : Rgn) (g : Fin 4) (v : Word)
  /-- URGENT_TRIGGER (R117). A trigger of an active urgent slot enters a request into the queue. -/
  | urgentTrigger (r : Rgn) (g : Fin 4) (k : Fin 4)
  /-- URGENT_SAMPLE (R118). A queued urgent request is sampled at its grid point and converted as a single sample with URG = 1. -/
  | urgentSample (r : Rgn) (g : Fin 4) (x : Sample) (sub : Fin 40)
  /-- CG_RESULT_LOW_READ (R125). A low-half read of CG_RESULT returns OVRN and HELD for the reader and latches the high half. -/
  | cgResultLowRead (a : Reader) (r : Rgn) (g : Fin 4)
  /-- CG_RESULT_HIGH_READ (R125). A high-half read of CG_RESULT returns the held or live half and sets HELD_LAST. -/
  | cgResultHighRead (a : Reader) (r : Rgn) (g : Fin 4)
  /-- TAP_DELIVER (R130). A tap delivers a buffered result to its Loop Engine port, queue controller or spoor flow. -/
  | tapDeliver (r : Rgn) (g : Fin 4) (t : Fin 3)
  /-- ROTATION_POINT (R145). Every 1.024 ms the service slice takes position r mod 4 and the outgoing slice enters service. -/
  | rotationPoint (r : Rgn) (g : Fin 4) (diff : Nat)
  /-- SHADOW_START (R146). Foreground calibration of the service slice ends and its shadow comparison begins. -/
  | shadowStart (r : Rgn) (g : Fin 4) (cal : Word) (dev : Nat)
  /-- ESTIMATOR_BLOCK (R150). A block of 2^20 sample pairs ends and, if usable, updates skew, coefficient and bandwidth values. -/
  | estimatorBlock (r : Rgn) (g : Fin 4) (exc : Nat) (moves : List EstMove)
  /-- CG_ROT_CTRL_WRITE (R166). A write of CG_ROT_CTRL sets dither and test holds, and is refused for test holds while LIVE is 1. -/
  | cgRotCtrlWrite (a : Reader) (r : Rgn) (g : Fin 4) (v : Word)
  /-- LOW_POWER_HANDOVER (R159). Every 65.536 ms in low-power mode the conversion moves to the next working slice. -/
  | lowPowerHandover (r : Rgn) (g : Fin 4) (cal : Word) (dev : Nat) (diff : Nat)
  /-- COMPARATOR_CROSSING (R177). A comparator's RAW rises and sets its latch, driving every route it has. -/
  | comparatorCrossing (r : Rgn) (k : Fin 12) (m : Fin 2) (spare : Bool) (e : Levels) (sub : Fin 40)
  /-- RAW_DEASSERT (R177). A comparator's RAW falls, releasing a transparent latch and its routes. -/
  | rawDeassert (r : Rgn) (k : Fin 12) (m : Fin 2) (spare : Bool) (e : Levels)
  /-- LATCH_CLEAR (R178). A software clear of LATCHED empties the latch if RAW is 0. -/
  | latchClear (a : Reader) (r : Rgn) (k : Fin 12) (m : Fin 2)
  /-- CLEAR_POINT (R218). 3.333 ns before a channel's period start, latches cleared by that channel empty if RAW is 0. -/
  | clearPoint (r : Rgn) (c : Fin 16)
  /-- BLANKING_END (R179). The leading-edge blanking window ends and the latch sets if RAW is still 1. -/
  | blankingEnd (r : Rgn) (k : Fin 12) (m : Fin 2) (sub : Fin 40)
  /-- WC_CMP_CFG_WRITE (R172). A write of WC_CMPm_CFG changes input, mode, hysteresis or latch, refused under R172 or R176. -/
  | wcCmpCfgWrite (a : Reader) (r : Rgn) (k : Fin 12) (m : Fin 2) (v : Word)
  /-- WC_CMP_THR_WRITE (R169). A write of WC_CMPm_THR changes HI and LO together, refused if the window is too narrow. -/
  | wcCmpThrWrite (a : Reader) (r : Rgn) (k : Fin 12) (m : Fin 2) (v : Word)
  /-- WC_ROUTE_WRITE (R184). A write of WC_CMPm_TRIP or WC_CMPm_ROUTE adds or removes routes within 5 ns. -/
  | wcRouteWrite (a : Reader) (r : Rgn) (k : Fin 12) (m : Fin 2) (trip : Bool) (v : Word)
  /-- SELF_CHECK (R188). A write of 1 to WC_CHK.START with SUB = 0 starts a self-check under live protection, or is refused. -/
  | selfCheck (a : Reader) (r : Rgn) (k : Fin 12) (m : Fin 2)
  /-- SELF_CHECK_STEP_END (R189). A timed step of a self-check or substitution ends and the next begins. -/
  | selfCheckStepEnd (r : Rgn) (k : Fin 12) (disagree : Bool) (obs : List (Fin 4 × Fin 4)) (e : Levels)
  /-- COMPARATOR_SUBSTITUTION (R193). START with SUB = 1, or the wear logic, substitutes the spare comparator without a test. -/
  | comparatorSubstitution (start : Starter) (r : Rgn) (k : Fin 12) (m : Fin 2)
  /-- PERIODIC_CHECK (R186). Every CHK_PERIOD hours a self-check starts, or is skipped and counted. -/
  | periodicCheck (r : Rgn) (k : Fin 12)
  /-- PERIOD_START (R213). A channel's count passes 0: its update point applies the shadow, samples cycle-by-cycle trips and advances the watchdog. -/
  | periodStart (r : Rgn) (c : Fin 16) (sub : Fin 120)
  /-- GROUP_EPOCH (R209). A phase group's epoch applies staged PER and PHASE values. -/
  | groupEpoch (r : Rgn) (g : Fin 16) (sub : Fin 120)
  /-- PG_TRIGGER (R217). TRIG fine steps after the period start the channel emits its trigger event. -/
  | pgTrigger (r : Rgn) (c : Fin 16) (sub : Fin 120)
  /-- PG_GRP_PER_WRITE (R209). A write of PG_GRPg_PER stages a new period, refused beyond the factor of two. -/
  | pgGrpPerWrite (a : Reader) (r : Rgn) (g : Fin 16) (v : Word)
  /-- PG_PHASE_WRITE (R209). A write of PG_CHcc_PHASE stages a new offset for the next epoch. -/
  | pgPhaseWrite (a : Reader) (r : Rgn) (c : Fin 16) (v : Word)
  /-- PG_LIM_WRITE (R203). A write of PG_CHcc_LIM changes MIN_ON and MIN_OFF, refused if their sum exceeds PER. -/
  | pgLimWrite (a : Reader) (r : Rgn) (c : Fin 16) (v : Word)
  /-- GROUP_ENABLE (R207). Setting PG_GRPg_CTRL.EN places the group's first epoch on the next 1 µs multiple of Herd Time. -/
  | groupEnable (a : Reader) (r : Rgn) (g : Fin 16)
  /-- GROUP_DISABLE (R210). Clearing PG_GRPg_CTRL.EN makes every member end its period and hold IDLE_LVL. -/
  | groupDisable (a : Reader) (r : Rgn) (g : Fin 16)
  /-- CHANNEL_ENABLE (R210). Setting CFG.EN makes the channel join its group at its next period start. -/
  | channelEnable (a : Reader) (r : Rgn) (c : Fin 16)
  /-- CHANNEL_DISABLE (R210). Clearing CFG.EN ends the period in progress and holds IDLE_LVL while counting. -/
  | channelDisable (a : Reader) (r : Rgn) (c : Fin 16)
  /-- DUTY_WRITE (R211). A write of PG_CHcc_DUTY puts ON and SKIP into the shadow, refused unless DSRC is 0b00. -/
  | dutyWrite (a : Reader) (r : Rgn) (c : Fin 16) (v : Word) (sub : Fin 120)
  /-- DUTY_TRANSFER (R212). A Loop Engine duty transfer for this channel forms ON from D and lands in the shadow. -/
  | dutyTransfer (r : Rgn) (p : Fin 8) (sub : Fin 120)
  /-- FABRIC_DUTY_STROBE (R294). A fabric duty line strobe puts ON and SKIP into the channel's shadow. -/
  | fabricDutyStrobe (r : Rgn) (line : Fin 8) (v : Word) (sub : Fin 120)
  /-- DUTY_WATCHDOG (R216). The count of update points without a new value reaches WDOG and the channel enters latch-off with cause WDOG. -/
  | dutyWatchdog (r : Rgn) (c : Fin 16)
  /-- REL (R220). A write of 1 to PG_CHcc_REL.REL requests release from latch-off or rail-safe, or is refused. -/
  | rel (a : Reader) (r : Rgn) (c : Fin 16) (v : Word)
  /-- PG_SUBSTITUTION (R228). A write of 1 to PG_SUB.START, or the wear logic, starts a substitution of the spare channel. -/
  | pgSubstitution (start : Starter) (r : Rgn) (c : Fin 16)
  /-- PG_SUBSTITUTION_STEP_END (R230). A step of a channel substitution ends and the next begins. -/
  | pgSubstitutionStepEnd (r : Rgn) (tgtBad : Bool) (spareBad : Bool)
  /-- NOP (R240). The arithmetic slot does nothing. -/
  | nop (r : Rgn)
  /-- MUL (R240). Aa = Dx × Dy. -/
  | mul (r : Rgn)
  /-- MULA (R240). Aa = Aa + Dx × Dy. -/
  | mula (r : Rgn)
  /-- MULS (R240). Aa = Aa − Dx × Dy. -/
  | muls (r : Rgn)
  /-- MUL4 (R240). Four-lane multiply into four accumulators. -/
  | mul4 (r : Rgn)
  /-- MULA4 (R240). Four-lane multiply-accumulate. -/
  | mula4 (r : Rgn)
  /-- MULS4 (R240). Four-lane multiply-subtract. -/
  | muls4 (r : Rgn)
  /-- MUL4B (R240). Four-lane multiply by one broadcast operand. -/
  | mul4b (r : Rgn)
  /-- MULA4B (R240). Four-lane multiply-accumulate by one broadcast operand. -/
  | mula4b (r : Rgn)
  /-- MULAR (R240). Multiply-accumulate then round under R250. -/
  | mular (r : Rgn)
  /-- ADD (R240). Aa = Aa + Ab. -/
  | add (r : Rgn)
  /-- SUB (R240). Aa = Aa − Ab. -/
  | sub (r : Rgn)
  /-- ADDD (R240). Aa = Aa + Dx. -/
  | addd (r : Rgn)
  /-- SUBD (R240). Aa = Aa − Dx. -/
  | subd (r : Rgn)
  /-- MOVA (R240). Aa = Dx placed as a 1.23 value. -/
  | mova (r : Rgn)
  /-- MOVD (R249). DF = Aa rounded and limited to 1.23. -/
  | movd (r : Rgn)
  /-- RND (R250). Aa rounded to 1.23 with bits [22:0] cleared. -/
  | rnd (r : Rgn)
  /-- NEG (R240). Aa = −Aa. -/
  | neg (r : Rgn)
  /-- ABS (R240). Aa = abs(Aa). -/
  | abs (r : Rgn)
  /-- CLR (R240). Aa = 0. -/
  | clr (r : Rgn)
  /-- ASL (R240). Aa shifted left by F. -/
  | asl (r : Rgn)
  /-- ASR (R240). Aa shifted right arithmetically by F. -/
  | asr (r : Rgn)
  /-- NORM (R252). Aa normalised and its exponent written to DF. -/
  | norm (r : Rgn)
  /-- EXP (R252). DF = exponent of Aa. -/
  | exp (r : Rgn)
  /-- MAX (R240). Aa = max(Aa, Ab). -/
  | max (r : Rgn)
  /-- MIN (R240). Aa = min(Aa, Ab). -/
  | min (r : Rgn)
  /-- CMP (R240). Flags from the exact difference Aa − Ab. -/
  | cmp (r : Rgn)
  /-- LIM (R240). Aa limited to ±abs(Dx). -/
  | lim (r : Rgn)
  /-- DADD (R240). DF = Dx + Dy. -/
  | dadd (r : Rgn)
  /-- DSUB (R240). DF = Dx − Dy. -/
  | dsub (r : Rgn)
  /-- DAND (R240). DF = Dx AND Dy. -/
  | dand (r : Rgn)
  /-- DOR (R240). DF = Dx OR Dy. -/
  | dor (r : Rgn)
  /-- DXOR (R240). DF = Dx XOR Dy. -/
  | dxor (r : Rgn)
  /-- DMUL (R240). DF = Dx × Dy rounded to 1.23. -/
  | dmul (r : Rgn)
  /-- DCMP (R240). Flags from the exact difference Dx − Dy. -/
  | dcmp (r : Rgn)
  /-- LD (R242). Load a D register from X or Y memory and modify the pointer. -/
  | ld (r : Rgn)
  /-- ST (R242). Store a D register to X or Y memory and modify the pointer. -/
  | st (r : Rgn)
  /-- STA (R242). Store an accumulator rounded and limited to 1.23. -/
  | sta (r : Rgn)
  /-- IN (R265). Read two words from an input port, stale if the port is empty. -/
  | inPort (r : Rgn)
  /-- OUT (R243). Send a two-word transfer from an output port, never waiting. -/
  | outPort (r : Rgn)
  /-- MOVS (R236). Read a special register into a D register. -/
  | movs (r : Rgn)
  /-- MODP (R242). Modify a pointer without a memory access. -/
  | modp (r : Rgn)
  /-- CONTROL_NOP (R245). A control packet that does nothing. -/
  | controlNop (r : Rgn)
  /-- JMP (R245). PC = ADDR. -/
  | jmp (r : Rgn)
  /-- JSR (R245). Push PC + 1 and jump to ADDR. -/
  | jsr (r : Rgn)
  /-- RTS (R245). Pop the return stack into PC. -/
  | rts (r : Rgn)
  /-- RTE (R261). Return from an event handler to the main set. -/
  | rte (r : Rgn)
  /-- LOOP (R255). Push a loop of CNT iterations, optionally rotating. -/
  | loop (r : Rgn)
  /-- LOOPD (R255). Push a loop with its count from a D register. -/
  | loopd (r : Rgn)
  /-- BREAK (R245). Leave the innermost loop. -/
  | breakLoop (r : Rgn)
  /-- WAITIN (R270). Wait for a transfer at an input port, then read it as IN. -/
  | waitin (r : Rgn) (n : Nat)
  /-- WAIT (R261). Wait until an enabled event is taken. -/
  | wait (r : Rgn) (n : Nat)
  /-- EVOUT (R264). Pulse an event output for one cycle. -/
  | evout (r : Rgn)
  /-- DI (R245). Mask events. -/
  | di (r : Rgn)
  /-- EI (R245). Unmask events. -/
  | ei (r : Rgn)
  /-- ROT (R257). Step ROFS by 1 modulo 16. -/
  | rot (r : Rgn)
  /-- HALT (R245). Enter Halted and set LE_EVT.HALTED. -/
  | halt (r : Rgn)
  /-- CWR (R246). Control write to the engine's own region block. -/
  | cwr (r : Rgn) (n : Nat)
  /-- CRD (R246). Control read of the engine's own region block. -/
  | crd (r : Rgn)
  /-- IMM_D (R247). Immediate packet writing a D register. -/
  | immD (r : Rgn)
  /-- IMM_P (R247). Immediate packet writing a pointer. -/
  | immP (r : Rgn)
  /-- IMM_M (R247). Immediate packet writing a modifier. -/
  | immM (r : Rgn)
  /-- IMM_L (R247). Immediate packet writing a length. -/
  | immL (r : Rgn)
  /-- IMM_B (R247). Immediate packet writing a base. -/
  | immB (r : Rgn)
  /-- IMM_SR (R247). Immediate packet writing SR. -/
  | immSr (r : Rgn)
  /-- IMM_ROFS (R247). Immediate packet writing ROFS. -/
  | immRofs (r : Rgn)
  /-- ILLEGAL_PACKET (R273). The engine reaches an illegal packet or a stack over- or underflow and enters Faulted, raising LE_FAULT. -/
  | illegalPacket (r : Rgn)
  /-- LOOP_END (R255). A loop count runs out, its entry is popped and execution continues at ADDR + 1. -/
  | loopEnd (r : Rgn)
  /-- EVENT_PENDING (R260). A rising edge of an event source sets its pending bit. -/
  | eventPending (r : Rgn) (e : Fin 32)
  /-- EVENT_ENTRY (R261). At a packet boundary the engine takes the lowest pending enabled event and enters its handler. -/
  | eventEntry (r : Rgn) (n : Nat)
  /-- LE_TIMER_EXPIRE (R259). LE_TIMER expires and event 29 becomes pending. -/
  | leTimerExpire (r : Rgn)
  /-- PORT_TRANSFER (R265). A transfer arrives at an input port, is held, replaces one, or is refused. -/
  | portTransfer (src : PortSrc)
  /-- WAITIN_TIMEOUT (R265). LE_WAIT_TMO cycles pass and WAITIN acts as an IN on an empty port. -/
  | waitinTimeout (r : Rgn)
  /-- CWR_COMPLETE (R246). A CWR write takes effect, freeing its in-flight slot. -/
  | cwrComplete (r : Rgn)
  /-- CRD_COMPLETE (R246). A CRD's read data arrive and its wait ends. -/
  | crdComplete (r : Rgn) (n : Nat)
  /-- LE_RUN (R272). Setting LE_CTRL.RUN runs the engine from PC. -/
  | leRun (a : Reader) (r : Rgn)
  /-- LE_HALT_REQUEST (R272). Clearing RUN halts at the next packet boundary, refused while LIVE. -/
  | leHaltRequest (a : Reader) (r : Rgn)
  /-- LE_STEP (R272). STEP issues one packet while Halted. -/
  | leStep (a : Reader) (r : Rgn)
  /-- ERST (R275). ERST resets the engine and leaves it Halted. -/
  | erst (a : Reader) (r : Rgn)
  /-- PROGRAM_MEMORY_WRITE (R274). A host write of program memory, accepted only while Halted or Faulted. -/
  | programMemoryWrite (a : Reader) (r : Rgn) (n : Fin 8192) (v : DWord)
  /-- XY_HOST_WRITE (R274). A host write of X or Y memory, discarded if it meets an engine write to the same word. -/
  | xyHostWrite (a : Reader) (r : Rgn) (y : Bool) (n : Fin 16384) (v : Word) (meets : Bool)
  /-- LE_WINDOW_WRITE (R274). A write to the engine register window, accepted only while Halted or Faulted. -/
  | leWindowWrite (a : Reader) (r : Rgn) (n : Fin 76) (v : DWord)
  /-- LANE_SUBSTITUTION (R276). A write of 1 to LE_SUB.START, or the wear logic, starts a MAC lane substitution. -/
  | laneSubstitution (start : Starter) (r : Rgn) (lane : Fin 4)
  /-- LANE_STEP_END (R277). A step of a lane substitution ends and the next begins. -/
  | laneStepEnd (r : Rgn) (ok : Bool)
  /-- LANE_SHADOW_MISMATCH (R278). A shadow mismatch forces the handover and raises LE_LANE_FAIL. -/
  | laneShadowMismatch (r : Rgn)
  /-- GLOBAL_RESET (R290). A global reset source asserts asynchronously and deasserts through a synchroniser. -/
  | globalReset (d : Fin 2) (k : Fin 8) (on : Bool)
  /-- FAB_RST_PULSE (R290). A write of FAB_RST pulses global resets in one region for 16 register cycles. -/
  | fabRstPulse (a : Reader) (r : Rgn) (v : Word)
  /-- RUN_REQUEST (R289). The fabric run-request line gives the region pending work. -/
  | runRequest (r : Rgn) (on : Bool)
  /-- FABRIC_TRIGGER (R294). A fabric trigger line pulse triggers converter scans or urgent requests. -/
  | fabricTrigger (r : Rgn) (line : Fin 8)
  /-- FABRIC_SPOOR_STROBE (R294). A fabric spoor port strobe emits one record. -/
  | fabricSpoorStrobe (r : Rgn) (p : Fin 4) (payload : BitVec 128)
  /-- REGION_REGISTER_PORT (R294). A fabric access through the region register port reads or writes the region block as owner. -/
  | regionRegisterPort (r : Rgn) (off : Fin 262144) (w : Option Word)
  /-- BM_WRITE (R296). A user port writes a block memory word. -/
  | bmWrite (r : Rgn) (b : Fin 16) (portB : Bool) (shape : Shape) (addr : Fin 4096) (data : BitVec 36) (mode : WrMode) (same : Bool)
  /-- BM_READ (R297). A user port reads a block memory word and checks parity. -/
  | bmRead (r : Rgn) (b : Fin 16) (portB : Bool) (shape : Shape) (addr : Fin 4096) (same : Bool) (upset : BitVec 36)
  /-- COPY_PORT_ACCESS (R298). A host access to block memory through the copy port. -/
  | copyPortAccess (a : Reader) (r : Rgn) (w : Option (BitVec 36)) (same : Bool)
  /-- QUEUE_WRITE (R302). A writer adds an entry to a queue, or is refused while full. -/
  | queueWrite (src : QueueSrc) (wc : Nat) (rc : Nat)
  /-- QUEUE_READ (R301). A fabric or Loop Engine reader takes an entry from a queue. -/
  | queueRead (r : Rgn) (q : Fin 16) (wc : Nat) (rc : Nat) (upset : BitVec 72)
  /-- QUEUE_POP (R304). A host low-half read of QC_DATA pops the head entry. -/
  | queuePop (a : Reader) (r : Rgn) (q : Fin 16) (wc : Nat) (rc : Nat) (upset : BitVec 72)
  /-- QUEUE_FLUSH (R304). A write of 1 to QC_FLUSH empties the queue. -/
  | queueFlush (a : Reader) (r : Rgn) (q : Fin 16)
  /-- PACKET_ABORT (R303). The abort strobe discards a packet being written. -/
  | packetAbort (r : Rgn) (q : Fin 16)
  /-- UREG_GROUP_READ (R306). A read of a latch group's first register latches the group, folding pending carries. -/
  | uregGroupRead (a : Reader) (r : Rgn) (n : Fin 64) (steps : List FabStep) (live : List (Word × Fin 4))
  /-- CAPTURE_START (R308). A write of 1 to FAB_CAP_CTRL.START arms the capture snapshot. -/
  | captureStart (a : Reader) (r : Rgn) (v : Word)
  /-- CAPTURE_TRIGGER (R308). The capture trigger arrives and flip-flops are copied at each tree's next edge. -/
  | captureTrigger (r : Rgn) (code : Fin 64) (before : List FabStep) (after : List FabStep) (sub : Fin 40)
  /-- CAPTURE_DONE (R308). Every selected tree has captured; FAB_CAP_TIME is recorded and CAP_DONE set. -/
  | captureDone (r : Rgn) (steps : List FabStep) (sub : Fin 40)
  /-- CAPTURE_ABORT (R309). A write of 1 to ABORT ends the capture. -/
  | captureAbort (a : Reader) (r : Rgn)
  /-- RELOCATION (R310). A write of FAB_RELOC with KIND 0 and START, or the wear logic, relocates a logic cluster. -/
  | relocation (start : Starter) (r : Rgn) (c : Fin 96)
  /-- RELOCATION_STEP_END (R311). A step of a relocation or block substitution ends and the next begins. -/
  | relocationStepEnd (r : Rgn) (ok : Bool) (image : Option (List (BitVec 1088)))
  /-- BLOCK_SUBSTITUTION (R313). FAB_RELOC with KIND 1 substitutes the spare block memory. -/
  | blockSubstitution (start : Starter) (r : Rgn) (b : Fin 16)
  /-- LOADING_START (R328). Loading begins and the controller reads its first image from the BOOT_SRC source. -/
  | loadingStart (puf : Bool) (ledger : Option (Fin 2))
  /-- IMAGE_HEADER (R320). An image header arrives and its magic, key, SVN and binding are checked. -/
  | imageHeader (pointer : BitVec 128) (strobe : Bool) (hdr : BitVec 2048)
  /-- FRAME_RECORD (R321). A frame record arrives, is decrypted, checked and written into configuration memory. -/
  | frameRecord (raw : BitVec 1088) (imgs : List (Nat × Word))
  /-- ATTEMPT_TIMEOUT (R331). An attempt still running 4 s after it began fails with cause TIMEOUT. -/
  | attemptTimeout
  /-- SIGNATURE_VERIFIED (R330). ECDSA verification of the image completes. -/
  | signatureVerified (tail : BitVec 896)
  /-- VERIFY_DONE (R332). Readback completes; on a match CFG_DONE rises and Calibrating begins. -/
  | verifyDone (upset : List (Word × BitVec 1024 × BitVec 12))
  /-- CFG_LOAD_FLASH (R340). CFG_PR_CMD START with SRC 0b00 requests a partial load from flash, checked under R341. -/
  | cfgLoadFlash (a : Reader)
  /-- CFG_LOAD_HOST_DMA (R333). CFG_PR_CMD START with SRC 0b01 loads an image from host memory. -/
  | cfgLoadHostDma (a : Reader)
  /-- CFG_LOAD_FIFO (R333). CFG_PR_CMD START with SRC 0b10 loads an image through CFG_FIFO. -/
  | cfgLoadFifo (a : Reader)
  /-- CFG_FIFO_WRITE (R334). A word written to CFG_FIFO is queued or dropped with OVF. -/
  | cfgFifoWrite (a : Reader) (v : Word)
  /-- PR_STAGE_DONE (R342). A partial image is fully staged and authentication begins. -/
  | prStageDone
  /-- PR_AUTH_DONE (R342). Authentication of the staged image ends. -/
  | prAuthDone (tail : BitVec 896)
  /-- PR_WAIT_END (R342). Covered clusters are free; isolation and frame writing begin. -/
  | prWaitEnd
  /-- PR_VERIFY_DONE (R343). Written frames are verified; the load releases isolation or rewrites and fails with VERIFY. -/
  | prVerifyDone (upset : List (Word × BitVec 1024 × BitVec 12))
  /-- SCRUB_FRAME (R337). The scrubber reads the next configured frame every SCRUB_INT × 80 ns. -/
  | scrubFrame (d : Fin 3) (upset : BitVec 1024) (code : BitVec 12) (crc : Word)
  /-- SCRUB_RELOAD_DONE (R339). A reload from flash for an uncorrectable frame ends, rewriting it or failing. -/
  | scrubReloadDone (block : Option (List (BitVec 1088)))
  /-- PORT_LOAD_FLASH (R346). The internal configuration port requests a partial load from flash. -/
  | portLoadFlash (r : Rgn) (addr : Word)
  /-- PORT_LOAD_QUEUE (R346). The internal configuration port requests a partial load streamed from a queue controller. -/
  | portLoadQueue (r : Rgn) (q : Fin 16)
  /-- PORT_ABORT (R346). The internal configuration port aborts a request still in step 1 or 2. -/
  | portAbort (r : Rgn)
  /-- FENCED_LOAD (R349). SEC_FENCE_CMD START loads a fenced partial image through the secure path. -/
  | fencedLoad (a : Reader)
  /-- COMMIT_ROLLBACK (R326). SEC_OTP_CMD OP 0x1 re-authenticates the golden image and blows rollback fuses. -/
  | commitRollback (a : Reader) (value : Fin 256) (guard : Fin 256)
  /-- REVOKE_SLOT (R327). SEC_OTP_CMD OP 0x2 sets REVOKED on a key slot. -/
  | revokeSlot (a : Reader) (value : Fin 256) (guard : Fin 256)
  /-- BLOW_CONSENT (R529). SEC_OTP_CMD OP 0x3 blows the CONSENT fuse, refused on a -V part. -/
  | blowConsent (a : Reader) (guard : Fin 256)
  /-- OTP_COMMAND_DONE (R326). An OTP command completes and sets OTP_DONE. -/
  | otpCommandDone (golden : Option RawImage) (fuse : Bool)
  /-- FLASH_READ (R350). CFG_FL_CMD OP read moves flash words into CFG_FL_BUF. -/
  | flashRead (a : Reader) (words : Fin 64)
  /-- FLASH_PROGRAM (R350). CFG_FL_CMD OP program writes flash, refused in the golden range. -/
  | flashProgram (a : Reader) (words : Fin 64)
  /-- FLASH_ERASE (R350). CFG_FL_CMD OP erase erases a 64 KiB sector, refused in the golden range. -/
  | flashErase (a : Reader)
  /-- FLASH_COMMAND_DONE (R345). A host flash command ends, after any suspension for higher jobs. -/
  | flashCommandDone (ok : Bool) (data : List Word)
  /-- RECORD_EMIT (R370). A record enters its cluster funnel, or the Hub funnel, with its emission time. -/
  | recordEmit (x : Src)
  /-- TOKEN_GRANT (R371). The token bucket refills and a waiting record becomes conforming. -/
  | tokenGrant (x : Src) (flow : Fin 4096) (ns : Nat)
  /-- FUNNEL_HOP (R360). An arbiter forwards a record through a funnel hop by rank and weighted round robin. -/
  | funnelHop (h : Fin 533) (slots : Nat)
  /-- ALARM_RAISE (R377). A source raises an alarm into its pending slot. -/
  | alarmRaise (x : Src) (code : Fin 65536) (detail : BitVec 80)
  /-- DEADLINE_MISS (R372). A conforming record is not delivered within D; it is counted and DEADLINE_MISS raised. -/
  | deadlineMiss (flow : Fin 4096)
  /-- OPEN (R363). SPR_CMD OPEN opens a flow best-effort or accepted under R364 to R367. -/
  | openFlow (f : Fin 4096)
  /-- CLOSE (R368). SPR_CMD CLOSE ends a flow. -/
  | closeFlow (f : Fin 4096)
  /-- QUERY (R368). SPR_CMD QUERY copies a flow's descriptor, state and counts. -/
  | queryFlow (f : Fin 4096)
  /-- READMIT (R368). SPR_CMD READMIT asks again for a guarantee for a best-effort flow. -/
  | readmitFlow (f : Fin 4096)
  /-- CREDIT_STALL (R382). The posting port has had no posted-write credit for 10 µs and admission re-runs. -/
  | creditStall (mbs : Nat)
  /-- ADMISSION_RERUN (R383). Admission re-runs against a new C and demotes flows until the host sum fits. -/
  | admissionRerun (port : Bool)
  /-- ADMISSION_START (R387). When a posting port first can post, every declared flow is opened and admission runs. -/
  | admissionStart
  /-- POST_RECORD (R410). The posting engine writes a record into its flow's ring and advances the write count. -/
  | postRecord (slots : Nat)
  /-- MAP_READ_COMPLETION (R395). A map read completes and the walk continues, completes, or fails. -/
  | mapReadCompletion (flow : Fin 4096) (res : ReadRes)
  /-- ACCESS_TIMEOUT (R404). A read or GO not received within 50 µs fails with cause TIMEOUT. -/
  | accessTimeout (flow : Fin 4096) (go : Bool)
  /-- MAP_REFRESH (R396). At 7/8 of its age limit a recently used leaf entry is re-read. -/
  | mapRefresh (flow : Fin 4096)
  /-- INV_FLOW (R398). PMAP_CMD INV_FLOW invalidates and re-walks one flow. -/
  | invFlow (f : Fin 4096)
  /-- INV_ROOT (R398). PMAP_CMD INV_ROOT invalidates and re-walks the flows under one root entry. -/
  | invRoot (f : Fin 4096)
  /-- INV_ALL (R398). PMAP_CMD INV_ALL invalidates and re-walks every flow. -/
  | invAll
  /-- INVALIDATION_DONE (R398). Every walk of an invalidation and every old write has ended and START reads 0. -/
  | invalidationDone
  /-- FAILOVER (R415). PMAP_CMD FAILOVER moves posting to the other port, refused with NOPORT. -/
  | failover
  /-- FAILBACK (R417). PMAP_CMD FAILBACK returns posting to the primary port. -/
  | failback
  /-- PMAP_ROOT_WRITE (R419). A write of the posting port's PMAP_ROOT acts as INV_ALL. -/
  | pmapRootWrite (p : Fin 2) (v : DWord)
  /-- PMAP_CMD_STAT_READ (R399). A read of PMAP_CMD_STAT through the posting port completes after all earlier writes. -/
  | pmapCmdStatRead (p : Fin 2)
  /-- ATS_INVALIDATION (R397). A host ATS invalidation removes translations and completes after their writes. -/
  | atsInvalidation (p : Fin 2) (page : DWord) (n : Nat)
  /-- HOLD_LIMIT_EXPIRE (R407). A suspended flow's hold limit expires. -/
  | holdLimitExpire (flow : Fin 4096)
  /-- WP_WRITE (R412). The engine writes a flow's write pointer at the first of its three conditions. -/
  | wpWrite (flow : Fin 4096)
  /-- INT_MOD_EXPIRE (R414). The interrupt moderation interval ends and a deferred vector is sent. -/
  | intModExpire (flow : Fin 4096)
  /-- RP_READ (R413). A stop-mode flow re-reads its ring's read pointer. -/
  | rpRead (flow : Fin 4096)
  /-- GO_RECEIVED (R411). A CXL GO answers a record write. -/
  | goReceived (flow : Fin 4096) (err : Bool)
  /-- POSTING_FAILOVER (R416). A failover trigger moves posting from P to O. -/
  | postingFailover (trigger : Fin 5)
  /-- AUTO_FAILBACK (R417). The primary port has been able to post for 1 s and posting returns to it. -/
  | autoFailback
  /-- NO_PORT (R418). No port can post; every accepted flow is demoted and POST_NOPORT raised. -/
  | noPort
  /-- SNOOP (R457). An H2D snoop is answered with RspIHitI. -/
  | snoop (p : Fin 2)
  /-- LINK_UP (R431). A Herd port achieves block lock, exchanges frames and reads up. -/
  | linkUp (p : Fin 6)
  /-- BEACON_TIMER (R423). A parent sends a BEACON on every up DN port at least every 1 µs. -/
  | beaconTimer
  /-- BEACON (R423). A received BEACON is judged as a parent candidate. -/
  | beacon (p : Fin 6) (h : Hdr) (id : Nat) (depth : Nat) (root : Nat) (anc : List Nat)
  /-- SYNC_TIMER (R435). A parent sends SYNC every 10 µs on each up DN port. -/
  | syncTimer
  /-- SYNC (R435). A received SYNC is timestamped and answered with DREQ. -/
  | sync (p : Fin 6) (h : Hdr) (t1 : DWord) (sub : Fin 40) (turn : Nat)
  /-- DREQ (R435). A received DREQ is timestamped t4 and answered with DRESP. -/
  | dreq (p : Fin 6) (h : Hdr) (sub : Fin 40)
  /-- DRESP (R435). A received DRESP completes the offset and delay computation. -/
  | dresp (p : Fin 6) (h : Hdr) (t4 : DWord) (filt : Int)
  /-- CAP (R438). A received CAP frame sets the node's held budget. -/
  | cap (p : Fin 6) (h : Hdr) (w : Word) (cyc : Word)
  /-- DEMAND (R438). A received DEMAND frame updates a child's demand and floor. -/
  | demand (p : Fin 6) (h : Hdr) (d : Word) (f : Word)
  /-- CAP_CYCLE (R438). Every 5 µs of Herd Time a node allocates its budget, sends CAP and DEMAND frames and writes region caps. -/
  | capCycle
  /-- JOIN (R432). A JOIN frame is forwarded upward or checked at the root. -/
  | join (p : Fin 6) (h : Hdr) (node : Nat) (level : Nat) (parent : Nat) (root : Nat) (depth : Nat) (size : Nat) (ids : List Nat)
  /-- JOIN_RESP (R432). A JOIN_RESP accepts the node or refuses it, leaving it an island. -/
  | joinResp (p : Fin 6) (h : Hdr) (node : Nat) (res : Fin 5) (ofs : Nat)
  /-- LEAVE (R433). A LEAVE frame reaches the root and is held for 50 µs. -/
  | leave (p : Fin 6) (h : Hdr) (id : Nat) (parent : Nat)
  /-- MOVE (R444). A MOVE frame arrives at the new parent, which answers and forwards it. -/
  | move (p : Fin 6) (h : Hdr) (id : Nat) (depth : Nat) (parent : Option Nat)
  /-- MOVE_ACK (R444). A MOVE_ACK makes the standby uplink active. -/
  | moveAck (p : Fin 6) (h : Hdr) (res : Fin 3)
  /-- NAK (R428). A received NAK makes the sender resend from the frame after ACK. -/
  | nak (p : Fin 6) (h : Hdr)
  /-- CREDIT (R429). A received CREDIT frame returns buffer credits. -/
  | credit (p : Fin 6) (h : Hdr)
  /-- ALARM (R441). A received ALARM frame is forwarded upward or posted at the root. -/
  | alarm (p : Fin 6) (h : Hdr) (rec : BitVec 256)
  /-- FRAME_KEEPALIVE (R428). A port with nothing to send for 1 µs sends a CREDIT frame. -/
  | frameKeepalive (p : Fin 6)
  /-- PORT_LOSS (R444). A Herd port loses lock, frames or acknowledgement and is lost. -/
  | portLoss (p : Fin 6)
  /-- MOVE_RETRY (R444). An unanswered MOVE is resent after 5 µs, once. -/
  | moveRetry
  /-- LEAVE_HOLD_EXPIRE (R433). A held LEAVE expires without MOVE and the root removes the subtree. -/
  | leaveHoldExpire (id : Nat)
  /-- JOIN_RETRY (R432). A node whose join was refused tries again after 1 s. -/
  | joinRetry
  /-- ISLAND_HOLD_EXPIRE (R447). An island's budget hold time ends and it takes HERD_CAP_CFG.SAFE. -/
  | islandHoldExpire
  /-- HERD_TSET (R437). A write of HERD_TSET at the root sets Herd Time at the next 1 µs multiple, or is refused. -/
  | herdTset (v : DWord)
  /-- HERD_DEM_WRITE (R440). A host write of HERD_DEMr is accepted or refused under R440. -/
  | herdDemWrite (a : Reader) (r : Rgn) (v : Word)
  /-- LINK_ERR_CHECK (R449). Once per second a port with over 100 CRC errors raises HERD_LINK_ERR. -/
  | linkErrCheck (p : Fin 6)
  /-- PERST_ASSERT (R458). A PERST ball asserts and the port goes down with its state reset. -/
  | perstAssert (p : Fin 2)
  /-- PERST_DEASSERT (R453). A PERST ball deasserts and the port presents termination and trains. -/
  | perstDeassert (p : Fin 2)
  /-- HOT_RESET (R458). A hot reset takes the link down and resets configuration space. -/
  | hotReset (p : Fin 2)
  /-- LINK_DISABLE (R458). A link disable takes the link down and resets configuration space. -/
  | linkDisable (p : Fin 2)
  /-- FUNCTION_LEVEL_RESET (R458). An FLR resets configuration space with the link up. -/
  | functionLevelReset (p : Fin 2)
  /-- LINK_TRAINED (R454). A host port completes training as CXL or PCI Express. -/
  | linkTrained (p : Fin 2) (cxl : Bool) (rate : Fin 5) (width : Fin 3) (reversed : Bool) (polinv : Fin 16)
  /-- RETRAIN (R454). A write of 1 to HOST_p_CTRL.RETRAIN retrains the link within its limits. -/
  | retrain (a : Reader) (p : Fin 2)
  /-- D3HOT_ENTRY (R456). A port's function enters D3hot, acting as loss of Bus Master Enable for posting. -/
  | d3hotEntry (p : Fin 2)
  /-- HOST_UNCORR (R459). A port reports an uncorrectable error and raises HOST_UNCORR. -/
  | hostUncorr (p : Fin 2) (status : Word) (fatal : Bool)
  /-- CORR_STORM_CHECK (R459). Once per second a port with over 1,000 correctable errors raises HOST_CORR_STORM. -/
  | corrStormCheck (p : Fin 2) (n : Nat)
  /-- BAR0_READ (R460). A BAR0 memory read is served by shape, word by word or as a 64-bit pair. -/
  | bar0Read (p : Fin 2) (addr : Fin 33554432) (len : Fin 4097)
  /-- BAR0_WRITE (R460). A BAR0 memory write is performed by shape or dropped with PARTIAL or BAD_SIZE. -/
  | bar0Write (p : Fin 2) (addr : Fin 33554432) (bytes : List (Option (BitVec 8)))
  /-- READ (R468). Sideband command 0x10 reads a register. -/
  | read (addr : Word) (pec : Bool)
  /-- WRITE (R468). Sideband command 0x11 writes a register. -/
  | write (addr : Word) (v : Word) (pec : Bool)
  /-- READ_NEXT (R468). Sideband command 0x12 reads the next word. -/
  | readNext (pec : Bool)
  /-- STATUS_READ (R469). A sideband read transaction returns the data and status of the last command. -/
  | statusRead
  /-- ENEC (R466). I3C CCC ENEC enables target events. -/
  | enec (ev : Fin 16)
  /-- DISEC (R466). I3C CCC DISEC disables target events. -/
  | disec (ev : Fin 16)
  /-- RSTDAA (R466). I3C CCC RSTDAA resets the dynamic address. -/
  | rstdaa
  /-- ENTDAA (R466). I3C CCC ENTDAA assigns a dynamic address. -/
  | entdaa (da : Fin 128)
  /-- SETDASA (R466). I3C CCC SETDASA assigns a dynamic address from the static address. -/
  | setdasa (sa : Fin 128) (da : Fin 128)
  /-- SETNEWDA (R466). I3C CCC SETNEWDA changes the dynamic address. -/
  | setnewda (da : Fin 128)
  /-- GETPID (R466). I3C CCC GETPID returns the Provisional ID. -/
  | getpid
  /-- GETBCR (R466). I3C CCC GETBCR returns the BCR. -/
  | getbcr
  /-- GETDCR (R466). I3C CCC GETDCR returns the DCR. -/
  | getdcr
  /-- GETSTATUS (R466). I3C CCC GETSTATUS returns the target status. -/
  | getstatus
  /-- SETMWL (R466). I3C CCC SETMWL sets the maximum write length. -/
  | setmwl (n : Fin 65536)
  /-- SETMRL (R466). I3C CCC SETMRL sets the maximum read length. -/
  | setmrl (n : Fin 65536)
  /-- GETMWL (R466). I3C CCC GETMWL returns the maximum write length. -/
  | getmwl
  /-- GETMRL (R466). I3C CCC GETMRL returns the maximum read length. -/
  | getmrl
  /-- RSTACT (R466). I3C CCC RSTACT resets only the target. -/
  | rstact (act : Fin 256)
  /-- SMBUS_TIMEOUT (R467). An SMBus clock held low for 25 ms resets the target's bus interface. -/
  | smbusTimeout
  /-- BYPASS (R470). JTAG BYPASS instruction. -/
  | bypass
  /-- IDCODE (R470). JTAG IDCODE instruction. -/
  | idcode
  /-- SAMPLE_PRELOAD (R470). JTAG SAMPLE/PRELOAD instruction. -/
  | samplePreload (vals : List (Nat × Bool))
  /-- EXTEST (R471). JTAG EXTEST instruction, PGO balls only under BSCAN_PWM. -/
  | extest
  /-- CLAMP (R471). JTAG CLAMP instruction. -/
  | clamp
  /-- HIGHZ (R471). JTAG HIGHZ instruction. -/
  | highz
  /-- EXTEST_PULSE (R470). IEEE 1149.6 EXTEST_PULSE on host and Herd lanes. -/
  | extestPulse
  /-- EXTEST_TRAIN (R470). IEEE 1149.6 EXTEST_TRAIN on host and Herd lanes. -/
  | extestTrain
  /-- REGACC (R470). JTAG REGACC performs a register read or write at Update-DR. -/
  | regacc (dr : BitVec 66)
  /-- VTEST (R530). JTAG VTEST verifies an unlock to enter Vendor test, or acts as BYPASS. -/
  | vtest (dev : BitVec 128) (sig : Bool)
  /-- VTEST_UNLOCK_DONE (R530). Unlock verification ends and Vendor test is entered, blanking memories. -/
  | vtestUnlockDone
  /-- PIN_CONFIG_WRITE (R478). A write of PIN_Pxn_CFG or PIN_Pxn_ARG changes a pin's functions, refused for fabric-owned pins. -/
  | pinConfigWrite (a : Reader) (pin : Fin 192) (arg : Bool) (v : Word)
  /-- PIN_EVENT (R480). An edge on a pin-event line reaches its consumers and records its time and count. -/
  | pinEvent (pin : Fin 192) (level : Bool) (sub : Fin 40)
  /-- PIN_EVENT_SW (R480). A write of 1 to PIN_EVTk_CFG.SW pulses the line. -/
  | pinEventSw (a : Reader) (k : Fin 16)
  /-- WAKE_PIN (R482). A WAKE pin high for its debounce time signals the Sett's wake logic. -/
  | wakePin (pin : Fin 192)
  /-- SETT_MIRROR_APPLY (R68). A write to a SETT_ register takes effect in the Sett within two Sett cycles. -/
  | settMirrorApply
  /-- SETT_POWER_ON (R491). VDD_SETT enters range and the Sett runs from the RC oscillator in Dormant. -/
  | settPowerOn
  /-- POWER_UP (R493). A wake from Dormant drives supply enables and waits for supplies, PORST_N and REFCLK25. -/
  | powerUp
  /-- HERD_TIME_START (R434). Both timebase PLLs lock and Herd Time starts from 0. -/
  | herdTimeStart
  /-- CALIBRATION_END (R494). Calibrating ends and configured regions are released into Active or Degraded. -/
  | calibrationEnd (badRows : List (Fin 16 × Fin 16 × Fin 32))
  /-- DOZE (R502). SETT_CMD DOZE sets the Doze flag and sends DOZE_LP groups to low-power. -/
  | doze
  /-- ACTIVE (R502). SETT_CMD ACTIVE clears the Doze flag and returns groups to full rate. -/
  | active
  /-- FREEZE (R503). SETT_CMD FREEZE sends the scope's PGO balls to FRZ_LVL. -/
  | freeze (arg : Fin 65536)
  /-- TORPOR (R504). SETT_CMD TORPOR freezes the scope, clears LIVE and pauses procedures before stopping clocks. -/
  | torpor (arg : Fin 65536)
  /-- TORPOR_CLOCK_STOP (R504). After the last pause every fast clock and fabric branch of the scope stops and reads Held. -/
  | torporClockStop
  /-- THAW (R505). SETT_CMD THAW restarts the scope's clocks and ends freezes. -/
  | thaw (arg : Fin 65536)
  /-- READOUT (R506). SETT_CMD READOUT shifts the scan chains of a scope in Torpor once round. -/
  | readout (arg : Fin 65536)
  /-- READOUT_DONE (R506). The chains have shifted and RDO_DONE sets. -/
  | readoutDone
  /-- SAFE (R500). SETT_CMD SAFE enters Safe hold. -/
  | safe
  /-- SAFE_EXIT (R501). SETT_CMD SAFE_EXIT ends Safe hold, refused while a source is asserted. -/
  | safeExit
  /-- SAFE_AUTO_EXIT (R501). With SAFE_AUTO, no source asserted for SAFE_DWELL ends Safe hold. -/
  | safeAutoExit
  /-- DORMANT (R496). SETT_CMD DORMANT powers the package down to Dormant, or is refused. -/
  | dormant (guard : Fin 256)
  /-- DORMANT_COMPLETE (R496). The Sett has folded energy and logged, and holds the dies in reset with supplies disabled. -/
  | dormantComplete
  /-- RESET (R498). SETT_CMD RESET performs a package reset. -/
  | reset (guard : Fin 256)
  /-- RGN_RESET (R498). SETT_CMD RGN_RESET resets the regions of its mask, refused for a region in Torpor. -/
  | rgnReset (guard : Fin 256) (arg : Fin 65536)
  /-- EXPORT (R528). SETT_CMD EXPORT writes a signed export header. -/
  | exportCmd
  /-- LEDGER_SYNC (R522). SETT_CMD LEDGER_SYNC writes the ledger to the next flash sector. -/
  | ledgerSync
  /-- FREEZE_N_ASSERT (R503). FREEZE_N low freezes, or puts into Torpor, the regions of PIN_SCOPE. -/
  | freezeNAssert
  /-- FREEZE_N_RELEASE (R505). FREEZE_N release ends the freeze or Torpor of its scope. -/
  | freezeNRelease
  /-- POWER_ON_RESET (R498). PORST_N low for 1 µs resets the Hub, Field dies and unretained Sett registers. -/
  | powerOnReset
  /-- PACKAGE_RESET (R498). WRST_N low for 1 µs resets the Hub and both Field dies. -/
  | packageReset
  /-- REGION_RESET (R498). RGN_CTRL.RST resets one region's blocks, floating its PGO balls first. -/
  | regionReset (a : Reader) (r : Rgn)
  /-- REGION_RESET_RELEASE (R498). A reset region completes its R494 steps and is released after 12.1 ms. -/
  | regionResetRelease (r : Rgn) (badRows : List (Fin 16 × Fin 32))
  /-- SUPPLY_FAULT (R497). A monitored supply out of range for 1 µs forces Safe hold with source SUPPLY. -/
  | supplyFault (code : Fin 5)
  /-- SUPPLY_LOSS_DORMANT (R497). A supply still out of range 100 µs later puts the package in Dormant and logs SETT_SUPPLY. -/
  | supplyLossDormant
  /-- SUPPLY_RETURN (R497). Every supply back in range for 1 ms wakes the package when SUPPLY_EN is set. -/
  | supplyReturn
  /-- SETT_BROWN_OUT (R509). VDD_SETT falls below range and the Sett undergoes a brown-out reset. -/
  | settBrownOut (below : Bool)
  /-- BROWN_OUT_RECOVERY (R517). On recovery the Sett completes interrupted carries and sets ENERGY_VALID. -/
  | brownOutRecovery
  /-- HUB_HEARTBEAT_MISS (R500). The Sett misses the Hub's heartbeat in 4 consecutive cycles and forces Safe hold. -/
  | hubHeartbeatMiss
  /-- TIMER_WAKE (R510). SETT_RTC reaches SETT_WAKE_TIME with TIMER_EN and wakes the package. -/
  | timerWake
  /-- ENERGY_FOLD (R515). Every 4 Sett cycles each pending sum is folded into its accumulator cells. -/
  | energyFold
  /-- ENERGY_TELEMETRY (R518). Every PERIOD ms the Sett emits one record per enabled accumulator. -/
  | energyTelemetry
  /-- ACC_C0_READ (R516). A read of an accumulator's C0 latches C1 and C2 with pending carries added. -/
  | accC0Read (a : Reader) (n : Fin 128)
  /-- WEAR_SAMPLE (R519). Hourly the Sett samples wear sensors and updates each block's wear index. -/
  | wearSample (r : Rgn) (blk : Fin 64) (index : Nat) (unit : Fin 128)
  /-- LIFE_PROJECTION (R519). Daily the Sett projects the remaining life into SETT_LIFE. -/
  | lifeProjection (months : Fin 65536)
  /-- LEDGER_MIRROR (R521). The Sett mirrors the ledger to flash after a change or every 24 hours. -/
  | ledgerMirror
  /-- REPLACE_REPEAT (R526). Every 24 hours in Degraded the Sett raises REPLACE again. -/
  | replaceRepeat
  /-- HUB_MEMORY_SCRUB (R524). The hub-memory scrub reads every word each second and writes corrected words back. -/
  | hubMemoryScrub (row : Nat) (col : Nat) (word : Fin 2097152) (find : MemFind)
  /-- SURPRISE_DOWN (R459). A host link leaves link-up without PERST, hot reset or link disable, raising HOST_LINK_DOWN with cause surprise down and acting as failover trigger 0x1. -/
  | surpriseDown (p : Fin 2)
  /-- CONFIGURATION_REQUEST (R455). A host configuration write sets or clears Bus Master Enable, CXL.cache Enable, ATS Enable or returns the function to D0, changing whether the port can post. -/
  | configurationRequest (p : Fin 2) (bme : Bool) (cache : Bool) (ats : Bool) (d0 : Bool)
  /-- BAR2_REQUEST (R452). A host memory request to BAR2 reads or writes the MSI-X table or PBA, or completes with Unsupported Request outside them or with a PASID prefix. -/
  | bar2Request (p : Fin 2) (n : Fin 4096) (w : Option Word) (pasid : Bool)
  /-- FLOW_CONTROL_CREDIT (R6). The link partner grants posted-write or D2H request credits, letting waiting record and WP writes leave the posting port. -/
  | flowControlCredit (p : Fin 2) (n : Nat)
  /-- READ_COMPLETION (R397). The host answers a Translation Request, an RP read or the zero-length read of a failback, letting the waiting translation, stop-mode write or failback proceed or fail. -/
  | readCompletion (ans : Answer)
  /-- CRC_MISMATCH (R428). A Herd frame arrives with a CRC mismatch, an unexpected SEQ or an unlisted KIND, and it and every later frame are discarded and one NAK sent. -/
  | crcMismatch (p : Fin 6)
  /-- PORST_N_DEASSERT (R493). PORST_N goes high (or the last of the conditions of step 3 of R493 comes to hold), fixing t0, starting PLL lock and the xSPI reset pulse. -/
  | porstNDeassert
  /-- PWM_EDGE (R201). A channel's count reaches a rising or falling edge or the end of its LOWMAX low interval, changing the PGO level and opening a blanking window. -/
  | pwmEdge (r : Rgn) (c : Fin 16) (e : PwmEdge) (sub : Fin 120)
  /-- SETT_MIRROR_REFRESH (R68). Every Sett cycle the Sett refreshes the Hub's mirror of the SETT_ registers. -/
  | settMirrorRefresh
  /-- EXPORT_DONE (R528). The signed export header is written, START reads 0 and SETT_EVT.EXPORT_DONE sets, up to 20 ms after EXPORT. -/
  | exportDone (digest : BitVec 384) (sig : BitVec 768)
  deriving DecidableEq, Repr

end Sys2Proof
end

