-- ==== Sys2Proof/Config.lean ====
section
/-!
DEFINITION. What an implementation fixes and the spec leaves open: constants without a body, so that no proof can see a
value of them.
-/

namespace Sys2Proof

/-- The source of every value the spec leaves free: the n-th free value of a run (State.freeCtr counts them). -/
opaque Config.freeWord : Nat → BitVec 64

/-- How the region, the port and the PC of an OUT share bytes 8 to 11 of a spoor port's record (R268 names the three and gives
them no places). -/
opaque Config.outOrigin : Nat → Nat → Nat → BitVec 32

/-- How the output registers of a block memory's ports A and B share the 32 bits of FAB_CAP_DATA (R308, R309: the field's
table names the registers and gives them no places). -/
opaque Config.capBlock : BitVec 36 → BitVec 36 → BitVec 32

/-- The AES-256 image key that the PUF's key unwraps from OTP's wrapped one (R325: neither the PUF's key nor the wrapping is
in the spec). -/
opaque Config.unwrapKey : BitVec 256 → BitVec 256

/-- Which ROUTE frames of a region the two patch frames of a cluster's RELOC image replace, by region, cluster and patch
frame (R318 says that there are two and gives no INDEX). -/
opaque Config.patchIndex : Nat → Nat → Nat → Nat

/-- A data block of a Herd frame whose layout the spec does not give, by KIND, the values that it carries and the block's
number (R427 lists the values). -/
opaque Config.frameData : Nat → List Nat → Nat → BitVec 64

/-- The number of records that the buffer of a funnel hop holds, by hop (R380 speaks of a hop's buffer and no rule gives
its size). -/
opaque Config.hopDepth : Nat → Nat

/-- What PIN_INw shows for a pin whose input buffer is off (R475, R487 say that it is off and no rule what its bit reads). -/
opaque Config.offInput : Nat → Bool

end Sys2Proof
end

