-- ==== Sys2Proof/Machine/Fields.lean ====
section
/-!
DEFINITION. The registers and fields of the spec's register summaries and field tables, by name: the block that holds a
register, its offset (from its block's base; for a Hub or Sett register from the start of BAR0), the distance to the
next one of a numbered register, and a field's bits. Offsets: the register summaries of each chapter; R66 to R70.
-/

namespace Sys2Proof.Machine

/-- The register blocks of R67 to R69 (WC_ registers stand in the analogue cluster's window, QC_ in the fabric's). -/
inductive Blk where
  | hub | cfg | sec | spr | pmap | host | herd | pin | sett | ac | cg | pg | le | fab | rgn
  deriving DecidableEq, Repr

/-- A register or a numbered family of registers. -/
structure Reg where
  blk : Blk
  off : Nat
  stride : Nat
  deriving DecidableEq, Repr

/-- A field of a register. -/
structure Fld where
  reg : Reg
  hi : Nat
  lo : Nat
  deriving DecidableEq, Repr

/-- The address of register number n of a family, from its block's base. -/
def Reg.addr (r : Reg) (base n : Nat) : Nat := base + r.off + n * r.stride

/-! Registers of 02_analogue_fabric.md. -/

def R.AC_CTRL : Reg := ⟨.ac, 0x0, 0x0⟩
def R.AC_STATUS : Reg := ⟨.ac, 0x4, 0x0⟩
def R.AC_INJ_AIO : Reg := ⟨.ac, 0x8, 0x0⟩
def R.AC_INJ_FIN : Reg := ⟨.ac, 0xc, 0x0⟩
def R.AC_MIG : Reg := ⟨.ac, 0x10, 0x0⟩
def R.AC_MIG_STAT : Reg := ⟨.ac, 0x14, 0x0⟩
def R.AC_CELLn_CFG : Reg := ⟨.ac, 0x100, 0x20⟩
def R.AC_CELLn_FILT : Reg := ⟨.ac, 0x104, 0x20⟩
def R.AC_CELLn_AUX : Reg := ⟨.ac, 0x108, 0x20⟩
def R.AC_CELLn_ROUTE : Reg := ⟨.ac, 0x10c, 0x20⟩
def R.AC_CELLn_TRIM : Reg := ⟨.ac, 0x110, 0x20⟩
def R.AC_CELLn_STAT : Reg := ⟨.ac, 0x114, 0x20⟩
def R.AC_SPARE_STAT : Reg := ⟨.ac, 0x200, 0x0⟩
/-! Registers of 03_conversion.md. -/

def R.CG_CTRL : Reg := ⟨.cg, 0x0, 0x0⟩
def R.CG_STAT : Reg := ⟨.cg, 0x4, 0x0⟩
def R.CG_SCAN : Reg := ⟨.cg, 0x8, 0x0⟩
def R.CG_MASK : Reg := ⟨.cg, 0xc, 0x0⟩
def R.CG_RES_MASK : Reg := ⟨.cg, 0x10, 0x0⟩
def R.CG_URG : Reg := ⟨.cg, 0x14, 0x0⟩
def R.CG_URG_STAT : Reg := ⟨.cg, 0x18, 0x0⟩
def R.CG_EVT : Reg := ⟨.cg, 0x1c, 0x0⟩
def R.CG_RDSTAT : Reg := ⟨.cg, 0x20, 0x0⟩
def R.CG_CALDAC : Reg := ⟨.cg, 0x24, 0x0⟩
def R.CG_URGk_CFG : Reg := ⟨.cg, 0x28, 0x4⟩
def R.CG_RESULT : Reg := ⟨.cg, 0x40, 0x0⟩
def R.CG_TAPt_CFG : Reg := ⟨.cg, 0x80, 0x10⟩
def R.CG_TAPt_MASK : Reg := ⟨.cg, 0x84, 0x10⟩
def R.CG_TAPt_STAT : Reg := ⟨.cg, 0x88, 0x10⟩
def R.CG_CHc_CFG : Reg := ⟨.cg, 0x100, 0x8⟩
def R.CG_CHc_COR : Reg := ⟨.cg, 0x104, 0x8⟩
def R.CG_CALs : Reg := ⟨.cg, 0x200, 0x4⟩
def R.CG_CAL_STAT : Reg := ⟨.cg, 0x220, 0x0⟩
/-! Registers of 04_converter_integrity.md. -/

def R.CG_ROT_CTRL : Reg := ⟨.cg, 0x300, 0x0⟩
def R.CG_ROT_STAT : Reg := ⟨.cg, 0x304, 0x0⟩
def R.CG_ROT_CNT : Reg := ⟨.cg, 0x308, 0x0⟩
def R.CG_EST_STAT : Reg := ⟨.cg, 0x30c, 0x0⟩
def R.CG_INTEG_EVT : Reg := ⟨.cg, 0x310, 0x0⟩
def R.CG_HOLD_TIME : Reg := ⟨.cg, 0x314, 0x0⟩
def R.CG_SKEWs : Reg := ⟨.cg, 0x320, 0x4⟩
def R.CG_BWs : Reg := ⟨.cg, 0x340, 0x4⟩
def R.CG_SVCs : Reg := ⟨.cg, 0x360, 0x4⟩
/-! Registers of 05_window_comparators.md. -/

def R.WC_CTRL : Reg := ⟨.ac, 0x300, 0x0⟩
def R.WC_STATUS : Reg := ⟨.ac, 0x304, 0x0⟩
def R.WC_CHK : Reg := ⟨.ac, 0x308, 0x0⟩
def R.WC_CHK_STAT : Reg := ⟨.ac, 0x30c, 0x0⟩
def R.WC_SPARE_STAT : Reg := ⟨.ac, 0x310, 0x0⟩
def R.WC_CMPm_CFG : Reg := ⟨.ac, 0x400, 0x20⟩
def R.WC_CMPm_THR : Reg := ⟨.ac, 0x404, 0x20⟩
def R.WC_CMPm_TRIP : Reg := ⟨.ac, 0x408, 0x20⟩
def R.WC_CMPm_ROUTE : Reg := ⟨.ac, 0x40c, 0x20⟩
def R.WC_CMPm_TRIM : Reg := ⟨.ac, 0x410, 0x20⟩
def R.WC_CMPm_STAT : Reg := ⟨.ac, 0x414, 0x20⟩
def R.WC_CMPm_CNT : Reg := ⟨.ac, 0x418, 0x20⟩
/-! Registers of 06_pulse_generators.md. -/

def R.PG_CTRL : Reg := ⟨.pg, 0x0, 0x0⟩
def R.PG_STATUS : Reg := ⟨.pg, 0x4, 0x0⟩
def R.PG_EVT : Reg := ⟨.pg, 0x8, 0x0⟩
def R.PG_SUB : Reg := ⟨.pg, 0x10, 0x0⟩
def R.PG_SUB_STAT : Reg := ⟨.pg, 0x14, 0x0⟩
def R.PG_SPARE_STAT : Reg := ⟨.pg, 0x18, 0x0⟩
def R.PG_GRPg_CTRL : Reg := ⟨.pg, 0x100, 0x10⟩
def R.PG_GRPg_PER : Reg := ⟨.pg, 0x104, 0x10⟩
def R.PG_GRPg_APPLIED : Reg := ⟨.pg, 0x108, 0x10⟩
def R.PG_CHcc_CFG : Reg := ⟨.pg, 0x1000, 0x40⟩
def R.PG_CHcc_PHASE : Reg := ⟨.pg, 0x1004, 0x40⟩
def R.PG_CHcc_DUTY : Reg := ⟨.pg, 0x1008, 0x40⟩
def R.PG_CHcc_ON : Reg := ⟨.pg, 0x100c, 0x40⟩
def R.PG_CHcc_TRIG : Reg := ⟨.pg, 0x1010, 0x40⟩
def R.PG_CHcc_LOWMAX : Reg := ⟨.pg, 0x1014, 0x40⟩
def R.PG_CHcc_LIM : Reg := ⟨.pg, 0x1018, 0x40⟩
def R.PG_CHcc_TRIPCFG : Reg := ⟨.pg, 0x101c, 0x40⟩
def R.PG_CHcc_STATES : Reg := ⟨.pg, 0x1020, 0x40⟩
def R.PG_CHcc_STAT : Reg := ⟨.pg, 0x1024, 0x40⟩
def R.PG_CHcc_REL : Reg := ⟨.pg, 0x1028, 0x40⟩
def R.PG_CHcc_CNT : Reg := ⟨.pg, 0x102c, 0x40⟩
/-! Registers of 07_loop_engines.md. -/

def R.LE_CTRL : Reg := ⟨.le, 0x0, 0x0⟩
def R.LE_STAT : Reg := ⟨.le, 0x4, 0x0⟩
def R.LE_EVT : Reg := ⟨.le, 0x8, 0x0⟩
def R.LE_START : Reg := ⟨.le, 0xc, 0x0⟩
def R.LE_FAULT : Reg := ⟨.le, 0x10, 0x0⟩
def R.LE_VECBASE : Reg := ⟨.le, 0x14, 0x0⟩
def R.LE_EVEN : Reg := ⟨.le, 0x18, 0x0⟩
def R.LE_EVPEND : Reg := ⟨.le, 0x1c, 0x0⟩
def R.LE_WAIT_TMO : Reg := ⟨.le, 0x20, 0x0⟩
def R.LE_TIMER : Reg := ⟨.le, 0x24, 0x0⟩
def R.LE_CYCLES : Reg := ⟨.le, 0x28, 0x0⟩
def R.LE_SUB : Reg := ⟨.le, 0x30, 0x0⟩
def R.LE_SUB_STAT : Reg := ⟨.le, 0x34, 0x0⟩
def R.LE_SPARE_STAT : Reg := ⟨.le, 0x38, 0x0⟩
def R.LE_LANEMAP : Reg := ⟨.le, 0x3c, 0x0⟩
def R.LE_INp_CFG : Reg := ⟨.le, 0x100, 0x10⟩
def R.LE_INp_STAT : Reg := ⟨.le, 0x104, 0x10⟩
def R.LE_OUTp_CFG : Reg := ⟨.le, 0x180, 0x10⟩
def R.LE_OUTp_STAT : Reg := ⟨.le, 0x184, 0x10⟩
/-! Registers of 08_logic_fabric.md. -/

def R.FAB_CTRL : Reg := ⟨.fab, 0x0, 0x0⟩
def R.FAB_STAT : Reg := ⟨.fab, 0x4, 0x0⟩
def R.FAB_EVT : Reg := ⟨.fab, 0x8, 0x0⟩
def R.FAB_VMIN : Reg := ⟨.fab, 0xc, 0x0⟩
def R.FAB_RST : Reg := ⟨.fab, 0x14, 0x0⟩
def R.FAB_GCLKg : Reg := ⟨.fab, 0x20, 0x4⟩
def R.FAB_RCLKr : Reg := ⟨.fab, 0x60, 0x4⟩
def R.FAB_SPRp : Reg := ⟨.fab, 0x80, 0x4⟩
def R.FAB_CAP_CTRL : Reg := ⟨.fab, 0x100, 0x0⟩
def R.FAB_CAP_STAT : Reg := ⟨.fab, 0x104, 0x0⟩
def R.FAB_CAP_TIME : Reg := ⟨.fab, 0x108, 0x0⟩
def R.FAB_CAP_ADDR : Reg := ⟨.fab, 0x110, 0x0⟩
def R.FAB_CAP_DATA : Reg := ⟨.fab, 0x114, 0x0⟩
def R.FAB_RELOC : Reg := ⟨.fab, 0x120, 0x0⟩
def R.FAB_RELOC_STAT : Reg := ⟨.fab, 0x124, 0x0⟩
def R.FAB_SPARE_STAT : Reg := ⟨.fab, 0x128, 0x0⟩
def R.FAB_SPMAPs : Reg := ⟨.fab, 0x130, 0x4⟩
def R.FAB_BM_ADDR : Reg := ⟨.fab, 0x140, 0x0⟩
def R.FAB_BM_DATA : Reg := ⟨.fab, 0x144, 0x0⟩
def R.FAB_BMb_STAT : Reg := ⟨.fab, 0x200, 0x4⟩
def R.FAB_UREGn : Reg := ⟨.fab, 0x400, 0x4⟩
def R.FAB_UGRP0 : Reg := ⟨.fab, 0x500, 0x0⟩
def R.FAB_UGRP1 : Reg := ⟨.fab, 0x504, 0x0⟩
def R.QC_CFG : Reg := ⟨.fab, 0x10000, 0x40⟩
def R.QC_THR : Reg := ⟨.fab, 0x10004, 0x40⟩
def R.QC_STAT : Reg := ⟨.fab, 0x10008, 0x40⟩
def R.QC_EVT : Reg := ⟨.fab, 0x1000c, 0x40⟩
def R.QC_CNT : Reg := ⟨.fab, 0x10010, 0x40⟩
def R.QC_DATA : Reg := ⟨.fab, 0x10018, 0x40⟩
def R.QC_FLUSH : Reg := ⟨.fab, 0x10020, 0x40⟩
/-! Registers of 09_configuration.md. -/

def R.CFG_CTRL : Reg := ⟨.cfg, 0x10000, 0x0⟩
def R.CFG_STAT : Reg := ⟨.cfg, 0x10004, 0x0⟩
def R.CFG_EVT : Reg := ⟨.cfg, 0x10008, 0x0⟩
def R.CFG_IMAGE : Reg := ⟨.cfg, 0x1000c, 0x0⟩
def R.CFG_IMG_CRC : Reg := ⟨.cfg, 0x10010, 0x0⟩
def R.CFG_PR_CMD : Reg := ⟨.cfg, 0x10020, 0x0⟩
def R.CFG_PR_ADDR : Reg := ⟨.cfg, 0x10024, 0x0⟩
def R.CFG_HOST_ADDR : Reg := ⟨.cfg, 0x10028, 0x0⟩
def R.CFG_LEN : Reg := ⟨.cfg, 0x10030, 0x0⟩
def R.CFG_PR_STAT : Reg := ⟨.cfg, 0x10034, 0x0⟩
def R.CFG_FIFO : Reg := ⟨.cfg, 0x10040, 0x0⟩
def R.CFG_FIFO_STAT : Reg := ⟨.cfg, 0x10044, 0x0⟩
def R.CFG_SCRUB_CNT : Reg := ⟨.cfg, 0x10054, 0x0⟩
def R.CFG_SCRUB_LAST : Reg := ⟨.cfg, 0x10058, 0x0⟩
def R.CFG_FL_CMD : Reg := ⟨.cfg, 0x10060, 0x0⟩
def R.CFG_FL_ADDR : Reg := ⟨.cfg, 0x10064, 0x0⟩
def R.CFG_RELOC_ADDR : Reg := ⟨.cfg, 0x10070, 0x0⟩
def R.CFG_FL_BUF : Reg := ⟨.cfg, 0x10100, 0x4⟩
def R.SEC_STAT : Reg := ⟨.sec, 0x20000, 0x0⟩
def R.SEC_SLOTS : Reg := ⟨.sec, 0x20004, 0x0⟩
def R.SEC_EVT : Reg := ⟨.sec, 0x20008, 0x0⟩
def R.SEC_DEVIDi : Reg := ⟨.sec, 0x20010, 0x4⟩
def R.SEC_OTP_CMD : Reg := ⟨.sec, 0x20020, 0x0⟩
def R.SEC_OTP_STAT : Reg := ⟨.sec, 0x20024, 0x0⟩
def R.SEC_FENCE_ADDR : Reg := ⟨.sec, 0x20034, 0x0⟩
def R.SEC_FENCE_LEN : Reg := ⟨.sec, 0x2003c, 0x0⟩
def R.SEC_FENCE_CMD : Reg := ⟨.sec, 0x20040, 0x0⟩
/-! Registers of 10_spoor_and_delivery.md. -/

def R.SPR_CTRL : Reg := ⟨.spr, 0x30000, 0x0⟩
def R.SPR_STAT : Reg := ⟨.spr, 0x30004, 0x0⟩
def R.SPR_EVT : Reg := ⟨.spr, 0x30008, 0x0⟩
def R.SPR_CAP : Reg := ⟨.spr, 0x3000c, 0x0⟩
def R.SPR_USE_POOL : Reg := ⟨.spr, 0x30010, 0x0⟩
def R.SPR_USE_DIE0 : Reg := ⟨.spr, 0x30014, 0x0⟩
def R.SPR_USE_DIE1 : Reg := ⟨.spr, 0x30018, 0x0⟩
def R.SPR_USE_HOST : Reg := ⟨.spr, 0x3001c, 0x0⟩
def R.SPR_CMD : Reg := ⟨.spr, 0x30020, 0x0⟩
def R.SPR_CMD_STAT : Reg := ⟨.spr, 0x30024, 0x0⟩
def R.SPR_EVFLOW : Reg := ⟨.spr, 0x30028, 0x0⟩
def R.SPR_DESC0 : Reg := ⟨.spr, 0x30030, 0x0⟩
def R.SPR_DESC1 : Reg := ⟨.spr, 0x30034, 0x0⟩
def R.SPR_DESC2 : Reg := ⟨.spr, 0x30038, 0x0⟩
def R.SPR_FSTAT : Reg := ⟨.spr, 0x3003c, 0x0⟩
def R.SPR_FCNT0 : Reg := ⟨.spr, 0x30040, 0x0⟩
def R.SPR_FCNT1 : Reg := ⟨.spr, 0x30044, 0x0⟩
def R.SPR_LOSS_TRACE : Reg := ⟨.spr, 0x30050, 0x0⟩
def R.SPR_LOSS_BE : Reg := ⟨.spr, 0x30054, 0x0⟩
def R.SPR_ALARM_CNT : Reg := ⟨.spr, 0x30058, 0x0⟩
def R.SPR_ALARM_PEND : Reg := ⟨.spr, 0x3005c, 0x0⟩
def R.SPR_MISS_LAST : Reg := ⟨.spr, 0x30060, 0x0⟩
/-! Registers of 11_host_memory_posting.md. -/

def R.PMAP_CTRL : Reg := ⟨.pmap, 0x40000, 0x0⟩
def R.PMAP_STAT : Reg := ⟨.pmap, 0x40004, 0x0⟩
def R.PMAP_EVT : Reg := ⟨.pmap, 0x40008, 0x0⟩
def R.PMAP_AGE_LIMIT : Reg := ⟨.pmap, 0x4000c, 0x0⟩
def R.PMAP_ROOT_A : Reg := ⟨.pmap, 0x40010, 0x0⟩
def R.PMAP_ROOT_B : Reg := ⟨.pmap, 0x40018, 0x0⟩
def R.PMAP_CMD : Reg := ⟨.pmap, 0x40020, 0x0⟩
def R.PMAP_CMD_STAT : Reg := ⟨.pmap, 0x40024, 0x0⟩
def R.PMAP_FO_CFG : Reg := ⟨.pmap, 0x40028, 0x0⟩
def R.PMAP_FLT_INFO : Reg := ⟨.pmap, 0x40030, 0x0⟩
def R.PMAP_FLT_ADDR : Reg := ⟨.pmap, 0x40038, 0x0⟩
def R.PMAP_FLT_TIME : Reg := ⟨.pmap, 0x40040, 0x0⟩
def R.PMAP_WALKS : Reg := ⟨.pmap, 0x40044, 0x0⟩
def R.PMAP_WALK_MAX : Reg := ⟨.pmap, 0x40048, 0x0⟩
def R.PMAP_FSEL : Reg := ⟨.pmap, 0x40050, 0x0⟩
def R.PMAP_FINFO : Reg := ⟨.pmap, 0x40054, 0x0⟩
def R.PMAP_FWP : Reg := ⟨.pmap, 0x40058, 0x0⟩
def R.PMAP_SUSPw : Reg := ⟨.pmap, 0x40100, 0x4⟩
def R.PMAP_FENCEw_BASE : Reg := ⟨.pmap, 0x40400, 0x10⟩
def R.PMAP_FENCEw_LIMIT : Reg := ⟨.pmap, 0x40408, 0x10⟩
/-! Registers of 12_herd.md. -/

def R.HERD_CTRL : Reg := ⟨.herd, 0x60000, 0x0⟩
def R.HERD_STAT : Reg := ⟨.herd, 0x60004, 0x0⟩
def R.HERD_EVT : Reg := ⟨.herd, 0x60008, 0x0⟩
def R.HERD_NODE : Reg := ⟨.herd, 0x6000c, 0x0⟩
def R.HERD_TOPO : Reg := ⟨.herd, 0x60010, 0x0⟩
def R.HERD_COUNT : Reg := ⟨.herd, 0x60014, 0x0⟩
def R.HERD_OFS : Reg := ⟨.herd, 0x60018, 0x0⟩
def R.HERD_TIME : Reg := ⟨.herd, 0x60020, 0x0⟩
def R.HERD_TSET : Reg := ⟨.herd, 0x60028, 0x0⟩
def R.HERD_CAP_ROOT : Reg := ⟨.herd, 0x60040, 0x0⟩
def R.HERD_CAP : Reg := ⟨.herd, 0x60044, 0x0⟩
def R.HERD_DEMAND : Reg := ⟨.herd, 0x60048, 0x0⟩
def R.HERD_CAP_CFG : Reg := ⟨.herd, 0x6004c, 0x0⟩
def R.HERD_DEM_SRC : Reg := ⟨.herd, 0x60050, 0x0⟩
def R.HERD_DEMr : Reg := ⟨.herd, 0x60080, 0x4⟩
def R.HERD_Pp_STAT : Reg := ⟨.herd, 0x60100, 0x20⟩
def R.HERD_Pp_CNT : Reg := ⟨.herd, 0x60104, 0x20⟩
def R.HERD_Pp_ASYM : Reg := ⟨.herd, 0x60108, 0x20⟩
/-! Registers of 13_host_interfaces_and_pins.md. -/

def R.HUB_ID : Reg := ⟨.hub, 0x0, 0x0⟩
def R.HUB_IRQ_STAT : Reg := ⟨.hub, 0x4, 0x0⟩
def R.HUB_IRQ_EN : Reg := ⟨.hub, 0x8, 0x0⟩
def R.HUB_IRQ_CFG : Reg := ⟨.hub, 0xc, 0x0⟩
def R.HOST_p_CTRL : Reg := ⟨.host, 0x50000, 0x100⟩
def R.HOST_p_STAT : Reg := ⟨.host, 0x50004, 0x100⟩
def R.HOST_p_EVT : Reg := ⟨.host, 0x50008, 0x100⟩
def R.HOST_p_ERRCNT : Reg := ⟨.host, 0x5000c, 0x100⟩
def R.HOST_SB_CFG : Reg := ⟨.host, 0x50200, 0x0⟩
def R.HOST_SB_STAT : Reg := ⟨.host, 0x50204, 0x0⟩
def R.PIN_CTRL : Reg := ⟨.pin, 0x70000, 0x0⟩
def R.PIN_STAT : Reg := ⟨.pin, 0x70004, 0x0⟩
def R.PIN_EVT : Reg := ⟨.pin, 0x70008, 0x0⟩
def R.PIN_CFLT_LAST : Reg := ⟨.pin, 0x7000c, 0x0⟩
def R.PIN_INw : Reg := ⟨.pin, 0x70020, 0x4⟩
def R.PIN_OUTw : Reg := ⟨.pin, 0x70040, 0x4⟩
def R.PIN_OSETw : Reg := ⟨.pin, 0x70060, 0x4⟩
def R.PIN_OCLRw : Reg := ⟨.pin, 0x70080, 0x4⟩
def R.PIN_EVTk_CFG : Reg := ⟨.pin, 0x70100, 0x8⟩
def R.PIN_EVTk_TIME : Reg := ⟨.pin, 0x70104, 0x8⟩
def R.PIN_Pxn_CFG : Reg := ⟨.pin, 0x71000, 0x8⟩
def R.PIN_Pxn_ARG : Reg := ⟨.pin, 0x71004, 0x8⟩
/-! Registers of 14_modes_and_sett.md. -/

def R.SETT_MODE : Reg := ⟨.sett, 0x100000, 0x0⟩
def R.SETT_CMD : Reg := ⟨.sett, 0x100004, 0x0⟩
def R.SETT_CMD_STAT : Reg := ⟨.sett, 0x100008, 0x0⟩
def R.SETT_CTRL : Reg := ⟨.sett, 0x10000c, 0x0⟩
def R.SETT_EVT : Reg := ⟨.sett, 0x100010, 0x0⟩
def R.SETT_SAFE : Reg := ⟨.sett, 0x100014, 0x0⟩
def R.SETT_WAKE : Reg := ⟨.sett, 0x100018, 0x0⟩
def R.SETT_WAKE_TIME : Reg := ⟨.sett, 0x10001c, 0x0⟩
def R.SETT_RTC : Reg := ⟨.sett, 0x100020, 0x0⟩
def R.SETT_PWRk : Reg := ⟨.sett, 0x100030, 0x4⟩
def R.SETT_LIFE : Reg := ⟨.sett, 0x100040, 0x0⟩
def R.SETT_HOURS : Reg := ⟨.sett, 0x100044, 0x0⟩
def R.SETT_THR : Reg := ⟨.sett, 0x100048, 0x0⟩
def R.SETT_DEGR : Reg := ⟨.sett, 0x10004c, 0x0⟩
def R.SETT_LOG_WP : Reg := ⟨.sett, 0x100050, 0x0⟩
def R.SETT_ACC_CTRL : Reg := ⟨.sett, 0x100060, 0x0⟩
def R.SETT_ACC_STAT : Reg := ⟨.sett, 0x100064, 0x0⟩
def R.SETT_SPAREk : Reg := ⟨.sett, 0x100080, 0x4⟩
def R.SETT_ACCn_C0 : Reg := ⟨.sett, 0x101000, 0x10⟩
def R.SETT_ACCn_C1 : Reg := ⟨.sett, 0x101004, 0x10⟩
def R.SETT_ACCn_C2 : Reg := ⟨.sett, 0x101008, 0x10⟩
def R.SETT_ACCn_CFG : Reg := ⟨.sett, 0x10100c, 0x10⟩
def R.RGN_CTRL : Reg := ⟨.rgn, 0x0, 0x0⟩
def R.RGN_STAT : Reg := ⟨.rgn, 0x4, 0x0⟩
def R.RGN_EVT : Reg := ⟨.rgn, 0x8, 0x0⟩
def R.RGN_VF : Reg := ⟨.rgn, 0xc, 0x0⟩
def R.RGN_REJ : Reg := ⟨.rgn, 0x10, 0x0⟩
def R.RGN_TEMP : Reg := ⟨.rgn, 0x14, 0x0⟩
def R.RGN_CAP : Reg := ⟨.rgn, 0x18, 0x0⟩
def R.RGN_RDO_ADDR : Reg := ⟨.rgn, 0x20, 0x0⟩
def R.RGN_RDO_DATA : Reg := ⟨.rgn, 0x24, 0x0⟩

def F.AC_CTRL_LOCK : Fld := ⟨R.AC_CTRL, 31, 31⟩
def F.AC_CTRL_SC_DIV : Fld := ⟨R.AC_CTRL, 27, 16⟩
def F.AC_CTRL_AUTO_MIG : Fld := ⟨R.AC_CTRL, 0, 0⟩
def F.AC_STATUS_REJ_CNT : Fld := ⟨R.AC_STATUS, 15, 8⟩
def F.AC_STATUS_REF_FAULT : Fld := ⟨R.AC_STATUS, 3, 3⟩
def F.AC_STATUS_CLIP_ANY : Fld := ⟨R.AC_STATUS, 2, 2⟩
def F.AC_STATUS_BUS_CONFLICT : Fld := ⟨R.AC_STATUS, 1, 1⟩
def F.AC_STATUS_REJECT : Fld := ⟨R.AC_STATUS, 0, 0⟩
def F.AC_INJ_AIO_AIO : Fld := ⟨R.AC_INJ_AIO, 31, 0⟩
def F.AC_INJ_FIN_FIN : Fld := ⟨R.AC_INJ_FIN, 7, 0⟩
def F.AC_MIG_CELL : Fld := ⟨R.AC_MIG, 3, 1⟩
def F.AC_MIG_START : Fld := ⟨R.AC_MIG, 0, 0⟩
def F.AC_MIG_STAT_OFS_RES : Fld := ⟨R.AC_MIG_STAT, 31, 24⟩
def F.AC_MIG_STAT_CAUSE : Fld := ⟨R.AC_MIG_STAT, 11, 8⟩
def F.AC_MIG_STAT_STATE : Fld := ⟨R.AC_MIG_STAT, 6, 4⟩
def F.AC_MIG_STAT_RESULT : Fld := ⟨R.AC_MIG_STAT, 1, 0⟩
def F.AC_CELLn_CFG_VOCM : Fld := ⟨R.AC_CELLn_CFG, 23, 22⟩
def F.AC_CELLn_CFG_POL : Fld := ⟨R.AC_CELLn_CFG, 21, 21⟩
def F.AC_CELLn_CFG_GAIN : Fld := ⟨R.AC_CELLn_CFG, 17, 12⟩
def F.AC_CELLn_CFG_MODE : Fld := ⟨R.AC_CELLn_CFG, 10, 8⟩
def F.AC_CELLn_CFG_FUNC : Fld := ⟨R.AC_CELLn_CFG, 6, 4⟩
def F.AC_CELLn_FILT_TYPE : Fld := ⟨R.AC_CELLn_FILT, 22, 21⟩
def F.AC_CELLn_FILT_Q : Fld := ⟨R.AC_CELLn_FILT, 20, 16⟩
def F.AC_CELLn_FILT_F0 : Fld := ⟨R.AC_CELLn_FILT, 10, 0⟩
def F.AC_CELLn_AUX_TRIG_SEL : Fld := ⟨R.AC_CELLn_AUX, 28, 24⟩
def F.AC_CELLn_AUX_HOLD_T : Fld := ⟨R.AC_CELLn_AUX, 23, 12⟩
def F.AC_CELLn_AUX_RT : Fld := ⟨R.AC_CELLn_AUX, 3, 0⟩
def F.AC_CELLn_ROUTE_BALL_EN : Fld := ⟨R.AC_CELLn_ROUTE, 29, 29⟩
def F.AC_CELLn_ROUTE_BALL : Fld := ⟨R.AC_CELLn_ROUTE, 28, 24⟩
def F.AC_CELLn_ROUTE_NBR_EN : Fld := ⟨R.AC_CELLn_ROUTE, 23, 23⟩
def F.AC_CELLn_ROUTE_NBR_SEL : Fld := ⟨R.AC_CELLn_ROUTE, 22, 20⟩
def F.AC_CELLn_ROUTE_BUS_EN : Fld := ⟨R.AC_CELLn_ROUTE, 19, 19⟩
def F.AC_CELLn_ROUTE_BUS_SEL : Fld := ⟨R.AC_CELLn_ROUTE, 18, 16⟩
def F.AC_CELLn_ROUTE_INN : Fld := ⟨R.AC_CELLn_ROUTE, 13, 8⟩
def F.AC_CELLn_ROUTE_INP : Fld := ⟨R.AC_CELLn_ROUTE, 5, 0⟩
def F.AC_CELLn_TRIM_GAIN_TRIM : Fld := ⟨R.AC_CELLn_TRIM, 15, 8⟩
def F.AC_CELLn_TRIM_OFS_TRIM : Fld := ⟨R.AC_CELLn_TRIM, 7, 0⟩
def F.AC_CELLn_STAT_PHYS : Fld := ⟨R.AC_CELLn_STAT, 7, 4⟩
def F.AC_CELLn_STAT_CLIP : Fld := ⟨R.AC_CELLn_STAT, 1, 1⟩
def F.AC_CELLn_STAT_ACTIVE : Fld := ⟨R.AC_CELLn_STAT, 0, 0⟩
def F.AC_SPARE_STAT_FAILED : Fld := ⟨R.AC_SPARE_STAT, 1, 1⟩
def F.AC_SPARE_STAT_FREE : Fld := ⟨R.AC_SPARE_STAT, 0, 0⟩
def F.CG_CTRL_LOCK : Fld := ⟨R.CG_CTRL, 31, 31⟩
def F.CG_CTRL_CAL : Fld := ⟨R.CG_CTRL, 8, 8⟩
def F.CG_CTRL_LIVE : Fld := ⟨R.CG_CTRL, 4, 4⟩
def F.CG_CTRL_MODE : Fld := ⟨R.CG_CTRL, 1, 0⟩
def F.CG_STAT_REJ_CNT : Fld := ⟨R.CG_STAT, 15, 8⟩
def F.CG_STAT_CAL_VALID : Fld := ⟨R.CG_STAT, 4, 4⟩
def F.CG_STAT_STATE : Fld := ⟨R.CG_STAT, 2, 0⟩
def F.CG_SCAN_TRIG_SRC : Fld := ⟨R.CG_SCAN, 21, 16⟩
def F.CG_SCAN_GO : Fld := ⟨R.CG_SCAN, 8, 8⟩
def F.CG_SCAN_SMODE : Fld := ⟨R.CG_SCAN, 1, 0⟩
def F.CG_MASK_MASK : Fld := ⟨R.CG_MASK, 31, 0⟩
def F.CG_RES_MASK_MASK : Fld := ⟨R.CG_RES_MASK, 31, 0⟩
def F.CG_URG_CH : Fld := ⟨R.CG_URG, 4, 0⟩
def F.CG_URG_STAT_LOST : Fld := ⟨R.CG_URG_STAT, 31, 16⟩
def F.CG_URG_STAT_DEPTH : Fld := ⟨R.CG_URG_STAT, 2, 0⟩
def F.CG_EVT_TRIG_MISS : Fld := ⟨R.CG_EVT, 8, 8⟩
def F.CG_EVT_TAP_DROP : Fld := ⟨R.CG_EVT, 7, 7⟩
def F.CG_EVT_URG_LOST : Fld := ⟨R.CG_EVT, 6, 6⟩
def F.CG_EVT_CAL_FAIL : Fld := ⟨R.CG_EVT, 5, 5⟩
def F.CG_EVT_CAL_DONE : Fld := ⟨R.CG_EVT, 4, 4⟩
def F.CG_EVT_INJ_SETTLE : Fld := ⟨R.CG_EVT, 3, 3⟩
def F.CG_EVT_SETTLE_SEEN : Fld := ⟨R.CG_EVT, 2, 2⟩
def F.CG_EVT_OVR_SEEN : Fld := ⟨R.CG_EVT, 1, 1⟩
def F.CG_EVT_REJECT : Fld := ⟨R.CG_EVT, 0, 0⟩
def F.CG_RDSTAT_PENDING : Fld := ⟨R.CG_RDSTAT, 2, 2⟩
def F.CG_RDSTAT_HELD_LAST : Fld := ⟨R.CG_RDSTAT, 1, 1⟩
def F.CG_RDSTAT_OVRN_PEND : Fld := ⟨R.CG_RDSTAT, 0, 0⟩
def F.CG_CALDAC_CODE : Fld := ⟨R.CG_CALDAC, 13, 0⟩
def F.CG_URGk_CFG_EN : Fld := ⟨R.CG_URGk_CFG, 31, 31⟩
def F.CG_URGk_CFG_SRC : Fld := ⟨R.CG_URGk_CFG, 13, 8⟩
def F.CG_URGk_CFG_CH : Fld := ⟨R.CG_URGk_CFG, 4, 0⟩
def F.CG_RESULT_CODE : Fld := ⟨R.CG_RESULT, 31, 16⟩
def F.CG_RESULT_CHAN : Fld := ⟨R.CG_RESULT, 15, 11⟩
def F.CG_RESULT_OVR : Fld := ⟨R.CG_RESULT, 10, 10⟩
def F.CG_RESULT_SETTLE : Fld := ⟨R.CG_RESULT, 9, 9⟩
def F.CG_RESULT_URG : Fld := ⟨R.CG_RESULT, 8, 8⟩
def F.CG_RESULT_OVRN : Fld := ⟨R.CG_RESULT, 7, 7⟩
def F.CG_RESULT_HELD : Fld := ⟨R.CG_RESULT, 6, 6⟩
def F.CG_RESULT_SEQ : Fld := ⟨R.CG_RESULT, 5, 0⟩
def F.CG_TAPt_CFG_EN : Fld := ⟨R.CG_TAPt_CFG, 31, 31⟩
def F.CG_TAPt_CFG_DEST : Fld := ⟨R.CG_TAPt_CFG, 30, 29⟩
def F.CG_TAPt_CFG_RGN : Fld := ⟨R.CG_TAPt_CFG, 27, 24⟩
def F.CG_TAPt_CFG_PORT : Fld := ⟨R.CG_TAPt_CFG, 23, 20⟩
def F.CG_TAPt_CFG_DECIM : Fld := ⟨R.CG_TAPt_CFG, 19, 12⟩
def F.CG_TAPt_CFG_FLOW : Fld := ⟨R.CG_TAPt_CFG, 11, 0⟩
def F.CG_TAPt_MASK_MASK : Fld := ⟨R.CG_TAPt_MASK, 31, 0⟩
def F.CG_TAPt_STAT_DROP : Fld := ⟨R.CG_TAPt_STAT, 31, 16⟩
def F.CG_TAPt_STAT_FILL : Fld := ⟨R.CG_TAPt_STAT, 3, 0⟩
def F.CG_CHc_CFG_SRC : Fld := ⟨R.CG_CHc_CFG, 23, 16⟩
def F.CG_CHc_CFG_AVG : Fld := ⟨R.CG_CHc_CFG, 10, 8⟩
def F.CG_CHc_CFG_DISCARD : Fld := ⟨R.CG_CHc_CFG, 2, 0⟩
def F.CG_CHc_COR_OFS : Fld := ⟨R.CG_CHc_COR, 31, 18⟩
def F.CG_CHc_COR_GAIN : Fld := ⟨R.CG_CHc_COR, 17, 0⟩
def F.CG_CALs_GAIN : Fld := ⟨R.CG_CALs, 27, 16⟩
def F.CG_CALs_OFS : Fld := ⟨R.CG_CALs, 11, 0⟩
def F.CG_CAL_STAT_TEMP : Fld := ⟨R.CG_CAL_STAT, 31, 16⟩
def F.CG_CAL_STAT_SLICE_FAIL : Fld := ⟨R.CG_CAL_STAT, 12, 8⟩
def F.CG_CAL_STAT_CAL_CNT : Fld := ⟨R.CG_CAL_STAT, 7, 0⟩
def F.CG_ROT_CTRL_DITHER : Fld := ⟨R.CG_ROT_CTRL, 17, 16⟩
def F.CG_ROT_CTRL_EST_FREEZE : Fld := ⟨R.CG_ROT_CTRL, 8, 8⟩
def F.CG_ROT_CTRL_ROT_HOLD : Fld := ⟨R.CG_ROT_CTRL, 4, 4⟩
def F.CG_ROT_STAT_POS : Fld := ⟨R.CG_ROT_STAT, 27, 16⟩
def F.CG_ROT_STAT_SVC : Fld := ⟨R.CG_ROT_STAT, 14, 12⟩
def F.CG_ROT_STAT_PHASE : Fld := ⟨R.CG_ROT_STAT, 11, 10⟩
def F.CG_ROT_STAT_STALE : Fld := ⟨R.CG_ROT_STAT, 2, 2⟩
def F.CG_ROT_STAT_DEGRADED : Fld := ⟨R.CG_ROT_STAT, 1, 1⟩
def F.CG_ROT_CNT_HANDOVERS : Fld := ⟨R.CG_ROT_CNT, 31, 0⟩
def F.CG_EST_STAT_HOLD_BLK : Fld := ⟨R.CG_EST_STAT, 31, 16⟩
def F.CG_EST_STAT_EXC : Fld := ⟨R.CG_EST_STAT, 15, 8⟩
def F.CG_EST_STAT_USABLE_RUN : Fld := ⟨R.CG_EST_STAT, 7, 1⟩
def F.CG_EST_STAT_SKEW_HOLD : Fld := ⟨R.CG_EST_STAT, 0, 0⟩
def F.CG_INTEG_EVT_TEST_REJ : Fld := ⟨R.CG_INTEG_EVT, 5, 5⟩
def F.CG_INTEG_EVT_DITHER_CLIP : Fld := ⟨R.CG_INTEG_EVT, 4, 4⟩
def F.CG_INTEG_EVT_SHADOW_FAIL : Fld := ⟨R.CG_INTEG_EVT, 3, 3⟩
def F.CG_INTEG_EVT_SLICE_RETIRED : Fld := ⟨R.CG_INTEG_EVT, 2, 2⟩
def F.CG_INTEG_EVT_DEGRADED : Fld := ⟨R.CG_INTEG_EVT, 1, 1⟩
def F.CG_INTEG_EVT_HOLD_SET : Fld := ⟨R.CG_INTEG_EVT, 0, 0⟩
def F.CG_HOLD_TIME_MS : Fld := ⟨R.CG_HOLD_TIME, 31, 0⟩
def F.CG_SKEWs_TC : Fld := ⟨R.CG_SKEWs, 27, 16⟩
def F.CG_SKEWs_TRIM : Fld := ⟨R.CG_SKEWs, 11, 0⟩
def F.CG_BWs_BW : Fld := ⟨R.CG_BWs, 15, 0⟩
def F.CG_SVCs_TEMP : Fld := ⟨R.CG_SVCs, 31, 16⟩
def F.CG_SVCs_COUNT : Fld := ⟨R.CG_SVCs, 15, 0⟩
def F.WC_CTRL_LOCK : Fld := ⟨R.WC_CTRL, 31, 31⟩
def F.WC_CTRL_AUTO_SUB : Fld := ⟨R.WC_CTRL, 8, 8⟩
def F.WC_CTRL_CHK_PERIOD : Fld := ⟨R.WC_CTRL, 7, 0⟩
def F.WC_STATUS_REJ_CNT : Fld := ⟨R.WC_STATUS, 15, 8⟩
def F.WC_STATUS_CHK_FAIL : Fld := ⟨R.WC_STATUS, 2, 2⟩
def F.WC_STATUS_SAFE_REQ : Fld := ⟨R.WC_STATUS, 1, 1⟩
def F.WC_STATUS_REJECT : Fld := ⟨R.WC_STATUS, 0, 0⟩
def F.WC_CHK_SUB : Fld := ⟨R.WC_CHK, 2, 2⟩
def F.WC_CHK_CMP : Fld := ⟨R.WC_CHK, 1, 1⟩
def F.WC_CHK_START : Fld := ⟨R.WC_CHK, 0, 0⟩
def F.WC_CHK_STAT_SKIPS : Fld := ⟨R.WC_CHK_STAT, 31, 24⟩
def F.WC_CHK_STAT_CAUSE : Fld := ⟨R.WC_CHK_STAT, 11, 8⟩
def F.WC_CHK_STAT_STATE : Fld := ⟨R.WC_CHK_STAT, 6, 4⟩
def F.WC_CHK_STAT_RESULT : Fld := ⟨R.WC_CHK_STAT, 1, 0⟩
def F.WC_SPARE_STAT_SHADOW : Fld := ⟨R.WC_SPARE_STAT, 3, 2⟩
def F.WC_SPARE_STAT_FAILED : Fld := ⟨R.WC_SPARE_STAT, 1, 1⟩
def F.WC_SPARE_STAT_FREE : Fld := ⟨R.WC_SPARE_STAT, 0, 0⟩
def F.WC_CMPm_CFG_INP : Fld := ⟨R.WC_CMPm_CFG, 29, 24⟩
def F.WC_CMPm_CFG_HYST : Fld := ⟨R.WC_CMPm_CFG, 22, 20⟩
def F.WC_CMPm_CFG_COND : Fld := ⟨R.WC_CMPm_CFG, 17, 16⟩
def F.WC_CMPm_CFG_MODE : Fld := ⟨R.WC_CMPm_CFG, 10, 8⟩
def F.WC_CMPm_CFG_LATCH : Fld := ⟨R.WC_CMPm_CFG, 5, 4⟩
def F.WC_CMPm_CFG_CLR_CH : Fld := ⟨R.WC_CMPm_CFG, 3, 0⟩
def F.WC_CMPm_THR_HI : Fld := ⟨R.WC_CMPm_THR, 27, 16⟩
def F.WC_CMPm_THR_LO : Fld := ⟨R.WC_CMPm_THR, 11, 0⟩
def F.WC_CMPm_TRIP_TRIPB : Fld := ⟨R.WC_CMPm_TRIP, 31, 16⟩
def F.WC_CMPm_TRIP_TRIPA : Fld := ⟨R.WC_CMPm_TRIP, 15, 0⟩
def F.WC_CMPm_ROUTE_BLANK : Fld := ⟨R.WC_CMPm_ROUTE, 31, 24⟩
def F.WC_CMPm_ROUTE_BLANK_CH : Fld := ⟨R.WC_CMPm_ROUTE, 23, 20⟩
def F.WC_CMPm_ROUTE_DTL_EN : Fld := ⟨R.WC_CMPm_ROUTE, 15, 15⟩
def F.WC_CMPm_ROUTE_DTL_SEL : Fld := ⟨R.WC_CMPm_ROUTE, 14, 12⟩
def F.WC_CMPm_ROUTE_SAFE_EN : Fld := ⟨R.WC_CMPm_ROUTE, 8, 8⟩
def F.WC_CMPm_ROUTE_REC_EN : Fld := ⟨R.WC_CMPm_ROUTE, 4, 4⟩
def F.WC_CMPm_ROUTE_EVT_EN : Fld := ⟨R.WC_CMPm_ROUTE, 2, 2⟩
def F.WC_CMPm_ROUTE_WAKE_EN : Fld := ⟨R.WC_CMPm_ROUTE, 0, 0⟩
def F.WC_CMPm_TRIM_OFS_HI : Fld := ⟨R.WC_CMPm_TRIM, 15, 8⟩
def F.WC_CMPm_TRIM_OFS_LO : Fld := ⟨R.WC_CMPm_TRIM, 7, 0⟩
def F.WC_CMPm_STAT_PHYS : Fld := ⟨R.WC_CMPm_STAT, 7, 4⟩
def F.WC_CMPm_STAT_RAW : Fld := ⟨R.WC_CMPm_STAT, 2, 2⟩
def F.WC_CMPm_STAT_LATCHED : Fld := ⟨R.WC_CMPm_STAT, 1, 1⟩
def F.WC_CMPm_STAT_ACTIVE : Fld := ⟨R.WC_CMPm_STAT, 0, 0⟩
def F.WC_CMPm_CNT_SETS : Fld := ⟨R.WC_CMPm_CNT, 31, 16⟩
def F.PG_CTRL_LOCK : Fld := ⟨R.PG_CTRL, 31, 31⟩
def F.PG_CTRL_AUTO_SUB : Fld := ⟨R.PG_CTRL, 8, 8⟩
def F.PG_STATUS_REJ_CNT : Fld := ⟨R.PG_STATUS, 15, 8⟩
def F.PG_STATUS_FREEZE : Fld := ⟨R.PG_STATUS, 4, 4⟩
def F.PG_STATUS_SAFE_HOLD : Fld := ⟨R.PG_STATUS, 3, 3⟩
def F.PG_STATUS_REJECT : Fld := ⟨R.PG_STATUS, 0, 0⟩
def F.PG_EVT_SUB_FAIL : Fld := ⟨R.PG_EVT, 6, 6⟩
def F.PG_EVT_WDOG : Fld := ⟨R.PG_EVT, 5, 5⟩
def F.PG_EVT_RAILSAFE : Fld := ⟨R.PG_EVT, 4, 4⟩
def F.PG_EVT_LATCHOFF : Fld := ⟨R.PG_EVT, 3, 3⟩
def F.PG_EVT_LATE : Fld := ⟨R.PG_EVT, 2, 2⟩
def F.PG_EVT_CBC : Fld := ⟨R.PG_EVT, 1, 1⟩
def F.PG_SUB_CH : Fld := ⟨R.PG_SUB, 4, 1⟩
def F.PG_SUB_START : Fld := ⟨R.PG_SUB, 0, 0⟩
def F.PG_SUB_STAT_CAUSE : Fld := ⟨R.PG_SUB_STAT, 11, 8⟩
def F.PG_SUB_STAT_STATE : Fld := ⟨R.PG_SUB_STAT, 6, 4⟩
def F.PG_SUB_STAT_RESULT : Fld := ⟨R.PG_SUB_STAT, 1, 0⟩
def F.PG_SPARE_STAT_FAILED : Fld := ⟨R.PG_SPARE_STAT, 1, 1⟩
def F.PG_SPARE_STAT_FREE : Fld := ⟨R.PG_SPARE_STAT, 0, 0⟩
def F.PG_GRPg_CTRL_EN : Fld := ⟨R.PG_GRPg_CTRL, 31, 31⟩
def F.PG_GRPg_CTRL_MEMBERS : Fld := ⟨R.PG_GRPg_CTRL, 7, 0⟩
def F.PG_GRPg_PER_PER : Fld := ⟨R.PG_GRPg_PER, 19, 0⟩
def F.PG_GRPg_APPLIED_PER : Fld := ⟨R.PG_GRPg_APPLIED, 19, 0⟩
def F.PG_CHcc_CFG_WDOG : Fld := ⟨R.PG_CHcc_CFG, 31, 24⟩
def F.PG_CHcc_CFG_GRP_IDX : Fld := ⟨R.PG_CHcc_CFG, 23, 20⟩
def F.PG_CHcc_CFG_GRP_RGN : Fld := ⟨R.PG_CHcc_CFG, 19, 16⟩
def F.PG_CHcc_CFG_SRC_PORT : Fld := ⟨R.PG_CHcc_CFG, 14, 12⟩
def F.PG_CHcc_CFG_SRC_RGN : Fld := ⟨R.PG_CHcc_CFG, 11, 8⟩
def F.PG_CHcc_CFG_DSRC : Fld := ⟨R.PG_CHcc_CFG, 5, 4⟩
def F.PG_CHcc_CFG_ALIGN : Fld := ⟨R.PG_CHcc_CFG, 3, 2⟩
def F.PG_CHcc_CFG_LEVELS : Fld := ⟨R.PG_CHcc_CFG, 1, 1⟩
def F.PG_CHcc_CFG_EN : Fld := ⟨R.PG_CHcc_CFG, 0, 0⟩
def F.PG_CHcc_PHASE_PHASE : Fld := ⟨R.PG_CHcc_PHASE, 15, 0⟩
def F.PG_CHcc_DUTY_SKIP : Fld := ⟨R.PG_CHcc_DUTY, 20, 20⟩
def F.PG_CHcc_DUTY_ON : Fld := ⟨R.PG_CHcc_DUTY, 19, 0⟩
def F.PG_CHcc_ON_ON : Fld := ⟨R.PG_CHcc_ON, 19, 0⟩
def F.PG_CHcc_TRIG_TRIG : Fld := ⟨R.PG_CHcc_TRIG, 19, 0⟩
def F.PG_CHcc_LOWMAX_LOWMAX : Fld := ⟨R.PG_CHcc_LOWMAX, 19, 0⟩
def F.PG_CHcc_LIM_MIN_OFF : Fld := ⟨R.PG_CHcc_LIM, 25, 16⟩
def F.PG_CHcc_LIM_MIN_ON : Fld := ⟨R.PG_CHcc_LIM, 9, 0⟩
def F.PG_CHcc_TRIPCFG_B_DTL_EN : Fld := ⟨R.PG_CHcc_TRIPCFG, 23, 23⟩
def F.PG_CHcc_TRIPCFG_B_DTL_SEL : Fld := ⟨R.PG_CHcc_TRIPCFG, 22, 20⟩
def F.PG_CHcc_TRIPCFG_A_DTL_EN : Fld := ⟨R.PG_CHcc_TRIPCFG, 19, 19⟩
def F.PG_CHcc_TRIPCFG_A_DTL_SEL : Fld := ⟨R.PG_CHcc_TRIPCFG, 18, 16⟩
def F.PG_CHcc_TRIPCFG_B_LVL : Fld := ⟨R.PG_CHcc_TRIPCFG, 11, 10⟩
def F.PG_CHcc_TRIPCFG_B_RESP : Fld := ⟨R.PG_CHcc_TRIPCFG, 9, 8⟩
def F.PG_CHcc_TRIPCFG_A_LVL : Fld := ⟨R.PG_CHcc_TRIPCFG, 3, 2⟩
def F.PG_CHcc_TRIPCFG_A_RESP : Fld := ⟨R.PG_CHcc_TRIPCFG, 1, 0⟩
def F.PG_CHcc_STATES_IDLE_LVL : Fld := ⟨R.PG_CHcc_STATES, 9, 8⟩
def F.PG_CHcc_STATES_FRZ_LVL : Fld := ⟨R.PG_CHcc_STATES, 5, 4⟩
def F.PG_CHcc_STATES_SAFE_LVL : Fld := ⟨R.PG_CHcc_STATES, 1, 0⟩
def F.PG_CHcc_STAT_PHYS : Fld := ⟨R.PG_CHcc_STAT, 28, 24⟩
def F.PG_CHcc_STAT_CAUSE : Fld := ⟨R.PG_CHcc_STAT, 13, 12⟩
def F.PG_CHcc_STAT_TRIPB : Fld := ⟨R.PG_CHcc_STAT, 9, 9⟩
def F.PG_CHcc_STAT_TRIPA : Fld := ⟨R.PG_CHcc_STAT, 8, 8⟩
def F.PG_CHcc_STAT_STATE : Fld := ⟨R.PG_CHcc_STAT, 2, 0⟩
def F.PG_CHcc_REL_REL : Fld := ⟨R.PG_CHcc_REL, 0, 0⟩
def F.PG_CHcc_CNT_CBC : Fld := ⟨R.PG_CHcc_CNT, 31, 16⟩
def F.PG_CHcc_CNT_LATE : Fld := ⟨R.PG_CHcc_CNT, 15, 0⟩
def F.LE_CTRL_LOCK : Fld := ⟨R.LE_CTRL, 31, 31⟩
def F.LE_CTRL_VIEW : Fld := ⟨R.LE_CTRL, 9, 9⟩
def F.LE_CTRL_AUTO_SUB : Fld := ⟨R.LE_CTRL, 8, 8⟩
def F.LE_CTRL_LIVE : Fld := ⟨R.LE_CTRL, 4, 4⟩
def F.LE_CTRL_ERST : Fld := ⟨R.LE_CTRL, 2, 2⟩
def F.LE_CTRL_STEP : Fld := ⟨R.LE_CTRL, 1, 1⟩
def F.LE_CTRL_RUN : Fld := ⟨R.LE_CTRL, 0, 0⟩
def F.LE_STAT_REJ_CNT : Fld := ⟨R.LE_STAT, 31, 24⟩
def F.LE_STAT_LDEPTH : Fld := ⟨R.LE_STAT, 18, 16⟩
def F.LE_STAT_STATE : Fld := ⟨R.LE_STAT, 14, 12⟩
def F.LE_STAT_RDEPTH : Fld := ⟨R.LE_STAT, 11, 8⟩
def F.LE_EVT_SUB_FAIL : Fld := ⟨R.LE_EVT, 7, 7⟩
def F.LE_EVT_HOST_LOST : Fld := ⟨R.LE_EVT, 6, 6⟩
def F.LE_EVT_OUT_DROP : Fld := ⟨R.LE_EVT, 5, 5⟩
def F.LE_EVT_STALE : Fld := ⟨R.LE_EVT, 4, 4⟩
def F.LE_EVT_WAIT_TMO : Fld := ⟨R.LE_EVT, 3, 3⟩
def F.LE_EVT_HALTED : Fld := ⟨R.LE_EVT, 2, 2⟩
def F.LE_EVT_FAULT : Fld := ⟨R.LE_EVT, 1, 1⟩
def F.LE_EVT_REJECT : Fld := ⟨R.LE_EVT, 0, 0⟩
def F.LE_START_ADDR : Fld := ⟨R.LE_START, 12, 0⟩
def F.LE_FAULT_CAUSE : Fld := ⟨R.LE_FAULT, 19, 16⟩
def F.LE_FAULT_FPC : Fld := ⟨R.LE_FAULT, 12, 0⟩
def F.LE_VECBASE_BASE : Fld := ⟨R.LE_VECBASE, 12, 0⟩
def F.LE_EVEN_EN : Fld := ⟨R.LE_EVEN, 31, 0⟩
def F.LE_EVPEND_PEND : Fld := ⟨R.LE_EVPEND, 31, 0⟩
def F.LE_WAIT_TMO_CYC : Fld := ⟨R.LE_WAIT_TMO, 15, 0⟩
def F.LE_TIMER_PERIOD : Fld := ⟨R.LE_TIMER, 23, 0⟩
def F.LE_CYCLES_COUNT : Fld := ⟨R.LE_CYCLES, 31, 0⟩
def F.LE_SUB_LANE : Fld := ⟨R.LE_SUB, 2, 1⟩
def F.LE_SUB_START : Fld := ⟨R.LE_SUB, 0, 0⟩
def F.LE_SUB_STAT_CAUSE : Fld := ⟨R.LE_SUB_STAT, 11, 8⟩
def F.LE_SUB_STAT_STATE : Fld := ⟨R.LE_SUB_STAT, 6, 4⟩
def F.LE_SUB_STAT_RESULT : Fld := ⟨R.LE_SUB_STAT, 1, 0⟩
def F.LE_SPARE_STAT_FAILED : Fld := ⟨R.LE_SPARE_STAT, 1, 1⟩
def F.LE_SPARE_STAT_FREE : Fld := ⟨R.LE_SPARE_STAT, 0, 0⟩
def F.LE_LANEMAP_MAP : Fld := ⟨R.LE_LANEMAP, 11, 0⟩
def F.LE_INp_CFG_AEV : Fld := ⟨R.LE_INp_CFG, 31, 31⟩
def F.LE_INp_CFG_QEN : Fld := ⟨R.LE_INp_CFG, 30, 30⟩
def F.LE_INp_CFG_MODE : Fld := ⟨R.LE_INp_CFG, 29, 29⟩
def F.LE_INp_STAT_STALE : Fld := ⟨R.LE_INp_STAT, 31, 16⟩
def F.LE_INp_STAT_OVW : Fld := ⟨R.LE_INp_STAT, 15, 8⟩
def F.LE_INp_STAT_FILL : Fld := ⟨R.LE_INp_STAT, 2, 0⟩
def F.LE_OUTp_CFG_DEST : Fld := ⟨R.LE_OUTp_CFG, 31, 30⟩
def F.LE_OUTp_CFG_RGN : Fld := ⟨R.LE_OUTp_CFG, 29, 26⟩
def F.LE_OUTp_CFG_PORT : Fld := ⟨R.LE_OUTp_CFG, 25, 22⟩
def F.LE_OUTp_CFG_HRGN_A : Fld := ⟨R.LE_OUTp_CFG, 21, 18⟩
def F.LE_OUTp_CFG_HRGN_B : Fld := ⟨R.LE_OUTp_CFG, 17, 14⟩
def F.LE_OUTp_CFG_CLASS : Fld := ⟨R.LE_OUTp_CFG, 12, 12⟩
def F.LE_OUTp_CFG_FLOW : Fld := ⟨R.LE_OUTp_CFG, 11, 0⟩
def F.LE_OUTp_STAT_DROP : Fld := ⟨R.LE_OUTp_STAT, 31, 16⟩
def F.FAB_CTRL_LOCK : Fld := ⟨R.FAB_CTRL, 31, 31⟩
def F.FAB_CTRL_AUTO_RELOC : Fld := ⟨R.FAB_CTRL, 8, 8⟩
def F.FAB_STAT_REJ_CNT : Fld := ⟨R.FAB_STAT, 15, 8⟩
def F.FAB_EVT_HOST_LOST : Fld := ⟨R.FAB_EVT, 5, 5⟩
def F.FAB_EVT_CAP_DONE : Fld := ⟨R.FAB_EVT, 4, 4⟩
def F.FAB_EVT_RELOC_FAIL : Fld := ⟨R.FAB_EVT, 3, 3⟩
def F.FAB_EVT_ROW_REPAIR : Fld := ⟨R.FAB_EVT, 2, 2⟩
def F.FAB_EVT_PARITY : Fld := ⟨R.FAB_EVT, 1, 1⟩
def F.FAB_EVT_REJECT : Fld := ⟨R.FAB_EVT, 0, 0⟩
def F.FAB_VMIN_VMIN : Fld := ⟨R.FAB_VMIN, 3, 0⟩
def F.FAB_RST_PULSE : Fld := ⟨R.FAB_RST, 7, 0⟩
def F.FAB_GCLKg_SRC : Fld := ⟨R.FAB_GCLKg, 31, 30⟩
def F.FAB_GCLKg_SRC_RGN : Fld := ⟨R.FAB_GCLKg, 29, 26⟩
def F.FAB_GCLKg_DIV : Fld := ⟨R.FAB_GCLKg, 7, 0⟩
def F.FAB_RCLKr_EN : Fld := ⟨R.FAB_RCLKr, 31, 31⟩
def F.FAB_RCLKr_SRC : Fld := ⟨R.FAB_RCLKr, 30, 29⟩
def F.FAB_RCLKr_GSEL : Fld := ⟨R.FAB_RCLKr, 28, 25⟩
def F.FAB_RCLKr_DIV : Fld := ⟨R.FAB_RCLKr, 3, 0⟩
def F.FAB_SPRp_EN : Fld := ⟨R.FAB_SPRp, 31, 31⟩
def F.FAB_SPRp_CLASS : Fld := ⟨R.FAB_SPRp, 13, 12⟩
def F.FAB_SPRp_FLOW : Fld := ⟨R.FAB_SPRp, 11, 0⟩
def F.FAB_CAP_CTRL_GMASK : Fld := ⟨R.FAB_CAP_CTRL, 31, 16⟩
def F.FAB_CAP_CTRL_RMASK : Fld := ⟨R.FAB_CAP_CTRL, 15, 8⟩
def F.FAB_CAP_CTRL_TRIG : Fld := ⟨R.FAB_CAP_CTRL, 7, 2⟩
def F.FAB_CAP_CTRL_ABORT : Fld := ⟨R.FAB_CAP_CTRL, 1, 1⟩
def F.FAB_CAP_CTRL_START : Fld := ⟨R.FAB_CAP_CTRL, 0, 0⟩
def F.FAB_CAP_STAT_CAP_CNT : Fld := ⟨R.FAB_CAP_STAT, 15, 8⟩
def F.FAB_CAP_STAT_STATE : Fld := ⟨R.FAB_CAP_STAT, 1, 0⟩
def F.FAB_CAP_ADDR_CLUSTER : Fld := ⟨R.FAB_CAP_ADDR, 6, 0⟩
def F.FAB_CAP_DATA_FF : Fld := ⟨R.FAB_CAP_DATA, 31, 0⟩
def F.FAB_RELOC_KIND : Fld := ⟨R.FAB_RELOC, 8, 8⟩
def F.FAB_RELOC_TARGET : Fld := ⟨R.FAB_RELOC, 7, 1⟩
def F.FAB_RELOC_START : Fld := ⟨R.FAB_RELOC, 0, 0⟩
def F.FAB_RELOC_STAT_CAUSE : Fld := ⟨R.FAB_RELOC_STAT, 11, 8⟩
def F.FAB_RELOC_STAT_STATE : Fld := ⟨R.FAB_RELOC_STAT, 6, 4⟩
def F.FAB_RELOC_STAT_RESULT : Fld := ⟨R.FAB_RELOC_STAT, 1, 0⟩
def F.FAB_SPARE_STAT_BM_FAILED : Fld := ⟨R.FAB_SPARE_STAT, 9, 9⟩
def F.FAB_SPARE_STAT_BM_FREE : Fld := ⟨R.FAB_SPARE_STAT, 8, 8⟩
def F.FAB_SPARE_STAT_FAILED : Fld := ⟨R.FAB_SPARE_STAT, 7, 4⟩
def F.FAB_SPARE_STAT_FREE : Fld := ⟨R.FAB_SPARE_STAT, 3, 0⟩
def F.FAB_SPMAPs_USED : Fld := ⟨R.FAB_SPMAPs, 7, 7⟩
def F.FAB_SPMAPs_CLUSTER : Fld := ⟨R.FAB_SPMAPs, 6, 0⟩
def F.FAB_BM_ADDR_BLK : Fld := ⟨R.FAB_BM_ADDR, 28, 24⟩
def F.FAB_BM_ADDR_WORD : Fld := ⟨R.FAB_BM_ADDR, 9, 0⟩
def F.FAB_BMb_STAT_PHYS : Fld := ⟨R.FAB_BMb_STAT, 20, 16⟩
def F.FAB_BMb_STAT_PAR_CNT : Fld := ⟨R.FAB_BMb_STAT, 15, 8⟩
def F.FAB_BMb_STAT_ROWS_FREE : Fld := ⟨R.FAB_BMb_STAT, 1, 0⟩
def F.FAB_UREGn_VALUE : Fld := ⟨R.FAB_UREGn, 31, 0⟩
def F.FAB_UGRP0_START : Fld := ⟨R.FAB_UGRP0, 31, 0⟩
def F.FAB_UGRP1_START : Fld := ⟨R.FAB_UGRP1, 31, 0⟩
def F.QC_CFG_EN : Fld := ⟨R.QC_CFG, 31, 31⟩
def F.QC_CFG_MODE : Fld := ⟨R.QC_CFG, 29, 28⟩
def F.QC_CFG_WIDTH : Fld := ⟨R.QC_CFG, 27, 26⟩
def F.QC_CFG_WSRC : Fld := ⟨R.QC_CFG, 25, 24⟩
def F.QC_CFG_RSNK : Fld := ⟨R.QC_CFG, 23, 22⟩
def F.QC_CFG_RRGN : Fld := ⟨R.QC_CFG, 21, 18⟩
def F.QC_CFG_RPORT : Fld := ⟨R.QC_CFG, 17, 15⟩
def F.QC_CFG_WCLK : Fld := ⟨R.QC_CFG, 14, 10⟩
def F.QC_CFG_RCLK : Fld := ⟨R.QC_CFG, 9, 5⟩
def F.QC_THR_AF : Fld := ⟨R.QC_THR, 27, 16⟩
def F.QC_THR_AE : Fld := ⟨R.QC_THR, 11, 0⟩
def F.QC_STAT_EMPTY : Fld := ⟨R.QC_STAT, 19, 19⟩
def F.QC_STAT_FULL : Fld := ⟨R.QC_STAT, 18, 18⟩
def F.QC_STAT_AE : Fld := ⟨R.QC_STAT, 17, 17⟩
def F.QC_STAT_AF : Fld := ⟨R.QC_STAT, 16, 16⟩
def F.QC_STAT_LEVEL : Fld := ⟨R.QC_STAT, 12, 0⟩
def F.QC_EVT_PKT_ABORT : Fld := ⟨R.QC_EVT, 3, 3⟩
def F.QC_EVT_PKT_DROP : Fld := ⟨R.QC_EVT, 2, 2⟩
def F.QC_EVT_UNF : Fld := ⟨R.QC_EVT, 1, 1⟩
def F.QC_EVT_OVF : Fld := ⟨R.QC_EVT, 0, 0⟩
def F.QC_CNT_OVF : Fld := ⟨R.QC_CNT, 31, 16⟩
def F.QC_CNT_UNF : Fld := ⟨R.QC_CNT, 15, 8⟩
def F.QC_CNT_DROP : Fld := ⟨R.QC_CNT, 7, 0⟩
def F.QC_FLUSH_FLUSH : Fld := ⟨R.QC_FLUSH, 0, 0⟩
def F.CFG_CTRL_LOCK : Fld := ⟨R.CFG_CTRL, 31, 31⟩
def F.CFG_CTRL_SCRUB_EN : Fld := ⟨R.CFG_CTRL, 16, 16⟩
def F.CFG_CTRL_SCRUB_INT : Fld := ⟨R.CFG_CTRL, 11, 8⟩
def F.CFG_STAT_STATE : Fld := ⟨R.CFG_STAT, 31, 28⟩
def F.CFG_STAT_SOURCE : Fld := ⟨R.CFG_STAT, 27, 24⟩
def F.CFG_STAT_ATTEMPT : Fld := ⟨R.CFG_STAT, 23, 21⟩
def F.CFG_STAT_CAUSE : Fld := ⟨R.CFG_STAT, 12, 8⟩
def F.CFG_STAT_FLASH_MODE : Fld := ⟨R.CFG_STAT, 3, 2⟩
def F.CFG_STAT_CFG_ERR : Fld := ⟨R.CFG_STAT, 1, 1⟩
def F.CFG_STAT_CFG_DONE : Fld := ⟨R.CFG_STAT, 0, 0⟩
def F.CFG_EVT_RELOAD_FAIL : Fld := ⟨R.CFG_EVT, 6, 6⟩
def F.CFG_EVT_UNCORR : Fld := ⟨R.CFG_EVT, 5, 5⟩
def F.CFG_EVT_CORR : Fld := ⟨R.CFG_EVT, 4, 4⟩
def F.CFG_EVT_PR_DONE : Fld := ⟨R.CFG_EVT, 3, 3⟩
def F.CFG_EVT_PR_FAIL : Fld := ⟨R.CFG_EVT, 2, 2⟩
def F.CFG_EVT_FALLBACK : Fld := ⟨R.CFG_EVT, 1, 1⟩
def F.CFG_EVT_REJECT : Fld := ⟨R.CFG_EVT, 0, 0⟩
def F.CFG_IMAGE_SVN : Fld := ⟨R.CFG_IMAGE, 31, 24⟩
def F.CFG_IMAGE_KEY_SLOT : Fld := ⟨R.CFG_IMAGE, 19, 18⟩
def F.CFG_IMAGE_ENC : Fld := ⟨R.CFG_IMAGE, 17, 17⟩
def F.CFG_IMAGE_FENCE_MASK : Fld := ⟨R.CFG_IMAGE, 15, 0⟩
def F.CFG_IMG_CRC_CRC : Fld := ⟨R.CFG_IMG_CRC, 31, 0⟩
def F.CFG_PR_CMD_SRC : Fld := ⟨R.CFG_PR_CMD, 17, 16⟩
def F.CFG_PR_CMD_START : Fld := ⟨R.CFG_PR_CMD, 0, 0⟩
def F.CFG_PR_ADDR_CS : Fld := ⟨R.CFG_PR_ADDR, 31, 31⟩
def F.CFG_PR_ADDR_ADDR : Fld := ⟨R.CFG_PR_ADDR, 30, 0⟩
def F.CFG_LEN_LEN : Fld := ⟨R.CFG_LEN, 31, 0⟩
def F.CFG_PR_STAT_CAUSE : Fld := ⟨R.CFG_PR_STAT, 12, 8⟩
def F.CFG_PR_STAT_STATE : Fld := ⟨R.CFG_PR_STAT, 6, 4⟩
def F.CFG_PR_STAT_RESULT : Fld := ⟨R.CFG_PR_STAT, 1, 0⟩
def F.CFG_FIFO_DATA : Fld := ⟨R.CFG_FIFO, 31, 0⟩
def F.CFG_FIFO_STAT_OVF : Fld := ⟨R.CFG_FIFO_STAT, 16, 16⟩
def F.CFG_FIFO_STAT_FREE : Fld := ⟨R.CFG_FIFO_STAT, 10, 0⟩
def F.CFG_SCRUB_CNT_CORR : Fld := ⟨R.CFG_SCRUB_CNT, 31, 16⟩
def F.CFG_SCRUB_CNT_UNCORR : Fld := ⟨R.CFG_SCRUB_CNT, 15, 0⟩
def F.CFG_SCRUB_LAST_ADDR : Fld := ⟨R.CFG_SCRUB_LAST, 31, 0⟩
def F.CFG_FL_CMD_START : Fld := ⟨R.CFG_FL_CMD, 31, 31⟩
def F.CFG_FL_CMD_OP : Fld := ⟨R.CFG_FL_CMD, 17, 16⟩
def F.CFG_FL_CMD_CAUSE : Fld := ⟨R.CFG_FL_CMD, 15, 12⟩
def F.CFG_FL_CMD_RESULT : Fld := ⟨R.CFG_FL_CMD, 11, 10⟩
def F.CFG_FL_CMD_WORDS : Fld := ⟨R.CFG_FL_CMD, 5, 0⟩
def F.CFG_FL_ADDR_CS : Fld := ⟨R.CFG_FL_ADDR, 31, 31⟩
def F.CFG_FL_ADDR_ADDR : Fld := ⟨R.CFG_FL_ADDR, 30, 0⟩
def F.CFG_FL_BUF_DATA : Fld := ⟨R.CFG_FL_BUF, 31, 0⟩
def F.CFG_RELOC_ADDR_V : Fld := ⟨R.CFG_RELOC_ADDR, 0, 0⟩
def F.SEC_STAT_VTEST_DIS : Fld := ⟨R.SEC_STAT, 31, 31⟩
def F.SEC_STAT_CONSENT : Fld := ⟨R.SEC_STAT, 30, 30⟩
def F.SEC_STAT_ENC_REQ : Fld := ⟨R.SEC_STAT, 29, 29⟩
def F.SEC_STAT_PUF_OK : Fld := ⟨R.SEC_STAT, 28, 28⟩
def F.SEC_STAT_ROLLBACK : Fld := ⟨R.SEC_STAT, 6, 0⟩
def F.SEC_SLOTS_SLOTS : Fld := ⟨R.SEC_SLOTS, 15, 0⟩
def F.SEC_EVT_OTP_DONE : Fld := ⟨R.SEC_EVT, 2, 2⟩
def F.SEC_EVT_AUTH_FAIL : Fld := ⟨R.SEC_EVT, 1, 1⟩
def F.SEC_EVT_REJECT : Fld := ⟨R.SEC_EVT, 0, 0⟩
def F.SEC_DEVIDi_ID : Fld := ⟨R.SEC_DEVIDi, 31, 0⟩
def F.SEC_OTP_CMD_START : Fld := ⟨R.SEC_OTP_CMD, 31, 31⟩
def F.SEC_OTP_CMD_VALUE : Fld := ⟨R.SEC_OTP_CMD, 23, 16⟩
def F.SEC_OTP_CMD_GUARD : Fld := ⟨R.SEC_OTP_CMD, 15, 8⟩
def F.SEC_OTP_CMD_OP : Fld := ⟨R.SEC_OTP_CMD, 3, 0⟩
def F.SEC_OTP_STAT_CAUSE : Fld := ⟨R.SEC_OTP_STAT, 11, 8⟩
def F.SEC_OTP_STAT_RESULT : Fld := ⟨R.SEC_OTP_STAT, 1, 0⟩
def F.SEC_FENCE_LEN_LEN : Fld := ⟨R.SEC_FENCE_LEN, 31, 0⟩
def F.SEC_FENCE_CMD_START : Fld := ⟨R.SEC_FENCE_CMD, 0, 0⟩
def F.SPR_CTRL_LOCK : Fld := ⟨R.SPR_CTRL, 31, 31⟩
def F.SPR_CTRL_TRACE_EN : Fld := ⟨R.SPR_CTRL, 0, 0⟩
def F.SPR_STAT_ACCEPTED : Fld := ⟨R.SPR_STAT, 28, 16⟩
def F.SPR_STAT_STALL : Fld := ⟨R.SPR_STAT, 2, 2⟩
def F.SPR_STAT_RERUN : Fld := ⟨R.SPR_STAT, 1, 1⟩
def F.SPR_EVT_BE_DROP : Fld := ⟨R.SPR_EVT, 5, 5⟩
def F.SPR_EVT_TRACE_DROP : Fld := ⟨R.SPR_EVT, 4, 4⟩
def F.SPR_EVT_MISS : Fld := ⟨R.SPR_EVT, 3, 3⟩
def F.SPR_EVT_SHED : Fld := ⟨R.SPR_EVT, 2, 2⟩
def F.SPR_EVT_REFUSED : Fld := ⟨R.SPR_EVT, 1, 1⟩
def F.SPR_EVT_REJECT : Fld := ⟨R.SPR_EVT, 0, 0⟩
def F.SPR_CAP_C : Fld := ⟨R.SPR_CAP, 31, 16⟩
def F.SPR_CAP_LIMIT : Fld := ⟨R.SPR_CAP, 15, 0⟩
def F.SPR_USE_POOL_Q : Fld := ⟨R.SPR_USE_POOL, 18, 0⟩
def F.SPR_USE_DIE0_RATE : Fld := ⟨R.SPR_USE_DIE0, 23, 0⟩
def F.SPR_USE_DIE1_RATE : Fld := ⟨R.SPR_USE_DIE1, 23, 0⟩
def F.SPR_USE_HOST_RATE : Fld := ⟨R.SPR_USE_HOST, 23, 0⟩
def F.SPR_CMD_START : Fld := ⟨R.SPR_CMD, 31, 31⟩
def F.SPR_CMD_FLOW : Fld := ⟨R.SPR_CMD, 27, 16⟩
def F.SPR_CMD_OP : Fld := ⟨R.SPR_CMD, 3, 0⟩
def F.SPR_CMD_STAT_CAUSE : Fld := ⟨R.SPR_CMD_STAT, 11, 8⟩
def F.SPR_CMD_STAT_RESULT : Fld := ⟨R.SPR_CMD_STAT, 1, 0⟩
def F.SPR_EVFLOW_FLOW : Fld := ⟨R.SPR_EVFLOW, 11, 0⟩
def F.SPR_DESC0_GUAR : Fld := ⟨R.SPR_DESC0, 31, 31⟩
def F.SPR_DESC0_PRIO : Fld := ⟨R.SPR_DESC0, 30, 28⟩
def F.SPR_DESC0_CLASS : Fld := ⟨R.SPR_DESC0, 27, 26⟩
def F.SPR_DESC0_DIE : Fld := ⟨R.SPR_DESC0, 25, 24⟩
def F.SPR_DESC0_RATE : Fld := ⟨R.SPR_DESC0, 23, 0⟩
def F.SPR_DESC1_BURST : Fld := ⟨R.SPR_DESC1, 31, 16⟩
def F.SPR_DESC1_HOLD : Fld := ⟨R.SPR_DESC1, 15, 0⟩
def F.SPR_DESC2_DEADLINE : Fld := ⟨R.SPR_DESC2, 19, 0⟩
def F.SPR_FSTAT_STATE : Fld := ⟨R.SPR_FSTAT, 31, 29⟩
def F.SPR_FSTAT_MISS_CAUSE : Fld := ⟨R.SPR_FSTAT, 27, 24⟩
def F.SPR_FSTAT_DEMOTE_CAUSE : Fld := ⟨R.SPR_FSTAT, 23, 20⟩
def F.SPR_FSTAT_RESV : Fld := ⟨R.SPR_FSTAT, 18, 0⟩
def F.SPR_FCNT0_DELIV : Fld := ⟨R.SPR_FCNT0, 31, 0⟩
def F.SPR_FCNT1_MISS : Fld := ⟨R.SPR_FCNT1, 31, 16⟩
def F.SPR_FCNT1_DROP : Fld := ⟨R.SPR_FCNT1, 15, 0⟩
def F.SPR_LOSS_TRACE_COUNT : Fld := ⟨R.SPR_LOSS_TRACE, 31, 0⟩
def F.SPR_LOSS_BE_COUNT : Fld := ⟨R.SPR_LOSS_BE, 31, 0⟩
def F.SPR_ALARM_CNT_COUNT : Fld := ⟨R.SPR_ALARM_CNT, 31, 0⟩
def F.SPR_ALARM_PEND_PEND : Fld := ⟨R.SPR_ALARM_PEND, 14, 0⟩
def F.SPR_MISS_LAST_CAUSE : Fld := ⟨R.SPR_MISS_LAST, 31, 28⟩
def F.SPR_MISS_LAST_FLOW : Fld := ⟨R.SPR_MISS_LAST, 11, 0⟩
def F.PMAP_CTRL_LOCK : Fld := ⟨R.PMAP_CTRL, 31, 31⟩
def F.PMAP_CTRL_FAILBACK : Fld := ⟨R.PMAP_CTRL, 9, 9⟩
def F.PMAP_CTRL_PRIMARY : Fld := ⟨R.PMAP_CTRL, 8, 8⟩
def F.PMAP_CTRL_EN_B : Fld := ⟨R.PMAP_CTRL, 1, 1⟩
def F.PMAP_CTRL_EN_A : Fld := ⟨R.PMAP_CTRL, 0, 0⟩
def F.PMAP_STAT_SUSP : Fld := ⟨R.PMAP_STAT, 31, 19⟩
def F.PMAP_STAT_CACHED : Fld := ⟨R.PMAP_STAT, 16, 8⟩
def F.PMAP_STAT_CXL : Fld := ⟨R.PMAP_STAT, 2, 2⟩
def F.PMAP_STAT_PORT : Fld := ⟨R.PMAP_STAT, 1, 0⟩
def F.PMAP_EVT_NOPORT : Fld := ⟨R.PMAP_EVT, 6, 6⟩
def F.PMAP_EVT_FAILBACK : Fld := ⟨R.PMAP_EVT, 5, 5⟩
def F.PMAP_EVT_FAILOVER : Fld := ⟨R.PMAP_EVT, 4, 4⟩
def F.PMAP_EVT_BROKEN : Fld := ⟨R.PMAP_EVT, 3, 3⟩
def F.PMAP_EVT_FAULT : Fld := ⟨R.PMAP_EVT, 2, 2⟩
def F.PMAP_EVT_INV_DONE : Fld := ⟨R.PMAP_EVT, 1, 1⟩
def F.PMAP_EVT_REJECT : Fld := ⟨R.PMAP_EVT, 0, 0⟩
def F.PMAP_AGE_LIMIT_US : Fld := ⟨R.PMAP_AGE_LIMIT, 15, 0⟩
def F.PMAP_ROOT_A_ATS : Fld := ⟨R.PMAP_ROOT_A, 1, 1⟩
def F.PMAP_ROOT_A_V : Fld := ⟨R.PMAP_ROOT_A, 0, 0⟩
def F.PMAP_ROOT_B_ATS : Fld := ⟨R.PMAP_ROOT_B, 1, 1⟩
def F.PMAP_ROOT_B_V : Fld := ⟨R.PMAP_ROOT_B, 0, 0⟩
def F.PMAP_CMD_START : Fld := ⟨R.PMAP_CMD, 31, 31⟩
def F.PMAP_CMD_FLOW : Fld := ⟨R.PMAP_CMD, 27, 16⟩
def F.PMAP_CMD_OP : Fld := ⟨R.PMAP_CMD, 3, 0⟩
def F.PMAP_CMD_STAT_WALKED : Fld := ⟨R.PMAP_CMD_STAT, 28, 16⟩
def F.PMAP_CMD_STAT_CAUSE : Fld := ⟨R.PMAP_CMD_STAT, 11, 8⟩
def F.PMAP_CMD_STAT_RESULT : Fld := ⟨R.PMAP_CMD_STAT, 1, 0⟩
def F.PMAP_FO_CFG_STALL : Fld := ⟨R.PMAP_FO_CFG, 15, 0⟩
def F.PMAP_FLT_INFO_CAUSE : Fld := ⟨R.PMAP_FLT_INFO, 31, 28⟩
def F.PMAP_FLT_INFO_PORT : Fld := ⟨R.PMAP_FLT_INFO, 27, 27⟩
def F.PMAP_FLT_INFO_ACCESS : Fld := ⟨R.PMAP_FLT_INFO, 26, 24⟩
def F.PMAP_FLT_INFO_FLOW : Fld := ⟨R.PMAP_FLT_INFO, 11, 0⟩
def F.PMAP_FLT_TIME_TIME : Fld := ⟨R.PMAP_FLT_TIME, 31, 0⟩
def F.PMAP_WALKS_COUNT : Fld := ⟨R.PMAP_WALKS, 31, 0⟩
def F.PMAP_WALK_MAX_NS : Fld := ⟨R.PMAP_WALK_MAX, 31, 0⟩
def F.PMAP_FSEL_FLOW : Fld := ⟨R.PMAP_FSEL, 11, 0⟩
def F.PMAP_FINFO_GEN : Fld := ⟨R.PMAP_FINFO, 31, 24⟩
def F.PMAP_FINFO_CACHED : Fld := ⟨R.PMAP_FINFO, 23, 23⟩
def F.PMAP_FINFO_CAUSE : Fld := ⟨R.PMAP_FINFO, 19, 16⟩
def F.PMAP_FINFO_HOLD_LEFT : Fld := ⟨R.PMAP_FINFO, 15, 0⟩
def F.PMAP_SUSPw_SUSP : Fld := ⟨R.PMAP_SUSPw, 31, 0⟩
def F.PMAP_FENCEw_BASE_HLB : Fld := ⟨R.PMAP_FENCEw_BASE, 1, 1⟩
def F.PMAP_FENCEw_BASE_HLA : Fld := ⟨R.PMAP_FENCEw_BASE, 0, 0⟩
def F.HERD_CTRL_LOCK : Fld := ⟨R.HERD_CTRL, 31, 31⟩
def F.HERD_CTRL_PPS_LINE : Fld := ⟨R.HERD_CTRL, 23, 20⟩
def F.HERD_CTRL_PPS_EN : Fld := ⟨R.HERD_CTRL, 19, 19⟩
def F.HERD_CTRL_PORT_EN : Fld := ⟨R.HERD_CTRL, 15, 10⟩
def F.HERD_CTRL_UP_PREF : Fld := ⟨R.HERD_CTRL, 8, 8⟩
def F.HERD_CTRL_POST_FWD : Fld := ⟨R.HERD_CTRL, 2, 2⟩
def F.HERD_CTRL_ROOT : Fld := ⟨R.HERD_CTRL, 1, 1⟩
def F.HERD_CTRL_EN : Fld := ⟨R.HERD_CTRL, 0, 0⟩
def F.HERD_STAT_ROLE : Fld := ⟨R.HERD_STAT, 31, 30⟩
def F.HERD_STAT_ACTIVE : Fld := ⟨R.HERD_STAT, 29, 28⟩
def F.HERD_STAT_STANDBY : Fld := ⟨R.HERD_STAT, 27, 27⟩
def F.HERD_STAT_SYNC : Fld := ⟨R.HERD_STAT, 26, 26⟩
def F.HERD_STAT_PORTS_UP : Fld := ⟨R.HERD_STAT, 21, 16⟩
def F.HERD_EVT_LINK_ERR : Fld := ⟨R.HERD_EVT, 8, 8⟩
def F.HERD_EVT_LEAVE : Fld := ⟨R.HERD_EVT, 7, 7⟩
def F.HERD_EVT_CAP_SHORT : Fld := ⟨R.HERD_EVT, 6, 6⟩
def F.HERD_EVT_TIME_STEP : Fld := ⟨R.HERD_EVT, 5, 5⟩
def F.HERD_EVT_SYNC_LOSS : Fld := ⟨R.HERD_EVT, 4, 4⟩
def F.HERD_EVT_JOIN_REFUSED : Fld := ⟨R.HERD_EVT, 3, 3⟩
def F.HERD_EVT_ISLAND : Fld := ⟨R.HERD_EVT, 2, 2⟩
def F.HERD_EVT_FAILOVER : Fld := ⟨R.HERD_EVT, 1, 1⟩
def F.HERD_EVT_REJECT : Fld := ⟨R.HERD_EVT, 0, 0⟩
def F.HERD_NODE_ID : Fld := ⟨R.HERD_NODE, 13, 0⟩
def F.HERD_TOPO_DEPTH : Fld := ⟨R.HERD_TOPO, 18, 16⟩
def F.HERD_TOPO_ROOT_ID : Fld := ⟨R.HERD_TOPO, 13, 0⟩
def F.HERD_COUNT_NODES : Fld := ⟨R.HERD_COUNT, 14, 0⟩
def F.HERD_OFS_OFS : Fld := ⟨R.HERD_OFS, 31, 16⟩
def F.HERD_OFS_DELAY : Fld := ⟨R.HERD_OFS, 15, 0⟩
def F.HERD_CAP_ROOT_W : Fld := ⟨R.HERD_CAP_ROOT, 31, 0⟩
def F.HERD_CAP_W : Fld := ⟨R.HERD_CAP, 31, 0⟩
def F.HERD_DEMAND_W : Fld := ⟨R.HERD_DEMAND, 31, 0⟩
def F.HERD_CAP_CFG_HOLD : Fld := ⟨R.HERD_CAP_CFG, 31, 24⟩
def F.HERD_CAP_CFG_SAFE : Fld := ⟨R.HERD_CAP_CFG, 23, 0⟩
def F.HERD_DEM_SRC_GOV : Fld := ⟨R.HERD_DEM_SRC, 31, 16⟩
def F.HERD_DEM_SRC_FAB : Fld := ⟨R.HERD_DEM_SRC, 15, 0⟩
def F.HERD_DEMr_DEMAND : Fld := ⟨R.HERD_DEMr, 31, 16⟩
def F.HERD_DEMr_FLOOR : Fld := ⟨R.HERD_DEMr, 15, 0⟩
def F.HERD_Pp_STAT_STATE : Fld := ⟨R.HERD_Pp_STAT, 31, 30⟩
def F.HERD_Pp_STAT_PARTNER : Fld := ⟨R.HERD_Pp_STAT, 29, 16⟩
def F.HERD_Pp_STAT_PDEPTH : Fld := ⟨R.HERD_Pp_STAT, 15, 13⟩
def F.HERD_Pp_STAT_PSYNC : Fld := ⟨R.HERD_Pp_STAT, 12, 12⟩
def F.HERD_Pp_CNT_CRC : Fld := ⟨R.HERD_Pp_CNT, 31, 16⟩
def F.HERD_Pp_CNT_REPLAY : Fld := ⟨R.HERD_Pp_CNT, 15, 0⟩
def F.HERD_Pp_ASYM_PS : Fld := ⟨R.HERD_Pp_ASYM, 15, 0⟩
def F.HUB_ID_PART : Fld := ⟨R.HUB_ID, 31, 16⟩
def F.HUB_ID_REV : Fld := ⟨R.HUB_ID, 15, 8⟩
def F.HUB_ID_GRADE : Fld := ⟨R.HUB_ID, 0, 0⟩
def F.HUB_IRQ_STAT_PIN : Fld := ⟨R.HUB_IRQ_STAT, 7, 7⟩
def F.HUB_IRQ_STAT_HOST : Fld := ⟨R.HUB_IRQ_STAT, 6, 6⟩
def F.HUB_IRQ_STAT_HERD : Fld := ⟨R.HUB_IRQ_STAT, 5, 5⟩
def F.HUB_IRQ_STAT_PMAP : Fld := ⟨R.HUB_IRQ_STAT, 4, 4⟩
def F.HUB_IRQ_STAT_SPR : Fld := ⟨R.HUB_IRQ_STAT, 3, 3⟩
def F.HUB_IRQ_STAT_SEC : Fld := ⟨R.HUB_IRQ_STAT, 2, 2⟩
def F.HUB_IRQ_STAT_CFG : Fld := ⟨R.HUB_IRQ_STAT, 1, 1⟩
def F.HUB_IRQ_STAT_ALARM : Fld := ⟨R.HUB_IRQ_STAT, 0, 0⟩
def F.HUB_IRQ_EN_PIN : Fld := ⟨R.HUB_IRQ_EN, 7, 7⟩
def F.HUB_IRQ_EN_HOST : Fld := ⟨R.HUB_IRQ_EN, 6, 6⟩
def F.HUB_IRQ_EN_HERD : Fld := ⟨R.HUB_IRQ_EN, 5, 5⟩
def F.HUB_IRQ_EN_PMAP : Fld := ⟨R.HUB_IRQ_EN, 4, 4⟩
def F.HUB_IRQ_EN_SPR : Fld := ⟨R.HUB_IRQ_EN, 3, 3⟩
def F.HUB_IRQ_EN_SEC : Fld := ⟨R.HUB_IRQ_EN, 2, 2⟩
def F.HUB_IRQ_EN_CFG : Fld := ⟨R.HUB_IRQ_EN, 1, 1⟩
def F.HUB_IRQ_EN_ALARM : Fld := ⟨R.HUB_IRQ_EN, 0, 0⟩
def F.HUB_IRQ_CFG_EN_B : Fld := ⟨R.HUB_IRQ_CFG, 31, 31⟩
def F.HUB_IRQ_CFG_EN_A : Fld := ⟨R.HUB_IRQ_CFG, 30, 30⟩
def F.HUB_IRQ_CFG_VEC_B : Fld := ⟨R.HUB_IRQ_CFG, 21, 16⟩
def F.HUB_IRQ_CFG_VEC_A : Fld := ⟨R.HUB_IRQ_CFG, 13, 8⟩
def F.HUB_IRQ_CFG_IBI : Fld := ⟨R.HUB_IRQ_CFG, 0, 0⟩
def F.HOST_p_CTRL_RETRAIN : Fld := ⟨R.HOST_p_CTRL, 8, 8⟩
def F.HOST_p_CTRL_MAX_WIDTH : Fld := ⟨R.HOST_p_CTRL, 5, 4⟩
def F.HOST_p_CTRL_MAX_RATE : Fld := ⟨R.HOST_p_CTRL, 2, 0⟩
def F.HOST_p_STAT_MODE : Fld := ⟨R.HOST_p_STAT, 31, 30⟩
def F.HOST_p_STAT_RATE : Fld := ⟨R.HOST_p_STAT, 29, 27⟩
def F.HOST_p_STAT_WIDTH : Fld := ⟨R.HOST_p_STAT, 26, 25⟩
def F.HOST_p_STAT_REVERSED : Fld := ⟨R.HOST_p_STAT, 24, 24⟩
def F.HOST_p_STAT_POLINV : Fld := ⟨R.HOST_p_STAT, 23, 20⟩
def F.HOST_p_STAT_BME : Fld := ⟨R.HOST_p_STAT, 19, 19⟩
def F.HOST_p_STAT_CACHE_EN : Fld := ⟨R.HOST_p_STAT, 18, 18⟩
def F.HOST_p_STAT_ATS_EN : Fld := ⟨R.HOST_p_STAT, 17, 17⟩
def F.HOST_p_STAT_D3HOT : Fld := ⟨R.HOST_p_STAT, 16, 16⟩
def F.HOST_p_STAT_PERST : Fld := ⟨R.HOST_p_STAT, 15, 15⟩
def F.HOST_p_EVT_FLR : Fld := ⟨R.HOST_p_EVT, 7, 7⟩
def F.HOST_p_EVT_PERST : Fld := ⟨R.HOST_p_EVT, 6, 6⟩
def F.HOST_p_EVT_PARTIAL : Fld := ⟨R.HOST_p_EVT, 5, 5⟩
def F.HOST_p_EVT_CORR_STORM : Fld := ⟨R.HOST_p_EVT, 4, 4⟩
def F.HOST_p_EVT_UNCORR : Fld := ⟨R.HOST_p_EVT, 3, 3⟩
def F.HOST_p_EVT_LINK_CHG : Fld := ⟨R.HOST_p_EVT, 2, 2⟩
def F.HOST_p_EVT_LINK_DOWN : Fld := ⟨R.HOST_p_EVT, 1, 1⟩
def F.HOST_p_EVT_BAD_SIZE : Fld := ⟨R.HOST_p_EVT, 0, 0⟩
def F.HOST_p_ERRCNT_CORR : Fld := ⟨R.HOST_p_ERRCNT, 31, 16⟩
def F.HOST_p_ERRCNT_UNCORR : Fld := ⟨R.HOST_p_ERRCNT, 15, 0⟩
def F.HOST_SB_CFG_LOCK : Fld := ⟨R.HOST_SB_CFG, 31, 31⟩
def F.HOST_SB_CFG_PEC : Fld := ⟨R.HOST_SB_CFG, 8, 8⟩
def F.HOST_SB_CFG_SA : Fld := ⟨R.HOST_SB_CFG, 6, 0⟩
def F.HOST_SB_STAT_DA_VALID : Fld := ⟨R.HOST_SB_STAT, 31, 31⟩
def F.HOST_SB_STAT_DA : Fld := ⟨R.HOST_SB_STAT, 22, 16⟩
def F.HOST_SB_STAT_ERR : Fld := ⟨R.HOST_SB_STAT, 15, 0⟩
def F.PIN_CTRL_LOCK : Fld := ⟨R.PIN_CTRL, 31, 31⟩
def F.PIN_CTRL_BSCAN_PWM : Fld := ⟨R.PIN_CTRL, 8, 8⟩
def F.PIN_CTRL_ALARM_SRC : Fld := ⟨R.PIN_CTRL, 4, 4⟩
def F.PIN_STAT_CFLT_CNT : Fld := ⟨R.PIN_STAT, 31, 16⟩
def F.PIN_STAT_REJ_CNT : Fld := ⟨R.PIN_STAT, 15, 8⟩
def F.PIN_EVT_LINE : Fld := ⟨R.PIN_EVT, 31, 16⟩
def F.PIN_EVT_CFLT_IN : Fld := ⟨R.PIN_EVT, 2, 2⟩
def F.PIN_EVT_CFLT_OUT : Fld := ⟨R.PIN_EVT, 1, 1⟩
def F.PIN_EVT_REJECT : Fld := ⟨R.PIN_EVT, 0, 0⟩
def F.PIN_CFLT_LAST_KIND : Fld := ⟨R.PIN_CFLT_LAST, 31, 31⟩
def F.PIN_CFLT_LAST_FUNC : Fld := ⟨R.PIN_CFLT_LAST, 19, 16⟩
def F.PIN_CFLT_LAST_PIN : Fld := ⟨R.PIN_CFLT_LAST, 7, 0⟩
def F.PIN_INw_LEVEL : Fld := ⟨R.PIN_INw, 31, 0⟩
def F.PIN_OUTw_OUT : Fld := ⟨R.PIN_OUTw, 31, 0⟩
def F.PIN_OSETw_OUT : Fld := ⟨R.PIN_OSETw, 31, 0⟩
def F.PIN_OCLRw_OUT : Fld := ⟨R.PIN_OCLRw, 31, 0⟩
def F.PIN_EVTk_CFG_EN : Fld := ⟨R.PIN_EVTk_CFG, 31, 31⟩
def F.PIN_EVTk_CFG_SW : Fld := ⟨R.PIN_EVTk_CFG, 30, 30⟩
def F.PIN_EVTk_CFG_EDGE : Fld := ⟨R.PIN_EVTk_CFG, 29, 28⟩
def F.PIN_EVTk_CFG_COUNT : Fld := ⟨R.PIN_EVTk_CFG, 15, 0⟩
def F.PIN_EVTk_TIME_TIME : Fld := ⟨R.PIN_EVTk_TIME, 31, 0⟩
def F.PIN_Pxn_CFG_FUNC_EN : Fld := ⟨R.PIN_Pxn_CFG, 31, 16⟩
def F.PIN_Pxn_CFG_OWNER : Fld := ⟨R.PIN_Pxn_CFG, 15, 14⟩
def F.PIN_Pxn_CFG_SAFE_Z : Fld := ⟨R.PIN_Pxn_CFG, 13, 13⟩
def F.PIN_Pxn_CFG_RET : Fld := ⟨R.PIN_Pxn_CFG, 12, 12⟩
def F.PIN_Pxn_CFG_FILT : Fld := ⟨R.PIN_Pxn_CFG, 11, 10⟩
def F.PIN_Pxn_CFG_PULL : Fld := ⟨R.PIN_Pxn_CFG, 9, 8⟩
def F.PIN_Pxn_CFG_DRV : Fld := ⟨R.PIN_Pxn_CFG, 7, 6⟩
def F.PIN_Pxn_CFG_SLEW : Fld := ⟨R.PIN_Pxn_CFG, 5, 5⟩
def F.PIN_Pxn_CFG_OD : Fld := ⟨R.PIN_Pxn_CFG, 4, 4⟩
def F.PIN_Pxn_CFG_INV : Fld := ⟨R.PIN_Pxn_CFG, 3, 3⟩
def F.PIN_Pxn_CFG_OE : Fld := ⟨R.PIN_Pxn_CFG, 2, 2⟩
def F.PIN_Pxn_ARG_RGN : Fld := ⟨R.PIN_Pxn_ARG, 19, 16⟩
def F.PIN_Pxn_ARG_SUB : Fld := ⟨R.PIN_Pxn_ARG, 12, 8⟩
def F.PIN_Pxn_ARG_LINE : Fld := ⟨R.PIN_Pxn_ARG, 3, 0⟩
def F.SETT_MODE_FROZEN : Fld := ⟨R.SETT_MODE, 31, 16⟩
def F.SETT_MODE_READOUT : Fld := ⟨R.SETT_MODE, 13, 13⟩
def F.SETT_MODE_TORPOR : Fld := ⟨R.SETT_MODE, 12, 12⟩
def F.SETT_MODE_DOZE : Fld := ⟨R.SETT_MODE, 11, 11⟩
def F.SETT_MODE_DEGRADED : Fld := ⟨R.SETT_MODE, 10, 10⟩
def F.SETT_MODE_RECONF : Fld := ⟨R.SETT_MODE, 9, 9⟩
def F.SETT_MODE_SAFE : Fld := ⟨R.SETT_MODE, 8, 8⟩
def F.SETT_MODE_MODE : Fld := ⟨R.SETT_MODE, 3, 0⟩
def F.SETT_CMD_START : Fld := ⟨R.SETT_CMD, 31, 31⟩
def F.SETT_CMD_OP : Fld := ⟨R.SETT_CMD, 27, 24⟩
def F.SETT_CMD_GUARD : Fld := ⟨R.SETT_CMD, 23, 16⟩
def F.SETT_CMD_ARG : Fld := ⟨R.SETT_CMD, 15, 0⟩
def F.SETT_CMD_STAT_CAUSE : Fld := ⟨R.SETT_CMD_STAT, 11, 8⟩
def F.SETT_CMD_STAT_RESULT : Fld := ⟨R.SETT_CMD_STAT, 1, 0⟩
def F.SETT_CTRL_LOCK : Fld := ⟨R.SETT_CTRL, 31, 31⟩
def F.SETT_CTRL_PIN_CLK : Fld := ⟨R.SETT_CTRL, 30, 30⟩
def F.SETT_CTRL_SAFE_AUTO : Fld := ⟨R.SETT_CTRL, 29, 29⟩
def F.SETT_CTRL_SAFE_DWELL : Fld := ⟨R.SETT_CTRL, 27, 24⟩
def F.SETT_CTRL_PIN_SCOPE : Fld := ⟨R.SETT_CTRL, 15, 0⟩
def F.SETT_EVT_EXPORT_DONE : Fld := ⟨R.SETT_EVT, 7, 7⟩
def F.SETT_EVT_RDO_DONE : Fld := ⟨R.SETT_EVT, 6, 6⟩
def F.SETT_EVT_XTAL : Fld := ⟨R.SETT_EVT, 5, 5⟩
def F.SETT_EVT_LEDGER_FAIL : Fld := ⟨R.SETT_EVT, 4, 4⟩
def F.SETT_EVT_WAKE : Fld := ⟨R.SETT_EVT, 3, 3⟩
def F.SETT_EVT_DEGRADED : Fld := ⟨R.SETT_EVT, 2, 2⟩
def F.SETT_EVT_SAFE : Fld := ⟨R.SETT_EVT, 1, 1⟩
def F.SETT_EVT_REJECT : Fld := ⟨R.SETT_EVT, 0, 0⟩
def F.SETT_SAFE_ENTRY : Fld := ⟨R.SETT_SAFE, 15, 8⟩
def F.SETT_SAFE_NOW : Fld := ⟨R.SETT_SAFE, 7, 0⟩
def F.SETT_WAKE_CAUSE : Fld := ⟨R.SETT_WAKE, 31, 28⟩
def F.SETT_WAKE_DOZE_EXIT : Fld := ⟨R.SETT_WAKE, 2, 2⟩
def F.SETT_WAKE_SUPPLY_EN : Fld := ⟨R.SETT_WAKE, 1, 1⟩
def F.SETT_WAKE_TIMER_EN : Fld := ⟨R.SETT_WAKE, 0, 0⟩
def F.SETT_WAKE_TIME_RTC : Fld := ⟨R.SETT_WAKE_TIME, 31, 0⟩
def F.SETT_PWRk_EN : Fld := ⟨R.SETT_PWRk, 31, 31⟩
def F.SETT_PWRk_PIN : Fld := ⟨R.SETT_PWRk, 12, 8⟩
def F.SETT_PWRk_DELAY : Fld := ⟨R.SETT_PWRk, 7, 0⟩
def F.SETT_LIFE_MONTHS : Fld := ⟨R.SETT_LIFE, 31, 16⟩
def F.SETT_HOURS_HOURS : Fld := ⟨R.SETT_HOURS, 31, 0⟩
def F.SETT_THR_SPARE_PCT : Fld := ⟨R.SETT_THR, 23, 16⟩
def F.SETT_THR_LIFE : Fld := ⟨R.SETT_THR, 15, 0⟩
def F.SETT_DEGR_KINDS_LOW : Fld := ⟨R.SETT_DEGR, 27, 16⟩
def F.SETT_DEGR_COND : Fld := ⟨R.SETT_DEGR, 3, 0⟩
def F.SETT_LOG_WP_COUNT : Fld := ⟨R.SETT_LOG_WP, 31, 0⟩
def F.SETT_ACC_CTRL_TEL_EN : Fld := ⟨R.SETT_ACC_CTRL, 31, 31⟩
def F.SETT_ACC_CTRL_PERIOD : Fld := ⟨R.SETT_ACC_CTRL, 23, 16⟩
def F.SETT_ACC_CTRL_FLOW : Fld := ⟨R.SETT_ACC_CTRL, 11, 0⟩
def F.SETT_ACC_STAT_NEG_CNT : Fld := ⟨R.SETT_ACC_STAT, 31, 16⟩
def F.SETT_ACC_STAT_LOST : Fld := ⟨R.SETT_ACC_STAT, 1, 1⟩
def F.SETT_ACC_STAT_ENERGY_VALID : Fld := ⟨R.SETT_ACC_STAT, 0, 0⟩
def F.SETT_SPAREk_TOTAL : Fld := ⟨R.SETT_SPAREk, 31, 16⟩
def F.SETT_SPAREk_FREE : Fld := ⟨R.SETT_SPAREk, 15, 0⟩
def F.SETT_ACCn_C0_CELL : Fld := ⟨R.SETT_ACCn_C0, 31, 0⟩
def F.SETT_ACCn_C1_CELL : Fld := ⟨R.SETT_ACCn_C1, 31, 0⟩
def F.SETT_ACCn_C2_CELL : Fld := ⟨R.SETT_ACCn_C2, 31, 0⟩
def F.SETT_ACCn_CFG_EN : Fld := ⟨R.SETT_ACCn_CFG, 31, 31⟩
def F.SETT_ACCn_CFG_CLR : Fld := ⟨R.SETT_ACCn_CFG, 30, 30⟩
def F.SETT_ACCn_CFG_SHIFT : Fld := ⟨R.SETT_ACCn_CFG, 20, 16⟩
def F.SETT_ACCn_CFG_FLOW : Fld := ⟨R.SETT_ACCn_CFG, 11, 0⟩
def F.RGN_CTRL_LOCK : Fld := ⟨R.RGN_CTRL, 31, 31⟩
def F.RGN_CTRL_RST : Fld := ⟨R.RGN_CTRL, 30, 30⟩
def F.RGN_CTRL_DOZE_LP : Fld := ⟨R.RGN_CTRL, 11, 8⟩
def F.RGN_CTRL_COLD_T : Fld := ⟨R.RGN_CTRL, 7, 0⟩
def F.RGN_STAT_OWNER : Fld := ⟨R.RGN_STAT, 31, 30⟩
def F.RGN_STAT_CLK : Fld := ⟨R.RGN_STAT, 17, 16⟩
def F.RGN_STAT_TORPOR : Fld := ⟨R.RGN_STAT, 4, 4⟩
def F.RGN_STAT_FROZEN : Fld := ⟨R.RGN_STAT, 3, 3⟩
def F.RGN_STAT_RDO : Fld := ⟨R.RGN_STAT, 2, 2⟩
def F.RGN_STAT_TSPREAD : Fld := ⟨R.RGN_STAT, 1, 1⟩
def F.RGN_STAT_RESET : Fld := ⟨R.RGN_STAT, 0, 0⟩
def F.RGN_EVT_RST_REJ : Fld := ⟨R.RGN_EVT, 3, 3⟩
def F.RGN_EVT_WR_REJ : Fld := ⟨R.RGN_EVT, 2, 2⟩
def F.RGN_EVT_TSPREAD : Fld := ⟨R.RGN_EVT, 1, 1⟩
def F.RGN_EVT_VF_REJ : Fld := ⟨R.RGN_EVT, 0, 0⟩
def F.RGN_VF_VOLT : Fld := ⟨R.RGN_VF, 11, 8⟩
def F.RGN_VF_FREQ : Fld := ⟨R.RGN_VF, 4, 0⟩
def F.RGN_REJ_COUNT : Fld := ⟨R.RGN_REJ, 15, 0⟩
def F.RGN_TEMP_TEMP : Fld := ⟨R.RGN_TEMP, 15, 0⟩
def F.RGN_CAP_CAP : Fld := ⟨R.RGN_CAP, 23, 0⟩
def F.RGN_RDO_ADDR_WORD : Fld := ⟨R.RGN_RDO_ADDR, 11, 0⟩
def F.RGN_RDO_DATA_DATA : Fld := ⟨R.RGN_RDO_DATA, 31, 0⟩

end Sys2Proof.Machine
end

