-- ==== Sys2Proof/Machine/RegMap.lean ====
section
/-!
DEFINITION. The register map as data: for every register of the spec's summaries its offset, its count, and for each
field its bits, its access code (R10, R11), the encodings its table lists (R13) and whether its value at reset comes
from the image. Reserved bits are listed nowhere and so read 0 and are never written (R12).
-/

namespace Sys2Proof.Machine

/-- The access codes of R10. -/
inductive Access where
  | ro | rw | wo | w1c | w1s | rc | rwl
  deriving DecidableEq, Repr

/-- One field: bits, access code, and the listed encodings as ranges (an empty list: every encoding is listed). -/
structure FldRow where
  hi : Nat
  lo : Nat
  acc : Access
  ok : List (Nat × Nat)
  /-- Its value at reset comes from the image ("IMG"). -/
  img : Bool
  deriving DecidableEq, Repr

/-- One register of a summary: offset, distance and number of a numbered register, fields, and the half it is of a
64-bit register (0: a 32-bit register; 1: low half; 2: high half). -/
structure RegRow where
  off : Nat
  stride : Nat
  count : Nat
  half : Nat
  fields : List FldRow
  deriving DecidableEq, Repr

/-- Register rows of block ac. -/
def rows_ac : List RegRow :=
  [⟨0x0, 0x0, 1, 0,
    [⟨31, 31, .w1s, [], false⟩, ⟨27, 16, .rw, [], true⟩, ⟨0, 0, .rw, [], true⟩]⟩,
   ⟨0x4, 0x0, 1, 0,
    [⟨15, 8, .rc, [], false⟩, ⟨3, 3, .ro, [], false⟩, ⟨2, 2, .ro, [], false⟩, ⟨1, 1, .w1c, [], false⟩, ⟨0, 0, .w1c, [], false⟩]⟩,
   ⟨0x8, 0x0, 1, 0,
    [⟨31, 0, .w1c, [], false⟩]⟩,
   ⟨0xc, 0x0, 1, 0,
    [⟨7, 0, .w1c, [], false⟩]⟩,
   ⟨0x10, 0x0, 1, 0,
    [⟨3, 1, .rw, [], false⟩, ⟨0, 0, .w1s, [], false⟩]⟩,
   ⟨0x14, 0x0, 1, 0,
    [⟨31, 24, .ro, [], false⟩, ⟨11, 8, .ro, [], false⟩, ⟨6, 4, .ro, [], false⟩, ⟨1, 0, .ro, [], false⟩]⟩,
   ⟨0x100, 0x20, 8, 0,
    [⟨23, 22, .rw, [], true⟩, ⟨21, 21, .rw, [], true⟩, ⟨17, 12, .rw, [(0, 44)], true⟩, ⟨10, 8, .rw, [(0, 4)], true⟩, ⟨6, 4, .rw, [(0, 6)], true⟩]⟩,
   ⟨0x104, 0x20, 8, 0,
    [⟨22, 21, .rw, [], true⟩, ⟨20, 16, .rw, [(0, 16)], true⟩, ⟨10, 0, .rw, [(0, 1063)], true⟩]⟩,
   ⟨0x108, 0x20, 8, 0,
    [⟨28, 24, .rw, [], true⟩, ⟨23, 12, .rw, [], true⟩, ⟨3, 0, .rw, [(0, 10)], true⟩]⟩,
   ⟨0x10c, 0x20, 8, 0,
    [⟨29, 29, .rw, [], true⟩, ⟨28, 24, .rw, [], true⟩, ⟨23, 23, .rw, [], true⟩, ⟨22, 20, .rw, [], true⟩, ⟨19, 19, .rw, [], true⟩, ⟨18, 16, .rw, [], true⟩, ⟨13, 8, .rw, [(0, 61), (63, 63)], true⟩, ⟨5, 0, .rw, [(0, 61), (63, 63)], true⟩]⟩,
   ⟨0x110, 0x20, 8, 0,
    [⟨15, 8, .rwl, [], false⟩, ⟨7, 0, .rwl, [], false⟩]⟩,
   ⟨0x114, 0x20, 8, 0,
    [⟨7, 4, .ro, [], false⟩, ⟨1, 1, .w1c, [], false⟩, ⟨0, 0, .ro, [], false⟩]⟩,
   ⟨0x200, 0x0, 1, 0,
    [⟨1, 1, .ro, [], false⟩, ⟨0, 0, .ro, [], false⟩]⟩,
   ⟨0x300, 0x0, 1, 0,
    [⟨31, 31, .w1s, [], false⟩, ⟨8, 8, .rw, [], true⟩, ⟨7, 0, .rw, [], true⟩]⟩,
   ⟨0x304, 0x0, 1, 0,
    [⟨15, 8, .rc, [], false⟩, ⟨2, 2, .w1c, [], false⟩, ⟨1, 1, .ro, [], false⟩, ⟨0, 0, .w1c, [], false⟩]⟩,
   ⟨0x308, 0x0, 1, 0,
    [⟨2, 2, .rw, [], false⟩, ⟨1, 1, .rw, [], false⟩, ⟨0, 0, .w1s, [], false⟩]⟩,
   ⟨0x30c, 0x0, 1, 0,
    [⟨31, 24, .rc, [], false⟩, ⟨11, 8, .ro, [], false⟩, ⟨6, 4, .ro, [], false⟩, ⟨1, 0, .ro, [], false⟩]⟩,
   ⟨0x310, 0x0, 1, 0,
    [⟨3, 2, .ro, [], false⟩, ⟨1, 1, .ro, [], false⟩, ⟨0, 0, .ro, [], false⟩]⟩,
   ⟨0x400, 0x20, 2, 0,
    [⟨29, 24, .rw, [(0, 61), (63, 63)], true⟩, ⟨22, 20, .rw, [], true⟩, ⟨17, 16, .rw, [], true⟩, ⟨10, 8, .rw, [(0, 4)], true⟩, ⟨5, 4, .rw, [], true⟩, ⟨3, 0, .rw, [], true⟩]⟩,
   ⟨0x404, 0x20, 2, 0,
    [⟨27, 16, .rw, [], true⟩, ⟨11, 0, .rw, [], true⟩]⟩,
   ⟨0x408, 0x20, 2, 0,
    [⟨31, 16, .rw, [], true⟩, ⟨15, 0, .rw, [], true⟩]⟩,
   ⟨0x40c, 0x20, 2, 0,
    [⟨31, 24, .rw, [], true⟩, ⟨23, 20, .rw, [], true⟩, ⟨15, 15, .rw, [], true⟩, ⟨14, 12, .rw, [], true⟩, ⟨8, 8, .rw, [], true⟩, ⟨4, 4, .rw, [], true⟩, ⟨2, 2, .rw, [], true⟩, ⟨0, 0, .rw, [], true⟩]⟩,
   ⟨0x410, 0x20, 2, 0,
    [⟨15, 8, .rwl, [], false⟩, ⟨7, 0, .rwl, [], false⟩]⟩,
   ⟨0x414, 0x20, 2, 0,
    [⟨7, 4, .ro, [], false⟩, ⟨2, 2, .ro, [], false⟩, ⟨1, 1, .w1c, [], false⟩, ⟨0, 0, .ro, [], false⟩]⟩,
   ⟨0x418, 0x20, 2, 0,
    [⟨31, 16, .rc, [], false⟩]⟩]

/-- Register rows of block cg. -/
def rows_cg : List RegRow :=
  [⟨0x0, 0x0, 1, 0,
    [⟨31, 31, .w1s, [], false⟩, ⟨8, 8, .w1s, [], false⟩, ⟨4, 4, .rw, [], true⟩, ⟨1, 0, .rw, [], true⟩]⟩,
   ⟨0x4, 0x0, 1, 0,
    [⟨15, 8, .rc, [], false⟩, ⟨4, 4, .ro, [], false⟩, ⟨2, 0, .ro, [], false⟩]⟩,
   ⟨0x8, 0x0, 1, 0,
    [⟨21, 16, .rw, [(0, 47), (63, 63)], true⟩, ⟨8, 8, .w1s, [], false⟩, ⟨1, 0, .rw, [], true⟩]⟩,
   ⟨0xc, 0x0, 1, 0,
    [⟨31, 0, .rw, [], true⟩]⟩,
   ⟨0x10, 0x0, 1, 0,
    [⟨31, 0, .rw, [], true⟩]⟩,
   ⟨0x14, 0x0, 1, 0,
    [⟨4, 0, .wo, [], false⟩]⟩,
   ⟨0x18, 0x0, 1, 0,
    [⟨31, 16, .rc, [], false⟩, ⟨2, 0, .ro, [], false⟩]⟩,
   ⟨0x1c, 0x0, 1, 0,
    [⟨8, 8, .w1c, [], false⟩, ⟨7, 7, .w1c, [], false⟩, ⟨6, 6, .w1c, [], false⟩, ⟨5, 5, .w1c, [], false⟩, ⟨4, 4, .w1c, [], false⟩, ⟨3, 3, .w1c, [], false⟩, ⟨2, 2, .w1c, [], false⟩, ⟨1, 1, .w1c, [], false⟩, ⟨0, 0, .w1c, [], false⟩]⟩,
   ⟨0x20, 0x0, 1, 0,
    [⟨2, 2, .ro, [], false⟩, ⟨1, 1, .ro, [], false⟩, ⟨0, 0, .ro, [], false⟩]⟩,
   ⟨0x24, 0x0, 1, 0,
    [⟨13, 0, .rw, [], false⟩]⟩,
   ⟨0x28, 0x4, 4, 0,
    [⟨31, 31, .rw, [], true⟩, ⟨13, 8, .rw, [(0, 47), (63, 63)], true⟩, ⟨4, 0, .rw, [], true⟩]⟩,
   ⟨0x40, 0x0, 1, 1,
    [⟨31, 16, .ro, [], false⟩, ⟨15, 11, .ro, [], false⟩, ⟨10, 10, .ro, [], false⟩, ⟨9, 9, .ro, [], false⟩, ⟨8, 8, .ro, [], false⟩, ⟨7, 7, .ro, [], false⟩, ⟨6, 6, .ro, [], false⟩, ⟨5, 0, .ro, [], false⟩]⟩,
   ⟨0x44, 0x0, 1, 2,
    [⟨31, 0, .ro, [], false⟩]⟩,
   ⟨0x80, 0x10, 3, 0,
    [⟨31, 31, .rw, [], true⟩, ⟨30, 29, .rw, [(0, 2)], true⟩, ⟨27, 24, .rw, [], true⟩, ⟨23, 20, .rw, [], true⟩, ⟨19, 12, .rw, [], true⟩, ⟨11, 0, .rw, [], true⟩]⟩,
   ⟨0x84, 0x10, 3, 0,
    [⟨31, 0, .rw, [], true⟩]⟩,
   ⟨0x88, 0x10, 3, 0,
    [⟨31, 16, .rc, [], false⟩, ⟨3, 0, .ro, [], false⟩]⟩,
   ⟨0x100, 0x8, 32, 0,
    [⟨23, 16, .rw, [(0, 137)], true⟩, ⟨10, 8, .rw, [(0, 6)], true⟩, ⟨2, 0, .rw, [], true⟩]⟩,
   ⟨0x104, 0x8, 32, 0,
    [⟨31, 18, .rwl, [], true⟩, ⟨17, 0, .rwl, [], true⟩]⟩,
   ⟨0x200, 0x4, 5, 0,
    [⟨27, 16, .ro, [], false⟩, ⟨11, 0, .ro, [], false⟩]⟩,
   ⟨0x220, 0x0, 1, 0,
    [⟨31, 16, .ro, [], false⟩, ⟨12, 8, .ro, [], false⟩, ⟨7, 0, .ro, [], false⟩]⟩,
   ⟨0x300, 0x0, 1, 0,
    [⟨17, 16, .rw, [], true⟩, ⟨8, 8, .rw, [], false⟩, ⟨4, 4, .rw, [], false⟩]⟩,
   ⟨0x304, 0x0, 1, 0,
    [⟨27, 16, .ro, [], false⟩, ⟨14, 12, .ro, [], false⟩, ⟨11, 10, .ro, [], false⟩, ⟨2, 2, .ro, [], false⟩, ⟨1, 1, .ro, [], false⟩]⟩,
   ⟨0x308, 0x0, 1, 0,
    [⟨31, 0, .ro, [], false⟩]⟩,
   ⟨0x30c, 0x0, 1, 0,
    [⟨31, 16, .ro, [], false⟩, ⟨15, 8, .ro, [], false⟩, ⟨7, 1, .ro, [], false⟩, ⟨0, 0, .ro, [], false⟩]⟩,
   ⟨0x310, 0x0, 1, 0,
    [⟨5, 5, .w1c, [], false⟩, ⟨4, 4, .w1c, [], false⟩, ⟨3, 3, .w1c, [], false⟩, ⟨2, 2, .w1c, [], false⟩, ⟨1, 1, .w1c, [], false⟩, ⟨0, 0, .w1c, [], false⟩]⟩] ++
  [⟨0x314, 0x0, 1, 0,
    [⟨31, 0, .ro, [], false⟩]⟩,
   ⟨0x320, 0x4, 5, 0,
    [⟨27, 16, .ro, [], false⟩, ⟨11, 0, .ro, [], false⟩]⟩,
   ⟨0x340, 0x4, 5, 0,
    [⟨15, 0, .ro, [], false⟩]⟩,
   ⟨0x360, 0x4, 5, 0,
    [⟨31, 16, .ro, [], false⟩, ⟨15, 0, .ro, [], false⟩]⟩]

/-- Register rows of block pg. -/
def rows_pg : List RegRow :=
  [⟨0x0, 0x0, 1, 0,
    [⟨31, 31, .w1s, [], false⟩, ⟨8, 8, .rw, [], true⟩]⟩,
   ⟨0x4, 0x0, 1, 0,
    [⟨15, 8, .rc, [], false⟩, ⟨4, 4, .ro, [], false⟩, ⟨3, 3, .ro, [], false⟩, ⟨0, 0, .w1c, [], false⟩]⟩,
   ⟨0x8, 0x0, 1, 0,
    [⟨6, 6, .w1c, [], false⟩, ⟨5, 5, .w1c, [], false⟩, ⟨4, 4, .w1c, [], false⟩, ⟨3, 3, .w1c, [], false⟩, ⟨2, 2, .w1c, [], false⟩, ⟨1, 1, .w1c, [], false⟩]⟩,
   ⟨0x10, 0x0, 1, 0,
    [⟨4, 1, .rw, [], false⟩, ⟨0, 0, .w1s, [], false⟩]⟩,
   ⟨0x14, 0x0, 1, 0,
    [⟨11, 8, .ro, [], false⟩, ⟨6, 4, .ro, [], false⟩, ⟨1, 0, .ro, [], false⟩]⟩,
   ⟨0x18, 0x0, 1, 0,
    [⟨1, 1, .ro, [], false⟩, ⟨0, 0, .ro, [], false⟩]⟩,
   ⟨0x100, 0x10, 16, 0,
    [⟨31, 31, .rw, [], true⟩, ⟨7, 0, .ro, [], false⟩]⟩,
   ⟨0x104, 0x10, 16, 0,
    [⟨19, 0, .rw, [(4800, 960000)], true⟩]⟩,
   ⟨0x108, 0x10, 16, 0,
    [⟨19, 0, .ro, [], false⟩]⟩,
   ⟨0x1000, 0x40, 16, 0,
    [⟨31, 24, .rw, [], true⟩, ⟨23, 20, .rw, [], true⟩, ⟨19, 16, .rw, [], true⟩, ⟨14, 12, .rw, [], true⟩, ⟨11, 8, .rw, [], true⟩, ⟨5, 4, .rw, [(0, 2)], true⟩, ⟨3, 2, .rw, [(0, 2)], true⟩, ⟨1, 1, .rw, [], true⟩, ⟨0, 0, .rw, [], true⟩]⟩,
   ⟨0x1004, 0x40, 16, 0,
    [⟨15, 0, .rw, [], true⟩]⟩,
   ⟨0x1008, 0x40, 16, 0,
    [⟨20, 20, .rw, [], false⟩, ⟨19, 0, .rw, [], false⟩]⟩,
   ⟨0x100c, 0x40, 16, 0,
    [⟨19, 0, .ro, [], false⟩]⟩,
   ⟨0x1010, 0x40, 16, 0,
    [⟨19, 0, .rw, [], true⟩]⟩,
   ⟨0x1014, 0x40, 16, 0,
    [⟨19, 0, .rw, [], true⟩]⟩,
   ⟨0x1018, 0x40, 16, 0,
    [⟨25, 16, .rwl, [(48, 1023)], true⟩, ⟨9, 0, .rwl, [(48, 1023)], true⟩]⟩,
   ⟨0x101c, 0x40, 16, 0,
    [⟨23, 23, .rw, [], true⟩, ⟨22, 20, .rw, [], true⟩, ⟨19, 19, .rw, [], true⟩, ⟨18, 16, .rw, [], true⟩, ⟨11, 10, .rw, [(0, 2)], true⟩, ⟨9, 8, .rw, [], true⟩, ⟨3, 2, .rw, [(0, 2)], true⟩, ⟨1, 0, .rw, [], true⟩]⟩,
   ⟨0x1020, 0x40, 16, 0,
    [⟨9, 8, .rwl, [(0, 2)], true⟩, ⟨5, 4, .rwl, [], true⟩, ⟨1, 0, .rwl, [(0, 2)], true⟩]⟩,
   ⟨0x1024, 0x40, 16, 0,
    [⟨28, 24, .ro, [], false⟩, ⟨13, 12, .ro, [], false⟩, ⟨9, 9, .ro, [], false⟩, ⟨8, 8, .ro, [], false⟩, ⟨2, 0, .ro, [], false⟩]⟩,
   ⟨0x1028, 0x40, 16, 0,
    [⟨0, 0, .wo, [], false⟩]⟩,
   ⟨0x102c, 0x40, 16, 0,
    [⟨31, 16, .rc, [], false⟩, ⟨15, 0, .rc, [], false⟩]⟩]

/-- Register rows of block le. -/
def rows_le : List RegRow :=
  [⟨0x0, 0x0, 1, 0,
    [⟨31, 31, .w1s, [], false⟩, ⟨9, 9, .rw, [], false⟩, ⟨8, 8, .rw, [], true⟩, ⟨4, 4, .rw, [], true⟩, ⟨2, 2, .w1s, [], false⟩, ⟨1, 1, .w1s, [], false⟩, ⟨0, 0, .rw, [], true⟩]⟩,
   ⟨0x4, 0x0, 1, 0,
    [⟨31, 24, .rc, [], false⟩, ⟨18, 16, .ro, [], false⟩, ⟨14, 12, .ro, [], false⟩, ⟨11, 8, .ro, [], false⟩]⟩,
   ⟨0x8, 0x0, 1, 0,
    [⟨7, 7, .w1c, [], false⟩, ⟨6, 6, .w1c, [], false⟩, ⟨5, 5, .w1c, [], false⟩, ⟨4, 4, .w1c, [], false⟩, ⟨3, 3, .w1c, [], false⟩, ⟨2, 2, .w1c, [], false⟩, ⟨1, 1, .w1c, [], false⟩, ⟨0, 0, .w1c, [], false⟩]⟩,
   ⟨0xc, 0x0, 1, 0,
    [⟨12, 0, .rwl, [], true⟩]⟩,
   ⟨0x10, 0x0, 1, 0,
    [⟨19, 16, .ro, [], false⟩, ⟨12, 0, .ro, [], false⟩]⟩,
   ⟨0x14, 0x0, 1, 0,
    [⟨12, 0, .rwl, [], true⟩]⟩,
   ⟨0x18, 0x0, 1, 0,
    [⟨31, 0, .rw, [], true⟩]⟩,
   ⟨0x1c, 0x0, 1, 0,
    [⟨31, 0, .ro, [], false⟩]⟩,
   ⟨0x20, 0x0, 1, 0,
    [⟨15, 0, .rw, [], true⟩]⟩,
   ⟨0x24, 0x0, 1, 0,
    [⟨23, 0, .rw, [], true⟩]⟩,
   ⟨0x28, 0x0, 1, 0,
    [⟨31, 0, .ro, [], false⟩]⟩,
   ⟨0x30, 0x0, 1, 0,
    [⟨2, 1, .rw, [], false⟩, ⟨0, 0, .w1s, [], false⟩]⟩,
   ⟨0x34, 0x0, 1, 0,
    [⟨11, 8, .ro, [], false⟩, ⟨6, 4, .ro, [], false⟩, ⟨1, 0, .ro, [], false⟩]⟩,
   ⟨0x38, 0x0, 1, 0,
    [⟨1, 1, .ro, [], false⟩, ⟨0, 0, .ro, [], false⟩]⟩,
   ⟨0x3c, 0x0, 1, 0,
    [⟨11, 0, .ro, [], false⟩]⟩,
   ⟨0x100, 0x10, 8, 0,
    [⟨31, 31, .rw, [], true⟩, ⟨30, 30, .rw, [], true⟩, ⟨29, 29, .rw, [], true⟩]⟩,
   ⟨0x104, 0x10, 8, 0,
    [⟨31, 16, .rc, [], false⟩, ⟨15, 8, .rc, [], false⟩, ⟨2, 0, .ro, [], false⟩]⟩,
   ⟨0x180, 0x10, 8, 0,
    [⟨31, 30, .rw, [], true⟩, ⟨29, 26, .rw, [], true⟩, ⟨25, 22, .rw, [], true⟩, ⟨21, 18, .rw, [], true⟩, ⟨17, 14, .rw, [], true⟩, ⟨12, 12, .rw, [], true⟩, ⟨11, 0, .rw, [], true⟩]⟩,
   ⟨0x184, 0x10, 8, 0,
    [⟨31, 16, .rc, [], false⟩]⟩]

/-- Register rows of block fab. -/
def rows_fab : List RegRow :=
  [⟨0x0, 0x0, 1, 0,
    [⟨31, 31, .w1s, [], false⟩, ⟨8, 8, .rw, [], true⟩]⟩,
   ⟨0x4, 0x0, 1, 0,
    [⟨15, 8, .rc, [], false⟩]⟩,
   ⟨0x8, 0x0, 1, 0,
    [⟨5, 5, .w1c, [], false⟩, ⟨4, 4, .w1c, [], false⟩, ⟨3, 3, .w1c, [], false⟩, ⟨2, 2, .w1c, [], false⟩, ⟨1, 1, .w1c, [], false⟩, ⟨0, 0, .w1c, [], false⟩]⟩,
   ⟨0xc, 0x0, 1, 0,
    [⟨3, 0, .ro, [], true⟩]⟩,
   ⟨0x14, 0x0, 1, 0,
    [⟨7, 0, .wo, [], false⟩]⟩,
   ⟨0x20, 0x4, 16, 0,
    [⟨31, 30, .ro, [], true⟩, ⟨29, 26, .ro, [], true⟩, ⟨7, 0, .ro, [], true⟩]⟩,
   ⟨0x60, 0x4, 8, 0,
    [⟨31, 31, .rw, [], true⟩, ⟨30, 29, .rw, [], true⟩, ⟨28, 25, .rw, [], true⟩, ⟨3, 0, .rw, [], true⟩]⟩,
   ⟨0x80, 0x4, 4, 0,
    [⟨31, 31, .rw, [], true⟩, ⟨13, 12, .rw, [], true⟩, ⟨11, 0, .rw, [], true⟩]⟩,
   ⟨0x100, 0x0, 1, 0,
    [⟨31, 16, .rw, [], false⟩, ⟨15, 8, .rw, [], false⟩, ⟨7, 2, .rw, [(0, 47), (63, 63)], false⟩, ⟨1, 1, .w1s, [], false⟩, ⟨0, 0, .w1s, [], false⟩]⟩,
   ⟨0x104, 0x0, 1, 0,
    [⟨15, 8, .ro, [], false⟩, ⟨1, 0, .ro, [], false⟩]⟩,
   ⟨0x108, 0x0, 1, 1,
    [⟨31, 0, .ro, [], false⟩]⟩,
   ⟨0x10c, 0x0, 1, 2,
    [⟨31, 0, .ro, [], false⟩]⟩,
   ⟨0x110, 0x0, 1, 0,
    [⟨6, 0, .rw, [(0, 111)], false⟩]⟩,
   ⟨0x114, 0x0, 1, 0,
    [⟨31, 0, .ro, [], false⟩]⟩,
   ⟨0x120, 0x0, 1, 0,
    [⟨8, 8, .rw, [], false⟩, ⟨7, 1, .rw, [], false⟩, ⟨0, 0, .w1s, [], false⟩]⟩,
   ⟨0x124, 0x0, 1, 0,
    [⟨11, 8, .ro, [], false⟩, ⟨6, 4, .ro, [], false⟩, ⟨1, 0, .ro, [], false⟩]⟩,
   ⟨0x128, 0x0, 1, 0,
    [⟨9, 9, .ro, [], false⟩, ⟨8, 8, .ro, [], false⟩, ⟨7, 4, .ro, [], false⟩, ⟨3, 0, .ro, [], false⟩]⟩,
   ⟨0x130, 0x4, 4, 0,
    [⟨7, 7, .ro, [], false⟩, ⟨6, 0, .ro, [], false⟩]⟩,
   ⟨0x140, 0x0, 1, 0,
    [⟨28, 24, .rw, [(0, 15)], false⟩, ⟨9, 0, .rw, [], false⟩]⟩,
   ⟨0x144, 0x0, 1, 1,
    [⟨31, 0, .rw, [], false⟩]⟩,
   ⟨0x148, 0x0, 1, 2,
    [⟨3, 0, .rw, [], false⟩]⟩,
   ⟨0x200, 0x4, 16, 0,
    [⟨20, 16, .ro, [], false⟩, ⟨15, 8, .rc, [], false⟩, ⟨1, 0, .ro, [], false⟩]⟩,
   ⟨0x400, 0x4, 64, 0,
    [⟨31, 0, .rw, [], true⟩]⟩,
   ⟨0x500, 0x0, 1, 0,
    [⟨31, 0, .ro, [], true⟩]⟩,
   ⟨0x504, 0x0, 1, 0,
    [⟨31, 0, .ro, [], true⟩]⟩] ++
  [⟨0x10000, 0x40, 16, 0,
    [⟨31, 31, .rw, [], true⟩, ⟨29, 28, .rw, [(0, 2)], true⟩, ⟨27, 26, .rw, [], true⟩, ⟨25, 24, .rw, [(0, 2)], true⟩, ⟨23, 22, .rw, [(0, 2)], true⟩, ⟨21, 18, .rw, [], true⟩, ⟨17, 15, .rw, [], true⟩, ⟨14, 10, .rw, [(0, 24)], true⟩, ⟨9, 5, .rw, [(0, 24)], true⟩]⟩,
   ⟨0x10004, 0x40, 16, 0,
    [⟨27, 16, .rw, [], true⟩, ⟨11, 0, .rw, [], true⟩]⟩,
   ⟨0x10008, 0x40, 16, 0,
    [⟨19, 19, .ro, [], false⟩, ⟨18, 18, .ro, [], false⟩, ⟨17, 17, .ro, [], false⟩, ⟨16, 16, .ro, [], false⟩, ⟨12, 0, .ro, [], false⟩]⟩,
   ⟨0x1000c, 0x40, 16, 0,
    [⟨3, 3, .w1c, [], false⟩, ⟨2, 2, .w1c, [], false⟩, ⟨1, 1, .w1c, [], false⟩, ⟨0, 0, .w1c, [], false⟩]⟩,
   ⟨0x10010, 0x40, 16, 0,
    [⟨31, 16, .rc, [], false⟩, ⟨15, 8, .rc, [], false⟩, ⟨7, 0, .rc, [], false⟩]⟩,
   ⟨0x10018, 0x40, 16, 1,
    [⟨31, 0, .ro, [], false⟩]⟩,
   ⟨0x1001c, 0x40, 16, 2,
    [⟨31, 0, .ro, [], false⟩]⟩,
   ⟨0x10020, 0x40, 16, 0,
    [⟨0, 0, .wo, [], false⟩]⟩]

/-- Register rows of block cfg. -/
def rows_cfg : List RegRow :=
  [⟨0x10000, 0x0, 1, 0,
    [⟨31, 31, .w1s, [], false⟩, ⟨16, 16, .rwl, [], false⟩, ⟨11, 8, .rwl, [(1, 15)], false⟩]⟩,
   ⟨0x10004, 0x0, 1, 0,
    [⟨31, 28, .ro, [], false⟩, ⟨27, 24, .ro, [], false⟩, ⟨23, 21, .ro, [], false⟩, ⟨12, 8, .ro, [], false⟩, ⟨3, 2, .ro, [], false⟩, ⟨1, 1, .ro, [], false⟩, ⟨0, 0, .ro, [], false⟩]⟩,
   ⟨0x10008, 0x0, 1, 0,
    [⟨6, 6, .w1c, [], false⟩, ⟨5, 5, .w1c, [], false⟩, ⟨4, 4, .w1c, [], false⟩, ⟨3, 3, .w1c, [], false⟩, ⟨2, 2, .w1c, [], false⟩, ⟨1, 1, .w1c, [], false⟩, ⟨0, 0, .w1c, [], false⟩]⟩,
   ⟨0x1000c, 0x0, 1, 0,
    [⟨31, 24, .ro, [], false⟩, ⟨19, 18, .ro, [], false⟩, ⟨17, 17, .ro, [], false⟩, ⟨15, 0, .ro, [], false⟩]⟩,
   ⟨0x10010, 0x0, 1, 0,
    [⟨31, 0, .ro, [], false⟩]⟩,
   ⟨0x10020, 0x0, 1, 0,
    [⟨17, 16, .rw, [(0, 2)], false⟩, ⟨0, 0, .w1s, [], false⟩]⟩,
   ⟨0x10024, 0x0, 1, 0,
    [⟨31, 31, .rw, [], false⟩, ⟨30, 0, .rw, [], false⟩]⟩,
   ⟨0x10028, 0x0, 1, 1,
    [⟨31, 0, .rw, [], false⟩]⟩,
   ⟨0x1002c, 0x0, 1, 2,
    [⟨31, 0, .rw, [], false⟩]⟩,
   ⟨0x10030, 0x0, 1, 0,
    [⟨31, 0, .rw, [], false⟩]⟩,
   ⟨0x10034, 0x0, 1, 0,
    [⟨12, 8, .ro, [], false⟩, ⟨6, 4, .ro, [], false⟩, ⟨1, 0, .ro, [], false⟩]⟩,
   ⟨0x10040, 0x0, 1, 0,
    [⟨31, 0, .wo, [], false⟩]⟩,
   ⟨0x10044, 0x0, 1, 0,
    [⟨16, 16, .w1c, [], false⟩, ⟨10, 0, .ro, [], false⟩]⟩,
   ⟨0x10054, 0x0, 1, 0,
    [⟨31, 16, .rc, [], false⟩, ⟨15, 0, .rc, [], false⟩]⟩,
   ⟨0x10058, 0x0, 1, 0,
    [⟨31, 0, .ro, [], false⟩]⟩,
   ⟨0x10060, 0x0, 1, 0,
    [⟨31, 31, .w1s, [], false⟩, ⟨17, 16, .rw, [(0, 2)], false⟩, ⟨15, 12, .ro, [], false⟩, ⟨11, 10, .ro, [], false⟩, ⟨5, 0, .rw, [], false⟩]⟩,
   ⟨0x10064, 0x0, 1, 0,
    [⟨31, 31, .rw, [], false⟩, ⟨30, 0, .rw, [], false⟩]⟩,
   ⟨0x10070, 0x0, 1, 1,
    [⟨31, 3, .rw, [], false⟩, ⟨0, 0, .rw, [], false⟩]⟩,
   ⟨0x10074, 0x0, 1, 2,
    [⟨31, 0, .rw, [], false⟩]⟩,
   ⟨0x10100, 0x4, 64, 0,
    [⟨31, 0, .rw, [], false⟩]⟩]

/-- Register rows of block sec. -/
def rows_sec : List RegRow :=
  [⟨0x20000, 0x0, 1, 0,
    [⟨31, 31, .ro, [], false⟩, ⟨30, 30, .ro, [], false⟩, ⟨29, 29, .ro, [], false⟩, ⟨28, 28, .ro, [], false⟩, ⟨6, 0, .ro, [], false⟩]⟩,
   ⟨0x20004, 0x0, 1, 0,
    [⟨15, 0, .ro, [], false⟩]⟩,
   ⟨0x20008, 0x0, 1, 0,
    [⟨2, 2, .w1c, [], false⟩, ⟨1, 1, .w1c, [], false⟩, ⟨0, 0, .w1c, [], false⟩]⟩,
   ⟨0x20010, 0x4, 4, 0,
    [⟨31, 0, .ro, [], false⟩]⟩,
   ⟨0x20020, 0x0, 1, 0,
    [⟨31, 31, .w1s, [], false⟩, ⟨23, 16, .rw, [], false⟩, ⟨15, 8, .rw, [], false⟩, ⟨3, 0, .rw, [(1, 3)], false⟩]⟩,
   ⟨0x20024, 0x0, 1, 0,
    [⟨11, 8, .ro, [], false⟩, ⟨1, 0, .ro, [], false⟩]⟩,
   ⟨0x20034, 0x0, 1, 1,
    [⟨31, 0, .rw, [], false⟩]⟩,
   ⟨0x20038, 0x0, 1, 2,
    [⟨31, 0, .rw, [], false⟩]⟩,
   ⟨0x2003c, 0x0, 1, 0,
    [⟨31, 0, .rw, [], false⟩]⟩,
   ⟨0x20040, 0x0, 1, 0,
    [⟨0, 0, .w1s, [], false⟩]⟩]

/-- Register rows of block spr. -/
def rows_spr : List RegRow :=
  [⟨0x30000, 0x0, 1, 0,
    [⟨31, 31, .w1s, [], false⟩, ⟨0, 0, .rw, [], true⟩]⟩,
   ⟨0x30004, 0x0, 1, 0,
    [⟨28, 16, .ro, [], false⟩, ⟨2, 2, .ro, [], false⟩, ⟨1, 1, .ro, [], false⟩]⟩,
   ⟨0x30008, 0x0, 1, 0,
    [⟨5, 5, .w1c, [], false⟩, ⟨4, 4, .w1c, [], false⟩, ⟨3, 3, .w1c, [], false⟩, ⟨2, 2, .w1c, [], false⟩, ⟨1, 1, .w1c, [], false⟩, ⟨0, 0, .w1c, [], false⟩]⟩,
   ⟨0x3000c, 0x0, 1, 0,
    [⟨31, 16, .ro, [], false⟩, ⟨15, 0, .ro, [], false⟩]⟩,
   ⟨0x30010, 0x0, 1, 0,
    [⟨18, 0, .ro, [], false⟩]⟩,
   ⟨0x30014, 0x0, 1, 0,
    [⟨23, 0, .ro, [], false⟩]⟩,
   ⟨0x30018, 0x0, 1, 0,
    [⟨23, 0, .ro, [], false⟩]⟩,
   ⟨0x3001c, 0x0, 1, 0,
    [⟨23, 0, .ro, [], false⟩]⟩,
   ⟨0x30020, 0x0, 1, 0,
    [⟨31, 31, .w1s, [], false⟩, ⟨27, 16, .rw, [], false⟩, ⟨3, 0, .rw, [(1, 4)], false⟩]⟩,
   ⟨0x30024, 0x0, 1, 0,
    [⟨11, 8, .ro, [], false⟩, ⟨1, 0, .ro, [], false⟩]⟩,
   ⟨0x30028, 0x0, 1, 0,
    [⟨11, 0, .rw, [], true⟩]⟩,
   ⟨0x30030, 0x0, 1, 0,
    [⟨31, 31, .rw, [], false⟩, ⟨30, 28, .rw, [], false⟩, ⟨27, 26, .rw, [], false⟩, ⟨25, 24, .rw, [(0, 2)], false⟩, ⟨23, 0, .rw, [], false⟩]⟩,
   ⟨0x30034, 0x0, 1, 0,
    [⟨31, 16, .rw, [], false⟩, ⟨15, 0, .rw, [], false⟩]⟩,
   ⟨0x30038, 0x0, 1, 0,
    [⟨19, 0, .rw, [], false⟩]⟩,
   ⟨0x3003c, 0x0, 1, 0,
    [⟨31, 29, .ro, [], false⟩, ⟨27, 24, .ro, [], false⟩, ⟨23, 20, .ro, [], false⟩, ⟨18, 0, .ro, [], false⟩]⟩,
   ⟨0x30040, 0x0, 1, 0,
    [⟨31, 0, .ro, [], false⟩]⟩,
   ⟨0x30044, 0x0, 1, 0,
    [⟨31, 16, .ro, [], false⟩, ⟨15, 0, .ro, [], false⟩]⟩,
   ⟨0x30050, 0x0, 1, 0,
    [⟨31, 0, .rc, [], false⟩]⟩,
   ⟨0x30054, 0x0, 1, 0,
    [⟨31, 0, .rc, [], false⟩]⟩,
   ⟨0x30058, 0x0, 1, 0,
    [⟨31, 0, .ro, [], false⟩]⟩,
   ⟨0x3005c, 0x0, 1, 0,
    [⟨14, 0, .ro, [], false⟩]⟩,
   ⟨0x30060, 0x0, 1, 0,
    [⟨31, 28, .ro, [], false⟩, ⟨11, 0, .ro, [], false⟩]⟩]

/-- Register rows of block pmap. -/
def rows_pmap : List RegRow :=
  [⟨0x40000, 0x0, 1, 0,
    [⟨31, 31, .w1s, [], false⟩, ⟨9, 9, .rw, [], false⟩, ⟨8, 8, .rw, [], false⟩, ⟨1, 1, .rw, [], false⟩, ⟨0, 0, .rw, [], false⟩]⟩,
   ⟨0x40004, 0x0, 1, 0,
    [⟨31, 19, .ro, [], false⟩, ⟨16, 8, .ro, [], false⟩, ⟨2, 2, .ro, [], false⟩, ⟨1, 0, .ro, [], false⟩]⟩,
   ⟨0x40008, 0x0, 1, 0,
    [⟨6, 6, .w1c, [], false⟩, ⟨5, 5, .w1c, [], false⟩, ⟨4, 4, .w1c, [], false⟩, ⟨3, 3, .w1c, [], false⟩, ⟨2, 2, .w1c, [], false⟩, ⟨1, 1, .w1c, [], false⟩, ⟨0, 0, .w1c, [], false⟩]⟩,
   ⟨0x4000c, 0x0, 1, 0,
    [⟨15, 0, .rw, [(100, 16000)], false⟩]⟩,
   ⟨0x40010, 0x0, 1, 1,
    [⟨31, 9, .rw, [], false⟩, ⟨1, 1, .rw, [], false⟩, ⟨0, 0, .rw, [], false⟩]⟩,
   ⟨0x40014, 0x0, 1, 2,
    [⟨31, 0, .rw, [], false⟩]⟩,
   ⟨0x40018, 0x0, 1, 1,
    [⟨31, 9, .rw, [], false⟩, ⟨1, 1, .rw, [], false⟩, ⟨0, 0, .rw, [], false⟩]⟩,
   ⟨0x4001c, 0x0, 1, 2,
    [⟨31, 0, .rw, [], false⟩]⟩,
   ⟨0x40020, 0x0, 1, 0,
    [⟨31, 31, .w1s, [], false⟩, ⟨27, 16, .rw, [], false⟩, ⟨3, 0, .rw, [(1, 5)], false⟩]⟩,
   ⟨0x40024, 0x0, 1, 0,
    [⟨28, 16, .ro, [], false⟩, ⟨11, 8, .ro, [], false⟩, ⟨1, 0, .ro, [], false⟩]⟩,
   ⟨0x40028, 0x0, 1, 0,
    [⟨15, 0, .rw, [], false⟩]⟩,
   ⟨0x40030, 0x0, 1, 0,
    [⟨31, 28, .ro, [], false⟩, ⟨27, 27, .ro, [], false⟩, ⟨26, 24, .ro, [], false⟩, ⟨11, 0, .ro, [], false⟩]⟩,
   ⟨0x40038, 0x0, 1, 1,
    [⟨31, 0, .ro, [], false⟩]⟩,
   ⟨0x4003c, 0x0, 1, 2,
    [⟨31, 0, .ro, [], false⟩]⟩,
   ⟨0x40040, 0x0, 1, 0,
    [⟨31, 0, .ro, [], false⟩]⟩,
   ⟨0x40044, 0x0, 1, 0,
    [⟨31, 0, .ro, [], false⟩]⟩,
   ⟨0x40048, 0x0, 1, 0,
    [⟨31, 0, .rc, [], false⟩]⟩,
   ⟨0x40050, 0x0, 1, 0,
    [⟨11, 0, .rw, [], false⟩]⟩,
   ⟨0x40054, 0x0, 1, 0,
    [⟨31, 24, .ro, [], false⟩, ⟨23, 23, .ro, [], false⟩, ⟨19, 16, .ro, [], false⟩, ⟨15, 0, .ro, [], false⟩]⟩,
   ⟨0x40058, 0x0, 1, 1,
    [⟨31, 0, .ro, [], false⟩]⟩,
   ⟨0x4005c, 0x0, 1, 2,
    [⟨31, 0, .ro, [], false⟩]⟩,
   ⟨0x40100, 0x4, 128, 0,
    [⟨31, 0, .ro, [], false⟩]⟩,
   ⟨0x40400, 0x10, 16, 1,
    [⟨31, 12, .rwl, [], false⟩, ⟨1, 1, .rwl, [], false⟩, ⟨0, 0, .rwl, [], false⟩]⟩,
   ⟨0x40404, 0x10, 16, 2,
    [⟨31, 0, .rwl, [], false⟩]⟩,
   ⟨0x40408, 0x10, 16, 1,
    [⟨31, 12, .rwl, [], false⟩]⟩] ++
  [⟨0x4040c, 0x10, 16, 2,
    [⟨31, 0, .rwl, [], false⟩]⟩]

/-- Register rows of block herd. -/
def rows_herd : List RegRow :=
  [⟨0x60000, 0x0, 1, 0,
    [⟨31, 31, .w1s, [], false⟩, ⟨23, 20, .rw, [], true⟩, ⟨19, 19, .rw, [], true⟩, ⟨15, 10, .rw, [], true⟩, ⟨8, 8, .rw, [], true⟩, ⟨2, 2, .rw, [], true⟩, ⟨1, 1, .rw, [], true⟩, ⟨0, 0, .rw, [], true⟩]⟩,
   ⟨0x60004, 0x0, 1, 0,
    [⟨31, 30, .ro, [], false⟩, ⟨29, 28, .ro, [], false⟩, ⟨27, 27, .ro, [], false⟩, ⟨26, 26, .ro, [], false⟩, ⟨21, 16, .ro, [], false⟩]⟩,
   ⟨0x60008, 0x0, 1, 0,
    [⟨8, 8, .w1c, [], false⟩, ⟨7, 7, .w1c, [], false⟩, ⟨6, 6, .w1c, [], false⟩, ⟨5, 5, .w1c, [], false⟩, ⟨4, 4, .w1c, [], false⟩, ⟨3, 3, .w1c, [], false⟩, ⟨2, 2, .w1c, [], false⟩, ⟨1, 1, .w1c, [], false⟩, ⟨0, 0, .w1c, [], false⟩]⟩,
   ⟨0x6000c, 0x0, 1, 0,
    [⟨13, 0, .rwl, [], true⟩]⟩,
   ⟨0x60010, 0x0, 1, 0,
    [⟨18, 16, .ro, [], false⟩, ⟨13, 0, .ro, [], false⟩]⟩,
   ⟨0x60014, 0x0, 1, 0,
    [⟨14, 0, .ro, [], false⟩]⟩,
   ⟨0x60018, 0x0, 1, 0,
    [⟨31, 16, .ro, [], false⟩, ⟨15, 0, .ro, [], false⟩]⟩,
   ⟨0x60020, 0x0, 1, 1,
    [⟨31, 0, .ro, [], false⟩]⟩,
   ⟨0x60024, 0x0, 1, 2,
    [⟨31, 0, .ro, [], false⟩]⟩,
   ⟨0x60028, 0x0, 1, 1,
    [⟨31, 0, .rw, [], false⟩]⟩,
   ⟨0x6002c, 0x0, 1, 2,
    [⟨31, 0, .rw, [], false⟩]⟩,
   ⟨0x60040, 0x0, 1, 0,
    [⟨31, 0, .rw, [], false⟩]⟩,
   ⟨0x60044, 0x0, 1, 0,
    [⟨31, 0, .ro, [], false⟩]⟩,
   ⟨0x60048, 0x0, 1, 0,
    [⟨31, 0, .ro, [], false⟩]⟩,
   ⟨0x6004c, 0x0, 1, 0,
    [⟨31, 24, .rw, [], true⟩, ⟨23, 0, .rw, [], true⟩]⟩,
   ⟨0x60050, 0x0, 1, 0,
    [⟨31, 16, .rw, [], true⟩, ⟨15, 0, .rw, [], true⟩]⟩,
   ⟨0x60080, 0x4, 16, 0,
    [⟨31, 16, .rw, [], false⟩, ⟨15, 0, .rw, [], false⟩]⟩,
   ⟨0x60100, 0x20, 6, 0,
    [⟨31, 30, .ro, [], false⟩, ⟨29, 16, .ro, [], false⟩, ⟨15, 13, .ro, [], false⟩, ⟨12, 12, .ro, [], false⟩]⟩,
   ⟨0x60104, 0x20, 6, 0,
    [⟨31, 16, .rc, [], false⟩, ⟨15, 0, .rc, [], false⟩]⟩,
   ⟨0x60108, 0x20, 6, 0,
    [⟨15, 0, .rwl, [], true⟩]⟩]

/-- Register rows of block hub. -/
def rows_hub : List RegRow :=
  [⟨0x0, 0x0, 1, 0,
    [⟨31, 16, .ro, [], false⟩, ⟨15, 8, .ro, [], false⟩, ⟨0, 0, .ro, [], false⟩]⟩,
   ⟨0x4, 0x0, 1, 0,
    [⟨7, 7, .ro, [], false⟩, ⟨6, 6, .ro, [], false⟩, ⟨5, 5, .ro, [], false⟩, ⟨4, 4, .ro, [], false⟩, ⟨3, 3, .ro, [], false⟩, ⟨2, 2, .ro, [], false⟩, ⟨1, 1, .ro, [], false⟩, ⟨0, 0, .ro, [], false⟩]⟩,
   ⟨0x8, 0x0, 1, 0,
    [⟨7, 7, .rw, [], false⟩, ⟨6, 6, .rw, [], false⟩, ⟨5, 5, .rw, [], false⟩, ⟨4, 4, .rw, [], false⟩, ⟨3, 3, .rw, [], false⟩, ⟨2, 2, .rw, [], false⟩, ⟨1, 1, .rw, [], false⟩, ⟨0, 0, .rw, [], false⟩]⟩,
   ⟨0xc, 0x0, 1, 0,
    [⟨31, 31, .rw, [], false⟩, ⟨30, 30, .rw, [], false⟩, ⟨21, 16, .rw, [], false⟩, ⟨13, 8, .rw, [], false⟩, ⟨0, 0, .rw, [], false⟩]⟩]

/-- Register rows of block host. -/
def rows_host : List RegRow :=
  [⟨0x50000, 0x100, 2, 0,
    [⟨8, 8, .w1s, [], false⟩, ⟨5, 4, .rw, [(0, 2)], false⟩, ⟨2, 0, .rw, [(0, 4)], false⟩]⟩,
   ⟨0x50004, 0x100, 2, 0,
    [⟨31, 30, .ro, [], false⟩, ⟨29, 27, .ro, [], false⟩, ⟨26, 25, .ro, [], false⟩, ⟨24, 24, .ro, [], false⟩, ⟨23, 20, .ro, [], false⟩, ⟨19, 19, .ro, [], false⟩, ⟨18, 18, .ro, [], false⟩, ⟨17, 17, .ro, [], false⟩, ⟨16, 16, .ro, [], false⟩, ⟨15, 15, .ro, [], false⟩]⟩,
   ⟨0x50008, 0x100, 2, 0,
    [⟨7, 7, .w1c, [], false⟩, ⟨6, 6, .w1c, [], false⟩, ⟨5, 5, .w1c, [], false⟩, ⟨4, 4, .w1c, [], false⟩, ⟨3, 3, .w1c, [], false⟩, ⟨2, 2, .w1c, [], false⟩, ⟨1, 1, .w1c, [], false⟩, ⟨0, 0, .w1c, [], false⟩]⟩,
   ⟨0x5000c, 0x100, 2, 0,
    [⟨31, 16, .rc, [], false⟩, ⟨15, 0, .rc, [], false⟩]⟩,
   ⟨0x50200, 0x0, 1, 0,
    [⟨31, 31, .w1s, [], false⟩, ⟨8, 8, .rwl, [], false⟩, ⟨6, 0, .ro, [], false⟩]⟩,
   ⟨0x50204, 0x0, 1, 0,
    [⟨31, 31, .ro, [], false⟩, ⟨22, 16, .ro, [], false⟩, ⟨15, 0, .rc, [], false⟩]⟩]

/-- Register rows of block pin. -/
def rows_pin : List RegRow :=
  [⟨0x70000, 0x0, 1, 0,
    [⟨31, 31, .w1s, [], false⟩, ⟨8, 8, .rw, [], false⟩, ⟨4, 4, .rw, [], true⟩]⟩,
   ⟨0x70004, 0x0, 1, 0,
    [⟨31, 16, .rc, [], false⟩, ⟨15, 8, .rc, [], false⟩]⟩,
   ⟨0x70008, 0x0, 1, 0,
    [⟨31, 16, .w1c, [], false⟩, ⟨2, 2, .w1c, [], false⟩, ⟨1, 1, .w1c, [], false⟩, ⟨0, 0, .w1c, [], false⟩]⟩,
   ⟨0x7000c, 0x0, 1, 0,
    [⟨31, 31, .ro, [], false⟩, ⟨19, 16, .ro, [], false⟩, ⟨7, 0, .ro, [], false⟩]⟩,
   ⟨0x70020, 0x4, 6, 0,
    [⟨31, 0, .ro, [], false⟩]⟩,
   ⟨0x70040, 0x4, 6, 0,
    [⟨31, 0, .rw, [], true⟩]⟩,
   ⟨0x70060, 0x4, 6, 0,
    [⟨31, 0, .wo, [], false⟩]⟩,
   ⟨0x70080, 0x4, 6, 0,
    [⟨31, 0, .wo, [], false⟩]⟩,
   ⟨0x70100, 0x8, 16, 0,
    [⟨31, 31, .rw, [], true⟩, ⟨30, 30, .wo, [], false⟩, ⟨29, 28, .rw, [(1, 3)], true⟩, ⟨15, 0, .ro, [], false⟩]⟩,
   ⟨0x70104, 0x8, 16, 0,
    [⟨31, 0, .ro, [], false⟩]⟩,
   ⟨0x71000, 0x8, 192, 0,
    [⟨31, 16, .rwl, [], true⟩, ⟨15, 14, .ro, [], true⟩, ⟨13, 13, .rwl, [], true⟩, ⟨12, 12, .rwl, [], true⟩, ⟨11, 10, .rwl, [], true⟩, ⟨9, 8, .rwl, [], true⟩, ⟨7, 6, .rwl, [], true⟩, ⟨5, 5, .rwl, [], true⟩, ⟨4, 4, .rwl, [], true⟩, ⟨3, 3, .rwl, [], true⟩, ⟨2, 2, .rwl, [], true⟩]⟩,
   ⟨0x71004, 0x8, 192, 0,
    [⟨19, 16, .rwl, [], true⟩, ⟨12, 8, .rwl, [], true⟩, ⟨3, 0, .rwl, [], true⟩]⟩]

/-- Register rows of block sett. -/
def rows_sett : List RegRow :=
  [⟨0x100000, 0x0, 1, 0,
    [⟨31, 16, .ro, [], false⟩, ⟨13, 13, .ro, [], false⟩, ⟨12, 12, .ro, [], false⟩, ⟨11, 11, .ro, [], false⟩, ⟨10, 10, .ro, [], false⟩, ⟨9, 9, .ro, [], false⟩, ⟨8, 8, .ro, [], false⟩, ⟨3, 0, .ro, [], false⟩]⟩,
   ⟨0x100004, 0x0, 1, 0,
    [⟨31, 31, .w1s, [], false⟩, ⟨27, 24, .rw, [(1, 13)], false⟩, ⟨23, 16, .rw, [], false⟩, ⟨15, 0, .rw, [], false⟩]⟩,
   ⟨0x100008, 0x0, 1, 0,
    [⟨11, 8, .ro, [], false⟩, ⟨1, 0, .ro, [], false⟩]⟩,
   ⟨0x10000c, 0x0, 1, 0,
    [⟨31, 31, .w1s, [], false⟩, ⟨30, 30, .rw, [], true⟩, ⟨29, 29, .rw, [], true⟩, ⟨27, 24, .rw, [], true⟩, ⟨15, 0, .rw, [], true⟩]⟩,
   ⟨0x100010, 0x0, 1, 0,
    [⟨7, 7, .w1c, [], false⟩, ⟨6, 6, .w1c, [], false⟩, ⟨5, 5, .w1c, [], false⟩, ⟨4, 4, .w1c, [], false⟩, ⟨3, 3, .w1c, [], false⟩, ⟨2, 2, .w1c, [], false⟩, ⟨1, 1, .w1c, [], false⟩, ⟨0, 0, .w1c, [], false⟩]⟩,
   ⟨0x100014, 0x0, 1, 0,
    [⟨15, 8, .ro, [], false⟩, ⟨7, 0, .ro, [], false⟩]⟩,
   ⟨0x100018, 0x0, 1, 0,
    [⟨31, 28, .ro, [], false⟩, ⟨2, 2, .rw, [], true⟩, ⟨1, 1, .rw, [], true⟩, ⟨0, 0, .rw, [], true⟩]⟩,
   ⟨0x10001c, 0x0, 1, 0,
    [⟨31, 0, .rw, [], false⟩]⟩,
   ⟨0x100020, 0x0, 1, 1,
    [⟨31, 0, .ro, [], false⟩]⟩,
   ⟨0x100024, 0x0, 1, 2,
    [⟨15, 0, .ro, [], false⟩]⟩,
   ⟨0x100030, 0x4, 4, 0,
    [⟨31, 31, .rw, [], false⟩, ⟨12, 8, .rw, [], false⟩, ⟨7, 0, .rw, [], false⟩]⟩,
   ⟨0x100040, 0x0, 1, 0,
    [⟨31, 16, .ro, [], false⟩]⟩,
   ⟨0x100044, 0x0, 1, 0,
    [⟨31, 0, .ro, [], false⟩]⟩,
   ⟨0x100048, 0x0, 1, 0,
    [⟨23, 16, .rwl, [(0, 100)], true⟩, ⟨15, 0, .rwl, [], true⟩]⟩,
   ⟨0x10004c, 0x0, 1, 0,
    [⟨27, 16, .ro, [], false⟩, ⟨3, 0, .ro, [], false⟩]⟩,
   ⟨0x100050, 0x0, 1, 0,
    [⟨31, 0, .ro, [], false⟩]⟩,
   ⟨0x100060, 0x0, 1, 0,
    [⟨31, 31, .rw, [], true⟩, ⟨23, 16, .rw, [(1, 255)], true⟩, ⟨11, 0, .rw, [], true⟩]⟩,
   ⟨0x100064, 0x0, 1, 0,
    [⟨31, 16, .rc, [], false⟩, ⟨1, 1, .w1c, [], false⟩, ⟨0, 0, .ro, [], false⟩]⟩,
   ⟨0x100080, 0x4, 12, 0,
    [⟨31, 16, .ro, [], false⟩, ⟨15, 0, .ro, [], false⟩]⟩,
   ⟨0x101000, 0x10, 128, 0,
    [⟨31, 0, .ro, [], false⟩]⟩,
   ⟨0x101004, 0x10, 128, 0,
    [⟨31, 0, .ro, [], false⟩]⟩,
   ⟨0x101008, 0x10, 128, 0,
    [⟨31, 0, .ro, [], false⟩]⟩,
   ⟨0x10100c, 0x10, 128, 0,
    [⟨31, 31, .rw, [], false⟩, ⟨30, 30, .w1s, [], false⟩, ⟨20, 16, .rw, [], false⟩, ⟨11, 0, .rw, [], false⟩]⟩]

/-- Register rows of block rgn. -/
def rows_rgn : List RegRow :=
  [⟨0x0, 0x0, 1, 0,
    [⟨31, 31, .w1s, [], false⟩, ⟨30, 30, .w1s, [], false⟩, ⟨11, 8, .rw, [], true⟩, ⟨7, 0, .rw, [], true⟩]⟩,
   ⟨0x4, 0x0, 1, 0,
    [⟨31, 30, .ro, [], true⟩, ⟨17, 16, .ro, [], false⟩, ⟨4, 4, .ro, [], false⟩, ⟨3, 3, .ro, [], false⟩, ⟨2, 2, .ro, [], false⟩, ⟨1, 1, .ro, [], false⟩, ⟨0, 0, .ro, [], false⟩]⟩,
   ⟨0x8, 0x0, 1, 0,
    [⟨3, 3, .w1c, [], false⟩, ⟨2, 2, .w1c, [], false⟩, ⟨1, 1, .w1c, [], false⟩, ⟨0, 0, .w1c, [], false⟩]⟩,
   ⟨0xc, 0x0, 1, 0,
    [⟨11, 8, .rw, [], true⟩, ⟨4, 0, .rw, [], true⟩]⟩,
   ⟨0x10, 0x0, 1, 0,
    [⟨15, 0, .rc, [], false⟩]⟩,
   ⟨0x14, 0x0, 1, 0,
    [⟨15, 0, .ro, [], false⟩]⟩,
   ⟨0x18, 0x0, 1, 0,
    [⟨23, 0, .ro, [], false⟩]⟩,
   ⟨0x20, 0x0, 1, 0,
    [⟨11, 0, .rw, [], false⟩]⟩,
   ⟨0x24, 0x0, 1, 0,
    [⟨31, 0, .ro, [], false⟩]⟩]

/-- The rows of a block. -/
def rowsOf : Blk → List RegRow
  | .ac => rows_ac
  | .cg => rows_cg
  | .pg => rows_pg
  | .le => rows_le
  | .fab => rows_fab
  | .cfg => rows_cfg
  | .sec => rows_sec
  | .spr => rows_spr
  | .pmap => rows_pmap
  | .herd => rows_herd
  | .hub => rows_hub
  | .host => rows_host
  | .pin => rows_pin
  | .sett => rows_sett
  | .rgn => rows_rgn

/-- The row that a block offset names, with its number in the family. -/
def findRow (off : Nat) : List RegRow → Option (RegRow × Nat)
  | [] => none
  | r :: l =>
    if r.off ≤ off ∧ (if r.stride = 0 then off = r.off else (off - r.off) % r.stride = 0 ∧ (off - r.off) / r.stride < r.count)
    then some (r, if r.stride = 0 then 0 else (off - r.off) / r.stride)
    else findRow off l

end Sys2Proof.Machine
end

