-- ==== Sys2Proof/Machine/Tab.lean ====
section
/-!
DEFINITION. Sparse data by number: a list of (number, value) pairs in one canonical form (numbers strictly rising, no
entry equal to what an unlisted number reads as), so that equal tables are equal data. Memories, register files and
every collection indexed by region, block or flow are held in it.
-/

namespace Sys2Proof.Machine

/-- The canonical form: keys strictly rising and no listed value equal to the default of its key. -/
def tabWf {α : Type} (d : Nat → α) (l : List (Nat × α)) : Prop :=
  l.Pairwise (fun a b => a.1 < b.1) ∧ ∀ c ∈ l, c.2 ≠ d c.1

/-- The cells without key k. -/
def tabErase {α : Type} (k : Nat) (l : List (Nat × α)) : List (Nat × α) := l.filter (fun c => c.1 != k)

/-- A cell inserted before the first larger key. -/
def tabInsert {α : Type} (k : Nat) (v : α) : List (Nat × α) → List (Nat × α)
  | [] => [(k, v)]
  | c :: l => if k < c.1 then (k, v) :: c :: l else c :: tabInsert k v l

/-- The cells after a write: the default removes the entry. -/
def tabSet {α : Type} [DecidableEq α] (d : Nat → α) (k : Nat) (v : α) (l : List (Nat × α)) : List (Nat × α) :=
  if v = d k then tabErase k l else tabInsert k v (tabErase k l)

/-- The value listed for a key, if any. -/
def tabFind {α : Type} (k : Nat) : List (Nat × α) → Option α
  | [] => none
  | c :: l => if c.1 = k then some c.2 else tabFind k l

theorem tabErase_wf {α : Type} {d : Nat → α} {l : List (Nat × α)} (k : Nat) (h : tabWf d l) :
    tabWf d (tabErase k l) :=
  ⟨h.1.filter _, fun c hc => h.2 c (List.mem_filter.1 hc).1⟩

theorem mem_tabErase_ne {α : Type} {l : List (Nat × α)} {k : Nat} {c : Nat × α} (h : c ∈ tabErase k l) : c.1 ≠ k := by
  simpa [tabErase] using (List.mem_filter.1 h).2

theorem mem_tabInsert {α : Type} {k : Nat} {v : α} {l : List (Nat × α)} {c : Nat × α} (h : c ∈ tabInsert k v l) :
    c = (k, v) ∨ c ∈ l := by
  induction l with
  | nil => simpa [tabInsert] using h
  | cons e l ih =>
    simp only [tabInsert] at h
    split at h
    · simpa using h
    · rcases List.mem_cons.1 h with h | h
      · simp [h]
      · rcases ih h with h | h <;> simp [h]

theorem tabInsert_pairwise {α : Type} {k : Nat} {v : α} {l : List (Nat × α)}
    (h : l.Pairwise (fun a b => a.1 < b.1)) (hk : ∀ c ∈ l, c.1 ≠ k) :
    (tabInsert k v l).Pairwise (fun a b => a.1 < b.1) := by
  induction l with
  | nil => simp [tabInsert]
  | cons e l ih =>
    simp only [tabInsert]
    have he := List.pairwise_cons.1 h
    have hne : e.1 ≠ k := hk e (by simp)
    split
    · rename_i hlt
      refine List.pairwise_cons.2 ⟨fun c hc => ?_, h⟩
      rcases List.mem_cons.1 hc with rfl | hc
      · exact hlt
      · exact lt_trans hlt (he.1 c hc)
    · refine List.pairwise_cons.2 ⟨fun c hc => ?_, ih he.2 fun c hc => hk c (by simp [hc])⟩
      rcases mem_tabInsert hc with rfl | hc
      · show e.1 < k
        omega
      · exact he.1 c hc

theorem tabSet_wf {α : Type} [DecidableEq α] {d : Nat → α} {l : List (Nat × α)} (k : Nat) (v : α) (h : tabWf d l) :
    tabWf d (tabSet d k v l) := by
  unfold tabSet
  split
  · exact tabErase_wf k h
  · rename_i hv
    have he := tabErase_wf k h
    refine ⟨tabInsert_pairwise he.1 fun c hc => mem_tabErase_ne hc, fun c hc => ?_⟩
    rcases mem_tabInsert hc with rfl | hc
    · exact hv
    · exact he.2 c hc

/-- A table whose unlisted keys read as d. -/
structure Tab (α : Type) (d : Nat → α) where
  cells : List (Nat × α)
  ok : tabWf d cells
  deriving DecidableEq, Repr

/-- The table that lists nothing. -/
def Tab.empty {α : Type} {d : Nat → α} : Tab α d := ⟨[], List.Pairwise.nil, fun _ h => nomatch h⟩

/-- The value at a key. -/
def Tab.get {α : Type} {d : Nat → α} (t : Tab α d) (k : Nat) : α := (tabFind k t.cells).getD (d k)

/-- The table with one key's value replaced. -/
def Tab.set {α : Type} [DecidableEq α] {d : Nat → α} (t : Tab α d) (k : Nat) (v : α) : Tab α d :=
  ⟨tabSet d k v t.cells, tabSet_wf k v t.ok⟩

/-- The table with a function applied at one key. -/
def Tab.upd {α : Type} [DecidableEq α] {d : Nat → α} (t : Tab α d) (k : Nat) (f : α → α) : Tab α d :=
  t.set k (f (t.get k))

/-- The table whose keys for which p fails are back at their defaults. -/
def Tab.keep {α : Type} {d : Nat → α} (t : Tab α d) (p : Nat → Bool) : Tab α d :=
  ⟨t.cells.filter (fun c => p c.1), t.ok.1.filter _, fun c hc => t.ok.2 c (List.mem_filter.1 hc).1⟩

/-- The table with a list of writes made in order. -/
def Tab.setAll {α : Type} [DecidableEq α] {d : Nat → α} (t : Tab α d) (l : List (Nat × α)) : Tab α d :=
  l.foldl (fun t c => t.set c.1 c.2) t

/-- The table with a function applied at every listed key. -/
def Tab.mapAll {α : Type} [DecidableEq α] {d : Nat → α} (t : Tab α d) (f : Nat → α → α) : Tab α d :=
  t.cells.foldl (fun u c => u.set c.1 (f c.1 c.2)) t

end Sys2Proof.Machine
end

