-- ==== Sys2Proof/Machine/State.lean ====
section
/-!
DEFINITION. The state of the block as plain data: every register of the register map under its BAR0 address, every
buffer, queue, latch and procedure the spec gives, and the queue of waiting commands. `State.reset` is the machine right
after reset.
-/

namespace Sys2Proof.Machine

/-- Why the machine stops with a fault. -/
inductive Fault where
  /-- Raised by `exec` for a command whose operands lie outside the ranges the spec gives them (an address outside the
  32 MiB of BAR0, a payload of another length): no such event exists. Safe: the model stops where no hardware step is. -/
  | illFormed (mnemonic : String)
  deriving DecidableEq, Repr

/-- Why the machine refuses a command. -/
inductive Refusal where
  /-- The command has no meaning in this model yet. Raised by `exec` only. Safe: nothing is claimed about it. -/
  | notModelled (mnemonic : String)
  deriving DecidableEq, Repr

/-! ### Reset values of registers -/

/-- The reset value of the word at a BAR0 address: 0 but for the registers whose summary gives another value, and for the
OTP and ledger fields that a factory-new part holds (log entries 4 and 5). IMG registers read 0 until an image is loaded
(log entry 3). -/
def regDefault (a : Nat) : Word :=
  if a < 0x100_0000 then
    -- PMAP_AGE_LIMIT, PMAP_FO_CFG, HERD_CAP_ROOT, HERD_CAP, CFG_FIFO_STAT, SETT_MODE (the summaries' own values)
    if a = 0x4000C then 0x3E8#32
    else if a = 0x40028 then 0x64#32
    else if a = 0x60040 ∨ a = 0x60044 then 0xFFFF_FFFF#32
    else if a = 0x10044 then 0x400#32
    else if a = 0x100000 then 0x2#32
    -- HUB_ID.PART (13_host_interfaces_and_pins.md, HUB_ID)
    else if a = 0x0 then 0x7A16_0000#32
    -- SETT_SPAREk: every spare of R523 present and free in a factory ledger
    else if a = 0x100080 then 0x00C0_00C0#32
    else if a = 0x100084 then 0x00C0_00C0#32
    else if a = 0x100088 then 0x0040_0040#32
    else if a = 0x10008C then 0x0010_0010#32
    else if a = 0x100090 then 0x0010_0010#32
    else if a = 0x100094 then 0x0040_0040#32
    else if a = 0x100098 then 0x0010_0010#32
    else if a = 0x10009C then 0x0200_0200#32
    else if a = 0x1000A0 then 0x0040_0040#32
    else if a = 0x1000A4 then 0x0020_0020#32
    else if a = 0x1000A8 then 0x0001_0001#32
    else if a = 0x1000AC then 0x0001_0001#32
    -- SETT_LIFE: 25 years of service (00_scope.md) projected, in months
    else if a = 0x100040 then 0x012C_0000#32
    else 0#32
  else
    let o := (a - 0x100_0000) % 0x10_0000
    if o < 0xC000 then
      let q := o % 0x1000
      -- AC_CELLn_STAT.PHYS = n, AC_SPARE_STAT.FREE, WC_SPARE_STAT.FREE, WC_CMPm_STAT.PHYS = m
      if 0x114 ≤ q ∧ q < 0x200 ∧ (q - 0x114) % 0x20 = 0 then BitVec.ofNat 32 ((q - 0x114) / 0x20 * 16)
      else if q = 0x200 ∨ q = 0x310 then 1#32
      else if q = 0x434 then 0x10#32
      else 0#32
    else if o < 0x2_4000 then 0#32
    else if o < 0x4_0000 then
      let q := o - 0x3_0000
      -- PG_SPARE_STAT.FREE, PG_CHcc_STAT.PHYS = cc
      if q = 0x18 then 1#32
      else if 0x1024 ≤ q ∧ q < 0x1424 ∧ (q - 0x1024) % 0x40 = 0 then BitVec.ofNat 32 ((q - 0x1024) / 0x40 * 2 ^ 24)
      else 0#32
    else if o < 0x5_0000 then
      let q := o - 0x4_0000
      -- LE_SPARE_STAT.FREE, LE_LANEMAP: logical lane l on physical lane l, three bits each
      if q = 0x38 then 1#32
      else if q = 0x3C then 0x688#32
      else 0#32
    else if o < 0x8_0000 then
      let q := o - 0x6_0000
      -- FAB_SPARE_STAT: four spare clusters and one block free; FAB_BMb_STAT: PHYS = b, two spare rows free
      if q = 0x128 then 0x10F#32
      else if 0x200 ≤ q ∧ q < 0x240 then BitVec.ofNat 32 ((q - 0x200) / 4 * 2 ^ 16 + 2)
      else 0#32
    else if o = 0xF_0018 then 0x00FF_FFFF#32
    else 0#32

/-- A register file of one block kind, keyed by BAR0 address. -/
abbrev RegFile := Tab Word regDefault

/-- The register files, one for each block kind (so that a write of one block's register leaves every other kind's file
alone by construction). -/
structure Regs where
  hub : RegFile
  cfg : RegFile
  sec : RegFile
  spr : RegFile
  pmap : RegFile
  host : RegFile
  herd : RegFile
  pin : RegFile
  sett : RegFile
  ac : RegFile
  cg : RegFile
  pg : RegFile
  le : RegFile
  fab : RegFile
  rgn : RegFile
  deriving DecidableEq, Repr

/-- The file of a block kind. -/
def Regs.tab (r : Regs) : Blk → RegFile
  | .hub => r.hub | .cfg => r.cfg | .sec => r.sec | .spr => r.spr | .pmap => r.pmap | .host => r.host
  | .herd => r.herd | .pin => r.pin | .sett => r.sett | .ac => r.ac | .cg => r.cg | .pg => r.pg | .le => r.le
  | .fab => r.fab | .rgn => r.rgn

/-- The files with one block kind's replaced. -/
def Regs.put (r : Regs) (b : Blk) (t : RegFile) : Regs :=
  match b with
  | .hub => { r with hub := t } | .cfg => { r with cfg := t } | .sec => { r with sec := t }
  | .spr => { r with spr := t } | .pmap => { r with pmap := t } | .host => { r with host := t }
  | .herd => { r with herd := t } | .pin => { r with pin := t } | .sett => { r with sett := t }
  | .ac => { r with ac := t } | .cg => { r with cg := t } | .pg => { r with pg := t } | .le => { r with le := t }
  | .fab => { r with fab := t } | .rgn => { r with rgn := t }

/-- The files with nothing written. -/
def Regs.reset : Regs :=
  { hub := .empty, cfg := .empty, sec := .empty, spr := .empty, pmap := .empty, host := .empty, herd := .empty,
    pin := .empty, sett := .empty, ac := .empty, cg := .empty, pg := .empty, le := .empty, fab := .empty, rgn := .empty }

/-- A table of numbers, 0 where nothing is listed. -/
abbrev NatTab := Tab Nat (fun _ => 0)

/-- A table of words, 0 where nothing is listed. -/
abbrev WordTab := Tab Word (fun _ => 0)

/-- A table of possibly absent 32-bit words. -/
abbrev OptTab := Tab (Option Word) (fun _ => none)

/-! ### Architecture (01_architecture.md) -/

/-- The Hub's time base and clocks. -/
structure HubS where
  /-- R54, R434: Herd Time, the Hub's 64-bit counter in units of 62.5 ps; reset 0. -/
  time : DWord
  /-- R437: the part of a count not yet added, in 10^-8; reset 0. -/
  frac : Nat
  /-- R199, R434: counts of 62.5 ps of the active timebase since power-up, which no step or slew of Herd Time touches;
  reset 0. -/
  base : Nat
  /-- R434: the counter runs (it starts when both timebase PLLs lock); reset false. -/
  timeOn : Bool
  /-- R55: the active timebase PLL, 0: A, 1: B; reset 0 (DESIGN CHOICE, log entry 8). -/
  pll : Nat
  /-- R55: the other PLL is consumed; reset false. -/
  pllSpareUsed : Bool
  /-- R56: REFCLK25 has stopped; reset false. -/
  refclkLost : Bool
  deriving DecidableEq, Repr

def HubS.reset : HubS :=
  { time := 0, frac := 0, base := 0, timeOn := false, pll := 0, pllSpareUsed := false, refclkLost := false }

/-- What a region holds beside its registers. -/
structure RgnS where
  /-- R52: the region's copy of Herd Time less the Hub's, in counts, when the copy was last read; 0 from a refresh on; reset 0. -/
  timeOfs : Int
  /-- R62, R63: a Gated or Cold clock is being started; reset false. -/
  synthOn : Bool
  /-- R260: events captured while the clock is stopped, bit e; reset 0. -/
  evCap : Nat
  /-- R42: the voltage and frequency codes of the change in progress; reset none. -/
  vfBusy : Option (Nat × Nat)
  /-- R42: the change in progress ramps the voltage first; reset false. -/
  vfVoltFirst : Bool
  /-- R42: the one waiting request; reset none. -/
  vfWait : Option (Nat × Nat)
  /-- R87: the temperature at the last reference trim, in 0.25 °C; reset 0. -/
  trimTemp : Int
  /-- R87: a 50 µs reference trim runs; reset false. -/
  trimming : Bool
  /-- R88: the region reference is off its die reference; reset false. -/
  refFault : Bool
  /-- R539: the last sample read 140.0 °C or more; reset false. -/
  hot : Bool
  /-- R539: consecutive samples at 130.0 °C or less, up to 2; reset 0. -/
  cool : Nat
  /-- R318, R341: an image configures the region; reset false. -/
  configured : Bool
  /-- R91: AIO and FIN detectors tripped now, AIO in bits 31..0, FIN in bits 39..32; reset 0. -/
  injNow : Nat
  /-- R134: a detector is tripped, or the last one has released less than 200 ns ago; reset false. -/
  injSettle : Bool
  /-- R134: one more than the timebase count at which the last such time ended; reset 0. -/
  injEnd : Nat
  /-- R504: the region is entering Torpor and waits for its running procedures to pause; reset false. -/
  torporWait : Bool
  /-- R503: frozen by SETT_CMD FREEZE; reset false. -/
  frzCmd : Bool
  /-- R503: frozen by FREEZE_N; reset false. -/
  frzPin : Bool
  /-- R504: put into Torpor by SETT_CMD TORPOR; reset false. -/
  torCmd : Bool
  /-- R504: put into Torpor by FREEZE_N; reset false. -/
  torPin : Bool
  /-- R506: the readout buffer, by word; reset 0. -/
  rdo : WordTab
  deriving DecidableEq, Repr

def RgnS.reset : RgnS :=
  { timeOfs := 0, synthOn := false, evCap := 0, vfBusy := none, vfVoltFirst := false, vfWait := none, trimTemp := 0,
    trimming := false, refFault := false, hot := false, cool := 0, configured := false, injNow := 0, injSettle := false,
    injEnd := 0, torporWait := false, frzCmd := false, frzPin := false, torCmd := false, torPin := false, rdo := .empty }

/-! ### Analogue clusters (02_analogue_fabric.md) -/

/-- What an analogue cluster holds beside its registers. -/
structure CluS where
  /-- R78, R80, R557: the output switches of a cell are open, by cell; reset: open (every cell is Off, R101). -/
  closedOut : NatTab
  /-- R75: hold time left of a sample-and-hold cell that holds, in ns, by cell; reset none. -/
  hold : Tab (Option Nat) (fun _ => none)
  /-- R75: the level that a sample-and-hold cell took at the trigger of SH_TRIGGER, by cell; none where the trigger was an
  edge whose levels no command gave; reset none. -/
  held : Tab (Option Volt) (fun _ => none)
  /-- R95: the cell that the running migration moves; reset 0. -/
  migCell : Nat
  /-- R98: the running migration is forced; reset false. -/
  forced : Bool
  /-- R96: the time of the running step, in ns; reset 0. -/
  stepNs : Nat
  /-- R100: the migration is paused by a Torpor; reset false. -/
  paused : Bool
  /-- R95: the trim found for the spare so far, as AC_CELLn_TRIM; reset 0. -/
  trim : Word
  deriving DecidableEq, Repr

def CluS.reset : CluS :=
  { closedOut := .empty, hold := .empty, held := .empty, migCell := 0, forced := false, stepNs := 0, paused := false, trim := 0 }

/-! ### Converter groups (03_conversion.md, 04_converter_integrity.md) -/

/-- A scan pass in progress (R113, R114). -/
structure PassS where
  /-- The channel of the batch in progress. -/
  chan : Nat
  /-- CG_CHc_CFG as the batch took it at its start (R115). -/
  cfg : Word
  /-- Channels of the pass still to come, bit c for channel c. -/
  rest : Nat
  /-- The last batch is done. -/
  done : Bool
  /-- R132: an averaged sample, or a discard sample, of the batch lay beyond full scale by more than 3 %. -/
  excAvg : Bool
  excDisc : Bool
  deriving DecidableEq, Repr

/-- One reader's state of CG_RESULT (R125). -/
structure RdS where
  /-- The holding register; PENDING while it is full. -/
  hold : Option Word
  /-- OVRN_PEND. -/
  ovrn : Bool
  /-- HELD_LAST. -/
  held : Bool
  /-- CG_RESULT writes at this reader's last low-half read. -/
  atLow : Nat
  deriving DecidableEq, Repr

/-- An entry of a tap buffer: the result, its full Herd Time, its tap sequence number (R128, R130, R354). -/
structure TapEntry where
  result : DWord
  time : DWord
  seq : Nat
  deriving DecidableEq, Repr

/-- A stream tap. -/
structure TapS where
  /-- R128: matching results still to skip before the next passes; reset 0. -/
  skip : Nat
  /-- R354: results passed since reset; reset 0. -/
  seq : Nat
  /-- R130: the 8-entry buffer, oldest first; reset empty. -/
  buf : List TapEntry
  deriving DecidableEq, Repr

/-- What a converter group holds beside its registers. -/
structure GrpS where
  /-- R113: the pass in progress; reset none. -/
  pass : Option PassS
  /-- R114: a trigger or GO is remembered; reset false. -/
  remembered : Bool
  /-- R117: the urgent queue, channels, oldest first; reset empty. -/
  urg : List Nat
  /-- R125: writes of CG_RESULT since reset; reset 0. -/
  writes : Nat
  /-- R125: the readers' state, by reader; reset all 0. -/
  readers : Tab RdS (fun _ => ⟨none, false, false, 0⟩)
  /-- R128: the taps; reset empty. -/
  taps : Tab TapS (fun _ => ⟨0, 0, []⟩)
  /-- R132: results still to be marked SETTLE; reset 0. -/
  excLeft : Nat
  /-- R145: rotation points passed, modulo 4 the position of the next handover; reset 0. -/
  rot : Nat
  /-- R149: the PHASE with which a paused rotation resumes; reset 0. -/
  resume : Nat
  /-- R160: physical slices that have not been serviced since they became stale, bit s; reset 0. -/
  stale : Nat
  /-- R159: the slice that converts in low-power mode; reset 0. -/
  lpSlice : Nat
  /-- R136, R139: timebase count at which the running self-calibration started; reset 0. -/
  calAt : Nat
  /-- R139: the region temperature of the last sample at or before its step 3, in 0.25 °C; reset 0. -/
  calTemp : Int
  /-- R149: CG_CALs and CG_SVCs of the service slice before the running service window; reset none. -/
  prevCal : Option (Word × Word)
  /-- R152: timebase count at the end of the last usable block, or of the self-calibration since; reset 0. -/
  usableAt : Nat
  /-- R153: the region temperature at the last skew update, in 0.25 °C; reset 0. -/
  skewTemp : Int
  /-- R153: parts of a TRIM step (1/80) that the temperature model has not yet moved, by slice; reset 0. -/
  skewRem : Tab Int (fun _ => 0)
  /-- R149: the group is paused by Torpor; reset false. -/
  torpor : Bool
  /-- R107: a pair led by this group is ending; reset false. -/
  unpair : Bool
  /-- R502: in low-power mode by the Doze flag; reset false. -/
  dozed : Bool
  deriving DecidableEq, Repr

def GrpS.reset : GrpS :=
  { pass := none, remembered := false, urg := [], writes := 0, readers := .empty, taps := .empty, excLeft := 0, rot := 0,
    resume := 0, stale := 0, lpSlice := 0, calAt := 0, calTemp := 0, prevCal := none, usableAt := 0, skewTemp := 0,
    skewRem := .empty, torpor := false, unpair := false, dozed := false }

/-! ### Window comparators (05_window_comparators.md) -/

/-- One physical comparator at work: its halves, its RAW and its latch. -/
structure HalfS where
  /-- R170: upper half asserted (1) plus lower half asserted (2). -/
  halves : Nat
  /-- R171: the condition. -/
  raw : Bool
  /-- R177: the latch. -/
  latch : Bool
  /-- R174, R196: its settling after power-up has ended, and its halves have been compared since. -/
  live : Bool
  deriving DecidableEq, Repr

/-- A comparator that is off. -/
def HalfS.reset : HalfS := ⟨0, false, false, false⟩

/-- What the comparators of a cluster hold beside their registers. -/
structure CmpS where
  /-- R177: the comparators in service for logical comparators 0 and 1; reset all clear. -/
  tgt : Tab HalfS (fun _ => HalfS.reset)
  /-- R188: the spare while it shadows a comparator; reset clear. -/
  spare : HalfS
  /-- R179: the fine-step instant at which the open blanking window of logical comparator m ends; 0: none is open. Reset 0. -/
  blank : NatTab
  /-- R188: the spare's outputs drive the target's destinations; reset false. -/
  spOut : Bool
  /-- R188: the target's outputs are disconnected; reset false. -/
  tgtCut : Bool
  /-- R188: the logical comparator under check or substitution; reset 0. -/
  cmp : Nat
  /-- R193: a substitution, no test; reset false. -/
  sub : Bool
  /-- R192: an agreement check has found a disagreement; reset false. -/
  disagree : Bool
  /-- R192: the spare has passed its own test; reset false. -/
  tested : Bool
  /-- R188: step 5 has ended its agreement window; reset false. -/
  restored : Bool
  /-- R188: the last 10 ns of step 5 run, in which target and spare drive ORed; reset false. -/
  joined : Bool
  /-- R189: the time of the running step, in units of 10 ns; reset 0. -/
  step10ns : Nat
  /-- R194: paused by a Torpor; reset false. -/
  paused : Bool
  /-- R186: the comparator that the next periodic check takes; reset 0. -/
  perNext : Nat
  deriving DecidableEq, Repr

def CmpS.reset : CmpS :=
  { tgt := .empty, spare := HalfS.reset, blank := .empty, spOut := false, tgtCut := false, cmp := 0, sub := false,
    disagree := false, tested := false, restored := false, joined := false, step10ns := 0, paused := false, perNext := 0 }

/-! ### Pulse generators (06_pulse_generators.md) -/

/-- Where the waveform of a channel stands (R201, R202). -/
inductive Lvl where
  | low | mid | high | float
  deriving DecidableEq, Repr

/-- Whether a channel switches (R210, R215). -/
inductive Run where
  /-- EN or the group's EN is 0: idle. -/
  | off
  /-- Awaiting duty. -/
  | waiting
  | switching
  deriving DecidableEq, Repr

/-- What a channel holds beside its registers. -/
structure ChS where
  /-- R223, R227: the channel has been enabled since reset; reset false. -/
  everEn : Bool
  run : Run
  /-- R201: the waveform's own level; reset low. -/
  wave : Lvl
  /-- R213: the shadow (PG_CHcc_DUTY) holds a value not yet applied; reset false. -/
  full : Bool
  /-- R213: arrival of that value, in fine steps of the timebase; reset 0. -/
  at_ : Nat
  /-- R213: that value has been counted LATE; reset false. -/
  lateCounted : Bool
  /-- R214: the period in progress is skipped; reset false. -/
  skip : Bool
  /-- R216: a new value has arrived since the last update point; reset false. -/
  gotNew : Bool
  /-- R216: update points without a new value; reset 0. -/
  wdog : Nat
  /-- R221: cycle-by-cycle entered by TRIPA, by TRIPB; reset false. -/
  cbcA : Bool
  cbcB : Bool
  /-- R220, R216: latch-off entered by TRIPA, by TRIPB, by the watchdog; reset false. -/
  latA : Bool
  latB : Bool
  latW : Bool
  /-- R220: rail-safe; reset false. -/
  rs : Bool
  /-- R220: a release takes effect at the next period start, of latch-off, of rail-safe; reset false. -/
  relLat : Bool
  relRs : Bool
  /-- R227: the period in force, in fine steps; reset 0. -/
  per : Nat
  /-- R209: the PHASE in force; reset 0. -/
  phase : Nat
  /-- R209: the last period start, in fine steps; reset 0. -/
  start : Nat
  /-- R209: the next period start, in fine steps; reset 0. -/
  next : Nat
  /-- R201: length of the high interval of the period in progress, in fine steps, 0 for none; reset 0. -/
  high : Nat
  /-- R201: where that high interval began, once it has; reset none. -/
  up : Option Nat
  /-- R202: the last falling edge, in fine steps; reset 0. -/
  fell : Nat
  /-- R217: the trigger of the period in progress has been emitted; reset false. -/
  fired : Bool
  /-- R474: one more than the fine step at which the last trigger was emitted; reset 0. -/
  trigAt : Nat
  deriving DecidableEq, Repr

def ChS.reset : ChS :=
  { everEn := false, run := .off, wave := .low, full := false, at_ := 0, lateCounted := false, skip := false,
    gotNew := false, wdog := 0, cbcA := false, cbcB := false, latA := false, latB := false, latW := false, rs := false,
    relLat := false, relRs := false, per := 0, phase := 0, start := 0, next := 0, high := 0, up := none, fell := 0,
    fired := false, trigAt := 0 }

/-- A group slot beside its registers. -/
structure SlotS where
  /-- R207: the instant of the first epoch still to come, in fine steps of the timebase; reset none. -/
  first : Option Nat
  /-- R207: the last epoch, in fine steps; reset 0. -/
  epoch : Nat
  deriving DecidableEq, Repr

/-- A channel substitution in a region (R228 to R232). From its alignment on the spare holds what the target holds (spareCh). -/
structure PgSubS where
  ch : Nat
  /-- R230: the time of the running step, in fine steps; reset 0. -/
  steps : Nat
  /-- R231: forced by a failed target; reset false. -/
  forced : Bool
  /-- R232: the step that a pause resumes; reset 0. -/
  resume : Nat
  /-- R229 step 2: periods that have counted; reset 0. -/
  good : Nat
  /-- R229: the period in progress is left out of step 2; reset false. -/
  marred : Bool
  deriving DecidableEq, Repr

def PgSubS.reset : PgSubS := { ch := 0, steps := 0, forced := false, resume := 0, good := 0, marred := false }

/-! ### Loop Engines (07_loop_engines.md) -/

/-- A table of n-bit words, 0 where nothing is listed. -/
abbrev BvTab (n : Nat) := Tab (BitVec n) (fun _ => 0)

/-- The registers of which a handler has its own (R235, R262). -/
structure RegSet where
  /-- R235: A0 to A7, 56 bits; reset 0. -/
  a : BvTab 56
  /-- R235: D0 to D15, 24 bits; reset 0. -/
  d : BvTab 24
  /-- R235: P0 to P7, 14 bits; reset 0. -/
  p : BvTab 14
  /-- R235, R251: SR, 12 bits; reset 0. -/
  sr : BitVec 12
  deriving DecidableEq, Repr

def RegSet.reset : RegSet := ⟨.empty, .empty, .empty, 0⟩

/-- A loop stack entry (R255): first and last packet of the body, passes left (none: forever), rotating. -/
structure LoopE where
  start : Nat
  last : Nat
  count : Option Nat
  rot : Bool
  deriving DecidableEq, Repr

/-- A register that a latency-2 result is on its way to (R269): an accumulator or D0 to D15 of a set, or a physical entry
of the rotating file. -/
inductive Tgt where
  | acc (shadow : Bool) (i : Nat)
  | dreg (shadow : Bool) (i : Nat)
  | rot (i : Nat)
  deriving DecidableEq, Repr

/-- A result on its way (R269): the cycle in which it lands, and whether a MULA-class operation wrote it. -/
structure PendW where
  land : Nat
  tgt : Tgt
  val : BitVec 56
  mula : Bool
  deriving DecidableEq, Repr

/-- What an engine does (R272); Handler is Running with a handler active, Paused stands beside it. -/
inductive LeMode where
  | halted | running
  /-- In WAITIN. -/
  | waitIn
  /-- In WAIT. -/
  | waitEv
  /-- A CRD waits for its data (R246): register offset, REG. -/
  | crd (off reg : Nat)
  /-- A CWR waits for one of four writes in flight to take effect (R246): register offset, value. -/
  | cwr (off v : Nat)
  | faulted
  deriving DecidableEq, Repr

/-- A two-word transfer (R129, R243). -/
structure Xfer where
  w0 : BitVec 24
  w1 : BitVec 24
  deriving DecidableEq, Repr

/-- An input port (R265). -/
structure PortS where
  /-- Transfers held, oldest first. -/
  buf : List Xfer
  /-- The last transfer the port delivered. -/
  last : Option Xfer
  deriving DecidableEq, Repr

/-- A Loop Engine beside its control registers. -/
structure EngS where
  /-- R235: the main set; reset 0. -/
  main : RegSet
  /-- R262: the shadow set; reset 0. -/
  shadow : RegSet
  /-- R235, R257: the rotating file by physical entry; reset 0. -/
  rot : BvTab 24
  /-- R235: B0 to B7; reset 0. -/
  b : BvTab 14
  /-- R235: L0 to L7; reset 0. -/
  l : BvTab 14
  /-- R235: M0 to M7; reset 0. -/
  m : BvTab 14
  /-- R235: ROFS, 0 to 15; reset 0. -/
  rofs : Nat
  /-- R235: PC, 0 to 8,191; reset LE_START. -/
  pc : Nat
  /-- R235: the loop stack, innermost first, up to 4; reset empty. -/
  loops : List LoopE
  /-- R262: the handler's loop level; reset empty. -/
  shLoops : List LoopE
  /-- R235: the return stack, newest first, up to 8; reset empty. -/
  rets : List Nat
  /-- R261: a handler runs; reset false. -/
  handler : Bool
  /-- R261, R280: the return address of the shadow set; reset 0. -/
  ret : Nat
  mode : LeMode
  /-- R255: the packet at the end of the innermost loop has been issued and the count has run out; reset none. -/
  atEnd : Option Nat
  /-- LE_CYCLES: cycles in Running, Waiting or Handler since reset; reset 0. -/
  cyc : Nat
  /-- R269: results on their way, oldest first; reset empty. -/
  pend : List PendW
  /-- R236: the Herd Time copy at the last HTL read, for HTM and HTH; reset 0. -/
  ht : DWord
  /-- R265: the input ports; reset empty. -/
  ports : Tab PortS (fun _ => ⟨[], none⟩)
  /-- R267, R270: transfers that have left for an output port's destination, oldest first; reset empty. -/
  outq : Tab (List Xfer) (fun _ => [])
  /-- R268: the sequence number of an output port's next record; reset 0. -/
  outSeq : NatTab
  /-- R246: CWR writes in flight, oldest first: offset in the region block, value; reset empty. -/
  cwr : List (Nat × Word)
  /-- R274: words that the last packet stored, true for Y memory; reset empty. -/
  stored : List (Bool × Nat)
  /-- R272: Paused under a Torpor; reset false. -/
  paused : Bool
  /-- R474: one more than the count of the timebase at which event output N last pulsed; reset 0. -/
  evAt : NatTab
  /-- R277: the logical lane of the running substitution; reset 0. -/
  lane : Nat
  /-- R277: cycles of the running step; reset 0. -/
  laneSteps : Nat
  /-- R278: the running substitution is forced; reset false. -/
  forced : Bool
  /-- R279: the step with which a paused substitution resumes; reset 0. -/
  resume : Nat
  deriving DecidableEq, Repr

def EngS.reset : EngS :=
  { main := RegSet.reset, shadow := RegSet.reset, rot := .empty, b := .empty, l := .empty, m := .empty, rofs := 0, pc := 0,
    loops := [], shLoops := [], rets := [], handler := false, ret := 0, mode := .halted, atEnd := none, cyc := 0,
    pend := [], ht := 0, ports := .empty, outq := .empty, outSeq := .empty, cwr := [], stored := [], paused := false, evAt := .empty,
    lane := 0, laneSteps := 0, forced := false, resume := 0 }

/-! ### Logic fabric and block memories (08_logic_fabric.md) -/

/-- An entry of a queue: 72 bits and the END mark (R300). -/
structure QEntry where
  v : BitVec 72
  fin : Bool
  /-- R301: read-clock cycles since the write, up to 3. -/
  age : Nat
  deriving DecidableEq, Repr

/-- A queue controller beside its registers. -/
structure QcS where
  /-- R301: entries written, oldest first; the read side sees those of age 3; reset empty. -/
  q : List QEntry
  /-- R303: the packet being written, not yet seen by the read side; reset empty. -/
  part : List QEntry
  /-- R303: the rest of a discarded packet is ignored up to its END; reset false. -/
  dropping : Bool
  /-- R302: the last entry read; reset 0. -/
  last : BitVec 72
  /-- R301: for each entry read whose space the write side does not see yet, write-clock cycles since; reset empty. -/
  freed : List Nat
  /-- R300: the place in the block of the oldest entry, in entries; reset 0. -/
  rp : Nat
  deriving DecidableEq, Repr

/-- The last user write of a block memory, for accesses in the same cycle (R296, R298): port B, word in the 1 Ki × 36
shape, bits written, and the word before the cycle. -/
structure BmLast where
  portB : Bool
  word : Nat
  mask : BitVec 36
  old : BitVec 36
  deriving DecidableEq, Repr

/-- The fabric of a region beside its registers. -/
structure FabS where
  /-- R295: block memory words by block × 1024 + word of the 1 Ki × 36 shape, of the logical blocks; reset from the image. -/
  bm : BvTab 36
  /-- R295: the output register of a port, by block × 2 + port; reset 0. -/
  bmOut : BvTab 36
  /-- R297: the error output of a port, bit block × 2 + port; reset 0. -/
  bmErr : Nat
  /-- R296: the last user write of a block; reset none. -/
  bmLast : Tab (Option BmLast) (fun _ => none)
  /-- R299: parity errors of a row since the last reset, by block × 32 + row; reset 0. -/
  rowErr : NatTab
  /-- R299: spare rows that serve a row, by block × 32 + row: 0 none, else which; ledger. -/
  rowMap : NatTab
  /-- R300: the queue controllers. -/
  qcs : Tab QcS (fun _ => ⟨[], [], false, 0, [], 0⟩)
  /-- R282: flip-flops of a logical cluster, by cluster: bit 2i + f is FFf of cell i, as the fabric's logic last showed
  them; reset: the initial values of the image. -/
  ff : WordTab
  /-- R282: levels at a logical cluster's 64 routed inputs, and at its clock enables, bits 0 and 1; reset 0. -/
  ins : BvTab 64
  ce : NatTab
  /-- R291: what the retiming register or second synchroniser stage of a cluster's input holds, and the first stage of a
  synchroniser; reset 0. -/
  cross : BvTab 64
  stage : BvTab 64
  /-- R305: carry-pending flip-flops, bit c of logical cluster c; reset 0. -/
  pend : Nat
  /-- R308: capture latches of flip-flops by logical cluster, of the carry-pending flip-flops and of block memories' output
  registers by block × 2 + port; reset 0. -/
  capLatch : WordTab
  capCarry : Nat
  capBm : BvTab 36
  /-- R308: the capture's trigger has arrived; reset false. -/
  capTrig : Bool
  /-- R308: the selected trees that have not had their edge: bit g of global tree g, bit 16 + r of regional tree r; reset 0. -/
  capPend : Nat
  /-- R308: Herd Time of the capture's first edge; reset none. -/
  capFirst : Option DWord
  /-- R290: global resets asserted, bit k; reset 0. -/
  grst : Nat
  /-- R290: edges of a tree until a global reset that has been released lets its flip-flops go, by reset × 24 + tree;
  reset 0. -/
  rstStage : NatTab
  /-- R289: the fabric run-request line; reset false. -/
  runReq : Bool
  /-- R305: pending carries out of the two segments of a user register, bits 0 and 1, by register; reset 0. -/
  carry : NatTab
  /-- R310: the running relocation: 1 for a block memory; its target; the spare; forced; the step a pause resumes. -/
  rlKind : Nat
  rlTarget : Nat
  rlSpare : Nat
  rlForced : Bool
  rlResume : Nat
  deriving DecidableEq, Repr

def FabS.reset : FabS :=
  { bm := .empty, bmOut := .empty, bmErr := 0, bmLast := .empty, rowErr := .empty, rowMap := .empty, qcs := .empty,
    ff := .empty, ins := .empty, ce := .empty, cross := .empty, stage := .empty, pend := 0, capLatch := .empty, capCarry := 0,
    capBm := .empty, capTrig := false, capPend := 0, capFirst := none, grst := 0, rstStage := .empty, runReq := false,
    carry := .empty, rlKind := 0, rlTarget := 0, rlSpare := 0, rlForced := false, rlResume := 0 }

/-! ### Configuration (09_configuration.md) -/

/-- Where an image comes from (R328, R333, R340). -/
inductive ImgSrc where
  | flash (golden : Bool)
  /-- Host DMA through a port. -/
  | host (p : Nat)
  | fifo
  /-- A queue controller of a region (R346). -/
  | queue (r q : Nat)
  /-- The secure path of R349 through a host port. -/
  | secure (p : Nat)
  deriving DecidableEq, Repr

/-- A running SHA-384 (R319, R330, R335). -/
structure ShaS where
  /-- The eight words of the chaining value. -/
  h : List DWord
  /-- Bytes of the block that is not full, newest first. -/
  buf : List (BitVec 8)
  /-- Bytes so far. -/
  n : Nat
  deriving DecidableEq, Repr

/-- An image that is arriving. -/
structure LoadS where
  src : ImgSrc
  /-- The header (R320), byte 0 in bits 7..0; none before it has arrived. -/
  hdr : Option (BitVec 2048)
  /-- R329: the flash address of its first byte, and the read mode: 2 8D-8D-8D, 1 1S-1S-4S, 0 1S-1S-1S. -/
  base : Word
  mode : Nat
  /-- R322: the frame address of the last record; none before the first. -/
  last : Option Nat
  /-- Records other than RELOC, and RELOC records, so far. -/
  n : Nat
  nr : Nat
  /-- R318: records of the present RELOC image so far. -/
  run : Nat
  /-- R330: SHA-384 over every byte so far. -/
  all : ShaS
  /-- R325: GCM's running hash over the header and the whole blocks of ciphertext, and the bytes of the block that is not
  full. -/
  gh : BitVec 128
  ghBuf : List (BitVec 8)
  /-- R335: SHA-384 over the present block of 32 records and over the present RELOC image, the digests of complete blocks,
  newest first, and those of RELOC images with their keys (region × 128 + cluster) and first records. -/
  blk : ShaS
  rblk : ShaS
  digs : List (BitVec 384)
  rdigs : List (Nat × BitVec 384 × Nat)
  /-- R322: the running CRC-32C of the data words. -/
  crc : Word
  /-- R342: records staged, newest first (partial images). -/
  recs : List (Nat × BitVec 1024)
  /-- What the frames hold: IMG values and the image's other statements, by key (log entry 19). -/
  img : WordTab
  deriving DecidableEq, Repr

/-- A frame held in configuration memory (R316, R335). -/
structure FrameC where
  data : BitVec 1024
  /-- R316: the SEC-DED code and the CRC-32C stored with it. -/
  code : BitVec 12
  crc : Word
  /-- R335: volatile origin; else flash. -/
  vol : Bool
  /-- R335: the number of its block's digest, and its place in the block; none where the table had no room. -/
  dig : Option (Nat × Nat)
  deriving DecidableEq, Repr

/-- An entry of the digest table (R335), with what R336 needs to read its records again. -/
structure DigS where
  hash : BitVec 384
  /-- The image is encrypted, with this initialisation vector. -/
  enc : Bool
  iv : List (BitVec 8)
  /-- The first of its records in the image, and how many. -/
  first : Nat
  count : Nat
  /-- The flash address of the image. -/
  base : Word
  /-- Volatile origin; else flash. -/
  vol : Bool
  deriving DecidableEq, Repr

/-- A partial load from its request to its end (R340 to R343). -/
structure PrS where
  load : LoadS
  /-- The path whose START it was; none for an internal configuration port. -/
  by_ : Option Reader
  /-- The region of the port. -/
  port : Rgn
  /-- R341: the length that its requester gave, 0 where it gives none. -/
  len : Nat
  /-- R340: accepted; the package reports Reconfiguring. -/
  accepted : Bool
  /-- R343: the failed frames have been rewritten once. -/
  retried : Bool
  deriving DecidableEq, Repr

/-- A flash command that waits or runs (R345, R350, R521). -/
inductive FlJob where
  /-- CFG_FL_CMD: OP and WORDS as they were at START. -/
  | host (op words : Nat)
  /-- The ledger's write (R521). -/
  | ledger
  deriving DecidableEq, Repr

/-- The configuration controller. -/
structure CfgS where
  /-- R330: the full image that is arriving; reset none. -/
  load : Option LoadS
  /-- R331: the cause of the last failed primary attempt; reset 0. -/
  prim : Nat
  /-- R316: frames held, by address; reset none. -/
  frames : Tab (Option FrameC) (fun _ => none)
  /-- R335: the digest table, by number; reset empty. -/
  digs : Tab (Option DigS) (fun _ => none)
  /-- R335: the number that the next digest takes; reset 0. -/
  nextDig : Nat
  /-- R318, R335: the digest of each RELOC image in the image source, by region × 128 + cluster; reset none. -/
  relocs : Tab (Option Nat) (fun _ => none)
  /-- R341: the partial load or the load of a fenced image in progress; reset none. -/
  pr : Option PrS
  /-- R343: logical clusters that stay isolated at their declared values, by region × 128 + cluster; reset 0. -/
  isolated : NatTab
  /-- R337: the last frame that the scrubber read, plus one, by die; reset 0. -/
  scrub : NatTab
  /-- R339: frames that wait for a reload, oldest first; reset empty. -/
  reloads : List Nat
  /-- R339, R500: uncorrectable frames in fenced regions; reset empty. -/
  fencedBad : List Nat
  /-- R334: words in the FIFO, oldest first; reset empty. -/
  fifo : List Word
  /-- R345: flash commands that wait or run, oldest first; reset empty. -/
  jobs : List FlJob
  /-- R529: OP and VALUE of the OTP command that runs; reset 0. -/
  otpCmd : Nat × Nat
  deriving DecidableEq, Repr

def CfgS.reset : CfgS :=
  { load := none, prim := 0, frames := .empty, digs := .empty, nextDig := 0, relocs := .empty, pr := none, isolated := .empty,
    scrub := .empty, reloads := [], fencedBad := [], fifo := [], jobs := [], otpCmd := (0, 0) }

/-! ### Spoor records (10_spoor_and_delivery.md) -/

/-- A record on its way from its source to the host (R352, R353, R370). -/
structure Item where
  src : Src
  /-- TYPE of R354. -/
  typ : Nat
  /-- CLASS of R353: 0 ALARM, 1 CONTROL, 2 TELEMETRY, 3 TRACE. -/
  cls : Nat
  flow : Nat
  prio : Nat
  /-- Herd Time of the event (R352). -/
  time : DWord
  payload : BitVec 128
  /-- R377: the alarm slot that the record carries. -/
  slot : Option Nat
  /-- R371: conforming record of an accepted flow. -/
  conf : Bool
  /-- R370: the instant of emission, in counts of the timebase (HubS.base). -/
  emit : Nat
  /-- R353: DROPS. -/
  drops : Nat
  /-- R378: REPEAT, fixed when the record passes the Hub funnel. -/
  rep : Nat
  /-- R373: the causes that have applied while the record waited, bit c for code c. -/
  why : Nat
  /-- R373: replay delay on the die-to-die link, in ns. -/
  linkNs : Nat
  /-- R372: its miss has been counted. -/
  missed : Bool
  /-- R418, R441: a copy has been sent on the active uplink while the record still waits. -/
  viaHerd : Bool
  /-- R441: a record of another node, posted unchanged. -/
  raw : Option (BitVec 256)
  deriving DecidableEq, Repr

/-- An alarm slot that is pending (R377, R378). -/
structure Slot where
  src : Src
  /-- TYPE and CLASS of the record it becomes. -/
  typ : Nat
  code : Nat
  /-- Payload bytes 2 to 11 of the first occurrence, byte 2 in bits 7..0. -/
  detail : BitVec 80
  time : DWord
  /-- Bytes 12 to 15: Herd Time [31:0] of the last occurrence. -/
  last : Word
  rep : Nat
  deriving DecidableEq, Repr

/-- The state of a flow (R363 to R368; the codes of SPR_FSTAT.STATE but for suspension, which the posting map holds). -/
inductive FlowState where
  | closed | accepted | bestEffort | demoted | broken
  deriving DecidableEq, Repr

/-- A flow under one handle. -/
structure FlowS where
  st : FlowState
  /-- SPR_DESC0 to SPR_DESC2 of the flow. -/
  d0 : Word
  d1 : Word
  d2 : Word
  /-- R368: closed, but queued records still hold its reservation. -/
  closing : Bool
  deliv : Word
  miss : Nat
  drop : Nat
  missCause : Nat
  demoteCause : Nat
  deriving DecidableEq, Repr

def FlowS.reset : FlowS := ⟨.closed, 0, 0, 0, false, 0, 0, 0, 0, 0⟩

/-- The spoor network and the admission controller. -/
structure SpoorS where
  /-- R370, R371: records waiting at a source interface, by source key, oldest first; reset empty. -/
  srcQ : Tab (List Item) (fun _ => [])
  /-- R371: token bucket by source and flow, in units of 10^-6 byte taken since full (0: full); reset 0. -/
  taken : NatTab
  /-- R358: the buffer of each hop, oldest first; reset empty. -/
  hops : Tab (List Item) (fun _ => [])
  /-- R360: alarm-reserve credit used by a hop, in 256,000ths of a record (0: the full 16 records); reset 0. -/
  used : NatTab
  /-- R361: records left to each input in the present round, by hop and rank; reset empty. -/
  wrr : Tab (List (Nat × Nat)) (fun _ => [])
  /-- R381: records of a source dropped at a hop and not yet reported; reset 0. -/
  hopDrops : NatTab
  /-- R377: pending alarm slots; reset none. -/
  slots : Tab (Option Slot) (fun _ => none)
  /-- R363: flows by handle; reset closed. -/
  flows : Tab FlowS (fun _ => FlowS.reset)
  /-- R386, R387: the first admission has run; reset false. -/
  started : Bool
  /-- R367, R382: capacity C in sixteenths of MB/s; reset 0. -/
  c16 : Nat
  /-- R382: C was lowered for a credit stall; reset false. -/
  stallC : Bool
  /-- The descriptors that the image's HUB frames carry (R363, R387): handle, DESC0, DESC1, DESC2; reset none. -/
  imgFlows : List (Nat × Word × Word × Word)
  deriving DecidableEq, Repr

def SpoorS.reset : SpoorS :=
  ⟨.empty, .empty, .empty, .empty, .empty, .empty, .empty, .empty, false, 0, false, []⟩

/-! ### Posting into host memory (11_host_memory_posting.md) -/

/-- A leaf entry of the posting map, four words (R393). -/
structure Leaf where
  w0 : DWord
  w1 : DWord
  w2 : DWord
  w3 : DWord
  deriving DecidableEq, Repr

/-- A leaf entry in the map cache (R396). -/
structure CacheE where
  flow : Nat
  leaf : Leaf
  /-- The instant of the issue of the read that filled it, in counts of the timebase (HubS.base), as every instant of the
  posting engine. -/
  fill : Nat
  /-- The instant of its last use. -/
  used : Nat
  deriving DecidableEq, Repr

/-- What an outstanding walk waits for (R395, R397). -/
inductive WalkStage where
  /-- 32 reads are outstanding; this one has not been issued. -/
  | queued
  /-- A translation of the root table's address. -/
  | rootAts
  | root
  /-- A translation of the leaf table's address. -/
  | leafAts
  | leaf
  deriving DecidableEq, Repr

/-- A walk of a flow's map entry. -/
structure WalkS where
  stage : WalkStage
  /-- When the walk began and when its present access was issued. -/
  start : Nat
  issued : Nat
  /-- The address of the access on the link. -/
  addr : DWord
  /-- R396: a refresh. -/
  refresh : Bool
  /-- R398: a walk that an invalidation waits for. -/
  inv : Bool
  deriving DecidableEq, Repr

/-- How a write crosses the link (R411). -/
inductive WriteOp where
  /-- A posted memory write of PCIe mode. -/
  | posted
  | itoMWr | woWrInv | wrInv
  deriving DecidableEq, Repr

/-- A write of one record, of two that fill a 64-byte line, or of a write pointer (R411). -/
structure Write where
  flow : Nat
  wp : Bool
  op : WriteOp
  addr : DWord
  data : BitVec 512
  /-- One more than the instant at which it last left the Trarix with credits; 0 while it has not. -/
  sent : Nat
  /-- The records written; empty for a write pointer. -/
  items : List Item
  deriving DecidableEq, Repr

/-- A suspension (R405). -/
structure SuspS where
  cause : Nat
  /-- When it began. -/
  since : Nat
  deriving DecidableEq, Repr

/-- What the posting engine holds for a flow. -/
structure PostS where
  /-- The entry in use (R400, R401). -/
  entry : Option Leaf
  /-- R401: the write count. -/
  count : DWord
  /-- R412: records written since the flow's last WP write. -/
  uncov : Nat
  /-- R412: the instant of the first record not covered by a WP write. -/
  uncovAt : Nat
  /-- R414: the instant of the last interrupt sent. -/
  lastInt : Option Nat
  /-- R414: a vector waits for the end of the interval. -/
  intDue : Bool
  /-- R413: RP of the last read. -/
  rp : Option DWord
  /-- R413: the instant of the last read of RP. -/
  rpAt : Option Nat
  /-- R413: an RP read is outstanding. -/
  rpBusy : Bool
  /-- R397: the page whose translation is awaited, and whether the access writes. -/
  trans : Option (DWord × Bool)
  /-- R404: when that translation was asked for. -/
  transAt : Nat
  walk : Option WalkS
  susp : Option SuspS
  /-- R419: the hold limit was reached while a walk was outstanding. -/
  holdDue : Bool
  deriving DecidableEq, Repr

def PostS.reset : PostS :=
  { entry := none, count := 0, uncov := 0, uncovAt := 0, lastInt := none, intDue := false, rp := none, rpAt := none,
    rpBusy := false, trans := none, transAt := 0, walk := none, susp := none, holdDue := false }

/-- A translation in a port's translation cache (R397). -/
structure Trans where
  page : DWord
  read : Bool
  write : Bool
  deriving DecidableEq, Repr

/-- The posting engine. -/
structure PmapS where
  /-- R396: the map cache, most recently used first; reset empty. -/
  cache : List CacheE
  /-- R396: root entries with the instant of their fill; reset none. -/
  roots : Tab (Option (DWord × Nat)) (fun _ => none)
  /-- R397: translations by port × 2^52 + page number; reset none. -/
  trans : Tab (Option Trans) (fun _ => none)
  /-- R400: what the posting engine holds of each flow; reset as PostS.reset. -/
  flows : Tab PostS (fun _ => PostS.reset)
  /-- R416: writes waiting for credit at a port, oldest first; reset empty. -/
  waiting : Tab (List Write) (fun _ => [])
  /-- R411, R416: writes that have left a port, oldest first: all without GO in CXL mode, the latest in PCIe mode; reset
  empty. -/
  gone : Tab (List Write) (fun _ => [])
  /-- R6: posted-write or D2H request credits of a port, in writes; reset 0. -/
  credits : NatTab
  /-- R382, R415: one more than the instant since which writes wait at a port that has no credit, 0: none do; reset 0. -/
  stallAt : NatTab
  /-- R397: ATS invalidations that wait for the writes that used their translations, by port; reset 0. -/
  atsWait : NatTab
  /-- R398: an invalidation runs; a walk of it failed; flows walked; reset none. -/
  inv : Option (Bool × Nat)
  /-- R419: a command that waits for the end of a failback; reset none. -/
  waitCmd : Option Word
  /-- R417: a failback waits for outstanding writes; reset false. -/
  failback : Bool
  deriving DecidableEq, Repr

def PmapS.reset : PmapS :=
  { cache := [], roots := .empty, trans := .empty, flows := .empty, waiting := .empty, gone := .empty,
    credits := .empty, stallAt := .empty, atsWait := .empty, inv := none, waitCmd := none, failback := false }

/-! ### The Herd (12_herd.md) -/

/-- A frame waiting to be sent or acknowledged, and the arbiter input it came from: 0 the node itself, else the DN port
(R442). -/
structure Frame where
  body : Body
  inp : Nat
  deriving DecidableEq, Repr

/-- What a partner's BEACON says (R423). -/
structure Beacon where
  id : Nat
  depth : Nat
  root : Nat
  anc : List Nat
  deriving DecidableEq, Repr

/-- A Herd port beside its registers: 0 UP0, 1 UP1, 2 to 5 DN0 to DN3. -/
structure HPortS where
  /-- R428: SEQ of the next new frame; reset 0. -/
  seqTx : Nat
  /-- R428: SEQ expected of the partner's next frame; reset 0. -/
  seqRx : Nat
  /-- R428: sent and not acknowledged, oldest first, with SEQ; reset empty. -/
  replay : List (Nat × Frame)
  /-- R444: times the oldest of them has been resent; reset 0. -/
  resent : Nat
  /-- R429: frames waiting for a credit, oldest first; reset empty. -/
  queue : List Frame
  /-- R429: credits held for ALARM frames and for other kinds; 16 when the link comes up. -/
  acred : Nat
  ccred : Nat
  /-- R429: credits to return to the partner; reset 0. -/
  retA : Nat
  retC : Nat
  /-- R428: a NAK has been sent and frames are discarded until the resent one arrives; reset false. -/
  naked : Bool
  /-- R423: the last BEACON received since the link came up; reset none. -/
  beacon : Option Beacon
  /-- R435: t1, t2 and t3 of the exchange in progress; reset none. -/
  ex : Option (DWord × DWord × DWord)
  /-- R442: alarm frames left to each input in the present round; reset empty. -/
  wrr : List (Nat × Nat)
  /-- R435: the last offset computed, in ps; reset 0. -/
  ofs : Int
  /-- R436: consecutive exchanges within ±0.5 ns, up to 32; reset 0. -/
  good : Nat
  /-- R436: consecutive exchanges beyond ±2 ns, up to 4; reset 0. -/
  bad : Nat
  /-- R442: SRC_CNT last received; reset 0. -/
  srcCnt : Nat
  /-- R438: demand and floor of the child, and cap cycles since its report; reset none. -/
  child : Option (Nat × Nat × Nat)
  /-- R449: CRC errors in the present second; reset 0. -/
  crcSec : Nat
  deriving DecidableEq, Repr

def HPortS.reset : HPortS :=
  { seqTx := 0, seqRx := 0, replay := [], resent := 0, queue := [], acred := 0, ccred := 0, retA := 0, retC := 0,
    naked := false, beacon := none, ex := none, wrr := [], ofs := 0, good := 0, bad := 0, srcCnt := 0, child := none,
    crcSec := 0 }

/-- A node of the installation, as the root's table holds it (R432, R433). -/
structure NodeS where
  id : Nat
  parent : Nat
  /-- Its depth below this node, or more where only its subtree's depth is known. -/
  depth : Nat
  /-- The DN port behind which it lies. -/
  port : Nat
  /-- The parent is the one that the node's own JOIN or MOVE named; else a node above it. -/
  exact : Bool
  /-- The parent that the node's own JOIN named. -/
  joined : Option Nat
  deriving DecidableEq, Repr

/-- A join that has not been answered (R432): the port its frames came from, the depth and the parent of the joining node, its
subtree's depth, the IDs received. -/
structure JoinS where
  port : Nat
  level : Nat
  parent : Nat
  depth : Nat
  ids : List Nat
  deriving DecidableEq, Repr

/-- The Herd functions of the package. -/
structure HerdS where
  ports : Tab HPortS (fun _ => HPortS.reset)
  /-- R421: the node ID in force since bring-up; reset 0. -/
  id : Nat
  /-- R432: the join has been accepted; reset false. -/
  member : Bool
  /-- R432, R433: below a node, its own subtree's nodes; at the root, the installation's; reset empty. -/
  table : List NodeS
  /-- R432: joins not answered yet, by joining node; reset none. -/
  joins : Tab (Option JoinS) (fun _ => none)
  /-- R433: LEAVE frames held at the root: node ID and the parent that sent it; reset empty. -/
  leaves : List (Nat × Nat)
  /-- R438: the budget of the last CAP frame received; reset no cap. -/
  budget : Nat
  /-- R438: the cycle number of the last CAP frame; reset 0. -/
  cycle : Nat
  /-- R444: a MOVE waits for its answer: the port it was sent on, and whether it has been resent; reset none. -/
  move : Option (Nat × Bool)
  /-- R444, R441: frames that wait for an uplink to become active, oldest first; reset empty. -/
  saved : List Frame
  /-- R432: a refused join waits for its retry; reset false. -/
  retry : Bool
  /-- R447: the hold of an island's budget runs; reset false. -/
  holding : Bool
  /-- R437: the value that Herd Time takes at the next multiple of 16,000 counts; reset none. -/
  tset : Option DWord
  /-- R437: the rate that the servo or PPS steering asks for, in hundredths of ppm; reset 0. -/
  steer : Int
  deriving DecidableEq, Repr

def HerdS.reset : HerdS :=
  { ports := .empty, id := 0, member := false, table := [], joins := .empty, leaves := [], budget := 0xFFFF_FFFF, cycle := 0, move := none,
    saved := [], retry := false, holding := false, tset := none, steer := 0 }

/-! ### Host interfaces and pins (13_host_interfaces_and_pins.md) -/

/-- A host port beside its registers: 0 HLA, 1 HLB. -/
structure HPort where
  /-- R453: the PERST ball is low; reset false. -/
  perst : Bool
  /-- R454: the protocol of the first training since PERST: CXL; reset none. -/
  cxl : Option Bool
  /-- R415: an uncorrectable fatal error has been reported since the link came up; reset false. -/
  fatal : Bool
  deriving DecidableEq, Repr

def HPort.reset : HPort := ⟨false, none, false⟩

/-- The sideband target (R466 to R469). -/
structure SbS where
  /-- R468: the last address; reset 0. -/
  addr : Word
  /-- R469: the answer of the last command, not yet read: of a read command, status, data; reset none. -/
  result : Option (Bool × Nat × Word)
  /-- R466: events enabled by ENEC; reset true. -/
  events : Bool
  /-- R466: maximum write and read lengths; reset 0 (log entry 15). -/
  mwl : Nat
  mrl : Nat
  deriving DecidableEq, Repr

def SbS.reset : SbS := ⟨0, none, true, 0, 0⟩

/-- The instructions of the TAP (R470). -/
inductive TapInstr where
  | bypass | idcode | sample | extest | clamp | highz | extestPulse | extestTrain | regacc | vtest
  deriving DecidableEq, Repr

/-- The TAP (R470, R471). -/
structure JtagS where
  instr : TapInstr
  /-- R470: what the next Capture-DR of REGACC takes; reset 0. -/
  dr : BitVec 66
  /-- R471: what boundary scan drives at a ball, by ball number (log entry 20): 0 nothing, 1 low, 2 high; reset 0. -/
  bscan : NatTab
  deriving DecidableEq, Repr

def JtagS.reset : JtagS := ⟨.idcode, 0, .empty⟩

/-- Host interfaces and pins. -/
structure HostS where
  ports : Tab HPort (fun _ => HPort.reset)
  /-- R451: MSI-X table words, by port × 1024 + word number; reset 0 but for the mask bits (all masked: 1). -/
  msix : Tab Word (fun k => if k % 4 = 3 then 1 else 0)
  /-- R451: pending bits, by port × 64 + vector; reset 0. -/
  pba : NatTab
  /-- R465: HUB_IRQ_STAT AND HUB_IRQ_EN as last evaluated; reset 0. -/
  irqWas : Nat
  /-- R466: the sideband target. -/
  sb : SbS
  /-- R470: the TAP. -/
  jtag : JtagS
  /-- R475, R480: level at each pin's ball, by pin index; reset 0. -/
  ball : NatTab
  /-- R479: pins whose output conflict has been logged and has not ended; reset 0. -/
  cflt : NatTab
  /-- R478, R479: pin-event lines held at 0 since a conflict, until the next edge; reset 0. -/
  stale : NatTab
  /-- R482, R487: what a pin of port K or L with RET = 1 drove when the dies were last reset: 0 nothing, 1 low, 2 high; reset
  0. -/
  kept : NatTab
  /-- R487: CFG_DONE and CFG_ERR as they last were; reset low. -/
  lastDone : Bool
  lastErr : Bool
  /-- R484: what asserts ALARM_N held when last evaluated, and one more than the count of the timebase at which it last came
  to hold; reset false and 0. -/
  alarmWas : Bool
  alarmAt : Nat
  deriving DecidableEq, Repr

def HostS.reset : HostS :=
  { ports := .empty, msix := .empty, pba := .empty, irqWas := 0, sb := SbS.reset, jtag := JtagS.reset, ball := .empty,
    cflt := .empty, stale := .empty, kept := .empty, lastDone := false, lastErr := false, alarmWas := false, alarmAt := 0 }

/-! ### Modes and the Sett domain (14_modes_and_sett.md) -/

/-- Where the package stands between power-down and running (R489, R491). -/
inductive Phase where
  /-- No VDD_SETT. -/
  | off
  /-- Dormant (R489 code 0x1). -/
  | dormant
  /-- Power-up, between a wake or reset and Loading (R493). -/
  | powerUp
  | loading | verifying | calibrating
  /-- Calibrating has ended: Active, or a mode that holds over it (R490). -/
  | running
  deriving DecidableEq, Repr

/-- One step of an energy fold that has not been made yet (R515): addend for C1, carry for C2. -/
structure FoldS where
  add1 : Option DWord
  carry2 : Bool
  deriving DecidableEq, Repr

/-- A copy of the wear ledger (R519, R521): what differs from the factory ledger. -/
structure Ledger where
  /-- Ledger bits of the register map, by address, XOR their factory values. -/
  regs : WordTab
  /-- The Sett's own ledger registers, likewise. -/
  own : WordTab
  /-- R519: wear indices and histogram; R299: row maps by region × 512 + block × 32 + row; R524: retired rows and columns. -/
  wear : NatTab
  hist : NatTab
  rows : NatTab
  retired : NatTab
  deriving DecidableEq, Repr

/-- The factory ledger in OTP. -/
def Ledger.factory : Ledger := ⟨.empty, .empty, .empty, .empty, .empty, .empty⟩

/-- The Sett domain. -/
structure SettS where
  /-- R68: the Sett's own registers (the Hub's mirror of them stands in `regs.sett`); reset as the summaries say. -/
  own : RegFile
  /-- R68: writes that have reached the mirror and not yet the Sett, oldest first; reset empty. -/
  writes : List (Nat × Word)
  /-- R511: retention memory by BAR0 byte address of the word; reset 0 (DESIGN CHOICE, log entry 6). -/
  ret : WordTab
  /-- R509: VDD_SETT is below its range and the Sett is stopped; reset false. -/
  brownOut : Bool
  /-- R509: VDD_SETT fell below the retention voltage since the last ledger restore; reset false. -/
  retLost : Bool
  /-- R57, R508: the Sett runs from the RC backup; reset false. -/
  rcOsc : Bool
  /-- R489: the phase; reset loading. -/
  phase : Phase
  /-- R493: steps of the power-up done (0 to 3); reset 0. -/
  pwrStep : Nat
  /-- R472: the count of the timebase at which PORST_N was found high with the supplies in range; reset 0. -/
  porstAt : Nat
  /-- R498: PORST_N is low; reset false. -/
  porstLow : Bool
  /-- R530: Vendor test; reset false. -/
  vendor : Bool
  /-- R530: an unlock is being verified; reset false. -/
  vtestBusy : Bool
  /-- R500: sources asserted now, bits as SETT_SAFE; reset 0. -/
  safeCond : Nat
  /-- R500: sources latched until exit; reset 0. -/
  safeLatch : Nat
  /-- R500, R501: Safe hold holds, from its entry until it ends; reset false. -/
  safe : Bool
  /-- R501: the count of the timebase at which a source of Safe hold was last asserted, or ended; reset 0. -/
  safeAt : Nat
  /-- R50, R500: the SAFE_N ball is low; reset false. -/
  safeNLow : Bool
  /-- R503: the FREEZE_N ball is low; reset false. -/
  freezeNLow : Bool
  /-- R502: the Doze flag; reset false. -/
  doze : Bool
  /-- R526: REPLACE_N is asserted; reset false. -/
  replaceN : Bool
  /-- R525: bit 0 has become permanent; reset false. -/
  degrPerm : Bool
  /-- R496: a power-down sequence runs; reset false. -/
  dormantReq : Bool
  /-- R507: the cause of a wake that came during the power-down sequence; reset none. -/
  wakePend : Option Nat
  /-- R506: regions whose chains shift now, bit r; reset 0. -/
  rdoMask : Nat
  /-- R497: the supply out of range now, code of SETT_SUPPLY, 0: none; reset 0. -/
  supplyBad : Nat
  /-- R514: pending sums of the accumulators, on the Hub, 64 bits; reset 0. -/
  sums : NatTab
  /-- R515: fold steps not yet made; reset none. -/
  folds : Tab FoldS (fun _ => ⟨none, false⟩)
  /-- R521: a ledger write to flash is in progress, by LEDGER_SYNC (true) or by the mirror (false); reset none. -/
  mirror : Option Bool
  /-- R521: the flash sector (0 or 1) that takes the next ledger copy; reset 0. -/
  sector : Nat
  /-- R521: the ledger copies of the two flash sectors; reset none. -/
  copies : Tab (Option Ledger) (fun _ => none)
  /-- R521: the ledger has changed since its last flash copy; reset false. -/
  dirty : Bool
  /-- R528: an export runs; reset false. -/
  exporting : Bool
  /-- R519: wear index of a block, in hundredths of its end-of-life value, by block key; reset 0. -/
  wear : NatTab
  /-- R520: the hour (SETT_HOURS) of a block's last wear action plus one, by block key; reset 0. -/
  wearAt : NatTab
  /-- R519: region temperature histogram, by region and bin; reset 0. -/
  hist : NatTab
  /-- R524: corrected errors of a hub-memory row since the last package reset; reset 0. -/
  rowErr : NatTab
  /-- R524: rows of a hub-memory column with corrected errors since the last package reset; reset empty. -/
  colRows : Tab (List Nat) (fun _ => [])
  /-- R524: retired hub-memory rows (key even: row * 2) and columns (key odd: column * 2 + 1); reset 0. -/
  retired : NatTab
  deriving DecidableEq, Repr

def SettS.reset : SettS :=
  { own := .empty, writes := [], ret := .empty, brownOut := false, retLost := false, rcOsc := false, phase := .loading,
    pwrStep := 0, porstAt := 0, porstLow := false, vendor := false, vtestBusy := false, safeCond := 0, safeLatch := 0, safe := false, safeAt := 0,
    safeNLow := false, freezeNLow := false, doze := false, replaceN := false, degrPerm := false, dormantReq := false,
    wakePend := none, rdoMask := 0, supplyBad := 0, sums := .empty, folds := .empty, mirror := none, sector := 0, copies := .empty,
    dirty := false, exporting := false, wear := .empty, wearAt := .empty, hist := .empty, rowErr := .empty,
    colRows := .empty, retired := .empty }

/-! ### What leaves the part -/

/-- What leaves the part, as the outside sees it. -/
inductive Emit where
  /-- A record or write-pointer write that has left a host port with credits (R6, R410 to R412). -/
  | hostWrite (port : Nat) (op : WriteOp) (wp : Bool) (addr : DWord) (data : BitVec 512)
  /-- A read of the posting map: 8 bytes (root) or 32 bytes (leaf) (R395). -/
  | mapRead (port : Nat) (addr : DWord) (bytes : Nat)
  /-- A read of a ring's read pointer (R413). -/
  | rpRead (port : Nat) (addr : DWord)
  /-- A Translation Request for a page (R397). -/
  | transRequest (port : Nat) (page : DWord)
  /-- The zero-length read of a failback (R417). -/
  | zeroRead (port : Nat)
  /-- The completion of an ATS invalidation (R397). -/
  | atsComplete (port : Nat)
  /-- An MSI-X message (R414, R465). -/
  | msix (port vec : Nat) (addrLo addrHi data : Word)
  /-- An I3C In-Band Interrupt with its mandatory byte (R465). -/
  | ibi (byte : Nat)
  /-- The completion of a memory read of a port: status 0 done, 1 Unsupported Request, 4 Completer Abort; bytes, lowest
  address first (R452, R456, R460, R461). -/
  | completion (port status : Nat) (bytes : List (BitVec 8))
  /-- The answer to an H2D snoop, RspIHitI (R457). -/
  | snoopResponse (port : Nat)
  /-- A frame on a Herd port: the header's SEQ, ACRED, CCRED, ACK and SRC_CNT, and its content (R426, R427). -/
  | frame (port seq acred ccred ack srcCnt : Nat) (body : Body)
  /-- Bytes answered by the sideband target (R466, R468). -/
  | sideband (bytes : List (BitVec 8))
  /-- A read of the configuration image from the host (R340). -/
  | dmaRead (addr : DWord) (bytes : Nat)
  /-- A command to the xSPI flash: 0 read, 1 program, 2 erase; address; words (R345, R350). -/
  | flash (op : Nat) (addr : Word) (words : List Word)
  /-- What the TAP captures for a Capture-DR of REGACC or IDCODE (R470). -/
  | jtag (dr : BitVec 66)
  /-- DONE (result 1), or ERR with its cause (result 3), at a region's internal configuration port (R346). -/
  | cfgPort (r result cause : Nat)
  /-- The one-cycle acknowledgement of a region's register port (R294). -/
  | portAck (r : Nat)
  deriving DecidableEq, Repr

/-! ### The whole machine -/

/-- The state of the block. -/
structure State where
  /-- The register map (R66 to R69). -/
  regs : Regs
  hub : HubS
  /-- Regions, by number. -/
  rgn : Tab RgnS (fun _ => RgnS.reset)
  /-- Analogue clusters, by region × 12 + cluster. -/
  ana : Tab CluS (fun _ => CluS.reset)
  /-- Converter groups, by region × 4 + group. -/
  conv : Tab GrpS (fun _ => GrpS.reset)
  /-- Comparators of a cluster, by region × 12 + cluster. -/
  comp : Tab CmpS (fun _ => CmpS.reset)
  /-- Pulse-generator channels, by region × 16 + channel. -/
  pwm : Tab ChS (fun _ => ChS.reset)
  /-- Group slots, by region × 16 + slot. -/
  slots : Tab SlotS (fun _ => ⟨none, 0⟩)
  /-- Channel substitutions, by region. -/
  pgSub : Tab PgSubS (fun _ => PgSubS.reset)
  /-- Loop Engines, by region. -/
  engines : Tab EngS (fun _ => EngS.reset)
  /-- Program, X and Y memories by BAR0 address (R69, R70); reset 0 before an image is loaded. -/
  lemem : WordTab
  /-- Fabrics, by region. -/
  fabs : Tab FabS (fun _ => FabS.reset)
  cfg : CfgS
  spoor : SpoorS
  pmap : PmapS
  herd : HerdS
  host : HostS
  sett : SettS
  /-- IMG values that configuration memory holds, by BAR0 address, and what else the image states (log entry 19). -/
  img : WordTab
  /-- OTP: values of OTP fields by BAR0 address, and the fields of no register from 0x200_0000 on (log entry 4). -/
  otp : WordTab
  /-- R19: holding registers, by reader × 2^25 + address of the high half; reset empty. -/
  hold : OptTab
  /-- R20: staged low halves, by writer × 2^25 + address of the high half; reset empty. -/
  stage : OptTab
  /-- Data last answered to an access path, by its code; reset none. -/
  resp : Tab (Option DWord) (fun _ => none)
  /-- What has left the part, newest first; reset empty. -/
  out : List Emit
  /-- The model's own field: free values taken so far (DESIGN CHOICE, log entry 2); reset 0. -/
  freeCtr : Nat
  /-- Commands that wait, oldest first. -/
  pending : List Instr
  deriving DecidableEq, Repr

/-- The machine right after reset: a package reset has just ended (R498), the mode is Loading (SETT_MODE 0x2), nothing is
configured and every register holds its reset value. -/
def State.reset : State :=
  { regs := Regs.reset, hub := HubS.reset, rgn := .empty, ana := .empty, conv := .empty, comp := .empty, pwm := .empty,
    slots := .empty, pgSub := .empty, engines := .empty, lemem := .empty, fabs := .empty, cfg := CfgS.reset,
    spoor := SpoorS.reset, pmap := PmapS.reset, herd := HerdS.reset, host := HostS.reset, sett := SettS.reset,
    img := .empty, otp := .empty, hold := .empty, stage := .empty, resp := .empty, out := [], freeCtr := 0,
    pending := [] }

end Sys2Proof.Machine
end

