-- ==== Sys2Proof/Machine/Ops.lean ====
section
/-!
DEFINITION. The named operations that every family shares: register and field access, block bases, time stamps, events,
refusals, alarms (R377, R378), the incident log (R512), the use of a spare (R520) and Degraded (R525 to R527), the Safe
sources (R500), and what leaves the part.
-/

namespace Sys2Proof.Machine

/-! ### Addresses of blocks (R66 to R69) -/

def rgnBase (r : Nat) : Nat := 0x100_0000 + r * 0x10_0000
/-- Analogue cluster k of region r; its window holds the AC_ and WC_ registers. -/
def acB (r k : Nat) : Nat := rgnBase r + k * 0x1000
def cgB (r g : Nat) : Nat := rgnBase r + 0x2_0000 + g * 0x1000
def pgB (r : Nat) : Nat := rgnBase r + 0x3_0000
def leB (r : Nat) : Nat := rgnBase r + 0x4_0000
def fabB (r : Nat) : Nat := rgnBase r + 0x6_0000
def rgB (r : Nat) : Nat := rgnBase r + 0xF_0000
/-- The Field die of a region (R23). -/
def dieOf (r : Nat) : Nat := r / 8

/-! ### Registers and fields -/

/-- The word of a register. -/
def State.rd (s : State) (r : Reg) (b : Nat) (n : Nat := 0) : Word := (s.regs.tab r.blk).get (r.addr b n)

/-- The state with a register's word replaced. -/
def State.wr (s : State) (r : Reg) (b : Nat) (n : Nat) (v : Word) : State :=
  { s with regs := s.regs.put r.blk ((s.regs.tab r.blk).set (r.addr b n) v) }

/-- A field of a register, as a number. -/
def State.gf (s : State) (f : Fld) (b : Nat) (n : Nat := 0) : Nat := (s.rd f.reg b n).bits f.hi f.lo

/-- The state with a field replaced. -/
def State.sf (s : State) (f : Fld) (b : Nat) (n : Nat) (v : Nat) : State :=
  s.wr f.reg b n ((s.rd f.reg b n).setBits f.hi f.lo v)

/-- A one-bit field. -/
def State.gb (s : State) (f : Fld) (b : Nat) (n : Nat := 0) : Bool := s.gf f b n != 0

/-- The state with a one-bit field replaced. -/
def State.sb (s : State) (f : Fld) (b : Nat) (n : Nat) (v : Bool) : State := s.sf f b n (if v then 1 else 0)

/-- The state with a bit of a field of flags set. -/
def State.orf (s : State) (f : Fld) (b : Nat) (n : Nat) (bit : Nat) : State :=
  s.sf f b n (s.gf f b n ||| 2 ^ bit)

/-- A saturating counter field one higher (the field tables' "saturates at"). -/
def State.bump (s : State) (f : Fld) (b : Nat) (n : Nat := 0) : State :=
  s.sf f b n (satInc (f.hi + 1 - f.lo) (s.gf f b n))

/-- A counter field one higher, modulo its width. -/
def State.count (s : State) (f : Fld) (b : Nat) (n : Nat := 0) : State := s.sf f b n (s.gf f b n + 1)

/-- A field of a word not yet stored. -/
def fOf (w : Word) (f : Fld) : Nat := w.bits f.hi f.lo

/-- A 64-bit register (R18): its low half at the register's address, its high half one word on. -/
def State.rd64 (s : State) (r : Reg) (b : Nat) (n : Nat := 0) : DWord :=
  DWord.ofHalves ((s.regs.tab r.blk).get (r.addr b n)) ((s.regs.tab r.blk).get (r.addr b n + 4))

/-- The state with a 64-bit register replaced in one cycle (R20). -/
def State.wr64 (s : State) (r : Reg) (b : Nat) (n : Nat) (v : DWord) : State :=
  let t := ((s.regs.tab r.blk).set (r.addr b n) v.lo).set (r.addr b n + 4) v.hi
  { s with regs := s.regs.put r.blk t }

/-- A refused command or write: the block's REJECT event and its REJ_CNT. -/
def State.reject (s : State) (ev cnt : Fld) (b : Nat) : State := (s.sb ev b 0 true).bump cnt b

/-! ### The Sett's own registers (R68) -/

/-- A word of the Sett's own registers. -/
def State.ownW (s : State) (r : Reg) (n : Nat := 0) : Word := s.sett.own.get (r.addr 0 n)

/-- The state with a word of the Sett's own registers replaced. -/
def State.setOwnW (s : State) (r : Reg) (n : Nat) (v : Word) : State :=
  { s with sett := { s.sett with own := s.sett.own.set (r.addr 0 n) v } }

/-- A field of the Sett's own registers. -/
def State.own (s : State) (f : Fld) (n : Nat := 0) : Nat := (s.ownW f.reg n).bits f.hi f.lo

/-- A one-bit field of the Sett's own registers. -/
def State.ownB (s : State) (f : Fld) (n : Nat := 0) : Bool := s.own f n != 0

/-- The state with a field of the Sett's own registers replaced. -/
def State.setOwn (s : State) (f : Fld) (n : Nat) (v : Nat) : State :=
  s.setOwnW f.reg n ((s.ownW f.reg n).setBits f.hi f.lo v)

/-- SETT_RTC (R508): 48 bits of Sett cycles. -/
def State.rtc (s : State) : DWord := DWord.ofHalves (s.sett.own.get 0x100020) (s.sett.own.get 0x100024)

/-! ### Time (R21, R22, R54) -/

/-- Herd Time now; 0 while it is not running (R434, R512). -/
def State.now (s : State) : DWord := if s.hub.timeOn then s.hub.time else 0

/-- The count reached `sub` counts into the present tick (R54: truncated to whole counts). -/
def State.stamp (s : State) (sub : Fin 40) : DWord := if s.hub.timeOn then s.hub.time + BitVec.ofNat 64 sub.val else 0

/-- A change made `sub` counts into the present tick, so that what it stamps carries that count (R54). -/
def State.atCount (s : State) (sub : Fin 40) (f : State → State) : State :=
  let s1 := f { s with hub := { s.hub with time := s.hub.time + BitVec.ofNat 64 sub.val } }
  { s1 with hub := { s1.hub with time := s1.hub.time - BitVec.ofNat 64 sub.val } }

/-! ### Free values, and what leaves the part -/

/-- A free value and the state with the counter of free values one on. -/
def State.free (s : State) : BitVec 64 × State := (Config.freeWord s.freeCtr, { s with freeCtr := s.freeCtr + 1 })

/-- The state after something has left the part. -/
def State.emit (s : State) (e : Emit) : State := { s with out := e :: s.out }

/-- The state after a list of things has left the part, in order. -/
def State.emitAll (s : State) (l : List Emit) : State := { s with out := l.reverse ++ s.out }

/-- Data answered to an access path. -/
def State.answer (s : State) (a : Reader) (v : DWord) : State := { s with resp := s.resp.set a.code (some v) }

/-! ### Signals that follow the state (R465, R414) -/

/-- A port is in its link-up state (HOST_p_STAT.MODE). -/
def State.linkUp (s : State) (p : Nat) : Bool := s.gf F.HOST_p_STAT_MODE 0 p != 0

/-- An MSI-X vector of a port's function is signalled: a masked vector becomes pending (R451); the message leaves only
while the link is up and the function is bus master. -/
def State.msix (s : State) (p vec : Nat) : State :=
  if ((s.host.msix.get (p * 1024 + vec * 4 + 3)).getLsbD 0) then
    { s with host := { s.host with pba := s.host.pba.set (p * 64 + vec) 1 } }
  else if s.linkUp p && s.gb F.HOST_p_STAT_BME 0 p then
    s.emit (.msix p vec (s.host.msix.get (p * 1024 + vec * 4)) (s.host.msix.get (p * 1024 + vec * 4 + 1))
      (s.host.msix.get (p * 1024 + vec * 4 + 2)))
  else s

/-- HUB_IRQ_STAT (R465): one bit per source block whose event register is not 0, and one for pending alarm slots. -/
def State.irqStat (s : State) : Nat :=
  (if s.spoor.slots.cells.isEmpty then 0 else 1)
    + (if s.rd R.CFG_EVT 0 = 0 then 0 else 2) + (if s.rd R.SEC_EVT 0 = 0 then 0 else 4)
    + (if s.rd R.SPR_EVT 0 = 0 then 0 else 8) + (if s.rd R.PMAP_EVT 0 = 0 then 0 else 16)
    + (if s.rd R.HERD_EVT 0 = 0 then 0 else 32)
    + (if s.rd R.HOST_p_EVT 0 0 = 0 ∧ s.rd R.HOST_p_EVT 0 1 = 0 then 0 else 64)
    + (if s.rd R.PIN_EVT 0 = 0 then 0 else 128)

/-- HUB_IRQ_STAT AND HUB_IRQ_EN. -/
def State.irqNow (s : State) : Nat := s.irqStat &&& (s.rd R.HUB_IRQ_EN 0).toNat

/-- The Hub runs: Loading or a later mode. -/
def hubOn (s : State) : Bool :=
  match s.sett.phase with
  | .off => false
  | .dormant => false
  | .powerUp => false
  | _ => true

/-- What asserts ALARM_N (R484). -/
def alarmCause (s : State) : Bool :=
  hubOn s && (s.sett.safe || (!s.gb F.PIN_CTRL_ALARM_SRC 0 && !s.spoor.slots.cells.isEmpty))

/-- The lines of R465 and what asserts ALARM_N, as they now are, with the instant from which ALARM_N is asserted (R484). -/
def State.noted (s : State) : State :=
  { s with host := { s.host with
      irqWas := s.irqNow, alarmWas := alarmCause s,
      alarmAt := if alarmCause s && !s.host.alarmWas then s.hub.base + 1 else s.host.alarmAt } }

/-- The signals of R465 for each 0-to-1 change of a bit of HUB_IRQ_STAT AND HUB_IRQ_EN. -/
def State.settle (s : State) : State :=
  if s.irqNow &&& (s.irqNow ^^^ s.host.irqWas) = 0 then s.noted
  else
    let s2 := if s.gb F.HUB_IRQ_CFG_EN_A 0 then s.noted.msix 0 (s.gf F.HUB_IRQ_CFG_VEC_A 0) else s.noted
    let s3 := if s.gb F.HUB_IRQ_CFG_EN_B 0 then s2.msix 1 (s.gf F.HUB_IRQ_CFG_VEC_B 0) else s2
    if s.gb F.HUB_IRQ_CFG_IBI 0 && s.gb F.HOST_SB_STAT_DA_VALID 0 && s.host.sb.events then
      s3.emit (.ibi (s.irqStat % 256))
    else s3

/-- A command's effect, with the signals of R465 that follow from it. A command leaves the queue alone, and none but
OTP_COMMAND_DONE writes OTP (R326, R327, R529). -/
def State.after (s t : State) : Host.Outcome State Fault Refusal :=
  .next { t.settle with pending := s.pending, otp := s.otp }

/-- The effect of OTP_COMMAND_DONE, in the same way. -/
def State.afterFuses (s t : State) : Host.Outcome State Fault Refusal := .next { t.settle with pending := s.pending }

/-! ### Payload bytes (R352: little-endian, numbered from payload byte 0) -/

/-- A payload from (byte number, bytes, value) items; bytes not listed are 0. -/
def payloadOf (l : List (Nat × Nat × Nat)) : BitVec 128 :=
  l.foldl (fun p c => p ||| BitVec.ofNat 128 (c.2.2 % 2 ^ (8 * c.2.1) * 2 ^ (8 * c.1))) 0

/-- Alarm detail, payload bytes 2 to 11 (R354), from items numbered as payload bytes. -/
def detailOf (l : List (Nat × Nat × Nat)) : BitVec 80 :=
  (payloadOf l >>> 16).setWidth 80

/-- Some payload bytes as a number. -/
def payloadGet (p : BitVec 128) (byte n : Nat) : Nat := (p >>> (8 * byte)).toNat % 2 ^ (8 * n)

/-- The payload of a block alarm: code, detail, Herd Time of the last occurrence (R354). -/
def alarmPayload (x : Slot) : BitVec 128 :=
  payloadOf [(0, 2, x.code), (2, 10, x.detail.toNat), (12, 4, x.last.toNat)]

/-- The header of a record (R353). -/
def headerOf (s : State) (i : Item) : DWord :=
  BitVec.ofNat 64
    (i.typ % 16 * 2 ^ 60 + i.cls % 4 * 2 ^ 58 + (if i.cls = 0 then 7 else i.prio % 8) * 2 ^ 55
      + (if i.src.hub then 1 else 0) * 2 ^ 54 + s.herd.id % 2 ^ 14 * 2 ^ 40
      + (if i.cls = 0 then 0 else i.flow % 4096) * 2 ^ 28 + (if i.src.hub then 0 else i.src.rgn.val) * 2 ^ 24
      + i.src.unit.val * 2 ^ 16 + min 255 i.drops * 2 ^ 8 + min 255 i.rep)

/-- The 32 bytes of a record (R352): header in bytes 0 to 7, time in bytes 8 to 15, payload in bytes 16 to 31; another
node's record unchanged (R441). -/
def recordBits (s : State) (i : Item) : BitVec 256 := i.raw.getD (i.payload ++ i.time ++ headerOf s i)

/-! ### The incident log (R512) -/

/-- The block alarm codes that the Sett logs (R512). -/
def loggedCode (c : Nat) : Bool :=
  (0x10 ≤ c && c ≤ 0x63) || (0x100 ≤ c && c ≤ 0x111) || (0x160 ≤ c && c ≤ 0x17F)

/-- Word w of a record's 32 bytes. -/
def recordWord (b : BitVec 256) (w : Nat) : Word := (b >>> (32 * w)).setWidth 32

/-- One entry of the incident log: a record of TYPE 0x0 whose payload bytes 12 to 15 hold SETT_RTC[31:0]; entry n at
0x015_0000 + 32 × (n mod 4,096), and SETT_LOG_WP counts (R512). -/
def State.log (s : State) (src : Src) (code : Nat) (detail : BitVec 80) : State :=
  let i : Item := { src := src, typ := 0, cls := 0, flow := 0, prio := 7, time := s.now,
                    payload := payloadOf [(0, 2, code), (2, 10, detail.toNat), (12, 4, s.rtc.toNat)],
                    slot := none, conf := false, emit := 0, drops := 0, rep := 0, why := 0, linkNs := 0, missed := false, viaHerd := false, raw := none }
  let b := recordBits s i
  let n := s.own F.SETT_LOG_WP_COUNT
  let a := 0x15_0000 + 32 * (n % 4096)
  let s1 := { s with sett := { s.sett with
      ret := s.sett.ret.setAll ((List.range 8).map fun w => (a + 4 * w, recordWord b w)) } }
  s1.setOwn F.SETT_LOG_WP_COUNT 0 (n + 1)

/-! ### Sources and alarms (R355, R377, R378) -/

def srcRgn (r : Rgn) (u : Fin 256) : Src := ⟨false, r, u⟩
def srcHub (u : Fin 256) : Src := ⟨true, 0, u⟩
/-- UNIT codes of R355. -/
def unitWc (k : Fin 12) (m : Fin 2) : Fin 256 := ⟨2 * k.val + m.val, by omega⟩
def unitAc (k : Fin 12) : Fin 256 := ⟨0x20 + k.val, by omega⟩
def unitCg (g : Fin 4) : Fin 256 := ⟨0x30 + g.val, by omega⟩
def unitPg (c : Fin 16) : Fin 256 := ⟨0x40 + c.val, by omega⟩
def unitLe : Fin 256 := 0x60
def unitLeOut (p : Fin 8) : Fin 256 := ⟨0x68 + p.val, by omega⟩
def unitFab : Fin 256 := 0x70
def unitFabPort (p : Fin 4) : Fin 256 := ⟨0x78 + p.val, by omega⟩
def unitRgn : Fin 256 := 0x80
def settSrc : Src := srcHub 0
def cfgSrc : Src := srcHub 1
def admission : Src := srcHub 3
def postingSrc : Src := srcHub 4
def hostSrc (p : Fin 2) : Src := srcHub ⟨5 + p.val, by omega⟩
def herdSrc : Src := srcHub 7
def timebase : Src := srcHub 8

/-- The key of an alarm slot: source, code, and the flow of a DEADLINE_MISS slot (R377); a fabric spoor port has one slot
for all its codes. -/
def slotKey (x : Src) (code flow : Nat) : Nat :=
  (x.key * 65536 + (if !x.hub && decide (0x78 ≤ x.unit.val ∧ x.unit.val ≤ 0x7B) then 0 else code)) * 4096 + flow

/-- Hop numbers (R358): the cluster funnels of a region, its region funnel, its die funnel, the die-to-die link, the Hub
funnel and the posting queue. -/
def hopCluster (r c : Nat) : Nat := r * 32 + c
def hopRegion (r : Nat) : Nat := 512 + r
def hopDie (d : Nat) : Nat := 528 + d
def hopLink (d : Nat) : Nat := 530 + d
def hopHub : Nat := 532
def hopPost : Nat := 533

/-- The cluster funnel that a source's records enter (R358): one per analogue cluster, per converter group, and one each
for the pulse generators, the engine, the fabric and region control. -/
def clusterOf (u : Nat) : Nat :=
  if u < 0x18 then u / 2 else if u < 0x2C then u - 0x20 else if u < 0x34 then 12 + (u - 0x30)
  else if u < 0x50 then 16 else if u < 0x70 then 17 else if u < 0x80 then 18 else 19

/-- The hop where a source's records enter the network. -/
def firstHop (x : Src) : Nat := if x.hub then hopHub else hopCluster x.rgn.val (clusterOf x.unit.val)

/-- The hop after a hop. -/
def nextHop (h : Nat) : Nat :=
  if h < 512 then hopRegion (h / 32) else if h < 528 then hopDie ((h - 512) / 8)
  else if h < 530 then hopLink (h - 528) else if h < 532 then hopHub else hopPost

/-- A record put at the end of a hop's buffer. -/
def State.hopPush (s : State) (h : Nat) (i : Item) : State :=
  { s with spoor := { s.spoor with hops := s.spoor.hops.set h (s.spoor.hops.get h ++ [i]) } }

/-- Weighted round robin (R361, R362): of the inputs with their weights, the first that has records left to it in the
present round; a round in which none has starts anew with the weights. -/
def wrrPick (left cands : List (Nat × Nat)) : Option (Nat × List (Nat × Nat)) :=
  let live := left.filter fun c => 0 < c.2 && cands.any fun d => d.1 = c.1
  let round := if live.isEmpty then cands.filter fun c => 0 < c.2 else live
  match round with
  | [] => none
  | c :: l => some (c.1, if c.2 = 1 then l else (c.1, c.2 - 1) :: l)

/-- A new record of a source, emitted now. -/
def mkItem (s : State) (x : Src) (typ cls flow prio : Nat) (p : BitVec 128) : Item :=
  { src := x, typ := typ, cls := cls, flow := flow, prio := prio, time := s.now, payload := p, slot := none, conf := false,
    emit := s.hub.base, drops := 0, rep := 0, why := 0, linkNs := 0, missed := false, viaHerd := false, raw := none }

/-- Raising an alarm (R377, R378): a pending slot takes one more REPEAT and the new last time and keeps the first detail;
else the slot becomes pending and its record enters the network where the source's records enter it. A code that the Sett
logs is logged at every occurrence (R512). -/
def State.raiseT (s : State) (x : Src) (typ code flow : Nat) (detail : BitVec 80) : State :=
  let k := slotKey x code flow
  let s0 := if loggedCode code then s.log x code detail else s
  match s.spoor.slots.get k with
  | some sl =>
    { s0 with spoor := { s0.spoor with
        slots := s0.spoor.slots.set k (some { sl with rep := min 255 (sl.rep + 1), last := s.now.lo }) } }
  | none =>
    let sl : Slot := ⟨x, typ, code, detail, s.now, s.now.lo, 0⟩
    let i := { mkItem s x typ 0 0 7 0 with slot := some k }
    ({ s0 with spoor := { s0.spoor with slots := s0.spoor.slots.set k (some sl) } }).hopPush (firstHop x) i

/-- Raising a block alarm of TYPE 0x0. -/
def State.raise (s : State) (x : Src) (code : Nat) (detail : BitVec 80) : State := s.raiseT x 0 code 0 detail

/-! ### Log entries that no alarm code names -/

/-- A log entry of a mode transition (R512) whose code and detail the spec does not state: both are free values. -/
def State.logMode (s : State) : State :=
  let f := s.free
  let g := f.2.free
  g.2.log settSrc (f.1.toNat % 65536) (g.1.setWidth 80)

/-! ### Degraded (R525 to R527) and the use of spares (R520, R523) -/

/-- R525 bit 1 of kind k: free spares below SETT_THR.SPARE_PCT per cent of the total. -/
def State.kindLow (s : State) (k : Nat) : Bool :=
  s.own F.SETT_SPAREk_FREE k * 100 < s.own F.SETT_THR_SPARE_PCT * s.own F.SETT_SPAREk_TOTAL k

/-- SETT_DEGR.KINDS_LOW: bit k for kind k of 0 to 9. -/
def State.kindsLow (s : State) : Nat :=
  (List.range 10).foldl (fun n k => if s.kindLow k then n + 2 ^ k else n) 0

/-- SETT_DEGR.COND (R525). -/
def State.degrCond (s : State) : Nat :=
  (if s.sett.degrPerm then 1 else 0) + (if s.kindsLow ≠ 0 then 2 else 0)
    + (if s.own F.SETT_LIFE_MONTHS < s.own F.SETT_THR_LIFE then 4 else 0)
    + (if s.own F.SETT_SPAREk_FREE 10 = 0 ∨ s.own F.SETT_SPAREk_FREE 11 = 0 then 8 else 0)

/-- Raising REPLACE (R513, R526). -/
def State.raiseReplace (s : State) : State :=
  s.raise settSrc 0x160 (detailOf [(2, 1, s.own F.SETT_DEGR_COND), (3, 2, s.own F.SETT_LIFE_MONTHS), (5, 2, s.own F.SETT_DEGR_KINDS_LOW)])

/-- The conditions of R525 evaluated: on entry REPLACE_N is asserted and REPLACE raised (R526), at the end REPLACE_N is
released (R527); each transition is logged (R512). -/
def State.evalDegraded (s : State) : State :=
  let was := s.own F.SETT_DEGR_COND != 0
  let s1 := (s.setOwn F.SETT_DEGR_COND 0 s.degrCond).setOwn F.SETT_DEGR_KINDS_LOW 0 s.kindsLow
  let is := s1.own F.SETT_DEGR_COND != 0
  if is && !was then
    let s2 := (s1.setOwn F.SETT_EVT_DEGRADED 0 1).logMode
    ({ s2 with sett := { s2.sett with replaceN := true } }).raiseReplace
  else if was && !is then
    let s2 := s1.logMode
    { s2 with sett := { s2.sett with replaceN := false } }
  else s1

/-- A change of the ledger: it is to be mirrored (R521) and R525 is evaluated (R527). -/
def State.ledgerChanged (s : State) : State :=
  ({ s with sett := { s.sett with dirty := true } }).evalDegraded

/-- The consumption of a spare of a kind (R520, R523): one fewer free, logged and raised as SPARE_USED (R513), and the
ledger changed. -/
def State.useSpare (s : State) (kind rgn block cause : Nat) : State :=
  let left := s.own F.SETT_SPAREk_FREE kind - 1
  ((s.setOwn F.SETT_SPAREk_FREE kind left).raise settSrc 0x166
    (detailOf [(2, 1, kind), (3, 1, rgn), (4, 1, block), (5, 1, cause), (6, 2, left)])).ledgerChanged

/-- A unit that has failed with no free spare, or a Failed group (R525 bit 0, permanent). -/
def State.failPermanent (s : State) : State :=
  ({ s with sett := { s.sett with degrPerm := true } }).evalDegraded

/-! ### Safe hold (R500) -/

/-- Safe hold may be entered from Loading on, except in Vendor test (R491). -/
def State.safePhase (s : State) : Bool :=
  !s.sett.vendor && (match s.sett.phase with
    | .loading => true | .verifying => true | .calibrating => true | .running => true | _ => false)

/-- Safe hold holds, from the assertion of a source until R501 ends it. -/
def State.safeHold (s : State) : Bool := s.sett.safe

/-- SETT_SAFE.NOW: the sources asserted or still latched. -/
def State.safeNow (s : State) : Nat := s.sett.safeCond ||| s.sett.safeLatch

/-- The entry into Safe hold: SETT_SAFE.ENTRY takes the sources, SETT_EVT.SAFE sets, and SAFE_ENTER is logged and raised
(R500, R512). -/
def State.safeEnter (s : State) : State :=
  ((s.setOwn F.SETT_SAFE_ENTRY 0 s.safeNow).setOwn F.SETT_EVT_SAFE 0 1).raise settSrc 0x164 (detailOf [(2, 1, s.safeNow)])

/-- Safe hold is entered if a source is asserted or latched and the mode admits it (R491). -/
def State.safeEval (s : State) : State :=
  let s1 := s.setOwn F.SETT_SAFE_NOW 0 s.safeNow
  if s1.safePhase && !s1.sett.safe && s1.safeNow != 0 then
    ({ s1 with sett := { s1.sett with safe := true } }).safeEnter
  else s1

/-- A source of Safe hold asserts; latched ones stay until exit (R500). Before Loading and in Vendor test a level is
remembered and nothing is entered. -/
def State.safeAssert (s : State) (bit : Nat) (level latched : Bool) : State :=
  let s1 := { s with sett := { s.sett with
      safeCond := if level then s.sett.safeCond ||| 2 ^ bit else s.sett.safeCond,
      safeLatch := if latched && s.safePhase then s.sett.safeLatch ||| 2 ^ bit else s.sett.safeLatch,
      safeAt := s.hub.base } }
  s1.safeEval

/-- A bit cleared in a mask of bits. -/
def clearBit (m bit : Nat) : Nat := if m.testBit bit then m - 2 ^ bit else m

/-- The condition of a source ends; what is latched stays (R500). -/
def State.safeRelease (s : State) (bit : Nat) : State :=
  let s1 := { s with sett := { s.sett with safeCond := clearBit s.sett.safeCond bit, safeAt := s.hub.base } }
  s1.setOwn F.SETT_SAFE_NOW 0 s1.safeNow

/-! ### Who reaches what (R18) -/

/-- An access path reaches an address (R18): the four outer paths the whole map while the Hub runs, an engine or a fabric
only its own region block. -/
def reaches (s : State) (a : Reader) (addr : Nat) : Bool :=
  match a with
  | .le r => decide (rgnBase r.val ≤ addr ∧ addr < rgnBase r.val + 0x10_0000)
  | .fab r => decide (rgnBase r.val ≤ addr ∧ addr < rgnBase r.val + 0x10_0000)
  | _ => hubOn s

/-! ### Regions -/

def State.rgnS (s : State) (r : Nat) : RgnS := s.rgn.get r
def State.setRgn (s : State) (r : Nat) (x : RgnS) : State := { s with rgn := s.rgn.set r x }

/-- RGN_STAT.CLK codes (R58). -/
def State.clk (s : State) (r : Nat) : Nat := s.gf F.RGN_STAT_CLK (rgB r)
def State.setClk (s : State) (r c : Nat) : State := s.sf F.RGN_STAT_CLK (rgB r) 0 c

/-! ### Loop Engine events (R260) and wake requests (R63, R64, R195) -/

/-- An event source of a region's engine becomes pending (R260, R264); while the fast clock is stopped the rising edge is
captured, and the bit sets when the clock is next Running. -/
def State.eventPend (s : State) (r : Nat) (n : Nat) : State :=
  if s.clk r = 0 then s.orf F.LE_EVPEND_PEND (leB r) 0 n
  else
    let x := s.rgnS r
    s.setRgn r { x with evCap := x.evCap ||| 2 ^ n }

/-- A wake request of a region: a Gated or Cold clock starts, and event 31 becomes pending; a Running clock stays so,
and a Held clock ignores it (R58, R63, R64, R195). -/
def State.wake (s : State) (r : Nat) : State :=
  let x := s.rgnS r
  if s.clk r = 0 ∨ s.clk r = 3 then s
  else (s.setRgn r { x with synthOn := true }).eventPend r 31

/-- The region is in Torpor (RGN_STAT.TORPOR). -/
def State.inTorpor (s : State) (r : Nat) : Bool := s.gb F.RGN_STAT_TORPOR (rgB r)

/-- The procedures of a region pause at the end of their step: it enters Torpor or is in it (R100, R194, R504). -/
def pausing (s : State) (r : Nat) : Bool := s.inTorpor r || (s.rgnS r).torporWait

/-- The fast clock of a region in force, in MHz (RGN_VF.FREQ). -/
def State.fclk (s : State) (r : Nat) : Nat := 100 + 25 * s.gf F.RGN_VF_FREQ (rgB r)

/-- May this writer write the control registers of a region's blocks (R29): host paths for a host owner, the region's own
engine or fabric port for theirs; nobody where there is no owner. -/
def State.mayWrite (s : State) (a : Reader) (r : Nat) : Bool :=
  match s.gf F.RGN_STAT_OWNER (rgB r), a with
  | 1, .hla => true
  | 1, .hlb => true
  | 1, .sb => true
  | 1, .jtag => true
  | 2, .le q => q.val = r
  | 3, .fab q => q.val = r
  | _, _ => false

/-- The state after an access by a path: as before where the path does not reach the address (R18). -/
def State.byPath (s : State) (a : Reader) (addr : Nat) (t : State) : State := if reaches s a addr then t else s

/-- A write refused for want of ownership: no effect but RGN_REJ and RGN_EVT.WR_REJ (R29). -/
def State.ownerReject (s : State) (r : Nat) : State :=
  (s.sb F.RGN_EVT_WR_REJ (rgB r) 0 true).bump F.RGN_REJ_COUNT (rgB r)

end Sys2Proof.Machine
end

