-- ==== Sys2Proof/Machine/Operands.lean ====
section
/-!
DEFINITION. The operand forms of a register access: what a written word does to each field under the access codes, LOCK
and unlisted encodings (R10 to R17), and what a read answers and clears (R10, R15, R19, R20).
-/

namespace Sys2Proof.Machine

/-- An encoding that the field table lists (R13); an empty list means every encoding. -/
def listed (ok : List (Nat × Nat)) (v : Nat) : Bool := ok.isEmpty || ok.any (fun p => p.1 ≤ v && v ≤ p.2)

/-- One field of a write (R10, R13, R17). -/
def fieldWrite (locked : Bool) (v : Word) (w : Word) (f : FldRow) : Word :=
  let x := v.bits f.hi f.lo
  match f.acc with
  | .rw => if listed f.ok x then w.setBits f.hi f.lo x else w
  | .rwl => if !locked && listed f.ok x then w.setBits f.hi f.lo x else w
  | .w1c => w &&& ~~~ (v &&& Word.mask f.hi f.lo)
  | .w1s => w ||| (v &&& Word.mask f.hi f.lo)
  | .ro => w
  | .wo => w
  | .rc => w

/-- The word a write leaves, field by field (R10 to R13, R17). -/
def mergeFields (locked : Bool) (fs : List FldRow) (old v : Word) : Word := fs.foldl (fieldWrite locked v) old

/-- The bits of a word's fields of one access code. -/
def accMask (a : Access) (fs : List FldRow) : Word :=
  fs.foldl (fun m f => if f.acc = a then m ||| Word.mask f.hi f.lo else m) 0

/-- A W1C bit set in the same cycle as a clear ends set (R14). -/
def withEvents (fs : List FldRow) (hw w : Word) : Word := w ||| (hw &&& accMask .w1c fs)

/-- The bits that a read answers: those of fields that are not write-only. -/
def readMask (fs : List FldRow) : Word :=
  fs.foldl (fun m f => if f.acc = .wo then m else m ||| Word.mask f.hi f.lo) 0

/-- What a read answers: write-only and reserved fields read 0 (R10, R12). -/
def readFields (fs : List FldRow) (w : Word) : Word := w &&& readMask fs

/-- What a read leaves: RC fields are cleared and then hold the events of the same cycle (R10, R15). -/
def afterRead (fs : List FldRow) (ev w : Word) : Word :=
  (w &&& ~~~ accMask .rc fs) ||| (ev &&& accMask .rc fs)

/-- The fields of register number n of a family. -/
def fieldsOf (r : Reg) (n : Nat) : List FldRow :=
  match findRow (r.off + n * r.stride) (rowsOf r.blk) with
  | some (row, _) => row.fields
  | none => []

/-- The LOCK that guards the RWL fields at an address of a block kind (R17): the block's own and, in a region, that of
RGN_CTRL. -/
def State.locked (s : State) (b : Blk) (a : Nat) : Bool :=
  let win := a - a % 0x1000
  let r := (a - 0x100_0000) / 0x10_0000
  match b with
  | .hub => false
  | .cfg => s.gb F.CFG_CTRL_LOCK 0
  | .sec => s.gb F.CFG_CTRL_LOCK 0
  | .spr => s.gb F.SPR_CTRL_LOCK 0
  | .pmap => s.gb F.PMAP_CTRL_LOCK 0
  | .host => s.gb F.HOST_SB_CFG_LOCK 0
  | .herd => s.gb F.HERD_CTRL_LOCK 0
  | .pin => s.gb F.PIN_CTRL_LOCK 0
  | .sett => s.gb F.SETT_CTRL_LOCK 0
  | .ac => (if a % 0x1000 < 0x300 then s.gb F.AC_CTRL_LOCK win else s.gb F.WC_CTRL_LOCK win) || s.gb F.RGN_CTRL_LOCK (rgB r)
  | .cg => s.gb F.CG_CTRL_LOCK win || s.gb F.RGN_CTRL_LOCK (rgB r)
  | .pg => s.gb F.PG_CTRL_LOCK (pgB r) || s.gb F.RGN_CTRL_LOCK (rgB r)
  | .le => s.gb F.LE_CTRL_LOCK (leB r) || s.gb F.RGN_CTRL_LOCK (rgB r)
  | .fab => s.gb F.FAB_CTRL_LOCK (fabB r) || s.gb F.RGN_CTRL_LOCK (rgB r)
  | .rgn => s.gb F.RGN_CTRL_LOCK (rgB r)

/-- The word that a write of v would leave in a register (R10 to R17), the form every register with a row of its own
checks before it takes effect. -/
def State.merged (s : State) (r : Reg) (b n : Nat) (v : Word) : Word :=
  mergeFields (s.locked r.blk (r.addr b n)) (fieldsOf r n) (s.rd r b n) v

/-! ### The address map (R66 to R69) -/

/-- The block kind that serves an address of the register map and the base of its block; none for memories and reserved
ranges (R67 to R69). -/
def place (a : Nat) : Option (Blk × Nat) :=
  if a < 0x8_0000 then
    some ((match a / 0x1_0000 with
      | 0 => Blk.hub | 1 => .cfg | 2 => .sec | 3 => .spr | 4 => .pmap | 5 => .host | 6 => .herd | _ => .pin), 0)
  else if a < 0x100_0000 then (if 0x10_0000 ≤ a ∧ a < 0x11_0000 then some (.sett, 0) else none)
  else
    let o := (a - 0x100_0000) % 0x10_0000
    let base := a - o
    if o < 0xC000 then some (.ac, a - a % 0x1000)
    else if 0x2_0000 ≤ o ∧ o < 0x2_4000 then some (.cg, a - a % 0x1000)
    else if 0x3_0000 ≤ o ∧ o < 0x4_0000 then some (.pg, base + 0x3_0000)
    else if 0x4_0000 ≤ o ∧ o < 0x5_0000 then some (.le, base + 0x4_0000)
    else if 0x6_0000 ≤ o ∧ o < 0x8_0000 then some (.fab, base + 0x6_0000)
    else if 0xF_0000 ≤ o then some (.rgn, base + 0xF_0000)
    else none

/-- The register row at an address, with the base of its block and its number in its family. -/
def rowAt (a : Nat) : Option (Blk × Nat × RegRow × Nat) :=
  match place a with
  | some (k, base) => (findRow (a - base) (rowsOf k)).map fun p => (k, base, p.1, p.2)
  | none => none

/-- The bits of a register word that the image sets (Reset column "IMG"). -/
def imgMask (a : Nat) : Word :=
  match rowAt a with
  | some (_, _, row, _) => row.fields.foldl (fun m f => if f.img then m ||| Word.mask f.hi f.lo else m) 0
  | none => 0

/-- A plain write of a register, field by field. -/
def State.plainWrite (s : State) (r : Reg) (b n : Nat) (v : Word) : State := s.wr r b n (s.merged r b n v)

end Sys2Proof.Machine
end

