-- ==== Sys2Proof/Machine/Work.lean ====
section
/-!
DEFINITION. What gives a region's blocks work (01_architecture.md R60, R65; 07_loop_engines.md R263), and the write that
only a region's owner may make, which starts a stopped fast clock when it gives a block work.
-/

namespace Sys2Proof.Machine

/-! ### Groups and engines by key -/

/-- The key of converter group g of region r. -/
def grpKey (r g : Nat) : Nat := r * 4 + g
def State.grp (s : State) (r g : Nat) : GrpS := s.conv.get (grpKey r g)
def State.setGrp (s : State) (r g : Nat) (x : GrpS) : State := { s with conv := s.conv.set (grpKey r g) x }

/-- CG_STAT.STATE codes. -/
def cgState (s : State) (r g : Nat) : Nat := s.gf F.CG_STAT_STATE (cgB r g)
def setCgState (s : State) (r g v : Nat) : State := s.sf F.CG_STAT_STATE (cgB r g) 0 v


def State.eng (s : State) (r : Nat) : EngS := s.engines.get r
def State.setEng (s : State) (r : Nat) (x : EngS) : State := { s with engines := s.engines.set r x }

def progAddr (r n : Nat) : Nat := rgnBase r + 0x8_0000 + 8 * (n % 8192)
/-- A packet of program memory. -/
def packet (s : State) (r n : Nat) : DWord :=
  DWord.ofHalves (s.lemem.get (progAddr r n)) (s.lemem.get (progAddr r n + 4))

/-- Bits hi..lo of a packet. -/
def pf (w : DWord) (hi lo : Nat) : Nat := w.toNat / 2 ^ lo % 2 ^ (hi + 1 - lo)

/-! ### Work (R60, R263) -/

/-- An event that the engine takes is pending (R261): enabled, unmasked, and no handler runs. -/
def eventWork (s : State) (r : Nat) : Bool :=
  let x := s.eng r
  !x.handler && !x.main.sr.getLsbD 7 && s.gf F.LE_EVPEND_PEND (leB r) &&& s.gf F.LE_EVEN_EN (leB r) != 0

/-- The engine has work (R60, R263): a packet runs or control accesses and transfers are on their way; in WAITIN a transfer
at the WAITIN's own port, and in WAIT or WAITIN an event that is taken. -/
def engineBusy (s : State) (r : Nat) : Bool :=
  let x := s.eng r
  !x.cwr.isEmpty || x.outq.cells.any (fun c => !c.2.isEmpty) ||
    (match x.mode with
      | .running => true
      | .crd _ _ => true
      | .cwr _ _ => true
      | .waitIn => !(x.ports.get (pf (packet s r x.pc) 23 20)).buf.isEmpty || eventWork s r
      | .waitEv => eventWork s r
      | .halted => false
      | .faulted => false)

/-- A converter group has work (R60): LIVE, starting, calibrating, a pass, an urgent request or a buffered result. -/
def groupBusy (s : State) (r g : Nat) : Bool :=
  let x := s.grp r g
  s.gb F.CG_CTRL_LIVE (cgB r g) || cgState s r g = 1 || cgState s r g = 6 || x.pass.isSome || !x.urg.isEmpty
    || x.taps.cells.any fun c => !c.2.buf.isEmpty

/-- A unit of the region is being checked, migrated or substituted (R60). -/
def procedureRuns (s : State) (r : Nat) : Bool :=
  ((List.range 12).any fun k => s.gf F.AC_MIG_STAT_STATE (acB r k) != 0 || s.gf F.WC_CHK_STAT_STATE (acB r k) != 0)
    || s.gf F.PG_SUB_STAT_STATE (pgB r) != 0 || s.gf F.LE_SUB_STAT_STATE (leB r) != 0 || s.gf F.FAB_RELOC_STAT_STATE (fabB r) != 0

/-- A block of the region has work of the kinds that a register write can give (R60, R65). -/
def hasWork (s : State) (r : Nat) : Bool :=
  s.gb F.LE_CTRL_LIVE (leB r) || engineBusy s r || ((List.range 4).any fun g => groupBusy s r g) || procedureRuns s r

/-- A write that has turned `s` into `t` starts a Gated or Cold clock if it gave a block work (R65): it is Running within
20 ns, or once its synthesiser is locked (CLOCK_START, SYNTH_LOCK). -/
def State.started (s t : State) (r : Nat) : State :=
  if (t.clk r = 1 ∨ t.clk r = 2) ∧ hasWork s r = false ∧ hasWork t r = true then
    t.setRgn r { t.rgnS r with synthOn := true }
  else t

/-- A register write that only an owner may make (R29, R65). -/
def State.asOwner (s : State) (a : Reader) (r : Nat) (f : State → State) : State :=
  if s.mayWrite a r then s.started (f s) r else s.byPath a (rgnBase r) (s.ownerReject r)

end Sys2Proof.Machine
end

