-- ==== Sys2Proof/Machine/Spoor.lean ====
section
/-!
DEFINITION. Spoor records at their sources and in the funnel buffers, flows, admission and the deadline promise
(10_spoor_and_delivery.md, R352 to R388, R558). The hop arbiters stand in Delivery.lean.
-/

namespace Sys2Proof.Machine

/-! ### Flows (R363 to R367) -/

def State.flow (s : State) (f : Nat) : FlowS := s.spoor.flows.get f
def State.setFlow (s : State) (f : Nat) (x : FlowS) : State :=
  { s with spoor := { s.spoor with flows := s.spoor.flows.set f x } }

def flowAccepted (s : State) (f : Nat) : Bool := (s.flow f).st = .accepted

/-- Handles under which a flow has ever been opened. -/
def handles (s : State) : List Nat := s.spoor.flows.cells.map (·.1)

/-- Descriptor fields. -/
def FlowS.rate (x : FlowS) : Nat := fOf x.d0 F.SPR_DESC0_RATE
def FlowS.burst (x : FlowS) : Nat := fOf x.d1 F.SPR_DESC1_BURST
def FlowS.deadline (x : FlowS) : Nat := fOf x.d2 F.SPR_DESC2_DEADLINE
def FlowS.prio (x : FlowS) : Nat := fOf x.d0 F.SPR_DESC0_PRIO
def FlowS.die (x : FlowS) : Nat := fOf x.d0 F.SPR_DESC0_DIE
def FlowS.hold (x : FlowS) : Nat := fOf x.d1 F.SPR_DESC1_HOLD

/-- The pool reservation Q of R365 in 32-byte units: r × D is RATE × 1000 B/s times DEADLINE µs. -/
def FlowS.q32 (x : FlowS) : Nat := x.burst + ((x.rate * x.deadline + 999) / 1000 + 31) / 32

/-- A sum of fractions as numerator and denominator, exact. -/
def addFrac (a b : Nat × Nat) : Nat × Nat := (a.1 * b.2 + b.1 * a.2, a.2 * b.2)

/-- The reserved rate g of R367 in B/s, exact. -/
def FlowS.g (x : FlowS) : Nat × Nat := addFrac (x.rate * 1000, 1) (32 * x.burst * 1000000, x.deadline - 2)

/-- Sums over the accepted flows; the pool sum also holds what closed flows have not yet released (R368). -/
def poolSum (s : State) : Nat :=
  s.spoor.flows.cells.foldl (fun n c => if c.2.st = .accepted ∨ c.2.closing then n + c.2.q32 else n) 0
def dieSum (s : State) (d : Nat) : Nat :=
  s.spoor.flows.cells.foldl (fun n c => if c.2.st = .accepted ∧ c.2.die = d then n + c.2.rate else n) 0
def hostSum (s : State) : Nat × Nat :=
  s.spoor.flows.cells.foldl (fun n c => if c.2.st = .accepted then addFrac n c.2.g else n) (0, 1)

/-- A host sum is at most 0.7 × C (R367), C in sixteenths of MB/s. -/
def hostFits (s : State) (sum : Nat × Nat) : Bool := decide (sum.1 * 160 ≤ 7 * s.spoor.c16 * 1000000 * sum.2)

/-- The registers that follow the flows: SPR_STAT.ACCEPTED, SPR_CAP, SPR_USE_ (sums in kB/s, rounded down, saturating). -/
def State.syncFlows (s : State) : State :=
  let n := (s.spoor.flows.cells.filter fun c => c.2.st = .accepted).length
  let h := hostSum s
  let s1 := (s.sf F.SPR_STAT_ACCEPTED 0 0 n).sf F.SPR_USE_POOL_Q 0 0 (poolSum s)
  let s2 := (s1.sf F.SPR_USE_DIE0_RATE 0 0 (min 0xFF_FFFF (dieSum s 0))).sf F.SPR_USE_DIE1_RATE 0 0 (min 0xFF_FFFF (dieSum s 1))
  let s3 := s2.sf F.SPR_USE_HOST_RATE 0 0 (min 0xFF_FFFF (h.1 / (1000 * h.2)))
  (s3.sf F.SPR_CAP_C 0 0 (min 0xFFFF (s.spoor.c16 / 16))).sf F.SPR_CAP_LIMIT 0 0 (min 0xFFFF (7 * s.spoor.c16 / 160))

/-- The posting port of PMAP_STAT: 0 none, 1 HLA, 2 HLB (R389). -/
def postPort (s : State) : Nat := s.gf F.PMAP_STAT_PORT 0

/-- Capacity in MB/s by rate and width code (R367). -/
def capacityOf (rate width : Nat) : Nat :=
  match rate, width with
  | 4, 0 => 15754 | 4, 1 => 7877 | 4, 2 => 3938
  | 3, 0 => 7877 | 3, 1 => 3938 | 3, 2 => 1969
  | 2, 0 => 3938 | 2, 1 => 1969 | 2, 2 => 985
  | 1, 0 => 2000 | 1, 1 => 1000 | 1, 2 => 500
  | 0, 0 => 1000 | 0, 1 => 500 | 0, 2 => 250
  | _, _ => 0

/-- The negotiated capacity of the posting port; 0 with none (R418). -/
def postCapacity (s : State) : Nat :=
  match postPort s with
  | 0 => 0
  | p + 1 => capacityOf (s.gf F.HOST_p_STAT_RATE 0 p) (s.gf F.HOST_p_STAT_WIDTH 0 p)

/-! ### Records waiting anywhere -/

/-- A function applied to every record at a source interface, in a hop, or waiting for credit at a port. -/
def State.mapItems (s : State) (f : Item → Item) : State :=
  { s with
    spoor := { s.spoor with
      srcQ := s.spoor.srcQ.mapAll fun _ l => l.map f,
      hops := s.spoor.hops.mapAll fun _ l => l.map f },
    pmap := { s.pmap with waiting := s.pmap.waiting.mapAll fun _ l => l.map fun w => { w with items := w.items.map f } } }

/-- The records in hops, the posting queue and the ports' queues. -/
def queuedItems (s : State) : List Item :=
  (s.spoor.hops.cells.map (·.2)).flatten ++ ((s.pmap.waiting.cells.map (·.2)).flatten.map fun w => w.items).flatten

/-- A flag of R373 for every conforming record that waits. -/
def State.flagWaiting (s : State) (cause : Nat) : State :=
  s.mapItems fun i => if i.conf then { i with why := i.why ||| 2 ^ cause } else i

/-- A closed flow's reservation is released when its last queued record has left (R368). -/
def State.releaseClosing (s : State) : State :=
  let q := queuedItems s
  let release := fun (f : Nat) (x : FlowS) =>
    if x.closing && !(q.any fun i => i.flow = f) then { x with closing := false } else x
  ({ s with spoor := { s.spoor with flows := s.spoor.flows.mapAll release } }).syncFlows

/-! ### Drops (R371, R380, R381, R386) -/

/-- One drop of a source counted at a hop, to be reported in DROPS (R381). -/
def State.noteDrop (s : State) (hop : Nat) (x : Src) : State :=
  let k := hop * 65536 + x.key
  { s with spoor := { s.spoor with hopDrops := s.spoor.hopDrops.set k (s.spoor.hopDrops.get k + 1) } }

/-- A flow's DROP count (R381). -/
def State.countDrop (s : State) (flow : Nat) : State :=
  let x := s.flow flow
  s.setFlow flow { x with drop := min 65535 (x.drop + 1) }

/-- The counts of a dropped record by class, with SPR_EVT, and by flow (R381). -/
def State.countLoss (s : State) (cls flow : Nat) : State :=
  let s1 := if cls = 3 then (s.bump F.SPR_LOSS_TRACE_COUNT 0).sb F.SPR_EVT_TRACE_DROP 0 0 true
            else (s.bump F.SPR_LOSS_BE_COUNT 0).sb F.SPR_EVT_BE_DROP 0 0 true
  if flow = 0 then s1 else s1.countDrop flow

/-- A record dropped at a hop. -/
def State.dropAt (s : State) (hop : Nat) (i : Item) : State := (s.countLoss i.cls i.flow).noteDrop hop i.src

/-! ### At the source (R357, R370, R371, R386) -/

/-- Why a source drops a record at once: 1 NOLINK (R386), 2 TRACE off, 3 CLOSED (R368, R407). -/
def sourceDrop (s : State) (cls flow : Nat) : Nat :=
  if !s.spoor.started then 1
  else if cls = 3 ∧ s.gb F.SPR_CTRL_TRACE_EN 0 = false then 2
  else if flow ≠ 0 ∧ ((s.flow flow).st = .closed ∨ (s.flow flow).st = .broken) then 3
  else 0

/-- The records of a flow that wait at a source interface. -/
def waitingAt (s : State) (x : Src) (flow : Nat) : Nat :=
  ((s.spoor.srcQ.get x.key).filter fun i => i.flow = flow && !i.conf).length

/-- The bucket of a source and a flow has a token, and the flow's reservation has room (R371, R406). Taken units are
10^-6 byte: a record takes 32,000,000. -/
def tokenFree (s : State) (x : Src) (flow : Nat) : Bool :=
  let fl := s.flow flow
  decide (s.spoor.taken.get (x.key * 4096 + flow) + 32000000 ≤ fl.burst * 32000000)
    && decide (((queuedItems s).filter fun i => i.flow = flow && i.conf).length < fl.q32)

/-- The bucket after a record took a token. -/
def State.takeToken (s : State) (x : Src) (flow : Nat) : State :=
  let k := x.key * 4096 + flow
  { s with spoor := { s.spoor with taken := s.spoor.taken.set k (s.spoor.taken.get k + 32000000) } }

/-- A record that is not an ALARM arrives at its source interface: dropped (R368, R371, R386), or it waits there until it
is emitted. One dropped as CLOSED counts in DROPS and in its flow's DROP count (R381). -/
def State.produce (s : State) (i : Item) : State :=
  match sourceDrop s i.cls i.flow with
  | 0 =>
    if flowAccepted s i.flow && decide (waitingAt s i.src i.flow ≥ 4) then s.dropAt (firstHop i.src) i
    else
      let i1 := { i with prio := if i.flow = 0 then 0 else (s.flow i.flow).prio }
      { s with spoor := { s.spoor with srcQ := s.spoor.srcQ.set i.src.key (s.spoor.srcQ.get i.src.key ++ [i1]) } }
  | 3 => (s.countDrop i.flow).noteDrop (firstHop i.src) i.src
  | _ => s.dropAt (firstHop i.src) i

/-- Does the source interface drop a record of this class and flow now (R371, R386)? -/
def wouldDrop (s : State) (x : Src) (cls flow : Nat) : Bool :=
  sourceDrop s cls flow != 0 || (flowAccepted s flow && decide (waitingAt s x flow ≥ 4))

/-- The event flow (R357). -/
def eventFlow (s : State) : Nat := s.gf F.SPR_EVFLOW_FLOW 0

/-! ### Hop buffers (R376, R380) -/

/-- A record of ranks 1 to 3 (ALARM or guaranteed). -/
def Item.high (i : Item) : Bool := i.cls = 0 || i.conf

/-- The record that a full buffer discards for an arriving one (R380): the oldest TRACE record; else, for an ALARM or a
guaranteed record, the oldest best-effort record of the lowest PRIO, and for a best-effort record one of lower PRIO. -/
def victim (l : List Item) (i : Item) : Option Item :=
  match l.find? fun j => j.cls = 3 && !j.conf with
  | some j => if i.cls = 3 ∧ i.conf = false then none else some j
  | none =>
    if i.cls = 3 ∧ i.conf = false then none
    else
      let be := l.filter fun j => !j.high && (i.high || decide (j.prio < i.prio))
      be.foldl (fun b j => match b with | some v => if j.prio < v.prio then some j else some v | none => some j) none

/-- A record enters a hop (R376, R380); none: an ALARM record cannot move and waits. A guaranteed record always enters. -/
def State.enterHop (s : State) (h : Nat) (i : Item) : Option State :=
  let l := s.spoor.hops.get h
  let put := fun (s : State) (l : List Item) => { s with spoor := { s.spoor with hops := s.spoor.hops.set h (l ++ [i]) } }
  if l.length < Config.hopDepth h then some (put s l)
  else match victim l i with
    | some v => some (put (s.dropAt h v) (l.erase v))
    | none =>
      if i.conf then some (put s l)
      else if i.cls = 0 then none
      else some (s.dropAt h i)

/-- The record that a source emits next: the oldest that needs no token, holds one, or finds one (R371). -/
def emitNext (s : State) (x : Src) : Option Item :=
  (s.spoor.srcQ.get x.key).find? fun i => i.conf || !flowAccepted s i.flow || tokenFree s x i.flow

/-- RECORD_EMIT (R370, R371): the record takes a token if its flow is accepted and it holds none, takes its emission time
and enters its cluster funnel, or the Hub funnel. -/
def execRecordEmit (x : Src) (s : State) : Host.Outcome State Fault Refusal :=
  s.after <|
    match emitNext s x with
    | none => s
    | some i =>
      let acc := flowAccepted s i.flow
      let s1 := if acc && !i.conf then s.takeToken x i.flow else s
      let s2 := { s1 with spoor := { s1.spoor with
          srcQ := s1.spoor.srcQ.set x.key ((s1.spoor.srcQ.get x.key).erase i) } }
      (s2.enterHop (firstHop x) { i with conf := acc, emit := s.hub.base }).getD s2

/-- TOKEN_GRANT (R371): the bucket of a source and flow refills for `ns` nanoseconds at r, up to B records; the oldest
waiting record that finds a token becomes conforming. -/
def execTokenGrant (x : Src) (flow : Fin 4096) (ns : Nat) (s : State) : Host.Outcome State Fault Refusal :=
  let k := x.key * 4096 + flow.val
  let s1 := { s with spoor := { s.spoor with taken := s.spoor.taken.set k (s.spoor.taken.get k - (s.flow flow.val).rate * ns) } }
  s.after <|
    if flowAccepted s flow.val && tokenFree s1 x flow.val then
      match (s.spoor.srcQ.get x.key).findIdx? fun i => i.flow = flow.val && !i.conf with
      | some n =>
        let s2 := s1.takeToken x flow.val
        { s2 with spoor := { s2.spoor with
            srcQ := s2.spoor.srcQ.set x.key ((s2.spoor.srcQ.get x.key).modify n fun i => { i with conf := true }) } }
      | none => s1
    else s1

/-! ### Alarms (R356, R377, R378) -/

/-- The codes that a source can raise (R356). -/
def mayRaise (x : Src) (c : Nat) : Bool :=
  let u := x.unit.val
  if x.hub then
    (u = 0 && 0x160 ≤ c && c ≤ 0x17F) || (u = 1 && 0x110 ≤ c && c ≤ 0x111) || (u = 3 && 0x120 ≤ c && c ≤ 0x121)
      || (u = 4 && 0x130 ≤ c && c ≤ 0x13F) || ((u = 5 || u = 6) && 0x140 ≤ c && c ≤ 0x14F)
      || (u = 7 && 0x150 ≤ c && c ≤ 0x15F) || (u = 8 && 0x100 ≤ c && c ≤ 0x101)
  else
    (u < 0x18 && 0x30 ≤ c && c ≤ 0x32) || (0x20 ≤ u && u < 0x2C && 0x10 ≤ c && c ≤ 0x11)
      || (0x30 ≤ u && u < 0x34 && 0x20 ≤ c && c ≤ 0x22) || (0x40 ≤ u && u < 0x50 && 0x40 ≤ c && c ≤ 0x44)
      || (u = 0x60 && 0x50 ≤ c && c ≤ 0x52) || (u = 0x70 && 0x60 ≤ c && c ≤ 0x63)
      || (0x78 ≤ u && u ≤ 0x7B && 0xF000 ≤ c && c ≤ 0xFFFF) || (u = 0x80 && 1 ≤ c && c ≤ 2)

/-- The TYPE of an alarm record (R354). -/
def alarmType (x : Src) (c : Nat) : Nat :=
  if c = 0x30 then 4 else if c = 0x120 ∨ c = 0x121 then 5
  else if x.hub = false ∧ 0x78 ≤ x.unit.val ∧ x.unit.val ≤ 0x7B then 3 else 0

/-- A fabric spoor port that holds an alarm of another code is busy (R377). -/
def portBusy (s : State) (x : Src) (c : Nat) : Bool :=
  decide (alarmType x c = 3)
    && (match s.spoor.slots.get (slotKey x c 0) with | some sl => sl.code != c | none => false)

/-- ALARM_RAISE (R377, R378): a source raises one of its codes with the detail of this occurrence; the per-flow slots of
DEADLINE_MISS take the flow from the detail (R374). A busy fabric port takes nothing. -/
def execAlarmRaise (x : Src) (code : Fin 65536) (detail : BitVec 80) (s : State) : Host.Outcome State Fault Refusal :=
  s.after <|
    if mayRaise x code.val && !portBusy s x code.val then
      s.raiseT x (alarmType x code.val) code.val (if code.val = 0x121 then detail.toNat % 4096 else 0) detail
    else s

/-! ### Deadlines (R372 to R375) -/

/-- The lowest cause of R373 that applied to a record; 0: none. -/
def missCause (i : Item) : Nat :=
  let w := if i.linkNs > 200 then i.why ||| 2 ^ 5 else i.why
  if w.testBit 1 then 1 else if w.testBit 2 then 2 else if w.testBit 3 then 3 else if w.testBit 4 then 4
  else if w.testBit 5 then 5 else 0

/-- The oldest conforming record of a flow that waits and whose miss has not been counted. -/
def lateRecord (s : State) (f : Nat) : Option Item :=
  ((queuedItems s).filter fun i => i.flow = f && i.conf && !i.missed).foldl
    (fun b i => match b with | some v => if i.emit < v.emit then some i else some v | none => some i) none

/-- The deadline of a conforming record, in counts of the timebase (R361, R372). -/
def deadlineOf (s : State) (i : Item) : Nat := i.emit + (s.flow i.flow).deadline * 16000

/-- DEADLINE_MISS (R372 to R374): the oldest conforming record of an accepted flow has passed its deadline. With no cause of
R373 there is no such event. -/
def execDeadlineMiss (flow : Fin 4096) (s : State) : Host.Outcome State Fault Refusal :=
  let f := flow.val
  s.after <|
    match lateRecord s f with
    | none => s
    | some i =>
      let c := missCause i
      if c = 0 ∨ flowAccepted s f = false ∨ s.hub.base < deadlineOf s i then s
      else
        let s1 := s.mapItems fun j => if j = i then { j with missed := true } else j
        let x := s1.flow f
        let s2 := s1.setFlow f { x with miss := min 65535 (x.miss + 1), missCause := c }
        let s3 := ((s2.sf F.SPR_MISS_LAST_CAUSE 0 0 c).sf F.SPR_MISS_LAST_FLOW 0 0 f).sb F.SPR_EVT_MISS 0 0 true
        s3.raiseT admission 5 0x121 f (detailOf [(2, 2, f), (4, 1, c), (8, 4, min 0xFFFF_FFFF ((s.hub.base - deadlineOf s i) / 16))])

/-! ### Admission (R363 to R369) -/

/-- The checks of R364 in the order the rule gives; the cause or 0. -/
def checkDesc (x : FlowS) (guar : Bool) : Nat :=
  if x.rate = 0 ∨ x.burst = 0 ∨ x.deadline < 10 ∨ x.deadline > 1000000 ∨ x.die = 3 then 4
  else if fOf x.d0 F.SPR_DESC0_CLASS = 0 ∨ (guar ∧ fOf x.d0 F.SPR_DESC0_CLASS = 3) then 6
  else 0

/-- The sums of R365 to R367 with one more flow; the cause or 0. -/
def checkSums (s : State) (x : FlowS) : Nat :=
  if poolSum s + x.q32 > 393216 then 1
  else if x.die < 2 ∧ (dieSum s x.die + x.rate) * 1000 > 12000000000 then 2
  else if hostFits s (addFrac (hostSum s) x.g) = false then 3
  else 0

/-- SPR_CMD_STAT, SPR_EVT and START at the end of a command (R16): POOL, DIE and HOST are refusals of admission. -/
def State.cmdEnd (s : State) (cause : Nat) (asks : Bool) : State :=
  let s1 := (s.sf F.SPR_CMD_STAT_RESULT 0 0 (if cause = 0 then 1 else 3)).sf F.SPR_CMD_STAT_CAUSE 0 0 cause
  let s2 := if cause = 0 then s1
            else if asks then s1.sb F.SPR_EVT_REFUSED 0 0 true else s1.sb F.SPR_EVT_REJECT 0 0 true
  (s2.sb F.SPR_CMD_START 0 0 false).syncFlows

/-- The buckets of a flow are full again. -/
def State.fillBuckets (s : State) (f : Nat) : State :=
  { s with spoor := { s.spoor with taken := s.spoor.taken.keep fun k => k % 4096 != f } }

/-- OPEN (R363 to R367): the descriptor of SPR_DESC0 to SPR_DESC2. An OPEN is refused for admission's causes as REFUSED. -/
def openFlow (s : State) (f : Nat) : State :=
  let d : FlowS := { FlowS.reset with d0 := s.rd R.SPR_DESC0 0, d1 := s.rd R.SPR_DESC1 0, d2 := s.rd R.SPR_DESC2 0 }
  let guar := s.gb F.SPR_DESC0_GUAR 0
  let c := if f = 0 then 6 else checkDesc d guar
  let c1 := if c ≠ 0 then c else if (s.flow f).st ≠ .closed then 5
            else if guar ∧ postPort s = 0 then 7 else if guar then checkSums s d else 0
  if c1 = 0 then
    (((s.fillBuckets f).setFlow f { d with st := if guar then .accepted else .bestEffort }).cmdEnd 0 true)
  else s.cmdEnd c1 true

/-- What becomes of a flow's records when its guarantee ends (R375, R383): they keep their place and lose their deadline. -/
def State.unconform (s : State) (f : Nat) : State :=
  s.mapItems fun i => if i.flow = f then { i with conf := false } else i

/-- Records of a flow that wait at source interfaces are dropped there (R368). -/
def State.dropWaiting (s : State) (f : Nat) : State :=
  s.spoor.srcQ.cells.foldl (fun s c =>
    let gone := c.2.filter fun i => i.flow = f
    let s1 := gone.foldl (fun s i => (s.countDrop f).noteDrop (firstHop i.src) i.src) s
    { s1 with spoor := { s1.spoor with srcQ := s1.spoor.srcQ.set c.1 (c.2.filter fun i => i.flow != f) } }) s

/-- Suspended flows (R405), as PMAP_SUSPw shows them. -/
def suspended (s : State) (f : Nat) : Bool := (s.pmap.flows.get f).susp.isSome

/-- PMAP_STAT.SUSP and PMAP_SUSPw follow the suspensions (R405). -/
def State.setSusp (s : State) (f : Nat) (x : Option SuspS) : State :=
  let s1 := { s with pmap := { s.pmap with flows := s.pmap.flows.upd f fun p => { p with susp := x } } }
  let n := (s1.pmap.flows.cells.filter fun c => c.2.susp.isSome).length
  ((s1.wr R.PMAP_SUSPw 0 (f / 32) ((s1.rd R.PMAP_SUSPw 0 (f / 32)).setBit (f % 32) x.isSome))).sf F.PMAP_STAT_SUSP 0 0 n

/-- Records of a flow in the posting queue are discarded and counted (R380, R407, R419); answers how many. -/
def State.discardHeld (s : State) (f : Nat) (keepN : Nat) : State × Nat :=
  let held := (s.spoor.hops.get hopPost).filter fun i => i.flow = f
  let gone := held.drop keepN
  let s1 := gone.foldl (fun s i => s.countLoss i.cls i.flow) s
  let rest := (s1.spoor.hops.get hopPost).filter fun i => i.flow != f || !(gone.contains i)
  ({ s1 with spoor := { s1.spoor with hops := s1.spoor.hops.set hopPost rest } }, gone.length)

/-- CLOSE (R368): its queued records become best-effort and hold its reservation until the last has left; a suspended flow
loses its held records (R419). -/
def closeFlow (s : State) (f : Nat) : State :=
  let x := s.flow f
  if f = 0 then s.cmdEnd 6 false
  else if x.st = .closed then s.cmdEnd 5 false
  else
    let s0 := if suspended s f then ((s.discardHeld f 0).1).setSusp f none else s
    let x0 := s0.flow f
    let q := (queuedItems s0).any fun i => i.flow = f
    ((((s0.dropWaiting f).unconform f).setFlow f { x0 with st := .closed, closing := decide (x.st = .accepted) && q })).cmdEnd 0 false

/-- SPR_FSTAT.STATE of a flow (R363, R405, R407). -/
def flowCode (s : State) (f : Nat) : Nat :=
  match (s.flow f).st with
  | .closed => 0
  | .broken => 5
  | .accepted => if suspended s f then 4 else 1
  | .bestEffort => if suspended s f then 4 else 2
  | .demoted => if suspended s f then 4 else 3

/-- QUERY (R368): descriptor, state and counts as of one instant. -/
def queryFlow (s : State) (f : Nat) : State :=
  if f = 0 then s.cmdEnd 6 false
  else
    let x := s.flow f
    let s1 := ((s.wr R.SPR_DESC0 0 0 x.d0).wr R.SPR_DESC1 0 0 x.d1).wr R.SPR_DESC2 0 0 x.d2
    let s2 := ((s1.sf F.SPR_FSTAT_STATE 0 0 (flowCode s f)).sf F.SPR_FSTAT_MISS_CAUSE 0 0 x.missCause).sf
      F.SPR_FSTAT_DEMOTE_CAUSE 0 0 x.demoteCause
    let s3 := (s2.sf F.SPR_FSTAT_RESV 0 0 (if x.st = .accepted then x.q32 else 0)).wr R.SPR_FCNT0 0 0 x.deliv
    ((s3.sf F.SPR_FCNT1_MISS 0 0 x.miss).sf F.SPR_FCNT1_DROP 0 0 x.drop).cmdEnd 0 false

/-- READMIT (R368, R384): a guarantee for a best-effort or demoted flow under its present descriptor. -/
def readmitFlow (s : State) (f : Nat) : State :=
  let x := s.flow f
  let c := if f = 0 then 6 else if x.st ≠ .bestEffort ∧ x.st ≠ .demoted then 5 else checkDesc x true
  let c1 := if c ≠ 0 then c else if postPort s = 0 then 7 else checkSums s x
  if c1 = 0 then ((s.fillBuckets f).setFlow f { x with st := .accepted, demoteCause := 0 }).cmdEnd 0 true
  else s.cmdEnd c1 true

/-! ### Re-runs (R382 to R385) -/

/-- The next flow that a re-run demotes: the lowest PRIO, within it the highest handle (R383). -/
def demoteNext (s : State) : Option Nat :=
  (s.spoor.flows.cells.filter fun c => c.2.st = .accepted).foldl (fun b c =>
    match b with
    | some f => if c.2.prio ≤ (s.flow f).prio then some c.1 else some f
    | none => some c.1) none

/-- One flow demoted (R383, R375); while suspended, records beyond 32 are discarded (R419). Records that wait for a token
are policed no longer. -/
def demote (s : State) (f trigger : Nat) : State :=
  let s1 := (s.unconform f).setFlow f { s.flow f with st := .demoted, demoteCause := trigger }
  if suspended s1 f then (s1.discardHeld f 32).1 else s1

/-- Demotions until the host sum fits; answers how many. -/
def demoteLoop (trigger : Nat) : Nat → State → Nat → State × Nat
  | 0, s, n => (s, n)
  | fuel + 1, s, n =>
    if hostFits s (hostSum s) then (s, n)
    else match demoteNext s with
      | some f => demoteLoop trigger fuel (demote s f trigger) (n + 1)
      | none => (s, n)

/-- The lowest PRIO still accepted, or 0xFF (R385). -/
def lowestPrio (s : State) : Nat :=
  (s.spoor.flows.cells.filter fun c => c.2.st = .accepted).foldl (fun n c => min n c.2.prio) 0xFF

/-- A re-admission against C (R383): demotions, then GUARANTEE_SHED if there were any (R385). -/
def rerun (s : State) (trigger : Nat) : State :=
  let d := demoteLoop trigger s.spoor.flows.cells.length s 0
  let s1 := d.1.syncFlows
  if d.2 = 0 then s1
  else (s1.sb F.SPR_EVT_SHED 0 0 true).raiseT admission 5 0x120 0
    (detailOf [(2, 2, d.2), (4, 1, trigger), (5, 1, lowestPrio s1), (8, 4, 7 * s1.spoor.c16 / 160)])

/-- A re-run against the negotiated capacity of the posting port (R382): triggers LINK 1, PORT 2, START 4. -/
def rerunPort (s : State) (trigger : Nat) : State :=
  rerun { s with spoor := { s.spoor with c16 := 16 * postCapacity s, stallC := false } } trigger

/-- Writes have waited at a port without credit for a number of counts (R382, R415). -/
def stalledFor (s : State) (p counts : Nat) : Bool :=
  s.pmap.credits.get p = 0 && !(s.pmap.waiting.get p).isEmpty && s.pmap.stallAt.get p != 0
    && decide (s.pmap.stallAt.get p + counts ≤ s.hub.base + 1)

/-- CREDIT_STALL (R382): no posted-write credit for 10 µs while a posted write waits; `mbs` is the posting bandwidth of the
100 µs before, in MB/s; C falls to a multiple of C/16. -/
def execCreditStall (mbs : Nat) (s : State) : Host.Outcome State Fault Refusal :=
  let p := postPort s
  s.after <|
    if p = 0 ∨ stalledFor s (p - 1) 160000 = false then s
    else
      let s1 := (s.sb F.SPR_STAT_STALL 0 0 true).flagWaiting 1
      let c := s.spoor.c16
      let k := if c = 0 then 0 else min 16 (mbs * 256 / c)
      rerun { s1 with spoor := { s1.spoor with c16 := c * k / 16, stallC := true } } 3

/-- ADMISSION_RERUN (R382, R383): the posting port has retrained (1) or posting has moved (2). -/
def execAdmissionRerun (port : Bool) (s : State) : Host.Outcome State Fault Refusal :=
  s.after <| if s.spoor.started then rerunPort s (if port then 2 else 1) else s

/-- The start of admission (R387): the flows that the image declares are opened, then the re-run with trigger START. -/
def admissionStart (s : State) : State :=
  if s.spoor.started || decide (postPort s = 0) then s
  else
    let s1 := s.spoor.imgFlows.foldl (fun s d =>
      if (s.flow d.1).st = .closed ∧ d.1 ≠ 0 then
        s.setFlow d.1 { FlowS.reset with st := if fOf d.2.1 F.SPR_DESC0_GUAR = 1 then .accepted else .bestEffort,
                                         d0 := d.2.1, d1 := d.2.2.1, d2 := d.2.2.2 }
      else s) s
    rerunPort { s1 with spoor := { s1.spoor with started := true } } 4

/-- ADMISSION_START (R387). -/
def execAdmissionStart (s : State) : Host.Outcome State Fault Refusal := s.after (admissionStart s)

/-- A region reset drops the region's records at its source interfaces and in its funnels, but for ALARM records, and counts
them (R388). -/
def spoorRegionReset (s : State) (r : Nat) : State :=
  let drop := fun (s : State) (h : Nat) =>
    let l := s.spoor.hops.get h
    let s1 := (l.filter fun i => i.cls != 0).foldl (fun s i => s.dropAt h i) s
    { s1 with spoor := { s1.spoor with hops := s1.spoor.hops.set h (l.filter fun i => i.cls = 0) } }
  let s1 := ((List.range 20).map (hopCluster r) ++ [hopRegion r]).foldl drop s
  let waiting := ((s1.spoor.srcQ.cells.filter fun c => c.1 / 256 = r).map (·.2)).flatten
  let s2 := waiting.foldl (fun s i => s.dropAt (firstHop i.src) i) s1
  { s2 with spoor := { s2.spoor with srcQ := s2.spoor.srcQ.keep fun k => k / 256 != r } }

end Sys2Proof.Machine
end

