-- ==== Sys2Proof/Machine/Herd.lean ====
section
/-!
DEFINITION. The Herd: links and frames, joining and leaving, Herd Time, power caps, alarms on the Herd, uplink failover
(12_herd.md, R421 to R450, R53).
-/

namespace Sys2Proof.Machine

def State.hport (s : State) (p : Nat) : HPortS := s.herd.ports.get p
def State.setHport (s : State) (p : Nat) (x : HPortS) : State :=
  { s with herd := { s.herd with ports := s.herd.ports.set p x } }

/-- HERD_Pp_STAT.STATE: 0 down, 1 training, 2 up, 3 refused. -/
def hpState (s : State) (p : Nat) : Nat := s.gf F.HERD_Pp_STAT_STATE 0 p

/-- The port's STATE with HERD_STAT.PORTS_UP following it. -/
def State.setHpState (s : State) (p v : Nat) : State :=
  let up := s.gf F.HERD_STAT_PORTS_UP 0
  (s.sf F.HERD_Pp_STAT_STATE 0 p v).sf F.HERD_STAT_PORTS_UP 0 0 (if v = 2 then up ||| 2 ^ p else clearBit up p)

/-- From the end of Verifying until Dormant or a reset (R431). -/
def herdSpan (s : State) : Bool := match s.sett.phase with | .calibrating => true | .running => true | _ => false

/-- Herd ports run (R431). -/
def herdRuns (s : State) : Bool := s.gb F.HERD_CTRL_EN 0 && herdSpan s

def isRoot (s : State) : Bool := s.gb F.HERD_CTRL_ROOT 0

/-- The active uplink, if any (HERD_STAT.ACTIVE). -/
def uplink (s : State) : Option Nat :=
  match s.gf F.HERD_STAT_ACTIVE 0 with | 1 => some 0 | 2 => some 1 | _ => none

/-- A node that is the root of its own tree: a root, or an island (R424); a node whose MOVE waits for its answer is
neither. -/
def ownRoot (s : State) : Bool := isRoot s || ((uplink s).isNone && s.herd.move.isNone)

/-- The root's ID of the tree that the node is in (R423): its active parent's, else as HERD_TOPO has it. -/
def treeRoot (s : State) : Nat :=
  match (uplink s).bind fun p => (s.hport p).beacon with
  | some b => b.root
  | none => s.gf F.HERD_TOPO_ROOT_ID 0

def ownDepth (s : State) : Nat := s.gf F.HERD_TOPO_DEPTH 0

/-- Sources with an alarm waiting behind the uplink (R442): the sum of the inputs' weights. -/
def srcCount (s : State) : Nat :=
  (if s.spoor.slots.cells.isEmpty then 0 else 1) + ([2, 3, 4, 5].map fun p => (s.hport p).srcCnt).sum

/-! ### Sending (R426, R428, R429) -/

/-- A SYNC carries the Herd Time of its transmission (R427, R435). -/
def stampSync (b : Body) (t : DWord) : Body := match b with | .sync _ => .sync t | _ => b

/-- A frame leaves a port: it carries the credits to return and the last SEQ received in order. Sequenced frames are kept
for replay. -/
def State.sendNow (s : State) (p : Nat) (b0 : Body) : State :=
  let x := s.hport p
  let b := stampSync b0 s.now
  let seqd := b.kind != 0x0 && b.kind != 0xD
  let x1 := { x with
    retA := x.retA - min 31 x.retA, retC := x.retC - min 31 x.retC,
    seqTx := if seqd then (x.seqTx + 1) % 4096 else x.seqTx,
    replay := if seqd then x.replay ++ [(x.seqTx, ⟨b, 0⟩)] else x.replay,
    acred := if b.kind = 1 then x.acred - 1 else x.acred,
    ccred := if seqd && b.kind != 1 then x.ccred - 1 else x.ccred }
  (s.setHport p x1).emit
    (.frame p x.seqTx (min 31 x.retA) (min 31 x.retC) ((x.seqRx + 4095) % 4096) (srcCount s) b)

/-- May a sequenced frame of a kind leave now (R428, R429)? -/
def maySend (x : HPortS) (kind : Nat) : Bool :=
  decide (x.replay.length < 64) && decide (0 < if kind = 1 then x.acred else x.ccred)

/-- A frame of ALARM rank (R432, R442): an ALARM, or a JOIN that the node forwards. -/
def alarmRank (f : Frame) : Bool := f.body.kind = 1 || (f.body.kind = 8 && f.inp != 0)

/-- The next waiting frame of a port (R442): those of ALARM rank by weighted round robin over the inputs, ahead of the
others. -/
def nextFrame (s : State) (p : Nat) : Option (Frame × List (Nat × Nat)) :=
  let x := s.hport p
  let top := x.queue.filter fun f => alarmRank f && maySend x f.body.kind
  let inputs := [0, 2, 3, 4, 5].filter fun i => top.any fun f => f.inp = i
  let weights := inputs.map fun i => (i, max 1 (if i = 0 then 1 else (s.hport i).srcCnt))
  match wrrPick x.wrr weights with
  | some (i, left) => (top.find? fun f => f.inp = i).map fun f => (f, left)
  | none => if maySend x 0 then (x.queue.find? fun f => !alarmRank f).map fun f => (f, x.wrr) else none

/-- Credits to return at a DN port, one more or one fewer for the buffer that a forwarded frame holds there until it leaves
this node (R429, R441). -/
def State.creditBack (s : State) (f : Frame) : State :=
  if f.inp = 0 then s
  else
    let x := s.hport f.inp
    s.setHport f.inp (if f.body.kind = 1 then { x with retA := x.retA + 1 } else { x with retC := x.retC + 1 })
def State.creditHeld (s : State) (f : Frame) : State :=
  if f.inp = 0 then s
  else
    let x := s.hport f.inp
    s.setHport f.inp (if f.body.kind = 1 then { x with retA := x.retA - 1 } else { x with retC := x.retC - 1 })

/-- Frames that wait for credit leave while they can. -/
def drainPort (p : Nat) : Nat → State → State
  | 0, s => s
  | fuel + 1, s =>
    match nextFrame s p with
    | some (f, left) =>
      let x := s.hport p
      drainPort p fuel
        (((s.setHport p { x with queue := x.queue.erase f, wrr := left }).sendNow p f.body).creditBack f)
    | none => s

/-- A sequenced frame is handed to a port that is not down; it waits where no credit is held (R429). -/
def State.sendFrame (s : State) (p : Nat) (b : Body) (inp : Nat := 0) : State :=
  if hpState s p = 0 then s
  else
    let x := s.hport p
    let s1 := s.setHport p { x with queue := x.queue ++ [⟨b, inp⟩] }
    drainPort p (x.queue.length + 1) (s1.creditHeld ⟨b, inp⟩)

/-- A frame on the active uplink, if there is one; while a MOVE waits for its answer it is queued (R444). -/
def State.sendUp (s : State) (b : Body) (inp : Nat := 0) : State :=
  match uplink s with
  | some p => s.sendFrame p b inp
  | none =>
    if s.herd.move.isSome then
      State.creditHeld { s with herd := { s.herd with saved := s.herd.saved ++ [⟨b, inp⟩] } } ⟨b, inp⟩
    else s

/-! ### Receiving (R428, R429) -/

/-- A frame discarded for a mismatch: counted, and one NAK until the resent frame arrives (R428). -/
def State.discardFrame (s : State) (p : Nat) : State :=
  let x := s.hport p
  let s1 := (s.setHport p { x with crcSec := x.crcSec + 1, naked := true }).bump F.HERD_Pp_CNT_CRC 0 p
  if x.naked then s1 else s1.sendNow p .nak

/-- What a received header tells: credits gained, frames acknowledged, the sources behind the port. -/
def State.readHeader (s : State) (p : Nat) (h : Hdr) : State :=
  let x := s.hport p
  let kept := x.replay.filter fun f => 2048 ≤ (h.ack.val + 4096 - f.1) % 4096
  let x1 := { x with acred := min 16 (x.acred + h.acred.val), ccred := min 16 (x.ccred + h.ccred.val), replay := kept,
                     resent := if kept.length < x.replay.length then 0 else x.resent, srcCnt := h.srcCnt.val }
  s.setHport p x1

/-- The same, and what may leave now leaves. -/
def State.takeHeader (s : State) (p : Nat) (h : Hdr) : State :=
  drainPort p (s.hport p).queue.length (s.readHeader p h)

/-- A sequenced frame arrives: one out of order is discarded (R428); else its buffer's credit returns (but that of a frame
which `f` forwards, when it leaves), `f` acts, and the frame is acknowledged. -/
def State.recv (s : State) (p : Nat) (h : Hdr) (alarm : Bool) (f : State → State) : State :=
  if hpState s p = 0 then s
  else if h.seq.val ≠ (s.hport p).seqRx then s.discardFrame p
  else
    let s1 := s.takeHeader p h
    let x := s1.hport p
    let s2 := s1.setHport p { x with seqRx := (x.seqRx + 1) % 4096, naked := false,
                                     retA := if alarm then x.retA + 1 else x.retA,
                                     retC := if alarm then x.retC else x.retC + 1 }
    (f s2).sendNow p .credit

/-! ### Roles (R422 to R424) -/

/-- The nodes of a table that lie under a node, itself included (each round takes one level more). -/
def under (t : List NodeS) : Nat → List Nat → List Nat
  | 0, l => l
  | n + 1, l => under t n ((t.filter fun x => l.contains x.id || l.contains x.parent).map (·.id))

/-- HERD_COUNT: the nodes of the subtree, this node included, without a child's that has left (R433). -/
def State.syncCount (s : State) : State :=
  let gone := under s.herd.table 8 ((s.herd.leaves.filter fun l => l.2 = s.herd.id).map (·.1))
  s.sf F.HERD_COUNT_NODES 0 0 (s.herd.table.length + 1 - gone.length)

/-- A record of another node is posted here (R441): it takes the place of a Hub source's at the Hub funnel. -/
def State.postRecord (s : State) (rec : BitVec 256) : State :=
  s.hopPush hopHub { mkItem s herdSrc 0 0 0 7 0 with raw := some rec }

/-- Of the frames that waited for a lost uplink the alarms wait on, for they are never dropped (R441). -/
def State.keepAlarms (s : State) (l : List Frame) : State :=
  let out := l.filter fun f => f.body.kind != 1
  out.foldl State.creditBack { s with herd := { s.herd with saved := l.filter fun f => f.body.kind = 1 } }

/-- The node is the root of its own subtree (R424): no parent, its own ID as root, no membership. -/
def State.toIsland (s : State) : State :=
  let s1 := ((s.sf F.HERD_STAT_ROLE 0 0 3).sf F.HERD_STAT_ACTIVE 0 0 0).sb F.HERD_STAT_STANDBY 0 0 false
  let s2 := (s1.sf F.HERD_TOPO_DEPTH 0 0 0).sf F.HERD_TOPO_ROOT_ID 0 0 s.herd.id
  ({ s2 with herd := { s2.herd with member := false, move := none } }).keepAlarms s2.herd.saved

/-- A node with no active uplink becomes an island and raises HERD_ISOLATED (R424). -/
def State.isolated (s : State) (cause : Nat) : State :=
  (s.toIsland.sb F.HERD_EVT_ISLAND 0 0 true).raise herdSrc 0x151 (detailOf [(2, 1, cause)])

/-- The node becomes an island and holds its budget for HERD_CAP_CFG.HOLD ms (R447). -/
def State.becomeIsland (s : State) (cause : Nat) : State :=
  let s1 := s.isolated cause
  { s1 with herd := { s1.herd with holding := true } }

/-- The node is a root (R422): depth 0, no parent; it posts the alarms that waited for an uplink (R441). -/
def State.becomeRoot (s : State) : State :=
  let s1 := s.toIsland
  let s2 := s1.herd.saved.foldl (fun s f => match f.body with | .alarm rec => (s.postRecord rec).creditBack f | _ => s)
    { s1 with herd := { s1.herd with saved := [], holding := false, retry := false } }
  s2.sf F.HERD_STAT_ROLE 0 0 2

/-- Bring-up (R421, R431): the node ID in force; a root, or an island until an uplink offers a parent (R424). -/
def herdStart (s : State) : State :=
  let s0 := { s with herd := { s.herd with id := s.gf F.HERD_NODE_ID 0 } }
  if s.gb F.HERD_CTRL_EN 0 then (if isRoot s then s0.becomeRoot else s0.isolated 1).syncCount else s0

/-- A port goes down: its transmitter is off and it has no partner. -/
def State.portDown (s : State) (p : Nat) : State :=
  let s1 := (s.setHpState p 0).wr R.HERD_Pp_STAT 0 p 0
  s1.setHport p { HPortS.reset with crcSec := (s.hport p).crcSec }

/-- Every port goes down. -/
def portsOff (s : State) : State := (List.range 6).foldl (fun s p => s.portDown p) s

/-- The depth of the node's own subtree. -/
def subtreeDepth (s : State) : Nat := s.herd.table.foldl (fun n c => max n c.depth) 0

/-- The JOIN frames of this node, 16 IDs each (R432). -/
def joinFrames (s : State) (parentId parentRoot level : Nat) : List Body :=
  let ids := s.herd.id :: s.herd.table.map (·.id)
  (List.range ((ids.length + 15) / 16)).map fun n =>
    .join s.herd.id level parentId parentRoot (subtreeDepth s) ids.length ((ids.drop (16 * n)).take 16)

/-- A member's role and root (R432): until the root accepts its join a node stays an island. -/
def State.setMember (s : State) (root : Nat) : State :=
  ({ s with herd := { s.herd with member := true } }).sf F.HERD_STAT_ROLE 0 0 1 |>.sf F.HERD_TOPO_ROOT_ID 0 0 root

/-- The parent of the active uplink, as its last BEACON gave it (R422). -/
def State.setParent (s : State) (p : Nat) (b : Beacon) : State :=
  let s1 := (s.sf F.HERD_STAT_ACTIVE 0 0 (p + 1)).sf F.HERD_TOPO_DEPTH 0 0 (b.depth + 1)
  if s.herd.member then s1.setMember b.root else s1

/-- A parent candidate (R423). -/
def candidate (s : State) (b : Beacon) : Bool :=
  decide (b.depth ≤ 6) && decide (b.depth + 1 + subtreeDepth s ≤ 7) && !b.anc.contains s.herd.id

/-- HERD_STAT.STANDBY (R423): the uplink beside the active one is up and offers a candidate with the same root ID. -/
def State.syncStandby (s : State) : State :=
  s.sb F.HERD_STAT_STANDBY 0 0 (match uplink s with
    | some p => hpState s (1 - p) = 2 && (match (s.hport (1 - p)).beacon with
      | some b => candidate s b && decide (b.root = treeRoot s)
      | none => false)
    | none => false)

/-- LINK_UP (R431): a port that may run comes up; an uplink still waits for a BEACON. Each receiver holds 16 frames of
either kind (R429). -/
def execLinkUp (p : Fin 6) (s : State) : Host.Outcome State Fault Refusal :=
  s.after <|
    if herdRuns s && (s.gf F.HERD_CTRL_PORT_EN 0).testBit p.val && !(isRoot s && decide (p.val < 2))
        && hpState s p.val = 0 then
      (s.setHport p.val { HPortS.reset with acred := 16, ccred := 16, crcSec := (s.hport p.val).crcSec }).setHpState
        p.val (if p.val < 2 then 1 else 2)
    else s

/-- BEACON_TIMER (R423): a BEACON on every DN port that is up. -/
def execBeaconTimer (s : State) : Host.Outcome State Fault Refusal :=
  let anc := match uplink s with
    | some p => (match (s.hport p).beacon with | some b => b.id :: b.anc | none => [])
    | none => []
  s.after <| [2, 3, 4, 5].foldl (fun s p =>
    if hpState s p = 2 then s.sendFrame p (.beacon s.herd.id (ownDepth s) (treeRoot s) anc) else s) s

/-- The uplink that becomes active when port p offers a candidate (R423): that of UP_PREF if it offers one, else p. -/
def preferredUplink (s : State) (p : Nat) (b : Beacon) : Nat × Beacon :=
  let q := s.gf F.HERD_CTRL_UP_PREF 0
  match (s.hport q).beacon with
  | some c => if q ≠ p ∧ hpState s q = 2 ∧ candidate s c = true then (q, c) else (p, b)
  | none => (p, b)

/-- An uplink becomes active and the node joins there (R432); alarms that waited for an uplink follow (R441). -/
def State.joinOn (s : State) (p : Nat) (b : Beacon) : State :=
  let s1 := s.setParent p b
  let s2 := { s1 with herd := { s1.herd with saved := [] } }
  let s3 := (joinFrames s2 b.id b.root (b.depth + 1)).foldl (fun s f => s.sendFrame p f) s2
  s.herd.saved.foldl (fun s f => (s.creditBack f).sendFrame p f.body f.inp) s3

/-- A BEACON at an uplink (R423, R432): judged as a candidate; with no active uplink the one that R423 names becomes active
and the node joins there, but for the second after a refusal; else it may be the standby. -/
def beaconAt (s : State) (p : Nat) (b : Beacon) : State :=
  let s0 := (s.setHport p { s.hport p with beacon := some b }).sf F.HERD_Pp_STAT_PARTNER 0 p b.id
  let s1 := s0.sf F.HERD_Pp_STAT_PDEPTH 0 p b.depth
  let s2 :=
    if uplink s = some p then (if candidate s b then s1.setParent p b else s1)
    else if candidate s b then
      (if s.herd.retry && hpState s p = 3 then s1
       else
        let s3 := s1.setHpState p 2
        if (uplink s).isSome || s.herd.move.isSome || s.herd.retry then s3
        else
          let u := preferredUplink s p b
          s3.joinOn u.1 u.2)
    else s1.setHpState p 3
  s2.syncStandby

/-- BEACON (R423). -/
def execBeacon (p : Fin 6) (h : Hdr) (id depth root : Nat) (anc : List Nat) (s : State) :
    Host.Outcome State Fault Refusal :=
  s.after <| s.recv p.val h false fun s => if p.val < 2 then beaconAt s p.val ⟨id, depth, root, anc⟩ else s

/-! ### Herd Time (R434 to R437) -/

/-- SYNC_TIMER (R435): a SYNC on each DN port that is up. -/
def execSyncTimer (s : State) : Host.Outcome State Fault Refusal :=
  s.after <| [2, 3, 4, 5].foldl (fun s p => if hpState s p = 2 then s.sendFrame p (.sync s.now) else s) s

/-- A forward step of Herd Time (R437). -/
def State.timeStep (s : State) (counts : Nat) : State :=
  (({ s with hub := { s.hub with time := s.hub.time + BitVec.ofNat 64 counts } }).sb F.HERD_EVT_TIME_STEP 0 0 true).raise
    herdSrc 0x155 (detailOf [(2, 8, counts)])

/-- SYNC (R435, R437): t2 is its arrival, t3 the departure of the DREQ, `turn` counts later. A node more than 1 µs behind
its active parent steps forward here. -/
def execSync (p : Fin 6) (h : Hdr) (t1 : DWord) (sub : Fin 40) (turn : Nat) (s : State) :
    Host.Outcome State Fault Refusal :=
  s.after <| s.recv p.val h false fun s =>
    if p.val < 2 then
      let ofs := (s.hport p.val).ofs
      let s0 := if uplink s = some p.val ∧ ofs < -1000000 then
          (s.timeStep (ofs.natAbs * 2 / 125)).setHport p.val { s.hport p.val with ofs := 0 } else s
      let t2 := s0.stamp sub
      (s0.setHport p.val { s0.hport p.val with ex := some (t1, t2, t2 + BitVec.ofNat 64 turn) }).sendFrame p.val .dreq
    else s

/-- DREQ (R435): its arrival is t4, returned in a DRESP. -/
def execDreq (p : Fin 6) (h : Hdr) (sub : Fin 40) (s : State) : Host.Outcome State Fault Refusal :=
  s.after <| s.recv p.val h false fun s => if p.val < 2 then s else s.sendFrame p.val (.dresp (s.stamp sub))

/-- The slew that a node asks of its counter, in hundredths of ppm (R437): 100 ppm below the parent's rate while more than
1 µs ahead; within 1 µs a value of at most 10 ppm toward the parent, which the spec leaves open. -/
def slew (ofs : Int) (free : Nat) : Int :=
  if ofs > 1000000 then -10000 else if ofs > 0 then -(free % 1001 : Nat) else if ofs < 0 then (free % 1001 : Nat) else 0

/-- HERD_STAT.SYNC from the filtered offset to the active parent (R436). -/
def State.syncState (s : State) (p : Nat) (filt : Int) : State :=
  let x := s.hport p
  let good := if filt.natAbs ≤ 500 then min 32 (x.good + 1) else 0
  let bad := if filt.natAbs > 2000 then min 4 (x.bad + 1) else 0
  let s1 := s.setHport p { x with good := good, bad := bad }
  if s.gb F.HERD_STAT_SYNC 0 && decide (bad ≥ 4) then
    ((s1.sb F.HERD_STAT_SYNC 0 0 false).sb F.HERD_EVT_SYNC_LOSS 0 0 true).raise herdSrc 0x154
      (detailOf [(2, 4, codeOf 32 (filt * 2 / 125))])
  else if good ≥ 32 then s1.sb F.HERD_STAT_SYNC 0 0 true else s1

/-- DRESP (R435 to R437): offset and delay from the four times; `filt` is the filtered offset in ps (the filter is the
implementation's, log entry 17). -/
def execDresp (p : Fin 6) (h : Hdr) (t4 : DWord) (filt : Int) (s : State) : Host.Outcome State Fault Refusal :=
  s.after <| s.recv p.val h false fun s =>
    match (s.hport p.val).ex with
    | some (t1, t2, t3) =>
      let d1 : Int := (t2 - t1).toInt
      let d2 : Int := (t4 - t3).toInt
      let asym := signedOf 16 (s.gf F.HERD_Pp_ASYM_PS 0 p.val)
      let ofs := (125 * (d1 - d2) - 2 * asym) / 4
      let s1 := (s.setHport p.val { s.hport p.val with ex := none, ofs := ofs }).sb F.HERD_Pp_STAT_PSYNC 0 p.val
        (decide (filt.natAbs ≤ 500))
      if uplink s = some p.val then
        let s2 := (s1.sf F.HERD_OFS_OFS 0 0 (codeOf 16 (clampInt (-32768) 32767 (filt / 10)))).sf F.HERD_OFS_DELAY 0 0
          (min 65535 ((d1 + d2) / 2).toNat)
        let f := s2.free
        (({ f.2 with herd := { f.2.herd with steer := slew ofs f.1.toNat } }).syncState p.val filt)
      else s1
    | none => s

/-- HERD_TSET (R20, R437): at the root a value not below the present time takes hold at the next multiple of 16,000 counts;
any other write is refused. -/
def herdTset (s : State) (v : DWord) : State :=
  if isRoot s && decide (s.now.toNat ≤ v.toNat) then
    let s1 := s.wr64 R.HERD_TSET 0 0 v
    { s1 with herd := { s1.herd with tset := some v } }
  else s.sb F.HERD_EVT_REJECT 0 0 true

def execHerdTset (v : DWord) (s : State) : Host.Outcome State Fault Refusal := s.after (herdTset s v)

/-- The rate asked of the counter, in hundredths of ppm (R437): a root without PPS follows its timebase. -/
def rate (s : State) : Int := if isRoot s && !s.gb F.HERD_CTRL_PPS_EN 0 then 0 else s.herd.steer

/-- Herd Time at a tick of the 400 MHz clock (R54, R437): 40 counts at the steered rate; a pending HERD_TSET value replaces the count
that reaches a multiple of 16,000, but never moves Herd Time backward. -/
def herdCount (s : State) : State :=
  if s.hub.timeOn then
    let acc := s.hub.frac + (40 * (100000000 + rate s)).toNat
    let t := s.hub.time.toNat + acc / 100000000
    match s.herd.tset with
    | some v =>
      if t / 16000 = s.hub.time.toNat / 16000 then
        { s with hub := { s.hub with time := BitVec.ofNat 64 t, frac := acc % 100000000 } }
      else
        { s with hub := { s.hub with time := BitVec.ofNat 64 (max t (v.toNat + t % 16000)), frac := acc % 100000000 },
                 herd := { s.herd with tset := none } }
    | none => { s with hub := { s.hub with time := BitVec.ofNat 64 t, frac := acc % 100000000 } }
  else s

/-- One tick of the 400 MHz clock: 40 counts of the timebase (R54, R199), and Herd Time. -/
def herdTick (s : State) : State := herdCount { s with hub := { s.hub with base := s.hub.base + 40 } }

/-- The root steers so that each rising edge on its PPS line falls on a whole second (R437); how strongly, up to 10 ppm,
is left open. -/
def ppsSteer (s : State) (t : DWord) : State :=
  if isRoot s && s.gb F.HERD_CTRL_PPS_EN 0 then
    let ph := t.toNat % 16000000000
    let f := s.free
    let ofs : Int := if ph = 0 then 0 else if ph < 8000000000 then 1 else -1
    { f.2 with herd := { f.2.herd with steer := slew ofs f.1.toNat } }
  else s

/-! ### Power caps (R438, R440, R53) -/

/-- CAP (R438): the budget of the parent, for the next cycle. -/
def execCap (p : Fin 6) (h : Hdr) (w cyc : Word) (s : State) : Host.Outcome State Fault Refusal :=
  s.after <| s.recv p.val h false fun s =>
    if uplink s = some p.val then
      { s with herd := { s.herd with budget := w.toNat, cycle := cyc.toNat } }
    else s

/-- DEMAND (R438): a child's demand and floor. -/
def execDemand (p : Fin 6) (h : Hdr) (d f : Word) (s : State) : Host.Outcome State Fault Refusal :=
  s.after <| s.recv p.val h false fun s =>
    if p.val < 2 then s else s.setHport p.val { s.hport p.val with child := some (d.toNat, f.toNat, 0) }

/-- An item of the allocation (R438): its key (region r: r; DN port p: 16 + p), demand (at least the floor), floor. -/
def capItems (s : State) : List (Nat × Nat × Nat) :=
  let gov := s.gf F.HERD_DEM_SRC_GOV 0
  (((List.range 16).filter fun r => gov.testBit r).map fun r =>
      let f := s.gf F.HERD_DEMr_FLOOR 0 r
      (r, max f (s.gf F.HERD_DEMr_DEMAND 0 r), f))
    ++ ([2, 3, 4, 5].filterMap fun p => (s.hport p).child.bind fun c =>
      if c.2.2 < 4 then some (16 + p, max c.1 c.2.1, c.2.1) else none)

/-- The share of one item in W, as an exact fraction (R438). -/
def capShare (b td tf n d f : Nat) : Nat × Nat :=
  if td ≤ b then (if td = 0 then (b, n) else (b * d, td))
  else if tf ≤ b then (f * (td - tf) + (b - tf) * (d - f), td - tf)
  else (f * b, tf)

/-- Shares in units of 1/k W rounded down, the whole units left over given one each to the largest discarded fractions,
earlier items first at a tie (R438). -/
def roundShares (k : Nat) (l : List (Nat × Nat × Nat)) : List (Nat × Nat) :=
  match l with
  | [] => []
  | c :: _ =>
    let den := c.2.2
    let total := (l.map fun x => x.2.1 * k).sum / den
    let floors := (l.map fun x => x.2.1 * k / den).sum
    let rem := fun (x : Nat × Nat × Nat) => x.2.1 * k % den
    l.zipIdx.map fun (x, i) =>
      let before := (l.zipIdx.filter fun (y, j) => decide (rem y > rem x) || (decide (rem y = rem x) && decide (j < i))).length
      (x.1, x.2.1 * k / den + if before < total - floors then 1 else 0)

/-- A region's cap register; a new value is event 30 (R53, R259). -/
def writeCap (s : State) (r v : Nat) : State :=
  if s.gf F.RGN_CAP_CAP (rgB r) = v then s else (s.sf F.RGN_CAP_CAP (rgB r) 0 v).eventPend r 30

/-- A sum in W as a frame of 32 bits carries it; of a larger one the spec states no value. -/
def State.watts (s : State) (w : Nat) : State × Word :=
  if w < 2 ^ 32 then (s, BitVec.ofNat 32 w) else let f := s.free; (f.2, f.1.setWidth 32)

/-- HERD_DEMr of the regions that take it from FAB_UREG63 (R440). -/
def takeDemands (s : State) : State :=
  (List.range 16).foldl (fun s r =>
    if (s.gf F.HERD_DEM_SRC_FAB 0).testBit r then s.wr R.HERD_DEMr 0 r (s.rd R.FAB_UREGn (fabB r) 63) else s) s

/-- A cap cycle (R438): the held budget is allocated, the children get CAP frames, the parent a DEMAND, the regions their
caps. -/
def capCycle (s : State) : State :=
  let s0 := takeDemands s
  let b := if isRoot s then s.gf F.HERD_CAP_ROOT_W 0 else s.herd.budget
  let items := capItems s0
  let n := items.length
  let td := (items.map fun i => i.2.1).sum
  let tf := (items.map fun i => i.2.2).sum
  let noCap := b = 0xFFFF_FFFF
  let share := fun (i : Nat × Nat × Nat) => (i.1, (capShare b td tf n i.2.1 i.2.2).1, (capShare b td tf n i.2.1 i.2.2).2)
  let kids := roundShares 1 ((items.filter fun i => 16 ≤ i.1).map share)
  let rgns := roundShares 100 ((items.filter fun i => i.1 < 16).map share)
  let s1 := s0.sf F.HERD_CAP_W 0 0 b
  let s2 := kids.foldl (fun s c => s.sendFrame (c.1 - 16)
    (.cap (BitVec.ofNat 32 (if noCap then 0xFFFF_FFFF else c.2)) (BitVec.ofNat 32 (s.now.toNat / 80000)))) s1
  let d := s2.watts td
  let f := d.1.watts tf
  let s3 := (f.1.wr R.HERD_DEMAND 0 0 d.2).sendUp (.demand d.2 f.2)
  let s4 := (List.range 16).foldl (fun s r =>
    writeCap s r (match rgns.find? fun c => c.1 = r with
      | some c => if noCap then 0xFF_FFFF else min c.2 0xFF_FFFE
      | none => 0xFF_FFFF)) s3
  let s5 := [2, 3, 4, 5].foldl (fun s p =>
    s.setHport p { s.hport p with child := (s.hport p).child.map fun c => (c.1, c.2.1, c.2.2 + 1) }) s4
  if n ≠ 0 ∧ b < tf ∧ !noCap then
    (s5.sb F.HERD_EVT_CAP_SHORT 0 0 true).raise herdSrc 0x156 (detailOf [(2, 4, b), (6, 4, tf)])
  else s5

/-- Herd Time has reached a multiple of 80,000 counts within the last tick, of 40 counts or 41 at the fastest slew. -/
def atCapCycle (s : State) : Bool := decide (s.now.toNat % 80000 ≤ 40)

/-- CAP_CYCLE (R438), on every node at once, whether or not its ports run. -/
def execCapCycle (s : State) : Host.Outcome State Fault Refusal :=
  s.after <| if herdSpan s && atCapCycle s then capCycle s else s

/-- HERD_DEM_WRITE (R440): allowed while host software owns the region and FAB of the region is 0, through a host path. -/
def herdDemWrite (s : State) (a : Reader) (r : Nat) (v : Word) : State :=
  let host := match a with | .le _ => false | .fab _ => false | _ => true
  if host && decide (s.gf F.RGN_STAT_OWNER (rgB r) = 1) && !(s.gf F.HERD_DEM_SRC_FAB 0).testBit r then
    s.wr R.HERD_DEMr 0 r v
  else s.sb F.HERD_EVT_REJECT 0 0 true

def execHerdDemWrite (a : Reader) (r : Rgn) (v : Word) (s : State) : Host.Outcome State Fault Refusal :=
  s.after (s.byPath a R.HERD_DEMr.off (herdDemWrite s a r.val v))

/-! ### Joining and leaving (R432, R433) -/

/-- The root's judgement of a complete join (R432): 0, or the cause, with the first conflicting ID. -/
def judgeJoin (s : State) (level root depth size : Nat) (ids : List Nat) : Nat × Nat :=
  let here := s.herd.id :: s.herd.table.map (·.id)
  match ids.find? fun i => here.contains i with
  | some i => (1, i)
  | none =>
    if level + depth > 7 then (2, 0)
    else if s.herd.table.length + 1 + size > 16384 then (3, 0)
    else if root ≠ s.gf F.HERD_TOPO_ROOT_ID 0 then (4, 0) else (0, 0)

/-- A subtree recorded: its IDs lie behind a port, the joining node under its parent, the others somewhere under it. -/
def addSubtree (s : State) (node : Nat) (j : JoinS) : State :=
  let new := j.ids.map fun i =>
    (⟨i, if i = node then j.parent else node, (if i = node then j.level else j.level + j.depth) - ownDepth s, j.port,
      i = node, if i = node then some j.parent else none⟩ : NodeS)
  ({ s with herd := { s.herd with table := s.herd.table ++ new } }).syncCount

/-- A subtree removed. -/
def removeSubtree (s : State) (id : Nat) : State :=
  let gone := under s.herd.table 8 [id]
  ({ s with herd := { s.herd with table := s.herd.table.filter fun x => !gone.contains x.id } }).syncCount

/-- A further copy of the JOIN that brought a node, resent after a MOVE of it (R448): the first one stands. -/
def joinedBefore (s : State) (node parent : Nat) (ids : List Nat) : Bool :=
  (s.herd.table.any fun (x : NodeS) =>
      decide (x.id = node) && x.exact && decide (x.joined = some parent) && decide (x.parent ≠ parent))
    && ids.all fun i => s.herd.table.any fun x => x.id = i

/-- The root's answer to a complete join. -/
def rootJoin (s : State) (p node root size : Nat) (j : JoinS) : State :=
  if joinedBefore s node j.parent j.ids then
    ({ s with herd := { s.herd with
        table := s.herd.table.map fun (x : NodeS) => if x.id = node then { x with joined := some x.parent } else x } }).sendFrame p
      (.joinResp node 0 0)
  else
    let r := judgeJoin s j.level root j.depth size j.ids
    (if r.1 = 0 then addSubtree s node j else s).sendFrame p (.joinResp node r.1 r.2)

/-- The IDs of a join that have arrived, with those of one more frame. -/
def joinIds (s : State) (node : Nat) (ids : List Nat) : List Nat :=
  let old := match s.herd.joins.get node with | some j => j.ids | none => []
  old ++ ids.filter fun i => !old.contains i

/-- JOIN (R432): collected until all of a subtree's IDs are in; then judged by the root or an island. Below the root it is
sent on. The frames of a direct child name the partner of its port. -/
def joinAt (s : State) (p node level parent root depth size : Nat) (ids : List Nat) : State :=
  let j : JoinS := ⟨p, level, parent, depth, joinIds s node ids⟩
  let s1 := if parent = s.herd.id then (s.sf F.HERD_Pp_STAT_PARTNER 0 p node).sf F.HERD_Pp_STAT_PDEPTH 0 p level else s
  if ownRoot s && decide (size ≤ j.ids.length) then
    rootJoin { s1 with herd := { s1.herd with joins := s1.herd.joins.set node none } } p node root size j
  else
    let s2 := { s1 with herd := { s1.herd with joins := s1.herd.joins.set node (some j) } }
    if ownRoot s then s2 else s2.sendUp (.join node level parent root depth size ids) p

def execJoin (p : Fin 6) (h : Hdr) (node level parent root depth size : Nat) (ids : List Nat) (s : State) :
    Host.Outcome State Fault Refusal :=
  s.after <| s.recv p.val h false fun s =>
    if p.val < 2 then s else joinAt s p.val node level parent root depth size ids

/-- A join of a node further down is answered (R432): recorded or dropped, and the answer goes to its port. -/
def passJoinResp (s : State) (node res ofs : Nat) : State :=
  match s.herd.joins.get node with
  | some j =>
    let s1 := { s with herd := { s.herd with joins := s.herd.joins.set node none } }
    (if res = 0 then addSubtree (removeSubtree s1 node) node j else s1).sendFrame j.port (.joinResp node res ofs)
  | none =>
    match s.herd.table.find? fun x => x.id = node with
    | some x => s.sendFrame x.port (.joinResp node res ofs)
    | none => s

/-- JOIN_RESP (R432): for this node it makes a member, or an island that tries again; else it goes to the child's port. -/
def joinRespAt (s : State) (p node res ofs : Nat) : State :=
  if node ≠ s.herd.id then passJoinResp s node res ofs
  else if uplink s ≠ some p then s
  else if res = 0 then
    let s1 := s.setMember (treeRoot s)
    { s1 with herd := { s1.herd with holding := false } }
  else
    let s1 := (((s.setHpState p 3).toIsland).sb F.HERD_EVT_JOIN_REFUSED 0 0 true).raise herdSrc 0x152
      (detailOf [(2, 1, res), (3, 2, ofs)])
    { s1 with herd := { s1.herd with retry := true } }

def execJoinResp (p : Fin 6) (h : Hdr) (node : Nat) (res : Fin 5) (ofs : Nat) (s : State) :
    Host.Outcome State Fault Refusal :=
  s.after <| s.recv p.val h false fun s => if p.val < 2 then joinRespAt s p.val node res.val ofs else s

/-- A LEAVE at a node (R433): one from a node that is no longer the recorded parent is ignored; else it is held for 50 µs at
the root, and below it the subtree is dropped. Below the root every LEAVE goes up. -/
def leaveAt (s : State) (id parent inp : Nat) : State :=
  let at' := s.herd.table.find? fun x => x.id = id
  let stale := match at' with | some x => x.exact && x.parent != parent | none => false
  if ownRoot s then
    if at'.isSome && !stale && !s.herd.leaves.contains (id, parent) then
      ({ s with herd := { s.herd with leaves := s.herd.leaves ++ [(id, parent)] } }).syncCount
    else s
  else (if stale then s else removeSubtree s id).sendUp (.leave id parent) inp

/-- LEAVE (R433). -/
def execLeave (p : Fin 6) (h : Hdr) (id parent : Nat) (s : State) : Host.Outcome State Fault Refusal :=
  s.after <| s.recv p.val h false fun s => if p.val < 2 then s else leaveAt s id parent p.val

/-- LEAVE_HOLD_EXPIRE (R433): no MOVE came: the node and its subtree leave the table. -/
def execLeaveHoldExpire (id : Nat) (s : State) : Host.Outcome State Fault Refusal :=
  s.after <|
    if s.herd.leaves.any fun l => l.1 = id then
      removeSubtree { s with herd := { s.herd with leaves := s.herd.leaves.filter fun l => l.1 != id } } id
    else s

/-- JOIN_RETRY (R432): after 1 s an uplink that was refused waits for a BEACON again. -/
def execJoinRetry (s : State) : Host.Outcome State Fault Refusal :=
  s.after <|
    if s.herd.retry then
      [0, 1].foldl (fun s p => if hpState s p = 3 then s.setHpState p 1 else s)
        { s with herd := { s.herd with retry := false } }
    else s

/-! ### Alarms (R441) -/

/-- A record of this node on the active uplink (R441). -/
def herdAlarm (s : State) (rec : BitVec 256) : State := s.sendUp (.alarm rec)

/-- ALARM (R441): sent up unchanged; posted here at a root, at an island, and with POST_FWD. -/
def execAlarm (p : Fin 6) (h : Hdr) (rec : BitVec 256) (s : State) : Host.Outcome State Fault Refusal :=
  s.after <| s.recv p.val h true fun s =>
    if p.val < 2 then s
    else
      let s1 := s.sendUp (.alarm rec) p.val
      if ownRoot s || s.gb F.HERD_CTRL_POST_FWD 0 then s1.postRecord rec else s1

/-! ### Keep-alive, replay, loss (R428, R429, R444 to R447) -/

/-- CREDIT (R427, R429): header fields only. -/
def execCredit (p : Fin 6) (h : Hdr) (s : State) : Host.Outcome State Fault Refusal :=
  s.after <| if hpState s p.val = 0 then s else s.takeHeader p.val h

/-- FRAME_KEEPALIVE (R428). -/
def execFrameKeepalive (p : Fin 6) (s : State) : Host.Outcome State Fault Refusal :=
  s.after <| if hpState s p.val = 0 then s else s.sendNow p.val .credit

/-- CRC_MISMATCH (R427, R428). -/
def execCrcMismatch (p : Fin 6) (s : State) : Host.Outcome State Fault Refusal :=
  s.after <| if hpState s p.val = 0 then s else s.discardFrame p.val

/-- The frames of a lost port that its partner has not acknowledged, oldest first (R444); JOIN frames among them (R448). -/
def unacked (x : HPortS) : List Frame := x.replay.map (·.2) ++ x.queue

/-- A child's port is lost (R433): LEAVE for it, and the alarm. -/
def childLost (s : State) (p : Nat) : State :=
  let kids := s.herd.table.filter fun x => x.port = p
  match kids.find? fun x => x.parent = s.herd.id with
  | some c =>
    let s1 := leaveAt s c.id s.herd.id 0
    (s1.sb F.HERD_EVT_LEAVE 0 0 true).raise herdSrc 0x157 (detailOf [(2, 2, c.id), (4, 2, kids.length)])
  | none => s

/-- Frames that came in at a lost port hold no buffer there any more. -/
def relabel (p : Nat) (l : List Frame) : List Frame := l.map fun f => if f.inp = p then { f with inp := 0 } else f
def relabelAll (s : State) (p : Nat) : State :=
  let s1 := [0, 1].foldl (fun s q => s.setHport q { s.hport q with queue := relabel p (s.hport q).queue }) s
  { s1 with herd := { s1.herd with saved := relabel p s1.herd.saved } }

/-- A MOVE waits for its answer on a port. -/
def moveOn (s : State) (p : Nat) : Bool := s.herd.move.any fun m => m.1 = p

/-- A port is lost (R444): of a DN port the child leaves; the active uplink fails over to the standby, which queues what was
not acknowledged, or leaves an island; a standby is no more. -/
def portLost (s : State) (p : Nat) : State :=
  let l := unacked (s.hport p)
  let s1 := s.portDown p
  if p ≥ 2 then childLost (relabelAll s1 p) p
  else if uplink s = some p then
    let s2 := { s1 with herd := { s1.herd with saved := l } }
    if s.gb F.HERD_STAT_STANDBY 0 then
      let s3 := (s2.sf F.HERD_STAT_ACTIVE 0 0 0).sb F.HERD_STAT_STANDBY 0 0 false
      ({ s3 with herd := { s3.herd with move := some (1 - p, false) } }).sendFrame (1 - p)
        (.move s.herd.id (subtreeDepth s) none)
    else s2.becomeIsland 1
  else if moveOn s p then s1.becomeIsland 1
  else s1.syncStandby

/-- PORT_LOSS (R444). -/
def execPortLoss (p : Fin 6) (s : State) : Host.Outcome State Fault Refusal :=
  s.after <| if hpState s p.val = 0 then s else portLost s p.val

/-- NAK (R428): the frames after ACK are resent in their order; the replay is counted. A port whose frame has been resent
four times without acknowledgement is lost (R444). -/
def execNak (p : Fin 6) (h : Hdr) (s : State) : Host.Outcome State Fault Refusal :=
  s.after <|
    if hpState s p.val = 0 then s
    else
      let s1 := s.readHeader p.val h
      let x := s1.hport p.val
      if x.replay.isEmpty then drainPort p.val x.queue.length s1
      else if x.resent ≥ 4 then portLost s1 p.val
      else
        let ack := (x.seqRx + 4095) % 4096
        drainPort p.val x.queue.length
          (((s1.setHport p.val { x with resent := x.resent + 1 }).bump F.HERD_Pp_CNT_REPLAY 0 p.val).emitAll
            (x.replay.map fun f => .frame p.val f.1 0 0 ack (srcCount s1) f.2.body))

/-- MOVE_RETRY (R444): resent once after 5 µs. -/
def execMoveRetry (s : State) : Host.Outcome State Fault Refusal :=
  s.after <|
    match s.herd.move with
    | some (p, false) =>
      ({ s with herd := { s.herd with move := some (p, true) } }).sendFrame p (.move s.herd.id (subtreeDepth s) none)
    | _ => s

/-- A node's new parent is recorded, with the port and depth of all that lies under it (R433); below the root a node not
recorded yet is added. -/
def recordMove (s : State) (p id depth par : Nat) : State :=
  let t := s.herd.table
  let level := (match t.find? fun x => x.id = par with | some y => y.depth | none => 0) + 1
  let t1 := match t.find? fun x => x.id = id with
    | some y =>
      let moved := under t 8 [id]
      t.map fun x =>
        if moved.contains x.id then
          { x with depth := x.depth + level - y.depth, port := p, parent := if x.id = id then par else x.parent,
                   exact := x.exact || x.id = id }
        else x
    | none => if isRoot s then t else t ++ [⟨id, par, level + depth, p, true, none⟩]
  ({ s with herd := { s.herd with table := t1, leaves := s.herd.leaves.filter fun l => l.1 != id } }).syncCount

/-- MOVE (R444, R433): the new parent applies R423 and answers; the new parent is recorded up to the root, which drops a
held LEAVE. -/
def moveAt (s : State) (p id depth : Nat) (parent : Option Nat) : State :=
  let anc := match uplink s with
    | some q => (match (s.hport q).beacon with | some b => b.id :: b.anc | none => [])
    | none => []
  let res := match parent with
    | some _ => 0
    | none => if ownDepth s > 6 ∨ ownDepth s + 1 + depth > 7 then 1 else if anc.contains id then 2 else 0
  let par := parent.getD s.herd.id
  let s1 := if parent.isNone then (s.sf F.HERD_Pp_STAT_PARTNER 0 p id).sf F.HERD_Pp_STAT_PDEPTH 0 p (ownDepth s + 1) else s
  let s2 := if res ≠ 0 then s1 else recordMove s1 p id depth par
  let s3 := if res ≠ 0 ∨ ownRoot s = true then s2 else s2.sendUp (.move id depth (some par)) p
  if parent.isNone then s3.sendFrame p (.moveAck res) else s3

def execMove (p : Fin 6) (h : Hdr) (id depth : Nat) (parent : Option Nat) (s : State) :
    Host.Outcome State Fault Refusal :=
  s.after <| s.recv p.val h false fun s => if p.val < 2 then s else moveAt s p.val id depth parent

/-- MOVE_ACK (R444, R447): accepted, the standby becomes active and the queued frames flow on it; refused, an island. -/
def moveAckAt (s : State) (p res : Nat) : State :=
  if moveOn s p = false then s
  else if res = 0 then
    let b := (s.hport p).beacon
    let s1 := match b with | some b => s.setParent p b | none => s.sf F.HERD_STAT_ACTIVE 0 0 (p + 1)
    let s2 := { s1 with herd := { s1.herd with move := none, saved := [] } }
    let s3 := (s.herd.saved.foldl (fun s f => (s.creditBack f).sendFrame p f.body f.inp) s2).syncStandby
    (s3.sb F.HERD_EVT_FAILOVER 0 0 true).raise herdSrc 0x150
      (detailOf [(2, 1, p), (3, 2, (match b with | some b => b.id | none => 0))])
  else s.becomeIsland 2

def execMoveAck (p : Fin 6) (h : Hdr) (res : Fin 3) (s : State) : Host.Outcome State Fault Refusal :=
  s.after <| s.recv p.val h false fun s => if p.val < 2 then moveAckAt s p.val res.val else s

/-- ISLAND_HOLD_EXPIRE (R447). -/
def execIslandHoldExpire (s : State) : Host.Outcome State Fault Refusal :=
  s.after <|
    if s.herd.holding then
      { s with herd := { s.herd with holding := false, budget := s.gf F.HERD_CAP_CFG_SAFE 0 } }
    else s

/-- LINK_ERR_CHECK (R449): once per second, for a port with more than 100 CRC errors in it. -/
def execLinkErrCheck (p : Fin 6) (s : State) : Host.Outcome State Fault Refusal :=
  let n := (s.hport p.val).crcSec
  let s1 := s.setHport p.val { s.hport p.val with crcSec := 0 }
  s.after <|
    if n > 100 then
      (s1.sb F.HERD_EVT_LINK_ERR 0 0 true).raise herdSrc 0x153 (detailOf [(2, 1, p.val), (3, 4, n)])
    else s1

/-! ### HERD_CTRL (R422, R431) -/

/-- The ports no longer run: every port is down, the node has no role; alarms that wait stay (R441). -/
def herdOff (s : State) : State :=
  let l := (match uplink s with | some p => unacked (s.hport p) | none => []) ++ s.herd.saved
  let s1 := portsOff s
  let s2 := ((s1.wr R.HERD_STAT 0 0 0).wr R.HERD_TOPO 0 0 0).wr R.HERD_COUNT 0 0 0
  { s2 with herd := { s2.herd with member := false, table := [], joins := .empty, leaves := [], move := none, retry := false,
                                   saved := relabel 5 (relabel 4 (relabel 3 (relabel 2 (l.filter fun f => f.body.kind = 1)))) } }

/-- What a write of HERD_CTRL changes: EN starts and ends the ports' run; a port that may not run any more is lost; ROOT makes
a root, which takes no parent, or an island. -/
def herdCtrlChange (old s : State) : State :=
  if herdRuns s && !herdRuns old then herdStart s
  else if herdRuns old && !herdRuns s then herdOff s
  else if herdRuns s then
    let s1 := (List.range 6).foldl (fun s p =>
      if hpState s p ≠ 0 ∧ (s.gf F.HERD_CTRL_PORT_EN 0).testBit p = false then portLost s p else s) s
    if isRoot s && !isRoot old then
      let l := match uplink s1 with | some p => unacked (s1.hport p) | none => []
      (({ s1 with herd := { s1.herd with saved := l ++ s1.herd.saved } }).portDown 0 |>.portDown 1).becomeRoot
    else if isRoot old && !isRoot s then s1.isolated 1
    else s1
  else s

end Sys2Proof.Machine
end

