-- ==== Sys2Proof/Machine/Posting.lean ====
section
/-!
DEFINITION. Posting into host memory: the posting port, the posting map with its walker and cache, rings, write pointers,
interrupts, faults, failover (11_host_memory_posting.md, R389 to R420).
-/

namespace Sys2Proof.Machine

def State.post (s : State) (f : Nat) : PostS := s.pmap.flows.get f
def State.setPost (s : State) (f : Nat) (x : PostS) : State :=
  { s with pmap := { s.pmap with flows := s.pmap.flows.set f x } }

/-! ### The posting port (R389, R390) -/

/-- A port trained as CXL (HOST_p_STAT.MODE 0b10). -/
def isCxl (s : State) (p : Nat) : Bool := s.gf F.HOST_p_STAT_MODE 0 p = 2

/-- A port can post (R389); D3hot counts as the loss of Bus Master Enable (R456). -/
def canPost (s : State) (p : Nat) : Bool :=
  s.linkUp p && s.gb F.HOST_p_STAT_BME 0 p && !s.gb F.HOST_p_STAT_D3HOT 0 p
    && (!isCxl s p || s.gb F.HOST_p_STAT_CACHE_EN 0 p)
    && (if p = 0 then s.gb F.PMAP_CTRL_EN_A 0 && s.gb F.PMAP_ROOT_A_V 0
        else s.gb F.PMAP_CTRL_EN_B 0 && s.gb F.PMAP_ROOT_B_V 0)

/-- The port that R390 names: 0 none, 1 HLA, 2 HLB. -/
def choice (s : State) : Nat :=
  let p := s.gf F.PMAP_CTRL_PRIMARY 0
  if canPost s p then p + 1 else if canPost s (1 - p) then 2 - p else 0

/-- PMAP_STAT.PORT and PMAP_STAT.CXL; the new posting port has not been without credit (SPR_STAT.STALL). -/
def State.setPort (s : State) (port : Nat) : State :=
  ((s.sf F.PMAP_STAT_PORT 0 0 port).sb F.PMAP_STAT_CXL 0 0 (decide (port ≠ 0) && isCxl s (port - 1))).sb F.SPR_STAT_STALL 0 0
    false

/-! ### Fence windows (R402) -/

/-- Does an access of `len` bytes at an address touch a window in force on a port? -/
def fenceHit (s : State) (p : Nat) (addr len : Nat) : Bool :=
  (List.range 16).any fun w =>
    let b := (s.rd64 R.PMAP_FENCEw_BASE 0 w).toNat
    let l := (s.rd64 R.PMAP_FENCEw_LIMIT 0 w).toNat
    (if p = 0 then b % 2 = 1 else b / 2 % 2 = 1)
      && decide (b / 4096 * 4096 < addr + len) && decide (addr ≤ l / 4096 * 4096 + 4095)

/-! ### Faults (R404 to R407) -/

/-- PMAP_STAT.CACHED follows the map cache. -/
def State.setCache (s : State) (l : List CacheE) : State :=
  ({ s with pmap := { s.pmap with cache := l } }).sf F.PMAP_STAT_CACHED 0 0 l.length

/-- The records of a flow in the funnels are discarded (R380), each counted at the hop where it was. -/
def discardPassing (s : State) (f : Nat) : State :=
  (s.spoor.hops.cells.filter fun c => c.1 != hopPost).foldl (fun s c =>
    let s1 := (c.2.filter fun i => i.flow = f).foldl (fun s i => s.dropAt c.1 i) s
    { s1 with spoor := { s1.spoor with hops := s1.spoor.hops.set c.1 (c.2.filter fun i => i.flow != f) } }) s

/-- A flow becomes BROKEN (R407): its held records, those in the funnels and those at its sources go. -/
def breakFlow (s : State) (f cause : Nat) : State :=
  let d := (discardPassing (s.dropWaiting f) f).discardHeld f 0
  let s1 := (d.1.unconform f).setFlow f { d.1.flow f with st := .broken, closing := false }
  let s2 := ((s1.setSusp f none).syncFlows).sb F.PMAP_EVT_BROKEN 0 0 true
  (s2.setPost f { s2.post f with holdDue := false }).raise postingSrc 0x131
    (detailOf [(2, 2, f), (4, 1, cause), (8, 4, d.2)])

/-- A failed walk of an invalidation makes it fail (R398). -/
def invFailed (w : Option WalkS) (v : Option (Bool × Nat)) : Option (Bool × Nat) :=
  match w, v with
  | some w, some v => some (v.1 || w.inv, v.2)
  | _, v => v

/-- What PMAP_FLT_ registers take of a failure (R405). -/
def faultRecord (s : State) (f cause access addr : Nat) : State :=
  let p := postPort s - 1
  let s1 := ((s.sf F.PMAP_FLT_INFO_CAUSE 0 0 cause).sf F.PMAP_FLT_INFO_PORT 0 0 p).sf F.PMAP_FLT_INFO_ACCESS 0 0 access
  ((s1.sf F.PMAP_FLT_INFO_FLOW 0 0 f).wr64 R.PMAP_FLT_ADDR 0 0 (BitVec.ofNat 64 addr)).wr R.PMAP_FLT_TIME 0 0 s.now.lo

/-- The instant since which writes wait at a port without credit (R382, R415). -/
def noteStall (s : State) (p : Nat) : State :=
  let at_ := s.pmap.stallAt.get p
  let now := if s.pmap.credits.get p = 0 && !(s.pmap.waiting.get p).isEmpty then (if at_ = 0 then s.hub.base + 1 else at_) else 0
  if now = at_ then s else { s with pmap := { s.pmap with stallAt := s.pmap.stallAt.set p now } }

/-- The writes of a flow that wait for credit at the posting port are withdrawn when it is suspended (R405): the flow issues
no further write. Their records return to the head of the posting queue and the write count by their number. -/
def withdraw (s : State) (f : Nat) : State :=
  if postPort s = 0 then s
  else
    let p := postPort s - 1
    let mine := (s.pmap.waiting.get p).filter fun w => w.flow = f
    let items := (mine.map (·.items)).flatten
    let x := s.post f
    let back := min items.length x.count.toNat
    let uncov := if mine.any (·.wp) then max 1 (x.uncov - items.length) else x.uncov - items.length
    let s1 := { s with pmap := { s.pmap with
        waiting := s.pmap.waiting.set p ((s.pmap.waiting.get p).filter fun w => w.flow != f) } }
    let s2 := s1.setPost f { x with count := x.count - BitVec.ofNat 64 back, uncov := uncov }
    noteStall { s2 with spoor := { s2.spoor with hops := s2.spoor.hops.set hopPost (items ++ s2.spoor.hops.get hopPost) } } p

/-- The suspension of a flow for a failed walk or access (R405). -/
def faultSuspend (s : State) (f cause : Nat) : State :=
  let s := withdraw s f
  let x := s.post f
  let s1 := { s with pmap := { s.pmap with inv := invFailed x.walk s.pmap.inv } }
  let s2 := s1.setPost f { x with walk := none, trans := none, rpBusy := false }
  let s3 := s2.setCache (s2.pmap.cache.filter fun c => c.flow != f)
  s3.setSusp f (some (match x.susp with | some u => { u with cause := cause } | none => ⟨cause, s.hub.base⟩))

/-- A walk, refresh or access of a flow fails (R405): the flow is suspended, the failure recorded, MAPFAULT raised. A flow
whose hold limit is 0, or has been reached, becomes BROKEN (R407, R419), but for the alarm flow (R408); a flow that has been
closed loses its held records (R419). -/
def mapFault (s : State) (f cause access addr : Nat) : State :=
  let p := postPort s - 1
  let s1 := faultSuspend (faultRecord s f cause access addr) f cause
  let mark := fun (i : Item) => if i.flow = f ∧ i.conf then { i with why := i.why ||| 2 ^ 4 } else i
  let s2 := ((s1.mapItems mark).sb F.PMAP_EVT_FAULT 0 0 true).raise postingSrc 0x130
    (detailOf [(2, 2, f), (4, 1, cause), (5, 1, access + 128 * p), (6, 6, addr / 64)])
  if f ≠ 0 ∧ (s2.flow f).st = .closed then ((s2.discardHeld f 0).1.setSusp f none).releaseClosing
  else if f ≠ 0 ∧ ((s.post f).holdDue ∨ (s2.flow f).hold = 0) then breakFlow s2 f cause
  else s2

/-! ### Translations (R397) -/

/-- What a translation answers: an address on the link, a request to wait for, or a fault. -/
inductive Xlat where
  | addr (a : Nat)
  | wait
  | fault
  deriving DecidableEq, Repr

/-- An address on the link: untranslated, or by the port's cache (R397). -/
def xlat (s : State) (p : Nat) (ats : Bool) (addr : Nat) (write : Bool) : Xlat :=
  if !ats then .addr addr
  else if !s.gb F.HOST_p_STAT_ATS_EN 0 p then .fault
  else match s.pmap.trans.get (p * 2 ^ 52 + addr / 4096) with
    | some t => if (if write then t.write else t.read) then .addr (t.page.toNat / 4096 * 4096 + addr % 4096) else .fault
    | none => .wait

/-- A Translation Request for a flow's page; the flow waits for it. -/
def State.askTrans (s : State) (p f addr : Nat) (write : Bool) : State :=
  let page := BitVec.ofNat 64 (addr / 4096 * 4096)
  (s.setPost f { s.post f with trans := some (page, write), transAt := s.hub.base }).emit (.transRequest p page)

/-- A translation kept: at most 512 a port. -/
def State.keepTrans (s : State) (p : Nat) (page target : DWord) (r w : Bool) : State :=
  let mine := s.pmap.trans.cells.filter fun c => c.1 / 2 ^ 52 = p
  let t := if mine.length < 512 then s.pmap.trans
           else match mine.head? with | some c => s.pmap.trans.set c.1 none | none => s.pmap.trans
  { s with pmap := { s.pmap with trans := t.set (p * 2 ^ 52 + page.toNat / 4096) (some ⟨target, r, w⟩) } }

/-! ### The walker (R391 to R398) -/

/-- Reads outstanding, of which at most 32 may be (R395). -/
def walksOut (s : State) : Nat :=
  (s.pmap.flows.cells.filter fun c => match c.2.walk with | some w => decide (w.stage ≠ .queued) | none => false).length

/-- The age limit in counts (R396). -/
def ageLimit (s : State) : Nat := s.gf F.PMAP_AGE_LIMIT_US 0 * 16000

/-- The usable root entry of a flow (R396). -/
def rootEntry (s : State) (f : Nat) : Option DWord :=
  match s.pmap.roots.get (f / 64) with
  | some (e, at_) => if s.hub.base - at_ < ageLimit s then some e else none
  | none => none

/-- A map read on the link, or the translation it needs (R395, R397, R402). -/
def issueRead (s : State) (f : Nat) (w : WalkS) (root : Bool) (ats : Bool) (addr : Nat) : State :=
  let p := postPort s - 1
  match xlat s p ats addr false with
  | .fault => mapFault s f 8 5 addr
  | .wait =>
    (s.setPost f { s.post f with walk := some { w with stage := if root then .rootAts else .leafAts,
                                                       issued := s.hub.base, addr := BitVec.ofNat 64 addr } }).askTrans
      p f addr false
  | .addr a =>
    if fenceHit s p a (if root then 8 else 32) then mapFault s f 1 (if root then 0 else 1) a
    else
      (s.setPost f { s.post f with walk := some { w with stage := if root then .root else .leaf,
                                                         issued := s.hub.base, addr := BitVec.ofNat 64 a } }).emit
        (.mapRead p (BitVec.ofNat 64 a) (if root then 8 else 32))

/-- The read that a walk makes next: the leaf entry under a root entry at hand, else the root entry (R391, R395). -/
def walkRead (s : State) (f : Nat) (w : WalkS) : State :=
  match rootEntry s f with
  | some e => issueRead s f w false (e.getLsbD 1) (e.toNat / 2048 * 2048 + 32 * (f % 64))
  | none =>
    let r := if postPort s = 1 then s.rd64 R.PMAP_ROOT_A 0 else s.rd64 R.PMAP_ROOT_B 0
    issueRead s f w true (r.getLsbD 1) (r.toNat / 512 * 512 + 8 * (f / 64))

/-- A walk begins (R395): counted in PMAP_WALKS; with 32 reads outstanding it waits. During a failback nothing is issued
(R417). -/
def startWalk (s : State) (f : Nat) (refresh inv : Bool) : State :=
  if postPort s = 0 ∨ s.pmap.failback then s
  else
    let w : WalkS := ⟨.queued, s.hub.base, s.hub.base, 0, refresh, inv⟩
    let s1 := (s.count F.PMAP_WALKS_COUNT 0).setPost f { s.post f with walk := some w, trans := none }
    if walksOut s ≥ 32 then s1 else walkRead s1 f w

/-- A walk that waited is issued when a read has ended. -/
def kickWalks (s : State) : State :=
  if walksOut s ≥ 32 ∨ s.pmap.failback then s
  else match s.pmap.flows.cells.find? fun c => match c.2.walk with | some w => decide (w.stage = .queued) | none => false with
    | some c => (match c.2.walk with | some w => walkRead s c.1 w | none => s)
    | none => s

/-- Fields of a leaf entry (R393). -/
def Leaf.base (l : Leaf) : Nat := l.w0.toNat / 4096 * 4096
def Leaf.logSize (l : Leaf) : Nat := l.w0.toNat / 128 % 32
def Leaf.stop (l : Leaf) : Bool := l.w0.getLsbD 6
def Leaf.ats (l : Leaf) : Bool := l.w0.getLsbD 5
def Leaf.wp (l : Leaf) : Nat := l.w1.toNat / 8 * 8
def Leaf.rp (l : Leaf) : Nat := l.w2.toNat / 8 * 8
def Leaf.intMod (l : Leaf) : Nat := l.w3.toNat / 2 ^ 32 % 2 ^ 16
def Leaf.intEn (l : Leaf) : Bool := l.w3.getLsbD 15
def Leaf.vector (l : Leaf) : Nat := l.w3.toNat / 256 % 64
def Leaf.gen (l : Leaf) : Nat := l.w3.toNat % 256

/-- A flow writes in stop mode (R413): flow 0 always, an accepted flow never, another by MODE. -/
def stopMode (s : State) (f : Nat) (l : Leaf) : Bool :=
  if f = 0 then true else if flowAccepted s f then false else l.stop

/-- An address of 8 bytes lies inside the ring. -/
def Leaf.inside (l : Leaf) (a : Nat) : Bool := decide (l.base ≤ a) && decide (a < l.base + 32 * 2 ^ l.logSize)

/-- The checks of R394 and R403 on a leaf entry: 0, or the cause. An ATS ring is checked page by page as it is written
(R402). -/
def leafCheck (s : State) (f p : Nat) (l : Leaf) : Nat :=
  if l.w0.getLsbD 0 = false then 6
  else if l.w0.toNat / 2 % 16 ≠ 0 ∨ l.w1.toNat % 8 ≠ 0 ∨ l.w2.toNat % 8 ≠ 0 ∨ l.w3.toNat / 2 ^ 48 ≠ 0
      ∨ l.w3.toNat / 2 ^ 16 % 2 ^ 16 ≠ 0 ∨ l.w3.getLsbD 14 then 7
  else if l.logSize < 7 ∨ 20 < l.logSize ∨ 2 ^ 64 < l.base + 32 * 2 ^ l.logSize then 7
  else if l.inside l.wp ∨ (stopMode s f l ∧ l.inside l.rp) then 7
  else if l.ats = false ∧ (fenceHit s p l.base (32 * 2 ^ l.logSize) ∨ fenceHit s p l.wp 8
      ∨ (stopMode s f l ∧ fenceHit s p l.rp 8)) then 1
  else 0

/-! ### Writes (R410 to R413) -/

/-- What a write that leaves with credits delivers (R6, R372): the counts of its records. -/
def deliver (s : State) (w : Write) : State :=
  (w.items.foldl (fun s i =>
    if i.cls = 0 then s.count F.SPR_ALARM_CNT_COUNT 0
    else
      let x := s.flow i.flow
      if i.flow = 0 ∨ x.st = .closed then s else s.setFlow i.flow { x with deliv := x.deliv + 1 }) s).releaseClosing

/-- The writes that a port keeps for a failover (R416 step 3): all without GO in CXL mode, in PCIe mode those of the last
2 µs. -/
def keepGone (s : State) (p : Nat) (l : List Write) : List Write :=
  if isCxl s p then l else l.filter fun w => s.hub.base + 1 < w.sent + 32000

/-- An interrupt of a flow after a WP write (R414): sent, or due at the end of the interval. -/
def flowInterrupt (s : State) (f p : Nat) : State :=
  let x := s.post f
  match x.entry with
  | some l =>
    if l.intEn then
      if (match x.lastInt with | some t => decide (t + l.intMod * 16000 ≤ s.hub.base) | none => true) then
        (s.setPost f { x with lastInt := some s.hub.base, intDue := false }).msix p l.vector
      else s.setPost f { x with intDue := true }
    else s
  | none => s

/-- A write leaves a port. In PCIe mode a write pointer's interrupt follows it. A write sent again has been delivered. -/
def sendWrite (s : State) (p : Nat) (w : Write) : State :=
  let w1 := { w with sent := s.hub.base + 1 }
  let s1 := { s with pmap := { s.pmap with
      credits := s.pmap.credits.set p (s.pmap.credits.get p - 1),
      gone := s.pmap.gone.set p (keepGone s p (s.pmap.gone.get p ++ [w1])) } }
  let s2 := s1.emit (.hostWrite p w.op w.wp w.addr w.data)
  let s3 := if w.sent = 0 then deliver s2 w1 else s2
  if w.wp && !isCxl s p then flowInterrupt s3 w.flow p else s3

/-- Bytes of a write. -/
def Write.bytes (w : Write) : Nat := if w.wp then 8 else if w.op = .itoMWr then 64 else 32

/-- Writes waiting at a port leave while it has credits. One that would touch a fence window now in force is not issued, and
its flow is suspended (R402, R405). -/
def drainWrites (p : Nat) : Nat → State → State
  | 0, s => noteStall s p
  | n + 1, s =>
    if s.pmap.credits.get p = 0 then noteStall s p
    else match s.pmap.waiting.get p with
      | [] => noteStall s p
      | w :: l =>
        if fenceHit s p w.addr.toNat w.bytes then
          drainWrites p n (mapFault s w.flow 1 (if w.wp then 3 else 2) w.addr.toNat)
        else drainWrites p n (sendWrite { s with pmap := { s.pmap with waiting := s.pmap.waiting.set p l } } p w)

/-- A write is handed to a port; without credit it waits, and the records that wait are flagged (R373). -/
def pushWrite (s : State) (p : Nat) (w : Write) : State :=
  let s1 := { s with pmap := { s.pmap with waiting := s.pmap.waiting.set p (s.pmap.waiting.get p ++ [w]) } }
  drainWrites p ((s.pmap.waiting.get p).length + 1) (if s.pmap.credits.get p = 0 then s1.flagWaiting 1 else s1)

/-- Earlier writes of a flow have no GO yet (R411), or have not left. -/
def unsettled (s : State) (p f : Nat) : Bool :=
  (s.pmap.waiting.get p).any (fun w => w.flow = f && !w.wp)
    || (isCxl s p && (s.pmap.gone.get p).any fun w => w.flow = f && !w.wp)

/-- A flow's write pointer is written (R410 to R412, R397, R402). -/
def writeWp (s : State) (f : Nat) : State :=
  let p := postPort s - 1
  let x := s.post f
  match x.entry with
  | none => s
  | some l =>
    match xlat s p l.ats l.wp true with
    | .fault => mapFault s f 8 5 l.wp
    | .wait => s.askTrans p f l.wp true
    | .addr a =>
      if fenceHit s p a 8 then mapFault s f 1 3 a
      else
        pushWrite (s.setPost f { x with uncov := 0 }) p
          ⟨f, true, if isCxl s p then .wrInv else .posted, BitVec.ofNat 64 a, x.count.setWidth 512, 0, []⟩

/-- A flow switches to an entry (R401): the old ring's write pointer first; a new GEN, or no previous entry, restarts the
count. -/
def switchEntry (s : State) (f : Nat) (l : Leaf) : State :=
  let s1 := if 0 < (s.post f).uncov then writeWp s f else s
  let x := s1.post f
  let fresh := match x.entry with | some o => o.gen != l.gen | none => true
  s1.setPost f { x with entry := some l, count := if fresh then 0 else x.count,
                        rp := if fresh then none else x.rp, uncov := 0 }

/-- A leaf entry enters the map cache (R396): of 256, the least recently used one of a flow that is not accepted goes. -/
def cacheInsert (s : State) (c : CacheE) : State :=
  let l := s.pmap.cache.filter fun d => d.flow != c.flow
  let l1 :=
    if l.length < 256 then l
    else match (l.reverse.find? fun d => !flowAccepted s d.flow) with
      | some d => l.erase d
      | none => l.dropLast
  s.setCache (c :: l1)

/-- A walk ends well (R395, R398, R401, R407). -/
def walkDone (s : State) (f : Nat) (w : WalkS) (l : Leaf) : State :=
  let ns := (s.hub.base - w.start) / 16
  let s1 := s.sf F.PMAP_WALK_MAX_NS 0 0 (max (s.gf F.PMAP_WALK_MAX_NS 0) (min 0xFFFF_FFFF ns))
  let s2 := if ns > 2000 then s1.mapItems fun i => if i.flow = f ∧ i.conf then { i with why := i.why ||| 2 ^ 4 } else i else s1
  let s3 := switchEntry (s2.setPost f { s2.post f with walk := none, trans := none, holdDue := false }) f l
  kickWalks ((cacheInsert s3 ⟨f, l, w.issued, s.hub.base⟩).setSusp f none)

/-- The words of a leaf read. -/
def leafOf (ws : List DWord) : Leaf := ⟨ws.getD 0 0, ws.getD 1 0, ws.getD 2 0, ws.getD 3 0⟩

/-- MAP_READ_COMPLETION (R392 to R395, R404). -/
def execMapReadCompletion (flow : Fin 4096) (res : ReadRes) (s : State) : Host.Outcome State Fault Refusal :=
  let f := flow.val
  let p := postPort s - 1
  s.after <|
    match (s.post f).walk with
    | none => s
    | some w =>
      let acc := if w.stage = .root then 0 else 1
      if w.stage ≠ .root ∧ w.stage ≠ .leaf then s
      else match res with
        | .poison => kickWalks (mapFault s f 2 acc w.addr.toNat)
        | .ur => kickWalks (mapFault s f 3 acc w.addr.toNat)
        | .ca => kickWalks (mapFault s f 4 acc w.addr.toNat)
        | .data ws =>
          if w.stage = .root then
            let e := ws.getD 0 0
            if e.getLsbD 0 = false then kickWalks (mapFault s f 6 0 w.addr.toNat)
            else if e.toNat / 4 % 512 ≠ 0 then kickWalks (mapFault s f 7 0 w.addr.toNat)
            else
              let s1 := { s with pmap := { s.pmap with roots := s.pmap.roots.set (f / 64) (some (e, w.issued)) } }
              issueRead s1 f w false (e.getLsbD 1) (e.toNat / 2048 * 2048 + 32 * (f % 64))
          else
            let l := leafOf ws
            let c := leafCheck s f p l
            if c = 0 then walkDone s f w l else kickWalks (mapFault s f c 1 w.addr.toNat)

/-- A cached entry that may be used (R396). -/
def cached (s : State) (f : Nat) : Option CacheE :=
  (s.pmap.cache.find? fun c => c.flow = f).bind fun c => if s.hub.base - c.fill < ageLimit s then some c else none

/-- The entry under which a flow posts now: a usable cached one, or the old one until a walk that replaces it has
completed (R398, R400). -/
def postEntry (s : State) (f : Nat) : Option Leaf :=
  match cached s f with
  | some c => some c.leaf
  | none => match (s.post f).walk with
    | some w => if w.inv || w.refresh then (s.post f).entry else none
    | none => none

/-- A stop-mode ring has no room by the last RP read (R413). -/
def ringFull (s : State) (f : Nat) (l : Leaf) : Bool :=
  stopMode s f l && (match (s.post f).rp with
    | some r => decide (2 ^ l.logSize ≤ ((s.post f).count - r).toNat)
    | none => true)

/-- A record of the posting queue whose flow can take a step now. -/
def postable (s : State) (i : Item) : Bool :=
  let x := s.post i.flow
  x.susp.isNone && x.trans.isNone
    && (match postEntry s i.flow with | some l => !ringFull s i.flow l | none => x.walk.isNone)

/-- MAP_WALK (R395): a record reaches the posting queue and the cache holds no usable entry of its flow. -/
def needWalk (s : State) (f : Nat) : State :=
  if postPort s ≠ 0 ∧ (cached s f).isNone ∧ (s.post f).walk.isNone ∧ (s.post f).susp.isNone then startWalk s f false false
  else s

/-- The cache entry of a flow used now. -/
def touch (s : State) (f : Nat) : State :=
  match s.pmap.cache.find? fun c => c.flow = f with
  | some c => s.setCache ({ c with used := s.hub.base } :: s.pmap.cache.filter fun d => d.flow != f)
  | none => s

/-- One record (or, in CXL mode, two that fill a line) written into the ring (R410, R411). -/
def writeRecord (s : State) (i : Item) (l : Leaf) : State :=
  let f := i.flow
  let p := postPort s - 1
  let x := s.post f
  let addr := l.base + 32 * (x.count.toNat % 2 ^ l.logSize)
  match xlat s p l.ats addr true with
  | .fault => mapFault s f 8 5 addr
  | .wait => s.askTrans p f addr true
  | .addr a =>
    let q := (s.spoor.hops.get hopPost).erase i
    let second := if isCxl s p && decide (addr % 64 = 0) then q.find? fun j => j.flow = f else none
    let room := match x.rp with
      | some r => !stopMode s f l || decide (((x.count - r).toNat + 2) ≤ 2 ^ l.logSize)
      | none => !stopMode s f l
    let items : List Item := match second with | some j => if room then [i, j] else [i] | none => [i]
    if fenceHit s p a (32 * items.length) then mapFault s f 1 2 a
    else
      let data : BitVec 512 := items.foldr (fun j d => (d <<< 256) ||| (recordBits s j).setWidth 512) 0
      let rest := items.foldl (fun q j => q.erase j) (s.spoor.hops.get hopPost)
      let s1 := { s with spoor := { s.spoor with hops := s.spoor.hops.set hopPost rest } }
      let s2 := s1.setPost f { x with count := x.count + BitVec.ofNat 64 items.length, uncov := x.uncov + items.length,
                                      uncovAt := if x.uncov = 0 then s.hub.base else x.uncovAt, entry := some l }
      pushWrite (touch s2 f) p
        ⟨f, false, if !isCxl s p then .posted else if items.length = 2 then .itoMWr else .woWrInv, BitVec.ofNat 64 a, data, 0,
          items⟩

/-- Records written that no write pointer covers, of a flow that can go on (R401, R417). -/
def uncovered (s : State) : List Nat :=
  (s.pmap.flows.cells.filter fun c => decide (0 < c.2.uncov) && c.2.susp.isNone && c.2.entry.isSome).map (·.1)

/-- Nothing more is to be issued or awaited at the port that a failback leaves in CXL mode (R417). -/
def portQuiet (s : State) (p : Nat) : Bool :=
  (s.pmap.gone.get p).isEmpty && (s.pmap.waiting.get p).isEmpty && (uncovered s).isEmpty

/-- INT_MOD_EXPIRE (R414): the deferred vector is sent. -/
def execIntModExpire (flow : Fin 4096) (s : State) : Host.Outcome State Fault Refusal :=
  let x := s.post flow.val
  s.after <|
    let due := match x.entry, x.lastInt with | some l, some t => decide (t + l.intMod * 16000 ≤ s.hub.base) | _, _ => true
    if x.intDue && due && decide (postPort s ≠ 0) then
      match x.entry with
      | some l =>
        (s.setPost flow.val { x with intDue := false, lastInt := some s.hub.base }).msix (postPort s - 1) l.vector
      | none => s
    else s

/-- RP_READ (R413): a stop-mode ring that looks full re-reads RP, at most once per 1 µs. -/
def execRpRead (flow : Fin 4096) (s : State) : Host.Outcome State Fault Refusal :=
  let f := flow.val
  let p := postPort s - 1
  let x := s.post f
  s.after <|
    match postEntry s f with
    | none => s
    | some l =>
      let soon : Bool := match x.rpAt with | some t => decide (s.hub.base < t + 16000) | none => false
      if postPort s = 0 ∨ s.pmap.failback ∨ ringFull s f l = false ∨ x.rpBusy ∨ x.susp.isSome ∨ x.trans.isSome ∨ soon then s
      else match xlat s p l.ats l.rp false with
        | .fault => mapFault s f 8 5 l.rp
        | .wait => s.askTrans p f l.rp false
        | .addr a =>
          if fenceHit s p a 8 then mapFault s f 1 4 a
          else (s.setPost f { x with rpBusy := true, rpAt := some s.hub.base }).emit (.rpRead p (BitVec.ofNat 64 a))

/-- ATS invalidations complete once the writes of the port have been sent and, in CXL mode, have their GO (R397). -/
def finishAts (s : State) (p : Nat) : State :=
  if 0 < s.pmap.atsWait.get p ∧ (s.pmap.waiting.get p).isEmpty = true ∧ (isCxl s p = false ∨ (s.pmap.gone.get p).isEmpty = true) then
    ({ s with pmap := { s.pmap with atsWait := s.pmap.atsWait.set p 0 } }).emitAll
      (List.replicate (s.pmap.atsWait.get p) (.atsComplete p))
  else s

/-- ATS_INVALIDATION (R397, R419): the translations of pages `page` to `page + n − 1` go; a walk in translation asks
again. -/
def execAtsInvalidation (p : Fin 2) (page : DWord) (n : Nat) (s : State) : Host.Outcome State Fault Refusal :=
  let lo := p.val * 2 ^ 52 + page.toNat / 4096
  let s1 := { s with pmap := { s.pmap with
      trans := s.pmap.trans.keep fun k => !(decide (lo ≤ k) && decide (k < lo + n)),
      atsWait := s.pmap.atsWait.set p.val (s.pmap.atsWait.get p.val + 1) } }
  let hit := fun (c : Nat × PostS) => match c.2.trans with
    | some t => decide (page.toNat / 4096 ≤ t.1.toNat / 4096) && decide (t.1.toNat / 4096 < page.toNat / 4096 + n)
    | none => false
  let again := if postPort s = p.val + 1 then
      (s1.pmap.flows.cells.filter hit).filterMap fun c => c.2.trans.map fun t => Emit.transRequest p.val t.1
    else []
  s.after (finishAts (s1.emitAll again) p.val)

/-! ### Invalidation and port commands (R398, R415 to R417, R419) -/

/-- Flows that are walked at once: accepted or suspended (R398, R416). -/
def mustWalk (s : State) (f : Nat) : Bool := flowAccepted s f || suspended s f

/-- Every flow with a handle in use, and the alarm flow. -/
def allFlows (s : State) : List Nat := 0 :: (handles s).filter fun f => f != 0

/-- An invalidation removes the entries it covers and walks the accepted and suspended flows among them (R398). -/
def invalidate (s : State) (covers : Nat → Bool) (roots : Nat → Bool) : State :=
  let s1 := s.setCache (s.pmap.cache.filter fun c => !covers c.flow)
  let s2 := { s1 with pmap := { s1.pmap with roots := s1.pmap.roots.keep fun k => !roots k } }
  let l := (allFlows s2).filter fun f => covers f && mustWalk s2 f
  let s3 := { s2 with pmap := { s2.pmap with inv := some (false, l.length) } }
  l.foldl (fun s f => startWalk s f false true) s3

/-- PMAP_CMD_STAT at the end of a command. -/
def State.pmapEnd (s : State) (result cause walked : Nat) : State :=
  let s1 := ((s.sf F.PMAP_CMD_STAT_RESULT 0 0 result).sf F.PMAP_CMD_STAT_CAUSE 0 0 cause).sf F.PMAP_CMD_STAT_WALKED 0 0 walked
  let s2 := if result = 3 then s1.sb F.PMAP_EVT_REJECT 0 0 true else s1.sb F.PMAP_EVT_INV_DONE 0 0 true
  s2.sb F.PMAP_CMD_START 0 0 false

/-- Posting moves to port O (R416): writes not certain to have arrived are sent again, those waiting follow; the caches are
emptied; admission runs again; the flows are walked in ascending order of deadline. -/
def failoverTo (s : State) (o trigger : Nat) : State :=
  let p := 1 - o
  let again := keepGone s p (s.pmap.gone.get p)
  let s1 := { s with pmap := { s.pmap with
      waiting := (s.pmap.waiting.set o (s.pmap.waiting.get o ++ again ++ s.pmap.waiting.get p)).set p [],
      gone := s.pmap.gone.set p [], roots := .empty, trans := s.pmap.trans.keep fun k => k / 2 ^ 52 != p,
      flows := s.pmap.flows.mapAll fun _ x => { x with walk := none, trans := none, rpBusy := false },
      failback := false } }
  let s2 := ((s1.setCache []).flagWaiting 3).setPort (o + 1)
  let s3 := rerunPort s2 2
  let l := ((allFlows s3).filter (mustWalk s3)).mergeSort fun a b => (s3.flow a).deadline ≤ (s3.flow b).deadline
  let s4 := l.foldl (fun s f => startWalk s f false s.pmap.inv.isSome) s3
  let s5 := drainWrites o ((s4.pmap.waiting.get o).length) s4
  ((noteStall s5 p).sb F.PMAP_EVT_FAILOVER 0 0 true).raise postingSrc 0x132
    (detailOf [(2, 1, trigger), (3, 1, o + 1), (4, 4, again.length)])

/-- A trigger of R415 applies to the posting port. -/
def triggerHolds (s : State) (p trigger : Nat) : Bool :=
  match trigger with
  | 1 => !s.linkUp p
  | 2 => s.linkUp p && !canPost s p
  | 3 => (s.host.ports.get p).fatal
  | 4 => s.gf F.PMAP_FO_CFG_STALL 0 != 0 && stalledFor s p (s.gf F.PMAP_FO_CFG_STALL 0 * 16000)
  | _ => false

/-- When no port posts and one can, posting begins on the port of R390, with what waited (R389, R390, R418). -/
def choosePort (s : State) : State :=
  let c := choice s
  if postPort s ≠ 0 ∨ c = 0 then s
  else
    let o := c - 1
    let s1 := { s with pmap := { s.pmap with
        waiting := (s.pmap.waiting.set o (s.pmap.waiting.get o ++ s.pmap.waiting.get (1 - o))).set (1 - o) [] } }
    let s2 := (noteStall s1 (1 - o)).setPort c
    let s3 := if s.spoor.started then rerunPort s2 2 else s2
    drainWrites o ((s3.pmap.waiting.get o).length)
      ((allFlows s3).foldl (fun s f => if mustWalk s f then startWalk s f false false else s) s3)

/-- A failback ends (R417): the cache is emptied and posting is on the primary port. -/
def failbackEnd (s : State) : State :=
  let o := s.gf F.PMAP_CTRL_PRIMARY 0
  let s1 := { s with pmap := { s.pmap with
      roots := .empty, gone := s.pmap.gone.set (1 - o) [], failback := false,
      flows := s.pmap.flows.mapAll fun _ x => { x with walk := none, trans := none, rpBusy := false } } }
  let s2 := rerunPort ((s1.setCache []).setPort (o + 1)) 2
  let l := ((allFlows s2).filter (mustWalk s2)).mergeSort fun a b => (s2.flow a).deadline ≤ (s2.flow b).deadline
  ((l.foldl (fun s f => startWalk s f false s.pmap.inv.isSome) s2).sb F.PMAP_EVT_FAILBACK 0 0 true).raise postingSrc
    0x133 (detailOf [(2, 1, o + 1)])

/-- A failback begins (R417): on the other port nothing more is issued but the write pointers of what is written. In PCIe
mode they go at once and a zero-length read behind them; in CXL mode they follow the GOs, and every GO is awaited. -/
def failbackStart (s : State) : State :=
  let p := postPort s - 1
  let s1 := { s with pmap := { s.pmap with failback := true } }
  if !isCxl s p then ((uncovered s1).foldl writeWp s1).emit (.zeroRead p)
  else if portQuiet s p then failbackEnd s1 else s1

/-- The commands of PMAP_CMD (R398, R415, R417). -/
def pmapCommand (s : State) (op f : Nat) : State :=
  match op with
  | 1 => invalidate s (fun g => g = f) (fun _ => false)
  | 2 => invalidate s (fun g => g / 64 = f / 64) (fun k => k = f / 64)
  | 3 => invalidate s (fun _ => true) (fun _ => true)
  | 4 =>
    if postPort s = 0 ∨ canPost s (1 - (postPort s - 1)) = false then s.pmapEnd 3 1 0
    else (failoverTo s (1 - (postPort s - 1)) 5).pmapEnd 1 0 0
  | _ =>
    let o := s.gf F.PMAP_CTRL_PRIMARY 0
    if canPost s o = false then s.pmapEnd 3 1 0
    else if postPort s = o + 1 then s.pmapEnd 3 2 0
    else if postPort s = 0 then (choosePort s).pmapEnd 1 0 0
    else (failbackStart s).pmapEnd 1 0 0

/-- The command that waited for a move of posting runs when the move ends (R419). -/
def runWaiting (s : State) : State :=
  match s.pmap.waitCmd with
  | some v => pmapCommand { s with pmap := { s.pmap with waitCmd := none } } (fOf v F.PMAP_CMD_OP) (fOf v F.PMAP_CMD_FLOW)
  | none => s

/-- A failback ends, and a command that waited for it runs (R419). -/
def failbackFinish (s : State) : State := runWaiting (failbackEnd s)

/-- In CXL mode a failback ends once the port it leaves is quiet (R417). -/
def failbackCheck (s : State) : State :=
  let p := postPort s - 1
  if s.pmap.failback && isCxl s p && portQuiet s p then failbackFinish s else s

/-- WP_WRITE (R411, R412): at the first of its three conditions. -/
def execWpWrite (flow : Fin 4096) (s : State) : Host.Outcome State Fault Refusal :=
  let f := flow.val
  let x := s.post f
  let more := (s.spoor.hops.get hopPost).any fun i => i.flow = f
  s.after <|
    if postPort s = 0 ∨ x.uncov = 0 ∨ x.susp.isSome ∨ x.trans.isSome ∨ unsettled s (postPort s - 1) f then s
    else if !more || decide (16 ≤ x.uncov) || decide (x.uncovAt + 16000 ≤ s.hub.base) then failbackCheck (writeWp s f) else s

/-- POSTING_FAILOVER (R415, R416): trigger 1 to 4 at the posting port while the other port can post. -/
def execPostingFailover (trigger : Fin 5) (s : State) : Host.Outcome State Fault Refusal :=
  let p := postPort s - 1
  s.after <|
    if postPort s = 0 ∨ triggerHolds s p trigger.val = false ∨ canPost s (1 - p) = false then s
    else runWaiting (failoverTo s (1 - p) trigger.val)

/-- NO_PORT (R418): the posting port is lost and the other cannot post. -/
def execNoPort (s : State) : Host.Outcome State Fault Refusal :=
  let p := postPort s - 1
  s.after <|
    if postPort s = 0 ∨ canPost s p ∨ canPost s (1 - p) then s
    else
      let s1 := { s with pmap := { s.pmap with
          roots := .empty, trans := .empty, failback := false,
          waiting := s.pmap.waiting.set p (keepGone s p (s.pmap.gone.get p) ++ s.pmap.waiting.get p),
          gone := s.pmap.gone.set p [],
          flows := s.pmap.flows.mapAll fun _ x => { x with walk := none, trans := none, rpBusy := false } } }
      runWaiting (((rerunPort (((noteStall s1 p).setCache []).setPort 0) 2).sb F.PMAP_EVT_NOPORT 0 0 true).raise postingSrc 0x134 (detailOf []))

/-- A write of PMAP_CMD (R13, R16, R398, R419): while a failback runs, the command waits. -/
def pmapCmdWrite (s : State) (v : Word) : State :=
  let op := if listed [(1, 5)] (fOf v F.PMAP_CMD_OP) then fOf v F.PMAP_CMD_OP else s.gf F.PMAP_CMD_OP 0
  let f := fOf v F.PMAP_CMD_FLOW
  let s1 := (s.sf F.PMAP_CMD_OP 0 0 op).sf F.PMAP_CMD_FLOW 0 0 f
  if fOf v F.PMAP_CMD_START = 1 ∧ s.gb F.PMAP_CMD_START 0 = false then
    if op = 0 then s1.pmapEnd 3 0 0
    else
      let s2 := s1.sb F.PMAP_CMD_START 0 0 true
      if s.pmap.failback then { s2 with pmap := { s2.pmap with waitCmd := some v } } else pmapCommand s2 op f
  else s1

/-- The PMAP_CMD word of a command. -/
def pmapCmdWord (op : Nat) (f : Fin 4096) : Word := BitVec.ofNat 32 (2 ^ 31 + f.val * 2 ^ 16 + op)

/-- INV_FLOW (R398). -/
def execInvFlow (f : Fin 4096) (s : State) : Host.Outcome State Fault Refusal := s.after (pmapCmdWrite s (pmapCmdWord 1 f))
/-- INV_ROOT (R398). -/
def execInvRoot (f : Fin 4096) (s : State) : Host.Outcome State Fault Refusal := s.after (pmapCmdWrite s (pmapCmdWord 2 f))
/-- INV_ALL (R398). -/
def execInvAll (s : State) : Host.Outcome State Fault Refusal := s.after (pmapCmdWrite s (pmapCmdWord 3 0))
/-- FAILOVER (R415). -/
def execFailover (s : State) : Host.Outcome State Fault Refusal := s.after (pmapCmdWrite s (pmapCmdWord 4 0))
/-- FAILBACK (R417). -/
def execFailback (s : State) : Host.Outcome State Fault Refusal := s.after (pmapCmdWrite s (pmapCmdWord 5 0))

/-- AUTO_FAILBACK (R417): the primary port has been able to post for 1 s. -/
def execAutoFailback (s : State) : Host.Outcome State Fault Refusal :=
  let o := s.gf F.PMAP_CTRL_PRIMARY 0
  s.after <|
    if s.gb F.PMAP_CTRL_FAILBACK 0 && canPost s o && decide (postPort s ≠ 0) && decide (postPort s ≠ o + 1)
        && !s.pmap.failback then failbackStart s else s

/-- A ring whose entry has left the cache waits for its final write pointer (R398, R401). -/
def oldUncovered (s : State) : Bool := (uncovered s).any fun f => !(s.pmap.cache.any fun c => c.flow = f)

/-- INVALIDATION_DONE (R398): every walk of the command has ended and every write under the old entries has been sent, in
CXL mode with its GO. -/
def execInvalidationDone (s : State) : Host.Outcome State Fault Refusal :=
  let p := postPort s - 1
  s.after <|
    match s.pmap.inv with
    | none => s
    | some (bad, n) =>
      if s.pmap.flows.cells.any (fun c => match c.2.walk with | some w => w.inv | none => false) then s
      else if postPort s ≠ 0 ∧ ((s.pmap.waiting.get p).isEmpty = false
          ∨ (isCxl s p ∧ (s.pmap.gone.get p).isEmpty = false) ∨ oldUncovered s = true) then s
      else
        let s1 := { s with pmap := { s.pmap with inv := none } }
        if s.gb F.PMAP_CMD_START 0 then s1.pmapEnd (if bad then 2 else 1) 0 n else s1

/-- A write of PMAP_ROOT_A or PMAP_ROOT_B (R20, R419): of the posting port it acts as INV_ALL without completion status. -/
def pmapRootWrite (s : State) (p : Nat) (v : DWord) : State :=
  let keep : DWord := 0xFFFF_FFFF_FFFF_FE03
  let s1 := s.wr64 (if p = 0 then R.PMAP_ROOT_A else R.PMAP_ROOT_B) 0 0 (v &&& keep)
  let s2 := if postPort s = p + 1 then invalidate s1 (fun _ => true) (fun _ => true) else s1
  choosePort s2

/-- PMAP_ROOT_WRITE (R419). -/
def execPmapRootWrite (p : Fin 2) (v : DWord) (s : State) : Host.Outcome State Fault Refusal :=
  s.after (pmapRootWrite s p.val v)

/-- PMAP_CMD_STAT_READ (R399): answered after every write sent earlier on the port; the order of what leaves the part
(State.out) says so. -/
def execPmapCmdStatRead (p : Fin 2) (s : State) : Host.Outcome State Fault Refusal :=
  let w := s.rd R.PMAP_CMD_STAT 0
  let a : Reader := if p.val = 0 then .hla else .hlb
  s.after (s.byPath a R.PMAP_CMD_STAT.off <| (s.answer a (w.setWidth 64)).emit
    (.completion p.val 0 [w.setWidth 8, (w >>> 8).setWidth 8, (w >>> 16).setWidth 8, (w >>> 24).setWidth 8]))

/-- MAP_REFRESH (R396): at 7/8 of its limit an entry used during the eighth before is read again. -/
def execMapRefresh (flow : Fin 4096) (s : State) : Host.Outcome State Fault Refusal :=
  s.after <|
    match s.pmap.cache.find? fun c => c.flow = flow.val with
    | some c =>
      let lim := ageLimit s
      if postPort s ≠ 0 ∧ c.fill * 8 + 7 * lim ≤ s.hub.base * 8 ∧ c.fill * 8 + 6 * lim ≤ c.used * 8
          ∧ (s.post flow.val).walk.isNone ∧ (s.post flow.val).susp.isNone then startWalk s flow.val true false
      else s
    | none => s

/-- HOLD_LIMIT_EXPIRE (R407, R408, R419). -/
def execHoldLimitExpire (flow : Fin 4096) (s : State) : Host.Outcome State Fault Refusal :=
  let x := s.post flow.val
  s.after <|
    match x.susp with
    | some u =>
      if flow.val = 0 ∨ s.hub.base < u.since + (s.flow flow.val).hold * 16_000_000 then s
      else if x.walk.isSome then s.setPost flow.val { x with holdDue := true }
      else breakFlow s flow.val u.cause
    | none => s

/-- The records of a failed write are kept, to be the first written on resumption (R405): they return to the head of the
posting queue, and the count returns by their number unless a later record of the flow has been sent behind them. -/
def keepFailed (s : State) (p : Nat) (w : Write) : State :=
  let s := withdraw s w.flow
  let x := s.post w.flow
  let later := (s.pmap.gone.get p).any fun v => v.flow = w.flow && !v.wp
  let n := if later then 0 else w.items.length
  let s1 := s.setPost w.flow { x with count := x.count - BitVec.ofNat 64 n,
                                      uncov := if w.wp then max 1 x.uncov else x.uncov - n }
  { s1 with spoor := { s1.spoor with hops := s1.spoor.hops.set hopPost (w.items ++ s1.spoor.hops.get hopPost) } }

/-- GO_RECEIVED (R404, R411, R414): the oldest write of a flow without GO is answered; an error GO is a fault, and the
records of the write are kept to be written first (R405). -/
def execGoReceived (flow : Fin 4096) (err : Bool) (s : State) : Host.Outcome State Fault Refusal :=
  let f := flow.val
  let p := postPort s - 1
  s.after <|
    if postPort s = 0 ∨ isCxl s p = false then s
    else match (s.pmap.gone.get p).find? fun w => w.flow = f with
      | none => s
      | some w =>
        let s1 := { s with pmap := { s.pmap with gone := s.pmap.gone.set p ((s.pmap.gone.get p).erase w) } }
        let s2 :=
          if err then mapFault (keepFailed s1 p w) f 9 (if w.wp then 3 else 2) w.addr.toNat
          else if w.wp then flowInterrupt s1 f p else s1
        let s5 := finishAts s2 p
        failbackCheck s5

/-- 50 µs in counts of the timebase. -/
def accessLimit : Nat := 800000

/-- ACCESS_TIMEOUT (R404): 50 µs without the completion of a read, or in CXL mode without a GO. -/
def execAccessTimeout (flow : Fin 4096) (go : Bool) (s : State) : Host.Outcome State Fault Refusal :=
  let f := flow.val
  let p := postPort s - 1
  let x := s.post f
  s.after <|
    if postPort s = 0 then s
    else if go then
      match (s.pmap.gone.get p).find? fun w => w.flow = f with
      | some w =>
        if isCxl s p ∧ w.sent + accessLimit ≤ s.hub.base + 1 then
          let s1 := { s with pmap := { s.pmap with gone := s.pmap.gone.set p ((s.pmap.gone.get p).erase w) } }
          failbackCheck <| mapFault (keepFailed s1 p w) f 5 (if w.wp then 3 else 2) w.addr.toNat
        else s
      | none => s
    else match x.walk with
      | some w =>
        if w.stage = .queued ∨ s.hub.base < w.issued + accessLimit then s
        else kickWalks (mapFault s f 5 (if w.stage = .root then 0 else if w.stage = .leaf then 1 else 5) w.addr.toNat)
      | none =>
        if x.rpBusy then
          (if x.rpAt.any fun t => decide (s.hub.base < t + accessLimit) then s
           else mapFault s f 5 4 (match x.entry with | some l => l.rp | none => 0))
        else match x.trans with
          | some t => if s.hub.base < x.transAt + accessLimit then s else mapFault s f 5 5 t.1.toNat
          | none => s

/-- READ_COMPLETION (R397, R413, R417). -/
def execReadCompletion (ans : Answer) (s : State) : Host.Outcome State Fault Refusal :=
  let p := postPort s - 1
  s.after <|
    if postPort s = 0 then s
    else match ans with
      | .zero => if s.pmap.failback && !isCxl s p then failbackFinish s else s
      | .rp flow v =>
        let x := s.post flow.val
        if x.rpBusy then s.setPost flow.val { x with rpBusy := false, rp := some v } else s
      | .rpFail flow c =>
        let x := s.post flow.val
        if x.rpBusy then mapFault s flow.val (max 2 c.val) 4 (match x.entry with | some l => l.rp | none => 0) else s
      | .transUr flow =>
        match (s.post flow.val).trans with
        | some t => kickWalks (mapFault s flow.val 8 5 t.1.toNat)
        | none => s
      | .trans flow page r w =>
        let x := s.post flow.val
        match x.trans with
        | none => s
        | some t =>
          if (if t.2 then w else r) then
            let s1 := (s.keepTrans p t.1 page r w).setPost flow.val { x with trans := none }
            match x.walk with
            | some wk =>
              if wk.stage = .rootAts then issueRead s1 flow.val wk true true wk.addr.toNat
              else if wk.stage = .leafAts then issueRead s1 flow.val wk false true wk.addr.toNat
              else s1
            | none => s1
          else kickWalks (mapFault s flow.val 8 5 t.1.toNat)

/-- FLOW_CONTROL_CREDIT (R6): posted-write or D2H request credits for `n` writes. -/
def execFlowControlCredit (p : Fin 2) (n : Nat) (s : State) : Host.Outcome State Fault Refusal :=
  let s1 := { s with pmap := { s.pmap with credits := s.pmap.credits.set p.val (s.pmap.credits.get p.val + n) } }
  let s2 := if postPort s = p.val + 1 ∧ 0 < n then s1.sb F.SPR_STAT_STALL 0 0 false else s1
  s.after <|
    if postPort s = p.val + 1 then finishAts (drainWrites p.val (s.pmap.waiting.get p.val).length s2) p.val else s2

/-- SNOOP (R457): in CXL mode the Trarix holds no host line and answers RspIHitI. -/
def execSnoop (p : Fin 2) (s : State) : Host.Outcome State Fault Refusal :=
  s.after <| if isCxl s p.val then s.emit (.snoopResponse p.val) else s

end Sys2Proof.Machine
end

