-- ==== Sys2Proof/Machine/Delivery.lean ====
section
/-!
DEFINITION. The arbiters of the funnel hops and of the posting queue, and what happens to a record that passes the Hub
funnel (R358 to R362, R377, R378, R381, R410, R441, R514); the flow commands (R363, R368).
-/

namespace Sys2Proof.Machine

/-- The arbiter input through which a source's records reach a hop (R358). -/
def inputOf (h : Nat) (x : Src) : Nat :=
  if h < 512 then x.key
  else if h < 528 then clusterOf x.unit.val
  else if h < 530 then x.rgn.val
  else if h < 532 then 0
  else if h = hopHub then (if x.hub then 16 + x.key else dieOf x.rgn.val)
  else 0

/-- A hop lies on the path of a source's records. -/
def onPath (x : Src) (h : Nat) : Bool :=
  decide (hopHub ≤ h) || (!x.hub && (h = hopCluster x.rgn.val (clusterOf x.unit.val) || h = hopRegion x.rgn.val
    || h = hopDie (dieOf x.rgn.val) || h = hopLink (dieOf x.rgn.val)))

/-- What a hop's alarm reserve gains in a record time of 2.5 ns, in 256,000ths of a record (R359): 5 % of 12.8 GB/s at a
funnel, 3.2 GB/s at a die-to-die link, 5 % of the negotiated capacity at the posting port. -/
def reserveGain (s : State) (h : Nat) : Nat :=
  if h = hopPost then postCapacity s else if 530 ≤ h ∧ h < 532 then 64000 else 12800

/-- The credit that a hop's reserve has used, `slots` record times later. -/
def State.gainReserve (s : State) (h slots : Nat) : State :=
  { s with spoor := { s.spoor with used := s.spoor.used.set h (s.spoor.used.get h - slots * reserveGain s h) } }

/-- The hop's alarm reserve has credit for a record (R360): of 16 records in all, at most 15 are used. -/
def reserveHas (s : State) (h : Nat) : Bool := decide (s.spoor.used.get h ≤ 15 * 256000)

/-- Rank of a record at a hop (R360). -/
def rankOf (s : State) (h : Nat) (i : Item) : Nat :=
  if i.cls = 0 then (if reserveHas s h then 1 else 3) else if i.conf then 2 else if i.cls = 3 then 5 else 4

/-- The sources behind an input of a hop that have a record of a rank waiting, there or before it (R361). -/
def sourcesBehind (s : State) (h rank inp : Nat) : Nat :=
  ((((s.spoor.hops.cells.filter fun c => c.1 ≤ h).map (·.2)).flatten.filter fun i =>
    onPath i.src h && inputOf h i.src = inp && rankOf s h i = rank).map fun i => i.src.key).dedup.length

/-- Within rank 4, CONTROL before TELEMETRY and, at the posting queue, by PRIO (R360, R361). -/
def bestEffortFirst (h : Nat) (l : List Item) : List Item :=
  let ctl := l.filter fun i => i.cls = 1
  let l1 := if ctl.isEmpty then l else ctl
  if h = hopPost then
    let top := l1.foldl (fun n i => max n i.prio) 0
    l1.filter fun i => i.prio = top
  else l1

/-- The record that an arbiter serves of those for which `ok` holds (R360 to R362): the highest rank; earliest deadline
first at the posting queue in rank 2; else weighted round robin over the inputs and the oldest record of the input. Answers
the record, its rank and what is left of the round. -/
def arbitrate (s : State) (h : Nat) (ok : Item → Bool) : Option (Item × Nat × List (Nat × Nat)) :=
  let l := (s.spoor.hops.get h).filter ok
  match [1, 2, 3, 4, 5].find? fun k => l.any fun i => rankOf s h i = k with
  | none => none
  | some k =>
    let mine := l.filter fun i => rankOf s h i = k
    let cand := if k = 4 then bestEffortFirst h mine else mine
    if k = 2 ∧ h = hopPost then
      (cand.foldl (fun b i => match b with
        | some v => if deadlineOf s i < deadlineOf s v then some i else some v
        | none => some i) none).map fun i => (i, k, [])
    else
      let inputs := (cand.map fun i => inputOf h i.src).dedup
      match wrrPick (s.spoor.wrr.get (h * 8 + k)) (inputs.map fun n => (n, sourcesBehind s h k n)) with
      | some (n, left) => (cand.find? fun i => inputOf h i.src = n).map fun i => (i, k, left)
      | none => none

/-- The record leaves the hop: the round, the alarm reserve (R360), and DROPS of its source (R381). -/
def leaveHop (s : State) (h : Nat) (i : Item) (rank : Nat) (left : List (Nat × Nat)) : State × Item :=
  let key := h * 65536 + i.src.key
  let take := min (255 - min 255 i.drops) (s.spoor.hopDrops.get key)
  ({ s with spoor := { s.spoor with
      hops := s.spoor.hops.set h ((s.spoor.hops.get h).erase i),
      wrr := s.spoor.wrr.set (h * 8 + rank) left,
      used := if rank = 1 then s.spoor.used.set h (s.spoor.used.get h + 256000) else s.spoor.used,
      hopDrops := s.spoor.hopDrops.set key (s.spoor.hopDrops.get key - take) } },
   { i with drops := i.drops + take })

/-- ENERGY_INCREMENT (R514): a Loop Engine or fabric record of an accumulator's flow adds payload bytes 0 to 3 × 2^SHIFT to
its pending sum; a negative value is counted. -/
def energyIncrement (s : State) (i : Item) : State :=
  if i.typ = 2 ∨ i.typ = 3 then
    let v := signedOf 32 (payloadGet i.payload 0 4)
    let sum := fun (s : State) (n : Nat) => (s.sett.sums.get n + v.toNat * 2 ^ s.own F.SETT_ACCn_CFG_SHIFT n) % 2 ^ 64
    let one := fun (s : State) (n : Nat) =>
      if s.ownB F.SETT_ACCn_CFG_EN n ∧ s.own F.SETT_ACCn_CFG_FLOW n = i.flow then
        if v < 0 then s.setOwn F.SETT_ACC_STAT_NEG_CNT 0 (satInc 16 (s.own F.SETT_ACC_STAT_NEG_CNT))
        else { s with sett := { s.sett with sums := s.sett.sums.set n (sum s n) } }
      else s
    (List.range 128).foldl one s
  else s

/-- A record passes the Hub funnel: an alarm takes its slot's detail, last time and REPEAT, and the slot empties (R378); it
also goes up the Herd (R441), unless it has already. -/
def passHub (s : State) (i : Item) : State × Item :=
  let x : State × Item := match i.slot with
    | some k => match s.spoor.slots.get k with
      | some sl =>
        ({ s with spoor := { s.spoor with slots := s.spoor.slots.set k none } },
         { i with slot := none, payload := alarmPayload sl, rep := sl.rep, time := sl.time })
      | none => (s, i)
    | none => (s, i)
  let s1 := if x.2.cls = 0 ∧ x.2.raw.isNone ∧ x.2.viaHerd = false then herdAlarm x.1 (recordBits x.1 x.2) else x.1
  (energyIncrement s1 x.2, x.2)

/-- While no port posts, alarms wait in their slots and leave over the Herd (R386, R418): the alarm that the Hub funnel
would serve next is sent up as it stands. -/
def herdOnly (s : State) : State :=
  match arbitrate s hopHub fun i => i.cls = 0 && !i.viaHerd && i.raw.isNone with
  | some (i, _, _) =>
    let p := match i.slot with
      | some k => (match s.spoor.slots.get k with
        | some sl => { i with payload := alarmPayload sl, rep := sl.rep, time := sl.time }
        | none => i)
      | none => i
    let sent := (s.spoor.hops.get hopHub).map fun j => if j = i then { i with viaHerd := true } else j
    let s1 := { s with spoor := { s.spoor with hops := s.spoor.hops.set hopHub sent } }
    herdAlarm s1 (recordBits s p)
  | none => s

/-- A suspended best-effort flow holds at most 32 records in the posting queue (R406). -/
def heldFull (s : State) (i : Item) : Bool :=
  !i.conf && i.cls != 0 && suspended s i.flow
    && decide (32 ≤ ((s.spoor.hops.get hopPost).filter fun j => j.flow = i.flow).length)

/-- One service of a hop's arbiter (R358 to R362). Without a posting port, alarms do not pass the Hub funnel. -/
def hopServe (s : State) (h : Nat) : State :=
  let noPort := decide (h = hopHub) && decide (postPort s = 0)
  match arbitrate s h fun i => !(noPort && i.cls = 0) with
  | none => if noPort then herdOnly s else s
  | some (i, rank, left) =>
    let a := leaveHop s h i rank left
    if h = hopHub then
      let b := passHub a.1 a.2
      if heldFull b.1 b.2 then b.1.dropAt hopPost b.2
      else match b.1.enterHop hopPost b.2 with
        | some t => needWalk t b.2.flow
        | none => s
    else match a.1.enterHop (nextHop h) a.2 with
      | some t => t
      | none => s

/-- FUNNEL_HOP (R360): `slots` record times (2.5 ns) have passed at the hop since its last service. -/
def execFunnelHop (h : Fin 533) (slots : Nat) (s : State) : Host.Outcome State Fault Refusal :=
  s.after (hopServe (s.gainReserve h.val slots) h.val)

/-- The posting queue's arbiter serves a record whose flow can go on; one whose entry has aged out walks anew (R396). -/
def postNext (s : State) : State :=
  let p := postPort s
  if p = 0 ∨ canPost s (p - 1) = false ∨ s.pmap.failback then s
  else match arbitrate s hopPost (postable s) with
    | none => s
    | some (i, rank, left) =>
      match postEntry s i.flow with
      | none => startWalk s i.flow false false
      | some l =>
        let a := leaveHop s hopPost i rank left
        let s1 := { a.1 with spoor := { a.1.spoor with hops := a.1.spoor.hops.set hopPost (a.2 :: a.1.spoor.hops.get hopPost) } }
        writeRecord s1 a.2 l

/-- POST_RECORD (R361, R410): `slots` record times (2.5 ns) have passed since the posting queue was last served. -/
def execPostRecord (slots : Nat) (s : State) : Host.Outcome State Fault Refusal :=
  s.after (postNext (s.gainReserve hopPost slots))

/-! ### The flow commands (R363, R368) -/

/-- A flow that has been opened counts its records from 0 (R401); the records of an earlier opening that no write pointer
covers yet are covered first. -/
def restartCount (s : State) (f : Nat) : State :=
  let s1 := if 0 < (s.post f).uncov ∧ (s.post f).susp.isNone then writeWp s f else s
  s1.setPost f { s1.post f with count := 0, uncov := 0, rp := none }

/-- OPEN, with the count of the flow's ring. -/
def openRing (s : State) (f : Nat) : State :=
  let t := openFlow s f
  if (s.flow f).st = .closed ∧ (t.flow f).st ≠ .closed then restartCount t f else t

/-- A flow command that waits for a re-admission (R369) runs when it ends; here a re-admission is one event, so none
waits. A write of START = 1 while START is 1 starts nothing (R16); a locked write has no effect (R17). -/
def flowCommand (s : State) (op f : Nat) : State :=
  match op with
  | 1 => openRing s f
  | 2 => closeFlow s f
  | 3 => queryFlow s f
  | 4 => readmitFlow s f
  | _ => s.cmdEnd 0 false

/-- A write of SPR_CMD (R16, R17, R363). OP outside its listed values keeps OP (R13). -/
def sprCmdWrite (s : State) (v : Word) : State :=
  if s.gb F.SPR_CTRL_LOCK 0 then s
  else
    let op := if listed [(1, 4)] (fOf v F.SPR_CMD_OP) then fOf v F.SPR_CMD_OP else s.gf F.SPR_CMD_OP 0
    let s1 := (s.sf F.SPR_CMD_OP 0 0 op).sf F.SPR_CMD_FLOW 0 0 (fOf v F.SPR_CMD_FLOW)
    if fOf v F.SPR_CMD_START = 1 ∧ s.gb F.SPR_CMD_START 0 = false then
      if listed [(1, 4)] op then flowCommand s1 op (fOf v F.SPR_CMD_FLOW)
      else ((s1.sf F.SPR_CMD_STAT_RESULT 0 0 3).sf F.SPR_CMD_STAT_CAUSE 0 0 0).sb F.SPR_EVT_REJECT 0 0 true
    else s1

/-- The SPR_CMD word of a command. -/
def sprCmdWord (op : Nat) (f : Fin 4096) : Word := BitVec.ofNat 32 (2 ^ 31 + f.val * 2 ^ 16 + op)

/-- OPEN (R363). -/
def execOpenFlow (f : Fin 4096) (s : State) : Host.Outcome State Fault Refusal := s.after (sprCmdWrite s (sprCmdWord 1 f))
/-- CLOSE (R368). -/
def execCloseFlow (f : Fin 4096) (s : State) : Host.Outcome State Fault Refusal := s.after (sprCmdWrite s (sprCmdWord 2 f))
/-- QUERY (R368). -/
def execQueryFlow (f : Fin 4096) (s : State) : Host.Outcome State Fault Refusal := s.after (sprCmdWrite s (sprCmdWord 3 f))
/-- READMIT (R368). -/
def execReadmitFlow (f : Fin 4096) (s : State) : Host.Outcome State Fault Refusal := s.after (sprCmdWrite s (sprCmdWord 4 f))

end Sys2Proof.Machine
end

