-- ==== Sys2Proof/Machine/Crypto.lean ====
section
/-!
DEFINITION. The algorithms that 09_configuration.md names and does not write out: SHA-384 (R319, R324, R335), AES-256 in
counter mode and GCM's tag (R321, R325, R336), ECDSA over P-384 (R319, R324), and a 12-bit SEC-DED code (R316). They are the
published ones (PRESUMED, log entry 215); constants that the standards derive are derived here too.
-/

namespace Sys2Proof.Machine

abbrev Byte := BitVec 8

/-- The low n bytes of a number, least significant first. -/
def bytesLE : Nat → Nat → List Byte
  | 0, _ => []
  | n + 1, v => BitVec.ofNat 8 v :: bytesLE n (v / 256)

/-- The low n bytes of a number, most significant first. -/
def bytesBE (n v : Nat) : List Byte := (bytesLE n v).reverse

/-- The number that bytes spell, most significant first. -/
def ofBytesBE (l : List Byte) : Nat := l.foldl (fun a b => a * 256 + b.toNat) 0

/-! ### SHA-384 -/

def isPrime (n : Nat) : Bool := decide (2 ≤ n) && ((List.range n).filter fun d => 2 ≤ d && n % d = 0).isEmpty

/-- The first 80 primes. -/
def primes80 : List Nat := (List.range 410).filter isPrime

/-- The round constants: 64 fractional bits of the cube roots of the first 80 primes. -/
def shaRound : List DWord := primes80.map fun p => BitVec.ofNat 64 (rootBits 3 (p * 2 ^ 192) 70 0)

/-- The initial value of SHA-384: 64 fractional bits of the square roots of the 9th to 16th primes. -/
def shaInit : List DWord := ((primes80.drop 8).take 8).map fun p => BitVec.ofNat 64 (rootBits 2 (p * 2 ^ 128) 70 0)

/-- The two small mixing functions of the message schedule. -/
def shaSigma (x : DWord) (a b c : Nat) : DWord := x.rotateRight a ^^^ x.rotateRight b ^^^ (x >>> c)

/-- The two large mixing functions of a round. -/
def shaSum (x : DWord) (a b c : Nat) : DWord := x.rotateRight a ^^^ x.rotateRight b ^^^ x.rotateRight c

/-- The message schedule grown by n words, newest first. -/
def shaGrow : Nat → List DWord → List DWord
  | 0, w => w
  | n + 1, w =>
    shaGrow n ((shaSigma (w.getD 1 0) 19 61 6 + w.getD 6 0 + shaSigma (w.getD 14 0) 1 8 7 + w.getD 15 0) :: w)

/-- One round on the eight working words, with its constant and schedule word. -/
def shaStep (v : List DWord) (k w : DWord) : List DWord :=
  let e := v.getD 4 0
  let a := v.getD 0 0
  let t := v.getD 7 0 + shaSum e 14 18 41 + ((e &&& v.getD 5 0) ^^^ (~~~ e &&& v.getD 6 0)) + k + w
  let u := shaSum a 28 34 39 + ((a &&& v.getD 1 0) ^^^ (a &&& v.getD 2 0) ^^^ (v.getD 1 0 &&& v.getD 2 0))
  [t + u, a, v.getD 1 0, v.getD 2 0, v.getD 3 0 + t, e, v.getD 5 0, v.getD 6 0]

/-- The chaining value after a block of 128 bytes. -/
def shaBlock (h : List DWord) (block : List Byte) : List DWord :=
  let first := (List.range 16).map fun i => BitVec.ofNat 64 (ofBytesBE ((block.drop (8 * i)).take 8))
  let w := (shaGrow 64 first.reverse).reverse
  let v := (shaRound.zip w).foldl (fun v p => shaStep v p.1 p.2) h
  List.zipWith (· + ·) h v

def ShaS.start : ShaS := { h := shaInit, buf := [], n := 0 }

/-- One byte into a running hash. -/
def ShaS.byte (x : ShaS) (b : Byte) : ShaS :=
  if x.buf.length = 127 then { h := shaBlock x.h (b :: x.buf).reverse, buf := [], n := x.n + 1 }
  else { x with buf := b :: x.buf, n := x.n + 1 }

def ShaS.feed (x : ShaS) (l : List Byte) : ShaS := l.foldl ShaS.byte x

/-- The hash: padding and length, then the first six words. -/
@[irreducible] def ShaS.digest (x : ShaS) : BitVec 384 :=
  let zeros := (239 - x.buf.length) % 128
  let y := x.feed (0x80#8 :: (List.replicate zeros 0 ++ bytesBE 16 (8 * x.n)))
  BitVec.ofNat 384 ((y.h.take 6).foldl (fun a w => a * 2 ^ 64 + w.toNat) 0)

def sha384 (l : List Byte) : BitVec 384 := (ShaS.start.feed l).digest

/-! ### AES-256 and GCM -/

/-- Product in the field of AES, bit by bit of the second factor. -/
def aesMul (a b : Byte) : Byte :=
  ((List.range 8).foldl (fun (p : Byte × Byte) i =>
    (if b.getLsbD i then p.1 ^^^ p.2 else p.1,
      if p.2.getLsbD 7 then (p.2 <<< 1) ^^^ 0x1B#8 else p.2 <<< 1)) (0, a)).1

/-- The substitution of a byte: its inverse, the 254th power, and the affine map. -/
def aesSub (a : Byte) : Byte :=
  let p := fun (x : Byte) => aesMul x x
  let a2 := p a
  let a3 := aesMul a2 a
  let a12 := p (p a3)
  let a15 := aesMul a12 a3
  let a240 := p (p (p (p a15)))
  let i := aesMul (aesMul a240 a12) a2
  i ^^^ i.rotateLeft 1 ^^^ i.rotateLeft 2 ^^^ i.rotateLeft 3 ^^^ i.rotateLeft 4 ^^^ 0x63#8

/-- The key schedule grown by n words, newest first; `i` is the next word's number. -/
def aesGrow : Nat → Nat → Byte → List (List Byte) → List (List Byte)
  | 0, _, _, ws => ws
  | n + 1, i, rc, ws =>
    let t := ws.getD 0 []
    let u :=
      if i % 8 = 0 then
        match (t.drop 1 ++ t.take 1).map aesSub with
        | b :: bs => (b ^^^ rc) :: bs
        | [] => []
      else if i % 8 = 4 then t.map aesSub else t
    aesGrow n (i + 1) (if i % 8 = 0 then aesMul rc 2 else rc) (List.zipWith (· ^^^ ·) u (ws.getD 7 []) :: ws)

/-- The fifteen round keys of a 256-bit key, 16 bytes each. -/
def aesKeys (key : BitVec 256) : List (List Byte) :=
  let ks := bytesBE 32 key.toNat
  let ws := ((List.range 8).map fun i => (ks.drop (4 * i)).take 4).reverse
  let all := (aesGrow 52 8 1 ws).reverse
  (List.range 15).map fun r => ((all.drop (4 * r)).take 4).flatten

/-- Row shift of the 16 bytes, column by column. -/
def aesShift (s : List Byte) : List Byte := (List.range 16).map fun i => s.getD ((i + 4 * (i % 4)) % 16) 0

/-- Column mix. -/
def aesMix (s : List Byte) : List Byte :=
  (List.range 16).map fun i =>
    let c := i / 4 * 4
    let b := fun (k : Nat) => s.getD (c + (i + k) % 4) 0
    aesMul (b 0) 2 ^^^ aesMul (b 1) 3 ^^^ b 2 ^^^ b 3

/-- A block enciphered with the round keys. -/
def aesBlock (keys : List (List Byte)) (block : List Byte) : List Byte :=
  let add := fun (s k : List Byte) => List.zipWith (· ^^^ ·) s k
  let s0 := add block (keys.getD 0 [])
  let s1 := (List.range 13).foldl (fun s r => add (aesMix (aesShift (s.map aesSub))) (keys.getD (r + 1) [])) s0
  add (aesShift (s1.map aesSub)) (keys.getD 14 [])

/-- Keystream bytes [off, off + n) of GCM's counter mode under a 96-bit initialisation vector. -/
@[irreducible] def gcmStream (key : BitVec 256) (iv : List Byte) (off n : Nat) : List Byte :=
  let keys := aesKeys key
  let first := off / 16
  let blocks := (List.range ((off + n + 15) / 16 - first)).map fun i => aesBlock keys (iv ++ bytesBE 4 (first + i + 2))
  (blocks.flatten.drop (off % 16)).take n

/-- Product in GCM's field: bit 0 is the most significant. -/
def ghashMul (x h : BitVec 128) : BitVec 128 :=
  ((List.range 128).foldl (fun (p : BitVec 128 × BitVec 128) i =>
    (if x.getMsbD i then p.1 ^^^ p.2 else p.1,
      if p.2.getLsbD 0 then (p.2 >>> 1) ^^^ (0xE1#128 <<< 120) else p.2 >>> 1)) (0, h)).1

/-- Whole blocks of 16 bytes into the running hash, the last one filled up with zeros. -/
def ghashFeed (h : BitVec 128) (y : BitVec 128) (l : List Byte) : BitVec 128 :=
  (List.range ((l.length + 15) / 16)).foldl (fun y i =>
    let b := (l.drop (16 * i)).take 16
    ghashMul (y ^^^ BitVec.ofNat 128 (ofBytesBE (b ++ List.replicate (16 - b.length) 0))) h) y

/-- The hash key, and GCM's tag of a ciphertext of `n` bytes whose running hash, with the additional data of `a` bytes before
it, is y (R325). -/
def gcmHashKey (key : BitVec 256) : BitVec 128 := BitVec.ofNat 128 (ofBytesBE (aesBlock (aesKeys key) (List.replicate 16 0)))

@[irreducible] def gcmTag (key : BitVec 256) (iv : List Byte) (a n : Nat) (y : BitVec 128) : BitVec 128 :=
  let z := ghashMul (y ^^^ BitVec.ofNat 128 (8 * a * 2 ^ 64 + 8 * n)) (gcmHashKey key)
  z ^^^ BitVec.ofNat 128 (ofBytesBE (aesBlock (aesKeys key) (iv ++ bytesBE 4 1)))

/-! ### ECDSA over P-384 -/

def p384 : Nat := 2 ^ 384 - 2 ^ 128 - 2 ^ 96 + 2 ^ 32 - 1
/-- The order of the group. -/
def p384n : Nat := 0xffffffffffffffffffffffffffffffffffffffffffffffffc7634d81f4372ddf581a0db248b0a77aecec196accc52973
/-- The constant of the curve y² = x³ − 3x + b. -/
def p384b : Nat := 0xb3312fa7e23ee7e4988e056be3f82d19181d9c6efe8141120314088f5013875ac656398d8a2ed19d2a85c8edd3ec2aef
/-- The base point. -/
def p384g : Nat × Nat :=
  (0xaa87ca22be8b05378eb1c71ef320ad746e1d3b628ba79b9859f741e082542a385502f25dbf55296c3a545e3872760ab7,
   0x3617de4a96262c6f5d9e98bf9292dc29f8f41dbd289a147ce9da3113b5f0b8c00a60b1ce1d7e819d7a431d7c90ea0e5f)

/-- x^e modulo m, over the low `bits` bits of e. -/
def powMod (m x e : Nat) : Nat → Nat
  | 0 => 1 % m
  | b + 1 =>
    let h := powMod m x (e / 2) b
    if e % 2 = 1 then h * h % m * x % m else h * h % m

/-- A point in projective coordinates (x : y : z); z = 0: the point at infinity. -/
abbrev P384 := Nat × Nat × Nat

/-- Twice a point. -/
def ptDouble (a : P384) : P384 :=
  let (x, y, z) := a
  let p := p384
  let w := 3 * (x * x + (p - z * z % p)) % p
  let s := y * z % p
  let b := x * y % p * s % p
  let h := (w * w + 8 * (p - b)) % p
  (2 * h * s % p, (w * ((4 * b + (p - h)) % p) + 8 * (p - y * y % p * (s * s % p) % p)) % p, 8 * s % p * (s * s % p) % p)

/-- The sum of two points. -/
def ptAdd (a b : P384) : P384 :=
  let (x1, y1, z1) := a
  let (x2, y2, z2) := b
  let p := p384
  if z1 = 0 then b
  else if z2 = 0 then a
  else
    let u := (y2 * z1 + (p - y1 * z2 % p)) % p
    let v := (x2 * z1 + (p - x1 * z2 % p)) % p
    if v = 0 then (if u = 0 then ptDouble a else (0, 1, 0))
    else
      let vv := v * v % p
      let vvv := vv * v % p
      let r := vv * (x1 * z2 % p) % p
      let k := (u * u % p * (z1 * z2 % p) + (p - vvv) + 2 * (p - r)) % p
      (v * k % p, (u * ((r + (p - k)) % p) + (p - vvv * (y1 * z2 % p) % p)) % p, vvv * (z1 * z2 % p) % p)

/-- n times a point, over the low `bits` bits of n. -/
def ptMul (a : P384) (n : Nat) : Nat → P384
  | 0 => (0, 1, 0)
  | b + 1 =>
    let h := ptDouble (ptMul a (n / 2) b)
    if n % 2 = 1 then ptAdd h a else h

/-- The signature r ‖ s of a hash verifies under the public key 0x04 ‖ X ‖ Y (R319, R320, R324). -/
@[irreducible] def ecdsaVerify (key : List Byte) (hash : BitVec 384) (sig : List Byte) : Bool :=
  let x := ofBytesBE ((key.drop 1).take 48)
  let y := ofBytesBE ((key.drop 49).take 48)
  let r := ofBytesBE (sig.take 48)
  let s := ofBytesBE ((sig.drop 48).take 48)
  let onCurve := y * y % p384 = (x * x % p384 * x + 3 * (p384 - x) + p384b) % p384
  if key.getD 0 0 != 4 || decide (p384 ≤ x ∨ p384 ≤ y) || !decide onCurve || r = 0 || decide (p384n ≤ r) || s = 0
      || decide (p384n ≤ s) then false
  else
    let w := powMod p384n s (p384n - 2) 384
    let q := ptAdd (ptMul (p384g.1, p384g.2, 1) (hash.toNat * w % p384n) 384) (ptMul (x, y, 1) (r * w % p384n) 384)
    if q.2.2 = 0 then false
    else q.1 * powMod p384 q.2.2 (p384 - 2) 384 % p384 % p384n = r

/-! ### SEC-DED (R316) -/

/-- The numbers of the data bits in an extended Hamming code: those that are no power of two. -/
def secdedPlaces : List Nat := ((List.range 1036).filter fun n => 3 ≤ n && n &&& (n - 1) != 0).take 1024

/-- The 12-bit code of a frame's data: the sum of the places of its set bits, and the parity of all (DESIGN CHOICE, log entry
215: R316 gives the code's width alone). -/
@[irreducible] def secded (d : BitVec 1024) : BitVec 12 :=
  let x := (secdedPlaces.zip (List.range 1024)).foldl (fun (p : Nat × Bool) c =>
    if d.getLsbD c.2 then (p.1 ^^^ c.1, !p.2) else p) (0, false)
  let odd := (List.range 11).foldl (fun o i => o != x.1.testBit i) x.2
  BitVec.ofNat 12 (x.1 + if odd then 2 ^ 11 else 0)

/-- What a code finds of data: none where it matches; else the data and code with one bit put right, or none where two
differ. -/
@[irreducible] def secdedFix (d : BitVec 1024) (c : BitVec 12) : Option (BitVec 1024 × BitVec 12) :=
  let e := secded d ^^^ c
  let place := (e.setWidth 11).toNat
  -- an odd number of bits differs just where the parity over data and code does
  let odd := (List.range 11).foldl (fun o i => o != e.getLsbD i) (e.getLsbD 11)
  if !odd then none
  else if place = 0 then some (d, c ^^^ 0x800#12)
  else match (secdedPlaces.zip (List.range 1024)).find? fun p => p.1 = place with
    | some p => some (d ^^^ (1#1024 <<< p.2), c)
    | none => if place &&& (place - 1) = 0 then some (d, c ^^^ BitVec.ofNat 12 place) else none

end Sys2Proof.Machine
end

