-- ==== Sys2Proof/Machine/Logic.lean ====
section
/-!
DEFINITION. The logic cells and clusters of a region's fabric, their clocks and resets, the crossings of a region boundary
and the capture of flip-flops (08_logic_fabric.md R281, R282, R287 to R291, R305, R308, R309): what an edge of a clock tree
makes of the flip-flops that the image has put on it. What reaches a cluster's routed inputs is the sender's (log entry 18).
-/

namespace Sys2Proof.Machine

def State.fab (s : State) (r : Nat) : FabS := s.fabs.get r
def State.setFab (s : State) (r : Nat) (x : FabS) : State := { s with fabs := s.fabs.set r x }

/-! ### What an image states about the fabric beside its IMG fields (log entry 19) -/

def imgKey (r o : Nat) : Nat := 0x200_0000 + r * 0x2_0000 + o
def imgWord (s : State) (r o : Nat) : Word := s.img.get (imgKey r o)

/-- The initial values of a cluster's flip-flops (R281). -/
def ffInit (s : State) (r c : Nat) : Word := imgWord s r (0x100 + c)

/-- The global resets that a cluster uses: at most two (R282). -/
def resetsUsed (s : State) (r c : Nat) : List Nat :=
  ((List.range 8).filter fun k => imgWord s r (0x1000 + k * 0x100 + c) != 0).take 2

/-- The flip-flops of a cluster that use global reset k (R282, R290). -/
def ffResets (s : State) (r k c : Nat) : Word :=
  if k ∈ resetsUsed s r c then imgWord s r (0x1000 + k * 0x100 + c) else 0

/-- The source of global reset k of a die: 0 none, 1 a ball, 2 a fabric net (R290). -/
def resetSource (s : State) (d k : Nat) : Nat := (imgWord s (d * 8) (0x50 + k)).toNat

/-- Word j of what the image sets of cell i of cluster c: 0 and 1 the table, 2 the cell's choices, 3 and 4 which of the
cluster's inputs feed the table. -/
def cellWord (s : State) (r c i j : Nat) : Word := imgWord s r (0x4000 + (c * 16 + i) * 8 + j)

/-- The choices for flip-flop j (2i + f) of a cluster: [1:0] what drives it (0, 1: a table output; 2: the carry sum), [2] it
is bypassed, [3] its clock is CK1, [4] it has a clock enable, [6] its reset is synchronous (R281). -/
def ffCode (s : State) (r c j : Nat) : Nat := (cellWord s r c (j / 2) 2).toNat / 2 ^ (4 + 8 * (j % 2)) % 2 ^ 7

/-- The tree of CK0 or CK1 of a cluster: 0 to 15 global, 16 to 23 regional; none where it has no clock (R282). -/
def clusterClock (s : State) (r c n : Nat) : Option Nat :=
  let v := (imgWord s r (0x7000 + c)).toNat / 32 ^ n % 32
  if v = 0 ∨ 24 < v then none else some (v - 1)

/-- The tree that clocks a port of a block memory. -/
def portClock (s : State) (r b p : Nat) : Option Nat :=
  let v := (imgWord s r (0x20 + b * 2 + p)).toNat % 32
  if v = 0 ∨ 24 < v then none else some (v - 1)

/-! ### Cells (R281, R282) -/

/-- The word whose bit j is p j. -/
def wordOf (p : Nat → Bool) : Word := BitVec.ofNat 32 (((List.range 32).map fun j => if p j then 2 ^ j else 0).sum)

/-- The inputs that reach a cluster's cells: of those that cross the region boundary, what the crossing holds (R291). -/
def clusterIn (s : State) (r c : Nat) : BitVec 64 :=
  let x := s.fab r
  let retimed := DWord.ofHalves (imgWord s r (0x2000 + c * 4)) (imgWord s r (0x2001 + c * 4))
  let synced := DWord.ofHalves (imgWord s r (0x2002 + c * 4)) (imgWord s r (0x2003 + c * 4))
  (x.ins.get c &&& ~~~ (retimed ||| synced)) ||| (x.cross.get c &&& (retimed ||| synced))

/-- Input k of cell i's table. -/
def tableIn (s : State) (r c i k : Nat) : Bool :=
  (clusterIn s r c).getLsbD ((cellWord s r c i (3 + k / 4)).toNat / 256 ^ (k % 4) % 64)

/-- The two outputs of a cell's table: one 6-input function on both, or two 5-input functions of the five shared inputs. -/
def tableOut (s : State) (r c i : Nat) : Bool × Bool :=
  let n := ((List.range 6).map fun k => if tableIn s r c i k then 2 ^ k else 0).sum
  let t := DWord.ofHalves (cellWord s r c i 0) (cellWord s r c i 1)
  if (cellWord s r c i 2).getLsbD 0 then (t.getLsbD (n % 32), t.getLsbD (32 + n % 32)) else (t.getLsbD n, t.getLsbD n)

/-- The carry into cell 0 of a cluster: a constant, or the carry pending out of the cluster the image names (R282, R305). -/
def carryIn (s : State) (r c : Nat) : Bool :=
  let w := imgWord s r (0x7000 + c)
  w.getLsbD 16 || (w.getLsbD 17 && (s.fab r).pend.testBit (w.bits 24 18))

/-- The carry into cell i: the table's two outputs are the addends of every cell (DESIGN CHOICE, log entry 213: R281 names a
carry bit and a carry sum, and no rule says of what). -/
def carryTo (s : State) (r c : Nat) : Nat → Bool
  | 0 => carryIn s r c
  | i + 1 =>
    let t := tableOut s r c i
    (t.1 && t.2) || (carryTo s r c i && (t.1 != t.2))

/-- What drives flip-flop j of a cluster, or its bypass: a table output or the carry sum. -/
def ffData (s : State) (r c j : Nat) : Bool :=
  let t := tableOut s r c (j / 2)
  match ffCode s r c j % 4 with
  | 0 => t.1
  | 1 => t.2
  | 2 => (t.1 != t.2) != carryTo s r c (j / 2)
  | _ => false

/-- The 32 outputs of a cluster: each flip-flop, or what bypasses it (R281, R282). -/
def clusterOut (s : State) (r c : Nat) : Word :=
  wordOf fun j => if (ffCode s r c j).testBit 2 then ffData s r c j else ((s.fab r).ff.get c).getLsbD j

/-! ### Resets (R290) -/

/-- Global reset k holds the flip-flops on a tree: it is asserted, or its synchroniser on that clock has not let go. -/
def resetHolds (s : State) (r k t : Nat) : Bool :=
  (s.fab r).grst.testBit k || (s.fab r).rstStage.get (k * 24 + t) != 0

/-- Flip-flop j of a cluster is held at its initial value. -/
def ffHeld (s : State) (r c j : Nat) : Bool :=
  (resetsUsed s r c).any fun k => (ffResets s r k c).getLsbD j &&
    (match clusterClock s r c ((ffCode s r c j) / 8 % 2) with
      | some t => resetHolds s r k t
      | none => (s.fab r).grst.testBit k)

/-- The flip-flops that use one of some global resets take their initial values at once (R290): every one but those whose
reset the image makes synchronous (R281), which take them at their clock's next edge. -/
def ffReset (s : State) (r ks : Nat) : State :=
  let x := s.fab r
  s.setFab r { x with ff := (List.range 96).foldl (fun t c =>
    let m := (resetsUsed s r c).foldl (fun m k => if ks.testBit k then m ||| ffResets s r k c else m) (0 : Word)
    let now := m &&& wordOf fun j => !(ffCode s r c j).testBit 6
    t.set c ((t.get c &&& ~~~ now) ||| (ffInit s r c &&& now))) x.ff }

/-- Global resets leave a region through the two-stage synchroniser of each clock: two edges from now (R290). -/
def resetLeaves (s : State) (r ks : Nat) : State :=
  let x := s.fab r
  s.setFab r { x with rstStage := (List.range (8 * 24)).foldl (fun t i => if ks.testBit (i / 24) then t.set i 2 else t) x.rstStage }

/-- GLOBAL_RESET (R290): the source of global reset k of a die asserts or deasserts; a reset without a source does neither. -/
def execGlobalReset (d : Fin 2) (k : Fin 8) (on : Bool) (s : State) : Host.Outcome State Fault Refusal :=
  s.after <|
    if resetSource s d.val k.val = 0 then s
    else (List.range 8).foldl (fun s i =>
      let r := d.val * 8 + i
      let x := s.fab r
      if on then ffReset (s.setFab r { x with grst := x.grst ||| 2 ^ k.val }) r (2 ^ k.val)
      else if x.grst.testBit k.val then resetLeaves (s.setFab r { x with grst := clearBit x.grst k.val }) r (2 ^ k.val)
      else s) s

/-! ### Edges of the clock trees (R287 to R291, R305) -/

/-- The branch of a tree is open in a region (R289); a regional tree runs with its EN (FAB_RCLKr). -/
def branchOpen (s : State) (r t : Nat) : Bool :=
  decide (s.clk r = 0) && (decide (t < 16) || s.gb F.FAB_RCLKr_EN (fabB r) (t - 16))

/-- The clusters of which a tree clocks flip-flops. -/
def clustersOn (s : State) (r t : Nat) : List Nat :=
  (List.range 96).filter fun c => clusterClock s r c 0 = some t || clusterClock s r c 1 = some t

/-- The flip-flops of a cluster on a tree. -/
def onTree (s : State) (r c t : Nat) : Word :=
  wordOf fun j => clusterClock s r c (ffCode s r c j / 8 % 2) = some t

/-- A flip-flop's clock enable lets it change (R281, R282: CK0 and CK1 have one each). -/
def ffEnabled (s : State) (r c j : Nat) : Bool :=
  !(ffCode s r c j).testBit 4 || ((s.fab r).ce.get c).testBit (ffCode s r c j / 8 % 2)

/-- The flip-flops of a cluster after an edge of a tree. -/
def edgeValue (s : State) (r c t : Nat) : Word :=
  let q := (s.fab r).ff.get c
  let m := onTree s r c t
  wordOf fun j =>
    if m.getLsbD j = false then q.getLsbD j
    else if ffHeld s r c j then (ffInit s r c).getLsbD j
    else if ffEnabled s r c j then ffData s r c j
    else q.getLsbD j

/-- The carry-pending flip-flop of a cluster after an edge of its CK0: the carry that leaves cell 15 (R305). -/
def edgePend (s : State) (r c : Nat) : Bool := carryTo s r c 16 && ffEnabled s r c 30

/-- The crossings of a cluster's inputs after an edge of its CK0 (R291): a retiming register takes the net's level, a
synchroniser its first stage's. -/
def edgeCross (s : State) (r c : Nat) : BitVec 64 :=
  let retimed := DWord.ofHalves (imgWord s r (0x2000 + c * 4)) (imgWord s r (0x2001 + c * 4))
  let x := s.fab r
  (x.ins.get c &&& retimed) ||| (x.stage.get c &&& ~~~ retimed)

/-- One cluster moved on by an edge whose values were formed before it, in `s`. -/
def edgeCluster (s : State) (r t : Nat) (y : FabS) (c : Nat) : FabS :=
  let y1 := { y with ff := y.ff.set c (edgeValue s r c t) }
  if clusterClock s r c 0 = some t then
    { y1 with
      pend := if edgePend s r c then y1.pend ||| 2 ^ c else clearBit y1.pend c,
      cross := y1.cross.set c (edgeCross s r c), stage := y1.stage.set c (y1.ins.get c) }
  else y1

/-- Every global reset's synchroniser on a tree moves on by one edge. -/
def edgeResets (t : Nat) (y : FabS) : FabS :=
  { y with rstStage := (List.range 8).foldl (fun m k => m.set (k * 24 + t) (m.get (k * 24 + t) - 1)) y.rstStage }

/-- What a tree's flip-flops hold is copied into their capture latches (R308): those of cells, the carry-pending ones and
the output registers of block memories. -/
def captureTree (s : State) (r t : Nat) (at_ : DWord) : State :=
  let x := s.fab r
  if x.capPend.testBit t = false then s
  else
    let latch := (clustersOn s r t).foldl (fun l c =>
      let m := onTree s r c t
      l.set c ((l.get c &&& ~~~ m) ||| (x.ff.get c &&& m))) x.capLatch
    let carries := (clustersOn s r t).foldl (fun p c =>
      if clusterClock s r c 0 = some t then (if x.pend.testBit c then p ||| 2 ^ c else clearBit p c) else p) x.capCarry
    let bms := (List.range 32).foldl (fun l p => if portClock s r (p / 2) (p % 2) = some t then l.set p (x.bmOut.get p) else l)
      x.capBm
    s.setFab r { x with
      capLatch := latch, capCarry := carries, capBm := bms, capPend := clearBit x.capPend t,
      capFirst := match x.capFirst with | some f => some f | none => some at_ }

/-- An edge of a tree in a region; on a closed branch there is none (R289). -/
def treeEdge (s : State) (r t : Nat) (at_ : DWord) : State :=
  if branchOpen s r t then
    let s1 := captureTree s r t at_
    s1.setFab r (edgeResets t ((clustersOn s r t).foldl (edgeCluster s r t) (s1.fab r)))
  else s

/-- One thing that happens in a region's fabric. Flip-flops shown by the sender are those that no reset holds; with the
branches closed every flip-flop keeps its value (R289). -/
def fabStep (at_ : DWord) (r : Nat) (s : State) (e : FabStep) : State :=
  let x := s.fab r
  match e with
  | .inputs c v ce => s.setFab r { x with ins := x.ins.set c.val v, ce := x.ce.set c.val ce.toNat }
  | .edge t => treeEdge s r t.val at_
  | .shown c v =>
    let w := wordOf fun j => if ffHeld s r c.val j then (ffInit s r c.val).getLsbD j else v.getLsbD j
    if s.clk r = 0 then s.setFab r { x with ff := x.ff.set c.val w } else s

/-- What happens in a region's fabric, in order. -/
def runFab (s : State) (r : Nat) (es : List FabStep) (at_ : DWord) : State := es.foldl (fabStep at_ r) s

/-- A capture that is armed sees its trigger (R308): the trees that GMASK and RMASK select wait for their next edges. -/
def captureArm (s : State) (r : Nat) : State :=
  let f := fabB r
  let x := s.fab r
  if s.gf F.FAB_CAP_STAT_STATE f = 1 ∧ x.capTrig = false then
    let trees := s.gf F.FAB_CAP_CTRL_GMASK f + s.gf F.FAB_CAP_CTRL_RMASK f * 2 ^ 16
    s.setFab r { x with capTrig := true, capFirst := none, capPend := trees }
  else s

/-- A trigger of R116 reaches the capture snapshot. -/
def captureTrigger (s : State) (r code : Nat) : State :=
  if s.gf F.FAB_CAP_CTRL_TRIG (fabB r) = code then captureArm s r else s

end Sys2Proof.Machine
end

