-- ==== Sys2Proof/Machine/Frames.lean ====
section
/-!
DEFINITION. Configuration frames: their addresses, checks and digests, and the records that carry them (09_configuration.md
R316 to R318, R321, R325, R335, R336).
-/

namespace Sys2Proof.Machine

/-! ### CRC-32C (R316, R321, R322) -/

/-- One bit of the reflected CRC-32C. -/
def crcBit (c : Word) : Word := if c.getLsbD 0 then (c >>> 1) ^^^ 0x82F6_3B78 else c >>> 1

/-- 32 data bits into the running CRC. -/
def crcWord (c w : Word) : Word := (List.range 32).foldl (fun c _ => crcBit c) (c ^^^ w)

/-- Data word i of a frame. -/
def dataWord (d : BitVec 1024) (i : Nat) : Word := (d >>> (32 * i)).setWidth 32

/-- A frame's data words into a running CRC. -/
def crcData (c : Word) (d : BitVec 1024) : Word := (List.range 32).foldl (fun c i => crcWord c (dataWord d i)) c

/-- The CRC-32C of a frame record's first 33 words (R321). -/
def frameCrc (addr : Word) (d : BitVec 1024) : Word := ~~~ crcData (crcWord 0xFFFF_FFFF addr) d

/-! ### Frame addresses (R317, R318) -/

def fDie (a : Nat) : Nat := a / 2 ^ 30 % 4
def fRgn (a : Nat) : Nat := 8 * fDie a + a / 2 ^ 27 % 8
def fKind (a : Nat) : Nat := a / 2 ^ 23 % 16
def fUnit (a : Nat) : Nat := a / 2 ^ 16 % 128
def fIndex (a : Nat) : Nat := a % 2 ^ 16

/-- Frames of an INIT unit (R318). -/
def initFrames (u : Nat) : Nat :=
  if u < 12 then 2 else if 16 ≤ u ∧ u < 20 then 2 else if 32 ≤ u ∧ u < 48 then 1
  else if u = 48 ∨ u = 56 ∨ u = 63 then 1 else if u = 60 then 2 else 0

/-- Frames of a MEMINIT unit (R318). -/
def memFrames (u : Nat) : Nat := if u < 16 then 36 else if u = 32 then 512 else if u = 33 ∨ u = 34 then 384 else 0

/-- A frame address that R317 and R318 list. -/
def frameListed (a : Nat) : Bool :=
  match fDie a with
  | 3 => false
  | 2 => fKind a = 8 && a / 2 ^ 27 % 8 = 0 && fUnit a = 0 && decide (fIndex a < 512)
  | _ =>
    match fKind a with
    | 0 => decide (fUnit a < 96) && decide (fIndex a < 24)
    | 1 => fUnit a = 0 && decide (fIndex a < 27)
    | 2 => decide (fIndex a < initFrames (fUnit a))
    | 3 => decide (fIndex a < memFrames (fUnit a))
    | 4 => decide (fUnit a < 96) && decide (fIndex a < 26)
    | _ => false

/-- Number of bits set. -/
def bitCount (w n : Nat) : Nat := ((List.range w).filter fun i => n.testBit i).length

/-! ### Frames in configuration memory (R316) -/

/-- A frame as it is written: its data with their SEC-DED code and CRC-32C. -/
def FrameC.put (a : Nat) (d : BitVec 1024) (vol : Bool) (dig : Option (Nat × Nat)) : FrameC :=
  { data := d, code := secded d, crc := frameCrc (BitVec.ofNat 32 a) d, vol := vol, dig := dig }

/-- The frame's code and CRC both match its data. -/
def FrameC.sound (a : Nat) (f : FrameC) : Bool := f.code == secded f.data && f.crc == frameCrc (BitVec.ofNat 32 a) f.data

/-- Bits of the data, the code and the CRC have flipped. -/
def FrameC.flip (f : FrameC) (d : BitVec 1024) (c : BitVec 12) (k : Word) : FrameC :=
  { f with data := f.data ^^^ d, code := f.code ^^^ c, crc := f.crc ^^^ k }

/-- The frame with a single wrong bit put right, where the corrected frame then matches its CRC (R338). -/
def FrameC.fixed (a : Nat) (f : FrameC) : Option FrameC :=
  if f.code = secded f.data then none
  else match secdedFix f.data f.code with
    | some p => if f.crc = frameCrc (BitVec.ofNat 32 a) p.1 then some { f with data := p.1, code := p.2 } else none
    | none => none

/-- Bits of some frames flipped. -/
def flipFrames (t : Tab (Option FrameC) (fun _ => none)) (l : List (Word × BitVec 1024 × BitVec 12)) :
    Tab (Option FrameC) (fun _ => none) :=
  l.foldl (fun t u => match t.get u.1.toNat with
    | some f => t.set u.1.toNat (some (f.flip u.2.1 u.2.2 0))
    | none => t) t

/-! ### Records as an image holds them (R319, R321) -/

/-- The 136 bytes of a record, the first in bits 7..0. -/
def recBytes (x : BitVec 1088) : List Byte := bytesLE 136 x.toNat

/-- Address, data and CRC of a record's plaintext. -/
def recAddr (x : BitVec 1088) : Nat := (x.setWidth 32 : Word).toNat
def recData (x : BitVec 1088) : BitVec 1024 := (x >>> 32).setWidth 1024
def recCrc (x : BitVec 1088) : Word := (x >>> 1056).setWidth 32

/-- The CRC-32C of the record's 33 words is its last word. -/
def recSound (x : BitVec 1088) : Bool := recCrc x == frameCrc (x.setWidth 32) (recData x)

/-- The 34 words of a record. -/
def recWords (x : BitVec 1088) : List Word := (List.range 34).map fun i => (x >>> (32 * i)).setWidth 32

/-- The image key (R325): the wrapped key of OTP, unwrapped by the key that the PUF reconstructs. -/
def imageKey (s : State) : BitVec 256 :=
  Config.unwrapKey (BitVec.ofNat 256 ((List.range 8).map fun i => (s.otp.get (0x200_0018 + i)).toNat * 2 ^ (32 * i)).sum)

/-- A record's plaintext: record k of an encrypted image stands at byte 136 k of the ciphertext (R321, R336). -/
def recPlain (s : State) (enc : Bool) (iv : List Byte) (k : Nat) (x : BitVec 1088) : BitVec 1088 :=
  if enc then
    x ^^^ BitVec.ofNat 1088 (ofBytesBE (gcmStream (imageKey s) iv (136 * k) 136).reverse)
  else x

/-! ### The digest table (R335, R336) -/

def digestOf (xs : List (BitVec 1088)) : BitVec 384 := sha384 ((xs.map recBytes).flatten)

/-- Records read anew, from flash or host memory: as many as the digest covers and of its value; then their plaintext. -/
def blockPlain (s : State) (e : DigS) (xs : List (BitVec 1088)) : Option (List (BitVec 1088)) :=
  if xs.length = e.count ∧ digestOf xs = e.hash then
    some ((xs.zip (List.range xs.length)).map fun p => recPlain s e.enc e.iv (e.first + p.2) p.1)
  else none

/-- The byte offset of a digest's records in their image. -/
def DigS.offset (e : DigS) : Nat := 256 + 136 * e.first

/-- What reads a digest's records (R336): flash at the image's place, or, of volatile origin, host memory. -/
def DigS.read (s : State) (e : DigS) : Emit :=
  if e.vol then
    .dmaRead (BitVec.ofNat 64 ((s.rd64 R.CFG_RELOC_ADDR 0).toNat / 8 * 8 + e.offset)) (136 * e.count)
  else .flash 0 (e.base + BitVec.ofNat 32 e.offset) []

/-- The digest of the RELOC image of a logical cluster; none: the image holds none, or it was not recorded. -/
def relocDigest (s : State) (r c : Nat) : Option DigS := (s.cfg.relocs.get (r * 128 + c)).bind s.cfg.digs.get

/-- Digests that configured frames and RELOC images use; the others are released (R335). -/
def usedDigests (s : State) : List Nat :=
  ((s.cfg.frames.cells.filterMap fun c => c.2.bind fun f => f.dig.map (·.1)) ++ s.cfg.relocs.cells.filterMap (·.2)).dedup

def releaseDigests (s : State) : State :=
  let used := usedDigests s
  { s with cfg := { s.cfg with digs := s.cfg.digs.keep fun n => used.contains n } }

/-! ### Frames of spare clusters (R311, R318, R337) -/

/-- Frame i of the spare cluster sp of a region: the model's address for it is UNIT 96 + sp, beyond the logical clusters
(DESIGN CHOICE, log entry 217). -/
def spareFrame (r sp i : Nat) : Nat := r / 8 * 2 ^ 30 + r % 8 * 2 ^ 27 + (96 + sp) * 2 ^ 16 + i
def routeFrame (r i : Nat) : Nat := r / 8 * 2 ^ 30 + r % 8 * 2 ^ 27 + 2 ^ 23 + i
def relocFrame (r c i : Nat) : Nat := r / 8 * 2 ^ 30 + r % 8 * 2 ^ 27 + 4 * 2 ^ 23 + c * 2 ^ 16 + i

/-- The 26 records of a RELOC image in their places: 24 FABRIC frames of the spare and 2 that patch ROUTE frames (R318). -/
def loadSpare (s : State) (r c sp : Nat) (vol : Bool) (dig : Option Nat) (xs : List (BitVec 1088)) : State :=
  let place := fun (i : Nat) => if i < 24 then spareFrame r sp i else routeFrame r (Config.patchIndex r c (i - 24))
  let put := fun (t : Tab (Option FrameC) (fun _ => none)) (p : BitVec 1088 × Nat) =>
    t.set (place p.2) (some (FrameC.put (place p.2) (recData p.1) vol (dig.map fun n => (n, p.2))))
  { s with cfg := { s.cfg with frames := (xs.zip (List.range xs.length)).foldl put s.cfg.frames } }

/-- A spare cluster is unconfigured again. -/
def dropSpare (s : State) (r sp : Nat) : State :=
  { s with cfg := { s.cfg with frames := s.cfg.frames.keep fun a =>
      !(decide (spareFrame r sp 0 ≤ a) && decide (a < spareFrame r sp 24)) } }

end Sys2Proof.Machine
end

