-- ==== Sys2Proof/Machine/Levels.lean ====
section
/-!
DEFINITION. The levels of the analogue signals: what a cell makes of its inputs, what a source code, a bus, a line or a
converter channel presents, and the levels of the references and of the calibration source (02_analogue_fabric.md R72 to
R76, R81, R86, R88, R555 to R557; 03_conversion.md R103, R109 to R111). Levels are exact rationals in volts; the figures of
accuracy, noise and settling stand outside (log entry 193).
-/

namespace Sys2Proof.Machine

/-- The key of analogue cluster k of region r. -/
def cluKey (r k : Nat) : Nat := r * 12 + k
def State.clu (s : State) (r k : Nat) : CluS := s.ana.get (cluKey r k)
def State.setClu (s : State) (r k : Nat) (x : CluS) : State := { s with ana := s.ana.set (cluKey r k) x }

/-- A quantity present at the instant, or else `d`. -/
def levelOr (e : Levels) (x : Sense) (d : Volt) : Volt := ((e.find? fun c => c.1 = x).map (·.2)).getD d

/-- A quantity present at the instant; one not listed is 0. -/
def level (e : Levels) (x : Sense) : Volt := levelOr e x 0

/-! ### What the codes of a cell stand for (R72 to R74) -/

/-- G of a GAIN code: 2^(E−3) × (4 + M) / 4 (R74). -/
def gainOf (code : Nat) : Rat := (2 ^ (code / 4) * (4 + code % 4) : Nat) / 32

/-- f0 of an F0 code, 1 kHz × 2^(code/64), in mHz, rounded down (R74). -/
def f0Milli (code : Nat) : Nat := rootBits 64 ((10 ^ 6) ^ 64 * 2 ^ code) 37 0

/-- Q of a Q code, 0.5 × 2^(code/4), rounded down to 10^-6 (R74). -/
def qOf (code : Nat) : Rat := (rootBits 4 ((5 * 10 ^ 5) ^ 4 * 2 ^ code) 23 0 : Nat) / 1000000

/-- RT of an RT code, 1 kΩ × 2^code, in Ω (R74). -/
def rtOf (code : Nat) : Rat := (1000 * 2 ^ code : Nat)

/-- VOCM of its code, in V (AC_CELLn_CFG). -/
def vocmOf (code : Nat) : Volt := match code with | 0 => 2 / 5 | 1 => 4 / 5 | 2 => 9 / 10 | _ => 6 / 5

/-- fsc of a cluster, in Hz (R73). -/
def fscOf (div : Nat) : Rat := 100000000 / (div + 1 : Nat)

/-- A response of second order, (n2·s² + n1·s + n0) / (d2·s² + d1·s + d0), its variable s in units of ω0. -/
structure Biquad where
  n2 : Rat
  n1 : Rat
  n0 : Rat
  d2 : Rat
  d1 : Rat
  d0 : Rat
  deriving DecidableEq, Repr

/-- H(s) of a TYPE (R72). -/
def biquadOf (type : Nat) (g q : Rat) : Biquad :=
  match type with
  | 0 => ⟨0, 0, g, 1, 1 / q, 1⟩
  | 1 => ⟨0, g / q, 0, 1, 1 / q, 1⟩
  | 2 => ⟨g, 0, 0, 1, 1 / q, 1⟩
  | _ => ⟨g, 0, g, 1, 1 / q, 1⟩

/-- H(z) from H(s) by the bilinear transform pre-warped at f0 (R73): s/ω0 = (z − 1) / (t·(z + 1)) with t = tan(π·f0/fsc); the
coefficients are those of z², z and 1. -/
def Biquad.bilinear (h : Biquad) (t : Rat) : Biquad :=
  ⟨h.n2 + h.n1 * t + h.n0 * t ^ 2, 2 * (h.n0 * t ^ 2 - h.n2), h.n2 - h.n1 * t + h.n0 * t ^ 2,
   h.d2 + h.d1 * t + h.d0 * t ^ 2, 2 * (h.d0 * t ^ 2 - h.d2), h.d2 - h.d1 * t + h.d0 * t ^ 2⟩

/-- tan x by its series up to x^9: for the x ≤ π/10 of R75 well within the 0.1 dB of R73. -/
def tanSeries (x : Rat) : Rat :=
  x + x ^ 3 / 3 + 2 * x ^ 5 / 15 + 17 * x ^ 7 / 315 + 62 * x ^ 9 / 2835

/-- The response of a biquad cell to a constant difference: H at s = 0 (R72), which is also H(z) at z = 1 (R73). -/
def Biquad.atDc (h : Biquad) : Rat := h.n0 / h.d0

/-- H(s) of a cell as its registers set it. -/
def cellBiquad (s : State) (b n : Nat) : Biquad :=
  biquadOf (s.gf F.AC_CELLn_FILT_TYPE b n) (gainOf (s.gf F.AC_CELLn_CFG_GAIN b n)) (qOf (s.gf F.AC_CELLn_FILT_Q b n))

/-- H(z) of a switched-capacitor cell as its registers set it (R73). -/
def cellBiquadZ (s : State) (b n : Nat) : Biquad :=
  (cellBiquad s b n).bilinear (tanSeries
    (31415926536 / 10000000000 * ((f0Milli (s.gf F.AC_CELLn_FILT_F0 b n) : Nat) / 1000) / fscOf (s.gf F.AC_CTRL_SC_DIV b)))

/-! ### Cells that drive (R76, R78, R80, R101) -/

/-- A cell is on: its MODE is not Off, and its region does not still wait for the trim of its reference after a reset
(R101). -/
def cellOn (s : State) (r k n : Nat) : Bool :=
  s.gf F.AC_CELLn_CFG_MODE (acB r k) n != 0 && !(s.gb F.RGN_STAT_RESET (rgB r) && (s.rgnS r).trimming)

/-- A cell drives its destinations: it is on and its output switches are closed (R78, R80). -/
def cellDrives (s : State) (r k n : Nat) : Bool := cellOn s r k n && (s.clu r k).closedOut.get n != 0

/-- The output range of a cell, in V (R76). -/
def cellMin : Volt := 1 / 20
def cellMax : Volt := 7 / 4

/-- The ideal output lies outside the range of R76. -/
def clips (v : Volt) : Bool := decide (v < cellMin ∨ cellMax < v)

/-- The output as it stands: clipped at the nearer limit (R76). -/
def clipped (v : Volt) : Volt := clampRat cellMin cellMax v

/-! ### Nodes and their drivers (R81, R82) -/

/-- A node of the analogue routing that a cell output may drive (R82). -/
inductive Node where
  /-- Region bus j of a region. -/
  | bus (r j : Nat)
  /-- Neighbour line j between region r and region r + 1: up line j of r, down line j of r + 1. -/
  | line (r j : Nat)
  /-- AIO ball j of a region. -/
  | ball (r j : Nat)
  deriving DecidableEq, Repr

/-- A region has down lines, but for regions 00 and 08 (R81). -/
def hasDown (r : Nat) : Bool := r % 8 != 0
/-- A region has up lines, but for regions 07 and 15 (R81). -/
def hasUp (r : Nat) : Bool := r % 8 != 7

/-- The nodes that a ROUTE word makes a cell of region r drive (R82). -/
def drives (r : Nat) (w : Word) : List Node :=
  (if fOf w F.AC_CELLn_ROUTE_BUS_EN = 1 then [.bus r (fOf w F.AC_CELLn_ROUTE_BUS_SEL)] else [])
    ++ (if fOf w F.AC_CELLn_ROUTE_NBR_EN = 1 then
          (let j := fOf w F.AC_CELLn_ROUTE_NBR_SEL
           if j < 4 then [.line (r - 1) j] else [.line r (j - 4)]) else [])
    ++ (if fOf w F.AC_CELLn_ROUTE_BALL_EN = 1 then [.ball r (fOf w F.AC_CELLn_ROUTE_BALL)] else [])

/-- The regions whose cells may drive a node: a bus's and a ball's own, a neighbour line's two (R82). -/
def Node.regions : Node → List Nat
  | .bus r _ => [r]
  | .ball r _ => [r]
  | .line p _ => [p, p + 1]

/-- The cells of a region, as cluster and index. -/
def cells : List (Nat × Nat) := ((List.range 12).map fun k => (List.range 8).map fun n => (k, n)).flatten

/-- The cell that drives a node, as region, cluster and index (R82: at most one). -/
def driverOf (s : State) (x : Node) : Option (Nat × Nat × Nat) :=
  ((x.regions.map fun q => cells.map fun c => (q, c)).flatten).find? fun c =>
    (drives c.1 (s.rd R.AC_CELLn_ROUTE (acB c.1 c.2.1) c.2.2)).contains x

/-- The open level: 0.8 V, and what is left of the last level there (R557). -/
def openLevel (left : Volt) : Volt := 4 / 5 + left

/-! ### The calibration source (R556) -/

/-- Thresholds of a comparator as its register holds them, upper and lower, in V (R169). -/
def thrHi (s : State) (r k m : Nat) : Volt := (s.gf F.WC_CMPm_THR_HI (acB r k) m : Nat) / 2560
def thrLo (s : State) (r k m : Nat) : Volt := (s.gf F.WC_CMPm_THR_LO (acB r k) m : Nat) / 2560

/-- H of a HYST code, in nV (R170). -/
def hystNv (c : Nat) : Nat :=
  match c with
  | 0 => 0 | 1 => 1500000 | 2 => 3000000 | 3 => 5000000 | 4 => 8000000 | 5 => 12000000 | 6 => 18000000 | _ => 25000000

/-- H of a comparator, in V. -/
def hystOf (s : State) (r k m : Nat) : Volt := (hystNv (s.gf F.WC_CMPm_CFG_HYST (acB r k) m) : Nat) / 1000000000

/-- The four levels that test a comparator (R188 step 4). -/
def testLevels (s : State) (r k m : Nat) : List Volt :=
  let d : Volt := 5 / 1000
  let hi := thrHi s r k m
  let lo := thrLo s r k m
  let h := hystOf s r k m
  [hi + d, hi - h - d, lo - d, lo + h + d]

/-- The two levels that calibrate a spare cell: VOCM ± 25 % of the output range divided by G (R95 step 2). -/
def matchLevels (s : State) (r k n : Nat) : List Volt :=
  let v := vocmOf (s.gf F.AC_CELLn_CFG_VOCM (acB r k) n)
  let d := (cellMax - cellMin) / 4 / gainOf (s.gf F.AC_CELLn_CFG_GAIN (acB r k) n)
  [v + d, v - d]

/-- The levels of a cluster's calibration source: those that a running migration, self-check or substitution applies, else
the 0.8 V of the tap (R556). -/
def calLevels (s : State) (r k : Nat) : List Volt :=
  if s.gf F.AC_MIG_STAT_STATE (acB r k) != 0 then matchLevels s r k (s.clu r k).migCell
  else if s.gf F.WC_CHK_STAT_STATE (acB r k) != 0 then testLevels s r k (s.comp.get (cluKey r k)).cmp
  else [4 / 5]

/-- The level that the source drives at the instant. -/
def calSource (s : State) (e : Levels) (r k : Nat) : Volt :=
  (calLevels s r k).getD (level e (.calLevel (Fin.ofNat 16 r) (Fin.ofNat 12 k))).num.toNat (4 / 5)

/-! ### References (R86) -/

/-- The region references run: VDDA is present and the mode is not Dormant (R86). -/
def refRuns (s : State) : Bool := match s.sett.phase with | .off => false | .dormant => false | _ => true

/-- The four reference taps, codes 0x38 to 0x3B, in V (R81, R86). -/
def tapOf (code : Nat) : Volt := match code with | 0x38 => 2 / 5 | 0x39 => 4 / 5 | 0x3A => 9 / 10 | _ => 6 / 5

/-- The converter full-scale reference, in V (R86). -/
def fullScale : Volt := 8 / 5

/-! ### Sources (R81) -/

/-- The level of a node: its driver's output, or the open level (R82, R557), or the board's level at a ball (R555); `cell` says
what each cell presents at its destinations. -/
def nodeLevel (s : State) (e : Levels) (cell : Nat → Nat → Nat → Volt) (x : Node) : Volt :=
  match driverOf s x, x with
  | some c, .ball r j =>
    if cellDrives s c.1 c.2.1 c.2.2 then cell c.1 c.2.1 c.2.2 else level e (.aio (Fin.ofNat 16 r) (Fin.ofNat 32 j))
  | some c, _ => cell c.1 c.2.1 c.2.2
  | none, .bus r j => openLevel (level e (.busDecay (Fin.ofNat 16 r) (Fin.ofNat 8 j)))
  | none, .line r j => openLevel (level e (.lineDecay (Fin.ofNat 16 r) (Fin.ofNat 4 j)))
  | none, .ball r j => level e (.aio (Fin.ofNat 16 r) (Fin.ofNat 32 j))

/-- A fenced region is being reconfigured: its outgoing crossings hold their declared values (R347, R348). -/
def fenceHolds (s : State) (r : Nat) : Bool :=
  (s.gf F.CFG_IMAGE_FENCE_MASK 0).testBit r && s.cfg.isolated.get (r * 128) != 0

/-- The neighbour lines between region p and p + 1 are disconnected from both sides (R348). -/
def lineCut (s : State) (p : Nat) : Bool := fenceHolds s p || fenceHolds s (p + 1)

/-- The level that a source code of cluster k selects (R81); of a neighbour line that is cut, 0.8 V (R348). -/
def sourceLevel (s : State) (e : Levels) (cell : Nat → Nat → Nat → Volt) (r k code : Nat) : Volt :=
  if code < 0x20 then nodeLevel s e cell (.ball r code)
  else if code < 0x28 then cell r k (code - 0x20)
  else if code < 0x30 then nodeLevel s e cell (.bus r (code - 0x28))
  else if code < 0x34 then (if lineCut s (r - 1) then openLevel 0 else nodeLevel s e cell (.line (r - 1) (code - 0x30)))
  else if code < 0x38 then (if lineCut s r then openLevel 0 else nodeLevel s e cell (.line r (code - 0x34)))
  else if code < 0x3C then tapOf code
  else if code = 0x3C then 0
  else if code = 0x3D then calSource s e r k
  else openLevel 0

/-- The ideal output of a cell (R72), its inputs read through `src`. -/
def cellIdeal (s : State) (e : Levels) (src : Nat → Volt) (r k n : Nat) : Volt :=
  let b := acB r k
  let q := Fin.ofNat 16 r
  let c := Fin.ofNat 12 k
  let i := Fin.ofNat 8 n
  let vp := src (s.gf F.AC_CELLn_ROUTE_INP b n)
  let vn := src (s.gf F.AC_CELLn_ROUTE_INN b n)
  let vocm := vocmOf (s.gf F.AC_CELLn_CFG_VOCM b n)
  let sign : Rat := if s.gf F.AC_CELLn_CFG_POL b n = 1 then -1 else 1
  match s.gf F.AC_CELLn_CFG_FUNC b n with
  | 0 => vp
  | 1 => vocm + sign * gainOf (s.gf F.AC_CELLn_CFG_GAIN b n) * (vp - vn)
  | 2 => vocm + sign * gainOf (s.gf F.AC_CELLn_CFG_GAIN b n) * (vp - vn)
  | 3 => vocm - rtOf (s.gf F.AC_CELLn_AUX_RT b n) * level e (.current q c i)
  | 4 => vocm + sign * levelOr e (.filtered q c i) ((cellBiquad s b n).atDc * (vp - vn))
  | 5 => vocm + sign * levelOr e (.filtered q c i) ((cellBiquadZ s b n).atDc * (vp - vn))
  | _ =>
    match (s.clu r k).hold.get n with
    | none => vp
    | some _ => match (s.clu r k).held.get n with
      | some v => v
      | none => level e (.held q c i)

/-- What a cell presents at its destinations: its output within the range of R76, or the open level while its switches are
open (R557). `fuel` bounds the cells that follow one another; beyond it a cell stands in a loop. -/
def cellLevel (s : State) (e : Levels) : Nat → Nat → Nat → Nat → Volt
  | 0, r, k, n => level e (.looped (Fin.ofNat 16 r) (Fin.ofNat 12 k) (Fin.ofNat 8 n))
  | fuel + 1, r, k, n =>
    if cellDrives s r k n then clipped (cellIdeal s e (sourceLevel s e (cellLevel s e fuel) r k) r k n)
    else openLevel (level e (.cellDecay (Fin.ofNat 16 r) (Fin.ofNat 12 k) (Fin.ofNat 8 n)))

/-- Cells that may follow one another on the way to an input: more than the regions, clusters and cells of a path of the
manual's kind; a longer chain is taken for a loop (log entry 193). -/
def chain : Nat := 64

/-- The output of a cell at its destinations. -/
def cellOut (s : State) (e : Levels) (r k n : Nat) : Volt := cellLevel s e chain r k n

/-- The level at an input of cluster k that selects a source code. -/
def inputLevel (s : State) (e : Levels) (r k code : Nat) : Volt := sourceLevel s e (cellOut s e) r k code

/-- The ideal output of a cell, before the range of R76. -/
def cellWants (s : State) (e : Levels) (r k n : Nat) : Volt := cellIdeal s e (inputLevel s e r k) r k n

/-! ### Converter channels (R103, R109 to R111) -/

/-- Volts per LSB: 1.6 V / 16,384 (R103). -/
def lsb : Volt := fullScale / 16384

/-- The level that a SRC code of channels 1 to 24 selects (R110). -/
def srcLevel (s : State) (e : Levels) (r g code : Nat) : Volt :=
  if code < 0x20 then nodeLevel s e (cellOut s e) (.ball r code)
  else if code < 0x80 then cellOut s e r ((code - 0x20) / 8) ((code - 0x20) % 8)
  else if code < 0x88 then nodeLevel s e (cellOut s e) (.bus r (code - 0x80))
  else level e (.fin (Fin.ofNat 16 r) (Fin.ofNat 4 g) (code = 0x89))

/-- The core voltage of a VOLT code, in V (R41). -/
def coreVolt (code : Nat) : Volt := 65 / 100 + (code : Nat) / 100

/-- What a channel gives the slices: its input less the mid-scale of 0.8 V, or the difference of the FIN pair, in V (R103,
R109, R111). SRC is ignored in channels 0 and 25 to 31 (R110). -/
def chanVolts (s : State) (e : Levels) (r g c : Nat) : Volt :=
  let q := Fin.ofNat 16 r
  let h := Fin.ofNat 4 g
  if c = 0 then level e (.fin q h false) - level e (.fin q h true)
  else if c < 25 then srcLevel s e r g (s.gf F.CG_CHc_CFG_SRC (cgB r g) c) - 4 / 5
  else match c with
    | 25 => 3 / 5 + 2 / 1000 * (levelOr e (.temp q) ((signedOf 16 (s.gf F.RGN_TEMP_TEMP (rgB r)) : Int) / 4) - 25) - 4 / 5
    | 26 => level e .vdda / 2 - 4 / 5
    | 27 => levelOr e (.core q) (coreVolt (s.gf F.RGN_VF_VOLT (rgB r))) - 4 / 5
    | 28 => level e (.coreBall q) - 4 / 5
    | 29 => level e (.refError q)
    | 30 => (signedOf 14 (s.gf F.CG_CALDAC_CODE (cgB r g)) : Int) * lsb
    | _ => 0

/-- The code of a level (R103, R131): the nearest integer, ties toward +∞, clamped. -/
def codeAt (v : Volt) : Int := clampInt (-8192) 8191 (roundRat (v / lsb))

/-- An input beyond full scale by more than 3 % of full scale, 48 mV (R132). -/
def beyond3 (v : Volt) : Bool := decide (fullScale / 2 + 48 / 1000 < v ∨ v < -(fullScale / 2 + 48 / 1000))

end Sys2Proof.Machine
end

