-- ==== Sys2Proof/Machine/Conversion.lean ====
section
/-!
DEFINITION. Converter groups: modes, scanning, urgent requests, correction, the data register and its readers, stream
taps, overrange and settling, self-calibration (03_conversion.md, R102 to R143).
-/

namespace Sys2Proof.Machine

/-- A group takes samples: low-power, full rate or paired (even), and no Torpor covers it (R104, R504). -/
def converting (s : State) (r g : Nat) : Bool :=
  (let st := cgState s r g; st = 2 || st = 3 || st = 4) && !s.inTorpor r

/-- A write refused in a converter group (R107). -/
def cgReject (s : State) (b : Nat) : State := s.reject F.CG_EVT_REJECT F.CG_STAT_REJ_CNT b

/-- The grid of a state in counts of 62.5 ps: 80 ns, 1.25 ns, 0.625 ns (R102, R106, R135). -/
def gridCounts (st : Nat) : Nat := if st = 2 then 1280 else if st = 4 then 10 else 20

/-! ### Scanning (R113 to R115) -/

/-- The lowest channel of a mask. -/
def lowChan (m : Nat) : Option Nat := (List.range 32).find? (fun c => m.testBit c)

/-- A pass over a mask from its first channel; the batch takes its channel's CG_CHc_CFG at its start (R115). -/
def passOf (s : State) (b m : Nat) : Option PassS :=
  (lowChan m).map fun c => ⟨c, s.rd R.CG_CHc_CFG b c, clearBit m c, false, false, false⟩

/-- A pass starts with the mask then in CG_MASK (R115); an empty mask starts none. -/
def startPass (s : State) (r g : Nat) : State :=
  let b := cgB r g
  s.setGrp r g { s.grp r g with pass := passOf s b (s.gf F.CG_MASK_MASK b) }

/-- Continuous scanning starts its first pass as soon as the group converts (R114). -/
def kickScan (s : State) (r g : Nat) : State :=
  if converting s r g && (s.grp r g).pass.isNone && decide (s.gf F.CG_SCAN_SMODE (cgB r g) = 1) then startPass s r g else s

/-- A trigger or GO (R114): it starts a pass, is remembered during one, or is ignored with TRIG_MISS. -/
def scanRequest (s : State) (r g : Nat) : State :=
  let x := s.grp r g
  if !converting s r g then s.sb F.CG_EVT_TRIG_MISS (cgB r g) 0 true
  else if x.pass.isNone then startPass s r g
  else if x.remembered then s.sb F.CG_EVT_TRIG_MISS (cgB r g) 0 true
  else s.setGrp r g { x with remembered := true }

/-- A write of 1 to GO (R114): only in SMODE 0b11, and only while the group can convert; GO then reads 1 until the last
pass that it started or left remembered has ended. -/
def goRequest (s : State) (r g : Nat) : State :=
  let b := cgB r g
  if s.gf F.CG_SCAN_SMODE b != 3 || !converting s r g then s.sb F.CG_EVT_TRIG_MISS b 0 true
  else
    let s1 := scanRequest s r g
    s1.sb F.CG_SCAN_GO b 0 (s1.grp r g).pass.isSome

/-- A write to CG_SCAN, whole (R13, R106, R114). -/
def cgScanWrite (s : State) (a : Reader) (r g : Nat) (v : Word) : State :=
  s.asOwner a r fun s =>
    let b := cgB r g
    if cgState s r g = 5 then cgReject s b
    else
      let go := s.gb F.CG_SCAN_GO b
      let s1 := (s.wr R.CG_SCAN b 0 (s.merged R.CG_SCAN b 0 v)).sb F.CG_SCAN_GO b 0 go
      let s2 := if fOf v F.CG_SCAN_GO = 1 then goRequest s1 r g else s1
      kickScan s2 r g

/-- SCAN_GO: a write of 1 to CG_SCAN.GO that leaves SMODE and TRIG_SRC as they are (R114). -/
def execScanGo (a : Reader) (r : Rgn) (g : Fin 4) (s : State) : Host.Outcome State Fault Refusal :=
  s.after (cgScanWrite s a r.val g.val ((s.rd R.CG_SCAN (cgB r.val g.val)).setBits 8 8 1))

/-- A pass trigger at a group in SMODE 0b10 (R114). -/
def scanTrig (s : State) (r g : Nat) : State :=
  if s.gf F.CG_SCAN_SMODE (cgB r g) = 2 then scanRequest s r g else s

/-- SCAN_TRIGGER (R114). -/
def execScanTrigger (r : Rgn) (g : Fin 4) (s : State) : Host.Outcome State Fault Refusal :=
  s.after (scanTrig s r.val g.val)

/-- After the batch of a pass: the next channel's batch, or the pass is done; SMODE 0b00 ends it after the current batch
(R114). -/
def nextBatch (s : State) (r g : Nat) (p : PassS) : State :=
  let b := cgB r g
  let n := if s.gf F.CG_SCAN_SMODE b = 0 then none else passOf s b p.rest
  s.setGrp r g { s.grp r g with pass := some (n.getD { p with done := true }) }

/-- SCAN_PASS_END: a remembered or continuous pass starts; GO reads 0 unless a remembered one does (R114). -/
def execScanPassEnd (r : Rgn) (g : Fin 4) (s : State) : Host.Outcome State Fault Refusal :=
  let b := cgB r.val g.val
  let x := s.grp r.val g.val
  s.after <|
    match x.pass with
    | some p =>
      if p.done then
        let s1 := s.setGrp r.val g.val { x with pass := none, remembered := false }
        let s2 :=
          if s.gf F.CG_SCAN_SMODE b = 0 then s1
          else if x.remembered || decide (s.gf F.CG_SCAN_SMODE b = 1) then startPass s1 r.val g.val
          else s1
        if (s2.grp r.val g.val).pass.isNone || !x.remembered then s2.sb F.CG_SCAN_GO b 0 false else s2
      else s
    | none => s

/-! ### Correction (R122) and marking (R131 to R134) -/

/-- The nearest integer to n / d, ties toward +∞ (R103). -/
def roundDiv (n : Int) (d : Nat) : Int := (2 * n + d) / (2 * d)

/-- A sample in 1/8 LSB after the clamp of R131, and whether it clamped. -/
def clampSample (x : Int) : Int × Bool :=
  let c := roundDiv x 8
  if c > 8191 then (8191 * 8, true) else if c < -8192 then (-8192 * 8, true) else (x, false)

/-- The mean of a batch in 1/8 LSB, 3 fraction bits kept (R122 step 2), rounded as R103 rounds (log entry 10). -/
def batchMean (xs : List Int) : Int := roundDiv (xs.foldl (fun n x => n + (clampSample x).1) 0) xs.length

/-- Channel correction, rounding and clamp (R122 steps 3 and 4): y = (x − OFS/8) × GAIN / 65,536 with x in 1/8 LSB; the
code and whether it clamped. -/
def correct (x : Int) (cor : Word) : Int × Bool :=
  let y := roundDiv ((x - signedOf 14 (fOf cor F.CG_CHc_COR_OFS)) * (fOf cor F.CG_CHc_COR_GAIN : Int)) (8 * 65536)
  (clampInt (-8192) 8191 y, decide (y < -8192 ∨ 8191 < y))

/-- A result in the CG_RESULT layout, OVRN and HELD 0. -/
def resultWord (time : Word) (code : Int) (chan : Nat) (ovr settle urg : Bool) (seq : Nat) : DWord :=
  DWord.ofHalves
    (BitVec.ofNat 32 (codeOf 16 code * 2 ^ 16 + chan % 32 * 2 ^ 11 + (if ovr then 2 ^ 10 else 0)
      + (if settle then 2 ^ 9 else 0) + (if urg then 2 ^ 8 else 0) + seq % 64)) time

/-- The records a tap drops count against its flow where the tap feeds one (R130). -/
def tapDropFlow (s : State) (r g t : Nat) : State :=
  if s.gf F.CG_TAPt_CFG_DEST (cgB r g) t = 2 then
    (s.countLoss 2 (s.gf F.CG_TAPt_CFG_FLOW (cgB r g) t)).noteDrop (hopCluster r (12 + g)) ⟨false, Fin.ofNat 16 r, Fin.ofNat 256 (0x30 + g)⟩
  else s

/-- One result at tap t (R128, R130): a match passes when the decimation counter allows; a full buffer drops it. -/
def tapTake (s : State) (r g : Nat) (res time : DWord) (chan t : Nat) : State :=
  let b := cgB r g
  let x := s.grp r g
  let p := x.taps.get t
  if s.gb F.CG_TAPt_CFG_EN b t && (s.gf F.CG_TAPt_MASK_MASK b t).testBit chan then
    if p.skip = 0 then
      let p1 := { p with skip := s.gf F.CG_TAPt_CFG_DECIM b t, seq := (p.seq + 1) % 2 ^ 32 }
      if p.buf.length < 8 then
        s.setGrp r g { x with taps := x.taps.set t { p1 with buf := p.buf ++ [⟨res, time, p.seq⟩] } }
      else
        tapDropFlow (((s.setGrp r g { x with taps := x.taps.set t p1 }).bump F.CG_TAPt_STAT_DROP b t).sb
          F.CG_EVT_TAP_DROP b 0 true) r g t
    else s.setGrp r g { x with taps := x.taps.set t { p with skip := p.skip - 1 } }
  else s

/-- A completed result: the data register if CG_RES_MASK lets it (R124), the taps regardless, and the events of the marks
it carries (R131, R132, R134). -/
def deliverResult (s : State) (r g chan : Nat) (code : Int) (ovr settle132 inj urg : Bool) (time : DWord) : State :=
  let b := cgB r g
  let s1 := if ovr then s.sb F.CG_EVT_OVR_SEEN b 0 true else s
  let s2 := if settle132 then s1.sb F.CG_EVT_SETTLE_SEEN b 0 true else s1
  let s3 := if inj then s2.sb F.CG_EVT_INJ_SETTLE b 0 true else s2
  let seq := (s3.rd R.CG_RESULT b).bits 5 0
  let kept := (s3.gf F.CG_RES_MASK_MASK b).testBit chan
  let res := resultWord time.lo code chan ovr (settle132 || inj) urg (if kept then seq + 1 else seq)
  let s4 :=
    if kept then
      let x := s3.grp r g
      (s3.wr64 R.CG_RESULT b 0 res).setGrp r g { x with writes := x.writes + 1 }
    else s3
  [0, 1, 2].foldl (fun s t => tapTake s r g res time chan t) s4

/-- A result from a mean in 1/8 LSB: correction with the channel's CG_CHc_COR, then the marks. `exc`: it holds an averaged
sample beyond 3 %, `near`: a discard sample of its batch was; the first carries OVR and SETTLE, the second SETTLE, and the two
results after either SETTLE (R132; log entry 198 for the discard sample); `inj`: it was sampled while an injection marks (R134). -/
def formResult (s : State) (r g chan : Nat) (mean : Int) (clamped exc near inj urg : Bool) (time : DWord) : State :=
  let x := s.grp r g
  let y := correct mean (s.rd R.CG_CHc_COR (cgB r g) chan)
  let s1 := s.setGrp r g { x with excLeft := if exc || near then 2 else x.excLeft - 1 }
  deliverResult s1 r g chan y.1 (clamped || y.2 || exc) (exc || near || decide (0 < x.excLeft)) inj urg time

/-- Dither is injected: DITHER not off and not in low-power mode (R156, R158). -/
def dithering (s : State) (r g : Nat) : Bool := s.gf F.CG_ROT_CTRL_DITHER (cgB r g) != 0 && cgState s r g != 2

/-- The physical slices at the four positions. -/
def posSlices (s : State) (r g : Nat) : List Nat :=
  let p := s.gf F.CG_ROT_STAT_POS (cgB r g)
  [p % 8, p / 8 % 8, p / 64 % 8, p / 512 % 8]

/-- The group and the physical slice that take the sample of a grid point: one slice in low-power mode (R159), the slice at
position n mod 4 at full rate (R144); in a pair the points alternate between the two groups (R106). -/
def sliceAt (s : State) (r g point : Nat) : Nat × Nat :=
  match cgState s r g with
  | 2 => (g, (s.grp r g).lpSlice)
  | 4 => (g + point % 2, (posSlices s r (g + point % 2)).getD (point / 2 % 4) 0)
  | _ => (g, (posSlices s r g).getD (point % 4) 0)

/-- Slice calibration (R122 step 1): the slice's reading in LSB with its CG_CALs and CG_BWs applied, in 1/8 LSB. The
offset correction adds, the gain correction multiplies, and the bandwidth correction acts on what alternates from sample to
sample (log entry 199). -/
def sliceCal (cal bw : Word) (reading swing : Rat) : Int :=
  let ofs : Rat := (signedOf 12 (fOf cal F.CG_CALs_OFS) : Int) / 16
  let gain : Rat := 1 + (signedOf 12 (fOf cal F.CG_CALs_GAIN) : Int) / 65536
  let band : Rat := (signedOf 16 (fOf bw F.CG_BWs_BW) : Int) / 1048576
  roundRat (((reading + ofs) * gain + band * swing) * 8)

/-- What a sample of a channel yields: its value in 1/8 LSB after slice calibration and the clamp of R131, whether it clamped,
whether only the dither made it clamp (R157), and whether the input lay beyond 3 % (R132). -/
structure Taken where
  value : Int
  clamped : Bool
  dithered : Bool
  beyond : Bool
  deriving DecidableEq, Repr

/-- The limits of the dither value, in LSB (R156). -/
def ditherPeak (s : State) (r g : Nat) : Int :=
  if dithering s r g then 8 * 2 ^ s.gf F.CG_ROT_CTRL_DITHER (cgB r g) else 0

/-- A sample taken of a channel (R102, R103, R122, R131, R156, R157): the dither adds before the clamp and is subtracted after
it (log entry 199). -/
def takeSample (s : State) (r g chan : Nat) (x : Sample) : Taken :=
  let p := sliceAt s r g x.point.val
  let v := chanVolts s x.levels r g chan
  let c := sliceCal (s.rd R.CG_CALs (cgB r p.1) p.2) (s.rd R.CG_BWs (cgB r p.1) p.2) (v / lsb + x.error) x.swing
  let d := 8 * clampInt (-ditherPeak s r g) (ditherPeak s r g) x.dither
  let own := (clampSample c).2
  let with_ := clampSample (c + d)
  ⟨with_.1 - d, with_.2, with_.2 && !own, beyond3 v⟩

/-- The samples of a batch (R113). -/
def takeAll (s : State) (r g chan : Nat) (xs : List Sample) : List Taken := xs.map fun x => takeSample s r g chan x

/-- A sample that clamped only for the dither added to it (R157). -/
def ditherClip (s : State) (r g : Nat) (d : Bool) : State :=
  if d then s.sb F.CG_INTEG_EVT_DITHER_CLIP (cgB r g) 0 true else s

/-- The region's injection marks a result whose last sample was taken `sub` counts into the present tick and its first one
`back` counts before it (R134): it marks now, or it ended no earlier than the first of them. -/
def injMarks (s : State) (r sub back : Nat) : Bool :=
  (s.rgnS r).injSettle || decide (s.hub.base + sub < (s.rgnS r).injEnd + back)

/-- BATCH_DONE (R113, R122): `xs` are the averaged samples, as many as 2^AVG. The time is that of the first averaged sample
instant, (2^AVG − 1) grid points before the last. -/
def execBatchDone (r : Rgn) (g : Fin 4) (xs : List Sample) (sub : Fin 40) (s : State) :
    Host.Outcome State Fault Refusal :=
  s.after <|
    match (s.grp r.val g.val).pass with
    | some p =>
      let n := 2 ^ fOf p.cfg F.CG_CHc_CFG_AVG
      if converting s r.val g.val && !p.done && decide (xs.length = n) then
        let l := takeAll s r.val g.val p.chan xs
        let back := (n - 1) * gridCounts (cgState s r.val g.val)
        let s1 := formResult (ditherClip s r.val g.val (l.any (·.dithered))) r.val g.val p.chan (batchMean (l.map (·.value)))
          (l.any (·.clamped)) (p.excAvg || l.any (·.beyond)) p.excDisc (injMarks s r.val sub.val back) false
          (s.stamp sub - BitVec.ofNat 64 back)
        nextBatch s1 r.val g.val p
      else s
    | none => s

/-- EXCURSION: the front end of a converting group detects an input beyond full scale by more than 3 % at an averaged sample
of the batch in progress, or at one of its discard samples (R132). -/
def execExcursion (r : Rgn) (g : Fin 4) (disc : Bool) (s : State) : Host.Outcome State Fault Refusal :=
  s.after <|
    match (s.grp r.val g.val).pass with
    | some p =>
      if converting s r.val g.val && !p.done then
        s.setGrp r.val g.val { s.grp r.val g.val with
          pass := some { p with excAvg := p.excAvg || !disc, excDisc := p.excDisc || disc } }
      else s
    | none => s

/-! ### Urgent requests (R117 to R121) -/

/-- An urgent request reaches a group (R117, R120): queued, or dropped and counted while the queue is full, while STATE is
Off, Calibrating or Failed, at the odd member of a pair, and in Torpor (R504). -/
def urgentRequest (s : State) (r g chan : Nat) : State :=
  let x := s.grp r g
  let st := cgState s r g
  if x.urg.length < 4 ∧ st ≠ 0 ∧ st ≠ 5 ∧ st ≠ 6 ∧ st ≠ 7 ∧ s.inTorpor r = false then
    s.setGrp r g { x with urg := x.urg ++ [chan] }
  else (s.bump F.CG_URG_STAT_LOST (cgB r g)).sb F.CG_EVT_URG_LOST (cgB r g) 0 true

/-- A write to CG_URG by the owner; at the odd member of a pair the write is refused (R106). -/
def urgWrite (s : State) (a : Reader) (r : Rgn) (g : Fin 4) (v : Word) : State :=
  s.asOwner a r.val fun s =>
    if cgState s r.val g.val = 5 then cgReject s (cgB r.val g.val)
    else urgentRequest s r.val g.val (fOf v F.CG_URG_CH)

/-- HOST_URGENT_REQUEST. -/
def execHostUrgentRequest (a : Reader) (r : Rgn) (g : Fin 4) (v : Word) (s : State) :
    Host.Outcome State Fault Refusal := s.after (urgWrite s a r g v)

/-- The trigger of urgent slot k. -/
def urgTrig (s : State) (r g k : Nat) : State :=
  if s.gb F.CG_URGk_CFG_EN (cgB r g) k then urgentRequest s r g (s.gf F.CG_URGk_CFG_CH (cgB r g) k) else s

/-- URGENT_TRIGGER (R117). -/
def execUrgentTrigger (r : Rgn) (g k : Fin 4) (s : State) : Host.Outcome State Fault Refusal :=
  s.after (urgTrig s r.val g.val k.val)

/-- A trigger of R116 reaches one group: its urgent slots in slot order, and its scan. -/
def groupTrigger (s : State) (r g code : Nat) : State :=
  let b := cgB r g
  let s1 := [0, 1, 2, 3].foldl (fun s k => if s.gf F.CG_URGk_CFG_SRC b k = code then urgTrig s r g k else s) s
  if s1.gf F.CG_SCAN_TRIG_SRC b = code then scanTrig s1 r g else s1

/-- A trigger of R116 reaches the capture snapshot (R308) and the groups of a region. -/
def fireTrigger (s : State) (r code : Nat) : State :=
  [0, 1, 2, 3].foldl (fun s g => groupTrigger s r g code) (captureTrigger s r code)

/-- The batch in progress is aborted: it restarts from its first discard sample with its channel and configuration, and its
samples are discarded (R119). An excursion among them still marks the two results that follow (R132; log entry 198). -/
def abortBatch (x : GrpS) : GrpS :=
  match x.pass with
  | some p =>
    if p.excAvg || p.excDisc then { x with pass := some { p with excAvg := false, excDisc := false }, excLeft := 2 } else x
  | none => x

/-- URGENT_SAMPLE: the oldest queued request is sampled and converted as a single sample with URG = 1 (R118); the batch in
progress is aborted (R119). -/
def execUrgentSample (r : Rgn) (g : Fin 4) (x : Sample) (sub : Fin 40) (s : State) :
    Host.Outcome State Fault Refusal :=
  let q := s.grp r.val g.val
  s.after <|
    match q.urg with
    | chan :: rest =>
      if converting s r.val g.val then
        let l := takeSample s r.val g.val chan x
        let s1 := ditherClip (s.setGrp r.val g.val (abortBatch { q with urg := rest })) r.val g.val l.dithered
        formResult s1 r.val g.val chan l.value l.clamped l.beyond false (injMarks s r.val sub.val 0) true (s.stamp sub)
      else s
    | [] => s

/-! ### The data register (R124 to R127) -/

/-- OVRN_PEND of a reader: a result arrived while its holding register was full (R125). -/
def ovrnPend (x : GrpS) (q : RdS) : Bool := q.ovrn || (q.hold.isSome && decide (q.atLow < x.writes))

/-- A low-half read of CG_RESULT: the reader's OVRN and HELD, and the high half latched (R19, R125). -/
def resultLow (s : State) (a : Reader) (r g : Nat) : Word × State :=
  let x := s.grp r g
  let q := x.readers.get a.code
  let live := s.rd64 R.CG_RESULT (cgB r g)
  let w := (live.lo.setBit 7 (ovrnPend x q || decide (1 < x.writes - q.atLow))).setBit 6 q.held
  (w, s.setGrp r g { x with readers := x.readers.set a.code ⟨some live.hi, false, q.held, x.writes⟩ })

/-- A high-half read of CG_RESULT: the held half, or the live one (R19, R125). -/
def resultHigh (s : State) (a : Reader) (r g : Nat) : Word × State :=
  let x := s.grp r g
  let q := x.readers.get a.code
  match q.hold with
  | some h => (h, s.setGrp r g { x with readers := x.readers.set a.code ⟨none, ovrnPend x q, true, q.atLow⟩ })
  | none =>
    ((s.rd64 R.CG_RESULT (cgB r g)).hi, s.setGrp r g { x with readers := x.readers.set a.code { q with held := false } })

/-- CG_RESULT_LOW_READ, by a path that reaches the group (R18, R125). -/
def execCgResultLowRead (a : Reader) (r : Rgn) (g : Fin 4) (s : State) : Host.Outcome State Fault Refusal :=
  let p := resultLow s a r.val g.val
  s.after (if reaches s a (cgB r.val g.val) then p.2.answer a (p.1.setWidth 64) else s)

/-- CG_RESULT_HIGH_READ, by a path that reaches the group (R18, R125). -/
def execCgResultHighRead (a : Reader) (r : Rgn) (g : Fin 4) (s : State) : Host.Outcome State Fault Refusal :=
  let p := resultHigh s a r.val g.val
  s.after (if reaches s a (cgB r.val g.val) then p.2.answer a (p.1.setWidth 64) else s)

/-! ### Modes (R107, R108) -/

/-- The other member of a group's pair (R106). -/
def pairOf (g : Nat) : Nat := if g % 2 = 0 then g + 1 else g - 1

/-- Queued requests dropped and counted, the pass ended without a result. -/
def stopConversions (s : State) (r g : Nat) : State :=
  let x := s.grp r g
  let s1 := x.urg.foldl (fun s _ => (s.bump F.CG_URG_STAT_LOST (cgB r g)).sb F.CG_EVT_URG_LOST (cgB r g) 0 true) s
  (s1.setGrp r g { s1.grp r g with pass := none, remembered := false, urg := [], excLeft := 0 }).sb F.CG_SCAN_GO (cgB r g) 0 false

/-- The conditions under which a pair may start (R107); neither group calibrates, which would end without its registers
(log entry 200). -/
def pairAllowed (s : State) (r g : Nat) : Bool :=
  let one := fun (h : Nat) =>
    s.gb F.CG_STAT_CAL_VALID (cgB r h) && !s.gb F.CG_CTRL_LIVE (cgB r h) && decide (s.gf F.CG_SCAN_SMODE (cgB r h) = 0)
      && (s.grp r h).urg.isEmpty && cgState s r h != 6
  one g && one (pairOf g)

/-- The conditions under which a change of MODE is allowed (R107, R108). -/
def modeAllowed (s : State) (r g new : Nat) : Bool :=
  let b := cgB r g
  let p := cgB r (pairOf g)
  let old := s.gf F.CG_CTRL_MODE b
  let live := s.gb F.CG_CTRL_LIVE b
  let livePair := live || s.gb F.CG_CTRL_LIVE p
  cgState s r g != 6 && cgState s r g != 5 && !s.gb F.RGN_STAT_RESET (rgB r)
    && (match old, new with
        | _, 0 => if old = 3 then !livePair else !live
        | 0, 1 => s.gb F.CG_STAT_CAL_VALID b
        | 0, 2 => s.gb F.CG_STAT_CAL_VALID b
        | 1, 2 => true
        | 2, 1 => true
        | 3, 2 => !livePair
        | 0, 3 => pairAllowed s r g
        | 2, 3 => pairAllowed s r g
        | _, _ => false)

/-- Self-calibration is allowed: LIVE 0, no member of a pair, be it one that is starting or ending, not Failed (R136). -/
def calAllowed (s : State) (r g : Nat) : Bool :=
  let st := cgState s r g
  let even := g - g % 2
  !s.gb F.CG_CTRL_LIVE (cgB r g) && st != 4 && st != 5 && st != 7 && s.gf F.CG_CTRL_MODE (cgB r even) != 3
    && !(s.grp r even).unpair

/-- The rotation of a group stops: the service window in progress is abandoned (R149). -/
def rotStop (s : State) (r g : Nat) : State :=
  s.sf F.CG_ROT_STAT_PHASE (cgB r g) 0 0

/-- Rotation pauses at the end of its current step under ROT_HOLD or Torpor (R149). -/
def rotPaused (s : State) (r g : Nat) : Bool := s.gb F.CG_ROT_CTRL_ROT_HOLD (cgB r g) || (s.grp r g).torpor

/-- A paused rotation resumes where it paused once nothing holds it (R149). -/
def rotResume (s : State) (r g : Nat) : State :=
  if s.gf F.CG_ROT_STAT_PHASE (cgB r g) = 3 ∧ rotPaused s r g = false then
    s.sf F.CG_ROT_STAT_PHASE (cgB r g) 0 (s.grp r g).resume
  else s

/-- An Off written while the group's pair is ending (R107): the odd member goes on to full rate by itself. -/
def leavePair (s : State) (r g : Nat) : State :=
  if (s.grp r g).unpair then
    (((s.setGrp r g { s.grp r g with unpair := false }).sf F.CG_CTRL_MODE (cgB r (pairOf g)) 0 2).sf F.CG_SCAN_SMODE
      (cgB r (pairOf g)) 0 0).sf F.CG_SCAN_SMODE (cgB r g) 0 0
  else s

/-- A change of MODE takes hold at the write (R107). The odd member's own CG_CTRL.MODE stays as it is while the pair lasts and
when the pair goes Off, so that it may read 2 with STATE Off (log entry 201). -/
def applyMode (s : State) (r g new : Nat) : State :=
  let b := cgB r g
  let old := s.gf F.CG_CTRL_MODE b
  let s1 := s.sf F.CG_CTRL_MODE b 0 new
  if cgState s r g = 7 then s1
  else if new = 0 then
    let s2 := leavePair (rotStop (setCgState (stopConversions s1 r g) r g 0) r g) r g
    if old = 3 then rotStop (setCgState s2 r (pairOf g) 0) r (pairOf g) else s2
  else if new = 3 then setCgState (setCgState s1 r g 1) r (pairOf g) 1
  else if old = 3 then
    let s2 := setCgState (setCgState (stopConversions s1 r g) r g 1) r (pairOf g) 1
    s2.setGrp r g { s2.grp r g with unpair := true }
  else if old = 0 then setCgState s1 r g 1
  else s1

/-- RGN_TEMP of a region, in 0.25 °C. -/
def tempOf (s : State) (r : Nat) : Int := signedOf 16 (s.gf F.RGN_TEMP_TEMP (rgB r))

/-- The command of R136 starts: CAL reads 1 until it ends, and the temperature of the last sample is kept (R139). -/
def beginCal (s : State) (r g : Nat) : State :=
  (setCgState (s.sb F.CG_CTRL_CAL (cgB r g) 0 true) r g 6).setGrp r g
    { s.grp r g with calAt := s.hub.base, calTemp := tempOf s r }

/-- Self-calibration starts (R136, R138, R149). -/
def startCal (s : State) (r g : Nat) : State := rotStop (beginCal (stopConversions s r g) r g) r g

/-- Steps 1 and 2 of R137, in counts of 62.5 ps: a sample taken by their end is at or before the start of step 3 (R139). -/
def calLead : Nat := 104_000_000

/-- A temperature sample while a group calibrates (R139). -/
def calSample (s : State) (r g : Nat) (t : Int) : State :=
  let x := s.grp r g
  if cgState s r g = 6 ∧ s.hub.base - x.calAt ≤ calLead then s.setGrp r g { x with calTemp := t } else s

/-- A write of CG_CTRL, whole: a MODE change or CAL that is not allowed refuses the whole write, LIVE included (R107, R108,
R136); setting LIVE clears both test holds (R166); a write of 0b11 to the odd group is unlisted (R107). -/
def cgCtrlWrite (s : State) (a : Reader) (r g : Nat) (v : Word) : State :=
  s.asOwner a r fun s =>
    let b := cgB r g
    let old := s.gf F.CG_CTRL_MODE b
    let want := fOf v F.CG_CTRL_MODE
    let new := if want = 3 ∧ g % 2 = 1 then old else want
    let cal := fOf v F.CG_CTRL_CAL = 1 && !s.gb F.CG_CTRL_CAL b
    if (new != old && !modeAllowed s r g new) || (cal && (!calAllowed s r g || new != old && new = 3)) then cgReject s b
    else
      let s1 := s.sf F.CG_CTRL_LIVE b 0 (fOf v F.CG_CTRL_LIVE)
      let s2 := if fOf v F.CG_CTRL_LOCK = 1 then s1.sb F.CG_CTRL_LOCK b 0 true else s1
      let s3 := if fOf v F.CG_CTRL_LIVE = 1 then rotResume ((s2.sb F.CG_ROT_CTRL_EST_FREEZE b 0 false).sb F.CG_ROT_CTRL_ROT_HOLD b 0 false) r g else s2
      let s4 := if new != old then applyMode s3 r g new else s3
      if cal then startCal s4 r g else s4

/-- CG_MODE_CHANGE: a write of CG_CTRL (R107, R108). -/
def execCgModeChange (a : Reader) (r : Rgn) (g : Fin 4) (v : Word) (s : State) : Host.Outcome State Fault Refusal :=
  s.after (cgCtrlWrite s a r.val g.val v)

/-- SELF_CALIBRATION: a write of 1 to CG_CTRL.CAL that leaves MODE and LIVE as they are (R136). -/
def execSelfCalibration (a : Reader) (r : Rgn) (g : Fin 4) (s : State) : Host.Outcome State Fault Refusal :=
  s.after (cgCtrlWrite s a r.val g.val (((s.rd R.CG_CTRL (cgB r.val g.val)).setBits 8 8 1).setBits 31 31 0))

/-! ### Rotation bookkeeping shared with 04_converter_integrity.md -/

/-- Working slices of a group: not marked failed. -/
def working (s : State) (r g : Nat) : List Nat :=
  [0, 1, 2, 3, 4].filter fun x => !(s.gf F.CG_CAL_STAT_SLICE_FAIL (cgB r g)).testBit x

/-- Four-slice operation (R162): no rotation, fixed positions: those of the moment if the four working slices hold them, else
in ascending order; CG_INTEG_EVT.DEGRADED sets on entry. -/
def fourSlice (s : State) (r g : Nat) : State :=
  let b := cgB r g
  let w := working s r g
  let kept := w.all fun x => (posSlices s r g).contains x
  let pos := if kept then s.gf F.CG_ROT_STAT_POS b else w.foldr (fun x n => n * 8 + x) 0
  let s1 := ((s.sf F.CG_ROT_STAT_POS b 0 pos).sf F.CG_ROT_STAT_SVC b 0 7).sf F.CG_ROT_STAT_PHASE b 0 0
  if s.gb F.CG_ROT_STAT_DEGRADED b then s1
  else (s1.sb F.CG_ROT_STAT_DEGRADED b 0 true).sb F.CG_INTEG_EVT_DEGRADED b 0 true

/-- A service window starts (R146 step 1): five working slices, positions kept if they are a rotation already; paused at once
where something holds the rotation (R149). -/
def startWindow (s : State) (r g : Nat) : State :=
  let b := cgB r g
  if (working s r g).length < 5 then s
  else
    let fresh := s.gf F.CG_ROT_STAT_POS b = 0
    let s1 := if fresh then (s.sf F.CG_ROT_STAT_POS b 0 (0 + 8 * 1 + 64 * 2 + 512 * 3)).sf F.CG_ROT_STAT_SVC b 0 4 else s
    if rotPaused s1 r g then
      (s1.setGrp r g { s1.grp r g with resume := 1, prevCal := none }).sf F.CG_ROT_STAT_PHASE b 0 3
    else (s1.setGrp r g { s1.grp r g with prevCal := none }).sf F.CG_ROT_STAT_PHASE b 0 1

/-- CG_ROT_STAT.STALE: an active slice is stale (R160). -/
def staleNow (s : State) (r g : Nat) : Bool := (posSlices s r g).any fun x => (s.grp r g).stale.testBit x

/-- Slices become stale (R160). -/
def makeStale (s : State) (r g : Nat) : State :=
  let s1 := s.setGrp r g { s.grp r g with stale := 31 }
  s1.sb F.CG_ROT_STAT_STALE (cgB r g) 0 (staleNow s1 r g)

/-- A batch in progress at a switch of modes is discarded and restarts (R107). -/
def restartBatch (s : State) (r g : Nat) : State := s.setGrp r g (abortBatch (s.grp r g))

/-- Results begin to flow in low-power mode (R107): rotation stops, a batch in progress restarts. The slice of the last
low-power handover converts first, slice 0 after a reset; PHASE reads 0, and POS and SVC keep what they showed at full rate
(log entries 202 and 203). -/
def toLowPower (s : State) (r g : Nat) : State := kickScan (setCgState (rotStop (restartBatch s r g) r g) r g 2) r g

/-- Results begin to flow at full rate (R107): a new service window starts, with stale slices on a return from low-power
(R149, R160). -/
def toFullRate (s : State) (r g : Nat) : State :=
  let s1 := setCgState (restartBatch s r g) r g 3
  kickScan (startWindow (if cgState s r g = 2 then makeStale s1 r g else s1) r g) r g

/-- CG_MODE_READY: results begin to flow in the mode of CG_CTRL (R107), where they do not flow in it already; a batch in
progress restarts; rotation starts a new service window (R149), with stale slices on a return from low-power (R160). -/
def execCgModeReady (r : Rgn) (g : Fin 4) (s : State) : Host.Outcome State Fault Refusal :=
  let b := cgB r.val g.val
  let o := pairOf g.val
  let st := cgState s r.val g.val
  s.after <|
    if st = 0 ∨ st ≥ 5 ∨ st = s.gf F.CG_CTRL_MODE b + 1 then s
    else match s.gf F.CG_CTRL_MODE b with
    | 1 => toLowPower s r.val g.val
    | 2 =>
      -- a group that dozes stays in low-power mode (R502)
      if st = 2 && (s.grp r.val g.val).dozed then s
      else
        -- the end of a pair: both members return to full rate with scanning stopped
        let s1 :=
          if (s.grp r.val g.val).unpair then
            startWindow (((((setCgState s r.val o 3).sf F.CG_CTRL_MODE (cgB r.val o) 0 2).sf F.CG_SCAN_SMODE b 0 0).sf
              F.CG_SCAN_SMODE (cgB r.val o) 0 0).setGrp r.val g.val { s.grp r.val g.val with unpair := false }) r.val o
          else s
        toFullRate s1 r.val g.val
    | 3 => kickScan (startWindow (startWindow (setCgState (setCgState s r.val g.val 4) r.val o 5) r.val g.val) r.val o) r.val g.val
    | _ => s

/-! ### Self-calibration (R136 to R140) -/

/-- The state a group has when its calibration ends: its mode if the region is released, else Off until release (R494). -/
def stateAfterCal (s : State) (r g : Nat) : Nat :=
  if s.gb F.RGN_STAT_RESET (rgB r) || decide (s.sett.phase ≠ .running) then 0
  else match s.gf F.CG_CTRL_MODE (cgB r g) with
    | 1 => 2 | 2 => 3 | _ => 0

/-- What a calibration writes of one slice: CG_CALs of a slice that was tried (R139, R142), and of one that works its skew,
bandwidth and service words too (R167). A slice already marked is not tried and keeps its words (log entry 204). -/
def calSlice (s : State) (b oldFail fail : Nat) (cals skews bws : List Word) (temp : Int) (i : Nat) : State :=
  let s1 := if oldFail.testBit i then s else s.wr R.CG_CALs b i (cals.getD i 0)
  if fail.testBit i then s1
  else ((s1.wr R.CG_SKEWs b i (skews.getD i 0)).wr R.CG_BWs b i (bws.getD i 0)).sf F.CG_SVCs_TEMP b i (codeOf 16 temp)

/-- CG_SLICE_FAIL of a slice that a self-calibration marks (R140, R161, R558). -/
def sliceFailed (s : State) (r : Rgn) (g : Fin 4) (fail slice : Nat) : State :=
  s.raise (srcRgn r (unitCg g)) 0x20 (detailOf [(2, 1, g.val), (3, 1, slice), (4, 1, fail), (5, 1, 1)])

/-- A group whose calibration leaves four slices or fewer (R140, R162, R165): four-slice operation with each new mark raised
and counted as a spare, or Failed. A slice of a group that ran on four is retired by the calibration (R161, R165). -/
def calShort (s : State) (r : Rgn) (g : Fin 4) (oldFail fail : Nat) (newFail : List Nat) : State :=
  let n := ((List.range 5).filter fun i => !fail.testBit i).length
  let b := cgB r.val g.val
  if n = 4 then
    let s1 := newFail.foldl (fun s i => sliceFailed (s.useSpare 2 r.val g.val 0) r g fail i) s
    kickScan (setCgState (fourSlice s1 r.val g.val) r.val g.val (stateAfterCal s1 r.val g.val)) r.val g.val
  else
    let had := ((List.range 5).filter fun i => !oldFail.testBit i).length
    let s1 := if had = 5 then s.useSpare 2 r.val g.val 0 else s
    let s2 := if had = 4 then newFail.foldl (fun s i => sliceFailed s r g fail i) (s1.sb F.CG_INTEG_EVT_SLICE_RETIRED b 0 true)
      else s1
    (setCgState s2 r.val g.val 7).failPermanent.raise (srcRgn r (unitCg g)) 0x21 (detailOf [(2, 1, g.val), (3, 1, fail), (4, 1, 1)])

/-- A group's low-power slice after a calibration: one that works (R159). -/
def lpAfter (s : State) (r g : Nat) : Nat :=
  let x := (s.grp r g).lpSlice
  (([0, 1, 2, 3, 4].map fun i => (x + i) % 5).find? fun y => (working s r g).contains y).getD x

/-- CALIBRATION_DONE (R137 to R140, R167): `passed` has bit s set where physical slice s was brought within its trim range
(a slice already marked is not tried); the coefficient words are those found; CG_CAL_STAT.TEMP is the region temperature of
the last sample at or before the start of step 3. -/
def execCalibrationDone (r : Rgn) (g : Fin 4) (passed : Nat) (cals skews bws : List Word) (s : State) :
    Host.Outcome State Fault Refusal :=
  let b := cgB r.val g.val
  s.after <|
    if cgState s r.val g.val ≠ 6 then s
    else
      let oldFail := s.gf F.CG_CAL_STAT_SLICE_FAIL b
      let fail := oldFail ||| (31 - passed % 32)
      let newFail := (List.range 5).filter fun i => fail.testBit i && !oldFail.testBit i
      let n := ((List.range 5).filter fun i => !fail.testBit i).length
      let temp := (s.grp r.val g.val).calTemp
      let s1 := (List.range 5).foldl (fun s i => calSlice s b oldFail fail cals skews bws temp i)
        (s.sf F.CG_CAL_STAT_SLICE_FAIL b 0 fail)
      let s3 := (s1.sf F.CG_CAL_STAT_TEMP b 0 (codeOf 16 temp)).count F.CG_CAL_STAT_CAL_CNT b
      let s4 := ((s3.sf F.CG_EST_STAT_SKEW_HOLD b 0 0).sf F.CG_EST_STAT_HOLD_BLK b 0 0).sf F.CG_EST_STAT_USABLE_RUN b 0 0
      let s5 := ((s4.sb F.CG_CTRL_CAL b 0 false).sb F.CG_EVT_CAL_DONE b 0 true).sb F.CG_STAT_CAL_VALID b 0 (decide (4 ≤ n))
      let s6 := s5.setGrp r.val g.val
        { s5.grp r.val g.val with
          stale := 0, skewTemp := temp, usableAt := s.hub.base, lpSlice := lpAfter s5 r.val g.val }
      let s7 := (if newFail.isEmpty then s6 else s6.sb F.CG_EVT_CAL_FAIL b 0 true).sb F.CG_ROT_STAT_STALE b 0 false
      if n = 5 then
        let after := stateAfterCal s7 r.val g.val
        let s8 := setCgState s7 r.val g.val after
        kickScan (if after = 3 then startWindow s8 r.val g.val else s8) r.val g.val
      else calShort s7 r g oldFail fail newFail

/-! ### Writes of the other group registers -/

/-- A write to CG_MASK, CG_URGk_CFG, CG_TAPt_ or CG_CHc_ registers: refused and counted at the odd member of a pair
(R106), else field by field; a tap's decimation counter restarts (R128); a RGN code on the other die is unlisted (R128),
and DEST 0b10 is listed for tap 2 only. -/
def cgGuardedWrite (s : State) (a : Reader) (reg : Reg) (r g n : Nat) (v : Word) : State :=
  s.asOwner a r fun s =>
    let b := cgB r g
    if cgState s r g = 5 then cgReject s b
    else if reg = R.CG_TAPt_CFG then
      let w := s.merged reg b n v
      let old := s.rd reg b n
      let w1 := if dieOf (fOf w F.CG_TAPt_CFG_RGN) = dieOf r then w
                else w.setBits 27 24 (fOf old F.CG_TAPt_CFG_RGN)
      let w2 := if fOf w1 F.CG_TAPt_CFG_DEST = 2 ∧ n ≠ 2 then w1.setBits 30 29 (fOf old F.CG_TAPt_CFG_DEST) else w1
      let s1 := s.wr reg b n w2
      let x := s1.grp r g
      s1.setGrp r g { x with taps := x.taps.set n { x.taps.get n with skip := 0 } }
    else
      let s1 := s.plainWrite reg b n v
      if reg = R.CG_TAPt_MASK then
        let x := s1.grp r g
        s1.setGrp r g { x with taps := x.taps.set n { x.taps.get n with skip := 0 } }
      else kickScan s1 r g

/-- What a region reset does to a group beside its registers (R142). -/
def cgRegionReset (s : State) (r g : Nat) : State := s.setGrp r g GrpS.reset

end Sys2Proof.Machine
end

