-- ==== Sys2Proof/Machine/Flags.lean ====
section
/-!
DEFINITION. The arithmetic slot of a Loop Engine: results, limits, rounding and every flag (07_loop_engines.md, R234, R240,
R248 to R252). Accumulators are integers in units of 2^-46, data words in units of 2^-23; every result is formed exactly
and narrowed at the end.
-/

namespace Sys2Proof.Machine

/-- Does a value lie within −1.0 to 1 − 2^−46, so that the extension bits are unused (R234)? -/
def accFits (v : Int) : Bool := decide (-(2 ^ 46) ≤ v ∧ v < 2 ^ 46)

/-- An accumulator result (R248): exact within ±1; outside, with S = 1 the nearer of the limits, with S = 0 exact up to
±512 and wrapped beyond. The flag tells a limited or wrapped result. `top` is the upper limit, lower for a rounded result
(R250). -/
def storeAcc (sat : Bool) (top v : Int) : BitVec 56 × Bool :=
  if -(2 ^ 46) ≤ v ∧ v ≤ top then (BitVec.ofInt 56 v, false)
  else if sat then (BitVec.ofInt 56 (if v < 0 then -(2 ^ 46) else top), true)
  else (BitVec.ofInt 56 v, decide (v < -(2 ^ 55) ∨ 2 ^ 55 ≤ v))

/-- A data-word result (R249): clamped with S = 1, else wrapped modulo 2. -/
def storeD (sat : Bool) (v : Int) : BitVec 24 × Bool :=
  if -(2 ^ 23) ≤ v ∧ v < 2 ^ 23 then (BitVec.ofInt 24 v, false)
  else if sat then (BitVec.ofInt 24 (if v < 0 then -(2 ^ 23) else 2 ^ 23 - 1), true)
  else (BitVec.ofInt 24 v, true)

/-- Rounding to 1.23 (R250): add accumulator bit 22, clear bits [22:0]. -/
def round23 (v : Int) : Int := (v + 2 ^ 22) / 2 ^ 23 * 2 ^ 23

/-- The data word of a rounded accumulator (MOVD, STA; R249): limited or bits [46:23]. -/
def accToD (sat : Bool) (v : Int) : BitVec 24 × Bool := storeD sat (round23 v / 2 ^ 23)

/-- Bits of a natural number. -/
def bitLen (n : Nat) : Nat := if n = 0 then 0 else n.log2 + 1

/-- The exponent of an accumulator (R252): leading bits equal to bit 55, less 10; that of 0 is 0. -/
def exponentOf (v : Int) : Int :=
  if v = 0 then 0
  else if v < 0 then 46 - (bitLen (-v - 1).toNat : Nat) else 46 - (bitLen v.toNat : Nat)

/-- An accumulator shifted left by its exponent, right if it is negative (R252). -/
def normalise (v : Int) : Int :=
  let e := exponentOf v
  if 0 ≤ e then v * 2 ^ e.toNat else v / 2 ^ (-e).toNat

/-- What the arithmetic slot does: accumulator and data-register results, the flags it writes, and its latency class. -/
structure AluOut where
  accs : List (Nat × BitVec 56)
  ds : List (Nat × BitVec 24)
  /-- Z, N and V, if the operation writes them. -/
  znv : Option (Bool × Bool × Bool)
  /-- E, if the operation writes it. -/
  e : Option Bool
  /-- Latency 2 (R240). -/
  late : Bool
  /-- A MULA-class operation: its results chain (R269). -/
  mula : Bool
  deriving DecidableEq, Repr

/-- Nothing done, no flag touched (NOP; R251). -/
def aluNone : AluOut := ⟨[], [], none, none, false, false⟩

/-- A result in one accumulator, with Z, N, V and E from it. -/
def aluAcc (a : Nat) (r : BitVec 56 × Bool) : AluOut :=
  ⟨[(a, r.1)], [], some (r.1.toInt = 0, r.1.toInt < 0, r.2), some (!accFits r.1.toInt), false, false⟩

/-- A result in one data register: Z, N and V; E stays. -/
def aluD (f : Nat) (r : BitVec 24 × Bool) : AluOut :=
  ⟨[], [(f, r.1)], some (r.1.toInt = 0, r.1.toInt < 0, r.2), none, false, false⟩

/-- Four results, flags from lane 0, V from any (R251). -/
def aluFour (a : Nat) (r : Nat → BitVec 56 × Bool) (mula : Bool) : AluOut :=
  let z := aluAcc a (r 0)
  { z with
    accs := [(a, (r 0).1), (a + 1, (r 1).1), (a + 2, (r 2).1), (a + 3, (r 3).1)],
    znv := some ((r 0).1.toInt = 0, (r 0).1.toInt < 0, (r 0).2 || (r 1).2 || (r 2).2 || (r 3).2),
    late := true, mula := mula }

def AluOut.latency2 (o : AluOut) (mula : Bool) : AluOut := { o with late := true, mula := mula }

/-- The upper limit of an accumulator result, and that of a rounded one (R250). -/
def accTop : Int := 2 ^ 46 - 1
def accTopRnd : Int := 2 ^ 46 - 2 ^ 23

/-- The arithmetic operations (R240). `ra`: accumulators; `rd`: data registers, both as integers. -/
def arith (op a x y f : Nat) (sat : Bool) (ra rd : Nat → Int) : AluOut :=
  let b := f % 8
  let dx := rd x * 2 ^ 23
  let acc := fun (v : Int) => aluAcc a (storeAcc sat accTop v)
  let mul4 := fun (base : Nat → Int) (sign : Int) (y : Nat → Nat) (mula : Bool) =>
    aluFour a (fun l => storeAcc sat accTop (base (a + l) + sign * (rd (x + l) * rd (y l)))) mula
  match op with
  | 0x01 => (acc (rd x * rd y)).latency2 false
  | 0x02 => (acc (ra a + rd x * rd y)).latency2 true
  | 0x03 => (acc (ra a - rd x * rd y)).latency2 true
  | 0x04 => mul4 (fun _ => 0) 1 (fun l => y + l) false
  | 0x05 => mul4 ra 1 (fun l => y + l) true
  | 0x06 => mul4 ra (-1) (fun l => y + l) true
  | 0x07 => mul4 (fun _ => 0) 1 (fun _ => y) false
  | 0x08 => mul4 ra 1 (fun _ => y) true
  | 0x09 => (aluAcc a (storeAcc sat (if sat then accTopRnd else accTop) (round23 (ra a + rd x * rd y)))).latency2 true
  | 0x10 => acc (ra a + ra b)
  | 0x11 => acc (ra a - ra b)
  | 0x12 => acc (ra a + dx)
  | 0x13 => acc (ra a - dx)
  | 0x14 => acc dx
  | 0x15 => aluD f (accToD sat (ra a))
  | 0x16 => aluAcc a (storeAcc sat (if sat then accTopRnd else accTop) (round23 (ra a)))
  | 0x17 => acc (-(ra a))
  | 0x18 => acc (ra a).natAbs
  | 0x19 => { aluNone with accs := [(a, 0)] }
  | 0x1A => acc (ra a * 2 ^ f)
  | 0x1B => acc (ra a / 2 ^ f)
  | 0x1C => { aluAcc a (BitVec.ofInt 56 (normalise (ra a)), false) with ds := [(f, BitVec.ofInt 24 (exponentOf (ra a)))] }
  | 0x1D => aluD f (BitVec.ofInt 24 (exponentOf (ra a)), false)
  | 0x1E => acc (max (ra a) (ra b))
  | 0x1F => acc (min (ra a) (ra b))
  | 0x20 =>
    let d := ra a - ra b
    { aluNone with znv := some (d = 0, d < 0, false), e := some (!accFits d) }
  | 0x21 => acc (min (max (ra a) (-(dx.natAbs : Int))) dx.natAbs)
  | 0x22 => aluD f (storeD sat (rd x + rd y))
  | 0x23 => aluD f (storeD sat (rd x - rd y))
  | 0x24 => aluD f (BitVec.ofInt 24 (rd x) &&& BitVec.ofInt 24 (rd y), false)
  | 0x25 => aluD f (BitVec.ofInt 24 (rd x) ||| BitVec.ofInt 24 (rd y), false)
  | 0x26 => aluD f (BitVec.ofInt 24 (rd x) ^^^ BitVec.ofInt 24 (rd y), false)
  | 0x27 => (aluD f (accToD sat (rd x * rd y))).latency2 false
  | 0x28 =>
    let d := rd x - rd y
    { aluNone with znv := some (d = 0, d < 0, false) }
  | _ => aluNone

/-- Opcodes that the arithmetic slot lists (R240). -/
def arithListed (op : Nat) : Bool := op ≤ 0x09 || (0x10 ≤ op && op ≤ 0x28)

/-- The limits of the 4-lane operations (R241). -/
def fourLane (op a x y : Nat) : Bool :=
  if 0x04 ≤ op ∧ op ≤ 0x08 then a % 4 = 0 && x % 4 = 0 && (0x07 ≤ op || y % 4 = 0) else true

/-- SR with one flag replaced. -/
def srPut (sr : BitVec 12) (i : Nat) (b : Bool) : BitVec 12 :=
  if b then sr ||| BitVec.ofNat 12 (2 ^ i) else sr &&& ~~~ BitVec.ofNat 12 (2 ^ i)

/-- SR with the flags of the arithmetic slot (R251): Z bit 0, N 1, V 2, E 3; L (bit 4) is set with V. -/
def srArith (sr : BitVec 12) (o : AluOut) : BitVec 12 :=
  let put := srPut
  let r1 := match o.znv with
    | some (z, n, v) => (if v then (put (put (put sr 0 z) 1 n) 2 v) ||| 16#12 else put (put (put sr 0 z) 1 n) 2 v)
    | none => sr
  match o.e with
  | some e => put r1 3 e
  | none => r1

/-- COND of R239, decided by the flags in force. -/
def condHolds (c : Nat) (sr : BitVec 12) : Bool :=
  match c with
  | 0 => true
  | 1 => sr.getLsbD 0
  | 2 => !sr.getLsbD 0
  | 3 => sr.getLsbD 1
  | 4 => !sr.getLsbD 1
  | 5 => sr.getLsbD 5
  | 6 => !sr.getLsbD 5
  | _ => sr.getLsbD 6

end Sys2Proof.Machine
end

