-- ==== Sys2Proof/Machine/LoopEngine.lean ====
section
/-!
DEFINITION. Loop Engines: packets, the three slots of a parallel packet, control and immediate packets, latencies, loops,
events, ports, faults, access and the spare MAC lane (07_loop_engines.md, R233 to R280). The arithmetic stands in
Flags.lean. Each command of the engine's operations issues the packet at PC, whole, where that operation names the packet.
-/

namespace Sys2Proof.Machine

/-- A refused write of an engine (R272, R274). -/
def leReject (s : State) (r : Nat) : State := s.reject F.LE_EVT_REJECT F.LE_STAT_REJ_CNT (leB r)

/-! ### Memories (R70, R253): by BAR0 address of the word -/

def xyAddr (r : Nat) (y : Bool) (n : Nat) : Nat := rgnBase r + (if y then 0xA_0000 else 0x9_0000) + 4 * (n % 16384)

/-- A word of X or Y memory. -/
def xyGet (s : State) (r : Nat) (y : Bool) (n : Nat) : BitVec 24 := (s.lemem.get (xyAddr r y n)).setWidth 24
def xySet (s : State) (r : Nat) (y : Bool) (n : Nat) (v : BitVec 24) : State :=
  { s with lemem := s.lemem.set (xyAddr r y n) (v.setWidth 32) }

/-! ### Packet fields and legality (R237, R241 to R247) -/

/-- An IN names an even register (R242). -/
def moveLegal (v : Nat) : Bool := !(v / 2 ^ 13 % 8 = 4 && v / 2 ^ 8 % 2 = 1)

/-- The operands that a control operation uses, as a mask of bits [51:0] (R245). -/
def copUses (c : Nat) : Nat :=
  let addr := 0x1FFF
  let n := 0xF * 2 ^ 20
  let reg := 0x1F * 2 ^ 24
  let rr := 2 ^ 29
  let cnt := 0xFFFF * 2 ^ 32
  match c with
  | 1 => addr | 2 => addr
  | 5 => addr + rr + cnt | 6 => addr + reg + rr
  | 8 => n + reg | 0xA => n | 0xF => reg | 0x10 => reg
  | _ => 0

/-- The IMM bits that a class takes (R247). -/
def immBits (cls : Nat) : Nat := match cls with | 0 => 24 | 5 => 12 | 6 => 4 | _ => 14

/-- A packet that is legal as it stands in memory. -/
def pktLegal (w : DWord) : Bool :=
  match pf w 63 62 with
  | 0 =>
    pf w 57 56 = 0 && arithListed (pf w 55 50) && fourLane (pf w 55 50) (pf w 49 47) (pf w 46 42) (pf w 41 37)
      && moveLegal (pf w 31 16) && moveLegal (pf w 15 0)
  | 1 =>
    let cls := pf w 57 55
    pf w 61 61 = 0 && pf w 49 24 = 0 && cls != 7 && pf w 23 0 < 2 ^ immBits cls
      && (cls = 0 || (if cls < 5 then pf w 54 50 < 8 else pf w 54 50 = 0))
  | 2 =>
    let c := pf w 57 52
    pf w 61 61 = 0 && c ≤ 0x10 && (pf w 51 0 &&& (2 ^ 52 - 1 - copUses c)) = 0
      && (if c = 8 ∨ c = 0xA then pf w 23 20 < 8 else true)
      && (if c = 8 then pf w 28 24 % 2 = 0 else true)
      && (if c = 0xF ∨ c = 0x10 then pf w 28 24 ≤ 13 else true)
  | _ => false

/-- The operation that names a packet: the arithmetic slot's, else the X slot's, else the Y slot's; a packet whose slots
do nothing is NOP. -/
inductive LeOp where
  | arith (op : Nat)
  | move (mop : Nat)
  | ctl (cop : Nat)
  | imm (cls : Nat)
  | illegal
  deriving DecidableEq, Repr

def opOf (w : DWord) : LeOp :=
  if !pktLegal w then .illegal
  else match pf w 63 62 with
  | 0 =>
    if pf w 55 50 ≠ 0 then .arith (pf w 55 50)
    else if pf w 31 29 ≠ 0 then .move (pf w 31 29)
    else if pf w 15 13 ≠ 0 then .move (pf w 15 13)
    else .arith 0
  | 1 => .imm (pf w 57 55)
  | _ => .ctl (pf w 57 52)

/-! ### Registers (R235, R257, R262) -/

/-- The set in use: the shadow set in a handler. -/
def EngS.cur (x : EngS) : RegSet := if x.handler then x.shadow else x.main
def EngS.setOf (x : EngS) (sh : Bool) : RegSet := if sh then x.shadow else x.main
def EngS.putSet (x : EngS) (sh : Bool) (y : RegSet) : EngS := if sh then { x with shadow := y } else { x with main := y }
def EngS.putCur (x : EngS) (y : RegSet) : EngS := x.putSet x.handler y

/-- The physical entry of Dk, k from 16 to 31 (R257). -/
def EngS.phys (x : EngS) (k : Nat) : Nat := (k + 16 - x.rofs) % 16

/-- A data register by logical name, of a set. -/
def EngS.dOf (x : EngS) (sh : Bool) (k : Nat) : BitVec 24 :=
  if k < 16 then (x.setOf sh).d.get k else x.rot.get (x.phys k)
def EngS.dreg (x : EngS) (k : Nat) : BitVec 24 := x.dOf x.handler k

/-- The register that a write of Dk issued now reaches: renamed at issue. -/
def EngS.dTgt (x : EngS) (k : Nat) : Tgt := if k < 16 then .dreg x.handler k else .rot (x.phys k)
def EngS.aTgt (x : EngS) (i : Nat) : Tgt := .acc x.handler i

/-- A result lands in its register. -/
def EngS.put (x : EngS) (t : Tgt) (v : BitVec 56) : EngS :=
  match t with
  | .acc sh i => let y := x.setOf sh; x.putSet sh { y with a := y.a.set i v }
  | .dreg sh i => let y := x.setOf sh; x.putSet sh { y with d := y.d.set i (v.setWidth 24) }
  | .rot i => { x with rot := x.rot.set i (v.setWidth 24) }

/-- The results due by a cycle land, in issue order (R244, R269). -/
def EngS.landBy (x : EngS) (n : Nat) : EngS :=
  let y := (x.pend.filter fun p => p.land ≤ n).foldl (fun x p => x.put p.tgt p.val) x
  { y with pend := x.pend.filter fun p => n < p.land }

/-- k cycles pass. -/
def EngS.pass (x : EngS) (k : Nat) : EngS := { (x.landBy (x.cyc + 1)).landBy (x.cyc + k) with cyc := x.cyc + k }

/-- An engine that stops: what is on its way lands. -/
def EngS.drain (x : EngS) : EngS := (x.landBy (x.cyc + 1)).landBy (x.cyc + 2)

/-- An accumulator as a MULA-class operation takes it (R269): forwarded from a MULA-class operation of the cycle before. -/
def EngS.accFor (x : EngS) (mula : Bool) (i : Nat) : Int :=
  match x.pend.find? fun p => mula && p.mula && decide (p.tgt = x.aTgt i) && p.land = x.cyc + 1 with
  | some p => p.val.toInt
  | none => (x.cur.a.get i).toInt

/-! ### Loops and the next packet (R255 to R257) -/

def EngS.loopList (x : EngS) : List LoopE := if x.handler then x.shLoops else x.loops
def EngS.putLoops (x : EngS) (l : List LoopE) : EngS := if x.handler then { x with shLoops := l } else { x with loops := l }

/-- ROFS one on (R257). -/
def EngS.rotate (x : EngS) (b : Bool) : EngS := if b then { x with rofs := (x.rofs + 1) % 16 } else x

/-- The end of a packet at an address: at the last packet of the innermost loop, back to its start, or, when the count
has run out, the end of the loop (LOOP_END). -/
def EngS.seqNext (x : EngS) (a : Nat) : EngS :=
  let y := { x with pc := (a + 1) % 8192 }
  match x.loopList with
  | [] => y
  | l :: ls =>
    if l.last ≠ a then y
    else match l.count with
    | none => { (x.rotate l.rot) with pc := l.start }
    | some n =>
      if n ≤ 1 then { y with atEnd := some a }
      else ({ (x.rotate l.rot) with pc := l.start }).putLoops ({ l with count := some (n - 1) } :: ls)

/-- The innermost loop is left at its end (R255, R257); an enclosing loop that ends at the same packet takes its turn. -/
def EngS.leaveLoop (x : EngS) : EngS :=
  match x.atEnd, x.loopList with
  | some a, l :: ls => (({ x with atEnd := none }.rotate l.rot).putLoops ls).seqNext a
  | _, _ => { x with atEnd := none }

/-- Every loop that runs out at the packet is left, up to the four levels of the stack (R255). -/
def EngS.leaveLoops (x : EngS) : EngS := x.leaveLoop.leaveLoop.leaveLoop.leaveLoop

/-! ### When a packet issues (R233, R272, R273) -/

/-- The engine issues a packet: its clock runs, no Torpor covers it, it is Running or in a handler, or Halted with STEP. -/
def leReady (s : State) (r : Nat) : Bool :=
  let x := s.eng r
  s.clk r = 0 && !x.paused && x.atEnd.isNone
    && (x.mode = .running || (x.mode = .halted && s.gb F.LE_CTRL_STEP (leB r)))

/-- The packet at PC. -/
def atPc (s : State) (r : Nat) : DWord := packet s r (s.eng r).pc

/-- COND of the packet at PC (R239). -/
def leCond (s : State) (r : Nat) : Bool := condHolds (pf (atPc s r) 60 58) (s.eng r).cur.sr

/-- A loop to ADDR is illegal (R256): ADDR not after the LOOP, or a last packet that branches or loops. -/
def loopBad (s : State) (r a : Nat) : Bool :=
  let w := packet s r a
  decide (a ≤ (s.eng r).pc)
    || (match opOf w with | .ctl c => decide ((1 ≤ c ∧ c ≤ 7)) | _ => false)

/-- Why the packet at PC is not issued, as LE_FAULT.CAUSE (R273): 0 none, 1 ILLEGAL, 2 LSTACK, 3 RSTACK. -/
def leFaultCause (s : State) (r : Nat) : Nat :=
  let x := s.eng r
  let w := atPc s r
  if !pktLegal w then 1
  else if !leCond s r then 0
  else match opOf w with
  | .ctl 0x02 => if 8 ≤ x.rets.length then 3 else 0
  | .ctl 0x03 => if x.rets.isEmpty then 3 else 0
  | .ctl 0x04 => if x.handler then 0 else 1
  | .ctl 0x05 =>
    if loopBad s r (pf w 12 0) then 1 else if (if x.handler then 1 else 4) ≤ x.loopList.length then 2 else 0
  | .ctl 0x06 =>
    if loopBad s r (pf w 12 0) then 1
    else if (x.dreg (pf w 28 24)).toNat % 65536 ≠ 0 ∧ (if x.handler then 1 else 4) ≤ x.loopList.length then 2 else 0
  | .ctl 0x07 => if x.loopList.isEmpty then 2 else 0
  | .ctl 0x0F => if (x.dreg (pf w 28 24)).toNat &&& 0xF0_0003 = 0 then 0 else 1
  | .ctl 0x10 => if (x.dreg (pf w 28 24)).toNat &&& 0xF0_0003 = 0 then 0 else 1
  | _ => 0

/-- A stepped engine is Halted again after its packet (R272); START-like bits read 0 when done (R16). -/
def leStepped (s : State) (r : Nat) : State :=
  if s.gb F.LE_CTRL_STEP (leB r) then
    (s.sb F.LE_CTRL_STEP (leB r) 0 false).setEng r { (s.eng r).drain with mode := .halted }
  else s

/-- A packet that took k cycles ends at its own address, in sequence. -/
def leSeq (s : State) (r k : Nat) : State :=
  let x := s.eng r
  leStepped (s.setEng r ((x.pass k).seqNext x.pc)) r

/-- A taken branch: two cycles (R245). -/
def leBranch (s : State) (r addr : Nat) : State :=
  leStepped (s.setEng r { ((s.eng r).pass 2) with pc := addr % 8192 }) r

/-- The packet at PC issues if the engine is ready and an operation names it; `f` is what the packet does when COND
holds. -/
def leIssue (s : State) (r : Nat) (op : LeOp) (f : State → State) : State :=
  if leReady s r && opOf (atPc s r) = op && leFaultCause s r = 0 then
    let s1 := s.setEng r { s.eng r with stored := [] }
    if leCond s1 r then f s1 else leSeq s1 r 1
  else s

/-! ### Move slots (R242 to R244, R253, R254, R265 to R268) -/

/-- A pointer modified by MOD (R253, R254). -/
def modPtr (x : EngS) (ptr m : Nat) : BitVec 14 :=
  let p := (x.cur.p.get ptr).toNat
  let d : Int := match m with | 1 => 1 | 2 => -1 | _ => (x.m.get ptr).toInt
  let n := (x.l.get ptr).toNat
  let b := (x.b.get ptr).toNat
  if m = 0 then x.cur.p.get ptr
  else if n = 0 then BitVec.ofInt 14 (p + d)
  else BitVec.ofInt 14 (b + ((p : Int) - b + d) % n)

/-- What the slots of a packet have produced so far: the state, the Herd Time copy that an HTL of the packet reads, results
of latency 2 and 1, pointers, flags of SR. -/
structure Slots where
  s : State
  herd : Option DWord
  late : List (Tgt × BitVec 56 × Bool)
  now : List (Tgt × BitVec 56)
  ptrs : List (Nat × BitVec 14)
  flags : List (Nat × Bool)

/-- A transfer read from an input port (R265): a new one, or on an empty port the last delivered again, stale; a port
that has delivered none gives free values. -/
def takePort (s : State) (r p : Nat) : Xfer × Bool × State :=
  let x := s.eng r
  let q := x.ports.get p
  match q.buf with
  | t :: ts => (t, false, s.setEng r { x with ports := x.ports.set p ⟨ts, some t⟩ })
  | [] =>
    let s1 := (s.bump F.LE_INp_STAT_STALE (leB r) p).sb F.LE_EVT_STALE (leB r) 0 true
    match q.last with
    | some t => (t, true, s1)
    | none =>
      let f := s1.free
      (⟨f.1.setWidth 24, (f.1 >>> 24).setWidth 24⟩, true, f.2)

/-- The flags of an IN (R265, R266): ST, and Q where the port has QEN. -/
def inFlags (s : State) (r p : Nat) (t : Xfer) (stale : Bool) : List (Nat × Bool) :=
  (6, stale) :: (if s.gb F.LE_INp_CFG_QEN (leB r) p then [(5, t.w1.getLsbD 18 || t.w1.getLsbD 17)] else [])

/-- IN (R242): word 0 and word 1 of a port, latency 2. -/
def slotIn (z : Slots) (r p reg : Nat) : Slots :=
  let x := z.s.eng r
  let t := takePort z.s r p
  { z with
    s := t.2.2,
    late := z.late ++ [(x.dTgt reg, t.1.w0.setWidth 56, false), (x.dTgt (reg + 1), t.1.w1.setWidth 56, false)],
    flags := z.flags ++ inFlags z.s r p t.1 t.2.1 }

/-- Word 1 of an OUT (R243); with REG = 31 and IDX = 31 no register is named, and the word is a free value. -/
def outWord1 (s : State) (r p idx reg : Nat) : BitVec 24 × State :=
  let x := s.eng r
  let b := leB r
  if idx < 16 then (BitVec.ofNat 24 (s.gf F.LE_OUTp_CFG_HRGN_A b p * 2 ^ 20 + idx * 2 ^ 16), s)
  else if idx < 31 then (BitVec.ofNat 24 (s.gf F.LE_OUTp_CFG_HRGN_B b p * 2 ^ 20 + idx % 16 * 2 ^ 16), s)
  else if reg < 31 then (x.dreg (reg + 1), s)
  else
    let f := s.free
    (f.1.setWidth 24, f.2)

/-- A transfer that an output port's destination refuses (R267). -/
def outDrop (s : State) (r p : Nat) : State :=
  (s.bump F.LE_OUTp_STAT_DROP (leB r) p).sb F.LE_EVT_OUT_DROP (leB r) 0 true

/-- The record of a transfer on a spoor port (R268); how region, port and PC of the OUT
share its bytes 8 to 11 is not stated (Config.outOrigin). -/
def spoorTransfer (s : State) (r : Rgn) (p : Fin 8) (t : Xfer) : State :=
  let b := leB r.val
  let x := s.eng r.val
  let cls := if s.gb F.LE_OUTp_CFG_CLASS b p.val then 3 else 2
  let flow := s.gf F.LE_OUTp_CFG_FLOW b p.val
  let src := srcRgn r (unitLeOut p)
  let i := mkItem s src 2 cls flow 0 (payloadOf [(0, 4, (t.w0.signExtend 32).toNat), (4, 4, (t.w1.signExtend 32).toNat),
    (8, 4, (Config.outOrigin r.val p.val x.pc).toNat), (12, 4, x.outSeq.get p.val % 2 ^ 32)])
  let s1 := s.setEng r.val { x with outSeq := x.outSeq.set p.val (x.outSeq.get p.val + 1) }
  let s2 := if wouldDrop s1 src cls flow then outDrop s1 r.val p.val else s1
  s2.produce i

/-- OUT (R267): a transfer leaves an output port for its destination. -/
def sendOut (s : State) (r : Rgn) (p : Fin 8) (t : Xfer) : State :=
  if s.gf F.LE_OUTp_CFG_DEST (leB r.val) p.val = 3 then spoorTransfer s r p t
  else
    let x := s.eng r.val
    s.setEng r.val { x with outq := x.outq.set p.val (x.outq.get p.val ++ [t]) }

/-- The region's copy of Herd Time as an HTL reads it, within 16 counts of the Hub's (R52), a free value; the slots of one
packet read one copy. -/
def readHerd (z : Slots) (r : Nat) : DWord × Slots :=
  match z.herd with
  | some h => (h, z)
  | none =>
    let f := z.s.free
    let ofs : Int := (f.1.toNat % 33 : Nat) - 16
    let h : DWord := if z.s.hub.timeOn then z.s.hub.time + BitVec.ofInt 64 ofs else 0
    (h, { z with s := f.2.setRgn r { z.s.rgnS r with timeOfs := ofs }, herd := some h })

/-- A special register of MOVS (R236), as it stands before any slot of the packet writes (R238); `x`: the engine at
issue. -/
def special (z : Slots) (x : EngS) (r n : Nat) : BitVec 24 × Slots :=
  match n with
  | 0 =>
    let h := readHerd z r
    (h.1.setWidth 24, { h.2 with s := h.2.s.setEng r { h.2.s.eng r with ht := h.1 } })
  | 1 => ((x.ht >>> 24).setWidth 24, z)
  | 2 => (BitVec.ofNat 24 (x.ht >>> 48).toNat, z)
  | 3 => (BitVec.ofNat 24 (z.s.gf F.RGN_CAP_CAP (rgB r)), z)
  | 4 => (BitVec.ofInt 24 (signedOf 16 (z.s.gf F.RGN_TEMP_TEMP (rgB r))), z)
  | 5 => (x.cur.sr.setWidth 24, z)
  | 6 => (BitVec.ofNat 24 x.rofs, z)
  | _ => (BitVec.ofNat 24 x.cyc, z)

/-- One move slot (R242). `x`: the engine at issue, before any slot of the packet has written (R238); `y`: the Y slot; `v`: its
16 bits; `drop`: its OUT yields to the Y slot's on the same port. -/
def moveSlot (z : Slots) (x : EngS) (r : Rgn) (y : Bool) (v : Nat) (sat drop : Bool) : Slots :=
  let reg := v / 2 ^ 8 % 32
  let ptr := v / 2 ^ 5 % 8
  let m := v / 2 ^ 3 % 4
  let aux := v % 8
  let a := (x.cur.p.get ptr).toNat
  let moved := if m = 0 then z.ptrs else z.ptrs ++ [(ptr, modPtr x ptr m)]
  let store := fun (w : BitVec 24) =>
    let s1 := xySet z.s r.val y a w
    s1.setEng r.val { s1.eng r.val with stored := (y, a) :: (s1.eng r.val).stored }
  match v / 2 ^ 13 % 8 with
  | 1 => { z with late := z.late ++ [(x.dTgt reg, (xyGet z.s r.val y a).setWidth 56, false)], ptrs := moved }
  | 2 => { z with s := store (x.dreg reg), ptrs := moved }
  | 3 =>
    let w := accToD sat (x.cur.a.get aux).toInt
    { z with s := store w.1, ptrs := moved, flags := if w.2 then z.flags ++ [(4, true)] else z.flags }
  | 4 => slotIn z r.val aux reg
  | 5 =>
    let p : Fin 8 := ⟨aux % 8, Nat.mod_lt _ (by decide)⟩
    let w1 := outWord1 z.s r.val aux (v / 2 ^ 3 % 32) reg
    { z with s := if drop then outDrop w1.2 r.val aux else sendOut w1.2 r p ⟨x.dreg reg, w1.1⟩ }
  | 6 =>
    let w := special z x r.val aux
    { w.2 with now := z.now ++ [(x.dTgt reg, w.1.setWidth 56)] }
  | 7 => { z with ptrs := moved }
  | _ => z

/-- A parallel packet whose COND holds (R238, R240 to R244): all slots read at issue; of one packet's writes of one
register the arithmetic slot's stands, before the Y slot's, before the X slot's. -/
def parallel (r : Rgn) (s : State) : State :=
  let x := s.eng r.val
  let w := atPc s r.val
  let sat := pf w 61 61 = 1
  let op := pf w 55 50
  let late4 := decide ((2 ≤ op ∧ op ≤ 3) ∨ (5 ≤ op ∧ op ≤ 6) ∨ (8 ≤ op ∧ op ≤ 9))
  let o := arith op (pf w 49 47) (pf w 46 42) (pf w 41 37) (pf w 36 32) sat (fun i => x.accFor late4 i)
    (fun k => (x.dreg k).toInt)
  let twoOuts := pf w 31 29 = 5 && pf w 15 13 = 5 && pf w 18 16 = pf w 2 0
  let z0 : Slots := ⟨s, none, [], [], [], []⟩
  let z := moveSlot (moveSlot z0 x r false (pf w 31 16) sat twoOuts) x r true (pf w 15 0) sat false
  let res := o.accs.map (fun p => (x.aTgt p.1, p.2)) ++ o.ds.map (fun p => (x.dTgt p.1, p.2.setWidth 56))
  let late := z.late ++ (if o.late then res.map fun p => (p.1, p.2, o.mula) else [])
  let now := z.now ++ (if o.late then [] else res)
  let y := (z.s.eng r.val).pass 1
  let y1 := now.foldl (fun e p => e.put p.1 p.2) y
  let c := y1.cur
  let y2 := y1.putCur { c with
    p := z.ptrs.foldl (fun t p => t.set p.1 p.2) c.p,
    sr := srArith (z.flags.foldl (fun sr f => srPut sr f.1 f.2) c.sr) o }
  let y3 := { y2 with pend := y2.pend ++ late.map fun (p : Tgt × BitVec 56 × Bool) => PendW.mk (x.cyc + 2) p.1 p.2.1 p.2.2 }
  leStepped (z.s.setEng r.val (y3.seqNext x.pc)) r.val

/-- The command of an arithmetic operation. -/
def issueArith (r : Rgn) (op : Nat) (s : State) : Host.Outcome State Fault Refusal :=
  s.after (leIssue s r.val (.arith op) (parallel r))

/-- The command of a move operation. -/
def issueMove (r : Rgn) (mop : Nat) (s : State) : Host.Outcome State Fault Refusal :=
  s.after (leIssue s r.val (.move mop) (parallel r))

/-- NOP (R240): The arithmetic slot does nothing. -/
def execNop (r : Rgn) (s : State) : Host.Outcome State Fault Refusal := issueArith r 0x0 s
/-- MUL (R240): Aa = Dx × Dy. -/
def execMul (r : Rgn) (s : State) : Host.Outcome State Fault Refusal := issueArith r 0x1 s
/-- MULA (R240): Aa = Aa + Dx × Dy. -/
def execMula (r : Rgn) (s : State) : Host.Outcome State Fault Refusal := issueArith r 0x2 s
/-- MULS (R240): Aa = Aa − Dx × Dy. -/
def execMuls (r : Rgn) (s : State) : Host.Outcome State Fault Refusal := issueArith r 0x3 s
/-- MUL4 (R240): Four-lane multiply into four accumulators. -/
def execMul4 (r : Rgn) (s : State) : Host.Outcome State Fault Refusal := issueArith r 0x4 s
/-- MULA4 (R240): Four-lane multiply-accumulate. -/
def execMula4 (r : Rgn) (s : State) : Host.Outcome State Fault Refusal := issueArith r 0x5 s
/-- MULS4 (R240): Four-lane multiply-subtract. -/
def execMuls4 (r : Rgn) (s : State) : Host.Outcome State Fault Refusal := issueArith r 0x6 s
/-- MUL4B (R240): Four-lane multiply by one broadcast operand. -/
def execMul4b (r : Rgn) (s : State) : Host.Outcome State Fault Refusal := issueArith r 0x7 s
/-- MULA4B (R240): Four-lane multiply-accumulate by one broadcast operand. -/
def execMula4b (r : Rgn) (s : State) : Host.Outcome State Fault Refusal := issueArith r 0x8 s
/-- MULAR (R240): Multiply-accumulate then round under R250. -/
def execMular (r : Rgn) (s : State) : Host.Outcome State Fault Refusal := issueArith r 0x9 s
/-- ADD (R240): Aa = Aa + Ab. -/
def execAdd (r : Rgn) (s : State) : Host.Outcome State Fault Refusal := issueArith r 0x10 s
/-- SUB (R240): Aa = Aa − Ab. -/
def execSub (r : Rgn) (s : State) : Host.Outcome State Fault Refusal := issueArith r 0x11 s
/-- ADDD (R240): Aa = Aa + Dx. -/
def execAddd (r : Rgn) (s : State) : Host.Outcome State Fault Refusal := issueArith r 0x12 s
/-- SUBD (R240): Aa = Aa − Dx. -/
def execSubd (r : Rgn) (s : State) : Host.Outcome State Fault Refusal := issueArith r 0x13 s
/-- MOVA (R240): Aa = Dx placed as a 1.23 value. -/
def execMova (r : Rgn) (s : State) : Host.Outcome State Fault Refusal := issueArith r 0x14 s
/-- MOVD (R249): DF = Aa rounded and limited to 1.23. -/
def execMovd (r : Rgn) (s : State) : Host.Outcome State Fault Refusal := issueArith r 0x15 s
/-- RND (R250): Aa rounded to 1.23 with bits [22:0] cleared. -/
def execRnd (r : Rgn) (s : State) : Host.Outcome State Fault Refusal := issueArith r 0x16 s
/-- NEG (R240): Aa = −Aa. -/
def execNeg (r : Rgn) (s : State) : Host.Outcome State Fault Refusal := issueArith r 0x17 s
/-- ABS (R240): Aa = abs(Aa). -/
def execAbs (r : Rgn) (s : State) : Host.Outcome State Fault Refusal := issueArith r 0x18 s
/-- CLR (R240): Aa = 0. -/
def execClr (r : Rgn) (s : State) : Host.Outcome State Fault Refusal := issueArith r 0x19 s
/-- ASL (R240): Aa shifted left by F. -/
def execAsl (r : Rgn) (s : State) : Host.Outcome State Fault Refusal := issueArith r 0x1a s
/-- ASR (R240): Aa shifted right arithmetically by F. -/
def execAsr (r : Rgn) (s : State) : Host.Outcome State Fault Refusal := issueArith r 0x1b s
/-- NORM (R252): Aa normalised and its exponent written to DF. -/
def execNorm (r : Rgn) (s : State) : Host.Outcome State Fault Refusal := issueArith r 0x1c s
/-- EXP (R252): DF = exponent of Aa. -/
def execExp (r : Rgn) (s : State) : Host.Outcome State Fault Refusal := issueArith r 0x1d s
/-- MAX (R240): Aa = max(Aa, Ab). -/
def execMax (r : Rgn) (s : State) : Host.Outcome State Fault Refusal := issueArith r 0x1e s
/-- MIN (R240): Aa = min(Aa, Ab). -/
def execMin (r : Rgn) (s : State) : Host.Outcome State Fault Refusal := issueArith r 0x1f s
/-- CMP (R240): Flags from the exact difference Aa − Ab. -/
def execCmp (r : Rgn) (s : State) : Host.Outcome State Fault Refusal := issueArith r 0x20 s
/-- LIM (R240): Aa limited to ±abs(Dx). -/
def execLim (r : Rgn) (s : State) : Host.Outcome State Fault Refusal := issueArith r 0x21 s
/-- DADD (R240): DF = Dx + Dy. -/
def execDadd (r : Rgn) (s : State) : Host.Outcome State Fault Refusal := issueArith r 0x22 s
/-- DSUB (R240): DF = Dx − Dy. -/
def execDsub (r : Rgn) (s : State) : Host.Outcome State Fault Refusal := issueArith r 0x23 s
/-- DAND (R240): DF = Dx AND Dy. -/
def execDand (r : Rgn) (s : State) : Host.Outcome State Fault Refusal := issueArith r 0x24 s
/-- DOR (R240): DF = Dx OR Dy. -/
def execDor (r : Rgn) (s : State) : Host.Outcome State Fault Refusal := issueArith r 0x25 s
/-- DXOR (R240): DF = Dx XOR Dy. -/
def execDxor (r : Rgn) (s : State) : Host.Outcome State Fault Refusal := issueArith r 0x26 s
/-- DMUL (R240): DF = Dx × Dy rounded to 1.23. -/
def execDmul (r : Rgn) (s : State) : Host.Outcome State Fault Refusal := issueArith r 0x27 s
/-- DCMP (R240): Flags from the exact difference Dx − Dy. -/
def execDcmp (r : Rgn) (s : State) : Host.Outcome State Fault Refusal := issueArith r 0x28 s

/-- LD (R242): Load a D register from X or Y memory and modify the pointer. -/
def execLd (r : Rgn) (s : State) : Host.Outcome State Fault Refusal := issueMove r 0x1 s
/-- ST (R242): Store a D register to X or Y memory and modify the pointer. -/
def execSt (r : Rgn) (s : State) : Host.Outcome State Fault Refusal := issueMove r 0x2 s
/-- STA (R242): Store an accumulator rounded and limited to 1.23. -/
def execSta (r : Rgn) (s : State) : Host.Outcome State Fault Refusal := issueMove r 0x3 s
/-- IN (R265): Read two words from an input port, stale if the port is empty. -/
def execIn (r : Rgn) (s : State) : Host.Outcome State Fault Refusal := issueMove r 0x4 s
/-- OUT (R243): Send a two-word transfer from an output port, never waiting. -/
def execOut (r : Rgn) (s : State) : Host.Outcome State Fault Refusal := issueMove r 0x5 s
/-- MOVS (R236): Read a special register into a D register. -/
def execMovs (r : Rgn) (s : State) : Host.Outcome State Fault Refusal := issueMove r 0x6 s
/-- MODP (R242): Modify a pointer without a memory access. -/
def execModp (r : Rgn) (s : State) : Host.Outcome State Fault Refusal := issueMove r 0x7 s

/-! ### Immediate packets (R247) -/

/-- The engine after an immediate of a class: usable by the next packet. Bits 11:8 of SR are reserved and stay 0 (R12, R251). -/
def immPut (x : EngS) (cls i imm : Nat) : EngS :=
  let c := x.cur
  match cls with
  | 0 => x.put (x.dTgt i) (BitVec.ofNat 56 imm)
  | 1 => x.putCur { c with p := c.p.set i (BitVec.ofNat 14 imm) }
  | 2 => { x with m := x.m.set i (BitVec.ofNat 14 imm) }
  | 3 => { x with l := x.l.set i (BitVec.ofNat 14 imm) }
  | 4 => { x with b := x.b.set i (BitVec.ofNat 14 imm) }
  | 5 => x.putCur { c with sr := BitVec.ofNat 12 (imm % 256) }
  | _ => { x with rofs := imm % 16 }

/-- An immediate packet whose COND holds. -/
def immediate (r : Rgn) (s : State) : State :=
  let x := s.eng r.val
  let w := atPc s r.val
  let cls := pf w 57 55
  let y := x.pass 1
  leStepped (s.setEng r.val ((immPut y cls (pf w 54 50) (pf w 23 0)).seqNext x.pc)) r.val

/-- The command of an immediate class. -/
def issueImm (r : Rgn) (cls : Nat) (s : State) : Host.Outcome State Fault Refusal :=
  s.after (leIssue s r.val (.imm cls) (immediate r))

/-- IMM_D (R247): Immediate packet writing a D register. -/
def execImmD (r : Rgn) (s : State) : Host.Outcome State Fault Refusal := issueImm r 0x0 s
/-- IMM_P (R247): Immediate packet writing a pointer. -/
def execImmP (r : Rgn) (s : State) : Host.Outcome State Fault Refusal := issueImm r 0x1 s
/-- IMM_M (R247): Immediate packet writing a modifier. -/
def execImmM (r : Rgn) (s : State) : Host.Outcome State Fault Refusal := issueImm r 0x2 s
/-- IMM_L (R247): Immediate packet writing a length. -/
def execImmL (r : Rgn) (s : State) : Host.Outcome State Fault Refusal := issueImm r 0x3 s
/-- IMM_B (R247): Immediate packet writing a base. -/
def execImmB (r : Rgn) (s : State) : Host.Outcome State Fault Refusal := issueImm r 0x4 s
/-- IMM_SR (R247): Immediate packet writing SR. -/
def execImmSr (r : Rgn) (s : State) : Host.Outcome State Fault Refusal := issueImm r 0x5 s
/-- IMM_ROFS (R247): Immediate packet writing ROFS. -/
def execImmRofs (r : Rgn) (s : State) : Host.Outcome State Fault Refusal := issueImm r 0x6 s

/-! ### Control packets (R245, R246, R255 to R257) -/

/-- The engine's own change at a control packet of one cycle, usable by the next packet. -/
def ctl1 (r : Rgn) (f : EngS → EngS) (s : State) : State :=
  let x := s.eng r.val
  leStepped (s.setEng r.val ((f (x.pass 1)).seqNext x.pc)) r.val

/-- The command of a control operation. -/
def issueCtl (r : Rgn) (cop : Nat) (s : State) (f : State → State) : Host.Outcome State Fault Refusal :=
  s.after (leIssue s r.val (.ctl cop) f)

/-- CONTROL_NOP. -/
def execControlNop (r : Rgn) (s : State) : Host.Outcome State Fault Refusal := issueCtl r 0x00 s fun s => leSeq s r.val 1

/-- JMP. -/
def execJmp (r : Rgn) (s : State) : Host.Outcome State Fault Refusal :=
  issueCtl r 0x01 s fun s => leBranch s r.val (pf (atPc s r.val) 12 0)

/-- JSR: push PC + 1. -/
def execJsr (r : Rgn) (s : State) : Host.Outcome State Fault Refusal :=
  issueCtl r 0x02 s fun s =>
    let x := s.eng r.val
    leBranch (s.setEng r.val { x with rets := (x.pc + 1) % 8192 :: x.rets }) r.val (pf (atPc s r.val) 12 0)

/-- RTS: pop into PC. -/
def execRts (r : Rgn) (s : State) : Host.Outcome State Fault Refusal :=
  issueCtl r 0x03 s fun s =>
    let x := s.eng r.val
    leBranch (s.setEng r.val { x with rets := x.rets.tail }) r.val (x.rets.headD 0)

/-- RTE (R261): the main set again, at the return address. -/
def execRte (r : Rgn) (s : State) : Host.Outcome State Fault Refusal :=
  issueCtl r 0x04 s fun s =>
    let x := s.eng r.val
    leBranch (s.setEng r.val { x with handler := false }) r.val x.ret

/-- One loop entered: the body starts at the next packet (R255). -/
def pushLoop (r : Rgn) (s : State) (count : Option Nat) : State :=
  let x := s.eng r.val
  let w := atPc s r.val
  let y := (x.pass 1).putLoops (⟨(x.pc + 1) % 8192, pf w 12 0, count, pf w 29 29 = 1⟩ :: x.loopList)
  leStepped (s.setEng r.val { y with pc := (x.pc + 1) % 8192 }) r.val

/-- LOOP: CNT times; CNT = 0 forever. -/
def execLoop (r : Rgn) (s : State) : Host.Outcome State Fault Refusal :=
  issueCtl r 0x05 s fun s =>
    let n := pf (atPc s r.val) 47 32
    pushLoop r s (if n = 0 then none else some n)

/-- LOOPD: the count in D(REG)[15:0]; 0 skips to ADDR + 1. -/
def execLoopd (r : Rgn) (s : State) : Host.Outcome State Fault Refusal :=
  issueCtl r 0x06 s fun s =>
    let x := s.eng r.val
    let w := atPc s r.val
    let n := (x.dreg (pf w 28 24)).toNat % 65536
    if n = 0 then leStepped (s.setEng r.val { (x.pass 1) with pc := (pf w 12 0 + 1) % 8192 }) r.val
    else pushLoop r s (some n)

/-- BREAK: the innermost loop is left; leaving a rotating loop steps ROFS (R257). -/
def execBreak (r : Rgn) (s : State) : Host.Outcome State Fault Refusal :=
  issueCtl r 0x07 s fun s =>
    let x := s.eng r.val
    match x.loopList with
    | l :: ls => leBranch (s.setEng r.val ((x.rotate l.rot).putLoops ls)) r.val (l.last + 1)
    | [] => s

/-- The end of a WAITIN: what an IN does, with its results 2 cycles on (R265, R269, R270). -/
def waitinTake (r : Rgn) (s : State) : State :=
  let w := atPc s r.val
  let z := slotIn ⟨s, none, [], [], [], []⟩ r.val (pf w 23 20) (pf w 28 24)
  let x := z.s.eng r.val
  let y := { (x.pass 1) with mode := .running }
  let c := y.cur
  let y1 := y.putCur { c with sr := z.flags.foldl (fun sr f => srPut sr f.1 f.2) c.sr }
  let y2 := { y1 with pend := y1.pend ++ z.late.map fun (p : Tgt × BitVec 56 × Bool) => PendW.mk (x.cyc + 2) p.1 p.2.1 p.2.2 }
  leStepped (z.s.setEng r.val (y2.seqNext x.pc)) r.val

/-- Cycles that an engine has waited. -/
def waited (s : State) (r n : Nat) : State := s.setEng r ((s.eng r).pass n)

/-- The engine is in a waiting packet and its clock runs (R233). -/
def leWaits (s : State) (r : Nat) (m : LeMode) : Bool := s.clk r = 0 && !(s.eng r).paused && (s.eng r).mode = m

/-- WAITIN (R245, R265): with a transfer at the port it reads at once; else it waits, and the command that finds one ends
the wait after `n` cycles. -/
def execWaitin (r : Rgn) (n : Nat) (s : State) : Host.Outcome State Fault Refusal :=
  let has := fun (s : State) => !((s.eng r.val).ports.get (pf (atPc s r.val) 23 20)).buf.isEmpty
  if leWaits s r.val .waitIn then
    s.after (if has s then waitinTake r (waited s r.val n) else waited s r.val n)
  else
    issueCtl r 0x08 s fun s =>
      if has s then waitinTake r s
      else s.setEng r.val { ((s.eng r.val).pass 1) with mode := .waitIn }

/-- WAITIN_TIMEOUT (R265): LE_WAIT_TMO cycles have passed; the WAITIN acts as an IN on an empty port. -/
def execWaitinTimeout (r : Rgn) (s : State) : Host.Outcome State Fault Refusal :=
  let n := s.gf F.LE_WAIT_TMO_CYC (leB r.val)
  s.after <|
    if leWaits s r.val .waitIn && n != 0 && ((s.eng r.val).ports.get (pf (atPc s r.val) 23 20)).buf.isEmpty then
      waitinTake r (waited (s.sb F.LE_EVT_WAIT_TMO (leB r.val) 0 true) r.val n)
    else s

/-- WAIT (R245, R261): until an enabled event is taken; `n` more cycles pass in an engine that waits. -/
def execWait (r : Rgn) (n : Nat) (s : State) : Host.Outcome State Fault Refusal :=
  if leWaits s r.val .waitEv then s.after (waited s r.val n)
  else issueCtl r 0x09 s fun s => s.setEng r.val { ((s.eng r.val).pass 1) with mode := .waitEv }

/-- EVOUT (R264): the pulse of event output N (R474), and the trigger of code 0x10 + N at the region's converter groups
(R116). -/
def execEvout (r : Rgn) (s : State) : Host.Outcome State Fault Refusal :=
  issueCtl r 0x0A s fun s =>
    let n := pf (atPc s r.val) 23 20
    let t := leSeq s r.val 1
    fireTrigger (t.setEng r.val { t.eng r.val with evAt := (t.eng r.val).evAt.set n (s.hub.base + 1) }) r.val (0x10 + n)

/-- SR.EM of the set in use. -/
def EngS.setEm (x : EngS) (b : Bool) : EngS :=
  let c := x.cur
  x.putCur { c with sr := srPut c.sr 7 b }

/-- DI. -/
def execDi (r : Rgn) (s : State) : Host.Outcome State Fault Refusal :=
  issueCtl r 0x0B s (ctl1 r fun x => x.setEm true)
/-- EI. -/
def execEi (r : Rgn) (s : State) : Host.Outcome State Fault Refusal :=
  issueCtl r 0x0C s (ctl1 r fun x => x.setEm false)
/-- ROT (R257). -/
def execRot (r : Rgn) (s : State) : Host.Outcome State Fault Refusal :=
  issueCtl r 0x0D s (ctl1 r fun x => x.rotate true)

/-- HALT: Halted, LE_EVT.HALTED; PC stands at the next packet. -/
def execHalt (r : Rgn) (s : State) : Host.Outcome State Fault Refusal :=
  issueCtl r 0x0E s fun s =>
    let x := s.eng r.val
    ((s.setEng r.val { (((x.pass 1).seqNext x.pc).drain) with mode := .halted }).sb F.LE_EVT_HALTED (leB r.val) 0 true).sb
      F.LE_CTRL_STEP (leB r.val) 0 false

/-- A CWR's one cycle: its write is on its way; an engine whose RUN was cleared while it waited halts after it (R272). -/
def cwrSend (r : Rgn) (off v : Nat) (s : State) : State :=
  let x := s.eng r.val
  let s1 := leSeq (s.setEng r.val { x with cwr := x.cwr ++ [(off, BitVec.ofNat 32 v)], mode := .running }) r.val 1
  if x.mode = .cwr off v && !s1.gb F.LE_CTRL_RUN (leB r.val) then
    s1.setEng r.val { (s1.eng r.val).drain with mode := .halted }
  else s1

/-- CWR (R246): with four writes in flight it waits, inside the packet, and the command that finds one of them done ends the
wait after `n` cycles; else one cycle. -/
def execCwr (r : Rgn) (n : Nat) (s : State) : Host.Outcome State Fault Refusal :=
  match (s.eng r.val).mode with
  | .cwr off v =>
    s.after <|
      if s.clk r.val ≠ 0 ∨ (s.eng r.val).paused then s
      else if 4 ≤ (s.eng r.val).cwr.length then waited s r.val n
      else cwrSend r off v (waited s r.val n)
  | _ =>
    issueCtl r 0x0F s fun s =>
      let x := s.eng r.val
      let k := pf (atPc s r.val) 28 24
      let off := (x.dreg k).toNat &&& 0xF_FFFC
      let v := (x.dreg (k + 1)).toNat % 65536 * 65536 + (x.dreg (k + 2)).toNat % 65536
      if 4 ≤ x.cwr.length then s.setEng r.val { x with mode := .cwr off v } else cwrSend r off v s

/-- CRD (R246): the engine waits for its data (CRD_COMPLETE). -/
def execCrd (r : Rgn) (s : State) : Host.Outcome State Fault Refusal :=
  issueCtl r 0x10 s fun s =>
    let x := s.eng r.val
    let k := pf (atPc s r.val) 28 24
    s.setEng r.val { x with mode := .crd ((x.dreg k).toNat &&& 0xF_FFFC) k }

/-- The data of a CRD are there, after `n` cycles: usable by the next packet (R246); an engine whose RUN has been cleared
halts here (R272). -/
def crdTake (s : State) (r : Rgn) (k : Nat) (v : Word) (n : Nat) : State :=
  let x := s.eng r.val
  let y := if s.gb F.LE_CTRL_RUN (leB r.val) then { x.pass (n + 1) with mode := .running }
           else { (x.pass (n + 1)).drain with mode := .halted }
  let z := (y.put (x.dTgt (k + 1)) (BitVec.ofNat 56 (v.toNat / 65536))).put (x.dTgt (k + 2)) (BitVec.ofNat 56 (v.toNat % 65536))
  leStepped (s.setEng r.val (z.seqNext x.pc)) r.val

/-- LOOP_END (R255, R257). -/
def execLoopEnd (r : Rgn) (s : State) : Host.Outcome State Fault Refusal :=
  let x := s.eng r.val
  s.after (if x.atEnd.isSome && s.clk r.val = 0 && !x.paused then s.setEng r.val x.leaveLoop else s)

/-- ILLEGAL_PACKET (R273): the packet is not issued; Faulted, with the alarm. -/
def execIllegalPacket (r : Rgn) (s : State) : Host.Outcome State Fault Refusal :=
  let b := leB r.val
  let c := leFaultCause s r.val
  let x := s.eng r.val
  s.after <|
    if leReady s r.val && c != 0 then
      let s1 := (s.setEng r.val { x.drain with mode := .faulted }).sb F.LE_CTRL_STEP b 0 false
      let s2 := ((s1.sf F.LE_FAULT_CAUSE b 0 c).sf F.LE_FAULT_FPC b 0 x.pc).sb F.LE_EVT_FAULT b 0 true
      s2.raise (srcRgn r unitLe) 0x50 (detailOf [(2, 1, c), (3, 2, x.pc)])
    else s

/-! ### Events (R259 to R264) -/

/-- EVENT_PENDING (R260): a rising edge of an event source. -/
def execEventPending (r : Rgn) (e : Fin 32) (s : State) : Host.Outcome State Fault Refusal := s.after (s.eventPend r.val e.val)

/-- LE_TIMER_EXPIRE (R259): every LE_TIMER.PERIOD cycles. -/
def execLeTimerExpire (r : Rgn) (s : State) : Host.Outcome State Fault Refusal :=
  s.after (if s.gf F.LE_TIMER_PERIOD (leB r.val) = 0 ∨ s.clk r.val ≠ 0 then s else s.eventPend r.val 29)

/-- The lowest set bit. -/
def lowestBit (m : Nat) : Nat := ((List.range 32).find? fun i => m.testBit i).getD 0

/-- An engine at a packet boundary that takes events (R261): Running or waiting, events unmasked, no handler. -/
def takesEvents (s : State) (r : Nat) : Bool :=
  let x := s.eng r
  s.clk r = 0 && !x.paused && x.atEnd.isNone && !x.handler && !x.main.sr.getLsbD 7
    && (x.mode = .running || x.mode = .waitIn || x.mode = .waitEv)

/-- EVENT_ENTRY (R261, R264), after `n` cycles of a wait: the shadow set, the return address, the handler at
LE_VECBASE + 4 × event. -/
def execEventEntry (r : Rgn) (n : Nat) (s : State) : Host.Outcome State Fault Refusal :=
  let b := leB r.val
  let x := s.eng r.val
  let m := s.gf F.LE_EVPEND_PEND b &&& s.gf F.LE_EVEN_EN b
  let waits := x.mode = .waitIn || x.mode = .waitEv
  let e := if waits && m.testBit 31 then 31 else lowestBit m
  s.after <|
    if takesEvents s r.val && m != 0 then
      let x1 := if waits then x.pass n else x
      let x2 := if x.mode = .waitEv then (x1.seqNext x.pc).leaveLoops else x1
      let x3 := { x2.pass 2 with
        handler := true, ret := x2.pc, mode := .running, pc := (s.gf F.LE_VECBASE_BASE b + 4 * e) % 8192 }
      leStepped ((s.sf F.LE_EVPEND_PEND b 0 (clearBit (s.gf F.LE_EVPEND_PEND b) e)).setEng r.val x3) r.val
    else s

/-! ### Input ports (R264, R265) -/

/-- A transfer offered to an input port; none: refused. -/
def portOffer (s : State) (q p : Nat) (t : Xfer) : Option State :=
  let x := s.eng q
  let o := x.ports.get p
  let b := leB q
  let latest := s.gb F.LE_INp_CFG_MODE b p
  if 8 ≤ p ∨ (latest = false ∧ 4 ≤ o.buf.length) then none
  else
    let s1 := if latest ∧ o.buf ≠ [] then s.bump F.LE_INp_STAT_OVW b p else s
    let s2 := s1.setEng q { x with ports := x.ports.set p { o with buf := if latest then [t] else o.buf ++ [t] } }
    let s3 := if s.clk q = 1 ∨ s.clk q = 2 then s2.setRgn q { s2.rgnS q with synthOn := true } else s2
    some (if s.gb F.LE_INp_CFG_AEV b p then s3.eventPend q 28 else s3)

/-- The oldest transfer of an output port is gone. -/
def outPop (s : State) (r p : Nat) : State :=
  let x := s.eng r
  s.setEng r { x with outq := x.outq.set p (x.outq.get p).tail }

/-- The transfer of an engine's output port arrives at its input port of DEST 0b01, or is dropped (R265, R267). -/
def outArrive (s : State) (r p : Nat) : State :=
  let b := leB r
  match (s.eng r).outq.get p with
  | [] => s
  | t :: _ =>
    if s.gf F.LE_OUTp_CFG_DEST b p = 1 then
      (portOffer (outPop s r p) (s.gf F.LE_OUTp_CFG_RGN b p) (s.gf F.LE_OUTp_CFG_PORT b p) t).getD (outDrop (outPop s r p) r p)
    else s

/-! ### Control and access (R272, R274, R275, R280) -/

/-- The reset of an engine (R275): registers, stacks, ports and LE_EVPEND; PC to LE_START; Halted. -/
def engReset (s : State) (r : Nat) : State :=
  let x := s.eng r
  let y := { EngS.reset with
    pc := s.gf F.LE_START_ADDR (leB r), cyc := x.cyc, outq := x.outq, outSeq := x.outSeq, cwr := x.cwr, paused := x.paused,
    lane := x.lane, laneSteps := x.laneSteps, forced := x.forced, resume := x.resume }
  (s.setEng r y).sf F.LE_EVPEND_PEND (leB r) 0 0

/-- RUN has been written (R272): 1 runs a Halted engine from PC, 0 halts at the packet boundary, which for a CRD comes when
its data are there and for a CWR that waits when it has been sent. -/
def leRun (s : State) (r : Nat) : State :=
  let x := s.eng r
  if s.gb F.LE_CTRL_RUN (leB r) then
    if x.mode = .halted then s.setEng r { x with mode := .running } else s
  else match x.mode with
  | .halted => s
  | .faulted => s
  | .crd _ _ => s
  | .cwr _ _ => s
  | _ => s.setEng r { x.drain with mode := .halted }

/-- A write of LE_CTRL (R272, R275): refused whole while LIVE if it clears RUN or sets STEP or ERST, unless Faulted. STEP at a
Halted engine issues one packet, whatever RUN is (log entry 73). -/
def leCtrlWrite (s : State) (a : Reader) (r : Nat) (v : Word) : State :=
  s.asOwner a r fun s =>
    let b := leB r
    let x := s.eng r
    let stops := (s.gb F.LE_CTRL_RUN b && fOf v F.LE_CTRL_RUN = 0) || fOf v F.LE_CTRL_STEP = 1 || fOf v F.LE_CTRL_ERST = 1
    if s.gb F.LE_CTRL_LIVE b && stops && x.mode != .faulted then leReject s r
    else
      let s1 := s.plainWrite R.LE_CTRL b 0 v
      if fOf v F.LE_CTRL_ERST = 1 then ((engReset s1 r).sb F.LE_CTRL_ERST b 0 false).sb F.LE_CTRL_STEP b 0 false
      else if s1.gb F.LE_CTRL_STEP b && x.mode = .halted then s1
      else (leRun s1 r).sb F.LE_CTRL_STEP b 0 false

/-- LE_RUN. -/
def execLeRun (a : Reader) (r : Rgn) (s : State) : Host.Outcome State Fault Refusal :=
  s.after (leCtrlWrite s a r.val ((s.rd R.LE_CTRL (leB r.val)).setBits 2 0 1))
/-- LE_HALT_REQUEST. -/
def execLeHaltRequest (a : Reader) (r : Rgn) (s : State) : Host.Outcome State Fault Refusal :=
  s.after (leCtrlWrite s a r.val ((s.rd R.LE_CTRL (leB r.val)).setBits 2 0 0))
/-- LE_STEP. -/
def execLeStep (a : Reader) (r : Rgn) (s : State) : Host.Outcome State Fault Refusal :=
  s.after (leCtrlWrite s a r.val ((s.rd R.LE_CTRL (leB r.val)).setBits 2 1 1))
/-- ERST. -/
def execErst (a : Reader) (r : Rgn) (s : State) : Host.Outcome State Fault Refusal :=
  s.after (leCtrlWrite s a r.val ((s.rd R.LE_CTRL (leB r.val)).setBits 2 1 2))

/-- Halted or Faulted, and not Paused under a Torpor: program memory and the window take writes (R272, R274). -/
def leStopped (s : State) (r : Nat) : Bool :=
  !(s.eng r).paused && ((s.eng r).mode = .halted || (s.eng r).mode = .faulted)

/-- The address of the frame that holds a packet of program memory, 16 packets to a frame (R317, R318). -/
def progFrame (r n : Nat) : Nat := r / 8 * 2 ^ 30 + r % 8 * 2 ^ 27 + 3 * 2 ^ 23 + 32 * 2 ^ 16 + n / 16 % 512

/-- A program-memory frame that software writes is of volatile origin (R335). -/
def progVolatile (s : State) (r n : Nat) : State :=
  match s.cfg.frames.get (progFrame r n) with
  | some f => { s with cfg := { s.cfg with frames := s.cfg.frames.set (progFrame r n) (some { f with vol := true }) } }
  | none => s

/-- A write of a packet of program memory (R274, R335). -/
def progWrite (s : State) (a : Reader) (r n : Nat) (v : DWord) : State :=
  s.asOwner a r fun s =>
    if leStopped s r then
      progVolatile { s with lemem := (s.lemem.set (progAddr r n) v.lo).set (progAddr r n + 4) v.hi } r n
    else leReject s r

/-- PROGRAM_MEMORY_WRITE: both halves of a packet. -/
def execProgramMemoryWrite (a : Reader) (r : Rgn) (n : Fin 8192) (v : DWord) (s : State) :
    Host.Outcome State Fault Refusal := s.after (progWrite s a r.val n.val v)

/-- A host write of X or Y memory (R70, R274): discarded if it meets the engine's write of the same word. -/
def xyWrite (s : State) (a : Reader) (r : Nat) (y : Bool) (n : Nat) (v : Word) (meets : Bool) : State :=
  s.asOwner a r fun s =>
    if meets && (s.eng r).stored.contains (y, n) then s.sb F.LE_EVT_HOST_LOST (leB r) 0 true
    else xySet s r y n (v.setWidth 24)

/-- XY_HOST_WRITE; `meets`: in the cycle of the engine's last packet. -/
def execXyHostWrite (a : Reader) (r : Rgn) (y : Bool) (n : Fin 16384) (v : Word) (meets : Bool) (s : State) :
    Host.Outcome State Fault Refusal := s.after (xyWrite s a r.val y n.val v meets)

/-- What register number i of the window takes (R280): D 0 to 31, A 32 to 39, then P, B, L, M of each pointer from 40,
SR 72, ROFS 73, PC 74, the shadow return address 75; A is 64 bits of which 56 are kept. -/
def winPut (x : EngS) (view : Bool) (i : Nat) (v : DWord) : EngS :=
  let c := x.setOf view
  if i < 16 then x.putSet view { c with d := c.d.set i (v.setWidth 24) }
  else if i < 32 then { x with rot := x.rot.set (x.phys i) (v.setWidth 24) }
  else if i < 40 then x.putSet view { c with a := c.a.set (i - 32) (v.setWidth 56) }
  else if i < 72 then
    let p := (i - 40) / 4
    match (i - 40) % 4 with
    | 0 => x.putSet view { c with p := c.p.set p (v.setWidth 14) }
    | 1 => { x with b := x.b.set p (v.setWidth 14) }
    | 2 => { x with l := x.l.set p (v.setWidth 14) }
    | _ => { x with m := x.m.set p (v.setWidth 14) }
  else if i = 72 then x.putSet view { c with sr := BitVec.ofNat 12 (v.toNat % 256) }
  else if i = 73 then { x with rofs := v.toNat % 16 }
  else if i = 74 then { x with pc := v.toNat % 8192 }
  else if i = 75 then { x with ret := v.toNat % 8192 }
  else x

/-- What register number i of the window reads as. -/
def winGet (x : EngS) (view : Bool) (i : Nat) : DWord :=
  let c := x.setOf view
  if i < 32 then ((x.dOf view i).signExtend 32).setWidth 64
  else if i < 40 then (c.a.get (i - 32)).signExtend 64
  else if i < 72 then
    let p := (i - 40) / 4
    match (i - 40) % 4 with
    | 0 => (c.p.get p).setWidth 64
    | 1 => (x.b.get p).setWidth 64
    | 2 => (x.l.get p).setWidth 64
    | _ => (x.m.get p).setWidth 64
  else if i = 72 then c.sr.setWidth 64
  else if i = 73 then BitVec.ofNat 64 x.rofs
  else if i = 74 then BitVec.ofNat 64 x.pc
  else if i = 75 then BitVec.ofNat 64 x.ret
  else 0

/-- A write of the register window (R274, R280): only while Halted or Faulted. -/
def winWrite (s : State) (a : Reader) (r i : Nat) (v : DWord) : State :=
  s.asOwner a r fun s =>
    if leStopped s r then s.setEng r (winPut (s.eng r) (s.gb F.LE_CTRL_VIEW (leB r)) i v) else leReject s r

/-- LE_WINDOW_WRITE: of a register of the window, an accumulator as its 64 bits. -/
def execLeWindowWrite (a : Reader) (r : Rgn) (i : Fin 76) (v : DWord) (s : State) : Host.Outcome State Fault Refusal :=
  s.after (winWrite s a r.val i.val v)

/-- A write of LE_INp_CFG: a port switched to LATEST keeps its newest transfer. -/
def leInCfgWrite (s : State) (a : Reader) (r p : Nat) (v : Word) : State :=
  s.asOwner a r fun s =>
    let s1 := s.plainWrite R.LE_INp_CFG (leB r) p v
    let x := s1.eng r
    let o := x.ports.get p
    if s1.gb F.LE_INp_CFG_MODE (leB r) p ∧ 1 < o.buf.length then
      s1.setEng r { x with ports := x.ports.set p { o with buf := o.buf.drop (o.buf.length - 1) } }
    else s1

/-- A region field of a word kept where it names a region of the other die (R13, R37). -/
def keepRgn (r : Nat) (f : Fld) (old w : Word) : Word :=
  if dieOf (fOf w f) = dieOf r then w else w.setBits f.hi f.lo (fOf old f)

/-- A write of LE_OUTp_CFG (R267): RGN on the other die is unlisted. -/
def leOutCfgWrite (s : State) (a : Reader) (r p : Nat) (v : Word) : State :=
  s.asOwner a r fun s =>
    let b := leB r
    s.wr R.LE_OUTp_CFG b p (keepRgn r F.LE_OUTp_CFG_RGN (s.rd R.LE_OUTp_CFG b p) (s.merged R.LE_OUTp_CFG b p v))

/-! ### The spare MAC lane (R276 to R279) -/

def laneResult (s : State) (r result cause : Nat) : State :=
  (s.sf F.LE_SUB_STAT_RESULT (leB r) 0 result).sf F.LE_SUB_STAT_CAUSE (leB r) 0 cause

def laneState (s : State) (r st : Nat) : State := s.sf F.LE_SUB_STAT_STATE (leB r) 0 st

/-- The physical lane of a logical lane, and the one that serves none. -/
def physLane (s : State) (r l : Nat) : Nat := s.gf F.LE_LANEMAP_MAP (leB r) / 8 ^ l % 8
def spareLane (s : State) (r : Nat) : Nat :=
  ((List.range 5).find? fun p => (List.range 4).all fun l => physLane s r l != p).getD 4

/-- The lane map sends a logical lane to a physical one. -/
def mapLane (s : State) (r l p : Nat) : State :=
  let m := s.gf F.LE_LANEMAP_MAP (leB r)
  s.sf F.LE_LANEMAP_MAP (leB r) 0 (m - physLane s r l * 8 ^ l + p * 8 ^ l)

/-- The next step, or a pause before it under Torpor (R279). -/
def laneNext (s : State) (r st steps : Nat) : State :=
  let x := s.eng r
  laneState (s.setEng r { x with laneSteps := steps, resume := if pausing s r then st else 0 }) r
    (if pausing s r then 5 else st)

/-- The start of a substitution (R276, R277). -/
def laneStart (s : State) (r l : Nat) : State :=
  let b := leB r
  if !s.gb F.LE_SPARE_STAT_FREE b then laneResult s r 3 1
  else if s.gf F.LE_SUB_STAT_STATE b ≠ 0 then laneResult s r 3 2
  else if s.gf F.RGN_STAT_OWNER (rgB r) = 0 then laneResult s r 3 3
  else
    let x := s.eng r
    laneNext (laneResult (s.setEng r { x with lane := l, forced := false }) r 0 0) r 1 8192

/-- A write of LE_SUB (R16, R276). -/
def leSubWrite (s : State) (a : Reader) (r : Nat) (v : Word) : State :=
  s.asOwner a r fun s =>
    let b := leB r
    let s1 := s.sf F.LE_SUB_LANE b 0 (fOf v F.LE_SUB_LANE)
    if fOf v F.LE_SUB_START = 0 ∨ s.gb F.LE_SUB_START b then s1
    else
      let s2 := laneStart s1 r (fOf v F.LE_SUB_LANE)
      if s.gf F.LE_SUB_STAT_STATE b = 0 ∧ s2.gf F.LE_SUB_STAT_STATE b ≠ 0 then s2.sb F.LE_SUB_START b 0 true else s2

/-- LANE_SUBSTITUTION: by the owner, or by the wear logic with AUTO_SUB. -/
def execLaneSubstitution (start : Starter) (r : Rgn) (lane : Fin 4) (s : State) : Host.Outcome State Fault Refusal :=
  s.after <|
    match start with
    | .by a => leSubWrite s a r.val (BitVec.ofNat 32 (lane.val * 2 + 1))
    | .wear => if s.gb F.LE_CTRL_AUTO_SUB (leB r.val) then laneStart s r.val lane.val else s

/-- A paused substitution resumes when Torpor ends. -/
def laneResume (s : State) (r : Nat) : State :=
  if s.gf F.LE_SUB_STAT_STATE (leB r) = 5 then laneState s r (s.eng r).resume else s

def laneEnd (s : State) (r : Nat) : State := (laneState s r 0).sb F.LE_SUB_START (leB r) 0 false

/-- The map moves to the spare, and the old lane is consumed. -/
def laneMap (s : State) (r l cause : Nat) : State :=
  ((mapLane s r l (spareLane s r)).sb F.LE_SPARE_STAT_FREE (leB r) 0 false).useSpare 4 r l cause

/-- LANE_STEP_END (R277, R278); `ok`: the self-test's signature agrees. -/
def execLaneStepEnd (r : Rgn) (ok : Bool) (s : State) : Host.Outcome State Fault Refusal :=
  let b := leB r.val
  let x := s.eng r.val
  s.after <|
    match s.gf F.LE_SUB_STAT_STATE b with
    | 1 =>
      if ok then laneNext s r.val 2 16384
      else
        let s1 := laneEnd (laneResult s r.val 3 6) r.val
        (((s1.sb F.LE_SPARE_STAT_FAILED b 0 true).sb F.LE_SPARE_STAT_FREE b 0 false).useSpare 4 r.val x.lane 6).raise
          (srcRgn r unitLe) 0x51 (detailOf [(2, 1, x.lane), (3, 1, spareLane s r.val)])
    | 2 => laneNext s r.val 3 1
    | 3 => laneNext (laneMap s r.val x.lane (if x.forced then 5 else 0)) r.val 4 0
    | 4 => laneEnd (if x.forced then laneResult s r.val 2 5 else laneResult s r.val 1 0) r.val
    | _ => s

/-- LANE_SHADOW_MISMATCH (R278): the handover is forced, the target failed. -/
def execLaneShadowMismatch (r : Rgn) (s : State) : Host.Outcome State Fault Refusal :=
  let b := leB r.val
  let x := s.eng r.val
  s.after <|
    if s.gf F.LE_SUB_STAT_STATE b = 2 then
      let s1 := laneMap (laneState (s.setEng r.val { x with forced := true }) r.val 3) r.val x.lane 5
      ((laneEnd (laneResult s1 r.val 2 5) r.val).sb F.LE_EVT_SUB_FAIL b 0 true).raise (srcRgn r unitLe) 0x52
        (detailOf [(2, 1, x.lane), (3, 1, physLane s r.val x.lane), (4, 1, spareLane s r.val)])
    else s

/-- What a region reset does to a running substitution (R279): abandoned before step 3, where a pause before that step still
is; from step 3 on the map to the spare stands and the target is consumed. -/
def laneReset (s : State) (r : Nat) : State :=
  let st := s.gf F.LE_SUB_STAT_STATE (leB r)
  let x := s.eng r
  if st = 0 then s
  else if st < 3 ∨ (st = 5 ∧ x.resume ≤ 3) then laneEnd (laneResult s r 3 7) r
  else if st = 3 then laneEnd (laneMap s r x.lane 0) r
  else laneEnd s r

/-- What a region reset does to an engine (R275): all of it, and its memories from the image; PC follows when LE_START has
its reset value (startPc). -/
def leRegionReset (s : State) (r : Nat) : State :=
  let s1 := laneReset s r
  let inMem := fun (a : Nat) => rgnBase r + 0x8_0000 ≤ a && a < rgnBase r + 0xB_0000
  { s1 with
    engines := s1.engines.set r EngS.reset,
    lemem := (s1.lemem.keep fun a => !inMem a).setAll (s1.img.cells.filter fun c => inMem c.1) }

/-- PC at LE_START, as a reset leaves it (R275). -/
def startPc (s : State) (r : Nat) : State := s.setEng r { s.eng r with pc := s.gf F.LE_START_ADDR (leB r) }

/-- An engine of a released region (R275): it starts at LE_START if the image sets RUN. -/
def leRelease (s : State) (r : Nat) : State := if s.gb F.LE_CTRL_RUN (leB r) then leRun (startPc s r) r else s

end Sys2Proof.Machine
end

