-- ==== Sys2Proof/Machine/Fabric.lean ====
section
/-!
DEFINITION. The logic fabric's lines, block memories, queue controllers, user registers, the capture snapshot, relocation
and block substitution (08_logic_fabric.md, R281 to R315). What the image's own logic computes is the sender's: commands
carry what its lines and flip-flops show (log entry 18).
-/

namespace Sys2Proof.Machine

/-- A refused write of a fabric block. -/
def fabReject (s : State) (r : Nat) : State := s.reject F.FAB_EVT_REJECT F.FAB_STAT_REJ_CNT (fabB r)

/-- A FAB_ or QC_ write: refused under R29 and counted in FAB_STAT too where the writer is not the owner (R315); it
may start the clock (R65). -/
def fabOwner (s : State) (a : Reader) (r : Nat) (f : State → State) : State :=
  if s.mayWrite a r then s.started (f s) r else s.byPath a (rgnBase r) (fabReject (s.ownerReject r) r)

/-! ### What an image states about a region beside its IMG fields (log entry 19) -/

/-- Parity is set for a block (R297). -/
def blockParity (s : State) (r b : Nat) : Bool := s.img.get (imgKey r b) != 0
/-- A user register is declared read-only, or part of a wide counter (R306). -/
def uregReadOnly (s : State) (r n : Nat) : Bool := s.img.get (imgKey r (0x200 + n)) != 0
def uregWide (s : State) (r n : Nat) : Bool := s.img.get (imgKey r (0x240 + n)) != 0
/-- The cluster whose flip-flops FF0 are segment h of a wide counter's register (R305); none where the image names none. -/
def uregSegment (s : State) (r n h : Nat) : Option Nat :=
  let v := (imgWord s r (0x280 + n * 2 + h)).toNat
  if v = 0 ∨ 96 < v then none else some (v - 1)
/-- The image holds a relocated image for a cluster (its RELOC records, R318), or relocated routing for a block (R310,
R313). -/
def relocHeld (s : State) (r kind t : Nat) : Bool :=
  if kind = 0 then (s.cfg.relocs.get (r * 128 + t)).isSome else s.img.get (imgKey r (0x380 + t)) != 0
/-- The initial content of a block memory word (R315). -/
def bmInit (s : State) (r b w : Nat) : BitVec 36 :=
  (s.img.get (imgKey r (0x1_0000 + (b * 1024 + w) * 2))).setWidth 36
    ||| (s.img.get (imgKey r (0x1_0000 + (b * 1024 + w) * 2 + 1))).setWidth 36 <<< 32

/-! ### Resets and lines (R289, R290, R294) -/

/-- A write of FAB_RST (R290): a pulse of global resets in this region alone, over when the command is. -/
def fabRstWrite (s : State) (a : Reader) (r : Nat) (v : Word) : State :=
  fabOwner s a r fun s => resetLeaves (ffReset s r (fOf v F.FAB_RST_PULSE)) r (fOf v F.FAB_RST_PULSE)

/-- FAB_RST_PULSE. -/
def execFabRstPulse (a : Reader) (r : Rgn) (v : Word) (s : State) : Host.Outcome State Fault Refusal :=
  s.after (fabRstWrite s a r.val v)

/-- RUN_REQUEST (R289): the fabric's run-request line; asserted, it starts a Gated or Cold clock (R60). -/
def execRunRequest (r : Rgn) (on : Bool) (s : State) : Host.Outcome State Fault Refusal :=
  let s1 := s.setFab r.val { s.fab r.val with runReq := on }
  let x := s1.rgnS r.val
  s.after <|
    if on then
      if s.clk r.val = 0 ∨ s.clk r.val = 3 then s1
      else s1.setRgn r.val { x with synthOn := true }
    else s1

/-- FABRIC_TRIGGER (R116, R294): trigger codes 0x18 to 0x1F. -/
def execFabricTrigger (r : Rgn) (line : Fin 8) (s : State) : Host.Outcome State Fault Refusal :=
  s.after (if s.clk r.val = 0 then fireTrigger s r.val (0x18 + line.val) else s)

/-- FABRIC_SPOOR_STROBE (R294, R354, R377): one record of the port's class and flow; an ALARM takes its code from payload
bytes 0 and 1, and a port that holds another code is busy. -/
def execFabricSpoorStrobe (r : Rgn) (p : Fin 4) (payload : BitVec 128) (s : State) :
    Host.Outcome State Fault Refusal :=
  let b := fabB r.val
  let x := srcRgn r (unitFabPort p)
  let cls := s.gf F.FAB_SPRp_CLASS b p.val
  let flow := s.gf F.FAB_SPRp_FLOW b p.val
  let code := payloadGet payload 0 2
  s.after <|
    if s.gb F.FAB_SPRp_EN b p.val = false ∨ s.clk r.val ≠ 0 then s
    else if cls = 0 then
      if portBusy s x code then s else s.raiseT x 3 code 0 ((payload >>> 16).setWidth 80)
    else s.produce (mkItem s x 3 cls flow 0 payload)

/-! ### Block memories (R295 to R299) -/

def bmGet (s : State) (r b w : Nat) : BitVec 36 := (s.fab r).bm.get (b * 1024 + w)
def bmSet (s : State) (r b w : Nat) (v : BitVec 36) : State :=
  let x := s.fab r
  s.setFab r { x with bm := x.bm.set (b * 1024 + w) v }

/-- Word, first bit and width that an address of a shape names. -/
def shapeWord (h : Shape) (a : Nat) : Nat := match h with | .by36 => a % 1024 | .by18 => a / 2 % 1024 | .by9 => a / 4 % 1024
def shapeLo (h : Shape) (a : Nat) : Nat := match h with | .by36 => 0 | .by18 => a % 2 * 18 | .by9 => a % 4 * 9
def shapeWidth (h : Shape) : Nat := match h with | .by36 => 36 | .by18 => 18 | .by9 => 9

def shapeMask (h : Shape) (a : Nat) : BitVec 36 := BitVec.ofNat 36 ((2 ^ shapeWidth h - 1) * 2 ^ shapeLo h a)

/-- Even parity of 9-bit byte i of a word holds (R297). -/
def byteOdd (v : BitVec 36) (i : Nat) : Bool := (List.range 9).foldl (fun p j => p != v.getLsbD (i * 9 + j)) false

/-- A word with bit 8 of each 9-bit byte made its even parity. -/
def withParity (v : BitVec 36) : BitVec 36 :=
  [0, 1, 2, 3].foldl (fun v i => if byteOdd v i then v ^^^ BitVec.ofNat 36 (2 ^ (i * 9 + 8)) else v) v

/-- BM_WRITE (R289, R295 to R297): with the branches closed no port has a clock. `same`: in the same cycle as the other port's last access, or within 200 ps of it; port A's
bits stand. -/
def execBmWrite (r : Rgn) (b : Fin 16) (portB : Bool) (shape : Shape) (addr : Fin 4096) (data : BitVec 36) (mode : WrMode)
    (same : Bool) (s : State) : Host.Outcome State Fault Refusal :=
  let x := s.fab r.val
  let w := shapeWord shape addr.val
  let cur := bmGet s r.val b.val w
  let clash := match x.bmLast.get b.val with
    | some l => if same && decide (l.word = w) && l.portB != portB then some l else none
    | none => none
  let old := match clash with | some l => l.old | none => cur
  let keep : BitVec 36 := match clash with | some l => if portB then l.mask else 0 | none => 0
  let shifted := data <<< shapeLo shape addr.val
  let given := if blockParity s r.val b.val then withParity (shifted &&& 0x7FBFDFEFF#36) else shifted
  let m := shapeMask shape addr.val &&& ~~~ keep
  let new := (cur &&& ~~~ m) ||| (given &&& m)
  let s1 := bmSet s r.val b.val w new
  let y := s1.fab r.val
  let port := b.val * 2 + (if portB then 1 else 0)
  let out := match mode with
    | .readFirst => (old &&& shapeMask shape addr.val) >>> shapeLo shape addr.val
    | .writeFirst => (new &&& shapeMask shape addr.val) >>> shapeLo shape addr.val
    | .noChange => y.bmOut.get port
  s.after <|
    if s.clk r.val = 0 then s1.setFab r.val { y with
      bmOut := y.bmOut.set port out, bmLast := y.bmLast.set b.val (some ⟨portB, w, shapeMask shape addr.val, old⟩) }
    else s

/-- A row is retired (R299): mirrored, copied and remapped into a spare row, or, with none free, left in service. -/
def rowRepair (s : State) (r : Rgn) (b row : Nat) : State :=
  let f := fabB r.val
  let n := s.gf F.FAB_BMb_STAT_ROWS_FREE f b
  if n = 0 then (s.raise (srcRgn r unitFab) 0x61 (detailOf [(2, 1, b), (3, 1, row)])).failPermanent
  else
    let x := s.fab r.val
    let s1 := s.setFab r.val { x with rowErr := x.rowErr.set (b * 32 + row) 0, rowMap := x.rowMap.set (b * 32 + row) (3 - n) }
    ((s1.sf F.FAB_BMb_STAT_ROWS_FREE f b (n - 1)).sb F.FAB_EVT_ROW_REPAIR f 0 true).useSpare 7 r.val b 0

/-- A parity error of a word (R297, R299): counted, flagged and raised; the third of a row since the last reset retires it. -/
def parityError (s : State) (r : Rgn) (b w port : Nat) : State :=
  let f := fabB r.val
  let row := w / 32
  let s1 := ((s.bump F.FAB_BMb_STAT_PAR_CNT f b).sb F.FAB_EVT_PARITY f 0 true).raise (srcRgn r unitFab) 0x60
    (detailOf [(2, 1, b), (3, 1, row), (4, 2, w), (6, 1, port)])
  let x := s1.fab r.val
  let n := x.rowErr.get (b * 32 + row) + 1
  let s2 := s1.setFab r.val { x with rowErr := x.rowErr.set (b * 32 + row) n }
  if n = 3 then rowRepair s2 r b row else s2

/-- Does a word as read hold a parity error within some bits? -/
def parityBad (s : State) (r b : Nat) (v m : BitVec 36) : Bool :=
  blockParity s r b && [0, 1, 2, 3].any fun i => m.getLsbD (i * 9) && byteOdd v i

/-- The word that a read sees (R296, R298): before the write of the same cycle. -/
def bmSeen (s : State) (r b w : Nat) (same : Bool) : BitVec 36 :=
  match (s.fab r).bmLast.get b with
  | some l => if same ∧ l.word = w then l.old else bmGet s r b w
  | none => bmGet s r b w

/-- A port's error output to the fabric follows its last read (R297). -/
def portError (s : State) (r p : Nat) (e : Bool) : State :=
  let x := s.fab r
  s.setFab r { x with bmErr := if e then x.bmErr ||| 2 ^ p else clearBit x.bmErr p }

/-- BM_READ (R289, R295 to R297, R299). `upset`: bits of the stored word that have flipped since they were written. -/
def execBmRead (r : Rgn) (b : Fin 16) (portB : Bool) (shape : Shape) (addr : Fin 4096) (same : Bool) (upset : BitVec 36)
    (s : State) : Host.Outcome State Fault Refusal :=
  let w := shapeWord shape addr.val
  let s1 := bmSet s r.val b.val w (bmGet s r.val b.val w ^^^ upset)
  let v := bmSeen s r.val b.val w same ^^^ upset
  let x := s1.fab r.val
  let port := b.val * 2 + (if portB then 1 else 0)
  let s2 := s1.setFab r.val { x with
    bmOut := x.bmOut.set port ((v &&& shapeMask shape addr.val) >>> shapeLo shape addr.val) }
  let bad := parityBad s r.val b.val v (shapeMask shape addr.val)
  let s3 := portError s2 r.val port bad
  s.after (if s.clk r.val ≠ 0 then s else if bad then parityError s3 r b.val w (if portB then 1 else 0) else s3)

/-- A copy-port read of the word that FAB_BM_ADDR names (R298); parity is checked on every read. -/
def copyRead (s : State) (r : Rgn) (same : Bool) : BitVec 36 × State :=
  let f := fabB r.val
  let b := s.gf F.FAB_BM_ADDR_BLK f
  let w := s.gf F.FAB_BM_ADDR_WORD f
  let v := bmSeen s r.val b w same
  (v, if parityBad s r.val b v (BitVec.allOnes 36) then parityError s r b w 2 else s)

/-- A relocation or substitution is at work on logical block b (R314). -/
def blockTarget (s : State) (r b : Nat) : Bool :=
  s.gf F.FAB_RELOC_STAT_STATE (fabB r) != 0 && decide ((s.fab r).rlKind = 1 ∧ (s.fab r).rlTarget = b)

/-- A copy-port write (R298): against a user write of the same word in the same cycle it is lost. -/
def copyWrite (s : State) (a : Reader) (r : Nat) (v : BitVec 36) (same : Bool) : State :=
  fabOwner s a r fun s =>
    let f := fabB r
    let b := s.gf F.FAB_BM_ADDR_BLK f
    let w := s.gf F.FAB_BM_ADDR_WORD f
    if blockTarget s r b then fabReject s r
    else match (s.fab r).bmLast.get b with
    | some l =>
      if same ∧ l.word = w then s.sb F.FAB_EVT_HOST_LOST f 0 true
      else bmSet s r b w (if blockParity s r b then withParity (v &&& 0x7FBFDFEFF#36) else v)
    | none => bmSet s r b w (if blockParity s r b then withParity (v &&& 0x7FBFDFEFF#36) else v)

/-- COPY_PORT_ACCESS: a read (none), answered to the reader, or a write. -/
def execCopyPortAccess (a : Reader) (r : Rgn) (w : Option (BitVec 36)) (same : Bool) (s : State) :
    Host.Outcome State Fault Refusal :=
  s.after <|
    match w with
    | some v => copyWrite s a r.val v same
    | none => let p := copyRead s r same; s.byPath a (fabB r.val) (p.2.answer a (p.1.setWidth 64))

/-! ### Queue controllers (R300 to R304) -/

def State.qc (s : State) (r q : Nat) : QcS := (s.fab r).qcs.get q
def State.setQc (s : State) (r q : Nat) (x : QcS) : State :=
  s.setFab r { s.fab r with qcs := (s.fab r).qcs.set q x }

/-- The controller is active as a FIFO or packet FIFO. -/
def qcOn (s : State) (r q : Nat) : Bool := s.gb F.QC_CFG_EN (fabB r) q && s.gf F.QC_CFG_MODE (fabB r) q != 0
def qcPacket (s : State) (r q : Nat) : Bool := s.gf F.QC_CFG_MODE (fabB r) q = 2

/-- Depth and entry width of a WIDTH code (R300). -/
def qcDepth (s : State) (r q : Nat) : Nat := 4096 / 2 ^ s.gf F.QC_CFG_WIDTH (fabB r) q
def qcMask (s : State) (r q : Nat) : BitVec 72 := BitVec.ofNat 72 (2 ^ (9 * 2 ^ s.gf F.QC_CFG_WIDTH (fabB r) q) - 1)

/-- Entries that the write side counts: those of an unfinished packet are among them, and those read whose space it does not
see yet (R301). -/
def QcS.level (x : QcS) : Nat := x.q.length + x.part.length + x.freed.length

/-- Entries that the read side sees (R301). -/
def QcS.seen (x : QcS) : List QEntry := x.q.takeWhile fun e => decide (3 ≤ e.age)

/-- Cycles of the write clock and of the read clock pass (R301: each side sees the other's progress 3 of its own cycles
late). -/
def QcS.pass (x : QcS) (wc rc : Nat) : QcS :=
  { x with
    q := x.q.map fun e => { e with age := min 3 (e.age + rc) }, freed := (x.freed.map (· + wc)).filter fun n => decide (n < 3) }

def qcPass (s : State) (r q wc rc : Nat) : State := s.setQc r q ((s.qc r q).pass wc rc)

/-- The queue after its oldest entry has been read, which the read side sees no more at once. -/
def qcTake (s : State) (r q : Nat) : State :=
  let x := s.qc r q
  match x.q with
  | [] => s
  | e :: es => s.setQc r q { x with q := es, last := e.v, freed := x.freed ++ [0], rp := (x.rp + 1) % qcDepth s r q }

/-- Even parity in bit 8 of each 9-bit byte of an entry, where the image sets parity for the block (R297). -/
def entryParity (s : State) (r q : Nat) (v : BitVec 72) : BitVec 72 :=
  if blockParity s r q then
    (withParity (v.setWidth 36 &&& 0x7FBFDFEFF#36)).setWidth 72
      ||| (withParity ((v >>> 36).setWidth 36 &&& 0x7FBFDFEFF#36)).setWidth 72 <<< 36
  else v

/-- A read of the oldest entry finds a parity error (R297): counted and raised with the word it lies in. -/
def entryCheck (s : State) (r : Rgn) (q port : Nat) : State :=
  match (s.qc r.val q).q with
  | [] => s
  | e :: _ =>
    let m := qcMask s r.val q
    if parityBad s r.val q (e.v.setWidth 36) (m.setWidth 36) || parityBad s r.val q ((e.v >>> 36).setWidth 36) ((m >>> 36).setWidth 36)
    then parityError s r q ((s.qc r.val q).rp * 2 ^ s.gf F.QC_CFG_WIDTH (fabB r.val) q / 4 % 1024) port
    else s

/-- Bits of the oldest entry that have flipped since it was written. -/
def entryUpset (s : State) (r q : Nat) (upset : BitVec 72) : State :=
  let x := s.qc r q
  match x.q with
  | [] => s
  | e :: es => s.setQc r q { x with q := { e with v := e.v ^^^ upset } :: es }

/-- The write side is full (R301). -/
def qcFull (s : State) (r q : Nat) : Bool := decide (qcDepth s r q ≤ (s.qc r q).level)

/-- An entry written where there is room (R303: in packet mode it is seen once its END is written). -/
def qcPush (s : State) (r q : Nat) (e : QEntry) : State :=
  let x := s.qc r q
  if qcPacket s r q then
    if e.fin then s.setQc r q { x with q := x.q ++ x.part ++ [e], part := [] } else s.setQc r q { x with part := x.part ++ [e] }
  else s.setQc r q { x with q := x.q ++ [e] }

/-- A packet discarded because the free space ran out (R303): ignored up to its END. -/
def packetDrop (s : State) (r q : Nat) (fin : Bool) : State :=
  let f := fabB r
  ((s.setQc r q { s.qc r q with part := [], dropping := !fin }).sb F.QC_EVT_PKT_DROP f q true).bump F.QC_CNT_DROP f q

/-- A write by the fabric (R302, R303). -/
def fabricPush (s : State) (r q : Nat) (v : BitVec 72) (fin : Bool) : State :=
  let f := fabB r
  let x := s.qc r q
  if !qcOn s r q || s.gf F.QC_CFG_WSRC f q != 0 then s
  else if qcPacket s r q && x.dropping then s.setQc r q { x with dropping := !fin }
  else if qcFull s r q then
    if qcPacket s r q then packetDrop s r q fin
    else (s.bump F.QC_CNT_OVF f q).sb F.QC_EVT_OVF f q true
  else qcPush s r q ⟨entryParity s r q (v &&& qcMask s r q), fin, 0⟩

/-- A 72-bit entry offered by a converter tap (WSRC 1) or a Loop Engine output (WSRC 2), at WIDTH 72 and in a region whose
fast clock runs (R300, R301); none: the queue refuses it. -/
def streamPush (s : State) (r q wsrc : Nat) (v : BitVec 72) : Option State :=
  if qcOn s r q && s.gf F.QC_CFG_WSRC (fabB r) q = wsrc && s.gf F.QC_CFG_WIDTH (fabB r) q = 3 && !qcFull s r q
      && decide (s.clk r = 0) then
    some (qcPush s r q ⟨entryParity s r q v, false, 0⟩)
  else none

/-- The 72-bit entry of a two-word transfer (R300). -/
def xferEntry (t : Xfer) : BitVec 72 := t.w0.setWidth 72 ||| t.w1.setWidth 72 <<< 32

/-- QUEUE_WRITE (R300 to R303). `wc`, `rc`: cycles of the queue's write and read clocks since its last command; a source
whose clock is stopped writes nothing (R289). -/
def execQueueWrite (src : QueueSrc) (wc rc : Nat) (s : State) : Host.Outcome State Fault Refusal :=
  s.after <|
    match src with
    | .fabric r q v fin => if s.clk r.val = 0 then fabricPush (qcPass s r.val q.val wc rc) r.val q.val v fin else s
    | .engine r p =>
      let b := leB r.val
      match (s.eng r.val).outq.get p.val with
      | [] => s
      | t :: _ =>
        if s.gf F.LE_OUTp_CFG_DEST b p.val = 2 ∧ s.clk r.val = 0 then
          let d := s.gf F.LE_OUTp_CFG_RGN b p.val
          let q := s.gf F.LE_OUTp_CFG_PORT b p.val
          let s1 := qcPass (outPop s r.val p.val) d q wc rc
          (streamPush s1 d q 2 (xferEntry t)).getD (outDrop s1 r.val p.val)
        else s

/-- QUEUE_READ (R301, R302, R265): a fabric reader takes the oldest entry that it sees; a Loop Engine input port takes it as
a transfer, and keeps the queue waiting while it is full. `wc`, `rc`: cycles of the queue's clocks since its last command;
`upset`: bits of the entry that have flipped. -/
def execQueueRead (r : Rgn) (q : Fin 16) (wc rc : Nat) (upset : BitVec 72) (s : State) :
    Host.Outcome State Fault Refusal :=
  let f := fabB r.val
  let s1 := qcPass s r.val q.val wc rc
  s.after <|
    if !qcOn s r.val q.val || decide (s.clk r.val ≠ 0) then s
    else match (s1.qc r.val q.val).seen with
    | [] => s1
    | _ :: _ =>
      let s2 := entryUpset s1 r.val q.val upset
      let v : BitVec 72 := match (s2.qc r.val q.val).q with | [] => 0 | e :: _ => e.v
      let s3 := qcTake (entryCheck s2 r q.val 1) r.val q.val
      match s.gf F.QC_CFG_RSNK f q.val with
      | 0 => s3
      | 1 =>
        if s.gf F.QC_CFG_WIDTH f q.val = 3 then
          (portOffer s3 (s.gf F.QC_CFG_RRGN f q.val) (s.gf F.QC_CFG_RPORT f q.val)
            ⟨v.setWidth 24, (v >>> 32).setWidth 24⟩).getD s1
        else s1
      | _ => s1

/-- A host pop (R300, R302, R304), at WIDTH 72 alone: the oldest entry's low 64 bits, which leaves the queue; 0 from a queue
that shows none. Of a controller that is idle or of another width the read answers 0 and pops nothing (DESIGN CHOICE, log
entry 214). -/
def qcPop (s : State) (r : Rgn) (q : Nat) : DWord × State :=
  let f := fabB r.val
  if !qcOn s r.val q || s.gf F.QC_CFG_WIDTH f q != 3 then (0, s)
  else match (s.qc r.val q).seen with
  | [] => (0, (s.bump F.QC_CNT_UNF f q).sb F.QC_EVT_UNF f q true)
  | e :: _ => (e.v.setWidth 64, qcTake (entryCheck s r q 2) r.val q)

/-- A write of QC_FLUSH (R304); the rest of a packet that loses its first entries is ignored up to its END (R303). -/
def qcFlushWrite (s : State) (a : Reader) (r q : Nat) (v : Word) : State :=
  fabOwner s a r fun s =>
    if blockTarget s r q then fabReject s r
    else if fOf v F.QC_FLUSH_FLUSH = 1 then
      let x := s.qc r q
      s.setQc r q { x with
        q := [], part := [], freed := [], rp := (x.rp + x.q.length) % qcDepth s r q,
        dropping := qcPacket s r q && (x.dropping || !x.part.isEmpty) }
    else s

/-- QUEUE_FLUSH. -/
def execQueueFlush (a : Reader) (r : Rgn) (q : Fin 16) (s : State) : Host.Outcome State Fault Refusal :=
  s.after (qcFlushWrite s a r.val q.val 1)

/-- PACKET_ABORT (R303). -/
def execPacketAbort (r : Rgn) (q : Fin 16) (s : State) : Host.Outcome State Fault Refusal :=
  let x := s.qc r.val q.val
  s.after <|
    if qcOn s r.val q.val && qcPacket s r.val q.val && (x.dropping || !x.part.isEmpty) && decide (s.clk r.val = 0) then
      (s.setQc r.val q.val { x with part := [], dropping := false }).sb F.QC_EVT_PKT_ABORT (fabB r.val) q.val true
    else s

/-- A write of QC_CFG or QC_THR: refused whole for the target of a block substitution (R314); a sink region on the other
die is unlisted (R13, R37). -/
def qcWrite (s : State) (a : Reader) (reg : Reg) (r q : Nat) (v : Word) : State :=
  fabOwner s a r fun s =>
    let f := fabB r
    if blockTarget s r q then fabReject s r
    else
      let w := s.merged reg f q v
      s.wr reg f q (if reg = R.QC_CFG then keepRgn r F.QC_CFG_RRGN (s.rd reg f q) w else w)

/-! ### User registers (R305, R306) -/

/-- A register opens a latch group. -/
def groupStart (s : State) (r n : Nat) : Bool :=
  if n < 32 then (s.rd R.FAB_UGRP0 (fabB r)).getLsbD n else (s.rd R.FAB_UGRP1 (fabB r)).getLsbD (n - 32)

/-- The registers of the group that n opens: n and those after it up to the next group. -/
def groupOf (s : State) (r n : Nat) : List Nat :=
  n :: ((List.range 64).filter fun m => n < m).takeWhile fun m => !groupStart s r m

/-- Segment h of a user register: the flip-flops FF0 of the cluster that the image names, or what the register last showed. -/
def segment (s : State) (r n h : Nat) : Nat :=
  match uregSegment s r n h with
  | some c => ((List.range 16).map fun i => if ((s.fab r).ff.get c).getLsbD (2 * i) then 2 ^ i else 0).sum
  | none => (s.rd R.FAB_UREGn (fabB r) n).toNat / 2 ^ (16 * h) % 2 ^ 16

/-- The carry pending out of segment h (R305). -/
def carryOut (s : State) (r n h : Nat) : Bool :=
  match uregSegment s r n h with
  | some c => (s.fab r).pend.testBit c
  | none => ((s.fab r).carry.get n).testBit h

/-- The live, unfolded value of a user register. -/
def uregLive (s : State) (r n : Nat) : Word := BitVec.ofNat 32 (segment s r n 0 + segment s r n 1 * 2 ^ 16)

/-- The value of a wide counter's registers with the pending carries added (R305). -/
def folded (s : State) (r : Nat) (ms : List Nat) : Nat :=
  ((List.range ms.length).map fun i =>
    let m := ms.getD i 0
    (uregLive s r m).toNat * 2 ^ (32 * i)
      + (if carryOut s r m 0 then 2 ^ (32 * i + 16) else 0) + (if carryOut s r m 1 then 2 ^ (32 * i + 32) else 0)).sum

/-- What each register of a group is latched as: a wide counter's folded, any other's as it stands. -/
def groupValues (s : State) (r n : Nat) : List (Nat × Word) :=
  let ms := groupOf s r n
  let wide := ms.filter (uregWide s r)
  let total := folded s r wide
  ms.map fun m =>
    (m, if uregWide s r m then BitVec.ofNat 32 (total / 2 ^ (32 * wide.idxOf m)) else uregLive s r m)

/-- A reader's key for a register's holding register (R18, R19). -/
def accKey (a : Reader) (addr : Nat) : Nat := a.code * 2 ^ 25 + addr

/-- A read of a user register (R306): a group's first register latches the group for the reader; another returns what the
reader holds of it, or the live value. -/
def uregRead (s : State) (a : Reader) (r n : Nat) : Word × State :=
  let f := fabB r
  if groupStart s r n then
    let vs := groupValues s r n
    (((vs.find? fun p => p.1 = n).map (·.2)).getD 0,
      { s with hold := s.hold.setAll (vs.map fun p => (accKey a (R.FAB_UREGn.addr f p.1), some p.2)) })
  else ((s.hold.get (accKey a (R.FAB_UREGn.addr f n))).getD (uregLive s r n), s)

/-- UREG_GROUP_READ: `steps`: what happens in the fabric up to the latch edge; `live`: at that edge the values of the group's
registers that no cluster named by the image shows, each with the carries pending out of its two segments; then the read of
the group's first register. -/
def execUregGroupRead (a : Reader) (r : Rgn) (n : Fin 64) (steps : List FabStep) (live : List (Word × Fin 4)) (s : State) :
    Host.Outcome State Fault Refusal :=
  let f := fabB r.val
  let ps := (groupOf s r.val n.val).zip live
  s.after <|
    if groupStart s r.val n.val && reaches s a (R.FAB_UREGn.addr f n.val) then
      let s1 := ps.foldl (fun s p => s.wr R.FAB_UREGn f p.1 p.2.1) (runFab s r.val steps s.now)
      let x := s1.fab r.val
      let s2 := s1.setFab r.val { x with carry := x.carry.setAll (ps.map fun p => (p.1, p.2.2.val)) }
      let v := uregRead s2 a r.val n.val
      v.2.answer a (v.1.setWidth 64)
    else s

/-- A write of FAB_UREGn: refused for a register that the image declares read-only (R306). -/
def uregWrite (s : State) (a : Reader) (r n : Nat) (v : Word) : State :=
  fabOwner s a r fun s => if uregReadOnly s r n then fabReject s r else s.plainWrite R.FAB_UREGn (fabB r) n v

/-! ### The capture snapshot (R308, R309) -/

/-- A write of FAB_CAP_CTRL: START arms while no capture waits, and with code 0x3F triggers at once (R308); ABORT ends one,
and trees not yet captured keep their latches (R309). -/
def capWrite (s : State) (a : Reader) (r : Nat) (v : Word) : State :=
  fabOwner s a r fun s =>
    let f := fabB r
    let run := s.gb F.FAB_CAP_CTRL_START f
    let s1 := (s.plainWrite R.FAB_CAP_CTRL f 0 v).sb F.FAB_CAP_CTRL_ABORT f 0 false
    let idle := { s1.fab r with capTrig := false, capPend := 0, capFirst := none }
    if fOf v F.FAB_CAP_CTRL_ABORT = 1 then
      ((s1.sb F.FAB_CAP_CTRL_START f 0 false).sf F.FAB_CAP_STAT_STATE f 0 (if run then 0 else s.gf F.FAB_CAP_STAT_STATE f)).setFab
        r idle
    else if fOf v F.FAB_CAP_CTRL_START = 1 ∧ run = false then
      let s2 := (s1.sf F.FAB_CAP_STAT_STATE f 0 1).setFab r idle
      captureTrigger s2 r 0x3F
    else s1

/-- CAPTURE_START. -/
def execCaptureStart (a : Reader) (r : Rgn) (v : Word) (s : State) : Host.Outcome State Fault Refusal :=
  s.after (capWrite s a r.val (v.setBits 1 0 1))

/-- CAPTURE_ABORT. -/
def execCaptureAbort (a : Reader) (r : Rgn) (s : State) : Host.Outcome State Fault Refusal :=
  s.after (capWrite s a r.val ((s.rd R.FAB_CAP_CTRL (fabB r.val)).setBits 1 0 2))

/-- CAPTURE_TRIGGER (R308, R309): after `before`, the trigger of a code reaches the capture; `after`: what happens in the
fabric from then on, each selected tree being captured at its first edge. `sub`: the count of the first of those edges. -/
def execCaptureTrigger (r : Rgn) (code : Fin 64) (before after : List FabStep) (sub : Fin 40) (s : State) :
    Host.Outcome State Fault Refusal :=
  s.after (runFab (captureTrigger (runFab s r.val before (s.stamp sub)) r.val code.val) r.val after (s.stamp sub))

/-- CAPTURE_DONE (R308): what happens in the fabric up to the last selected tree's edge; the capture ends once every one has
been captured. -/
def execCaptureDone (r : Rgn) (steps : List FabStep) (sub : Fin 40) (s : State) : Host.Outcome State Fault Refusal :=
  let f := fabB r.val
  let s1 := runFab s r.val steps (s.stamp sub)
  let x := s1.fab r.val
  s.after <|
    if x.capTrig && x.capPend = 0 then
      let s2 := (s1.setFab r.val { x with capTrig := false, capFirst := none }).wr64 R.FAB_CAP_TIME f 0
        (x.capFirst.getD (s.stamp sub))
      (((s2.sf F.FAB_CAP_STAT_STATE f 0 3).count F.FAB_CAP_STAT_CAP_CNT f).sb F.FAB_EVT_CAP_DONE f 0 true).sb
        F.FAB_CAP_CTRL_START f 0 false
    else s1

/-! ### Relocation and block substitution (R310 to R314) -/

def rlResult (s : State) (r result cause : Nat) : State :=
  (s.sf F.FAB_RELOC_STAT_RESULT (fabB r) 0 result).sf F.FAB_RELOC_STAT_CAUSE (fabB r) 0 cause
def rlState (s : State) (r st : Nat) : State := s.sf F.FAB_RELOC_STAT_STATE (fabB r) 0 st

/-- A spare of the kind is free: a cluster of the four, or the block; the one taken is the lowest. -/
def rlFree (s : State) (r kind : Nat) : Option Nat :=
  if kind = 1 then (if s.gb F.FAB_SPARE_STAT_BM_FREE (fabB r) then some 16 else none)
  else (List.range 4).find? fun i => (s.gf F.FAB_SPARE_STAT_FREE (fabB r)).testBit i

/-- The start of a relocation (kind 0) or block substitution (kind 1) (R310, R313); step 1 reads the RELOC image (R336). -/
def rlStart (s : State) (r kind t : Nat) : State :=
  match rlFree s r kind with
  | none => rlResult s r 3 1
  | some sp =>
    if s.gf F.FAB_RELOC_STAT_STATE (fabB r) ≠ 0 then rlResult s r 3 2
    else if s.gf F.RGN_STAT_OWNER (rgB r) = 0 then rlResult s r 3 3
    else if !relocHeld s r kind t then rlResult s r 3 4
    else
      let s1 := rlState (rlResult (s.setFab r { s.fab r with
        rlKind := kind, rlTarget := t, rlSpare := sp, rlForced := false, rlResume := 0 }) r 0 0) r 1
      match (if kind = 0 then relocDigest s r t else none) with
      | some e => s1.emit (e.read s)
      | none => s1

/-- A write of FAB_RELOC (R16, R310): targets that do not exist are unlisted (R13). -/
def relocWrite (s : State) (a : Reader) (r : Nat) (v : Word) : State :=
  fabOwner s a r fun s =>
    let f := fabB r
    let kind := fOf v F.FAB_RELOC_KIND
    let t := fOf v F.FAB_RELOC_TARGET
    let s1 := (s.sf F.FAB_RELOC_KIND f 0 kind).sf F.FAB_RELOC_TARGET f 0 (if t < 96 then t else s.gf F.FAB_RELOC_TARGET f)
    if fOf v F.FAB_RELOC_START = 0 ∨ s.gb F.FAB_RELOC_START f then s1
    else
      let tt := s1.gf F.FAB_RELOC_TARGET f
      let s2 := rlStart s1 r kind (if kind = 1 then tt % 16 else tt)
      if s.gf F.FAB_RELOC_STAT_STATE f = 0 ∧ s2.gf F.FAB_RELOC_STAT_STATE f ≠ 0 then s2.sb F.FAB_RELOC_START f 0 true else s2

/-- RELOCATION: by the owner, or by the wear logic with AUTO_RELOC. -/
def execRelocation (start : Starter) (r : Rgn) (c : Fin 96) (s : State) : Host.Outcome State Fault Refusal :=
  s.after <|
    match start with
    | .by a => relocWrite s a r.val (BitVec.ofNat 32 (c.val * 2 + 1))
    | .wear => if s.gb F.FAB_CTRL_AUTO_RELOC (fabB r.val) then rlStart s r.val 0 c.val else s

/-- BLOCK_SUBSTITUTION. -/
def execBlockSubstitution (start : Starter) (r : Rgn) (b : Fin 16) (s : State) : Host.Outcome State Fault Refusal :=
  s.after <|
    match start with
    | .by a => relocWrite s a r.val (BitVec.ofNat 32 (256 + b.val * 2 + 1))
    | .wear => if s.gb F.FAB_CTRL_AUTO_RELOC (fabB r.val) then rlStart s r.val 1 b.val else s

/-- The next step, or a pause before it under Torpor (R314). -/
def rlNext (s : State) (r st : Nat) : State :=
  let x := s.fab r
  let hold := pausing s r
  rlState (s.setFab r { x with rlResume := if hold then st else 0 }) r (if hold then 7 else st)

/-- A paused relocation resumes when Torpor ends. -/
def rlResumeAt (s : State) (r : Nat) : State :=
  if s.gf F.FAB_RELOC_STAT_STATE (fabB r) = 7 then rlState s r (s.fab r).rlResume else s

def rlEnd (s : State) (r : Nat) : State := (rlState s r 0).sb F.FAB_RELOC_START (fabB r) 0 false

/-- The handover (R311, R313): the mapping moves to the spare, which is no longer free; a spare that served the cluster
serves it no more. -/
def rlMap (s : State) (r : Nat) : State :=
  let f := fabB r
  let x := s.fab r
  if x.rlKind = 1 then (s.sf F.FAB_BMb_STAT_PHYS f x.rlTarget 16).sb F.FAB_SPARE_STAT_BM_FREE f 0 false
  else
    let s1 := (List.range 4).foldl (fun s i =>
      if s.gb F.FAB_SPMAPs_USED f i ∧ s.gf F.FAB_SPMAPs_CLUSTER f i = x.rlTarget then
        dropSpare (s.sb F.FAB_SPMAPs_USED f i false) r i
      else s) s
    ((s1.sb F.FAB_SPMAPs_USED f x.rlSpare true).sf F.FAB_SPMAPs_CLUSTER f x.rlSpare x.rlTarget).sf F.FAB_SPARE_STAT_FREE f 0
      (clearBit (s1.gf F.FAB_SPARE_STAT_FREE f) x.rlSpare)

/-- The old cluster or block is consumed. -/
def rlConsume (s : State) (r : Nat) : State :=
  let x := s.fab r
  s.useSpare (if x.rlKind = 1 then 6 else 5) r x.rlTarget (if x.rlForced then 5 else 0)

/-- The spare cluster failed its test (R312). -/
def rlSpareFail (s : State) (r : Rgn) : State :=
  let f := fabB r.val
  let x := s.fab r.val
  let s1 := (rlEnd (rlResult (dropSpare s r.val x.rlSpare) r.val 3 6) r.val).sf F.FAB_SPARE_STAT_FREE f 0 (clearBit (s.gf F.FAB_SPARE_STAT_FREE f) x.rlSpare)
  ((s1.sf F.FAB_SPARE_STAT_FAILED f 0 (s.gf F.FAB_SPARE_STAT_FAILED f ||| 2 ^ x.rlSpare)).useSpare 5 r.val x.rlTarget 6).raise
    (srcRgn r unitFab) 0x62 (detailOf [(2, 1, x.rlSpare), (3, 1, x.rlTarget), (4, 1, 0)])

/-- A port can read a RELOC image from host memory (R336): CFG_RELOC_ADDR.V = 1, and the posting port or, if none posts, a
port with Bus Master Enable. -/
def relocFetchable (s : State) : Bool :=
  s.gb F.CFG_RELOC_ADDR_V 0
    && (s.gf F.PMAP_STAT_PORT 0 != 0 || [0, 1].any fun p => s.linkUp p && s.gb F.HOST_p_STAT_BME 0 p)

/-- Step 1's load (R311, R336): the records read match their digest, and decrypted are the RELOC image's 26 with right
addresses and CRCs; they stand in the spare. None: the image cannot be used. -/
def rlLoad (s : State) (r : Nat) (image : Option (List (BitVec 1088))) : Option State :=
  let x := s.fab r
  match image, relocDigest s r x.rlTarget with
  | some raw, some e =>
    if e.vol && !relocFetchable s then none
    else match blockPlain s e raw with
      | some xs =>
        let right := (xs.zip (List.range xs.length)).all fun p => recSound p.1 && recAddr p.1 = relocFrame r x.rlTarget p.2
        if xs.length = 26 && right then
          some (loadSpare s r x.rlTarget x.rlSpare e.vol (s.cfg.relocs.get (r * 128 + x.rlTarget)) xs)
        else none
      | none => none
  | _, _ => none

/-- RELOCATION_STEP_END (R311 to R313). `image`: in step 1 the RELOC image's records as read, none if the read failed; `ok`:
the relocated routing of a block was loaded, step 3 matched, or the spare passed its test. -/
def execRelocationStepEnd (r : Rgn) (ok : Bool) (image : Option (List (BitVec 1088))) (s : State) :
    Host.Outcome State Fault Refusal :=
  let f := fabB r.val
  let x := s.fab r.val
  s.after <|
    match s.gf F.FAB_RELOC_STAT_STATE f with
    | 1 =>
      match (if x.rlKind = 1 then (if ok then some s else none) else rlLoad s r.val image) with
      | some s1 => rlNext s1 r.val 2
      | none => rlEnd (rlResult s r.val 3 4) r.val
    | 2 => rlNext s r.val (if x.rlKind = 1 then 5 else 3)
    | 3 => if ok then rlNext s r.val 5 else rlNext (s.sb F.FAB_EVT_RELOC_FAIL f 0 true) r.val 4
    | 4 =>
      if ok then
        (rlNext (s.setFab r.val { x with rlForced := true }) r.val 5).raise (srcRgn r unitFab) 0x63
          (detailOf [(2, 1, x.rlTarget), (3, 1, x.rlSpare), (4, 1, 0)])
      else rlSpareFail s r
    | 5 => rlNext (rlMap s r.val) r.val 6
    | 6 => rlEnd (if x.rlForced then rlResult (rlConsume s r.val) r.val 2 5 else rlResult (rlConsume s r.val) r.val 1 0) r.val
    | _ => s

/-- What a region reset does to a running relocation (R314): abandoned before handover, a pause before that step included;
from then on the mapping stands. -/
def rlReset (s : State) (r : Nat) : State :=
  let st := s.gf F.FAB_RELOC_STAT_STATE (fabB r)
  let before := if st = 7 then decide ((s.fab r).rlResume ≤ 5) else decide (st < 5)
  if st = 0 then s
  else if before then rlEnd (rlResult (if (s.fab r).rlKind = 1 then s else dropSpare s r (s.fab r).rlSpare) r 3 7) r
  else rlEnd (rlConsume (if st = 5 then rlMap s r else s) r) r

/-- What a region reset does to the fabric (R315): flip-flops at their initial values, queues empty, latches and the
readers' holding registers clear, block memories from the image. -/
def fabRegionReset (s : State) (r : Nat) : State :=
  let s1 := rlReset s r
  let x := s1.fab r
  let words := (s1.img.cells.filter fun c => imgKey r 0x1_0000 ≤ c.1 && c.1 < imgKey r 0x1_8000).map fun c =>
    (c.1 - imgKey r 0x1_0000) / 2
  let lo := fabB r
  { (s1.setFab r { FabS.reset with
      bm := words.foldl (fun t w => t.set w (bmInit s1 r (w / 1024) (w % 1024))) .empty,
      ff := (List.range 96).foldl (fun t c => t.set c (ffInit s1 r c)) .empty,
      rowMap := x.rowMap, grst := x.grst, ins := x.ins, ce := x.ce }) with
    hold := s1.hold.keep fun k => !(lo ≤ k % 2 ^ 25 && k % 2 ^ 25 < lo + 0x2_0000) }

end Sys2Proof.Machine
end

