-- ==== Sys2Proof/Machine/Integrity.lean ====
section
/-!
DEFINITION. Rotation of the fifth slice, the background estimator, dither, low-power handover and slice failure
(04_converter_integrity.md, R144 to R167).
-/

namespace Sys2Proof.Machine

/-- The next PHASE of a rotation, or a pause that resumes with it (R149); a pause makes the active slices stale (R160). -/
def rotPhase (s : State) (r g ph : Nat) : State :=
  if rotPaused s r g then
    makeStale ((s.setGrp r g { s.grp r g with resume := ph }).sf F.CG_ROT_STAT_PHASE (cgB r g) 0 3) r g
  else s.sf F.CG_ROT_STAT_PHASE (cgB r g) 0 ph

/-- A slice retired (R161): marked in SLICE_FAIL and the ledger as a consumed spare, SLICE_RETIRED and CG_SLICE_FAIL; then
four-slice operation (R162), or Failed if four slices were working (R165). `at_`: 2 step 1, 3 step 2 (R558). -/
def retireSlice (s : State) (r : Rgn) (g : Fin 4) (slice at_ : Nat) : State :=
  let b := cgB r.val g.val
  let n := (working s r.val g.val).length
  let fail := s.gf F.CG_CAL_STAT_SLICE_FAIL b ||| 2 ^ slice
  let s1 := (s.sf F.CG_CAL_STAT_SLICE_FAIL b 0 fail).sb F.CG_INTEG_EVT_SLICE_RETIRED b 0 true
  let src := srcRgn r (unitCg g)
  if n = 5 then
    fourSlice ((s1.useSpare 2 r.val g.val 0).raise src 0x20
      (detailOf [(2, 1, g.val), (3, 1, slice), (4, 1, fail), (5, 1, at_)])) r.val g.val
  else
    let s2 := ((setCgState (stopConversions s1 r.val g.val) r.val g.val 7).sb F.CG_STAT_CAL_VALID b 0 false).failPermanent
    (s2.raise src 0x20 (detailOf [(2, 1, g.val), (3, 1, slice), (4, 1, fail), (5, 1, at_)])).raise src 0x21
      (detailOf [(2, 1, g.val), (3, 1, fail), (4, 1, at_)])

/-- A foreground calibration fails (R161): offset beyond ±115 LSB, gain beyond ±2.8 %, or a deviation from a straight line
of more than 2 LSB (dev in 1/16 LSB). CG_CALs.OFS is in 1/16 LSB, GAIN in 2^-16. -/
def calFails (cal : Word) (dev : Nat) : Bool :=
  decide ((signedOf 12 (fOf cal F.CG_CALs_OFS)).natAbs > 115 * 16)
    || decide ((signedOf 12 (fOf cal F.CG_CALs_GAIN)).natAbs * 1000 > 28 * 65536) || decide (dev > 32)

/-- The results of a foreground calibration go to CG_CALs and CG_SVCs of the slice (R146). -/
def recordService (s : State) (r g slice : Nat) (cal : Word) : State :=
  let b := cgB r g
  ((s.sf F.CG_CALs_OFS b slice (fOf cal F.CG_CALs_OFS)).sf F.CG_CALs_GAIN b slice (fOf cal F.CG_CALs_GAIN)).sf
    F.CG_SVCs_TEMP b slice (s.gf F.RGN_TEMP_TEMP (rgB r))

/-- The words of a slice as they are kept against a window that a clock stop abandons (R149). -/
def keepWords (s : State) (r g slice : Nat) : State :=
  s.setGrp r g { s.grp r g with prevCal := some (s.rd R.CG_CALs (cgB r g) slice, s.rd R.CG_SVCs (cgB r g) slice) }

/-- SHADOW_START: step 1 of the service window ends (R146), with its coefficients or with the slice's retirement (R161). -/
def execShadowStart (r : Rgn) (g : Fin 4) (cal : Word) (dev : Nat) (s : State) : Host.Outcome State Fault Refusal :=
  let b := cgB r.val g.val
  let svc := s.gf F.CG_ROT_STAT_SVC b
  s.after <|
    if s.gf F.CG_ROT_STAT_PHASE b ≠ 1 then s
    else if calFails cal dev then retireSlice s r g svc 2
    else rotPhase (recordService (keepWords s r.val g.val svc) r.val g.val svc cal) r.val g.val 2

/-- A handover (R146 step 3): slice `new` takes position p, its service window completed and counted (R160, CG_SVCs). -/
def handOver (s : State) (r g p out new : Nat) : State :=
  let b := cgB r g
  let pos := s.gf F.CG_ROT_STAT_POS b
  let s1 := ((s.sf F.CG_ROT_STAT_POS b 0 (pos - out * 8 ^ p + new * 8 ^ p)).sf F.CG_ROT_STAT_SVC b 0 out).count
    F.CG_SVCs_COUNT b new
  let x := s1.grp r g
  let s2 := (s1.count F.CG_ROT_CNT_HANDOVERS b).setGrp r g
    { x with rot := x.rot + 1, stale := clearBit x.stale new, prevCal := none }
  s2.sb F.CG_ROT_STAT_STALE b 0 (staleNow s2 r g)

/-- ROTATION_POINT (R145, R146 step 3, R147): the service slice takes position r mod 4 and the outgoing slice enters
service; a mean difference of more than 64 LSB retires the outgoing slice after the handover (R161). -/
def execRotationPoint (r : Rgn) (g : Fin 4) (diff : Nat) (s : State) : Host.Outcome State Fault Refusal :=
  let b := cgB r.val g.val
  let p := (s.grp r.val g.val).rot % 4
  let out := (posSlices s r.val g.val).getD p 0
  s.after <|
    if s.gf F.CG_ROT_STAT_PHASE b ≠ 2 then s
    else
      let s1 := handOver s r.val g.val p out (s.gf F.CG_ROT_STAT_SVC b)
      if diff > 64 then retireSlice (s1.sb F.CG_INTEG_EVT_SHADOW_FAIL b 0 true) r g out 3
      else rotPhase s1 r.val g.val 1

/-- The next working slice in ascending order modulo 5 (R159). -/
def nextSlice (s : State) (r g cur : Nat) : Nat :=
  (([1, 2, 3, 4, 5].map fun i => (cur + i) % 5).find? fun x => (working s r g).contains x).getD cur

/-- LOW_POWER_HANDOVER: in low-power mode the conversion moves to the next working slice, which has run the steps of R146
(R159), unless ROT_HOLD holds the rotation (R149); one that fails them is retired and does not take over (R161). In four-slice
operation no service window runs (R162) and no slice is retired (R165). -/
def execLowPowerHandover (r : Rgn) (g : Fin 4) (cal : Word) (dev diff : Nat) (s : State) :
    Host.Outcome State Fault Refusal :=
  let b := cgB r.val g.val
  let x := s.grp r.val g.val
  let nxt := nextSlice s r.val g.val x.lpSlice
  s.after <|
    if cgState s r.val g.val ≠ 2 ∨ s.inTorpor r.val ∨ rotPaused s r.val g.val then s
    else if (working s r.val g.val).length < 5 then
      (s.count F.CG_ROT_CNT_HANDOVERS b).setGrp r.val g.val { x with lpSlice := nxt }
    else if calFails cal dev then retireSlice s r g nxt 2
    else
      let s1 := ((recordService s r.val g.val nxt cal).count F.CG_SVCs_COUNT b nxt).count F.CG_ROT_CNT_HANDOVERS b
      let s2 := s1.setGrp r.val g.val { x with lpSlice := nxt }
      if diff > 64 ∧ nxt ≠ x.lpSlice then retireSlice (s2.sb F.CG_INTEG_EVT_SHADOW_FAIL b 0 true) r g x.lpSlice 3 else s2

/-- A block is usable (R151, R158): broadband power of at least −60 dBFS (exc in −0.5 dB steps), or dither on; never while
EST_FREEZE holds. -/
def usable (s : State) (r g exc : Nat) : Bool :=
  !s.gb F.CG_ROT_CTRL_EST_FREEZE (cgB r g) && (decide (exc ≤ 120) || dithering s r g)

/-- A move limited to 1/16 of its estimated error (R150). -/
def limited (err move : Int) : Int := clampInt (-((err.natAbs / 16 : Nat) : Int)) ((err.natAbs / 16 : Nat) : Int) move

/-- A signed field of `n` bits moved, at its ends if it would leave its range. -/
def moveField (s : State) (f : Fld) (b i n : Nat) (d : Int) : State :=
  s.sf f b i (codeOf n (clampInt (-((2 ^ (n - 1) : Nat) : Int)) (((2 ^ (n - 1) : Nat) : Int) - 1) (signedOf n (s.gf f b i) + d)))

/-- The update of one position's slice (R150). -/
def moveSlice (s : State) (b slice : Nat) (m : EstMove) : State :=
  moveField (moveField (moveField s F.CG_SKEWs_TRIM b slice 12 (limited m.trimErr m.trim)) F.CG_SKEWs_TC b slice 12
    (limited m.tcErr m.tc)) F.CG_BWs_BW b slice 16 (limited m.bwErr m.bw)

/-- The updates of a usable block: of the slices at the four positions; one slice alone has no neighbour to be measured
against, so that low-power mode moves none (R150; log entry 205). -/
def moveAll (s : State) (r g : Nat) (moves : List EstMove) : State :=
  if cgState s r g = 2 then s
  else ((posSlices s r g).zip moves).foldl (fun s p => moveSlice s (cgB r g) p.1 p.2) s

/-- A usable block ends (R150, R152). -/
def blockUsable (s : State) (r g : Nat) (moves : List EstMove) : State :=
  let b := cgB r g
  let s1 := moveAll s r g moves
  let s2 := (s1.sf F.CG_EST_STAT_HOLD_BLK b 0 0).bump F.CG_EST_STAT_USABLE_RUN b
  let s3 := if s2.gf F.CG_EST_STAT_USABLE_RUN b ≥ 64 then s2.sb F.CG_EST_STAT_SKEW_HOLD b 0 false else s2
  s3.setGrp r g { s3.grp r g with usableAt := s.hub.base }

/-- An unusable block ends (R151, R152). -/
def blockUnusable (s : State) (r : Rgn) (g : Fin 4) : State :=
  let b := cgB r.val g.val
  let s1 := (s.sf F.CG_EST_STAT_USABLE_RUN b 0 0).bump F.CG_EST_STAT_HOLD_BLK b
  let blk := s1.gf F.CG_EST_STAT_HOLD_BLK b
  if s.gb F.CG_EST_STAT_SKEW_HOLD b || decide (blk < 64) then s1
  else
    let s2 := (s1.sb F.CG_EST_STAT_SKEW_HOLD b 0 true).sb F.CG_INTEG_EVT_HOLD_SET b 0 true
    (s2.setGrp r.val g.val { s2.grp r.val g.val with skewTemp := tempOf s r.val, skewRem := .empty }).raise
      (srcRgn r (unitCg g)) 0x22 (detailOf [(2, 1, g.val), (3, 2, blk)])

/-- ESTIMATOR_BLOCK (R150 to R152): a usable block updates the coefficients; runs are counted; the 64th unusable block in
a row sets SKEW_HOLD, the 64th usable one clears it. `moves` are what the estimator makes of the four positions. -/
def execEstimatorBlock (r : Rgn) (g : Fin 4) (exc : Nat) (moves : List EstMove) (s : State) :
    Host.Outcome State Fault Refusal :=
  s.after <|
    if !(converting s r.val g.val || (cgState s r.val g.val = 5 && !s.inTorpor r.val)) then s
    else
      let s0 := s.sf F.CG_EST_STAT_EXC (cgB r.val g.val) 0 (min 255 exc)
      if usable s r.val g.val exc then blockUsable s0 r.val g.val moves else blockUnusable s0 r g

/-- CG_HOLD_TIME: milliseconds since the last usable block while SKEW_HOLD is 1, 0 otherwise (R152). -/
def holdMs (s : State) (r g : Nat) : Nat :=
  if s.gb F.CG_EST_STAT_SKEW_HOLD (cgB r g) then (s.hub.base - (s.grp r g).usableAt) / 16_000_000 else 0

/-- The skew trims of a group that holds, moved with the region temperature by each slice's coefficient (R153). TC is in
0.5 fs/°C and the temperature in 0.25 °C, so a step of 10 fs of TRIM is 80 units of their product; what is left over is
kept for the next sample. -/
def skewTrack (s : State) (r g : Nat) (temp : Int) : State :=
  let b := cgB r g
  let x := s.grp r g
  if s.gb F.CG_EST_STAT_SKEW_HOLD b then
    let dt := temp - x.skewTemp
    let one := fun (s : State) (i : Nat) =>
      let u := signedOf 12 (s.gf F.CG_SKEWs_TC b i) * dt + (s.grp r g).skewRem.get i
      let s1 := s.sf F.CG_SKEWs_TRIM b i
        (codeOf 12 (clampInt (-2048) 2047 (signedOf 12 (s.gf F.CG_SKEWs_TRIM b i) + u / 80)))
      s1.setGrp r g { s1.grp r g with skewRem := (s1.grp r g).skewRem.set i (u % 80) }
    let s1 := (List.range 5).foldl one s
    s1.setGrp r g { s1.grp r g with skewTemp := temp }
  else s

/-- A write of CG_ROT_CTRL (R156, R166): a write that sets EST_FREEZE or ROT_HOLD while LIVE is 1 is refused whole and sets
TEST_REJ. -/
def rotCtrlWrite (s : State) (a : Reader) (r : Rgn) (g : Fin 4) (v : Word) : State :=
  s.asOwner a r.val fun s =>
    let b := cgB r.val g.val
    if s.gb F.CG_CTRL_LIVE b && (fOf v F.CG_ROT_CTRL_EST_FREEZE = 1 || fOf v F.CG_ROT_CTRL_ROT_HOLD = 1) then
      s.sb F.CG_INTEG_EVT_TEST_REJ b 0 true
    else rotResume (s.plainWrite R.CG_ROT_CTRL b 0 v) r.val g.val

/-- CG_ROT_CTRL_WRITE. -/
def execCgRotCtrlWrite (a : Reader) (r : Rgn) (g : Fin 4) (v : Word) (s : State) :
    Host.Outcome State Fault Refusal := s.after (rotCtrlWrite s a r g v)

/-- A restart of the region fast clock after a stop (R149, R160): a rotating group begins a new service window, its active
slices stale. -/
def cgClockRestart (s : State) (r g : Nat) : State :=
  let st := cgState s r g
  if st = 3 ∨ st = 4 ∨ st = 5 then startWindow (makeStale s r g) r g else s

/-- The words that the service slice had before the window in progress (R149). -/
def restoreWords (s : State) (r g : Nat) : State :=
  match (if s.gf F.CG_ROT_STAT_PHASE (cgB r g) = 0 then none else (s.grp r g).prevCal) with
  | some p =>
    let b := cgB r g
    let svc := s.gf F.CG_ROT_STAT_SVC b
    (((s.wr R.CG_CALs b svc p.1).wr R.CG_SVCs b svc p.2)).setGrp r g { s.grp r g with prevCal := none }
  | none => s

/-- A stop of the region fast clock abandons the service window, a paused one too: the service slice keeps its previous
coefficients (R149). -/
def cgClockStop (s : State) (r g : Nat) : State := rotStop (restoreWords s r g) r g

end Sys2Proof.Machine
end

