-- ==== Sys2Proof/Machine/Analogue.lean ====
section
/-!
DEFINITION. Analogue cells, the switch matrix, references, injection and live migration (02_analogue_fabric.md, R71 to
R101, R555 to R557).
-/

namespace Sys2Proof.Machine

/-- A write refused in an analogue cluster: REJECT sets and REJ_CNT counts (R75). -/
def acReject (s : State) (b : Nat) : State := s.reject F.AC_STATUS_REJECT F.AC_STATUS_REJ_CNT b

/-! ### Limits of the power modes (R74, R75, R79) -/

/-- GBW/20 of a mode code, in Hz (R79): the largest f0 and fsc. -/
def modeLimit (mode : Nat) : Nat :=
  match mode with
  | 1 => 10000 | 2 => 1000000 | 3 => 15000000 | 4 => 100000000 | _ => 0

/-- Is f0 of a code, 1 kHz × 2^(code/64), at most n/d Hz (R74)? Exact: the 64th powers compared. -/
def f0AtMost (code n d : Nat) : Bool := decide ((1000 * d) ^ 64 * 2 ^ code ≤ n ^ 64)

/-- Is f0 of a code at least n/d Hz? -/
def f0AtLeast (code n d : Nat) : Bool := decide (n ^ 64 ≤ (1000 * d) ^ 64 * 2 ^ code)

/-- A cell keeps the limits of its power mode (R75): only a biquad that is not Off is checked. fsc = 100 MHz / (div + 1). -/
def cellWithin (cfg filt : Word) (div : Nat) : Bool :=
  let func := fOf cfg F.AC_CELLn_CFG_FUNC
  let mode := fOf cfg F.AC_CELLn_CFG_MODE
  let code := fOf filt F.AC_CELLn_FILT_F0
  if mode = 0 then true
  else if func = 4 then f0AtMost code (modeLimit mode) 1
  else if func = 5 then
    f0AtMost code (modeLimit mode) 1 && decide (100000000 ≤ modeLimit mode * (div + 1))
      && f0AtLeast code 100000000 (10000 * (div + 1)) && f0AtMost code 100000000 (10 * (div + 1))
  else true

/-- The settling time of a mode, in ns (R79). -/
def settleNs (mode : Nat) : Nat :=
  match mode with
  | 1 => 100000 | 2 => 1000 | 3 => 100 | 4 => 20 | _ => 0

/-- The match window W of a mode, in ns (R96). -/
def windowNs (mode : Nat) : Nat :=
  match mode with
  | 1 => 10000000 | 2 => 100000 | 3 => 10000 | 4 => 2000 | _ => 0

/-! ### Cell registers -/

/-- A write to a cell's registers while its cluster migrates that cell (R100). -/
def cellMigrating (s : State) (r k n : Nat) : Bool :=
  s.gf F.AC_MIG_STAT_STATE (acB r k) != 0 && decide ((s.clu r k).migCell = n)

/-- The output switches of a cell open or close. -/
def State.setOut (s : State) (r k n : Nat) (closed : Bool) : State :=
  let c := s.clu r k
  s.setClu r k { c with closedOut := c.closedOut.set n (if closed then 1 else 0) }

/-- The state after AC_CELLn_CFG takes a new word (R78, R80): a change of FUNC, or a change to or from Off, opens the
output switches; ACTIVE follows MODE; a cell that is no longer a sample-and-hold holds no more. -/
def applyCellCfg (s : State) (r k n : Nat) (w : Word) : State :=
  let b := acB r k
  let old := s.rd R.AC_CELLn_CFG b n
  let mode := fOf w F.AC_CELLn_CFG_MODE
  let opens := fOf w F.AC_CELLn_CFG_FUNC != fOf old F.AC_CELLn_CFG_FUNC || mode = 0 || fOf old F.AC_CELLn_CFG_MODE = 0
  let s1 := (s.wr R.AC_CELLn_CFG b n w).sb F.AC_CELLn_STAT_ACTIVE b n (mode != 0)
  let s2 := if opens then s1.setOut r k n false else s1
  if fOf w F.AC_CELLn_CFG_FUNC = 6 ∧ mode ≠ 0 then s2
  else
    let c := s2.clu r k
    s2.setClu r k { c with hold := c.hold.set n none }

/-- A write of AC_CELLn_CFG (R75, R78, R80, R100). -/
def cellCfgWrite (s : State) (a : Reader) (r : Rgn) (k : Fin 12) (n : Fin 8) (v : Word) : State :=
  s.asOwner a r.val fun s =>
    let b := acB r.val k.val
    let w := s.merged R.AC_CELLn_CFG b n.val v
    if cellMigrating s r.val k.val n.val || !cellWithin w (s.rd R.AC_CELLn_FILT b n.val) (s.gf F.AC_CTRL_SC_DIV b) then
      acReject s b
    else applyCellCfg s r.val k.val n.val w

/-- AC_CELL_CFG_WRITE. -/
def execAcCellCfgWrite (a : Reader) (r : Rgn) (k : Fin 12) (n : Fin 8) (v : Word) (s : State) :
    Host.Outcome State Fault Refusal := s.after (cellCfgWrite s a r k n v)

/-- A write of AC_CELLn_FILT (R75, R78, R100). -/
def cellFiltWrite (s : State) (a : Reader) (r : Rgn) (k : Fin 12) (n : Fin 8) (v : Word) : State :=
  s.asOwner a r.val fun s =>
    let b := acB r.val k.val
    let w := s.merged R.AC_CELLn_FILT b n.val v
    if cellMigrating s r.val k.val n.val || !cellWithin (s.rd R.AC_CELLn_CFG b n.val) w (s.gf F.AC_CTRL_SC_DIV b) then
      acReject s b
    else s.wr R.AC_CELLn_FILT b n.val w

/-- AC_CELL_FILT_WRITE. -/
def execAcCellFiltWrite (a : Reader) (r : Rgn) (k : Fin 12) (n : Fin 8) (v : Word) (s : State) :
    Host.Outcome State Fault Refusal := s.after (cellFiltWrite s a r k n v)

/-- A cell whose HOLD_T is 0 tracks continuously: it holds no more (R74). -/
def tracksAgain (s : State) (r k n : Nat) : State :=
  if s.gf F.AC_CELLn_AUX_HOLD_T (acB r k) n = 0 then
    s.setClu r k { s.clu r k with hold := (s.clu r k).hold.set n none }
  else s

/-- A cell register that no power-mode limit touches (AC_CELLn_AUX, AC_CELLn_TRIM, AC_CELLn_STAT): refused whole for the
cell under migration (R100), else field by field. -/
def cellPlainWrite (s : State) (a : Reader) (reg : Reg) (r k n : Nat) (v : Word) : State :=
  s.asOwner a r fun s =>
    if cellMigrating s r k n then acReject s (acB r k) else tracksAgain (s.plainWrite reg (acB r k) n v) r k n

/-- A write of AC_CTRL: SC_DIV is checked against every SC biquad of the cluster that is not Off (R75). -/
def acCtrlWrite (s : State) (a : Reader) (r : Rgn) (k : Fin 12) (v : Word) : State :=
  s.asOwner a r.val fun s =>
    let b := acB r.val k.val
    let w := s.merged R.AC_CTRL b 0 v
    let ok := (List.range 8).all fun n =>
      s.gf F.AC_CELLn_CFG_FUNC b n != 5
        || cellWithin (s.rd R.AC_CELLn_CFG b n) (s.rd R.AC_CELLn_FILT b n) (fOf w F.AC_CTRL_SC_DIV)
    if ok then s.wr R.AC_CTRL b 0 w else acReject s b

/-- AC_CTRL_WRITE. -/
def execAcCtrlWrite (a : Reader) (r : Rgn) (k : Fin 12) (v : Word) (s : State) :
    Host.Outcome State Fault Refusal := s.after (acCtrlWrite s a r k v)

/-! ### The switch matrix (R81, R82) -/

/-- Does a ROUTE word name a neighbour line that the region lacks (R82)? -/
def missingLine (r : Nat) (w : Word) : Bool :=
  fOf w F.AC_CELLn_ROUTE_NBR_EN = 1
    && (if fOf w F.AC_CELLn_ROUTE_NBR_SEL < 4 then !hasDown r else !hasUp r)

/-- Does a cell of region q, other than cell (r, k, n), drive a node? -/
def drivenInRegion (s : State) (q r k n : Nat) (x : Node) : Bool :=
  (List.range 12).any fun k' => (List.range 8).any fun n' =>
    !(decide (q = r ∧ k' = k ∧ n' = n)) && (drives q (s.rd R.AC_CELLn_ROUTE (acB q k') n')).contains x

/-- Would a ROUTE word connect a second driver to a node (R82)? Buses and balls are driven from their own region, a
neighbour line from either of its two. -/
def secondDriver (s : State) (r k n : Nat) (w : Word) : Bool :=
  (drives r w).any fun x =>
    match x with
    | .bus _ _ => drivenInRegion s r r k n x
    | .ball _ _ => drivenInRegion s r r k n x
    | .line p _ => drivenInRegion s p r k n x || drivenInRegion s (p + 1) r k n x

/-- Source codes that a region lacks are unlisted (R81): the field keeps its previous value (R13). -/
def sourceOk (r code : Nat) : Bool :=
  !(0x30 ≤ code && code ≤ 0x33 && !hasDown r) && !(0x34 ≤ code && code ≤ 0x37 && !hasUp r)

/-- A word with an input-select field kept where the written code is unlisted in this region (R13, R81). -/
def keepSource (r : Nat) (f : Fld) (old w : Word) : Word :=
  if sourceOk r (fOf w f) then w else w.setBits f.hi f.lo (fOf old f)

/-- The word that a write of v would leave in AC_CELLn_ROUTE (R13, R81). -/
def routeWord (s : State) (r k n : Nat) (v : Word) : Word :=
  let old := s.rd R.AC_CELLn_ROUTE (acB r k) n
  keepSource r F.AC_CELLn_ROUTE_INP old
    (keepSource r F.AC_CELLn_ROUTE_INN old (s.merged R.AC_CELLn_ROUTE (acB r k) n v))

/-- A write of AC_CELLn_ROUTE (R81, R82, R100). A write with more than one ground of refusal is refused on the first of
these: the cell migrates, a missing line, a second driver; BUS_CONFLICT sets with the last alone (log entry 194). -/
def cellRouteWrite (s : State) (a : Reader) (r : Rgn) (k : Fin 12) (n : Fin 8) (v : Word) : State :=
  s.asOwner a r.val fun s =>
    let b := acB r.val k.val
    let w := routeWord s r.val k.val n.val v
    if cellMigrating s r.val k.val n.val || missingLine r.val w then acReject s b
    else if secondDriver s r.val k.val n.val w then acReject (s.sb F.AC_STATUS_BUS_CONFLICT b 0 true) b
    else s.wr R.AC_CELLn_ROUTE b n.val w

/-- AC_CELL_ROUTE_WRITE. -/
def execAcCellRouteWrite (a : Reader) (r : Rgn) (k : Fin 12) (n : Fin 8) (v : Word) (s : State) :
    Host.Outcome State Fault Refusal := s.after (cellRouteWrite s a r k n v)

/-- OUTPUT_SWITCH_CLOSE: after one settling time a cell that is on closes its output switches (R78, R80, R101). -/
def execOutputSwitchClose (r : Rgn) (k : Fin 12) (n : Fin 8) (s : State) : Host.Outcome State Fault Refusal :=
  s.after <|
    if cellOn s r.val k.val n.val then s.setOut r.val k.val n.val true else s

/-! ### Sample-and-hold (R75) -/

/-- A cell that a trigger code switches to hold: a sample-and-hold that is on, HOLD_T not 0, TRIG_SEL the code (R74). -/
def takesTrigger (s : State) (r k n trig : Nat) : Bool :=
  let b := acB r k
  s.gf F.AC_CELLn_CFG_FUNC b n = 6 && cellOn s r k n
    && s.gf F.AC_CELLn_AUX_HOLD_T b n != 0 && s.gf F.AC_CELLn_AUX_TRIG_SEL b n = trig

/-- One cell after a trigger edge: HOLD_T × 10 ns from the trigger, restarted if it was holding; it holds the level of its
P input then, where `e` says what was present (R72, R75). -/
def holdCell (s : State) (e : Option Levels) (r k trig : Nat) (c : CluS) (n : Nat) : CluS :=
  if takesTrigger s r k n trig then
    { c with hold := c.hold.set n (some (10 * s.gf F.AC_CELLn_AUX_HOLD_T (acB r k) n)),
             held := c.held.set n (e.map fun e => inputLevel s e r k (s.gf F.AC_CELLn_ROUTE_INP (acB r k) n)) }
  else c

/-- The cells of one cluster after a trigger edge. -/
def holdsAfter (s : State) (e : Option Levels) (r k trig : Nat) : CluS :=
  (List.range 8).foldl (holdCell s e r k trig) (s.clu r k)

/-- An edge of a pulse-generator channel of the region (R74: codes 0 to 15 rising, 16 to 31 falling). -/
def shEdge (s : State) (e : Option Levels) (r trig : Nat) : State :=
  (List.range 12).foldl (fun t k => t.setClu r k (holdsAfter s e r k trig)) s

/-- SH_TRIGGER: a trigger edge, with what is present at it. -/
def execShTrigger (r : Rgn) (trig : Fin 32) (e : Levels) (s : State) : Host.Outcome State Fault Refusal :=
  s.after (shEdge s (some e) r.val trig.val)

/-- SH_HOLD_END: the cell returns to tracking (R75). -/
def execShHoldEnd (r : Rgn) (k : Fin 12) (n : Fin 8) (s : State) : Host.Outcome State Fault Refusal :=
  let c := s.clu r.val k.val
  s.after (s.setClu r.val k.val { c with hold := c.hold.set n.val none })

/-! ### Clipping, references, injection -/

/-- CELL_CLIP: with what is present, the ideal output of a cell that is on lies outside its range: it clips and sets CLIP
(R76). -/
def execCellClip (r : Rgn) (k : Fin 12) (n : Fin 8) (e : Levels) (s : State) : Host.Outcome State Fault Refusal :=
  s.after <|
    if cellOn s r.val k.val n.val && clips (cellWants s e r.val k.val n.val) then
      s.sb F.AC_CELLn_STAT_CLIP (acB r.val k.val) n.val true
    else s

/-- REF_FAULT in every cluster window of a region (R88). -/
def setRefFault (s : State) (r : Nat) (on : Bool) : State :=
  (List.range 12).foldl (fun s k => s.sb F.AC_STATUS_REF_FAULT (acB r k) 0 on) s

/-- REF_FAULT: a difference of more than 3 mV for 10 µs (diff in 0.05 mV) sets the bits and raises the alarm once, while the
references run (R86, R88, R558). -/
def execRefFault (r : Rgn) (diff : Int) (s : State) : Host.Outcome State Fault Refusal :=
  let g := s.rgnS r.val
  s.after <|
    if g.refFault || !refRuns s || decide (diff.natAbs ≤ 60) then s
    else (setRefFault (s.setRgn r.val { g with refFault := true }) r.val true).raise (srcRgn r unitRgn) 0x2
      (detailOf [(2, 2, codeOf 16 diff)])

/-- REF_FAULT_CLEAR: the difference has stayed below 2 mV for 10 µs (R88). -/
def execRefFaultClear (r : Rgn) (s : State) : Host.Outcome State Fault Refusal :=
  s.after (setRefFault (s.setRgn r.val { s.rgnS r.val with refFault := false }) r.val false)

/-- The bits of AC_INJ_AIO and AC_INJ_FIN of detectors that are tripped read 1 (R91; the registers are region-wide and are
held at cluster 0). -/
def showInjected (s : State) (r : Nat) : State :=
  let b := acB r 0
  let x := (s.rgnS r).injNow
  (s.sf F.AC_INJ_AIO_AIO b 0 (s.gf F.AC_INJ_AIO_AIO b ||| x % 2 ^ 32)).sf F.AC_INJ_FIN_FIN b 0
    (s.gf F.AC_INJ_FIN_FIN b ||| x / 2 ^ 32)

/-- A cell whose own input is AIO ball j: one that is on and selects it at P, or at N in a function that reads N (R90). -/
def ownInput (s : State) (r k n j : Nat) : Bool :=
  let b := acB r k
  let func := s.gf F.AC_CELLn_CFG_FUNC b n
  cellOn s r k n && (s.gf F.AC_CELLn_ROUTE_INP b n = j || (s.gf F.AC_CELLn_ROUTE_INN b n = j && func != 0 && func != 6))

/-- The cells whose own input is the injected ball clip (R90). -/
def clipInjected (s : State) (r j : Nat) : State :=
  cells.foldl (fun t c => if ownInput s r c.1 c.2 j then t.sb F.AC_CELLn_STAT_CLIP (acB r c.1) c.2 true else t) s

/-- INJECTION_DETECT: the ball's bit sets, the region's groups mark their results, and the cells on the ball clip (R90, R91,
R134). -/
def execInjectionDetect (r : Rgn) (ball : Fin 40) (s : State) : Host.Outcome State Fault Refusal :=
  let g := s.rgnS r.val
  let s1 := showInjected (s.setRgn r.val { g with injNow := g.injNow ||| 2 ^ ball.val, injSettle := true }) r.val
  s.after (if ball.val < 32 then clipInjected s1 r.val ball.val else s1)

/-- INJECTION_RELEASE: the last detector has released and 200 ns have passed (R90, R134). -/
def execInjectionRelease (r : Rgn) (s : State) : Host.Outcome State Fault Refusal :=
  s.after (s.setRgn r.val { s.rgnS r.val with injNow := 0, injSettle := false, injEnd := s.hub.base + 1 })

/-! ### Live migration (R92 to R100) -/

/-- AC_MIG_STAT after a refused or failed request. -/
def migResult (s : State) (b result cause : Nat) : State :=
  (s.sf F.AC_MIG_STAT_RESULT b 0 result).sf F.AC_MIG_STAT_CAUSE b 0 cause

/-- The mapping exchanged: the logical cell is served by the former spare, the old physical cell is consumed, and the
ledger takes it (R94, R95 step 6, R520). -/
def migMap (s : State) (r k n : Nat) (cause : Nat) : State :=
  let b := acB r k
  ((s.sf F.AC_CELLn_STAT_PHYS b n 8).sb F.AC_SPARE_STAT_FREE b 0 false).useSpare 0 r k cause

/-- The start of a migration (R92 to R94). A refused request sets RESULT 0b11 and the cause, the first of R93 that applies;
FREE stays 1 while a migration runs, so that a second request meets BUSY (log entry 195); one made by a write is a refused
write. A cell that is Off takes the trim of the former spare (AC_CELLn_TRIM: that of the physical cell named by PHYS). -/
def migStart (s : State) (r k n : Nat) (written : Bool) : State :=
  let b := acB r k
  let no := if written then acReject s b else s
  if !s.gb F.AC_SPARE_STAT_FREE b then migResult no b 3 1
  else if s.gf F.AC_MIG_STAT_STATE b != 0 then migResult no b 3 2
  else if s.gf F.RGN_STAT_OWNER (rgB r) = 0 then migResult no b 3 3
  else
    if s.gf F.AC_CELLn_CFG_MODE b n = 0 then
      let t := s.wr R.AC_CELLn_TRIM b n (s.otp.get (R.AC_CELLn_TRIM.addr b 8))
      migResult ((migMap t r k n 0).sf F.AC_MIG_STAT_OFS_RES b 0 0) b 1 0
    else
      let c := s.clu r k
      let s2 := s.setClu r k { c with migCell := n, forced := false, stepNs := 1000, paused := false, trim := 0 }
      migResult ((s2.sf F.AC_MIG_STAT_STATE b 0 1).sf F.AC_MIG_STAT_OFS_RES b 0 0) b 0 0

/-- A write of AC_MIG (R16, R92): CELL is kept; a write of 1 to START, while it is 0, is the request, and START reads 1
until it has ended. -/
def migWrite (s : State) (a : Reader) (r k : Nat) (v : Word) : State :=
  s.asOwner a r fun s =>
    let b := acB r k
    let s1 := s.sf F.AC_MIG_CELL b 0 (fOf v F.AC_MIG_CELL)
    if fOf v F.AC_MIG_START = 0 ∨ s.gb F.AC_MIG_START b then s1
    else
      let s2 := migStart s1 r k (fOf v F.AC_MIG_CELL) true
      if s.gf F.AC_MIG_STAT_STATE b = 0 ∧ s2.gf F.AC_MIG_STAT_STATE b ≠ 0 then s2.sb F.AC_MIG_START b 0 true else s2

/-- MIGRATION_START: by the region owner, or by the wear logic if AUTO_MIG is 1 (R92). -/
def execMigrationStart (by_ : Starter) (r : Rgn) (k : Fin 12) (n : Fin 8) (s : State) :
    Host.Outcome State Fault Refusal :=
  s.after <|
    match by_ with
    | .by a => migWrite s a r.val k.val
        (((0 : Word).setBits F.AC_MIG_CELL.hi F.AC_MIG_CELL.lo n.val).setBits F.AC_MIG_START.hi F.AC_MIG_START.lo 1)
    | .wear => if s.gb F.AC_CTRL_AUTO_MIG (acB r.val k.val) then migStart s r.val k.val n.val false else s

/-- 20·Q / (π·f0) of a biquad, in ns, rounded down (R95). -/
def filterNs (s : State) (b n : Nat) : Nat :=
  (20 * qOf (s.gf F.AC_CELLn_FILT_Q b n) * 10 ^ 12
    / (31415926536 / 10000000000 * (f0Milli (s.gf F.AC_CELLn_FILT_F0 b n) : Nat))).floor.toNat

/-- The settling time of step 3, in ns: 20 × S, or for a biquad the larger of that and 20·Q / (π·f0) (R95, R96). -/
def step3Ns (s : State) (b n : Nat) : Nat :=
  let plain := 20 * settleNs (s.gf F.AC_CELLn_CFG_MODE b n)
  let func := s.gf F.AC_CELLn_CFG_FUNC b n
  if func = 4 ∨ func = 5 then max plain (filterNs s b n) else plain

/-- A migration ends: idle, START reads 0. -/
def migEnd (s : State) (r k : Nat) : State :=
  (s.sf F.AC_MIG_STAT_STATE (acB r k) 0 0).sb F.AC_MIG_START (acB r k) 0 false

/-- A migration abandoned because the spare cannot match (R99): the spare is failed and consumed. -/
def migSpareFail (s : State) (r : Rgn) (k : Fin 12) (n cause : Nat) : State :=
  let b := acB r.val k.val
  ((((migEnd (migResult s b 3 cause) r.val k.val).sb F.AC_SPARE_STAT_FAILED b 0 true).sb F.AC_SPARE_STAT_FREE b 0 false).useSpare
    0 r.val k.val cause).raise (srcRgn r (unitAc k)) 0x11 (detailOf [(2, 1, k.val), (3, 1, n), (4, 1, cause)])

/-- The next step of a migration, which waits while a Torpor covers the cluster (R100). -/
def migGo (s : State) (r k state ns : Nat) : State :=
  (s.sf F.AC_MIG_STAT_STATE (acB r k) 0 state).setClu r k { s.clu r k with stepNs := ns, paused := pausing s r }

/-- The gain match of step 2 in parts per million, and the residual of step 4 in µV, that complete them (R95). -/
def gainLimit : Nat := 100
def offsetLimit : Nat := 40

/-- MIGRATION_STEP_END (R95 to R99). `ok`: the trim of step 2 or 4 lay within its range; `trim`: the trim code found; `meas`:
after step 2 the gain error in parts per million, after step 3 the difference of the outputs, after step 4 the residual, in
µV. A paused migration waits (R100). A forced handover runs no offset match, and OFS_TRIM then becomes 0 (log entry 196). -/
def execMigrationStepEnd (r : Rgn) (k : Fin 12) (ok : Bool) (trim meas : Nat) (s : State) :
    Host.Outcome State Fault Refusal :=
  let b := acB r.val k.val
  let c := s.clu r.val k.val
  let n := c.migCell
  let mode := s.gf F.AC_CELLn_CFG_MODE b n
  s.after <|
    if c.paused then s
    else match s.gf F.AC_MIG_STAT_STATE b with
    | 1 => migGo s r.val k.val 2 (4 * windowNs mode)
    | 2 =>
      if ok && decide (meas ≤ gainLimit) then
        migGo (s.setClu r.val k.val { c with trim := c.trim.setBits 15 8 trim }) r.val k.val 3 (step3Ns s b n)
      else migSpareFail s r k n 4
    | 3 =>
      if meas > 20000 then
        (migGo (migResult (s.setClu r.val k.val { c with forced := true }) b 2 6) r.val k.val 5 (2 * settleNs mode)).raise
          (srcRgn r (unitAc k)) 0x10
          (detailOf [(2, 1, k.val), (3, 1, n), (4, 1, s.gf F.AC_CELLn_STAT_PHYS b n), (5, 1, 8),
            (6, 2, min 65535 (meas / 1000))])
      else migGo s r.val k.val 4 (8 * windowNs mode)
    | 4 =>
      if ok && decide (meas ≤ offsetLimit) then
        migGo ((s.setClu r.val k.val { c with trim := c.trim.setBits 7 0 trim }).sf F.AC_MIG_STAT_OFS_RES b 0 (min 255 meas))
          r.val k.val 5 (2 * settleNs mode)
      else migSpareFail s r k n 5
    | 5 => migGo s r.val k.val 6 1000
    | 6 =>
      let s1 := migEnd (s.wr R.AC_CELLn_TRIM b n c.trim) r.val k.val
      let s2 := migMap s1 r.val k.val n (if c.forced then 6 else 0)
      if c.forced then migResult s2 b 2 6 else migResult s2 b 1 0
    | _ => s

/-- What a region reset does to a running migration (R100): before step 5, a step 5 not yet begun among them, it is abandoned
with cause ABORT and the spare returns free; from step 5 on the mapping to the spare stands and the old cell is consumed. RESULT and CAUSE then stay as they
stood in the migration, 0b00 and none unless it was forced, and SPARE_USED carries cause 0 (log entry 197). -/
def migRegionReset (s : State) (r k : Nat) : State :=
  let b := acB r k
  let st := s.gf F.AC_MIG_STAT_STATE b
  if st = 0 then s
  else if st < 5 ∨ (st = 5 ∧ (s.clu r k).paused) then migEnd (migResult s b 3 7) r k
  else migEnd (migMap s r k (s.clu r k).migCell 0) r k

end Sys2Proof.Machine
end

