-- ==== Sys2Proof/Machine/Pwm.lean ====
section
/-!
DEFINITION. Pulse generators: periods, edges, phase groups, duty values, trip responses, levels, the spare channel
(06_pulse_generators.md, R199 to R232), and the trip lines that comparators drive (R180 to R182).
-/

namespace Sys2Proof.Machine

/-- The key of channel c, or of group slot c, of region r. -/
def chKey (r c : Nat) : Nat := r * 16 + c
def State.ch (s : State) (r c : Nat) : ChS := s.pwm.get (chKey r c)
def State.setCh (s : State) (r c : Nat) (x : ChS) : State := { s with pwm := s.pwm.set (chKey r c) x }
def State.slot (s : State) (r g : Nat) : SlotS := s.slots.get (chKey r g)
def State.setSlot (s : State) (r g : Nat) (x : SlotS) : State := { s with slots := s.slots.set (chKey r g) x }

/-- A refused write in a pulse-generator block (R203). -/
def pgReject (s : State) (r : Nat) : State := s.reject F.PG_STATUS_REJECT F.PG_STATUS_REJ_CNT (pgB r)

/-- The instant `sub` fine steps into the present tick, in fine steps of 20.8333 ps: 3 to a count of the die timebase, which
no step, slew or wrap of Herd Time touches (R54, R199, R207). -/
def fineNow (s : State) (sub : Fin 120) : Nat := s.hub.base * 3 + sub.val

/-- The beginning of the present tick. -/
def tickNow (s : State) : Nat := fineNow s 0

/-- The regions of a Field die. -/
def dieRegions (r : Nat) : List Nat := (List.range 8).map fun q => dieOf r * 8 + q

/-! ### Phase groups (R207, R209) -/

/-- The group slot of a channel. -/
def grpOf (s : State) (r c : Nat) : Nat × Nat :=
  (s.gf F.PG_CHcc_CFG_GRP_RGN (pgB r) c, s.gf F.PG_CHcc_CFG_GRP_IDX (pgB r) c)

/-- A channel's EN and its group's EN are both 1 (R210, R227). -/
def enOf (s : State) (r c : Nat) : Bool :=
  s.gb F.PG_CHcc_CFG_EN (pgB r) c && s.gb F.PG_GRPg_CTRL_EN (pgB (grpOf s r c).1) (grpOf s r c).2
    && !s.gb F.RGN_STAT_RESET (rgB r) && !s.gb F.RGN_STAT_RESET (rgB (grpOf s r c).1)

/-- The channel is a member of a group that runs: a group enabled anew runs from its first epoch on (R207, R210). -/
def enabled (s : State) (r c : Nat) : Bool :=
  enOf s r c && (s.slot (grpOf s r c).1 (grpOf s r c).2).first.isNone

/-- The members of a group: the channels of the die that name its slot, whatever their EN (R203, R207, R210). -/
def members (s : State) (r g : Nat) : List (Nat × Nat) :=
  ((dieRegions r).map fun q => (List.range 16).filterMap fun c =>
    if grpOf s q c = (r, g) then some (q, c) else none).flatten

/-- PG_GRPg_CTRL.MEMBERS: the members whose own EN is 1. -/
def memberCount (s : State) (r g : Nat) : Nat :=
  ((members s r g).filter fun m => s.gb F.PG_CHcc_CFG_EN (pgB m.1) m.2).length

/-- The period in force for a channel: its group's, or the last it had (R209, R227). -/
def perOf (s : State) (r c : Nat) : Nat :=
  let p := s.gf F.PG_GRPg_APPLIED_PER (pgB (grpOf s r c).1) (grpOf s r c).2
  if p = 0 then (s.ch r c).per else p

/-- OFS = round(PHASE × PER / 65,536), ties up (R207). -/
def ofsOf (phase per : Nat) : Nat := (2 * phase * per + 65536) / 131072

/-- The limits of R203 on an applied ON. -/
def limitOn (s : State) (r c on : Nat) : Nat :=
  let mn := s.gf F.PG_CHcc_LIM_MIN_ON (pgB r) c
  let top := perOf s r c - s.gf F.PG_CHcc_LIM_MIN_OFF (pgB r) c
  if on = 0 then 0 else min (max on mn) top

/-! ### Trip inputs (R180 to R182, R219) -/

/-- The key of a comparator cluster. -/
def State.cmp (s : State) (r k : Nat) : CmpS := s.comp.get (r * 12 + k)
def State.setCmp (s : State) (r k : Nat) (x : CmpS) : State := { s with comp := s.comp.set (r * 12 + k) x }

/-- The latched output that a logical comparator presents to its destinations: the target's, the spare's, or both ORed
while a check moves them (R188, R190). -/
def compOut (s : State) (r k m : Nat) : Bool :=
  let x := s.cmp r k
  let mine := x.cmp = m
  ((x.tgt.get m).latch && !(x.tgtCut && mine)) || (x.spOut && mine && x.spare.latch)

/-- A comparator of the region asserts the route to trip input A (false) or B (true) of a channel (R181). -/
def directTrip (s : State) (r c : Nat) (b : Bool) : Bool :=
  (List.range 12).any fun k => [0, 1].any fun m =>
    compOut s r k m
      && (s.gf (if b then F.WC_CMPm_TRIP_TRIPB else F.WC_CMPm_TRIP_TRIPA) (acB r k) m).testBit c

/-- A die trip line is asserted (R182). -/
def dieLine (s : State) (r line : Nat) : Bool :=
  (dieRegions r).any fun q => (List.range 12).any fun k => [0, 1].any fun m =>
    compOut s q k m && s.gb F.WC_CMPm_ROUTE_DTL_EN (acB q k) m && s.gf F.WC_CMPm_ROUTE_DTL_SEL (acB q k) m = line

/-- A trip input is asserted (R219). -/
def tripIn (s : State) (r c : Nat) (b : Bool) : Bool :=
  let p := pgB r
  directTrip s r c b
    || (s.gb (if b then F.PG_CHcc_TRIPCFG_B_DTL_EN else F.PG_CHcc_TRIPCFG_A_DTL_EN) p c
        && dieLine s r (s.gf (if b then F.PG_CHcc_TRIPCFG_B_DTL_SEL else F.PG_CHcc_TRIPCFG_A_DTL_SEL) p c))

def respOf (s : State) (r c : Nat) (b : Bool) : Nat :=
  s.gf (if b then F.PG_CHcc_TRIPCFG_B_RESP else F.PG_CHcc_TRIPCFG_A_RESP) (pgB r) c
def lvlOf (s : State) (r c : Nat) (b : Bool) : Nat :=
  s.gf (if b then F.PG_CHcc_TRIPCFG_B_LVL else F.PG_CHcc_TRIPCFG_A_LVL) (pgB r) c

/-! ### What a ball drives (R204, R223, R225 to R227, R487) -/

/-- A level code of R204. -/
def lvlCode (n : Nat) : Lvl := match n with | 0 => .low | 1 => .mid | _ => .float

def ChS.cbc (x : ChS) : Bool := x.cbcA || x.cbcB
def ChS.lat (x : ChS) : Bool := x.latA || x.latB || x.latW
/-- In some trip state (R224). -/
def ChS.tripped (x : ChS) : Bool := x.cbc || x.lat || x.rs

/-- The package drives its configured levels: from the start of Calibrating on (R487). -/
def pastVerify (s : State) : Bool :=
  match s.sett.phase with | .calibrating => true | .running => true | _ => false

def frozen (s : State) (r : Nat) : Bool := s.gb F.RGN_STAT_FROZEN (rgB r)

/-- The waveform's own level: a two-level channel, and one with LOWMAX 0, has no middle level in normal switching (R202). -/
def waveOf (s : State) (r c : Nat) : Lvl :=
  let w := (s.ch r c).wave
  if w = .mid ∧ ¬(s.gb F.PG_CHcc_CFG_LEVELS (pgB r) c = true ∧ s.gf F.PG_CHcc_LOWMAX_LOWMAX (pgB r) c ≠ 0) then .low else w

/-- The level at a channel's PGO ball: the highest state of R223 that applies; it floats until its first enable (R227), from the
start of a power-down (R496) and in Vendor test (R530). -/
def ballOf (s : State) (r c : Nat) : Lvl :=
  let x := s.ch r c
  let p := pgB r
  if !pastVerify s || s.sett.vendor || s.sett.dormantReq then .float
  else if s.safeHold then lvlCode (s.gf F.PG_CHcc_STATES_SAFE_LVL p c)
  else if s.gb F.RGN_STAT_RESET (rgB r) || !x.everEn then .float
  else if x.rs then lvlCode (s.gf F.PG_CHcc_STATES_SAFE_LVL p c)
  else if x.latA || x.latW then lvlCode (lvlOf s r c false)
  else if x.latB then lvlCode (lvlOf s r c true)
  else if x.cbcA then lvlCode (lvlOf s r c false)
  else if x.cbcB then lvlCode (lvlOf s r c true)
  else if frozen s r && s.gf F.PG_CHcc_STATES_FRZ_LVL p c != 3 then lvlCode (s.gf F.PG_CHcc_STATES_FRZ_LVL p c)
  else if x.run = .switching then waveOf s r c
  else lvlCode (s.gf F.PG_CHcc_STATES_IDLE_LVL p c)

/-- PG_CHcc_STAT.STATE (R215, R223). -/
def chState (s : State) (r c : Nat) : Nat :=
  let x := s.ch r c
  if s.safeHold then 6
  else if x.rs then 5
  else if x.lat then 4
  else if x.cbc then 3
  else if frozen s r then 7
  else match x.run with | .switching => 2 | .waiting => 1 | .off => 0

/-- The edges that a change of the ball from one level to another makes (R201), at an instant `t` in fine steps: sample-and-hold
cells take them (R74), and a rising edge opens the blanking windows that name the channel, BLANK × 20 fine steps long
(R179). -/
def ballEdges (s : State) (r c t : Nat) (was : Lvl) : State :=
  let is := ballOf s r c
  if is = .high ∧ was ≠ .high then
    let named := fun (s : State) (k m : Nat) =>
      s.gf F.WC_CMPm_ROUTE_BLANK (acB r k) m != 0 && decide (s.gf F.WC_CMPm_ROUTE_BLANK_CH (acB r k) m = c)
    let opened := fun (s : State) (k : Nat) (b : NatTab) (m : Nat) =>
      if named s k m then b.set m (t + 20 * s.gf F.WC_CMPm_ROUTE_BLANK (acB r k) m) else b
    let one := fun (s : State) (k : Nat) =>
      let x := s.cmp r k
      s.setCmp r k { x with blank := [0, 1].foldl (opened s k) x.blank }
    (List.range 12).foldl one (shEdge s none r c)
  else if was = .high ∧ is ≠ .high then shEdge s none r (16 + c)
  else s

/-- The edges of some channels' balls in a change from `s` to `t`. -/
def follow (l : List (Nat × Nat)) (s t : State) : State :=
  l.foldl (fun t m => ballEdges t m.1 m.2 (tickNow s) (ballOf s m.1 m.2)) t

/-- The period in progress of a channel is left out of step 2 of a substitution (R229, R232). -/
def mar (s : State) (r c : Nat) : State :=
  let x := s.pgSub.get r
  if s.gf F.PG_SUB_STAT_STATE (pgB r) = 2 ∧ x.ch = c then { s with pgSub := s.pgSub.set r { x with marred := true } } else s

/-- The channels of a region. -/
def channelsOf (r : Nat) : List (Nat × Nat) := (List.range 16).map fun c => (r, c)

/-- A freeze of a region begins or ends (R201, R226, R229). -/
def freezeFollow (s t : State) (r : Nat) : State :=
  if frozen s r = frozen t r then t else (channelsOf r).foldl (fun t m => mar t m.1 m.2) (follow (channelsOf r) s t)

/-- Safe hold begins or ends for every channel (R201, R225, R229). -/
def safeFollow (s t : State) : State :=
  if s.safeHold = t.safeHold then t
  else (List.range 16).foldl (fun t r => (channelsOf r).foldl (fun t m => mar t m.1 m.2) (follow (channelsOf r) s t)) t

/-- A source of Safe hold asserts, and the balls follow (R225, R500). -/
def safeOn (s : State) (bit : Nat) (level latched : Bool) : State := safeFollow s (s.safeAssert bit level latched)

/-! ### Trip entry (R220 to R223) -/

/-- A cycle-by-cycle entry is counted. -/
def countCbc (s : State) (r c : Nat) : State := (s.bump F.PG_CHcc_CNT_CBC (pgB r) c).sb F.PG_EVT_CBC (pgB r) 0 true

/-- The high interval of the period in progress ends, or does not come. -/
def ChS.endHigh (x : ChS) (t : Nat) : ChS :=
  if x.wave = .high then { x with wave := .low, fell := t, high := 0 } else { x with high := 0 }

/-- An input enters cycle-by-cycle: each entry is counted; the high interval in progress ends. -/
def enterCbc (s : State) (r c : Nat) (b : Bool) : State :=
  let x := s.ch r c
  let x1 := if b then { x with cbcB := true } else { x with cbcA := true }
  if (if b then x.cbcB else x.cbcA) then s
  else countCbc (s.setCh r c (x1.endHigh (tickNow s))) r c

/-- Latch-off is entered from a trip input, with its alarm (R558). -/
def enterLatch (s : State) (r : Rgn) (c : Fin 16) (b : Bool) : State :=
  let x := s.ch r.val c.val
  let n := if b then 2 else 1
  let s1 := s.setCh r.val c.val (if b then { x with latB := true, relLat := false } else { x with latA := true, relLat := false })
  let s2 := (s1.sf F.PG_CHcc_STAT_CAUSE (pgB r.val) c.val n).sb F.PG_EVT_LATCHOFF (pgB r.val) 0 true
  s2.raise (srcRgn r (unitPg c)) 0x41 (detailOf [(2, 1, c.val), (3, 1, n), (4, 1, lvlOf s r.val c.val b)])

/-- The channels that a rail-safe of a channel covers: itself and the members of its group enabled since reset (R220, R223). -/
def railGroup (s : State) (r c : Nat) : List (Nat × Nat) :=
  let g := grpOf s r c
  (r, c) :: (members s g.1 g.2).filter fun m => m != (r, c) && (s.ch m.1 m.2).everEn

/-- Rail-safe is entered by every member of the channel's group that has been enabled since reset (R220, R222, R223). -/
def enterRail (s : State) (r : Rgn) (c : Fin 16) (b : Bool) : State :=
  let g := grpOf s r.val c.val
  let s1 := (railGroup s r.val c.val).foldl (fun s m => s.setCh m.1 m.2 { s.ch m.1 m.2 with rs := true, relRs := false }) s
  (s1.sb F.PG_EVT_RAILSAFE (pgB r.val) 0 true).raise (srcRgn r (unitPg c)) 0x42
    (detailOf [(2, 1, c.val), (3, 1, if b then 2 else 1), (4, 1, g.1), (5, 1, g.2)])

/-- A trip state entered by some channels: their balls' edges, and their periods left out of a substitution (R201, R232). -/
def tripFollow (l : List (Nat × Nat)) (s t : State) : State := l.foldl (fun t m => mar t m.1 m.2) (follow l s t)

/-- An asserted trip input acts on its channel, from the first enable onward (R223). -/
def tripEnter (s : State) (r : Rgn) (c : Fin 16) (b : Bool) : State :=
  if (s.ch r.val c.val).everEn then
    match respOf s r.val c.val b with
    | 1 => tripFollow [(r.val, c.val)] s (enterCbc s r.val c.val b)
    | 2 => tripFollow [(r.val, c.val)] s (enterLatch s r c b)
    | 3 => tripFollow (railGroup s r.val c.val) s (enterRail s r c b)
    | _ => s
  else s

/-- One trip input brought up to date: PG_CHcc_STAT shows it, and an assertion acts. -/
def refreshTrip (s : State) (r : Rgn) (c : Fin 16) (b : Bool) : State :=
  let f := if b then F.PG_CHcc_STAT_TRIPB else F.PG_CHcc_STAT_TRIPA
  let now := tripIn s r.val c.val b
  let was := s.gb f (pgB r.val) c.val
  let s1 := s.sb f (pgB r.val) c.val now
  if now && !was then tripEnter s1 r c b else s1

def allRgn : List Rgn := List.finRange 16
def allCh : List (Fin 16) := List.finRange 16

/-- The trip inputs of a region, and those of the die's regions that its die trip lines reach (R182). -/
def refreshTrips (s : State) (r : Rgn) : State :=
  (allRgn.filter fun q => dieOf q.val = dieOf r.val).foldl (fun s q =>
    allCh.foldl (fun s c => refreshTrip (refreshTrip s q c false) q c true) s) s

/-- An input already asserted acts when its channel is first enabled, or when its response is set (R223). -/
def actAsserted (s : State) (r : Rgn) (c : Fin 16) : State :=
  let s1 := if s.gb F.PG_CHcc_STAT_TRIPA (pgB r.val) c.val then tripEnter s r c false else s
  if s1.gb F.PG_CHcc_STAT_TRIPB (pgB r.val) c.val then tripEnter s1 r c true else s1

/-! ### Duty values (R211 to R216, R224) -/

/-- A channel empties its shadow and waits for a duty value (R215). -/
def awaitDuty (s : State) (r c : Nat) : State :=
  let x := s.ch r c
  (s.setCh r c { x with run := .waiting, full := false, skip := false, wdog := 0, gotNew := false, wave := .low, high := 0 }).wr
    R.PG_CHcc_DUTY (pgB r) c 0

/-- A duty value arrives at a shadow register at an instant; the watchdog count restarts (R213, R216). -/
def dutyArrive (s : State) (r c on : Nat) (skip : Bool) (t : Nat) : State :=
  let s1 := (s.sf F.PG_CHcc_DUTY_ON (pgB r) c on).sb F.PG_CHcc_DUTY_SKIP (pgB r) c skip
  s1.setCh r c { s1.ch r c with full := true, at_ := t, lateCounted := false, gotNew := true, wdog := 0 }

/-- DUTY_WRITE (R29, R211): refused while DSRC names another source. -/
def dutyWrite (s : State) (a : Reader) (r c : Nat) (v : Word) (t : Nat) : State :=
  s.asOwner a r fun s =>
    if s.gf F.PG_CHcc_CFG_DSRC (pgB r) c ≠ 0 then pgReject s r
    else dutyArrive s r c (fOf v F.PG_CHcc_DUTY_ON) (fOf v F.PG_CHcc_DUTY_SKIP = 1) t

def execDutyWrite (a : Reader) (r : Rgn) (c : Fin 16) (v : Word) (sub : Fin 120) (s : State) :
    Host.Outcome State Fault Refusal := s.after (dutyWrite s a r.val c.val v (fineNow s sub))

/-- FABRIC_DUTY_STROBE (R211, R212): the value reaches every channel of the region that listens to the line. -/
def execFabricDutyStrobe (r : Rgn) (line : Fin 8) (v : Word) (sub : Fin 120) (s : State) :
    Host.Outcome State Fault Refusal :=
  let t := fineNow s sub
  s.after <| (List.range 16).foldl (fun s c =>
    if s.clk r.val = 0 ∧ s.gf F.PG_CHcc_CFG_DSRC (pgB r.val) c = 2 ∧ s.gf F.PG_CHcc_CFG_SRC_PORT (pgB r.val) c = line.val then
      dutyArrive s r.val c (fOf v F.PG_CHcc_DUTY_ON) (fOf v F.PG_CHcc_DUTY_SKIP = 1) t
    else s) s

/-- A two-word duty transfer from port p of the engine of region r (R211, R212): the channel takes it only from its own
source, D × PER rounded with ties up, and D ≤ 0 as 0. The boundary register of another region whose clock is stopped keeps
its last value, and the transfer is lost (R41; log entry 211). -/
def dutyTransfer (s : State) (r p : Nat) (w0 w1 : Word) (t : Nat) : State :=
  let q := w1.bits 23 20
  let c := w1.bits 19 16
  let b := pgB q
  if s.gf F.PG_CHcc_CFG_DSRC b c = 1 ∧ s.gf F.PG_CHcc_CFG_SRC_RGN b c = r ∧ s.gf F.PG_CHcc_CFG_SRC_PORT b c = p
      ∧ dieOf q = dieOf r ∧ (q = r ∨ s.clk q = 0) then
    let d := signedOf 24 (w0.bits 23 0)
    let on := if d ≤ 0 then 0 else (d.toNat * perOf s q c * 2 + 2 ^ 23) / 2 ^ 24
    dutyArrive s q c on (w1.bit 15) t
  else s

/-! ### The period start (R201, R202, R210, R213 to R216, R220, R221, R224) -/

/-- Joining and leaving at a period start (R210, R215). -/
def periodJoin (s : State) (r c : Nat) : State :=
  let x := s.ch r c
  if enabled s r c then
    if x.run = .off then awaitDuty (s.setCh r c { x with everEn := true }) r c else s
  else s.setCh r c { x with run := .off, wave := .low, high := 0, full := false }

/-- Releases of latch-off and rail-safe take effect (R215, R216, R220); with the release of a latch-off STAT.CAUSE returns to 0
(log entry 210). -/
def periodRelease (s : State) (r c : Nat) : State :=
  let x := s.ch r c
  if x.relLat || x.relRs then
    let x1 := if x.relLat then { x with latA := false, latB := false, latW := false, relLat := false } else x
    let x2 := if x.relRs then { x1 with rs := false, relRs := false } else x1
    let s1 := (s.setCh r c x2).sf F.PG_CHcc_STAT_CAUSE (pgB r) c (if x.relLat then 0 else s.gf F.PG_CHcc_STAT_CAUSE (pgB r) c)
    if x.run = .off then s1 else awaitDuty s1 r c
  else s

/-- Cycle-by-cycle inputs are sampled (R221): asserted, the whole period is held at its level; deasserted, it runs. -/
def periodCbc (s : State) (r c : Nat) : State :=
  let x := s.ch r c
  let a := respOf s r c false = 1 && tripIn s r c false
  let b := respOf s r c true = 1 && tripIn s r c true
  let s1 := s.setCh r c { x with cbcA := a, cbcB := b }
  let s2 := if a && !x.cbcA then countCbc s1 r c else s1
  if b && !x.cbcB then countCbc s2 r c else s2

/-- The level a channel starts switching from: no low interval is running (R202). -/
def firstWave (s : State) (r c : Nat) : Lvl :=
  if s.gb F.PG_CHcc_CFG_LEVELS (pgB r) c ∧ s.gf F.PG_CHcc_LOWMAX_LOWMAX (pgB r) c ≠ 0 then .mid else .low

/-- The update point (R213, R214, R224, R226): the shadow applies if it arrived at least 8.0 ns (384 fine steps) before; in
a trip state, in Safe hold and in a freeze it stays; a late value waits and is counted once. -/
def periodUpdate (s : State) (r c t : Nat) : State :=
  let x := s.ch r c
  if x.run = .off ∨ x.full = false ∨ x.tripped ∨ s.safeHold ∨ frozen s r then s.setCh r c { x with skip := false }
  else if t < x.at_ + 384 then
    let s1 := s.setCh r c { x with lateCounted := true, skip := false }
    if x.lateCounted then s1 else (s1.bump F.PG_CHcc_CNT_LATE (pgB r) c).sb F.PG_EVT_LATE (pgB r) 0 true
  else
    (s.sf F.PG_CHcc_ON_ON (pgB r) c (limitOn s r c (s.gf F.PG_CHcc_DUTY_ON (pgB r) c))).setCh r c
      { x with full := false, run := .switching, skip := s.gb F.PG_CHcc_DUTY_SKIP (pgB r) c,
               wave := if x.run = .switching then x.wave else firstWave s r c }

/-- The watchdog counts an update point at which no new value arrived (R216). -/
def periodWatch (s : State) (r c : Nat) : State :=
  let x := s.ch r c
  let b := pgB r
  if s.gf F.PG_CHcc_CFG_WDOG b c ≠ 0 ∧ s.gf F.PG_CHcc_CFG_DSRC b c = 1 ∧ s.clk (s.gf F.PG_CHcc_CFG_SRC_RGN b c) = 0
      ∧ x.run ≠ .off ∧ x.lat = false then
    s.setCh r c { x with wdog := if x.gotNew then 0 else x.wdog + 1, gotNew := false }
  else s.setCh r c { x with gotNew := false }

/-- The high interval of a period that begins, in fine steps; 0 in a skipped period and where the channel does not switch. -/
def onNow (s : State) (r c : Nat) : Nat :=
  let x := s.ch r c
  if x.run ≠ .switching ∨ x.skip ∨ x.cbc then 0 else limitOn s r c (s.gf F.PG_CHcc_ON_ON (pgB r) c)

/-- The waveform at a period start `t` (R201, R202): with trailing-edge alignment the high interval begins; a high interval
that ran to the period start ends. -/
def periodWave (s : State) (r c t : Nat) : State :=
  let x := s.ch r c
  let h := onNow s r c
  s.setCh r c <|
    if x.run ≠ .switching then { x with wave := .low, high := 0, up := none }
    else if h ≠ 0 ∧ s.gf F.PG_CHcc_CFG_ALIGN (pgB r) c = 0 then { x with wave := .high, high := h, up := some t }
    else if x.wave = .high then { x with wave := .low, fell := t, high := h, up := none }
    else { x with high := h, up := none }

/-- The period that ends counts in step 2 of a substitution unless it was left out; one that begins in a trip state or in Safe
hold, or with a release, is left out (R229, R232). -/
def subPeriod (s t : State) (r c : Nat) : State :=
  let x := t.pgSub.get r
  if t.gf F.PG_SUB_STAT_STATE (pgB r) = 2 ∧ x.ch = c then
    { t with pgSub := t.pgSub.set r { x with
        good := if x.marred then x.good else x.good + 1,
        marred := (s.ch r c).tripped || (t.ch r c).tripped || t.safeHold } }
  else t

/-- A period start, at the instant `t` of the channel's grid. -/
def periodStart (s : State) (r c t : Nat) : State :=
  let s1 := periodCbc (periodRelease (periodJoin s r c) r c) r c
  let s2 := periodWave (periodWatch (periodUpdate s1 r c t) r c) r c t
  let x := s2.ch r c
  subPeriod s (ballEdges (s2.setCh r c { x with start := t, next := t + x.per, fired := false }) r c t (ballOf s r c)) r c

/-- PERIOD_START (R201, R213): the count of a channel that has a grid passes 0; a command that comes before that instant does
nothing (log entry 65). -/
def execPeriodStart (r : Rgn) (c : Fin 16) (sub : Fin 120) (s : State) : Host.Outcome State Fault Refusal :=
  let x := s.ch r.val c.val
  s.after (if x.everEn ∧ x.per ≠ 0 ∧ x.next ≤ fineNow s sub then periodStart s r.val c.val x.next else s)

/-- Where the high interval of the period in progress begins, by ALIGN (R201). -/
def riseAt (s : State) (r c : Nat) : Nat :=
  let x := s.ch r c
  let len := x.next - x.start
  match s.gf F.PG_CHcc_CFG_ALIGN (pgB r) c with
  | 1 => x.start + (len - x.high)
  | 2 => x.start + (len - x.high) / 2
  | _ => x.start

/-- A channel at an instant `t` within a period, if the edge named is due there (R201, R202): the high interval begins, ends
after its length, or the low interval has lasted LOWMAX. -/
def edgeDue (s : State) (r c : Nat) (e : PwmEdge) (t : Nat) : Option (ChS × Nat) :=
  let x := s.ch r c
  let low := s.gf F.PG_CHcc_LOWMAX_LOWMAX (pgB r) c
  match e with
  | .rise =>
    if x.high ≠ 0 ∧ x.up = none ∧ riseAt s r c ≤ t then
      some ({ x with wave := .high, up := some (riseAt s r c) }, riseAt s r c)
    else none
  | .fall =>
    match x.up with
    | some u => if x.wave = .high ∧ u + x.high ≤ t then some ({ x with wave := .low, fell := u + x.high }, u + x.high) else none
    | none => none
  | .lowEnd =>
    if s.gb F.PG_CHcc_CFG_LEVELS (pgB r) c = true ∧ x.wave = .low ∧ low ≠ 0 ∧ x.fell + low ≤ t then
      some ({ x with wave := .mid }, x.fell + low)
    else none

/-- PWM_EDGE (R201, R202): an edge within a period, where the alignment, the length and LOWMAX place it. -/
def execPwmEdge (r : Rgn) (c : Fin 16) (e : PwmEdge) (sub : Fin 120) (s : State) : Host.Outcome State Fault Refusal :=
  s.after <|
    match edgeDue s r.val c.val e (fineNow s sub) with
    | some p =>
      if (s.ch r.val c.val).run = .switching then
        ballEdges (s.setCh r.val c.val p.1) r.val c.val p.2 (ballOf s r.val c.val)
      else s
    | none => s

/-- DUTY_WATCHDOG (R216): the count has reached WDOG: latch-off at trip input A's level with cause WDOG. -/
def execDutyWatchdog (r : Rgn) (c : Fin 16) (s : State) : Host.Outcome State Fault Refusal :=
  let b := pgB r.val
  let x := s.ch r.val c.val
  let wd := s.gf F.PG_CHcc_CFG_WDOG b c.val
  s.after <|
    if wd ≠ 0 ∧ wd ≤ x.wdog ∧ x.latW = false then
      let s1 := ((s.setCh r.val c.val { x with latW := true, relLat := false }).sf F.PG_CHcc_STAT_CAUSE b c.val 3).sb
        F.PG_EVT_WDOG b 0 true
      (tripFollow [(r.val, c.val)] s s1).raise (srcRgn r (unitPg c)) 0x40
        (detailOf [(2, 1, c.val), (3, 1, wd)])
    else s

/-- PG_TRIGGER (R116, R217): TRIG fine steps into a period of a channel whose EN and group's EN are 1, once a period. -/
def execPgTrigger (r : Rgn) (c : Fin 16) (sub : Fin 120) (s : State) : Host.Outcome State Fault Refusal :=
  let x := s.ch r.val c.val
  let trig := s.gf F.PG_CHcc_TRIG_TRIG (pgB r.val) c.val
  s.after <|
    if enOf s r.val c.val ∧ x.everEn ∧ x.fired = false ∧ trig < perOf s r.val c.val ∧ x.start + trig ≤ fineNow s sub then
      fireTrigger (s.setCh r.val c.val { x with fired := true, trigAt := fineNow s sub + 1 }) r.val c.val
    else s

/-! ### Group epochs (R207, R209) -/

/-- The first instant of the form e + ofs + k × per that lies at least per/2 after s0 and not before e (R209). -/
def nextStart (e ofs per s0 : Nat) : Nat :=
  let lo := max e (s0 + (per + 1) / 2)
  if lo ≤ e + ofs then e + ofs else e + ofs + (lo - (e + ofs) + per - 1) / per * per

/-- Step 2 of a substitution starts again, the transitional period left out (R232). -/
def subRestart (s : State) (r c : Nat) : State :=
  let x := s.pgSub.get r
  if s.gf F.PG_SUB_STAT_STATE (pgB r) = 2 ∧ x.ch = c then
    { s with pgSub := s.pgSub.set r { x with good := 0, marred := true } }
  else s

/-- A member at an epoch (R209): a new PER or PHASE makes one transitional period onto the new grid, whose high interval keeps
the applied ON, limited against the new PER. At a first epoch the member takes the group's grid. -/
def memberEpoch (s : State) (m : Nat × Nat) (e per : Nat) (first : Bool) : State :=
  let x := s.ch m.1 m.2
  let ph := s.gf F.PG_CHcc_PHASE_PHASE (pgB m.1) m.2
  let ofs := ofsOf ph per
  if !x.everEn then s
  else if first then s.setCh m.1 m.2 { x with phase := ph, per := per, next := e + ofs }
  else if per ≠ x.per ∨ ph ≠ x.phase then
    let high := if x.high = 0 then 0 else limitOn s m.1 m.2 (s.gf F.PG_CHcc_ON_ON (pgB m.1) m.2)
    let s1 := s.setCh m.1 m.2 { x with phase := ph, per := per, next := nextStart e ofs per x.start, high := high }
    if per ≠ x.per then subRestart s1 m.1 m.2 else s1
  else s

/-- When a group's next epoch falls: its first, or a PER in force after the last (R207). -/
def epochDue (s : State) (r g : Nat) : Nat :=
  match (s.slot r g).first with
  | some t => t
  | none => (s.slot r g).epoch + s.gf F.PG_GRPg_APPLIED_PER (pgB r) g

/-- GROUP_EPOCH (R207, R209): a command that comes before the epoch does nothing (log entry 65). -/
def execGroupEpoch (r g : Fin 16) (sub : Fin 120) (s : State) : Host.Outcome State Fault Refusal :=
  let b := pgB r.val
  let x := s.slot r.val g.val
  let e := epochDue s r.val g.val
  s.after <|
    if s.gb F.PG_GRPg_CTRL_EN b g.val = true ∧ (x.first.isSome = true ∨ s.gf F.PG_GRPg_APPLIED_PER b g.val ≠ 0)
        ∧ e ≤ fineNow s sub then
      let per := s.gf F.PG_GRPg_PER_PER b g.val
      let s1 := (s.sf F.PG_GRPg_APPLIED_PER b g.val per).setSlot r.val g.val ⟨none, e⟩
      (members s r.val g.val).foldl (fun s m => memberEpoch s m e per x.first.isSome) s1
    else s

/-- The first instant after `t` of the form a + k × p. -/
def gridAfter (a p t : Nat) : Nat := if t < a then a else a + ((t - a) / p + 1) * p

/-- A channel takes the grid of its group, if that runs: the group's PER, its own PHASE, and its next period start the first
that the group's epochs place after the present (R207, R210; log entry 212). -/
def joinGrid (s : State) (r c : Nat) : State :=
  let g := grpOf s r c
  let per := s.gf F.PG_GRPg_APPLIED_PER (pgB g.1) g.2
  let ph := s.gf F.PG_CHcc_PHASE_PHASE (pgB r) c
  if (s.slot g.1 g.2).first.isSome ∨ per = 0 then s
  else s.setCh r c { s.ch r c with phase := ph, per := per, next := gridAfter ((s.slot g.1 g.2).epoch + ofsOf ph per) per (tickNow s) }

/-! ### Register writes -/

/-- The target of a running substitution takes no write but its duty (R232). -/
def substituting (s : State) (r c : Nat) : Bool :=
  s.gf F.PG_SUB_STAT_STATE (pgB r) != 0 && (s.pgSub.get r).ch = c

/-- PER is listed from 4,800 to 960,000 (R200); a write outside keeps PER (R13). An enabled group takes at most a factor of
two from the PER in force (R209), and no member's minima may exceed PER (R203). -/
def perWrite (s : State) (a : Reader) (r g : Nat) (v : Word) : State :=
  s.asOwner a r fun s =>
    let b := pgB r
    let w := s.merged R.PG_GRPg_PER b g v
    let per := fOf w F.PG_GRPg_PER_PER
    let cur := s.gf F.PG_GRPg_APPLIED_PER b g
    let minBad := (members s r g).any fun m =>
      decide (per < s.gf F.PG_CHcc_LIM_MIN_ON (pgB m.1) m.2 + s.gf F.PG_CHcc_LIM_MIN_OFF (pgB m.1) m.2)
    if minBad || (s.gb F.PG_GRPg_CTRL_EN b g && decide (cur ≠ 0) && decide (2 * cur < per ∨ 2 * per < cur)) then pgReject s r
    else s.wr R.PG_GRPg_PER b g w

/-- PG_GRP_PER_WRITE. -/
def execPgGrpPerWrite (a : Reader) (r : Rgn) (g : Fin 16) (v : Word) (s : State) : Host.Outcome State Fault Refusal :=
  s.after (perWrite s a r.val g.val v)

/-- A channel register staged or plain: refused whole for the target of a substitution (R232). -/
def chPlainWrite (s : State) (a : Reader) (reg : Reg) (r c : Nat) (v : Word) : State :=
  s.asOwner a r fun s => if substituting s r c then pgReject s r else s.plainWrite reg (pgB r) c v

/-- PG_PHASE_WRITE (R209). -/
def execPgPhaseWrite (a : Reader) (r : Rgn) (c : Fin 16) (v : Word) (s : State) : Host.Outcome State Fault Refusal :=
  s.after (chPlainWrite s a R.PG_CHcc_PHASE r.val c.val v)

/-- PG_LIM_WRITE (R203). -/
def limWrite (s : State) (a : Reader) (r c : Nat) (v : Word) : State :=
  s.asOwner a r fun s =>
    let b := pgB r
    let w := s.merged R.PG_CHcc_LIM b c v
    let g := grpOf s r c
    let per := s.gf F.PG_GRPg_PER_PER (pgB g.1) g.2
    if substituting s r c || (decide (per ≠ 0) && decide (per < fOf w F.PG_CHcc_LIM_MIN_ON + fOf w F.PG_CHcc_LIM_MIN_OFF)) then pgReject s r
    else s.wr R.PG_CHcc_LIM b c w

def execPgLimWrite (a : Reader) (r : Rgn) (c : Fin 16) (v : Word) (s : State) : Host.Outcome State Fault Refusal :=
  s.after (limWrite s a r.val c.val v)

/-- A channel's first enable after reset (R223): its ball leaves Float, and a trip input already asserted acts. It joins its
group, and waits for duty, at its next period start (R210, R215). -/
def startChannel (s : State) (r : Rgn) (c : Fin 16) : State :=
  let x := s.ch r.val c.val
  if x.everEn then s else actAsserted (joinGrid (s.setCh r.val c.val { x with everEn := true }) r.val c.val) r c

/-- The first epoch of a group enabled now (R207): the instant, in fine steps of the timebase, at which Herd Time reaches its
next multiple of 16,000 counts, or wraps to 0. -/
def firstEpoch (s : State) : Nat := tickNow s + 3 * (min ((s.now.toNat / 16000 + 1) * 16000) (2 ^ 64) - s.now.toNat)

/-- A write of PG_GRPg_CTRL (R207, R209, R210): an enable places the first epoch on the next multiple of 16,000 counts. -/
def grpCtrlWrite (s : State) (a : Reader) (r g : Nat) (v : Word) : State :=
  s.asOwner a r fun s =>
    let b := pgB r
    let was := s.gb F.PG_GRPg_CTRL_EN b g
    let s1 := s.plainWrite R.PG_GRPg_CTRL b g v
    if fOf v F.PG_GRPg_CTRL_EN = 1 ∧ was = false then
      s1.setSlot r g { s1.slot r g with first := some (firstEpoch s) }
    else s1

/-- GROUP_ENABLE and GROUP_DISABLE. -/
def execGroupEnable (a : Reader) (r g : Fin 16) (s : State) : Host.Outcome State Fault Refusal :=
  s.after (grpCtrlWrite s a r.val g.val 0x8000_0000)
def execGroupDisable (a : Reader) (r g : Fin 16) (s : State) : Host.Outcome State Fault Refusal :=
  s.after (grpCtrlWrite s a r.val g.val 0)

/-- A field of a channel's configuration kept where it names a region of the other die (R13, R37, R207, R211). -/
def keepDie (r : Nat) (f : Fld) (old w : Word) : Word :=
  if dieOf (fOf w f) = dieOf r then w else w.setBits f.hi f.lo (fOf old f)

/-- A write of PG_CHcc_CFG (R207, R210, R211, R232). A cleared EN takes hold at the next period start; a channel that names
another group takes that group's grid. A write that makes a channel two-level leaves its level fields as they are, so that
one that holds 0b01 goes on driving the middle level (R204; log entry 208). -/
def chCfgWrite (s : State) (a : Reader) (r : Rgn) (c : Fin 16) (v : Word) : State :=
  s.asOwner a r.val fun s =>
    let b := pgB r.val
    let old := s.rd R.PG_CHcc_CFG b c.val
    let w := keepDie r.val F.PG_CHcc_CFG_GRP_RGN old (keepDie r.val F.PG_CHcc_CFG_SRC_RGN old (s.merged R.PG_CHcc_CFG b c.val v))
    if substituting s r.val c.val then pgReject s r.val
    else
      let s1 := s.wr R.PG_CHcc_CFG b c.val w
      let s2 := if (s.ch r.val c.val).everEn && grpOf s1 r.val c.val != grpOf s r.val c.val then joinGrid s1 r.val c.val else s1
      if fOf w F.PG_CHcc_CFG_EN = 1 then startChannel s2 r c else s2

/-- CHANNEL_ENABLE and CHANNEL_DISABLE: EN written, the rest of PG_CHcc_CFG as it is. -/
def execChannelEnable (a : Reader) (r : Rgn) (c : Fin 16) (s : State) : Host.Outcome State Fault Refusal :=
  s.after (chCfgWrite s a r c ((s.rd R.PG_CHcc_CFG (pgB r.val) c.val).setBit 0 true))
def execChannelDisable (a : Reader) (r : Rgn) (c : Fin 16) (s : State) : Host.Outcome State Fault Refusal :=
  s.after (chCfgWrite s a r c ((s.rd R.PG_CHcc_CFG (pgB r.val) c.val).setBit 0 false))

/-- A write of PG_CHcc_TRIPCFG: levels that the channel does not allow are unlisted (R13, R204); a line or response set
while the input is asserted acts (R219). -/
def tripCfgWrite (s : State) (a : Reader) (r : Rgn) (c : Fin 16) (v : Word) : State :=
  s.asOwner a r.val fun s =>
    let b := pgB r.val
    let old := s.rd R.PG_CHcc_TRIPCFG b c.val
    let two := !s.gb F.PG_CHcc_CFG_LEVELS b c.val
    let keep := fun (f : Fld) (w : Word) => if two ∧ fOf w f = 1 then w.setBits f.hi f.lo (fOf old f) else w
    let w := keep F.PG_CHcc_TRIPCFG_A_LVL (keep F.PG_CHcc_TRIPCFG_B_LVL (s.merged R.PG_CHcc_TRIPCFG b c.val v))
    if substituting s r.val c.val then pgReject s r.val
    else
      let s1 := s.wr R.PG_CHcc_TRIPCFG b c.val w
      let s2 := refreshTrip (refreshTrip s1 r c false) r c true
      let s3 := if fOf w F.PG_CHcc_TRIPCFG_A_RESP ≠ fOf old F.PG_CHcc_TRIPCFG_A_RESP ∧ s.gb F.PG_CHcc_STAT_TRIPA b c.val
                    ∧ s2.gb F.PG_CHcc_STAT_TRIPA b c.val then tripEnter s2 r c false else s2
      if fOf w F.PG_CHcc_TRIPCFG_B_RESP ≠ fOf old F.PG_CHcc_TRIPCFG_B_RESP ∧ s.gb F.PG_CHcc_STAT_TRIPB b c.val
          ∧ s3.gb F.PG_CHcc_STAT_TRIPB b c.val then tripEnter s3 r c true else s3

/-- A write of PG_CHcc_STATES: levels that the channel does not allow are unlisted (R13, R204); a frozen ball may take an
edge. -/
def statesWrite (s : State) (a : Reader) (r c : Nat) (v : Word) : State :=
  s.asOwner a r fun s =>
    let b := pgB r
    let old := s.rd R.PG_CHcc_STATES b c
    let two := !s.gb F.PG_CHcc_CFG_LEVELS b c
    let keep := fun (f : Fld) (w : Word) => if two ∧ fOf w f = 1 then w.setBits f.hi f.lo (fOf old f) else w
    let w := keep F.PG_CHcc_STATES_IDLE_LVL (keep F.PG_CHcc_STATES_FRZ_LVL (keep F.PG_CHcc_STATES_SAFE_LVL
      (s.merged R.PG_CHcc_STATES b c v)))
    if substituting s r c then pgReject s r else follow [(r, c)] s (s.wr R.PG_CHcc_STATES b c w)

/-- REL (R216, R220): a release from latch-off while its inputs are deasserted; from rail-safe, by REL on any member of the group,
while no rail-safe input of any member is asserted. -/
def relWrite (s : State) (a : Reader) (r c : Nat) (v : Word) : State :=
  s.asOwner a r fun s =>
    let x := s.ch r c
    let g := grpOf s r c
    let group := (r, c) :: (members s g.1 g.2).filter fun m => m != (r, c)
    let safe := group.any fun m => (s.ch m.1 m.2).rs
    let latBlocked := (x.latA && tripIn s r c false) || (x.latB && tripIn s r c true)
    let rsBlocked := safe && group.any fun m =>
      (respOf s m.1 m.2 false = 3 && tripIn s m.1 m.2 false) || (respOf s m.1 m.2 true = 3 && tripIn s m.1 m.2 true)
    if substituting s r c then pgReject s r
    else if fOf v F.PG_CHcc_REL_REL = 0 then s
    else if latBlocked || rsBlocked then pgReject s r
    else
      let s1 := if x.lat then s.setCh r c { x with relLat := true, wdog := 0 } else s
      group.foldl (fun s m => if (s.ch m.1 m.2).rs then s.setCh m.1 m.2 { s.ch m.1 m.2 with relRs := true } else s) s1

def execRel (a : Reader) (r : Rgn) (c : Fin 16) (v : Word) (s : State) : Host.Outcome State Fault Refusal :=
  s.after (relWrite s a r.val c.val v)

/-- Safe hold ends: every enabled channel empties its shadow and waits for duty (R215, R225). -/
def pgSafeEnd (s : State) : State :=
  (List.range 16).foldl (fun s r => (List.range 16).foldl (fun s c =>
    if (s.ch r c).run = .off then s else awaitDuty s r c) s) s

/-! ### The spare channel (R228 to R232) -/

/-- PG_SUB_STAT of a finished or refused request. -/
def pgSubResult (s : State) (r result cause : Nat) : State :=
  (s.sf F.PG_SUB_STAT_RESULT (pgB r) 0 result).sf F.PG_SUB_STAT_CAUSE (pgB r) 0 cause

def pgSubState (s : State) (r st : Nat) : State := s.sf F.PG_SUB_STAT_STATE (pgB r) 0 st

/-- The mapping moves to the spare: PHYS reads 16, the old physical channel is consumed (R229). -/
def pgMap (s : State) (r c cause : Nat) : State :=
  ((s.sf F.PG_CHcc_STAT_PHYS (pgB r) c 16).sb F.PG_SPARE_STAT_FREE (pgB r) 0 false).useSpare 3 r c cause

/-- The start of a substitution (R228). A target whose EN, or whose group's EN, is 0 has its mapping exchanged at once: the old
physical channel is consumed and RESULT reads completed; a start by the wear logic leaves PG_SUB as it is (log entry 209). -/
def pgSubStart (s : State) (r c : Nat) : State :=
  let b := pgB r
  if !s.gb F.PG_SPARE_STAT_FREE b then pgSubResult s r 3 1
  else if s.gf F.PG_SUB_STAT_STATE b ≠ 0 then pgSubResult s r 3 2
  else if s.gf F.RGN_STAT_OWNER (rgB r) = 0 then pgSubResult s r 3 3
  else
    if !enOf s r c then pgSubResult (pgMap s r c 0) r 1 0
    else
      let s2 := pgSubState (pgSubResult s r 0 0) r 1
      { s2 with pgSub := s2.pgSub.set r ⟨c, 48000 + perOf s r c, false, 0, 0, false⟩ }

/-- A write of PG_SUB (R16, R228): CH is kept; a write of 1 to START, while it is 0, is the request, and START reads 1
until it has ended. -/
def pgSubWrite (s : State) (a : Reader) (r : Nat) (v : Word) : State :=
  s.asOwner a r fun s =>
    let s1 := s.sf F.PG_SUB_CH (pgB r) 0 (fOf v F.PG_SUB_CH)
    if fOf v F.PG_SUB_START = 0 ∨ s.gb F.PG_SUB_START (pgB r) then s1
    else
      let s2 := pgSubStart s1 r (fOf v F.PG_SUB_CH)
      if s.gf F.PG_SUB_STAT_STATE (pgB r) = 0 ∧ s2.gf F.PG_SUB_STAT_STATE (pgB r) ≠ 0 then
        s2.sb F.PG_SUB_START (pgB r) 0 true
      else s2

/-- PG_SUBSTITUTION: by the owner, or by the wear logic with AUTO_SUB (R228). -/
def execPgSubstitution (start : Starter) (r : Rgn) (c : Fin 16) (s : State) : Host.Outcome State Fault Refusal :=
  s.after <|
    match start with
    | .by a => pgSubWrite s a r.val (((0 : Word).setBits F.PG_SUB_CH.hi F.PG_SUB_CH.lo c.val).setBits F.PG_SUB_START.hi F.PG_SUB_START.lo 1)
    | .wear => if s.gb F.PG_CTRL_AUTO_SUB (pgB r.val) then pgSubStart s r.val c.val else s

/-- The next step, or a pause before it under a freeze or Torpor (R232). -/
def pgSubNext (s : State) (r st steps : Nat) : State :=
  let x := s.pgSub.get r
  let hold := frozen s r || s.inTorpor r
  let s1 := { s with pgSub := s.pgSub.set r { x with steps := steps, resume := if hold then st else 0 } }
  pgSubState s1 r (if hold then 5 else st)

/-- A paused substitution resumes when what paused it ends. -/
def pgSubResume (s : State) (r : Nat) : State :=
  if s.gf F.PG_SUB_STAT_STATE (pgB r) = 5 ∧ frozen s r = false ∧ s.inTorpor r = false then
    pgSubState s r (s.pgSub.get r).resume
  else s

/-- The spare channel's state while a substitution has it aligned: configuration, grid, duty and trip states are the target's,
since both receive every duty value and enter every trip state (R229, R232). -/
def spareCh (s : State) (r : Nat) : Option ChS :=
  let st := s.gf F.PG_SUB_STAT_STATE (pgB r)
  if 2 ≤ st ∧ (st ≠ 5 ∨ 2 ≤ (s.pgSub.get r).resume) then some (s.ch r (s.pgSub.get r).ch) else none

/-- The substitution ends: idle, START reads 0. -/
def pgSubEnd (s : State) (r : Nat) : State := (pgSubState s r 0).sb F.PG_SUB_START (pgB r) 0 false

/-- The spare has failed (R231). -/
def pgSpareFail (s : State) (r : Rgn) (c cause : Nat) : State :=
  let b := pgB r.val
  ((((s.sb F.PG_SPARE_STAT_FAILED b 0 true).sb F.PG_SPARE_STAT_FREE b 0 false).sb F.PG_EVT_SUB_FAIL b 0 true).useSpare 3
    r.val c cause).raise (srcRgn r (unitPg ⟨c % 16, by omega⟩)) 0x44 (detailOf [(2, 1, c), (3, 1, cause)])

/-- PG_SUBSTITUTION_STEP_END (R229 to R231). `tgtBad`, `spareBad`: step 2 has found an edge of theirs out of tolerance; without
one it ends when 64 periods have counted. -/
def execPgSubstitutionStepEnd (r : Rgn) (tgtBad spareBad : Bool) (s : State) : Host.Outcome State Fault Refusal :=
  let b := pgB r.val
  let x := s.pgSub.get r.val
  let c := x.ch
  let per := perOf s r.val c
  let src := srcRgn r (unitPg ⟨c % 16, by omega⟩)
  s.after <|
    match s.gf F.PG_SUB_STAT_STATE b with
    | 1 => pgSubNext { s with pgSub := s.pgSub.set r.val { x with good := 0, marred := true } } r.val 2 (64 * per)
    | 2 =>
      if spareBad && tgtBad then
        ((pgSubEnd (pgSubResult (pgSpareFail s r c 8) r.val 3 8) r.val).raise src 0x43
          (detailOf [(2, 1, c), (3, 1, s.gf F.PG_CHcc_STAT_PHYS b c), (4, 1, 8)])).failPermanent
      else if spareBad then pgSubEnd (pgSubResult (pgSpareFail s r c 6) r.val 3 6) r.val
      else if tgtBad then
        let s1 := (s.sb F.PG_EVT_SUB_FAIL b 0 true).raise src 0x43
          (detailOf [(2, 1, c), (3, 1, s.gf F.PG_CHcc_STAT_PHYS b c), (4, 1, 5)])
        pgSubNext { s1 with pgSub := s1.pgSub.set r.val { x with forced := true } } r.val 3 per
      else if x.good < 64 then s
      else pgSubNext s r.val 3 per
    | 3 => pgSubNext s r.val 4 48000
    | 4 =>
      let s1 := pgMap s r.val c (if x.forced then 5 else 0)
      pgSubEnd (if x.forced then pgSubResult s1 r.val 2 5 else pgSubResult s1 r.val 1 0) r.val
    | _ => s

/-- What a region reset does to a running substitution (R232): abandoned before step 3; from then on the mapping stands. -/
def pgSubReset (s : State) (r : Nat) : State :=
  let st := s.gf F.PG_SUB_STAT_STATE (pgB r)
  let x := s.pgSub.get r
  if st = 0 then s
  else if st < 3 ∨ (st = 5 ∧ x.resume ≤ 3) then pgSubEnd (pgSubResult s r 3 7) r
  else pgSubEnd (pgMap s r x.ch (if x.forced then 5 else 0)) r

/-- What a region reset does to the channels and slots of a region (R227). A member elsewhere keeps its own state; its
group's EN reads 0 in the reset register. -/
def pgRegionReset (s : State) (r : Nat) : State :=
  let s1 := pgSubReset s r
  { s1 with
    pwm := s1.pwm.keep fun k => k / 16 != r,
    slots := s1.slots.keep fun k => k / 16 != r,
    pgSub := s1.pgSub.set r PgSubS.reset }

end Sys2Proof.Machine
end

