-- ==== Sys2Proof/Machine/Pins.lean ====
section
/-!
DEFINITION. The general-purpose pins, pin-event lines and the control and status balls (13_host_interfaces_and_pins.md,
R473 to R488).
-/

namespace Sys2Proof.Machine

/-! ### Pins and their functions (R473 to R478) -/

/-- Ports K and L. -/
def pinKL (i : Nat) : Bool := decide (160 ≤ i)

/-- The Field die of a pin of ports A to J. -/
def pinDie (i : Nat) : Nat := i / 80

/-- FUNC_EN bits that R474 allows: WAKE on ports K and L only, the functions of a die on ports A to J only. -/
def pinAllowed (i : Nat) : Nat := if pinKL i then 0xE659 else 0xFFBF

def pinFunc (s : State) (i f : Nat) : Bool := (s.gf F.PIN_Pxn_CFG_FUNC_EN 0 i).testBit f

/-- A pin that the mode and its owner do not hold in high-Z (R475, R476, R487); SAFE_Z is not counted. -/
def pinReady (s : State) (i : Nat) : Bool :=
  match s.sett.phase with
  | .off => false
  | .dormant => pinKL i && pinFunc s i 6
  | .powerUp => pinKL i && pinFunc s i 6
  | .loading => pinKL i
  | .verifying => pinKL i
  | .calibrating => pinKL i || s.gf F.PIN_Pxn_CFG_OWNER 0 i != 0
  | .running => pinKL i || s.gf F.PIN_Pxn_CFG_OWNER 0 i != 0

/-- High-Z in Safe hold (R487). -/
def pinSafeZ (s : State) (i : Nat) : Bool := s.safeHold && s.gb F.PIN_Pxn_CFG_SAFE_Z 0 i

/-- The input function f of a pin, with its arguments, as a number (R474, R478). -/
def inputKey (s : State) (i f : Nat) : Nat :=
  let rgn := s.gf F.PIN_Pxn_ARG_RGN 0 i
  let sub := s.gf F.PIN_Pxn_ARG_SUB 0 i
  let line := s.gf F.PIN_Pxn_ARG_LINE 0 i
  match f with
  | 1 => rgn * 32 + sub
  | 2 => if sub < 16 then pinDie i * 16 + line else 64 + rgn * 8 + line % 8
  | 3 => line
  | 5 => pinDie i * 8 + line % 8
  | 15 => line % 4
  | _ => 0

/-- Input functions that a second pin puts into conflict (R474, R478). -/
def inputFuncs : List Nat := [1, 2, 3, 5, 6, 15]

/-- The pins that enable an input function, owned or not (R478). -/
def inputPins (s : State) (f key : Nat) : List Nat :=
  (List.range 192).filter fun i => pinFunc s i f && inputKey s i f = key

/-- The one pin that feeds an input function; none with no pin or with several (R478). -/
def inputPin (s : State) (f key : Nat) : Option Nat :=
  match inputPins s f key with
  | [i] => if pinReady s i then some i else none
  | _ => none

/-- The level at a ball, after INV. -/
def ballIn (s : State) (i : Nat) : Bool := (s.host.ball.get i != 0) != s.gb F.PIN_Pxn_CFG_INV 0 i

/-- The level of a pin-event line (R480): 0 with no pin, or with several, and from then to the next edge (R479). -/
def lineLevel (s : State) (k : Nat) : Bool :=
  match inputPin s 3 k with
  | some i => s.host.stale.get k = 0 && ballIn s i
  | none => false

/-- SB_ALERT is asserted (R465). -/
def sbAlert (s : State) : Bool := s.irqNow != 0

/-- The output functions that drive a pin (R477); FAB_IO's output enable is the fabric logic's (log entry 18). -/
def outputFuncs (s : State) (i : Nat) : List Nat :=
  if pinReady s i then
    (List.range 15).filter fun f =>
      pinFunc s i f && (match f with
        | 0 => s.gb F.PIN_Pxn_CFG_OE 0 i
        | 4 => true | 7 => true | 8 => true | 9 => true | 10 => true | 11 => true | 12 => true | 13 => true | 14 => true
        | _ => false)
  else []

/-- A region is held in reset: its functions on pins drive 0 (R488). -/
def heldInReset (s : State) (r : Nat) : Bool := s.gb F.RGN_STAT_RESET (rgB r)

/-- PG_TRIG (R474): high for 10 ns, 480 fine steps, from a channel's trigger. -/
def trigPulse (s : State) (r c : Nat) : Bool :=
  let x := s.ch r c
  x.trigAt != 0 && decide (3 * s.hub.base + 1 < x.trigAt + 480)

/-- LE_EVOUT (R474): high for one cycle of the fast clock from an EVOUT. -/
def evoutPulse (s : State) (r n : Nat) : Bool :=
  let t := (s.eng r).evAt.get n
  t != 0 && decide ((s.hub.base + 1 - t) * s.fclk r < 16000)

/-- The level that an output function asks for. The clock function is low between its pulses; PPS_OUT is high for the first
1,600,000 counts (100 µs) of each second of Herd Time. -/
def funcLevel (s : State) (i f : Nat) : Bool :=
  let r := s.gf F.PIN_Pxn_ARG_RGN 0 i
  let sub := s.gf F.PIN_Pxn_ARG_SUB 0 i
  match f with
  | 0 => (s.rd R.PIN_OUTw 0 (i / 32)).bit (i % 32)
  | 4 => lineLevel s (s.gf F.PIN_Pxn_ARG_LINE 0 i)
  | 7 => !heldInReset s r && decide (sub < 24) && compOut s r (sub / 2) (sub % 2)
  | 8 => !heldInReset s r && trigPulse s r (sub % 16)
  | 9 => s.hub.timeOn && decide (s.now.toNat % 16000000000 < 1600000)
  | 10 => sbAlert s
  | 12 => !heldInReset s r && evoutPulse s r (sub % 8)
  | 13 => s.sett.replaceN
  | 14 => s.safeHold
  | _ => false

/-- The pins that the Sett drives as supply enables (R495). -/
def settPins (s : State) : List Nat :=
  ([0, 1, 2, 3].filter fun k => s.ownB F.SETT_PWRk_EN k).map fun k => 160 + s.own F.SETT_PWRk_PIN k

/-- A ball under boundary scan (R470, R471): EXTEST and CLAMP drive what was shifted in for it, HIGHZ nothing. -/
def scanned (s : State) (ball : Nat) (own : Option Bool) : Option Bool :=
  let shifted := match s.host.jtag.bscan.get ball with | 1 => some false | 2 => some true | _ => none
  match s.host.jtag.instr with | .extest => shifted | .clamp => shifted | .highz => none | _ => own

/-- What a pin drives while the dies are in reset or off (R482, R487): a supply enable as the Sett drives it, another pin of
port K or L with RET = 1 its last level. -/
def retDrive (s : State) (i : Nat) : Option Bool :=
  if pinKL i && s.gb F.PIN_Pxn_CFG_RET 0 i then
    if (settPins s).contains i then some ((s.rd R.PIN_OUTw 0 (i / 32)).bit (i % 32))
    else match s.host.kept.get i with | 1 => some false | 2 => some true | _ => none
  else none

/-- What the functions of a pin drive at its ball (R477): their OR, inverted by INV; an open-drain pin drives low only; none
where they drive nothing. -/
def funcDrive (s : State) (i : Nat) : Option Bool :=
  let fs := outputFuncs s i
  if fs.isEmpty || pinSafeZ s i then none
  else
    let v := (fs.any fun f => funcLevel s i f) != s.gb F.PIN_Pxn_CFG_INV 0 i
    if s.gb F.PIN_Pxn_CFG_OD 0 i && v then none else some v

/-- What a pin drives at its ball, in every mode (R477, R482, R487) and under boundary scan (R471). -/
def pinDrive (s : State) (i : Nat) : Option Bool :=
  match s.sett.phase with
  | .off => none
  | .dormant => retDrive s i
  | .powerUp => scanned s i (retDrive s i)
  | _ => scanned s i (funcDrive s i)

/-- What the pins of ports K and L with RET = 1 drive now is kept (R482). -/
def keepLevels (s : State) : State :=
  let l := (List.range 32).foldl (fun t n =>
    t.set (160 + n) (if s.gb F.PIN_Pxn_CFG_RET 0 (160 + n) then
      (match funcDrive s (160 + n) with | some false => 1 | some true => 2 | none => 0) else 0)) s.host.kept
  { s with host := { s.host with kept := l } }

/-- A bit of PIN_INw (R475): the level after INV. -/
def pinIn (s : State) (i : Nat) : Bool :=
  if pinReady s i && !pinSafeZ s i then
    match pinDrive s i with
    | some v => v != s.gb F.PIN_Pxn_CFG_INV 0 i
    | none => ballIn s i
  else Config.offInput i

/-- PIN_INw. -/
def pinInWord (s : State) (w : Nat) : Word :=
  BitVec.ofNat 32 ((List.range 32).foldl (fun n b => if pinIn s (32 * w + b) then n + 2 ^ b else n) 0)

/-! ### Conflicts (R477 to R479) -/

/-- One logged conflict. -/
def logConflict (s : State) (input : Bool) (f i : Nat) : State :=
  let s1 := (s.sb (if input then F.PIN_EVT_CFLT_IN else F.PIN_EVT_CFLT_OUT) 0 0 true).bump F.PIN_STAT_CFLT_CNT 0
  s1.wr R.PIN_CFLT_LAST 0 0 (BitVec.ofNat 32 ((if input then 2 ^ 31 else 0) + f * 2 ^ 16 + i))

/-- An output conflict at a pin is logged at its start, and again only after it has ended. -/
def outConflict (s : State) (i : Nat) : State :=
  let fs := outputFuncs s i
  let was := s.host.cflt.get i != 0
  let is := decide (2 ≤ fs.length)
  let s1 := { s with host := { s.host with cflt := s.host.cflt.set i (if is then 1 else 0) } }
  if is && !was then logConflict s1 false (fs.foldl max 0) i else s1

/-- The input functions of a pin that are in conflict, with their keys. -/
def inConflicts (s : State) (i : Nat) : List (Nat × Nat) :=
  (inputFuncs.filter fun f => pinFunc s i f && decide (2 ≤ (inputPins s f (inputKey s i f)).length)).map fun f =>
    (f, inputKey s i f)

/-! ### SAFE_IN (R474, R500) -/

/-- A SAFE_IN input is asserted, low as SAFE_N is; in conflict it is deasserted. -/
def safeInNow (s : State) : Bool :=
  [0, 1, 2, 3].any fun k => match inputPin s 15 k with | some i => !ballIn s i | none => false

/-- The source SAFE_IN of Safe hold follows its pins (R500). -/
def syncSafeIn (s : State) : State :=
  let is := safeInNow s
  if is = s.sett.safeCond.testBit 1 then s else if is then safeOn s 1 true false else s.safeRelease 1

/-! ### Pin-event lines (R480, R481) -/

/-- An event of line k at an instant: it is recorded and counted, and fires the converter triggers of code 0x20 + k on both
dies; a rising edge of PPS_LINE steers the root (R437). -/
def lineEvent (s : State) (k : Nat) (t : DWord) (rising : Bool) : State :=
  let s1 := ((s.wr R.PIN_EVTk_TIME 0 k t.lo).count F.PIN_EVTk_CFG_COUNT 0 k).orf F.PIN_EVT_LINE 0 0 k
  let s2 := (List.range 16).foldl (fun s r => fireTrigger s r (0x20 + k)) s1
  if rising && s2.gf F.HERD_CTRL_PPS_LINE 0 = k then ppsSteer s2 t else s2

/-- An edge of line k (R480): an event if the line is enabled and EDGE chooses the edge. -/
def lineEdge (s : State) (k : Nat) (t : DWord) (rising : Bool) : State :=
  let edge := s.gf F.PIN_EVTk_CFG_EDGE 0 k
  if s.gb F.PIN_EVTk_CFG_EN 0 k && (if rising then edge % 2 = 1 else edge / 2 % 2 = 1) then lineEvent s k t rising else s

/-- PIN_EVENT (R480, R481): the level at a ball, after its filter, is now `level`; `sub` places the edge at the ball, less
the filter's delay, within the tick. -/
def execPinEvent (i : Fin 192) (level : Bool) (sub : Fin 40) (s : State) : Host.Outcome State Fault Refusal :=
  let k := s.gf F.PIN_Pxn_ARG_LINE 0 i.val
  let feeds := pinFunc s i.val 3 && inputPin s 3 k = some i.val
  let s1 := { s with host := { s.host with ball := s.host.ball.set i.val (if level then 1 else 0),
                                           stale := if feeds then s.host.stale.set k 0 else s.host.stale } }
  let now := lineLevel s1 k
  let s2 := if feeds && now != lineLevel s k then lineEdge s1 k (s.stamp sub) now else s1
  s.after (syncSafeIn s2)

/-- A write of 1 to PIN_EVTk_CFG.SW: a pulse ORed with the level, so that a high line makes no edge (R480). -/
def linePulse (s : State) (k : Nat) : State :=
  if lineLevel s k then s else lineEdge (lineEdge s k s.now true) k s.now false

/-- A write of PIN_EVTk_CFG. -/
def pinEvtWrite (s : State) (k : Nat) (v : Word) : State :=
  let s1 := s.plainWrite R.PIN_EVTk_CFG 0 k v
  if fOf v F.PIN_EVTk_CFG_SW = 1 then linePulse s1 k else s1

/-- PIN_EVENT_SW (R480): any reader may use the registers. -/
def execPinEventSw (a : Reader) (k : Fin 16) (s : State) : Host.Outcome State Fault Refusal :=
  s.after (s.byPath a R.PIN_EVTk_CFG.off (linePulse s k.val))

/-! ### Writes (R475, R476, R478, R495) -/

/-- A write refused at a fabric-owned pin (R476). -/
def pinReject (s : State) : State := s.reject F.PIN_EVT_REJECT F.PIN_STAT_REJ_CNT 0

/-- A write of PIN_Pxn_CFG or PIN_Pxn_ARG (R475, R476, R478, R479). -/
def pinWrite (s : State) (i : Nat) (arg : Bool) (v : Word) : State :=
  if s.gf F.PIN_Pxn_CFG_OWNER 0 i = 2 then pinReject s
  else
    let was := inConflicts s i
    let reg := if arg then R.PIN_Pxn_ARG else R.PIN_Pxn_CFG
    let w := s.merged reg 0 i v
    let w1 := if arg then
        (if pinKL i || dieOf (fOf w F.PIN_Pxn_ARG_RGN) != pinDie i then w.setBits 19 16 (s.gf F.PIN_Pxn_ARG_RGN 0 i) else w)
      else if fOf w F.PIN_Pxn_CFG_FUNC_EN &&& pinAllowed i = fOf w F.PIN_Pxn_CFG_FUNC_EN then w
      else w.setBits 31 16 (s.gf F.PIN_Pxn_CFG_FUNC_EN 0 i)
    let s1 := outConflict (s.wr reg 0 i w1) i
    let new := inConflicts s1 i
    let s2 := (new.filter fun c => !was.contains c).foldl (fun s c => logConflict s true c.1 i) s1
    let s3 := new.foldl (fun s c => if c.1 = 3 then { s with host := { s.host with stale := s.host.stale.set c.2 1 } } else s) s2
    syncSafeIn s3

/-- PIN_CONFIG_WRITE (R478). -/
def execPinConfigWrite (a : Reader) (i : Fin 192) (arg : Bool) (v : Word) (s : State) :
    Host.Outcome State Fault Refusal := s.after (s.byPath a R.PIN_Pxn_CFG.off (pinWrite s i.val arg v))

/-- A write of PIN_OUTw (`op` 0), PIN_OSETw (1) or PIN_OCLRw (2): only pins owned by host, and not those the Sett drives,
take it; one that writes a fabric-owned pin is counted (R476, R495). -/
def pinOutWrite (s : State) (w op : Nat) (v : Word) : State :=
  let old := s.rd R.PIN_OUTw 0 w
  let asks := fun (b : Nat) => op = 0 || v.bit b
  let ofOwner := fun (o b : Nat) => s.gf F.PIN_Pxn_CFG_OWNER 0 (32 * w + b) = o
  let mine := (List.range 32).filter fun b => ofOwner 1 b && asks b && !(settPins s).contains (32 * w + b)
  let new := mine.foldl (fun x b => x.setBit b (match op with | 0 => v.bit b | 1 => true | _ => false)) old
  let s1 := s.wr R.PIN_OUTw 0 w new
  if (List.range 32).any fun b => ofOwner 2 b && asks b then pinReject s1 else s1

/-- A supply-enable pin driven by the Sett (R495). -/
def drivePwr (s : State) (k : Nat) (on : Bool) : State :=
  if s.ownB F.SETT_PWRk_EN k then
    let i := 160 + s.own F.SETT_PWRk_PIN k
    s.wr R.PIN_OUTw 0 (i / 32) ((s.rd R.PIN_OUTw 0 (i / 32)).setBit (i % 32) on)
  else s

/-- A loaded image gives the pins their functions (R475, R477, R478, R500). -/
def pinsStart (s : State) : State :=
  let s1 := (List.range 192).foldl (fun s i => outConflict s i) s
  let t := (List.range 16).foldl (fun t k => if (inputPins s1 3 k).length ≤ 1 then t else t.set k 1) s1.host.stale
  syncSafeIn { s1 with host := { s1.host with stale := t } }

/-! ### Control and status balls (R483 to R487) -/

/-- ALARM_N is asserted, each time for at least 1 µs (R484). -/
def alarmN (s : State) : Bool :=
  alarmCause s || (hubOn s && s.host.alarmAt != 0 && decide (s.hub.base + 1 < s.host.alarmAt + 16000))

/-- PRES_N is asserted, released only without VDD_SETT (R485). -/
def presN (s : State) : Bool := s.sett.phase != .off

/-- REPLACE_N is asserted: as the Sett holds it (R487, R526). -/
def replaceBall (s : State) : Bool := s.sett.phase != .off && s.sett.replaceN

/-- CFG_DONE and CFG_ERR (R487): low in reset, at their last level in Dormant, none without VDD_SETT. -/
def cfgBall (s : State) (now last : Bool) : Option Bool :=
  match s.sett.phase with
  | .off => none
  | .dormant => some last
  | .powerUp => some false
  | _ => some now
def cfgDoneBall (s : State) : Option Bool := cfgBall s (s.gb F.CFG_STAT_CFG_DONE 0) s.host.lastDone
def cfgErrBall (s : State) : Option Bool := cfgBall s (s.gb F.CFG_STAT_CFG_ERR 0) s.host.lastErr

/-! ### xSPI balls (R472) -/

/-- The balls of the xSPI interface. -/
inductive XspiBall where
  | ck | cs0 | cs1 | dq (i : Fin 8) | dqs | rst
  deriving DecidableEq, Repr

/-- What the Trarix makes of an xSPI ball. -/
inductive XspiDrive where
  /-- It floats; the board's pull-up holds a chip select high. -/
  | floats
  | level (high : Bool)
  /-- The controller of R329 drives it as the flash protocol has it. -/
  | protocol
  deriving DecidableEq, Repr

/-- Unpowered and in Dormant the balls float; from t0 to Loading both chip selects are high, XSPI_RST_N is low for 10 µs and
then high, and the others are low; from Loading on the controller drives them. While the supplies rise or PORST_N is low
they float (DESIGN CHOICE, log entry 219). -/
def xspiDrive (s : State) (b : XspiBall) : XspiDrive :=
  match s.sett.phase with
  | .off => .floats
  | .dormant => .floats
  | .powerUp =>
    if s.sett.pwrStep = 3 then
      match b with
      | .cs0 => .level true
      | .cs1 => .level true
      | .rst => .level (decide (s.sett.porstAt + 160_000 ≤ s.hub.base))
      | _ => .level false
    else .floats
  | _ => .protocol

end Sys2Proof.Machine
end

