-- ==== Sys2Proof/Machine/HostPins.lean ====
section
/-!
DEFINITION. The host ports' links, functions and MSI-X tables, the sideband target's CCCs and the TAP's instructions
(13_host_interfaces_and_pins.md, R451 to R459, R466, R467, R470, R471). Register accesses stand in Access.lean.
-/

namespace Sys2Proof.Machine

/-! ### OTP (R453, R455, R466, R470; log entry 4) -/

def otpPortOff (s : State) (p : Nat) : Bool := (s.otp.get 0x200_0005).toNat.testBit p
def otpAts (s : State) (p : Nat) : Bool := (s.otp.get 0x200_000C).toNat.testBit p
def otpPid (s : State) : Nat := (s.otp.get 0x200_0006).toNat + (s.otp.get 0x200_0007).toNat % 65536 * 2 ^ 32
def otpBcr (s : State) : Nat := (s.otp.get 0x200_0008).toNat % 256
def otpDcr (s : State) : Nat := (s.otp.get 0x200_0009).toNat % 256
def otpManufacturer (s : State) : Nat := (s.otp.get 0x200_000B).toNat % 2048

/-! ### Links (R453, R454, R458, R459) -/

def State.setHost (s : State) (p : Nat) (x : HPort) : State :=
  { s with host := { s.host with ports := s.host.ports.set p x } }

/-- The holding and staging registers of a reader are emptied (R19, R20, R458). -/
def emptyReader (s : State) (code : Nat) : State :=
  { s with hold := s.hold.keep fun k => k / 2 ^ 25 != code,
           stage := s.stage.keep fun k => k / 2 ^ 25 != code,
           conv := s.conv.mapAll fun _ x => { x with readers := x.readers.upd code fun q => { q with hold := none } } }

/-- The link of a port leaves link-up (R459): MODE reads down and the credits of the link are gone. -/
def linkLost (s : State) (p : Fin 2) (cause : Nat) : State :=
  if s.linkUp p.val then
    let w := s.rd R.HOST_p_STAT 0 p.val
    let s1 := s.wr R.HOST_p_STAT 0 p.val (w.setBits 31 20 0)
    let s2 := { s1 with pmap := { s1.pmap with credits := s1.pmap.credits.set p.val 0 } }
    (s2.sb F.HOST_p_EVT_LINK_DOWN 0 p.val true).raise (hostSrc p) 0x140 (detailOf [(2, 1, p.val + 1), (3, 1, cause)])
  else s

/-- Configuration space, the MSI-X table and the translation cache of a port at their reset values, and its reader's
registers empty (R458). -/
def functionReset (s : State) (p : Fin 2) : State :=
  let w := s.rd R.HOST_p_STAT 0 p.val
  let s1 := s.wr R.HOST_p_STAT 0 p.val (w.setBits 19 16 0)
  let s2 := { s1 with
    pmap := { s1.pmap with trans := s1.pmap.trans.keep fun k => k / 2 ^ 52 != p.val },
    host := { s1.host with msix := s1.host.msix.keep fun k => k / 1024 != p.val,
                           pba := s1.host.pba.keep fun k => k / 64 != p.val } }
  emptyReader s2 p.val

/-- PERST_ASSERT (R458): per-port state returns to its reset values as well. -/
def execPerstAssert (p : Fin 2) (s : State) : Host.Outcome State Fault Refusal :=
  let s1 := functionReset (linkLost s p 1) p
  let s2 := (s1.wr R.HOST_p_STAT 0 p.val 0).sb F.HOST_p_STAT_PERST 0 p.val true
  s.after ((s2.sb F.HOST_p_EVT_PERST 0 p.val true).setHost p.val { HPort.reset with perst := true })

/-- PERST_DEASSERT (R453): the port presents termination and may train. -/
def execPerstDeassert (p : Fin 2) (s : State) : Host.Outcome State Fault Refusal :=
  s.after ((s.sb F.HOST_p_STAT_PERST 0 p.val false).setHost p.val { s.host.ports.get p.val with perst := false })

/-- HOT_RESET (R458). -/
def execHotReset (p : Fin 2) (s : State) : Host.Outcome State Fault Refusal :=
  s.after (if s.linkUp p.val then functionReset (linkLost s p 2) p else s)

/-- LINK_DISABLE (R458). -/
def execLinkDisable (p : Fin 2) (s : State) : Host.Outcome State Fault Refusal :=
  s.after (if s.linkUp p.val then functionReset (linkLost s p 3) p else s)

/-- SURPRISE_DOWN (R459). -/
def execSurpriseDown (p : Fin 2) (s : State) : Host.Outcome State Fault Refusal := s.after (linkLost s p 4)

/-- FUNCTION_LEVEL_RESET (R458): the link stays up. -/
def execFunctionLevelReset (p : Fin 2) (s : State) : Host.Outcome State Fault Refusal :=
  s.after <|
    if s.linkUp p.val then
      ((functionReset s p).sb F.HOST_p_EVT_FLR 0 p.val true).raise (hostSrc p) 0x144 (detailOf [(2, 1, p.val + 1)])
    else s

/-- A port presents termination and trains (R453). -/
def mayTrain (s : State) (p : Nat) : Bool :=
  hubOn s && !s.sett.porstLow && !(s.host.ports.get p).perst && !otpPortOff s p
    && s.sett.supplyBad != 2 && s.sett.supplyBad != 4

/-- The limits of HOST_p_CTRL. -/
def withinLimits (s : State) (p rate width : Nat) : Bool :=
  decide (rate ≤ s.gf F.HOST_p_CTRL_MAX_RATE 0 p) && decide (s.gf F.HOST_p_CTRL_MAX_WIDTH 0 p ≤ width)

/-- The records that wait have waited through a retrain of the posting port (R373). -/
def flagRetrain (s : State) (p : Nat) : State := if postPort s = p + 1 then s.flagWaiting 2 else s

/-- LINK_TRAINED (R453, R454, R459): `cxl`: the host selects CXL.io and CXL.cache. The protocol of the first training after
PERST stays; a link that was up reports a change of rate or width. -/
def execLinkTrained (p : Fin 2) (cxl : Bool) (rate : Fin 5) (width : Fin 3) (reversed : Bool) (polinv : Fin 16)
    (s : State) : Host.Outcome State Fault Refusal :=
  s.after <|
    if mayTrain s p.val && withinLimits s p.val rate.val width.val then
      let x := s.host.ports.get p.val
      let mode : Bool := x.cxl.getD (cxl && rate.val = 4)
      let was := s.linkUp p.val
      let change := was && (s.gf F.HOST_p_STAT_RATE 0 p.val != rate.val || s.gf F.HOST_p_STAT_WIDTH 0 p.val != width.val)
      let s1 := s.setHost p.val { x with cxl := some mode, fatal := was && x.fatal }
      let s2 := (s1.sf F.HOST_p_STAT_MODE 0 p.val (if mode then 2 else 1)).sf F.HOST_p_STAT_RATE 0 p.val rate.val
      let s3 := (s2.sf F.HOST_p_STAT_WIDTH 0 p.val width.val).sb F.HOST_p_STAT_REVERSED 0 p.val reversed
      let s4 := (s3.sf F.HOST_p_STAT_POLINV 0 p.val polinv.val).sb F.HOST_p_CTRL_RETRAIN 0 p.val false
      let s5 := if was then flagRetrain s4 p.val else s4
      let s6 := if change then
          (s5.sb F.HOST_p_EVT_LINK_CHG 0 p.val true).raise (hostSrc p) 0x141
            (detailOf [(2, 1, p.val + 1), (3, 1, rate.val), (4, 1, width.val)])
        else s5
      choosePort s6
    else s

/-- A write of HOST_p_CTRL (R454): RETRAIN reads 1 until training ends. -/
def hostCtrlWrite (s : State) (p : Nat) (v : Word) : State :=
  let s1 := s.plainWrite R.HOST_p_CTRL 0 p v
  if fOf v F.HOST_p_CTRL_RETRAIN = 1 then flagRetrain s1 p else s1

/-- RETRAIN (R454). -/
def execRetrain (a : Reader) (p : Fin 2) (s : State) : Host.Outcome State Fault Refusal :=
  s.after (s.byPath a R.HOST_p_CTRL.off (flagRetrain (s.sb F.HOST_p_CTRL_RETRAIN 0 p.val true) p.val))

/-! ### The function (R389, R451, R452, R455, R456, R459) -/

/-- The capabilities that a port's function can list (R455). -/
inductive Capability where
  | powerManagement | pciExpress | msix | aer | ats | cxlDevice | flexBusPort
  deriving DecidableEq, Repr

/-- The capability list of a port's function (R455). -/
def capabilities (s : State) (p : Nat) : List Capability :=
  [.powerManagement, .pciExpress, .msix, .aer] ++ (if otpAts s p then [.ats] else [])
    ++ (if isCxl s p then [.cxlDevice, .flexBusPort] else [])

/-- Vendor ID, Device ID and Revision ID of a port's function, as loaded from OTP (R455; log entry 4). -/
def functionIds (s : State) (p : Nat) : Nat × Nat × Nat :=
  let w := (s.otp.get (0x200_0010 + 2 * p)).toNat
  (w % 65536, w / 65536, (s.otp.get (0x200_0011 + 2 * p)).toNat % 256)

/-- D3HOT_ENTRY (R456). -/
def execD3hotEntry (p : Fin 2) (s : State) : Host.Outcome State Fault Refusal :=
  s.after (if s.linkUp p.val then s.sb F.HOST_p_STAT_D3HOT 0 p.val true else s)

/-- CONFIGURATION_REQUEST (R455, R456, R389): a configuration write gives Bus Master Enable, CXL.cache Enable and ATS
Enable, where the function has them, and may return it to D0. -/
def execConfigurationRequest (p : Fin 2) (bme cache ats d0 : Bool) (s : State) : Host.Outcome State Fault Refusal :=
  s.after <|
    if s.linkUp p.val then
      let s1 := (s.sb F.HOST_p_STAT_BME 0 p.val bme).sb F.HOST_p_STAT_CACHE_EN 0 p.val (cache && isCxl s p.val)
      let s2 := s1.sb F.HOST_p_STAT_ATS_EN 0 p.val (ats && otpAts s p.val)
      choosePort (if d0 then s2.sb F.HOST_p_STAT_D3HOT 0 p.val false else s2)
    else s

/-- A word as four bytes, lowest address first. -/
def wordBytes (w : Word) : List (BitVec 8) := [w.setWidth 8, (w >>> 8).setWidth 8, (w >>> 16).setWidth 8, (w >>> 24).setWidth 8]

/-- A word of the pending-bit array of a port. -/
def pbaWord (s : State) (p w : Nat) : Word :=
  BitVec.ofNat 32 ((List.range 32).foldl (fun n b => if s.host.pba.get (p * 64 + 32 * w + b) = 0 then n else n + 2 ^ b) 0)

/-- A write of an MSI-X table word: only the mask bit of a vector control word is writable, and a vector that is unmasked
while pending is sent. -/
def msixWrite (s : State) (p n : Nat) (v : Word) : State :=
  let w := if n % 4 = 3 then v &&& 1 else v
  let s1 := { s with host := { s.host with msix := s.host.msix.set (p * 1024 + n) w } }
  let k := p * 64 + n / 4
  if n % 4 = 3 && w = 0 && s.host.pba.get k != 0 then
    ({ s1 with host := { s1.host with pba := s1.host.pba.set k 0 } }).msix p (n / 4)
  else s1

/-- BAR2_REQUEST (R451, R452, R456): `n` is the word of BAR2; no word to write: a read. -/
def execBar2Request (p : Fin 2) (n : Fin 4096) (w : Option Word) (pasid : Bool) (s : State) :
    Host.Outcome State Fault Refusal :=
  let table := decide (n.val < 256)
  let pba := decide (2048 ≤ n.val) && decide (n.val < 2050)
  s.after <|
    if !s.linkUp p.val then s
    else match w with
      | none =>
        if pasid || s.gb F.HOST_p_STAT_D3HOT 0 p.val || !(table || pba) then s.emit (.completion p.val 1 [])
        else if table then s.emit (.completion p.val 0 (wordBytes (s.host.msix.get (p.val * 1024 + n.val))))
        else s.emit (.completion p.val 0 (wordBytes (pbaWord s p.val (n.val - 2048))))
      | some v => if pasid || s.gb F.HOST_p_STAT_D3HOT 0 p.val || !table then s else msixWrite s p.val n.val v

/-- HOST_UNCORR (R459): `fatal` is trigger 0x3 of R415. -/
def execHostUncorr (p : Fin 2) (status : Word) (fatal : Bool) (s : State) : Host.Outcome State Fault Refusal :=
  let s1 := (s.sb F.HOST_p_EVT_UNCORR 0 p.val true).bump F.HOST_p_ERRCNT_UNCORR 0 p.val
  let x := s.host.ports.get p.val
  s.after ((s1.setHost p.val { x with fatal := x.fatal || fatal }).raise (hostSrc p) 0x142
    (detailOf [(2, 1, p.val + 1), (3, 4, status.toNat)]))

/-- CORR_STORM_CHECK (R459): the port counted `n` correctable errors in the last second. -/
def execCorrStormCheck (p : Fin 2) (n : Nat) (s : State) : Host.Outcome State Fault Refusal :=
  let s1 := s.sf F.HOST_p_ERRCNT_CORR 0 p.val (min 0xFFFF (s.gf F.HOST_p_ERRCNT_CORR 0 p.val + n))
  s.after <|
    if 1000 < n then
      (s1.sb F.HOST_p_EVT_CORR_STORM 0 p.val true).raise (hostSrc p) 0x143 (detailOf [(2, 1, p.val + 1), (3, 4, n)])
    else s1

/-! ### The sideband target's CCCs (R466, R467) -/

def State.setSb (s : State) (x : SbS) : State := { s with host := { s.host with sb := x } }

/-- The dynamic address; none: released. -/
def setDa (s : State) (da : Option Nat) : State :=
  (s.sb F.HOST_SB_STAT_DA_VALID 0 0 da.isSome).sf F.HOST_SB_STAT_DA 0 0 (da.getD 0)

/-- The target runs from Loading on (R487). -/
def sbRuns (s : State) (f : State → State) : Host.Outcome State Fault Refusal := s.after (if hubOn s then f s else s)

/-- Bytes of a number, most significant first. -/
def bigEndian (n v : Nat) : List (BitVec 8) := (List.range n).reverse.map fun i => BitVec.ofNat 8 (v / 2 ^ (8 * i))

/-- ENEC: bit 0 of the event byte enables In-Band Interrupts. -/
def execEnec (ev : Fin 16) (s : State) : Host.Outcome State Fault Refusal :=
  sbRuns s fun s => if ev.val.testBit 0 then s.setSb { s.host.sb with events := true } else s

/-- DISEC. -/
def execDisec (ev : Fin 16) (s : State) : Host.Outcome State Fault Refusal :=
  sbRuns s fun s => if ev.val.testBit 0 then s.setSb { s.host.sb with events := false } else s

/-- RSTDAA. -/
def execRstdaa (s : State) : Host.Outcome State Fault Refusal := sbRuns s fun s => setDa s none

/-- ENTDAA: a target without a dynamic address takes the one it is given. -/
def execEntdaa (da : Fin 128) (s : State) : Host.Outcome State Fault Refusal :=
  sbRuns s fun s => if s.gb F.HOST_SB_STAT_DA_VALID 0 then s else setDa s (some da.val)

/-- SETDASA: addressed by the static address. -/
def execSetdasa (sa da : Fin 128) (s : State) : Host.Outcome State Fault Refusal :=
  sbRuns s fun s =>
    if s.gb F.HOST_SB_STAT_DA_VALID 0 || s.gf F.HOST_SB_CFG_SA 0 != sa.val then s else setDa s (some da.val)

/-- SETNEWDA. -/
def execSetnewda (da : Fin 128) (s : State) : Host.Outcome State Fault Refusal :=
  sbRuns s fun s => if s.gb F.HOST_SB_STAT_DA_VALID 0 then setDa s (some da.val) else s

def execGetpid (s : State) : Host.Outcome State Fault Refusal := sbRuns s fun s => s.emit (.sideband (bigEndian 6 (otpPid s)))
def execGetbcr (s : State) : Host.Outcome State Fault Refusal := sbRuns s fun s => s.emit (.sideband (bigEndian 1 (otpBcr s)))
def execGetdcr (s : State) : Host.Outcome State Fault Refusal := sbRuns s fun s => s.emit (.sideband (bigEndian 1 (otpDcr s)))

/-- GETSTATUS: two bytes that no rule states. -/
def execGetstatus (s : State) : Host.Outcome State Fault Refusal :=
  sbRuns s fun s => s.free.2.emit (.sideband (bigEndian 2 s.free.1.toNat))

def execSetmwl (n : Fin 65536) (s : State) : Host.Outcome State Fault Refusal :=
  sbRuns s fun s => s.setSb { s.host.sb with mwl := n.val }
def execSetmrl (n : Fin 65536) (s : State) : Host.Outcome State Fault Refusal :=
  sbRuns s fun s => s.setSb { s.host.sb with mrl := n.val }
def execGetmwl (s : State) : Host.Outcome State Fault Refusal := sbRuns s fun s => s.emit (.sideband (bigEndian 2 s.host.sb.mwl))
def execGetmrl (s : State) : Host.Outcome State Fault Refusal := sbRuns s fun s => s.emit (.sideband (bigEndian 2 s.host.sb.mrl))

/-- RSTACT (R466): the target alone is reset; action 0 resets nothing. -/
def execRstact (act : Fin 256) (s : State) : Host.Outcome State Fault Refusal :=
  sbRuns s fun s => if act.val = 0 then s else setDa (emptyReader (s.setSb SbS.reset) Reader.sb.code) none

/-- SMBUS_TIMEOUT (R467): the bus interface forgets the transaction in hand. -/
def execSmbusTimeout (s : State) : Host.Outcome State Fault Refusal :=
  sbRuns s fun s => s.setSb { s.host.sb with addr := 0, result := none }

/-! ### The TAP (R470, R471) -/

/-- The TAP runs while VDD_HUB is present (R470). -/
def tapOn (s : State) : Bool := match s.sett.phase with | .off => false | .dormant => false | _ => true

/-- An instruction becomes the TAP's. -/
def tapLoad (s : State) (i : TapInstr) : State :=
  if tapOn s then { s with host := { s.host with jtag := { s.host.jtag with instr := i } } } else s

/-- IDCODE's word (R470); bit 0 is 1 under IEEE 1149.1. -/
def idcodeWord (s : State) : Nat :=
  s.gf F.HUB_ID_REV 0 % 16 * 2 ^ 28 + s.gf F.HUB_ID_PART 0 * 2 ^ 12 + otpManufacturer s * 2 + 1

def execBypass (s : State) : Host.Outcome State Fault Refusal := s.after (tapLoad s .bypass)
def execIdcode (s : State) : Host.Outcome State Fault Refusal :=
  s.after (if tapOn s then (tapLoad s .idcode).emit (.jtag (BitVec.ofNat 66 (idcodeWord s))) else s)

/-- SAMPLE_PRELOAD: output values shifted in, by ball: 0 to 191 the pins, 1024 + 16 r + c the PGO balls (log entry 20); a
ball that none is shifted in for is not driven. -/
def execSamplePreload (vals : List (Nat × Bool)) (s : State) : Host.Outcome State Fault Refusal :=
  let s1 := tapLoad s .sample
  let t := vals.foldl (fun t c => t.set c.1 (if c.2 then 2 else 1)) s1.host.jtag.bscan
  s.after (if tapOn s then { s1 with host := { s1.host with jtag := { s1.host.jtag with bscan := t } } } else s)

def execExtest (s : State) : Host.Outcome State Fault Refusal := s.after (tapLoad s .extest)
def execClamp (s : State) : Host.Outcome State Fault Refusal := s.after (tapLoad s .clamp)
def execHighz (s : State) : Host.Outcome State Fault Refusal := s.after (tapLoad s .highz)
def execExtestPulse (s : State) : Host.Outcome State Fault Refusal := s.after (tapLoad s .extestPulse)
def execExtestTrain (s : State) : Host.Outcome State Fault Refusal := s.after (tapLoad s .extestTrain)

/-- Some pulse-generator channel of the package has EN = 1. -/
def someEnabled (s : State) : Bool :=
  allRgn.any fun r => allCh.any fun c => s.gb F.PG_CHcc_CFG_EN (pgB r.val) c.val

/-- PGO balls take boundary-scan values (R471). -/
def scanTakesPgo (s : State) : Bool :=
  (match s.host.jtag.instr with | .extest => true | .clamp => true | .highz => true | _ => false)
    && s.gb F.PIN_CTRL_BSCAN_PWM 0 && !someEnabled s

/-- The level at a PGO ball, under boundary scan too (R471, R223). -/
def pgoBall (s : State) (r c : Nat) : Lvl :=
  if scanTakesPgo s then
    match scanned s (1024 + 16 * r + c) none with | some true => .high | some false => .low | none => .float
  else ballOf s r c

end Sys2Proof.Machine
end

