-- ==== Sys2Proof/Machine/Comparators.lean ====
section
/-!
DEFINITION. Window comparators: crossings, latches, blanking, routes, self-check and the spare (05_window_comparators.md,
R168 to R198). Trip inputs stand in Pwm.lean.
-/

namespace Sys2Proof.Machine

/-- A refused write in a comparator block (R172). -/
def wcReject (s : State) (b : Nat) : State := s.reject F.WC_STATUS_REJECT F.WC_STATUS_REJ_CNT b

/-- A WC_ write: refused under R29 and counted in WC_STATUS too where the writer is not the owner (R198); it may start the
clock (R65). -/
def wcOwner (s : State) (a : Reader) (r k : Nat) (f : State → State) : State :=
  if s.mayWrite a r then s.started (f s) r else s.byPath a (rgnBase r) (wcReject (s.ownerReject r) (acB r k))

/-- The check or substitution of a cluster runs (WC_CHK_STAT.STATE). -/
def checking (s : State) (r k : Nat) : Bool := s.gf F.WC_CHK_STAT_STATE (acB r k) != 0

/-- Logical comparator m is the target of a running check (R194). -/
def isTarget (s : State) (r k m : Nat) : Bool := checking s r k && decide ((s.cmp r k).cmp = m)

/-! ### RAW and the latch (R170, R171, R177 to R179) -/

/-- RAW of a state of the two halves (R171). -/
def rawOf (cond halves : Nat) : Bool :=
  match cond with
  | 0 => halves.testBit 0
  | 1 => halves.testBit 1
  | 2 => halves != 0
  | _ => halves = 0

/-- A comparator whose RAW has taken a value: RAW sets the latch outside a blanking window (R177, R179); a transparent
latch follows RAW down. -/
def HalfS.follow (h : HalfS) (latchMode : Nat) (blank : Bool) : HalfS :=
  if h.raw then { h with latch := h.latch || !blank }
  else { h with latch := h.latch && latchMode != 0 }

/-- A clear empties a latch only if RAW is 0 (R178). -/
def HalfS.clear (h : HalfS) : HalfS := { h with latch := h.latch && h.raw }

/-- Some comparator of the package drives the Safe request (R183). -/
def safeRequested (s : State) : Bool :=
  (List.range 16).any fun r => (List.range 12).any fun k => s.gb F.WC_STATUS_SAFE_REQ (acB r k)

/-- The Safe request as a source of Safe hold follows the comparators (R183, R500). -/
def syncSafe (s : State) : State :=
  let now := safeRequested s
  if now && !s.sett.safeCond.testBit 2 then safeOn s 2 true true
  else if !now && s.sett.safeCond.testBit 2 then s.safeRelease 2
  else s

/-- RAW of a logical comparator: that of the comparator that drives its destinations. -/
def rawSeen (s : State) (r k m : Nat) : Bool :=
  let x := s.cmp r k
  if x.tgtCut && decide (x.cmp = m) then x.spare.raw else (x.tgt.get m).raw

/-- WC_CMPm_STAT and SAFE_REQ of a cluster as its comparators stand, then every destination (R180 to R184). -/
def syncComp (s : State) (r : Rgn) (k : Nat) : State :=
  let b := acB r.val k
  let put := fun (s : State) (m : Nat) =>
    (s.sb F.WC_CMPm_STAT_RAW b m (rawSeen s r.val k m)).sb F.WC_CMPm_STAT_LATCHED b m (compOut s r.val k m)
  let s1 := put (put s 0) 1
  let s2 := s1.sb F.WC_STATUS_SAFE_REQ b 0
    ([0, 1].any fun m => compOut s1 r.val k m && s1.gb F.WC_CMPm_ROUTE_SAFE_EN b m)
  refreshTrips (syncSafe s2) r

/-- The comparator has a destination that trips (R176, R185): a trip route, a die trip line or SAFE_EN. -/
def guards (s : State) (b m : Nat) : Bool :=
  s.rd R.WC_CMPm_TRIP b m != 0 || s.gb F.WC_CMPm_ROUTE_DTL_EN b m || s.gb F.WC_CMPm_ROUTE_SAFE_EN b m

/-- The WC_TRIP record of a latch set (R185, R354), ALARM or TELEMETRY on the event flow (R357). -/
def tripRecord (s : State) (r : Rgn) (k : Fin 12) (m : Fin 2) (halves : Nat) : State :=
  let b := acB r.val k.val
  let cond := s.gf F.WC_CMPm_CFG_COND b m.val
  let items := [(2, 1, k.val), (3, 1, m.val), (4, 1, cond), (5, 1, if cond = 3 then 0 else halves)]
  let x := srcRgn r (unitWc k m)
  if guards s b m.val then s.raiseT x 4 0x30 0 (detailOf items)
  else s.produce (mkItem s x 4 2 (eventFlow s) 0 (payloadOf ((0, 2, 0x30) :: (12, 4, s.now.lo.toNat) :: items)))

/-- What a latch set does beside its level: SETS, the record, the wake request, the event line (R180, R185, R195). -/
def latchSet (s : State) (r : Rgn) (k : Fin 12) (m : Fin 2) (halves : Nat) : State :=
  let b := acB r.val k.val
  let s1 := s.bump F.WC_CMPm_CNT_SETS b m.val
  let s2 := if s1.gb F.WC_CMPm_ROUTE_REC_EN b m.val then tripRecord s1 r k m halves else s1
  let s3 := if s2.gb F.WC_CMPm_ROUTE_WAKE_EN b m.val then s2.wake r.val else s2
  if s3.gb F.WC_CMPm_ROUTE_EVT_EN b m.val then s3.eventPend r.val (2 * k.val + m.val) else s3

/-- The halves of the comparator whose latch made the latched output rise: the target's if its own latch did and it is
connected, else the spare's (R185, R190). -/
def setHalves (old new : CmpS) (m : Nat) : Nat :=
  let mine := decide (new.cmp = m)
  let byTarget := (new.tgt.get m).latch && !(new.tgtCut && mine) && !((old.tgt.get m).latch && !(old.tgtCut && decide (old.cmp = m)))
  if byTarget then (new.tgt.get m).halves else new.spare.halves

/-- A change of a cluster's comparators with everything that follows from the latched output of comparator m. -/
def compChange (s : State) (r : Rgn) (k : Fin 12) (m : Fin 2) (x : CmpS) : State :=
  let s1 := s.setCmp r.val k.val x
  let s2 := if compOut s1 r.val k.val m.val && !compOut s r.val k.val m.val then
      latchSet s1 r k m (setHalves (s.cmp r.val k.val) x m.val)
    else s1
  syncComp s2 r k.val

/-- A comparator is on: its MODE is not Off, and its region does not still wait for the trim of its reference after a reset
(R196). -/
def compOn (s : State) (r k m : Nat) : Bool :=
  s.gf F.WC_CMPm_CFG_MODE (acB r k) m != 0 && !(s.gb F.RGN_STAT_RESET (rgB r) && (s.rgnS r).trimming) && refRuns s

/-- A comparator's input is at its source: the target's but for step 4, the spare's from set-up on but for its own test and
once it has been powered off (R188, R192, R193). -/
def watching (s : State) (r k m : Nat) (spare : Bool) : Bool :=
  let st := s.gf F.WC_CHK_STAT_STATE (acB r k)
  compOn s r k m
    && (if spare then isTarget s r k m && st != 5 && !(st = 7 && !(s.cmp r k).sub) else !(isTarget s r k m && st = 4))

/-! ### Thresholds and halves (R169, R170) -/

/-- How far a half's trim stands from the one that cancels its own offset, in V: 0.1 mV a step; the spare runs with its own
trim (R169, R188). -/
def trimShift (s : State) (r k m : Nat) (f : Fld) (spare : Bool) : Volt :=
  if spare then 0
  else
    let own := s.otp.get (R.WC_CMPm_TRIM.addr (acB r k) (s.gf F.WC_CMPm_STAT_PHYS (acB r k) m))
    ((signedOf 8 (s.gf f (acB r k) m) - signedOf 8 (fOf own f) : Int) : Rat) / 10000

/-- The halves of a comparator at an input level, with the hysteresis of R170: `hi` and `lo` are the effective thresholds. -/
def halvesAt (hi lo h v : Volt) (old : Nat) : Nat :=
  let upper := if hi < v then true else if v < hi - h then false else old.testBit 0
  let lower := if v < lo then true else if lo + h < v then false else old.testBit 1
  (if upper then 1 else 0) + (if lower then 2 else 0)

/-- The level at a comparator's input (R81, R168). -/
def compInput (s : State) (e : Levels) (r k m : Nat) : Volt := inputLevel s e r k (s.gf F.WC_CMPm_CFG_INP (acB r k) m)

/-- The halves that a comparator, or the spare that shadows it, takes with what is present (R169, R170). -/
def newHalves (s : State) (e : Levels) (r k m : Nat) (spare : Bool) : Nat :=
  let x := s.cmp r k
  halvesAt (thrHi s r k m + trimShift s r k m F.WC_CMPm_TRIM_OFS_HI spare)
    (thrLo s r k m + trimShift s r k m F.WC_CMPm_TRIM_OFS_LO spare) (hystOf s r k m) (compInput s e r k m)
    (if spare then x.spare else x.tgt.get m).halves

/-- A comparator that takes a state of its halves: RAW follows, and the latch (R171, R177, R179). -/
def HalfS.take (h : HalfS) (cond latchMode halves : Nat) (blank : Bool) : HalfS :=
  ({ h with halves := halves, raw := rawOf cond halves, live := true }).follow latchMode blank

/-- The halves of a comparator (or of the spare that shadows it) take a new state, and with them RAW and the latch; `rise`
says that RAW does not fall, else that it does not rise. -/
def halvesChange (s : State) (r : Rgn) (k : Fin 12) (m : Fin 2) (spare : Bool) (halves : Nat) (rise : Bool) : State :=
  let b := acB r.val k.val
  let x := s.cmp r.val k.val
  let h := if spare then x.spare else x.tgt.get m.val
  let raw := rawOf (s.gf F.WC_CMPm_CFG_COND b m.val) halves
  if watching s r.val k.val m.val spare && (decide (raw = rise) || decide (raw = h.raw)) then
    let h1 := h.take (s.gf F.WC_CMPm_CFG_COND b m.val) (s.gf F.WC_CMPm_CFG_LATCH b m.val) halves (x.blank.get m.val != 0)
    compChange s r k m (if spare then { x with spare := h1 } else { x with tgt := x.tgt.set m.val h1 })
  else s

/-- COMPARATOR_CROSSING (R169 to R171, R177): the input crosses a threshold, `sub` counts into the present tick, and RAW
rises, or stays while a half changes. -/
def execComparatorCrossing (r : Rgn) (k : Fin 12) (m : Fin 2) (spare : Bool) (e : Levels) (sub : Fin 40) (s : State) :
    Host.Outcome State Fault Refusal :=
  s.after (s.atCount sub fun t => halvesChange t r k m spare (newHalves s e r.val k.val m.val spare) true)

/-- RAW_DEASSERT (R169 to R171, R177): the input crosses a threshold and RAW falls, or stays while a half changes. -/
def execRawDeassert (r : Rgn) (k : Fin 12) (m : Fin 2) (spare : Bool) (e : Levels) (s : State) :
    Host.Outcome State Fault Refusal :=
  s.after (halvesChange s r k m spare (newHalves s e r.val k.val m.val spare) false)

/-- Both latches of a logical comparator cleared where their RAW is 0 (R178, R190). -/
def clearLatch (s : State) (r : Rgn) (k : Fin 12) (m : Fin 2) : State :=
  let x := s.cmp r.val k.val
  let x1 := { x with tgt := x.tgt.set m.val (x.tgt.get m.val).clear }
  compChange s r k m (if isTarget s r.val k.val m.val then { x1 with spare := x1.spare.clear } else x1)

/-- A write of WC_CMPm_STAT (R177, R178): a software clear in LATCH 0b01 and 0b11. While a check has the comparator as its
target, a clear acts on both latches (R190) and any other write is refused (R194; log entry 206). -/
def wcStatWrite (s : State) (a : Reader) (r : Rgn) (k : Fin 12) (m : Fin 2) (v : Word) : State :=
  wcOwner s a r.val k.val fun s =>
    if fOf v F.WC_CMPm_STAT_LATCHED = 1 ∧ (s.gf F.WC_CMPm_CFG_LATCH (acB r.val k.val) m.val).testBit 0 then
      clearLatch s r k m
    else if isTarget s r.val k.val m.val then wcReject s (acB r.val k.val)
    else s

/-- A write of a register of the comparator that has no field to write: refused for the target of a check (R194). -/
def wcPlainWrite (s : State) (a : Reader) (r k m : Nat) (plain : State → State) : State :=
  wcOwner s a r k fun s => if isTarget s r k m then wcReject s (acB r k) else plain s

/-- LATCH_CLEAR. -/
def execLatchClear (a : Reader) (r : Rgn) (k : Fin 12) (m : Fin 2) (s : State) : Host.Outcome State Fault Refusal :=
  s.after (wcStatWrite s a r k m 2)

/-- The comparators of a region: cluster and index. -/
def comparators : List (Fin 12 × Fin 2) := ((List.finRange 12).map fun k => [(k, 0), (k, 1)]).flatten

/-- CLEAR_POINT (R177, R218): latches in LATCH 0b10 and 0b11 that name the channel. -/
def execClearPoint (r : Rgn) (c : Fin 16) (s : State) : Host.Outcome State Fault Refusal :=
  s.after <| comparators.foldl (fun s p =>
    let b := acB r.val p.1.val
    if (s.gf F.WC_CMPm_CFG_LATCH b p.2.val).testBit 1 ∧ s.gf F.WC_CMPm_CFG_CLR_CH b p.2.val = c.val then
      clearLatch s r p.1 p.2
    else s) s

/-- BLANKING_END (R179): the window, BLANK × 20 fine steps from its rising edge, has ended by this count; if RAW is still 1, the
latch sets now. -/
def execBlankingEnd (r : Rgn) (k : Fin 12) (m : Fin 2) (sub : Fin 40) (s : State) : Host.Outcome State Fault Refusal :=
  let x := s.cmp r.val k.val
  let lm := s.gf F.WC_CMPm_CFG_LATCH (acB r.val k.val) m.val
  s.after <|
    if x.blank.get m.val = 0 ∨ tickNow s + 3 * sub.val + 2 < x.blank.get m.val then s
    else
      let x1 := { x with blank := x.blank.set m.val 0, tgt := x.tgt.set m.val ((x.tgt.get m.val).follow lm false) }
      s.atCount sub fun s =>
        compChange s r k m (if isTarget s r.val k.val m.val then { x1 with spare := x1.spare.follow lm false } else x1)

/-! ### Register writes (R169, R172, R175, R176, R184, R194) -/

/-- (HI − LO) × 0.390625 mV is at or below H while COND uses both halves (R172). -/
def windowBad (cfg thr : Word) : Bool :=
  decide (2 ≤ fOf cfg F.WC_CMPm_CFG_COND
    ∧ ((fOf thr F.WC_CMPm_THR_HI : Int) - fOf thr F.WC_CMPm_THR_LO) * 390625 ≤ hystNv (fOf cfg F.WC_CMPm_CFG_HYST))

/-- A comparator after its configuration took a new word (R171, R174, R175, R177): an Off comparator shows RAW 0, and one that
powers up shows 0 until its halves have been compared at the end of settling (R196); a change of COND forms RAW anew from the
halves; a change of MODE alone leaves halves, RAW and latch; a transparent latch follows RAW. -/
def HalfS.reconf (h : HalfS) (old w : Word) (blank : Bool) : HalfS :=
  if fOf w F.WC_CMPm_CFG_MODE = 0 ∨ fOf old F.WC_CMPm_CFG_MODE = 0 then { h with halves := 0, raw := false, live := false }
  else if h.live then
    ({ h with raw := rawOf (fOf w F.WC_CMPm_CFG_COND) h.halves }).follow (fOf w F.WC_CMPm_CFG_LATCH) blank
  else h

/-- The word that a write of v would leave in WC_CMPm_CFG (R13, R81). -/
def wcCfgWord (s : State) (r k m : Nat) (v : Word) : Word :=
  keepSource r F.WC_CMPm_CFG_INP (s.rd R.WC_CMPm_CFG (acB r k) m) (s.merged R.WC_CMPm_CFG (acB r k) m v)

/-- A write of WC_CMPm_CFG. -/
def wcCfgWrite (s : State) (a : Reader) (r : Rgn) (k : Fin 12) (m : Fin 2) (v : Word) : State :=
  wcOwner s a r.val k.val fun s =>
    let b := acB r.val k.val
    let old := s.rd R.WC_CMPm_CFG b m.val
    let w := wcCfgWord s r.val k.val m.val v
    let off := fOf w F.WC_CMPm_CFG_MODE = 0 && fOf old F.WC_CMPm_CFG_MODE != 0
    if isTarget s r.val k.val m.val || windowBad w (s.rd R.WC_CMPm_THR b m.val) || (off && guards s b m.val) then
      wcReject s b
    else
      let s1 := (s.wr R.WC_CMPm_CFG b m.val w).sb F.WC_CMPm_STAT_ACTIVE b m.val (fOf w F.WC_CMPm_CFG_MODE != 0)
      let x := s1.cmp r.val k.val
      compChange s1 r k m { x with tgt := x.tgt.set m.val ((x.tgt.get m.val).reconf old w (x.blank.get m.val != 0)) }

/-- WC_CMP_CFG_WRITE. -/
def execWcCmpCfgWrite (a : Reader) (r : Rgn) (k : Fin 12) (m : Fin 2) (v : Word) (s : State) :
    Host.Outcome State Fault Refusal := s.after (wcCfgWrite s a r k m v)

/-- A write of WC_CMPm_THR: HI and LO together (R169). -/
def wcThrWrite (s : State) (a : Reader) (r : Rgn) (k : Fin 12) (m : Fin 2) (v : Word) : State :=
  wcOwner s a r.val k.val fun s =>
    let b := acB r.val k.val
    let w := s.merged R.WC_CMPm_THR b m.val v
    if isTarget s r.val k.val m.val || windowBad (s.rd R.WC_CMPm_CFG b m.val) w then wcReject s b
    else s.wr R.WC_CMPm_THR b m.val w

/-- WC_CMP_THR_WRITE. -/
def execWcCmpThrWrite (a : Reader) (r : Rgn) (k : Fin 12) (m : Fin 2) (v : Word) (s : State) :
    Host.Outcome State Fault Refusal := s.after (wcThrWrite s a r k m v)

/-- A write of WC_CMPm_TRIP or WC_CMPm_ROUTE: routes added and removed take effect at once (R184). -/
def wcRouteWrite (s : State) (a : Reader) (r : Rgn) (k : Fin 12) (m : Fin 2) (trip : Bool) (v : Word) : State :=
  wcOwner s a r.val k.val fun s =>
    let b := acB r.val k.val
    if isTarget s r.val k.val m.val then wcReject s b
    else
      let s1 := s.plainWrite (if trip then R.WC_CMPm_TRIP else R.WC_CMPm_ROUTE) b m.val v
      let x := s1.cmp r.val k.val
      let s2 := if s1.gf F.WC_CMPm_ROUTE_BLANK b m.val = 0 ∧ x.blank.get m.val ≠ 0 then
          let lm := s1.gf F.WC_CMPm_CFG_LATCH b m.val
          compChange s1 r k m { x with blank := x.blank.set m.val 0, tgt := x.tgt.set m.val ((x.tgt.get m.val).follow lm false) }
        else s1
      syncComp s2 r k.val

/-- WC_ROUTE_WRITE: of WC_CMPm_TRIP (true) or WC_CMPm_ROUTE (false). -/
def execWcRouteWrite (a : Reader) (r : Rgn) (k : Fin 12) (m : Fin 2) (trip : Bool) (v : Word) (s : State) :
    Host.Outcome State Fault Refusal := s.after (wcRouteWrite s a r k m trip v)

/-- A write of WC_CMPm_TRIM (R169, R194). -/
def wcTrimWrite (s : State) (a : Reader) (r k m : Nat) (v : Word) : State :=
  wcOwner s a r k fun s =>
    if isTarget s r k m then wcReject s (acB r k) else s.plainWrite R.WC_CMPm_TRIM (acB r k) m v

/-! ### Self-check and substitution (R186 to R194) -/

/-- Settling S and agreement window W of a mode, in units of 10 ns (R189). -/
def settle10 (mode : Nat) : Nat := match mode with | 4 => 10 | 3 => 20 | 2 => 500 | _ => 10000
def agree10 (mode : Nat) : Nat := match mode with | 4 => 100 | 3 => 100 | 2 => 2000 | _ => 100000

/-- RESULT and CAUSE of a check. -/
def chkResult (s : State) (b result cause : Nat) : State :=
  (s.sf F.WC_CHK_STAT_RESULT b 0 result).sf F.WC_CHK_STAT_CAUSE b 0 cause

/-- The cause for which a start request is refused, 0: none (R187). -/
def chkRefusal (s : State) (r k m : Nat) : Nat :=
  let b := acB r k
  if !s.gb F.WC_SPARE_STAT_FREE b then 1
  else if checking s r k then 2
  else if s.gf F.RGN_STAT_OWNER (rgB r) = 0 then 3
  else if s.gf F.WC_CMPm_CFG_MODE b m = 0 then 4
  else 0

/-- Step `st` of a check begins, of a duration in units of 10 ns; it waits while a Torpor covers the cluster (R194). -/
def chkGo (s : State) (r k st dur : Nat) : State :=
  (s.sf F.WC_CHK_STAT_STATE (acB r k) 0 st).setCmp r k { s.cmp r k with step10ns := dur, paused := pausing s r }

/-- The start of a check or substitution (R187, R188). -/
def chkStart (s : State) (r k m : Nat) (sub : Bool) : State :=
  let b := acB r k
  match chkRefusal s r k m with
  | 0 =>
    let x := s.cmp r k
    let s1 := s.setCmp r k { x with
      spare := HalfS.reset, spOut := false, tgtCut := false, cmp := m, sub := sub, disagree := false, tested := false,
      restored := false, joined := false, paused := false }
    chkGo ((chkResult s1 b 0 0).sf F.WC_SPARE_STAT_SHADOW b 0 (2 + m)) r k 1
      (100 + settle10 (s.gf F.WC_CMPm_CFG_MODE b m))
  | c => chkResult s b 3 c

/-- A write of WC_CHK (R16, R186, R193): SUB and CMP are kept; a write of 1 to START, while it is 0, is the request. -/
def wcChkWrite (s : State) (a : Reader) (r k : Nat) (v : Word) : State :=
  wcOwner s a r k fun s =>
    let b := acB r k
    let s1 := (s.sf F.WC_CHK_SUB b 0 (fOf v F.WC_CHK_SUB)).sf F.WC_CHK_CMP b 0 (fOf v F.WC_CHK_CMP)
    if fOf v F.WC_CHK_START = 0 ∨ s.gb F.WC_CHK_START b then s1
    else
      let s2 := chkStart s1 r k (fOf v F.WC_CHK_CMP) (fOf v F.WC_CHK_SUB = 1)
      if checking s2 r k && !checking s1 r k then s2.sb F.WC_CHK_START b 0 true else s2

/-- SELF_CHECK (R186). -/
def execSelfCheck (a : Reader) (r : Rgn) (k : Fin 12) (m : Fin 2) (s : State) : Host.Outcome State Fault Refusal :=
  s.after (wcChkWrite s a r.val k.val (BitVec.ofNat 32 (m.val * 2 + 1)))

/-- COMPARATOR_SUBSTITUTION (R193): by the owner, or by the wear logic with AUTO_SUB. -/
def execComparatorSubstitution (start : Starter) (r : Rgn) (k : Fin 12) (m : Fin 2) (s : State) :
    Host.Outcome State Fault Refusal :=
  s.after <|
    match start with
    | .by a => wcChkWrite s a r.val k.val (BitVec.ofNat 32 (4 + m.val * 2 + 1))
    | .wear => if s.gb F.WC_CTRL_AUTO_SUB (acB r.val k.val) then chkStart s r.val k.val m.val true else s

/-- The comparator that a periodic check takes: the next in turn that is active, or none (R186). -/
def periodicTarget (s : State) (r k : Nat) : Option Nat :=
  let m := (s.cmp r k).perNext
  let active := fun m => s.gf F.WC_CMPm_CFG_MODE (acB r k) m != 0
  if active m then some m else if active (1 - m) then some (1 - m) else none

/-- PERIODIC_CHECK (R186): a check that would be refused is skipped and counted. -/
def execPeriodicCheck (r : Rgn) (k : Fin 12) (s : State) : Host.Outcome State Fault Refusal :=
  let b := acB r.val k.val
  s.after <|
    if s.gf F.WC_CTRL_CHK_PERIOD b = 0 then s
    else match periodicTarget s r.val k.val with
    | none => s
    | some m =>
      let s1 := s.setCmp r.val k.val { s.cmp r.val k.val with perNext := 1 - m }
      if chkRefusal s1 r.val k.val m = 0 then chkStart s1 r.val k.val m false
      else s1.bump F.WC_CHK_STAT_SKIPS b

/-- The check ends: idle, the spare off, START reads 0. -/
def chkEnd (s : State) (r k : Nat) : State :=
  let b := acB r k
  (((s.sf F.WC_CHK_STAT_STATE b 0 0).sf F.WC_SPARE_STAT_SHADOW b 0 0).sb F.WC_CHK_START b 0 false).setCmp r k
    { s.cmp r k with spare := HalfS.reset, spOut := false, tgtCut := false, joined := false, paused := false }

/-- The spare serves the logical comparator from now on (R191, R193): PHYS reads 2 with its own trim, the old comparator
is off and consumed, CHK_FAIL sets, WC_FAIL is raised. -/
def chkReplace (s : State) (r : Rgn) (k : Fin 12) (m : Fin 2) (bad cause : Nat) : State :=
  let b := acB r.val k.val
  let x := s.cmp r.val k.val
  let old := s.gf F.WC_CMPm_STAT_PHYS b m.val
  let s1 := chkEnd (chkResult (s.setCmp r.val k.val { x with tgt := x.tgt.set m.val x.spare }) b 2 cause) r.val k.val
  let s2 := (s1.sf F.WC_CMPm_STAT_PHYS b m.val 2).wr R.WC_CMPm_TRIM b m.val (s.otp.get (R.WC_CMPm_TRIM.addr b 2))
  (((s2.sb F.WC_STATUS_CHK_FAIL b 0 true).raise (srcRgn r (unitWc k m)) 0x31
    (detailOf [(2, 1, k.val), (3, 1, m.val), (4, 1, old), (5, 1, bad)])).sb F.WC_SPARE_STAT_FREE b 0 false).useSpare 1
      r.val k.val cause

/-- The spare failed its own test (R192). -/
def chkSpareFail (s : State) (r : Rgn) (k : Fin 12) (m : Fin 2) : State :=
  let b := acB r.val k.val
  let s1 := ((chkEnd (chkResult s b 3 6) r.val k.val).sb F.WC_SPARE_STAT_FAILED b 0 true).sb F.WC_SPARE_STAT_FREE b 0 false
  (s1.raise (srcRgn r (unitWc k m)) 0x32 (detailOf [(2, 1, k.val), (3, 1, m.val)])).useSpare 1 r.val k.val 6

/-- A latch preset to another's, with RAW setting it and a transparent one following RAW (R177, R188). -/
def HalfS.preset (h from_ : HalfS) (latchMode : Nat) (blank : Bool) : HalfS :=
  ({ h with latch := from_.latch }).follow latchMode blank

/-- The target's input is back at its source, at the level present: its halves and RAW are those of the signal (R188 step 5). -/
def backAtSource (s : State) (e : Levels) (r k m : Nat) (x : CmpS) : CmpS :=
  let h := x.tgt.get m
  let halves := newHalves s e r k m false
  { x with tgt := x.tgt.set m { h with halves := halves, raw := rawOf (s.gf F.WC_CMPm_CFG_COND (acB r k) m) halves, live := true } }

/-- The target's latch is preset to the spare's and its outputs connect, ORed with the spare's (R188 step 5). -/
def CmpS.join (x : CmpS) (latchMode : Nat) : CmpS :=
  { x with tgt := x.tgt.set x.cmp ((x.tgt.get x.cmp).preset x.spare latchMode (x.blank.get x.cmp != 0)), tgtCut := false }

/-- What step 4 finds of the four levels (R188): at each the halves must be those of R170, and swapped they must be
inverted; `obs` lists what the halves showed, before and after the swap. Answers the halves that failed, 1 upper and 2 lower. -/
def testFails (s : State) (r k m : Nat) (obs : List (Fin 4 × Fin 4)) : Nat :=
  let go := fun (p : Nat × Nat) (c : Volt × (Fin 4 × Fin 4)) =>
    let want := halvesAt (thrHi s r k m) (thrLo s r k m) (hystOf s r k m) c.1 p.1
    (want, p.2 ||| ((want ^^^ c.2.1.val) ||| (((want ^^^ c.2.2.val) ^^^ 3))))
  (((testLevels s r k m).zip obs).foldl go (0, 0)).2

/-- SELF_CHECK_STEP_END (R188 to R193): a step of a check or substitution ends, or within step 5 the agreement window, after
which both comparators drive for 10 ns. `disagree`: an agreement window found a disagreement; `obs`: what the halves under
test showed; `e`: what is present at the comparators' source. Where the spare is tested before step 5 (R192), the target
carries protection again from the level present at the end of step 4 on. -/
def execSelfCheckStepEnd (r : Rgn) (k : Fin 12) (disagree : Bool) (obs : List (Fin 4 × Fin 4)) (e : Levels) (s : State) :
    Host.Outcome State Fault Refusal :=
  let b := acB r.val k.val
  let x := s.cmp r.val k.val
  let m : Fin 2 := if x.cmp = 1 then 1 else 0
  let mode := s.gf F.WC_CMPm_CFG_MODE b m.val
  let lm := s.gf F.WC_CMPm_CFG_LATCH b m.val
  let put := fun x => compChange s r k m x
  let bad := testFails s r.val k.val m.val obs
  s.after <|
    if x.paused then s
    else match s.gf F.WC_CHK_STAT_STATE b with
    | 1 => chkGo s r.val k.val 2 (agree10 mode)
    | 2 =>
      chkGo (put { x with disagree := disagree, spOut := true,
                          spare := x.spare.preset (x.tgt.get m.val) lm (x.blank.get m.val != 0) }) r.val k.val 3 1
    | 3 =>
      if x.sub then chkGo (put { x with tgtCut := true }) r.val k.val 7 100
      else chkGo (put { x with tgtCut := true }) r.val k.val 4 (16 * settle10 mode)
    | 4 =>
      if bad ≠ 0 then syncComp (chkReplace s r k m bad 5) r k.val
      else
        let y := backAtSource s e r.val k.val m.val x
        if x.disagree then chkGo (put { y.join lm with spOut := false }) r.val k.val 5 (16 * settle10 mode)
        else chkGo (put y) r.val k.val 6 (settle10 mode + agree10 mode)
    | 5 =>
      if bad ≠ 0 then chkSpareFail s r k m
      else if x.restored then chkGo (put { x with tested := true }) r.val k.val 7 100
      else chkGo (put { x with tested := true }) r.val k.val 6 (settle10 mode + agree10 mode)
    | 6 =>
      if x.joined then
        let y := { x with spOut := false, joined := false }
        if x.disagree && !x.tested then chkGo (put y) r.val k.val 5 (16 * settle10 mode)
        else chkGo (put y) r.val k.val 7 100
      else
        let y := { (if x.spOut then x.join lm else x) with restored := true, joined := true, disagree := x.disagree || disagree }
        (put y).setCmp r.val k.val { (put y).cmp r.val k.val with step10ns := 1 }
    | 7 =>
      if x.sub then syncComp (chkReplace s r k m 0 0) r k.val
      else chkEnd (chkResult s b 1 (if x.disagree then 8 else 0)) r.val k.val
    | _ => s

/-- What a region reset does to the comparators of a region (R194, R197): a running check is abandoned; every comparator is
Off with its latch clear. -/
def wcRegionReset (s : State) (r : Nat) : State :=
  let s1 := (List.range 12).foldl (fun s k => if checking s r k then chkEnd (chkResult s (acB r k) 3 7) r k else s) s
  { s1 with comp := s1.comp.keep fun k => k / 12 != r }

end Sys2Proof.Machine
end

