-- ==== Sys2Proof/Machine/Reset.lean ====
section
/-!
DEFINITION. Resets shared by the modes and the configuration controller: registers back at their reset values with OTP,
IMG and ledger fields (the Reset columns, R498, R499, R344), the copies of the wear ledger (R519, R521), and a region's
reset, calibration and release (R494, R498).
-/

namespace Sys2Proof.Machine

/-! ### Registers at their reset values -/

/-- The bits of a region's registers that the wear ledger holds: the fields whose Reset column says "Ledger" (R519). -/
def ledgerMask (a : Nat) : Word :=
  if a < 0x100_0000 then 0
  else
    let o := (a - 0x100_0000) % 0x10_0000
    let q := o % 0x1000
    if o < 0xC000 then
      if (0x114 ≤ q ∧ q < 0x200 ∧ (q - 0x114) % 0x20 = 0) ∨ q = 0x414 ∨ q = 0x434 then 0xF0
      else if q = 0x200 ∨ q = 0x310 then 3
      else 0
    else if o < 0x3_0000 then (if q = 0x220 then 0x1F00 else if q = 0x304 then 2 else 0)
    else if o < 0x4_0000 then
      let p := o - 0x3_0000
      if p = 0x18 then 3 else if 0x1024 ≤ p ∧ p < 0x1424 ∧ (p - 0x1024) % 0x40 = 0 then 0x1F00_0000 else 0
    else if o < 0x5_0000 then (if o = 0x4_0038 then 3 else if o = 0x4_003C then 0xFFF else 0)
    else if o < 0x8_0000 then
      let p := o - 0x6_0000
      if p = 0x128 then 0x3FF else if 0x130 ≤ p ∧ p < 0x140 then 0xFF else if 0x200 ≤ p ∧ p < 0x240 then 0x1F0003 else 0
    else 0

/-- An offset in an analogue cluster's window of a trim register: its first register, and the field PHYS whose physical
unit the trim is loaded for. -/
def trimOf (q : Nat) : Option (Nat × Nat) :=
  if 0x110 ≤ q ∧ q < 0x210 ∧ (q - 0x110) % 0x20 = 0 then some (0x110, q + 4)
  else if q = 0x410 ∨ q = 0x430 then some (0x410, q + 4)
  else none

/-- The OTP fields of a register: a trim is that of the physical unit in service (R169, AC_CELLn_TRIM, WC_CMPm_TRIM). -/
def otpWord (s : State) (t : RegFile) (a : Nat) : Word :=
  let win := a - a % 0x1000
  if 0x100_0000 ≤ a ∧ (a - 0x100_0000) % 0x10_0000 < 0xC000 then
    match trimOf (a % 0x1000) with
    | some (first, stat) => s.otp.get (win + first + 0x20 * (t.get (win + stat)).bits 7 4)
    | none => 0
  else s.otp.get a

/-- The highest fast clock in MHz at a voltage code (R42). -/
def maxMhz (volt : Nat) : Nat := if volt < 5 then 200 else if volt < 10 then 400 else if volt < 15 then 500 else 600

def mhzOf (freq : Nat) : Nat := 100 + 25 * freq

/-- The word of RGN_VF at a reset: an image whose FREQ is unlisted or above R42's maximum for its VOLT gives the lowest
frequency, so that no setting breaches R41 (DESIGN CHOICE, log entry 218). -/
def legalVf (w : Word) : Word :=
  if fOf w F.RGN_VF_FREQ ≤ 20 ∧ mhzOf (fOf w F.RGN_VF_FREQ) ≤ maxMhz (fOf w F.RGN_VF_VOLT) then w
  else w.setBits F.RGN_VF_FREQ.hi F.RGN_VF_FREQ.lo 0

/-- A register word at reset: the summary's value, the ledger's bits, and the IMG and OTP fields. -/
def resetWord (s : State) (t : RegFile) (a : Nat) : Word :=
  let w := (regDefault a &&& ~~~ ledgerMask a) ||| (t.get a &&& ledgerMask a) ||| s.img.get a ||| otpWord s t a
  if 0x100_0000 ≤ a ∧ a % 0x10_0000 = 0xF_0000 + R.RGN_VF.off then legalVf w else w

/-- The addresses of a range whose OTP fields may be other than 0. -/
def otpKeys (s : State) (lo hi : Nat) : List Nat :=
  let l := (s.otp.cells.map (·.1)).filter fun a => decide (lo ≤ a) && decide (a < hi)
  let ana := fun (a : Nat) => decide (0x100_0000 ≤ a) && decide ((a - 0x100_0000) % 0x10_0000 < 0xC000)
  let trims := ([0, 1, 2, 3, 4, 5, 6, 7].map fun n => 0x110 + 0x20 * n) ++ [0x410, 0x430]
  (l.filter fun a => !ana a)
    ++ (((l.filter ana).map fun a => a - a % 0x1000).dedup.map fun w => trims.map fun q => w + q).flatten

/-- The registers of a block kind in a range of addresses at their reset values. -/
def resetFile (s : State) (b : Blk) (lo hi : Nat) : State :=
  let t := s.regs.tab b
  let within := fun (a : Nat) => decide (lo ≤ a) && decide (a < hi)
  let keys := ((t.cells.map (·.1) ++ s.img.cells.map (·.1)).filter within) ++ otpKeys s lo hi
  { s with regs := s.regs.put b ((t.keep fun a => !within a).setAll (keys.map fun a => (a, resetWord s t a))) }

/-- Holding and staging registers of a range of addresses emptied (R19, R20, R315). -/
def dropHeld (s : State) (lo hi : Nat) : State :=
  let out := fun (k : Nat) => !(decide (lo ≤ k % 2 ^ 25) && decide (k % 2 ^ 25 < hi))
  { s with hold := s.hold.keep out, stage := s.stage.keep out }

/-! ### The wear ledger (R519, R521) -/

/-- The Sett's own ledger registers. -/
def ownLedger (a : Nat) : Bool := a = 0x100040 || a = 0x100044 || (decide (0x100080 ≤ a) && decide (a < 0x1000B0))

/-- The region files. -/
def regionBlks : List Blk := [.ac, .cg, .pg, .le, .fab]

/-- A copy of the ledger as it stands. -/
def ledgerOf (s : State) : Ledger :=
  let cells := (regionBlks.map fun b => (s.regs.tab b).cells).flatten
  { regs := Tab.empty.setAll (cells.map fun c => (c.1, (c.2 ^^^ regDefault c.1) &&& ledgerMask c.1)),
    own := Tab.empty.setAll ((s.sett.own.cells.filter fun c => ownLedger c.1).map fun c => (c.1, c.2 ^^^ regDefault c.1)),
    wear := s.sett.wear, hist := s.sett.hist, retired := s.sett.retired,
    rows := Tab.empty.setAll ((s.fabs.cells.map fun c => c.2.rowMap.cells.map fun d => (c.1 * 512 + d.1, d.2)).flatten) }

/-- The block kind of a ledger address in a region. -/
def blkAt (a : Nat) : Blk :=
  let o := (a - 0x100_0000) % 0x10_0000
  if o < 0x2_0000 then .ac else if o < 0x3_0000 then .cg else if o < 0x4_0000 then .pg else if o < 0x5_0000 then .le else .fab

/-- Ledger bits of one register set to those of a copy. -/
def putLedger (s : State) (l : Ledger) (a : Nat) : State :=
  let t := s.regs.tab (blkAt a)
  let w := (t.get a &&& ~~~ ledgerMask a) ||| ((regDefault a &&& ledgerMask a) ^^^ l.regs.get a)
  { s with regs := s.regs.put (blkAt a) (t.set a w) }

/-- The ledger of a copy restored (R521). -/
def restoreLedger (s : State) (l : Ledger) : State :=
  let keys := ((regionBlks.map fun b => (s.regs.tab b).cells.map (·.1)).flatten.filter fun a => ledgerMask a != 0)
    ++ l.regs.cells.map (·.1)
  let s1 := keys.foldl (fun s a => putLedger s l a) s
  let own := (s1.sett.own.keep fun a => !ownLedger a).setAll (l.own.cells.map fun c => (c.1, c.2 ^^^ regDefault c.1))
  let s2 := { s1 with sett := { s1.sett with own := own, wear := l.wear, hist := l.hist, retired := l.retired } }
  (List.range 16).foldl (fun s r =>
    let mine := (l.rows.cells.filter fun c => c.1 / 512 = r).map fun c => (c.1 % 512, c.2)
    if mine.isEmpty && (s.fab r).rowMap.cells.isEmpty then s
    else s.setFab r { s.fab r with rowMap := Tab.empty.setAll mine }) s2

/-! ### A region's reset (R498) -/

/-- The status words of procedures that a reset abandons or ends: they keep RESULT and CAUSE. -/
def runningStatus (s : State) (r : Nat) : List (Reg × Nat) :=
  let busy := fun (f : Fld) (b : Nat) => if s.gf f b = 0 then [] else [(f.reg, b)]
  ((List.range 12).map fun k => busy F.AC_MIG_STAT_STATE (acB r k) ++ busy F.WC_CHK_STAT_STATE (acB r k)).flatten
    ++ busy F.PG_SUB_STAT_STATE (pgB r) ++ busy F.LE_SUB_STAT_STATE (leB r) ++ busy F.FAB_RELOC_STAT_STATE (fabB r)

/-- What the blocks of a region hold beside their registers, at reset. -/
def hiddenReset (s : State) (r : Nat) : State :=
  let s1 := (List.range 12).foldl (fun s k => migRegionReset s r k) s
  let s2 := (List.range 4).foldl (fun s g => cgRegionReset s r g) (wcRegionReset s1 r)
  let s3 := spoorRegionReset (fabRegionReset (leRegionReset (pgRegionReset s2 r) r) r) r
  { s3 with ana := s3.ana.keep fun k => k / 12 != r }

/-- Every register of a region at its reset value. -/
def regionFiles (s : State) (r : Nat) : State :=
  let lo := rgnBase r
  [Blk.ac, .cg, .pg, .le, .fab, .rgn].foldl (fun s b => resetFile s b lo (lo + 0x10_0000)) s

/-- What region control holds beside its registers, at a region reset: the region's time copy, its temperature history, its
image, and what its reference monitor and injection detectors show stay (R88, R91). -/
def rgnHidden (s : State) (r : Nat) : State :=
  let x := s.rgnS r
  s.setRgn r { RgnS.reset with
    timeOfs := x.timeOfs, trimTemp := x.trimTemp, hot := x.hot, cool := x.cool, configured := x.configured,
    refFault := x.refFault, injNow := x.injNow, injSettle := x.injSettle, injEnd := x.injEnd, frzCmd := x.frzCmd,
    frzPin := x.frzPin }

/-- Every comparator route of a region asks afresh what it asks of the pulse generators and of Safe hold (R197). -/
def resyncTrips (s : State) (r : Nat) : State := syncSafe (refreshTrips s (Fin.ofNat 16 r))

/-- The reset of a region (R498): its PGO balls float first, its blocks take their reset values, and the region is in reset
until its steps of R494 end. The temperature of the last sample and a freeze stay; the cap register is written again at the
next cap cycle (R450). -/
def regionResetAll (s : State) (r : Nat) : State :=
  let keep := runningStatus s r
  let was := s.rgnS r
  let temp := s.rd R.RGN_TEMP (rgB r)
  let s1 := rgnHidden (hiddenReset (s.sb F.RGN_STAT_RESET (rgB r) 0 true) r) r
  let s2 := dropHeld (regionFiles s1 r) (rgnBase r) (rgnBase r + 0x10_0000)
  let s3 := keep.foldl (fun s p => s.wr p.1 p.2 0 (s1.rd p.1 p.2 0)) s2
  let s4 := (s3.wr R.RGN_TEMP (rgB r) 0 temp).sb F.RGN_STAT_FROZEN (rgB r) 0
    (was.frzCmd || was.frzPin)
  let s5 := showInjected (if was.refFault then setRefFault s4 r true else s4) r
  (resyncTrips (startPc s5 r) r).sb F.RGN_STAT_RESET (rgB r) 0 true

/-- The steps of R494 begin for a region: its reference is trimmed (R87) and its converter groups calibrate (R136). -/
def startRegionCal (s : State) (r : Nat) : State :=
  let s1 := s.setRgn r { s.rgnS r with trimming := true }
  (List.range 4).foldl (fun s g => beginCal s r g) s1

/-- The cells and comparators of a cluster that the image has on power up in their modes: ACTIVE reads 1 (R101, R196). -/
def powerCluster (s : State) (b : Nat) : State :=
  let s1 := (List.range 8).foldl (fun s n => s.sb F.AC_CELLn_STAT_ACTIVE b n (s.gf F.AC_CELLn_CFG_MODE b n != 0)) s
  [0, 1].foldl (fun s m => s.sb F.WC_CMPm_STAT_ACTIVE b m (s.gf F.WC_CMPm_CFG_MODE b m != 0)) s1

/-- The end of a reference trim: it was made at the present temperature; after a reset the region's cells and comparators
power up then (R87, R101, R196). -/
def trimmed (s : State) (r : Nat) : State :=
  (List.range 12).foldl (fun s k => powerCluster s (acB r k))
    (s.setRgn r { s.rgnS r with trimming := false, trimTemp := signedOf 16 (s.gf F.RGN_TEMP_TEMP (rgB r)) })

/-- A region's converter groups have ended their calibration. -/
def calibrated (s : State) (r : Nat) : Bool := (List.range 4).all fun g => cgState s r g != 6

/-- A group enters its configured mode at release (R107, R494). -/
def releaseGroup (s : State) (r g : Nat) : State :=
  let mode := s.gf F.CG_CTRL_MODE (cgB r g)
  let ok := fun (h : Nat) => cgState s r h = 0 && s.gb F.CG_STAT_CAL_VALID (cgB r h)
  if mode = 3 then
    if g % 2 = 0 && ok g && ok (g + 1) then setCgState (setCgState s r g 1) r (g + 1) 1 else s
  else if mode != 0 && ok g then setCgState s r g 1
  else s

/-- The enabled group slots of a released region start afresh, with their members (R207, R215, R227). -/
def releaseSlots (s : State) (r : Nat) : State :=
  (List.range 16).foldl (fun s g =>
    if s.gb F.PG_GRPg_CTRL_EN (pgB r) g then
      s.setSlot r g { s.slot r g with first := some (firstEpoch s) }
    else s) s

/-- The channels of the region that its image enables leave Float (R227). -/
def releaseChannels (s : State) (r : Nat) : State :=
  (allRgn.filter fun q => q.val = r).foldl (fun s q => allCh.foldl (fun s c =>
    if s.gb F.PG_CHcc_CFG_EN (pgB q.val) c.val then startChannel s q c else s) s) s

/-- The release of a region at the end of its steps of R494: its groups enter their modes, its Loop Engine runs if the
image sets RUN, its channels enable and hold IDLE_LVL until their first duty value. -/
def regionRelease (s : State) (r : Nat) : State :=
  let s1 := (trimmed s r).sb F.RGN_STAT_RESET (rgB r) 0 false
  let s2 := (List.range 4).foldl (fun s g => releaseGroup s r g) s1
  releaseChannels (releaseSlots (leRelease s2 r) r) r

end Sys2Proof.Machine
end

