-- ==== Sys2Proof/Machine/Image.lean ====
section
/-!
DEFINITION. Configuration images: headers and records, the checks of each, authentication, and what a frame holds
(09_configuration.md, R318 to R327, R330, R335).
-/

namespace Sys2Proof.Machine

/-- The order of records in an image (R322): HUB frames, Field die 0, Field die 1, then RELOC records. -/
def orderKey (a : Nat) : Nat :=
  (if fKind a = 4 then 2 else if fDie a = 2 then 0 else 1) * 2 ^ 32 + a

/-! ### What frames hold (R318; log entry 19) -/

/-- The key of word w (0 to 2: SPR_DESC0 to SPR_DESC2; 3: present) of a flow that the HUB frames declare (R318, R363). -/
def flowKey (f w : Nat) : Nat := 0x280_0000 + f * 4 + w

/-- The BAR0 range of the registers that an INIT unit of a region reloads. -/
def initRange (r u : Nat) : Nat × Nat :=
  if u < 12 then (acB r u, acB r u + 0x1000)
  else if u < 20 then (cgB r (u - 16), cgB r (u - 16) + 0x1000)
  else if u < 48 then (pgB r + 0x1000 + 0x40 * (u - 32), pgB r + 0x1000 + 0x40 * (u - 31))
  else if u = 48 then (pgB r + 0x100, pgB r + 0x200)
  else if u = 56 then (leB r, leB r + 0x1_0000)
  else if u = 60 then (fabB r, fabB r + 0x2_0000)
  else (rgB r, rgB r + 0x1000)

/-- The keys of the values that a MEMINIT unit of a region holds. -/
def memRange (r u : Nat) : Nat × Nat :=
  if u < 16 then (imgKey r (0x1_0000 + u * 0x800), imgKey r (0x1_0000 + (u + 1) * 0x800))
  else if u = 32 then (rgnBase r + 0x8_0000, rgnBase r + 0x9_0000)
  else if u = 33 then (rgnBase r + 0x9_0000, rgnBase r + 0xA_0000)
  else (rgnBase r + 0xA_0000, rgnBase r + 0xB_0000)

/-- A frame may hold the value of a key: an IMG field of a register of its unit, a memory's content, or, for fabric and
routing frames, the region's other statements. -/
def frameHolds (a key : Nat) : Bool :=
  let r := fRgn a
  let within := fun (p : Nat × Nat) => decide (p.1 ≤ key) && decide (key < p.2)
  match fKind a with
  | 8 => decide (key < 0x100_0000) || within (flowKey 0 0, flowKey 4096 0)
  | 2 => within (initRange r (fUnit a))
  | 3 => within (memRange r (fUnit a)) || (decide (fUnit a < 16) && decide (key = imgKey r (fUnit a)))
  | _ => within (imgKey r 0x10, imgKey r 0x1_0000)

/-- The values that a frame record's operand gives, those the frame may hold, IMG fields alone for a register. -/
def frameImgs (a : Nat) (l : List (Nat × Word)) : List (Nat × Word) :=
  (l.filter fun p => frameHolds a p.1).map fun p =>
    if fKind a = 2 ∨ p.1 < 0x100_0000 then (p.1, p.2 &&& imgMask p.1) else p

/-! ### Headers (R320) -/

/-- Bytes of a header as a little-endian number. -/
def hb (h : BitVec 2048) (off n : Nat) : Nat := (h >>> (8 * off)).toNat % 2 ^ (8 * n)

def hKind (h : BitVec 2048) : Nat := hb h 0x06 1
def hEnc (h : BitVec 2048) : Bool := (hb h 0x07 1).testBit 0
def hBind (h : BitVec 2048) : Bool := (hb h 0x07 1).testBit 1
def hReloc (h : BitVec 2048) : Bool := (hb h 0x07 1).testBit 2
def hSvn (h : BitVec 2048) : Nat := hb h 0x08 1
def hSlot (h : BitVec 2048) : Nat := hb h 0x09 1
def hMask (h : BitVec 2048) : Nat := hb h 0x0A 2
def hFence (h : BitVec 2048) : Nat := hb h 0x0C 2
def hFrames (h : BitVec 2048) : Nat := hb h 0x10 4
def hRelocs (h : BitVec 2048) : Nat := hb h 0x14 4
def hCrc (h : BitVec 2048) : Word := BitVec.ofNat 32 (hb h 0x18 4)
def hDev (h : BitVec 2048) : Nat := hb h 0x20 16

/-- Word i of a header. -/
def hWord (h : BitVec 2048) (i : Nat) : Word := (h >>> (32 * i)).setWidth 32

/-- The header is of the format (R320): magic, version, KIND, SVN and KEY_SLOT in range, reserved bytes 0, FENCE_MASK 0 in a
partial image, HAS_RELOC as RELOC_COUNT says. -/
def hdrFormat (h : BitVec 2048) : Bool :=
  hb h 0 4 = 0x474C_5854 && hb h 4 2 = 1 && decide (1 ≤ hKind h) && decide (hKind h ≤ 3) && decide (hSvn h ≤ 64)
    && decide (hSlot h ≤ 3) && hb h 0x0E 2 = 0 && hb h 0x1C 4 = 0 && hb h 0x3C 4 = 0 && hb h 0xA1 0x5F = 0 && (hKind h = 1 || hFence h = 0)
    && hReloc h == decide (hRelocs h ≠ 0)

/-- The device ID (SEC_DEVIDi). -/
def deviceId (s : State) : Nat := ((List.range 4).map fun i => (s.rd R.SEC_DEVIDi 0 i).toNat * 2 ^ (32 * i)).sum

/-- The 256 bytes of a header, its public key and its initialisation vector (R320). -/
def hBytes (h : BitVec 2048) : List Byte := bytesLE 256 h.toNat
def hPub (h : BitVec 2048) : List Byte := ((hBytes h).drop 0x40).take 97
def hIv (h : BitVec 2048) : List Byte := ((hBytes h).drop 0x30).take 12

/-- The SHA-384 hash that OTP holds in a key slot (log entry 4). -/
def slotHash (s : State) (slot : Nat) : BitVec 384 :=
  BitVec.ofNat 384 ((List.range 12).map fun i => (s.otp.get (0x200_0020 + slot * 12 + i)).toNat * 2 ^ (32 * (11 - i))).sum

/-- SHA-384 of the public key equals the hash in KEY_SLOT (R324). -/
def keyMatches (s : State) (h : BitVec 2048) : Bool := sha384 (hPub h) == slotHash s (hSlot h)

/-- The key slot accepts the image (R324): its hash matches, it is not revoked, and its attributes allow the KIND. -/
def keyAccepts (s : State) (h : BitVec 2048) : Bool :=
  let bits := s.gf F.SEC_SLOTS_SLOTS 0 / 16 ^ hSlot h % 16
  !bits.testBit 3 && bits.testBit (hKind h - 1) && keyMatches s h

/-- The cause of the first failed check of R324 to R326 on a header, 0 if it passes. -/
def authCause (s : State) (h : BitVec 2048) : Nat :=
  if !keyAccepts s h then 4
  else if hSvn h < s.gf F.SEC_STAT_ROLLBACK 0 then 6
  else if s.gb F.SEC_STAT_ENC_REQ 0 && !hEnc h then 2
  else if hEnc h && !s.gb F.SEC_STAT_PUF_OK 0 then 8
  else if hBind h && hDev h != deviceId s then 7
  else 0

/-! ### Records (R321 to R323) -/

/-- Frames of a unit that an image carries whole: a cluster's FABRIC frames, and a block's INIT or MEMINIT frames (R26,
R323). -/
def unitFrames (a : Nat) : Nat :=
  match fKind a with
  | 0 => 24
  | 2 => initFrames (fUnit a)
  | 3 => memFrames (fUnit a)
  | _ => 1

/-- A unit's frames are whole (R26, R323): a record opens its unit with INDEX 0 or follows the one before, and no other record
follows an incomplete unit. -/
def wholeUnits (last : Option Nat) (a : Nat) : Bool :=
  match last with
  | some b =>
    if fKind b ≠ 4 ∧ fKind b ≠ 1 ∧ fKind b ≠ 8 ∧ fIndex b + 1 < unitFrames b then a = b + 1
    else fKind a = 1 || fKind a = 4 || fKind a = 8 || fIndex a = 0
  | none => fKind a = 1 || fKind a = 4 || fKind a = 8 || fIndex a = 0

/-- The cause of the first failed check of a record's plaintext, 0 if it passes: its CRC, its address and order, its region,
and the rules of R323 for the image's KIND. -/
def recordCause (s : State) (l : LoadS) (h : BitVec 2048) (x : BitVec 1088) : Nat :=
  let a := recAddr x
  let inMask := fDie a = 2 || (hMask h).testBit (fRgn a)
  let order := match l.last with | some b => decide (orderKey b < orderKey a) | none => true
  let room := if fKind a = 4 then decide (l.nr < hRelocs h) else decide (l.n < hFrames h)
  let kindOk :=
    if hKind h = 1 then true
    else wholeUnits l.last a && fKind a != 8 && (fKind a != 1 || !(s.rgnS (fRgn a)).configured)
  if !recSound x then 3
  else if !(frameListed a && order && inMask && room && kindOk) then 2
  else 0

/-- The hashes of a load after a record as it arrived (R330, R335): every byte into the image's, ciphertext into GCM's, and
the record into its block's, or its RELOC image's. `a`: the record's address. -/
def LoadS.hash (l : LoadS) (s : State) (h : BitVec 2048) (a : Nat) (raw : BitVec 1088) : LoadS :=
  let bs := recBytes raw
  let pend := l.ghBuf ++ bs
  let whole := pend.length / 16 * 16
  let l1 := { l with all := l.all.feed bs }
  let l2 := if hEnc h then
      { l1 with gh := ghashFeed (gcmHashKey (imageKey s)) l1.gh (pend.take whole), ghBuf := pend.drop whole }
    else l1
  if fKind a = 4 then
    let b := (if fIndex a = 0 then ShaS.start else l2.rblk).feed bs
    if fIndex a = 25 then
      { l2 with rblk := b, rdigs := (fRgn a * 128 + fUnit a, b.digest, l2.n + l2.nr - 25) :: l2.rdigs }
    else { l2 with rblk := b }
  else
    let b := (if l.n % 32 = 0 then ShaS.start else l2.blk).feed bs
    if l.n % 32 = 31 then { l2 with blk := b, digs := b.digest :: l2.digs } else { l2 with blk := b }

/-- The digests of a load's blocks, the last one not full (R335). -/
def LoadS.blocks (l : LoadS) : List (BitVec 384) :=
  l.digs.reverse ++ (if l.n % 32 = 0 then [] else [l.blk.digest])

/-- The load after a record's plaintext has been taken in (R322). -/
def LoadS.take (l : LoadS) (x : BitVec 1088) (imgs : List (Nat × Word)) (stage : Bool) : LoadS :=
  let a := recAddr x
  let d := recData x
  if fKind a = 4 then
    { l with last := some a, nr := l.nr + 1, recs := if stage then (a, d) :: l.recs else l.recs,
             run := if fIndex a = 0 then 1 else if l.last = some (a - 1) then l.run + 1 else 0 }
  else
    { l with last := some a, n := l.n + 1, crc := crcData l.crc d,
             recs := if stage then (a, d) :: l.recs else l.recs,
             img := l.img.setAll (frameImgs a imgs) }

/-- Every record that the header announces has arrived. -/
def LoadS.complete (l : LoadS) (h : BitVec 2048) : Bool := l.n = hFrames h && l.nr = hRelocs h

/-- A load that begins. -/
def LoadS.start (src : ImgSrc) (base : Word) (mode : Nat) : LoadS :=
  { src := src, base := base, mode := mode, hdr := none, last := none, n := 0, nr := 0, run := 0, all := ShaS.start, gh := 0,
    ghBuf := [], blk := ShaS.start, rblk := ShaS.start, digs := [], rdigs := [], crc := 0xFFFF_FFFF, recs := [], img := .empty }

/-- The load after its header (R320, R330): into the image's hash, and as additional data into GCM's. -/
def LoadS.header (l : LoadS) (s : State) (h : BitVec 2048) : LoadS :=
  { l with
    hdr := some h, all := l.all.feed (hBytes h),
    gh := if hEnc h then ghashFeed (gcmHashKey (imageKey s)) 0 (hBytes h) else 0 }

/-! ### Authentication (R319, R324, R325, R330) -/

/-- The 28 words of tag and signature. -/
def tailWords (tail : BitVec 896) : List Word := (List.range 28).map fun i => (tail >>> (32 * i)).setWidth 32

/-- The tag of an image: a mismatch is cause DECRYPT; in an unencrypted image it is zero. -/
def tagCause (s : State) (l : LoadS) (h : BitVec 2048) (tail : BitVec 896) : Nat :=
  let tag := bytesLE 16 tail.toNat
  if hEnc h then
    let y := ghashFeed (gcmHashKey (imageKey s)) l.gh l.ghBuf
    if bytesBE 16 (gcmTag (imageKey s) (hIv h) 256 (136 * (l.n + l.nr)) y).toNat = tag then 0 else 8
  else if tail.setWidth 128 = 0 then 0 else 2

/-- The signature over SHA-384 of every preceding byte verifies under the header's key. -/
def signatureOk (l : LoadS) (h : BitVec 2048) (tail : BitVec 896) : Bool :=
  ecdsaVerify (hPub h) (l.all.feed (bytesLE 16 tail.toNat)).digest (bytesLE 96 (tail >>> 128).toNat)

/-- Every check of R321 to R326 on an image read whole; its cause, 0 if it passes. -/
def imageCause (s : State) (x : RawImage) : Nat :=
  let h := x.hdr
  let l0 := (LoadS.start (.flash true) 0 0).header s h
  let run := x.recs.foldl (fun (p : Nat × LoadS) raw =>
    if p.1 ≠ 0 then p
    else
      let rec_ := recPlain s (hEnc h) (hIv h) (p.2.n + p.2.nr) raw
      let c := recordCause s p.2 h rec_
      if c ≠ 0 then (c, p.2) else (0, (p.2.hash s h (recAddr rec_) raw).take rec_ [] false)) (0, l0)
  if !hdrFormat h ∨ hKind h ≠ 1 then 2
  else if authCause s h ≠ 0 then authCause s h
  else if run.1 ≠ 0 then run.1
  else if !run.2.complete h ∨ hFrames h ≠ 512 + 4240 * bitCount 16 (hMask h) then 2
  else if tagCause s run.2 h x.tail ≠ 0 then tagCause s run.2 h x.tail
  else if !signatureOk run.2 h x.tail then 5
  else if ~~~ run.2.crc ≠ hCrc h then 9
  else 0

/-- The origin of an image's frames is volatile (R335). -/
def ImgSrc.volatile (src : ImgSrc) : Bool := match src with | .flash _ => false | _ => true

/-- Bytes of an image (R319). -/
def imageBytes (h : BitVec 2048) : Nat := 256 + 136 * (hFrames h + hRelocs h) + 112

end Sys2Proof.Machine
end

