-- ==== Sys2Proof/Machine/Configuration.lean ====
section
/-!
DEFINITION. The configuration controller: start-up loading and its attempts, host and FIFO loads, partial reconfiguration,
the scrubber, the fenced path, OTP commands and host access to flash (09_configuration.md, R328 to R351).
-/

namespace Sys2Proof.Machine

/-! ### State of the controller -/

def State.setCfg (s : State) (x : CfgS) : State := { s with cfg := x }

/-- OTP fields that no register shows (log entry 4): BOOT_SRC, FLASH_MODE, the golden image's address, the golden range's
first sector and its number of sectors. -/
def otpBootSrc (s : State) : Nat := (s.otp.get 0x200_0000).toNat % 4
def otpFlashMode (s : State) : Nat := (s.otp.get 0x200_0001).toNat % 3
def otpGoldenAddr (s : State) : Word := s.otp.get 0x200_0002
def otpGoldenBase (s : State) : Nat := (s.otp.get 0x200_0003).toNat
def otpGoldenLen (s : State) : Nat := (s.otp.get 0x200_0004).toNat

/-- An image runs (CFG_DONE high). -/
def imageRuns (s : State) : Bool := s.gb F.CFG_STAT_CFG_DONE 0

/-- A region is fenced by the running image (R347). -/
def fenced (s : State) (r : Nat) : Bool := (s.gf F.CFG_IMAGE_FENCE_MASK 0).testBit r

def cfgState (s : State) (v : Nat) : State := s.sf F.CFG_STAT_STATE 0 0 v

/-- The words at the front of the FIFO, or none if fewer have arrived (R334). -/
def fifoTake (s : State) (n : Nat) : Option (List Word × State) :=
  if s.cfg.fifo.length < n then none
  else some (s.cfg.fifo.take n, s.setCfg { s.cfg with fifo := s.cfg.fifo.drop n })

/-- Image words taken from a load's source: those of the FIFO, which must be the ones the record spells; entries of the
queue that streams the image, one word each at 36 bits and two at 72 (R346); flash and host memory give what they hold. None
while they have not arrived. -/
def takeWords (s : State) (src : ImgSrc) (ws : List Word) : Option State :=
  match src with
  | .fifo =>
    match fifoTake s ws.length with
    | some (got, s1) => if got != ws then none else some s1
    | none => none
  | .queue r q =>
    let x := s.qc r q
    let n := if s.gf F.QC_CFG_WIDTH (fabB r) q = 3 then (ws.length + 1) / 2 else ws.length
    if x.q.length < n then none else some ((List.range n).foldl (fun s _ => qcTake s r q) s)
  | _ => some s

/-! ### Attempts at a full image (R328 to R333) -/

/-- The next attempt begins (R331): 1 and 2 primary, from the pointer at address 0 of chip select 0 (R329); 3 and 4 golden, at
its OTP address. -/
def beginAttempt (s : State) (n : Nat) : State :=
  let golden := decide (3 ≤ n)
  let s1 := (((cfgState s (if golden then 2 else 1)).sf F.CFG_STAT_SOURCE 0 0 (if golden then 2 else 1)).sf
    F.CFG_STAT_ATTEMPT 0 0 n).setCfg { s.cfg with
      load := some (LoadS.start (.flash golden) (if golden then otpGoldenAddr s else 0) (otpFlashMode s)),
      frames := .empty, digs := .empty, relocs := .empty }
  s1.emit (.flash 0 (if golden then otpGoldenAddr s else 0) [])

/-- A failed attempt (R331): it blanks every frame it wrote, its cause is recorded and logged, and the next one begins; after
the fourth, or a load from the host or FIFO, the controller waits. -/
def failAttempt (s : State) (cause : Nat) (auth : Bool) : State :=
  let n := s.gf F.CFG_STAT_ATTEMPT 0
  let flash : Bool := match s.cfg.load with | some l => !l.src.volatile | none => false
  let verifying := decide (s.sett.phase = .verifying)
  let s1 := (s.sf F.CFG_STAT_CAUSE 0 0 cause).setCfg
    { s.cfg with load := none, frames := .empty, fifo := [], prim := if flash ∧ n ≤ 2 then cause else s.cfg.prim }
  let s2 := (if auth then s1.sb F.SEC_EVT_AUTH_FAIL 0 0 true else s1).log cfgSrc 0x16D (detailOf [(2, 1, n), (3, 1, cause)])
  let s3 := if verifying then ({ s2 with sett := { s2.sett with phase := .loading } }).logMode else s2
  if flash ∧ n < 4 then beginAttempt s3 (n + 1)
  else (((cfgState s3 5).sb F.CFG_STAT_CFG_ERR 0 0 true).sb F.CFG_PR_CMD_START 0 0 false).sf F.CFG_STAT_SOURCE 0 0 0

/-- LOADING_START (R328, R493, R521): OTP has been read and the PUF key reconstructed or not; if retention was lost the
ledger is restored from the flash copy named, or from the factory ledger; then the first image is looked for where BOOT_SRC
says. -/
def execLoadingStart (puf : Bool) (ledger : Option (Fin 2)) (s : State) : Host.Outcome State Fault Refusal :=
  let ready := match s.sett.phase with
    | .powerUp => decide (s.sett.pwrStep = 3)
    | .loading => s.cfg.load.isNone && !imageRuns s && s.gf F.CFG_STAT_STATE 0 = 0
    | _ => false
  s.after <|
    if !ready then s
    else
      let s1 := (s.sb F.SEC_STAT_PUF_OK 0 0 puf).setCfg { s.cfg with load := none }
      let s2 :=
        if s1.sett.retLost then
          let copy := ledger.bind fun k => (s1.sett.copies.get k.val).map fun l => (k.val, l)
          let s3 := restoreLedger s1 (match copy with | some p => p.2 | none => Ledger.factory)
          ({ s3 with sett := { s3.sett with retLost := false } }).raise settSrc 0x16A
            (detailOf [(2, 1, match copy with | some p => p.1 | none => 0xF)])
        else s1
      let s4 := ({ s2 with sett := { s2.sett with phase := .loading } }).logMode
      let s5 := s4.safeEval
      if otpBootSrc s5 = 0 then beginAttempt s5 1 else cfgState s5 2

/-- Refusal or failure codes of CFG_PR_STAT. -/
def prResult (s : State) (result cause : Nat) : State :=
  (s.sf F.CFG_PR_STAT_RESULT 0 0 result).sf F.CFG_PR_STAT_CAUSE 0 0 cause

/-- A partial load leaves: START bits read 0, a port sees DONE or ERR (R16, R346). -/
def prLeave (s : State) (result cause : Nat) : State :=
  match s.cfg.pr with
  | none => s
  | some p =>
    let s1 := ((prResult s result cause).sf F.CFG_PR_STAT_STATE 0 0 0).setCfg { s.cfg with pr := none }
    match p.by_, p.load.src with
    | none, _ => s1.emit (.cfgPort p.port.val result cause)
    | some _, .secure _ => s1.sb F.SEC_FENCE_CMD_START 0 0 false
    | some _, _ => s1.sb F.CFG_PR_CMD_START 0 0 false

/-- A refusal of R341. -/
def prRefuse (s : State) (cause : Nat) : State :=
  let fence := match s.cfg.pr with | some p => (match p.load.src with | .secure _ => true | _ => false) | none => false
  let s1 := (prLeave s 3 cause).sb F.CFG_EVT_REJECT 0 0 true
  if fence then s1.sb F.SEC_EVT_REJECT 0 0 true else s1

/-- A failure of an accepted load. -/
def prFail (s : State) (cause : Nat) (auth : Bool) : State :=
  let s1 := (prLeave s 3 cause).sb F.CFG_EVT_PR_FAIL 0 0 true
  if auth then s1.sb F.SEC_EVT_AUTH_FAIL 0 0 true else s1

/-- The requester owns the region, or nobody does (R341). -/
def requesterMay (s : State) (p : PrS) (r : Nat) : Bool :=
  let o := s.gf F.RGN_STAT_OWNER (rgB r)
  o = 0 || (match p.by_ with | some _ => o = 1 | none => o = 3 && decide (p.port.val = r))

/-- The check of a partial image's header (R320, R341, R349), 0 if it passes: format first, then who may load what. -/
def prHeaderCause (s : State) (p : PrS) (h : BitVec 2048) : Nat :=
  let rs := (List.range 16).filter fun r => (hMask h).testBit r
  let secure := match p.load.src with | .secure _ => true | _ => false
  if !hdrFormat h then 2
  else if hKind h = 1 then 0x10
  else if imageBytes h > 3 * 2 ^ 20 ∨ p.len > 3 * 2 ^ 20 then 0xC
  else if rs.any fun r => !requesterMay s p r then 0xD
  else if secure then
    if hKind h ≠ 3 ∨ rs.any (fun r => !fenced s r) = true then 0xF else if !hEnc h then 2 else 0
  else if hKind h = 3 ∨ rs.any (fenced s) = true then 0xF
  else 0

/-- The flash pointer (R329): its words are the magic, the chip select, the address and the CRC-32C of those three (DEDUCED,
log entry 216); the address of the primary image as CFG_PR_ADDR codes it, none where the magic or the CRC is wrong. -/
def pointerAddr (p : BitVec 128) : Option Word :=
  let w := fun (i : Nat) => ((p >>> (32 * i)).setWidth 32 : Word)
  if w 0 = 0x5054_5250 ∧ w 3 = ~~~ [w 0, w 1, w 2].foldl crcWord 0xFFFF_FFFF then
    some (Word.setBits (w 2) 31 31 ((w 1).toNat % 2))
  else none

/-- A header whose checks come next (R320, R324 to R326). -/
def headerChecks (s : State) (l : LoadS) (h : BitVec 2048) : State :=
  let s1 := if l.src.volatile then s else s.sf F.CFG_STAT_FLASH_MODE 0 0 l.mode
  if !hdrFormat h ∨ hKind h ≠ 1 then failAttempt s1 2 false
  else if authCause s h ≠ 0 then failAttempt s1 (authCause s h) true
  else if hFrames h + hRelocs h = 0 then failAttempt s1 2 false
  else cfgState (s1.setCfg { s1.cfg with load := some (l.header s h) }) 2

/-- A header that arrives for a full image. From flash, a primary attempt reads the pointer first; a header whose magic or, in
octal mode, data strobe is wrong makes the controller read again in the next slower mode (R329). -/
def fullHeader (s : State) (l : LoadS) (pointer : BitVec 128) (strobe : Bool) (h : BitVec 2048) : State :=
  match l.src with
  | .flash golden =>
    (match (if golden then some l.base else pointerAddr pointer) with
    | none => failAttempt s 1 false
    | some base =>
      let l1 := { l with base := base }
      let s1 := if golden then s else s.emit (.flash 0 base [])
      if (hb h 0 4 != 0x474C_5854 || (l.mode = 2 && !strobe)) && l.mode != 0 then
        (s1.setCfg { s1.cfg with load := some { l1 with mode := l.mode - 1 } }).emit (.flash 0 base [])
      else headerChecks s1 l1 h)
  | _ => headerChecks s l h

/-- IMAGE_HEADER (R320, R324 to R326, R329, R341): for the full image that is loading, or the partial image that is being
staged. `pointer`: the 16 bytes at address 0 of the flash, for a primary attempt; `strobe`: the data strobe was right. -/
def execImageHeader (pointer : BitVec 128) (strobe : Bool) (hdr : BitVec 2048) (s : State) :
    Host.Outcome State Fault Refusal :=
  let words := (List.range 64).map (hWord hdr)
  s.after <|
    match s.cfg.load, s.cfg.pr with
    | some l, _ =>
      if l.hdr.isSome then s
      else match takeWords s l.src words with
        | some s1 => fullHeader s1 l pointer strobe hdr
        | none => s
    | none, some p =>
      if p.load.hdr.isSome then s
      else match takeWords s p.load.src words with
        | some s1 =>
          let c := prHeaderCause s1 p hdr
          if c = 2 then prFail s1 2 false
          else if c ≠ 0 then prRefuse s1 c
          else s1.setCfg { s1.cfg with
            pr := some { p with accepted := true, load := p.load.header s1 hdr } }
        | none => s
    | none, none => s

/-- A record of a full image: written into configuration memory as it arrives (R330), hashed (R335), checked after decryption
(R321). -/
def fullRecord (s : State) (l : LoadS) (h : BitVec 2048) (raw : BitVec 1088) (imgs : List (Nat × Word)) : State :=
  let x := recPlain s (hEnc h) (hIv h) (l.n + l.nr) raw
  let c := recordCause s l h x
  let a := recAddr x
  if c ≠ 0 then failAttempt s c false
  else
    let l1 := (l.hash s h a raw).take x imgs false
    let frames := if fKind a = 4 then s.cfg.frames
      else s.cfg.frames.set a (some (FrameC.put a (recData x) l.src.volatile (some (s.cfg.nextDig + l.n / 32, l.n % 32))))
    let s1 := s.setCfg { s.cfg with load := some l1, frames := frames }
    if !l1.complete h then s1
    else if hFrames h ≠ 512 + 4240 * bitCount 16 (hMask h) then failAttempt s1 2 false
    else cfgState s1 3

/-- The block of a frame is in service (R341). -/
def inService (s : State) (a : Nat) : Bool :=
  let r := fRgn a
  let u := fUnit a
  let x := s.eng r
  let engine := s.gb F.LE_CTRL_LIVE (leB r)
  match fKind a with
  | 2 =>
    if u < 12 then guards s (acB r u) 0 || guards s (acB r u) 1
    else if u < 20 then s.gb F.CG_CTRL_LIVE (cgB r (u - 16))
    else if u < 48 then s.gb F.PG_CHcc_CFG_EN (pgB r) (u - 32)
    else u = 56 && engine
  | 3 => decide (32 ≤ u) && (engine || (u = 32 && x.mode != .halted && x.mode != .faulted))
  | _ => false

/-- The frame lies in a cluster that holds the logic of the requesting port (R341). -/
def portsOwn (s : State) (p : PrS) (a : Nat) : Bool :=
  p.by_.isNone && fKind a = 0 && decide (fRgn a = p.port.val) && s.img.get (imgKey (fRgn a) (0x600 + fUnit a)) != 0

/-- A record of a partial image: staged, its CRC checked on arrival (R342 step 1). -/
def partRecord (s : State) (p : PrS) (h : BitVec 2048) (raw : BitVec 1088) (imgs : List (Nat × Word)) : State :=
  let x := recPlain s (hEnc h) (hIv h) (p.load.n + p.load.nr) raw
  let c := recordCause s p.load h x
  let a := recAddr x
  if c ≠ 0 then prFail s c false
  else if portsOwn s p a then prRefuse s 0x11
  else if inService s a then prRefuse s 0xE
  else s.setCfg { s.cfg with pr := some { p with load := (p.load.hash s h a raw).take x imgs true } }

/-- FRAME_RECORD (R321 to R323, R330, R342). `raw`: the record as its source holds it, encrypted in an encrypted image;
`imgs`: what the frame's data hold, as R318 names it. -/
def execFrameRecord (raw : BitVec 1088) (imgs : List (Nat × Word)) (s : State) : Host.Outcome State Fault Refusal :=
  let ws := recWords raw
  s.after <|
    match s.cfg.load, s.cfg.pr with
    | some l, _ =>
      (match l.hdr with
      | some h =>
        if s.gf F.CFG_STAT_STATE 0 ≠ 2 then s
        else match takeWords s l.src ws with
          | some s1 => fullRecord s1 l h raw imgs
          | none => s
      | none => s)
    | none, some p =>
      (match p.load.hdr with
      | some h =>
        if s.gf F.CFG_PR_STAT_STATE 0 ≠ 1 then s
        else match takeWords s p.load.src ws with
          | some s1 => partRecord s1 p h raw imgs
          | none => s
      | none => s)
    | none, none => s

/-- ATTEMPT_TIMEOUT (R331). -/
def execAttemptTimeout (s : State) : Host.Outcome State Fault Refusal :=
  s.after <| if s.cfg.load.isSome then failAttempt s 0xA false else s

/-- SIGNATURE_VERIFIED (R330): the tag and the signature of the full image have arrived and are checked; Verifying begins. -/
def execSignatureVerified (tail : BitVec 896) (s : State) : Host.Outcome State Fault Refusal :=
  s.after <|
    match s.cfg.load with
    | some l =>
      (match l.hdr with
      | some h =>
        if s.gf F.CFG_STAT_STATE 0 ≠ 3 then s
        else match takeWords s l.src (tailWords tail) with
          | none => s
          | some s1 =>
            if tagCause s1 l h tail ≠ 0 then failAttempt s1 (tagCause s1 l h tail) (hEnc h)
            else if !signatureOk l h tail then failAttempt s1 5 true
            else ({ cfgState s1 4 with sett := { s1.sett with phase := .verifying } }).logMode
      | none => s)
    | none => s

/-! ### The digests of an image that is in use (R335) -/

/-- The entry for a digest of a load's records. -/
def digEntry (l : LoadS) (h : BitVec 2048) (vol : Bool) (hash : BitVec 384) (first count : Nat) : DigS :=
  { hash := hash, enc := hEnc h, iv := hIv h, first := first, count := count, base := l.base, vol := vol }

/-- A load's digests recorded: those of its blocks from the next number on, then those of its RELOC images. -/
def recordDigests (s : State) (l : LoadS) (h : BitVec 2048) (vol : Bool) : State :=
  let bs := l.blocks
  let m := s.cfg.nextDig
  let d1 := (bs.zip (List.range bs.length)).foldl (fun (t : Tab (Option DigS) (fun _ => none)) p =>
    t.set (m + p.2) (some (digEntry l h vol p.1 (32 * p.2) (min 32 (l.n - 32 * p.2))))) s.cfg.digs
  let rs := l.rdigs.zip (List.range l.rdigs.length)
  let d2 := rs.foldl (fun (t : Tab (Option DigS) (fun _ => none)) p =>
    t.set (m + bs.length + p.2) (some (digEntry l h vol p.1.2.1 p.1.2.2 26))) d1
  let relocs := rs.foldl (fun (t : Tab (Option Nat) (fun _ => none)) p => t.set p.1.1 (some (m + bs.length + p.2))) s.cfg.relocs
  s.setCfg { s.cfg with digs := d2, relocs := relocs, nextDig := m + bs.length + rs.length }

/-- The image's values of the Sett's own registers. -/
def settImage (s : State) : State :=
  (s.img.cells.filter fun c => decide (0x10_0000 ≤ c.1) && decide (c.1 < 0x100_0000)).foldl (fun s c =>
    let m := imgMask c.1
    { s with sett := { s.sett with own := s.sett.own.set c.1 ((s.sett.own.get c.1 &&& ~~~ m) ||| (c.2 &&& m)) } }) s

/-- The image's values of the Hub and Sett registers take effect: IMG fields, the others as they stand. -/
def applyHub (s : State) : State :=
  let cells := s.img.cells.filter fun c => decide (c.1 < 0x100_0000)
  let s1 := cells.foldl (fun s c =>
    match place c.1 with
    | some (k, _) =>
      let m := imgMask c.1
      let t := s.regs.tab k
      { s with regs := s.regs.put k (t.set c.1 ((t.get c.1 &&& ~~~ m) ||| (c.2 &&& m))) }
    | none => s) s
  settImage s1

/-- The flows that the image's HUB frames declare (R318, R387). -/
def declaredFlows (s : State) : List (Nat × Word × Word × Word) :=
  (((s.img.cells.filter fun c => decide (flowKey 0 0 ≤ c.1) && decide (c.1 < flowKey 4096 0) && c.1 % 4 = 3).map
    fun c => (c.1 - flowKey 0 0) / 4)).map fun f =>
      (f, s.img.get (flowKey f 0), s.img.get (flowKey f 1), s.img.get (flowKey f 2))

/-- The regions of an image are configured: their blocks take their reset values and the steps of R494 begin. -/
def configureRegion (s : State) (r : Nat) : State :=
  startRegionCal (regionResetAll (s.setRgn r { s.rgnS r with configured := true }) r) r

/-- A full image takes effect (R332): CFG_DONE rises and the modes sequence goes on to Calibrating. -/
def imageStarts (s : State) (l : LoadS) (h : BitVec 2048) : State :=
  let n := s.gf F.CFG_STAT_ATTEMPT 0
  let golden := match l.src with | .flash g => g | _ => false
  let s1 := (s.wr R.CFG_IMG_CRC 0 0 (hCrc h)).wr R.CFG_IMAGE 0 0
    (BitVec.ofNat 32 (hSvn h * 2 ^ 24 + hSlot h * 2 ^ 18 + (if hEnc h then 2 ^ 17 else 0) + hFence h))
  let s2 := ((cfgState s1 0).sb F.CFG_STAT_CFG_DONE 0 0 true).sb F.CFG_STAT_CFG_ERR 0 0 false
  let s3 := { s2.sb F.CFG_PR_CMD_START 0 0 false with
    img := l.img, sett := { s2.sett with phase := .calibrating },
    cfg := { (recordDigests s2 l h l.src.volatile).cfg with load := none } }
  let s4 := applyHub s3
  let s5 := ((List.range 16).filter fun r => (hMask h).testBit r).foldl configureRegion s4
  let s6 := { s5 with spoor := { s5.spoor with imgFlows := declaredFlows s5 } }
  let s7 := if golden then (s6.sb F.CFG_EVT_FALLBACK 0 0 true).raise cfgSrc 0x110 (detailOf [(2, 1, n), (3, 1, s6.cfg.prim)])
            else s6
  herdStart (pinsStart s7)

/-- IMAGE_CRC over the data of the frames in configuration memory, in image order (R322, R332). -/
def framesCrc (s : State) : Word :=
  let hub := s.cfg.frames.cells.filter fun c => fDie c.1 = 2
  let dies := s.cfg.frames.cells.filter fun c => fDie c.1 != 2
  ~~~ (hub ++ dies).foldl (fun k c => match c.2 with | some f => crcData k f.data | none => k) 0xFFFF_FFFF

/-- VERIFY_DONE (R332): every loaded frame has been read back. `upset`: bits that had flipped since they were written, of
frames' data and codes. -/
def execVerifyDone (upset : List (Word × BitVec 1024 × BitVec 12)) (s : State) : Host.Outcome State Fault Refusal :=
  s.after <|
    match s.cfg.load with
    | some l =>
      (match l.hdr with
      | some h =>
        let s1 := s.setCfg { s.cfg with frames := flipFrames s.cfg.frames upset }
        let codes := s1.cfg.frames.cells.all fun c => match c.2 with | some f => f.code == secded f.data | none => true
        if s.gf F.CFG_STAT_STATE 0 ≠ 4 then s
        else if codes && framesCrc s1 == hCrc h then imageStarts s1 l h
        else failAttempt s1 9 false
      | none => s)
    | none => s

/-! ### Requests (R333, R340, R341, R346, R349) -/

/-- The host port of an access path. -/
def portOf (a : Reader) : Option (Fin 2) := match a with | .hla => some 0 | .hlb => some 1 | _ => none

/-- A full image is awaited from the host or the FIFO (R333). -/
def awaitsHost (s : State) : Bool :=
  s.cfg.load.isNone && (s.gf F.CFG_STAT_STATE 0 = 5 || (s.gf F.CFG_STAT_STATE 0 = 2 && otpBootSrc s != 0))

/-- A request that was never staged is refused (R341). -/
def cfgRefuse (s : State) (cause : Nat) : State := (prResult s 3 cause).sb F.CFG_EVT_REJECT 0 0 true

/-- A partial load is staged from now on. -/
def prBegin (s : State) (p : PrS) : State :=
  ((prResult s 0 0).sf F.CFG_PR_STAT_STATE 0 0 1).setCfg { s.cfg with pr := some p }

/-- A full load from the host or the FIFO begins, with one attempt (R333). -/
def hostLoad (s : State) (src : ImgSrc) (source : Nat) : State :=
  ((((cfgState s 2).sf F.CFG_STAT_SOURCE 0 0 source).sf F.CFG_STAT_ATTEMPT 0 0 1).sb F.CFG_STAT_CFG_ERR 0 0 false).setCfg
    { s.cfg with load := some (LoadS.start src 0 0), frames := .empty, digs := .empty, relocs := .empty }

/-- START written to CFG_PR_CMD with a source (R333, R340, R341). -/
def cfgLoad (s : State) (a : Reader) (src : Nat) : State :=
  let len := s.gf F.CFG_LEN_LEN 0
  let started := s.sb F.CFG_PR_CMD_START 0 0 true
  if imageRuns s then
    if s.cfg.pr.isSome then cfgRefuse s 0x10
    else match src, portOf a with
      | 0, _ => (prBegin started ⟨LoadS.start (.flash false) (s.rd R.CFG_PR_ADDR 0) 0, some a, 0, 0, false, false⟩).emit (.flash 0 (s.rd R.CFG_PR_ADDR 0) [])
      | 1, some p => (prBegin started ⟨LoadS.start (.host p.val) 0 0, some a, 0, len, false, false⟩).emit
          (.dmaRead (s.rd64 R.CFG_HOST_ADDR 0) len)
      | 1, none => cfgRefuse s 0x14
      | _, _ => prBegin (started.setCfg { started.cfg with fifo := [] }) ⟨LoadS.start .fifo 0 0, some a, 0, len, false, false⟩
  else if awaitsHost s then
    match src, portOf a with
    | 2, _ => hostLoad (started.setCfg { started.cfg with fifo := [] }) .fifo 4
    | 1, some p =>
      if s.gf F.CFG_STAT_STATE 0 = 2 ∧ otpBootSrc s = 2 then cfgRefuse s.free.2 (s.free.1.toNat % 32)
      else (hostLoad started (.host p.val) 3).emit (.dmaRead (s.rd64 R.CFG_HOST_ADDR 0) len)
    | 1, none => cfgRefuse s 0x14
    | _, _ => cfgRefuse s.free.2 (s.free.1.toNat % 32)
  else cfgRefuse s 0x10

/-- A write of CFG_PR_CMD (R16). -/
def prCmdWrite (s : State) (a : Reader) (v : Word) : State :=
  let s1 := s.sf F.CFG_PR_CMD_SRC 0 0 (if fOf v F.CFG_PR_CMD_SRC = 3 then s.gf F.CFG_PR_CMD_SRC 0 else fOf v F.CFG_PR_CMD_SRC)
  if fOf v F.CFG_PR_CMD_START = 0 ∨ s.gb F.CFG_PR_CMD_START 0 then s1 else cfgLoad s1 a (s1.gf F.CFG_PR_CMD_SRC 0)

/-- A write of CFG_PR_CMD by a path that reaches the Hub window (R18). -/
def prCmdBy (s : State) (a : Reader) (v : Word) : State := s.byPath a R.CFG_PR_CMD.off (prCmdWrite s a v)

/-- CFG_LOAD_FLASH. -/
def execCfgLoadFlash (a : Reader) (s : State) : Host.Outcome State Fault Refusal := s.after (prCmdBy s a 1)
/-- CFG_LOAD_HOST_DMA. -/
def execCfgLoadHostDma (a : Reader) (s : State) : Host.Outcome State Fault Refusal := s.after (prCmdBy s a 0x1_0001)
/-- CFG_LOAD_FIFO. -/
def execCfgLoadFifo (a : Reader) (s : State) : Host.Outcome State Fault Refusal := s.after (prCmdBy s a 0x2_0001)

/-- A word written to CFG_FIFO (R334): queued, or, with 1,024 words in the FIFO, dropped, and a load that takes it fails with
cause FORMAT. -/
def fifoWrite (s : State) (v : Word) : State :=
  if s.cfg.fifo.length < 1024 then s.setCfg { s.cfg with fifo := s.cfg.fifo ++ [v] }
  else
    let s1 := s.sb F.CFG_FIFO_STAT_OVF 0 0 true
    match s.cfg.load, s.cfg.pr with
    | some l, _ => if l.src = .fifo then failAttempt s1 2 false else s1
    | none, some p => if p.load.src = .fifo then prFail s1 2 false else s1
    | none, none => s1

/-- CFG_FIFO_WRITE: by any of the four paths of the Hub window (R18, R333). -/
def execCfgFifoWrite (a : Reader) (v : Word) (s : State) : Host.Outcome State Fault Refusal :=
  s.after (s.byPath a R.CFG_FIFO.off (fifoWrite s v))

/-- A request of a region's internal configuration port (R346), a primitive of the fabric, whose clocks run (R289). -/
def portLoad (s : State) (r : Rgn) (src : ImgSrc) (base : Word) : State :=
  if s.cfg.pr.isSome ∨ imageRuns s = false then (cfgRefuse s 0x10).emit (.cfgPort r.val 3 0x10)
  else prBegin s ⟨LoadS.start src base 0, none, r, 0, false, false⟩

/-- PORT_LOAD_FLASH. -/
def execPortLoadFlash (r : Rgn) (addr : Word) (s : State) : Host.Outcome State Fault Refusal :=
  let s1 := portLoad s r (.flash false) addr
  s.after (if s.clk r.val ≠ 0 then s else if s.cfg.pr.isNone && imageRuns s then s1.emit (.flash 0 addr []) else s1)

/-- PORT_LOAD_QUEUE: the queue is 36 or 72 bits wide. -/
def execPortLoadQueue (r : Rgn) (q : Fin 16) (s : State) : Host.Outcome State Fault Refusal :=
  s.after (if s.gf F.QC_CFG_WIDTH (fabB r.val) q.val < 2 ∨ s.clk r.val ≠ 0 then s else portLoad s r (.queue r.val q.val) 0)

/-- PORT_ABORT (R346): in step 1 or 2; later it has no effect. -/
def execPortAbort (r : Rgn) (s : State) : Host.Outcome State Fault Refusal :=
  s.after <|
    match s.cfg.pr with
    | some p => if decide (s.clk r.val = 0) && p.by_.isNone && decide (p.port = r) && decide (s.gf F.CFG_PR_STAT_STATE 0 ≤ 2) then prLeave s 3 0 else s
    | none => s

/-- A write of SEC_FENCE_CMD (R349, R351). -/
def fenceWrite (s : State) (a : Reader) (v : Word) : State :=
  if fOf v F.SEC_FENCE_CMD_START = 0 ∨ s.gb F.SEC_FENCE_CMD_START 0 then s
  else match portOf a with
    | none => (cfgRefuse s 0x12).sb F.SEC_EVT_REJECT 0 0 true
    | some p =>
      if s.cfg.pr.isSome ∨ imageRuns s = false then (cfgRefuse s 0x10).sb F.SEC_EVT_REJECT 0 0 true
      else (prBegin (s.sb F.SEC_FENCE_CMD_START 0 0 true) ⟨LoadS.start (.secure p.val) 0 0, some a, 0, s.gf F.SEC_FENCE_LEN_LEN 0, false, false⟩).emit
        (.dmaRead (s.rd64 R.SEC_FENCE_ADDR 0) (s.gf F.SEC_FENCE_LEN_LEN 0))

/-- FENCED_LOAD. -/
def execFencedLoad (a : Reader) (s : State) : Host.Outcome State Fault Refusal := 
  s.after (s.byPath a R.SEC_FENCE_CMD.off (fenceWrite s a 1))

/-! ### The steps of a partial load (R342 to R344) -/

/-- The frames that a partial image covers, in order. -/
def covered (p : PrS) : List (Nat × BitVec 1024) := (p.load.recs.filter fun x => fKind x.1 != 4).reverse

/-- PR_STAGE_DONE: every record is staged, each cluster and block whole (R26, R323). -/
def execPrStageDone (s : State) : Host.Outcome State Fault Refusal :=
  s.after <|
    match s.cfg.pr with
    | some p =>
      (match p.load.hdr with
      | some h =>
        if s.gf F.CFG_PR_STAT_STATE 0 ≠ 1 ∨ p.load.complete h = false then s
        else
          let whole := match (covered p).getLast? with
            | some x => fKind x.1 = 1 || fKind x.1 = 8 || fIndex x.1 + 1 = unitFrames x.1
            | none => true
          if whole then s.sf F.CFG_PR_STAT_STATE 0 0 2 else prFail s 2 false
      | none => s)
    | none => s

/-- PR_AUTH_DONE: the key, SVN, tag and signature of the staged copy (R324 to R326). -/
def execPrAuthDone (tail : BitVec 896) (s : State) : Host.Outcome State Fault Refusal :=
  s.after <|
    match s.cfg.pr with
    | some p =>
      (match p.load.hdr with
      | some h =>
        if s.gf F.CFG_PR_STAT_STATE 0 ≠ 2 then s
        else match takeWords s p.load.src (tailWords tail) with
          | none => s
          | some s1 =>
            let c := authCause s1 h
            if c ≠ 0 then prFail s1 c true
            else if tagCause s1 p.load h tail ≠ 0 then prFail s1 (tagCause s1 p.load h tail) (hEnc h)
            else if !signatureOk p.load h tail then prFail s1 5 true
            else if ~~~ p.load.crc != hCrc h then prFail s1 9 false
            else s1.sf F.CFG_PR_STAT_STATE 0 0 3
      | none => s)
    | none => s

/-- A covered cluster or block is at a procedure that the load waits for, or its region in Torpor (R100, R149, R194, R232,
R279, R314, R342 step 3). -/
def coveredBusy (s : State) (a : Nat) : Bool :=
  let r := fRgn a
  let u := fUnit a
  s.inTorpor r || (s.rgnS r).torporWait || s.gf F.FAB_RELOC_STAT_STATE (fabB r) != 0
    || (fKind a = 2 &&
      (if u < 12 then s.gf F.AC_MIG_STAT_STATE (acB r u) != 0 || s.gf F.WC_CHK_STAT_STATE (acB r u) != 0
       else if u < 20 then s.gf F.CG_ROT_STAT_PHASE (cgB r (u - 16)) = 2
       else if u < 49 then s.gf F.PG_SUB_STAT_STATE (pgB r) != 0
       else u = 56 && s.gf F.LE_SUB_STAT_STATE (leB r) != 0))
    || (fKind a = 3 && decide (32 ≤ fUnit a) && s.gf F.LE_SUB_STAT_STATE (leB r) != 0)

/-- The staged frames written into configuration memory, with their origin and digests (R335): the digests of what they replace
are released, and a flash image whose digests do not fit into the 8,192 entries is volatile and without them. -/
def writeFrames (s : State) (p : PrS) : State :=
  let l := covered p
  let put := fun (vol : Bool) (base : Option Nat) (t : Tab (Option FrameC) (fun _ => none)) (c : (Nat × BitVec 1024) × Nat) =>
    t.set c.1.1 (some (FrameC.put c.1.1 c.1.2 vol (base.map fun m => (m + c.2 / 32, c.2 % 32))))
  let write := fun (s : State) (vol : Bool) (base : Option Nat) =>
    s.setCfg { s.cfg with frames := (l.zip (List.range l.length)).foldl (put vol base) s.cfg.frames }
  let gone := p.load.rdigs.map (·.1)
  let s1 := releaseDigests ((write s true none).setCfg { (write s true none).cfg with
    relocs := s.cfg.relocs.keep fun k => !gone.contains k })
  let fits := decide (s1.cfg.digs.cells.length + p.load.blocks.length + p.load.rdigs.length ≤ 8192)
  if fits then write s1 p.load.src.volatile (some s1.cfg.nextDig) else s1

/-- The digests of a partial load recorded in step 7 (R342); RELOC images without room have none (R335). -/
def partDigests (s : State) (p : PrS) : State :=
  let fit := decide (s.cfg.digs.cells.length + p.load.blocks.length + p.load.rdigs.length ≤ 8192)
  match p.load.hdr with
  | some h =>
    if fit then recordDigests s p.load h p.load.src.volatile
    else s.setCfg { s.cfg with
      relocs := p.load.rdigs.foldl (fun t k => t.set k.1 (some (s.cfg.nextDig + 8192 + k.1))) s.cfg.relocs }
  | none => s

/-- The logical clusters that a partial image isolates: those it covers, or, in a fenced region, all (R348, R349). -/
def isolatedBy (p : PrS) : List Nat :=
  match p.load.src with
  | .secure _ => (((covered p).map fun x => fRgn x.1).dedup.map fun r => (List.range 96).map fun c => r * 128 + c).flatten
  | _ => ((covered p).filter fun x => fKind x.1 = 0 && fIndex x.1 = 0).map fun x => fRgn x.1 * 128 + fUnit x.1

/-- The service windows in step 1 of the groups that a load covers are abandoned (R149). -/
def abandonWindows (s : State) (p : PrS) : State :=
  ((covered p).filter fun x => fKind x.1 = 2 && decide (16 ≤ fUnit x.1 ∧ fUnit x.1 < 20)).foldl (fun s x =>
    if s.gf F.CG_ROT_STAT_PHASE (cgB (fRgn x.1) (fUnit x.1 - 16)) = 1 then rotStop s (fRgn x.1) (fUnit x.1 - 16) else s) s

/-- PR_WAIT_END (R342 steps 3 to 5): no covered cluster is busy; the isolation cells hold, and the frames are written. -/
def execPrWaitEnd (s : State) : Host.Outcome State Fault Refusal :=
  s.after <|
    match s.cfg.pr with
    | some p =>
      if s.gf F.CFG_PR_STAT_STATE 0 ≠ 3 ∨ (covered p).any (fun x => coveredBusy s x.1) = true then s
      else
        let s1 := (writeFrames (abandonWindows s p) p).sf F.CFG_PR_STAT_STATE 0 0 4
        s1.setCfg { s1.cfg with isolated := s1.cfg.isolated.setAll ((isolatedBy p).map fun k => (k, 1)) }
    | none => s

/-- A block returned to its reset values alone, with the image's new ones (R344). -/
def blockReset (s : State) (r u : Nat) : State :=
  let w := initRange r u
  let file := fun (s : State) (b : Blk) => dropHeld (resetFile s b w.1 w.2) w.1 w.2
  if u < 12 then
    let s1 := powerCluster (file { s.setClu r u CluS.reset with comp := s.comp.set (r * 12 + u) CmpS.reset } .ac) (acB r u)
    let s2 := s1.sb F.AC_STATUS_REF_FAULT (acB r u) 0 (s.rgnS r).refFault
    resyncTrips (if u = 0 then showInjected s2 r else s2) r
  else if u < 20 then file (cgRegionReset s r (u - 16)) .cg
  else if u < 48 then releaseChannels (file (s.setCh r (u - 32) ChS.reset) .pg) r
  else if u = 48 then
    releaseSlots (file { s with slots := s.slots.keep fun k => k / 16 != r } .pg) r
  else if u = 56 then leRelease (startPc (file (s.setEng r EngS.reset) .le) r) r
  else if u = 60 then
    file (s.setFab r { s.fab r with qcs := .empty, capLatch := .empty, capTrig := false, capFirst := none, carry := .empty }) .fab
  else
    let clk := s.clk r
    let temp := s.rd R.RGN_TEMP (rgB r)
    ((file s .rgn).setClk r clk).wr R.RGN_TEMP (rgB r) 0 temp

/-- The memory content of a MEMINIT unit written: a block memory through the copy port, X, Y and program memory as host
writes (R298, R274, R344). -/
def memReload (s : State) (r u : Nat) (img : WordTab) : State :=
  let w := memRange r u
  let cells := img.cells.filter fun c => decide (w.1 ≤ c.1) && decide (c.1 < w.2)
  if u < 16 then
    ((cells.map fun c => (c.1 - imgKey r 0x1_0000) / 2).dedup).foldl (fun s k => bmSet s r (k / 1024) (k % 1024)
      (bmInit s r (k / 1024) (k % 1024))) s
  else { s with lemem := s.lemem.setAll cells }

/-- Step 7 for one frame: the first frame of a unit reloads its block, the last record of a memory its content, a logic
cluster's flip-flops take their initial values. -/
def releaseFrame (img : WordTab) (s : State) (a : Nat) : State :=
  let r := fRgn a
  match fKind a with
  | 0 => if fIndex a = 0 then s.setFab r { s.fab r with ff := (s.fab r).ff.set (fUnit a) (ffInit s r (fUnit a)) } else s
  | 2 => if fIndex a = 0 then blockReset s r (fUnit a) else s
  | 3 => if fIndex a = 0 then memReload s r (fUnit a) img else s
  | _ => s

/-- The fenced frames that have been rewritten end the source of Safe hold (R341, R500). -/
def fenceMended (s : State) (as : List Nat) : State :=
  let left := s.cfg.fencedBad.filter fun a => !as.contains a
  let s1 := s.setCfg { s.cfg with fencedBad := left }
  if left.isEmpty && !s.cfg.fencedBad.isEmpty then s1.safeRelease 6 else s1

/-- Step 7 (R342, R344): the new logic and values stand, isolation releases, RESULT reads completed. -/
def prRelease (s : State) (p : PrS) : State :=
  let as := (covered p).map (·.1)
  let fresh := (as.map fRgn).dedup.filter fun r => !(s.rgnS r).configured
  let s1 := { s with img := s.img.setAll p.load.img.cells }
  let s2 := fresh.foldl configureRegion s1
  let s3 := (as.filter fun a => !fresh.contains (fRgn a)).foldl (releaseFrame p.load.img) s2
  let iso := isolatedBy p
  let s4 := fenceMended (s3.setCfg { s3.cfg with isolated := s3.cfg.isolated.keep fun k => !iso.contains k }) as
  (prLeave (partDigests s4 p) 1 0).sb F.CFG_EVT_PR_DONE 0 0 true

/-- The covered frames that do not match their checks. -/
def badFrames (s : State) (p : PrS) : List (Nat × BitVec 1024) :=
  (covered p).filter fun x => match s.cfg.frames.get x.1 with | some f => !f.sound x.1 | none => true

/-- Frames rewritten from staging, each with the origin and digest it was recorded with. -/
def rewriteFrames (s : State) (l : List (Nat × BitVec 1024)) : State :=
  let put := fun (t : Tab (Option FrameC) (fun _ => none)) (x : Nat × BitVec 1024) =>
    match t.get x.1 with | some f => t.set x.1 (some (FrameC.put x.1 x.2 f.vol f.dig)) | none => t
  s.setCfg { s.cfg with frames := l.foldl put s.cfg.frames }

/-- PR_VERIFY_DONE (R342, R343): the written frames have been read back and checked against their CRCs. On a first mismatch
the failed frames are rewritten and verified again; on a second the covered clusters are blanked and stay isolated. `upset`:
bits that had flipped since they were written. -/
def execPrVerifyDone (upset : List (Word × BitVec 1024 × BitVec 12)) (s : State) : Host.Outcome State Fault Refusal :=
  let st := s.gf F.CFG_PR_STAT_STATE 0
  s.after <|
    match s.cfg.pr with
    | some p =>
      let s1 := s.setCfg { s.cfg with frames := flipFrames s.cfg.frames upset }
      let bad := badFrames s1 p
      if st ≠ 4 ∧ st ≠ 5 then s
      else if bad.isEmpty then prRelease s1 p
      else if p.retried then
        let gone := (covered p).map (·.1)
        prFail (releaseDigests (s1.setCfg { s1.cfg with frames := s1.cfg.frames.keep fun a => !gone.contains a })) 0x13 false
      else (rewriteFrames (s1.sf F.CFG_PR_STAT_STATE 0 0 5) bad).setCfg
        { (rewriteFrames (s1.sf F.CFG_PR_STAT_STATE 0 0 5) bad).cfg with pr := some { p with retried := true } }
    | none => s

/-! ### Scrubbing (R337 to R339) -/

/-- The logical cluster has been moved to a spare: its own frames are skipped (R311, R337). -/
def moved (s : State) (r c : Nat) : Bool :=
  (List.range 4).any fun i => s.gb F.FAB_SPMAPs_USED (fabB r) i && decide (s.gf F.FAB_SPMAPs_CLUSTER (fabB r) i = c)

/-- Frames that the scrubber reads on a die: configured, those of spares in use among them, not being written, not of a
consumed cluster (R337). -/
def scrubbed (s : State) (d : Nat) : List Nat :=
  let busy : List Nat := match s.cfg.pr with
    | some p => if 4 ≤ s.gf F.CFG_PR_STAT_STATE 0 then (covered p).map (fun q => q.1) else []
    | none => []
  ((s.cfg.frames.cells.map (·.1)).filter fun a =>
    fDie a = d && !busy.contains a && !(fKind a = 0 && decide (fUnit a < 96) && moved s (fRgn a) (fUnit a)))

/-- The frame after the scrubber's last one, in ascending order, from the start again at the end of a pass. -/
def scrubNext (s : State) (d : Nat) : Option Nat :=
  let l := scrubbed s d
  match l.find? fun a => decide (s.cfg.scrub.get d ≤ a) with
  | some a => some a
  | none => l.head?

/-- A CFG_UNCORR alarm (R339). -/
def uncorrAlarm (s : State) (a outcome : Nat) : State :=
  s.raise cfgSrc 0x111 (detailOf [(2, 4, a), (6, 1, outcome)])

/-- An uncorrectable frame (R339): the outcome by where it lies. -/
def uncorrectable (s : State) (a : Nat) (f : FrameC) : State :=
  let s1 := ((s.bump F.CFG_SCRUB_CNT_UNCORR 0).wr R.CFG_SCRUB_LAST 0 0 (BitVec.ofNat 32 a)).sb F.CFG_EVT_UNCORR 0 0 true
  if fDie a ≠ 2 ∧ fenced s (fRgn a) then
    uncorrAlarm (safeOn (s1.setCfg { s1.cfg with
      fencedBad := if s1.cfg.fencedBad.contains a then s1.cfg.fencedBad else s1.cfg.fencedBad ++ [a] }) 6 true false) a 1
  else if f.vol then uncorrAlarm s1 a 4
  else if s1.cfg.reloads.contains a then s1
  else
    let s2 := s1.setCfg { s1.cfg with reloads := s1.cfg.reloads ++ [a] }
    match f.dig.bind fun g => s.cfg.digs.get g.1 with
    | some e => s2.emit (e.read s)
    | none => s2

/-- SCRUB_FRAME (R337 to R339): the next frame of a die is read back; `upset`, `code`, `crc`: bits of its data, its SEC-DED
code and its CRC that have flipped since it was last read. -/
def execScrubFrame (d : Fin 3) (upset : BitVec 1024) (code : BitVec 12) (crc : Word) (s : State) :
    Host.Outcome State Fault Refusal :=
  s.after <|
    if s.gb F.CFG_CTRL_SCRUB_EN 0 = false ∨ imageRuns s = false then s
    else match scrubNext s d.val with
      | none => s
      | some a =>
        match s.cfg.frames.get a with
        | none => s
        | some f =>
          let g := f.flip upset code crc
          let put := fun (x : FrameC) => s.setCfg { s.cfg with
            scrub := s.cfg.scrub.set d.val (a + 1), frames := s.cfg.frames.set a (some x) }
          if g.sound a then put g
          else match g.fixed a with
            | some x => ((put x).bump F.CFG_SCRUB_CNT_CORR 0).sb F.CFG_EVT_CORR 0 0 true
            | none => uncorrectable (put g) a g

/-- The frame that a block read anew from flash gives (R336): the digest matches, and the frame's record is sound. -/
def reloaded (s : State) (f : FrameC) (block : Option (List (BitVec 1088))) : Option (BitVec 1024) :=
  match f.dig, block with
  | some g, some raw =>
    (match s.cfg.digs.get g.1 with
    | some e =>
      (match blockPlain s e raw with
      | some xs => (xs[g.2]?).bind fun x => if recSound x then some (recData x) else none
      | none => none)
    | none => none)
  | _, _ => none

/-- SCRUB_RELOAD_DONE (R336, R339): the reload of the oldest waiting frame ends; `block`: the records of its block as read,
none on an xSPI error. -/
def execScrubReloadDone (block : Option (List (BitVec 1088))) (s : State) : Host.Outcome State Fault Refusal :=
  s.after <|
    match s.cfg.reloads with
    | [] => s
    | a :: l =>
      let s1 := s.setCfg { s.cfg with reloads := l }
      match s.cfg.frames.get a with
      | none => s1
      | some f =>
        match reloaded s f block with
        | some d => uncorrAlarm (s1.setCfg { s1.cfg with frames := s1.cfg.frames.set a (some (FrameC.put a d f.vol f.dig)) }) a 2
        | none => uncorrAlarm (s1.sb F.CFG_EVT_RELOAD_FAIL 0 0 true) a 3

/-! ### OTP commands (R326, R327, R351, R529) -/

def otpResult (s : State) (result cause : Nat) : State :=
  (s.sf F.SEC_OTP_STAT_RESULT 0 0 result).sf F.SEC_OTP_STAT_CAUSE 0 0 cause

/-- The check of an OTP command as written, 0 if it is accepted. -/
def otpCause (s : State) (a : Reader) (op value guard : Nat) : Nat :=
  let slots := s.gf F.SEC_SLOTS_SLOTS 0
  if a = .jtag then 6
  else if guard ≠ 0x5A then 1
  else match op with
    | 1 => if value > 64 ∨ value < s.gf F.SEC_STAT_ROLLBACK 0 ∨ value > s.gf F.CFG_IMAGE_SVN 0 then 2 else 0
    | 2 => if [0, 1, 2, 3].any fun i => i != value % 4 && (slots / 16 ^ i).testBit 0 && !(slots / 16 ^ i).testBit 3 then 0 else 4
    | _ => if s.gb F.SEC_STAT_VTEST_DIS 0 then 5 else 0

/-- A write of SEC_OTP_CMD (R16). -/
def otpWrite (s : State) (a : Reader) (v : Word) : State :=
  let op := fOf v F.SEC_OTP_CMD_OP
  let s1 := ((s.sf F.SEC_OTP_CMD_OP 0 0 (if 1 ≤ op ∧ op ≤ 3 then op else s.gf F.SEC_OTP_CMD_OP 0)).sf
    F.SEC_OTP_CMD_VALUE 0 0 (fOf v F.SEC_OTP_CMD_VALUE)).sf F.SEC_OTP_CMD_GUARD 0 0 (fOf v F.SEC_OTP_CMD_GUARD)
  if a = .jtag then (otpResult s 3 6).sb F.SEC_EVT_REJECT 0 0 true
  else if fOf v F.SEC_OTP_CMD_START = 0 ∨ s.gb F.SEC_OTP_CMD_START 0 ∨ s1.gf F.SEC_OTP_CMD_OP 0 = 0 then s1
  else
    let c := otpCause s1 a (s1.gf F.SEC_OTP_CMD_OP 0) (fOf v F.SEC_OTP_CMD_VALUE) (fOf v F.SEC_OTP_CMD_GUARD)
    if c ≠ 0 then (otpResult s1 3 c).sb F.SEC_EVT_REJECT 0 0 true
    else
      let op := s1.gf F.SEC_OTP_CMD_OP 0
      let s2 := otpResult ((s1.sb F.SEC_OTP_CMD_START 0 0 true).setCfg { s1.cfg with otpCmd := (op, fOf v F.SEC_OTP_CMD_VALUE) }) 0 0
      if op = 1 then s2.emit (.flash 0 (otpGoldenAddr s) []) else s2

/-- The word of an OTP command. -/
def otpWord32 (op value guard : Nat) : Word := BitVec.ofNat 32 (2 ^ 31 + value * 2 ^ 16 + guard * 2 ^ 8 + op)

/-- COMMIT_ROLLBACK. -/
def execCommitRollback (a : Reader) (value guard : Fin 256) (s : State) : Host.Outcome State Fault Refusal :=
  s.after (s.byPath a R.SEC_OTP_CMD.off (otpWrite s a (otpWord32 1 value.val guard.val)))
/-- REVOKE_SLOT. -/
def execRevokeSlot (a : Reader) (value guard : Fin 256) (s : State) : Host.Outcome State Fault Refusal :=
  s.after (s.byPath a R.SEC_OTP_CMD.off (otpWrite s a (otpWord32 2 value.val guard.val)))
/-- BLOW_CONSENT. -/
def execBlowConsent (a : Reader) (guard : Fin 256) (s : State) : Host.Outcome State Fault Refusal :=
  s.after (s.byPath a R.SEC_OTP_CMD.off (otpWrite s a (otpWord32 3 0 guard.val)))

/-- Fuses of a field of an OTP register blown: the field changes in OTP and in the register that shows it. -/
def blow (s : State) (f : Fld) (change : Nat → Nat) : State :=
  let w := s.otp.get (f.reg.addr 0 0)
  let v := change (fOf w f)
  let s1 := s.sf f 0 0 v
  { s1 with otp := s1.otp.set (f.reg.addr 0 0) (w.setBits f.hi f.lo v) }

/-- What an OTP command blows (R326, R327, R529): the rollback counter up to a value, a slot's REVOKED, or CONSENT; no fuse
is ever restored. -/
def otpBlow (s : State) (op v : Nat) : State :=
  match op with
  | 1 => blow s F.SEC_STAT_ROLLBACK fun n => max n (min v 64)
  | 2 => blow s F.SEC_SLOTS_SLOTS fun n => n ||| 8 * 16 ^ (v % 4)
  | _ => blow s F.SEC_STAT_CONSENT fun _ => 1

/-- OTP_COMMAND_DONE (R326, R327, R529). `golden`: the golden image as read from flash, none on an xSPI error; `fuse`: the
fuses verify. -/
def execOtpCommandDone (golden : Option RawImage) (fuse : Bool) (s : State) : Host.Outcome State Fault Refusal :=
  let op := s.cfg.otpCmd.1
  let v := s.cfg.otpCmd.2
  let goldenOk : Bool := match golden with | some x => imageCause s x = 0 && decide (v ≤ hSvn x.hdr) | none => false
  let s1 := s.sb F.SEC_OTP_CMD_START 0 0 false
  if s.gb F.SEC_OTP_CMD_START 0 = false then s.after s
  else if op = 1 ∧ goldenOk = false then s.after ((otpResult s1 3 3).sb F.SEC_EVT_REJECT 0 0 true)
  else if !fuse then s.after (otpResult s1 3 7)
  else s.afterFuses ((otpResult (otpBlow s1 op v) 1 0).sb F.SEC_EVT_OTP_DONE 0 0 true)

/-! ### Host access to flash (R345, R350) -/

def flResult (s : State) (result cause : Nat) : State :=
  (s.sf F.CFG_FL_CMD_RESULT 0 0 result).sf F.CFG_FL_CMD_CAUSE 0 0 cause

/-- A program or erase touches the golden range (R350). -/
def touchesGolden (s : State) (op words : Nat) : Bool :=
  let first := s.gf F.CFG_FL_ADDR_ADDR 0
  let last := if op = 2 then first else first + 4 * words + 3
  let cs := (otpGoldenAddr s).getLsbD 31
  op != 0 && s.gb F.CFG_FL_ADDR_CS 0 == cs && decide (first / 65536 < otpGoldenBase s + otpGoldenLen s)
    && decide (otpGoldenBase s ≤ last / 65536)

/-- A write of CFG_FL_CMD (R16, R350). -/
def flWrite (s : State) (v : Word) : State :=
  let op := fOf v F.CFG_FL_CMD_OP
  let s1 := (s.sf F.CFG_FL_CMD_OP 0 0 (if op = 3 then s.gf F.CFG_FL_CMD_OP 0 else op)).sf F.CFG_FL_CMD_WORDS 0 0
    (fOf v F.CFG_FL_CMD_WORDS)
  if fOf v F.CFG_FL_CMD_START = 0 ∨ s.gb F.CFG_FL_CMD_START 0 then s1
  else
    let o := s1.gf F.CFG_FL_CMD_OP 0
    let n := s1.gf F.CFG_FL_CMD_WORDS 0
    if touchesGolden s1 o n then (flResult s1 3 1).sb F.CFG_EVT_REJECT 0 0 true
    else
      let ws := if o = 1 then (List.range (n + 1)).map fun i => s1.rd R.CFG_FL_BUF 0 i else []
      let s2 := (flResult (s1.sb F.CFG_FL_CMD_START 0 0 true) 0 0).setCfg { s1.cfg with jobs := s1.cfg.jobs ++ [.host o n] }
      s2.emit (.flash o (s.rd R.CFG_FL_ADDR 0) ws)

/-- FLASH_READ. -/
def execFlashRead (a : Reader) (words : Fin 64) (s : State) : Host.Outcome State Fault Refusal :=
  s.after (s.byPath a R.CFG_FL_CMD.off (flWrite s (BitVec.ofNat 32 (2 ^ 31 + words.val))))
/-- FLASH_PROGRAM. -/
def execFlashProgram (a : Reader) (words : Fin 64) (s : State) : Host.Outcome State Fault Refusal :=
  s.after (s.byPath a R.CFG_FL_CMD.off (flWrite s (BitVec.ofNat 32 (2 ^ 31 + 2 ^ 16 + words.val))))
/-- FLASH_ERASE. -/
def execFlashErase (a : Reader) (s : State) : Host.Outcome State Fault Refusal :=
  s.after (s.byPath a R.CFG_FL_CMD.off (flWrite s (BitVec.ofNat 32 (2 ^ 31 + 2 * 2 ^ 16 + s.gf F.CFG_FL_CMD_WORDS 0))))

/-- The end of a ledger's write to flash (R521, R522): the copy stands in its sector, or the write failed. -/
def ledgerWritten (s : State) (ok : Bool) : State :=
  let sync := s.sett.mirror = some true
  let x := s.sett
  let s1 := if ok then
      { s with sett := { x with copies := x.copies.set x.sector (some (ledgerOf s)), sector := 1 - x.sector, dirty := false,
                                mirror := none } }
    else
      (({ s with sett := { x with mirror := none } }).setOwn F.SETT_EVT_LEDGER_FAIL 0 1).raise settSrc 0x16B
        (detailOf [(2, 1, 2)])
  if sync then
    ((s1.setOwn F.SETT_CMD_START 0 0).setOwn F.SETT_CMD_STAT_RESULT 0 (if ok then 1 else 3)).setOwn F.SETT_CMD_STAT_CAUSE 0
      (if ok then 0 else 7)
  else s1

/-- FLASH_COMMAND_DONE (R345, R350, R521): the oldest flash command ends; a read leaves its words in CFG_FL_BUF. -/
def execFlashCommandDone (ok : Bool) (data : List Word) (s : State) : Host.Outcome State Fault Refusal :=
  s.after <|
    match s.cfg.jobs with
    | [] => s
    | .ledger :: l => ledgerWritten (s.setCfg { s.cfg with jobs := l }) ok
    | .host op words :: l =>
      let s1 := (s.setCfg { s.cfg with jobs := l }).sb F.CFG_FL_CMD_START 0 0 false
      if !ok then flResult s1 3 2
      else
        let put := fun (s : State) (p : Nat × Word) => s.wr R.CFG_FL_BUF 0 p.1 p.2
        let s2 := if op = 0 then ((List.range 64).zip (data.take (words + 1))).foldl put s1 else s1
        flResult s2 1 0

end Sys2Proof.Machine
end

