-- ==== Sys2Proof/Machine/Clock.lean ====
section
/-!
DEFINITION. Time, temperature, voltage and clocks: the regions' copies of Herd Time, the temperature sensors, voltage and
frequency requests, the timebase and the fast clocks (01_architecture.md, R35, R36, R40 to R43, R50, R52, R55 to R65;
R87, R539).
-/

namespace Sys2Proof.Machine

/-! ### Herd Time copies and the die-to-die link (R36, R52) -/

/-- HERD_TIME_REFRESH (R52). -/
def execHerdTimeRefresh (s : State) : Host.Outcome State Fault Refusal :=
  s.after ((List.range 16).foldl (fun s r => s.setRgn r { s.rgnS r with timeOfs := 0 }) s)

/-- DIE_LINK_REPLAY (R36, R373): the replay delays the oldest record on the die's link by `ns`, at most 20. -/
def execDieLinkReplay (d : Fin 2) (ns : Nat) (s : State) : Host.Outcome State Fault Refusal :=
  let h := hopLink d.val
  let l := match s.spoor.hops.get h with
    | i :: l => { i with linkNs := i.linkNs + min 20 ns } :: l
    | [] => []
  s.after { s with spoor := { s.spoor with hops := s.spoor.hops.set h l } }

/-! ### Temperature (R35, R40, R43, R87, R153, R539) -/

/-- A reading in m°C rounded to 0.25 °C, ties upward (R35). -/
def quarterDegrees (x : Int) : Int := (4 * x + 500) / 1000

/-- Two regions of one die are adjacent (R40). -/
def adjacent (a b : Nat) : Bool := decide (a + 1 = b)

/-- A pair of regions, lower first, beyond its limit of R40. -/
def spread (t : Nat → Int) (a b : Nat) : Bool :=
  decide ((if adjacent a b then 100 else 140) < (t a - t b).natAbs)

/-- The pairs of regions of a die. -/
def diePairs : List (Rgn × Rgn) :=
  ((List.finRange 16).map fun a => ((List.finRange 16).filter fun b =>
    decide (a.val < b.val) && decide (dieOf a.val = dieOf b.val)).map fun b => (a, b)).flatten

/-- A breach that begins with this sample: both regions are flagged and TEMP_SPREAD is raised (R43). -/
def spreadBegins (s : State) (t : Nat → Int) (p : Rgn × Rgn) : State :=
  ((s.sb F.RGN_EVT_TSPREAD (rgB p.1.val) 0 true).sb F.RGN_EVT_TSPREAD (rgB p.2.val) 0 true).raise (srcRgn p.1 unitRgn) 0x1
    (detailOf [(2, 1, p.1.val), (3, 1, p.2.val), (4, 2, codeOf 16 (t p.1.val - t p.2.val)),
      (6, 1, if adjacent p.1.val p.2.val then 1 else 2)])

/-- The temperature limits after a sample; `old` are the temperatures before it. -/
def checkSpread (s : State) (old new : Nat → Int) : State :=
  let bad := diePairs.filter fun p => spread new p.1.val p.2.val
  let s1 := (List.range 16).foldl (fun s r =>
    s.sb F.RGN_STAT_TSPREAD (rgB r) 0 (bad.any fun p => p.1.val = r || p.2.val = r)) s
  (bad.filter fun p => !spread old p.1.val p.2.val).foldl (fun s p => spreadBegins s new p) s1

/-- R539 for one region: whether this sample is the second at 140.0 °C or more, and the counts kept. -/
def heat (x : RgnS) (t : Int) : Bool × RgnS :=
  (x.hot && decide (560 ≤ t), { x with hot := decide (560 ≤ t), cool := if t ≤ 520 then min 2 (x.cool + 1) else 0 })

/-- A region's sample: RGN_TEMP, R539, the start of a retrim (R87), the held skews (R153) and calibrations that
run (R139). -/
def sampleRegion (s : State) (r : Nat) (t : Int) : State :=
  let h := heat (s.rgnS r) t
  let x : RgnS := { h.2 with trimming := h.2.trimming || decide (40 ≤ (t - h.2.trimTemp).natAbs) }
  let s1 := (s.sf F.RGN_TEMP_TEMP (rgB r) 0 (codeOf 16 t)).setRgn r x
  let s2 := (List.range 4).foldl (fun s g => calSample (skewTrack s r g t) r g t) s1
  if h.1 then safeOn s2 5 true true else s2

/-- TEMP_SAMPLE (R35): the sensors' readings in m°C, region 00 first. -/
def execTempSample (readings : List Int) (s : State) : Host.Outcome State Fault Refusal :=
  if readings.length = 16 then
    let ts := readings.map quarterDegrees
    let new := fun (r : Nat) => ts.getD r 0
    let s1 := (List.range 16).foldl (fun s r => sampleRegion s r (new r)) s
    let s2 := checkSpread s1 (tempOf s) new
    s.after (if (List.range 16).all (fun r => (s2.rgnS r).cool = 2) && s2.sett.safeCond.testBit 5 then s2.safeRelease 5 else s2)
  else .fault (.illFormed "TEMP_SAMPLE")

/-- REF_TRIM_DONE (R87). -/
def execRefTrimDone (r : Rgn) (s : State) : Host.Outcome State Fault Refusal := s.after (trimmed s r.val)

/-! ### Voltage and frequency (R41, R42, R105, R286) -/

/-- The fast clock that the running groups of a region need, in MHz (R104). -/
def needMhz (s : State) (r : Nat) : Nat :=
  (List.range 4).foldl (fun n g => max n (match cgState s r g with | 3 => 200 | 4 => 400 | 5 => 400 | _ => 0)) 0

/-- R105: a lowered clock would fall below what a running group needs. -/
def tooSlow (s : State) (r freq : Nat) : Bool := decide (mhzOf freq < s.fclk r) && decide (mhzOf freq < needMhz s r)

/-- A request is refused (R42, R105, R286). -/
def vfBad (s : State) (r volt freq : Nat) : Bool :=
  decide (maxMhz volt < mhzOf freq) || tooSlow s r freq || decide (volt < s.gf F.FAB_VMIN_VMIN (fabB r))

/-- A request starts: a lowered voltage takes the new frequency first, a raised one last (R42); without a ramp the change
is over at once. -/
def vfStart (s : State) (r volt freq : Nat) : State :=
  let cur := s.gf F.RGN_VF_VOLT (rgB r)
  if cur < volt then s.setRgn r { s.rgnS r with vfBusy := some (volt, freq), vfVoltFirst := true, vfWait := none }
  else
    let s1 := s.sf F.RGN_VF_FREQ (rgB r) 0 freq
    s1.setRgn r { s1.rgnS r with vfBusy := if volt = cur then none else some (volt, freq), vfVoltFirst := false, vfWait := none }

/-- A write of RGN_VF (R29, R42); an unlisted FREQ keeps the one in force (R13). -/
def vfWrite (s : State) (a : Reader) (r : Nat) (v : Word) : State :=
  s.asOwner a r fun s =>
    let volt := fOf v F.RGN_VF_VOLT
    let freq := if fOf v F.RGN_VF_FREQ ≤ 20 then fOf v F.RGN_VF_FREQ else s.gf F.RGN_VF_FREQ (rgB r)
    if vfBad s r volt freq then s.sb F.RGN_EVT_VF_REJ (rgB r) 0 true
    else if (s.rgnS r).vfBusy.isSome then s.setRgn r { s.rgnS r with vfWait := some (volt, freq) }
    else vfStart s r volt freq

/-- VF_REQUEST (R42). -/
def execVfRequest (a : Reader) (r : Rgn) (v : Word) (s : State) : Host.Outcome State Fault Refusal :=
  s.after (vfWrite s a r.val v)

/-- A waiting request that R105 refuses when it is to start is flagged and forgotten (R42). -/
def vfRecheck (s : State) (r : Nat) : State :=
  match (s.rgnS r).vfWait with
  | some w =>
    if tooSlow s r w.2 then
      (s.setRgn r { s.rgnS r with vfWait := none }).sb F.RGN_EVT_VF_REJ (rgB r) 0 true
    else s
  | none => s

/-- VF_CHANGE_END (R42): the values of the change are in force. -/
def execVfChangeEnd (r : Rgn) (s : State) : Host.Outcome State Fault Refusal :=
  let x := s.rgnS r.val
  s.after <|
    match x.vfBusy with
    | some w =>
      let s1 := s.sf F.RGN_VF_VOLT (rgB r.val) 0 w.1
      let s2 := if x.vfVoltFirst then s1.sf F.RGN_VF_FREQ (rgB r.val) 0 w.2 else s1
      vfRecheck (s2.setRgn r.val { x with vfBusy := none, vfVoltFirst := false }) r.val
    | none => s

/-- VF_WAITING_START (R42). -/
def execVfWaitingStart (r : Rgn) (s : State) : Host.Outcome State Fault Refusal :=
  s.after <|
    if (s.rgnS r.val).vfBusy.isSome then s
    else
      let s1 := vfRecheck s r.val
      match (s1.rgnS r.val).vfWait with
      | some w => vfStart s1 r.val w.1 w.2
      | none => s1

/-! ### The Safe request ball (R50, R500) -/

/-- SAFE_N_ASSERT (R50). -/
def execSafeNAssert (s : State) : Host.Outcome State Fault Refusal :=
  s.after (safeOn { s with sett := { s.sett with safeNLow := true } } 0 true false)

/-- SAFE_N_RELEASE (R500): the source ends when the ball is released. -/
def execSafeNRelease (s : State) : Host.Outcome State Fault Refusal :=
  s.after (({ s with sett := { s.sett with safeNLow := false } }).safeRelease 0)

/-! ### Timebase and oscillators (R55 to R57) -/

/-- PLL_SWITCH (R55): cause 0 loss of lock, 1 drift. A second failure finds no free PLL (R525 bit 0). -/
def execPllSwitch (cause : Fin 2) (s : State) : Host.Outcome State Fault Refusal :=
  let s1 := s.raise timebase 0x100 (detailOf [(2, 1, s.hub.pll), (3, 1, cause.val + 1)])
  s.after <|
    if s.hub.pllSpareUsed then s1.failPermanent
    else ({ s1 with hub := { s1.hub with pll := 1 - s.hub.pll, pllSpareUsed := true } }).useSpare 10 0 0 0

/-- REFCLK_LOSS (R56). -/
def execRefclkLoss (s : State) : Host.Outcome State Fault Refusal :=
  s.after (({ s with hub := { s.hub with refclkLost := true } }).raise timebase 0x101 (detailOf []))

/-- XTAL_FAIL (R57, R508): the Sett runs from the RC backup, which consumes the oscillator spare. -/
def execXtalFail (s : State) : Host.Outcome State Fault Refusal :=
  s.after <|
    if s.sett.rcOsc then s
    else
      let s1 := { s with sett := { s.sett with rcOsc := true } }
      ((s1.setOwn F.SETT_EVT_XTAL 0 1).raise settSrc 0x161 (detailOf [])).useSpare 11 0 0 0

/-! ### Fast clocks (R58, R60 to R64, R260, R264) -/

/-- The image marks a clock tree of the region as always-on (R60; log entry 19). -/
def alwaysOn (s : State) (r : Nat) : Bool := s.img.get (0x290_0000 + r) != 0

/-- A record waits in the region (R60). -/
def recordsWait (s : State) (r : Nat) : Bool :=
  ((List.range 20).any fun c => !(s.spoor.hops.get (hopCluster r c)).isEmpty) || !(s.spoor.hops.get (hopRegion r)).isEmpty
    || s.spoor.srcQ.cells.any fun c => c.1 / 256 = r && !c.2.isEmpty

/-- A region has a reason to run its fast clock (R60, R61). A rail counts as regulated while LIVE reads 1, of a Failed group
or a Faulted engine too (log entry 207). -/
def hasReason (s : State) (r : Nat) : Bool :=
  hasWork s r || recordsWait s r || (s.fab r).runReq || alwaysOn s r || s.gb F.RGN_STAT_RESET (rgB r)
    || (match s.cfg.pr with | some p => p.accepted && (covered p).any (fun c => fRgn c.1 = r) | none => false)

/-- A region's fast clock is Running again: events captured meanwhile become pending, and the converter groups take up
their service windows (R63, R149, R160, R260). -/
def clockRun (s : State) (r : Nat) : State :=
  let x := s.rgnS r
  let s1 := (s.setClk r 0).setRgn r { x with synthOn := false, evCap := 0 }
  let s2 := s1.sf F.LE_EVPEND_PEND (leB r) 0 (s1.gf F.LE_EVPEND_PEND (leB r) ||| x.evCap)
  (List.range 4).foldl (fun s g => cgClockRestart s r g) s2

/-- A stopped clock starts: from Gated it runs, from Cold its synthesiser starts (R58, R60). -/
def clockStart (s : State) (r : Nat) : State :=
  if s.clk r = 1 then clockRun s r
  else if s.clk r = 2 then s.setRgn r { s.rgnS r with synthOn := true }
  else s

/-- CLOCK_START (R60, R65): pending work starts a stopped clock, or the write that gave it has started it. -/
def execClockStart (r : Rgn) (s : State) : Host.Outcome State Fault Refusal :=
  s.after (if hasReason s r.val || (s.rgnS r.val).synthOn then clockStart s r.val else s)

/-- REGION_WAKE (R63, R64, R195). -/
def execRegionWake (r : Rgn) (s : State) : Host.Outcome State Fault Refusal := s.after (clockStart (s.wake r.val) r.val)

/-- SYNTH_LOCK (R63): 400 ns after its start the synthesiser is locked and the clock Running. -/
def execSynthLock (r : Rgn) (s : State) : Host.Outcome State Fault Refusal :=
  s.after <|
    if (s.rgnS r.val).synthOn ∧ (s.clk r.val = 1 ∨ s.clk r.val = 2) then clockRun s r.val else s

/-- CLOCK_GATE (R62): after 32 cycles without a reason to run. -/
def execClockGate (r : Rgn) (s : State) : Host.Outcome State Fault Refusal :=
  s.after <|
    if s.clk r.val = 0 ∧ hasReason s r.val = false then
      (List.range 4).foldl (fun s g => cgClockStop s r.val g) (s.setClk r.val 1)
    else s

/-- CLOCK_COLD (R62): the Gated-to-Cold time has passed; with COLD_T 0 the clock never goes Cold. -/
def execClockCold (r : Rgn) (s : State) : Host.Outcome State Fault Refusal :=
  s.after <|
    if s.clk r.val = 1 ∧ (s.rgnS r.val).synthOn = false ∧ s.gf F.RGN_CTRL_COLD_T (rgB r.val) ≠ 0 then s.setClk r.val 2 else s

end Sys2Proof.Machine
end

