-- ==== Sys2Proof/Machine/Energy.lean ====
section
/-!
DEFINITION. The energy accumulators: folds, reads, completion after a brown-out, telemetry (14_modes_and_sett.md, R514 to
R518; the increments stand in Delivery.lean).
-/

namespace Sys2Proof.Machine

/-! ### Folds (R515) -/

def State.setFold (s : State) (n : Nat) (x : FoldS) : State :=
  { s with sett := { s.sett with folds := s.sett.folds.set n x } }

/-- Step 1 of a fold, the sum taken; with CLR the accumulator and its pending state are zeroed instead (R516). -/
def foldFirst (s : State) (n : Nat) : State :=
  let sum := s.sett.sums.get n
  let s1 := { s with sett := { s.sett with sums := s.sett.sums.set n 0 } }
  if s.ownB F.SETT_ACCn_CFG_CLR n then
    ((((s1.setOwnW R.SETT_ACCn_C0 n 0).setOwnW R.SETT_ACCn_C1 n 0).setOwnW R.SETT_ACCn_C2 n 0).setOwn
      F.SETT_ACCn_CFG_CLR n 0).setFold n ⟨none, false⟩
  else
    let c := (s.ownW R.SETT_ACCn_C0 n).toNat + sum % 2 ^ 32
    let add := sum / 2 ^ 32 + c / 2 ^ 32
    (s1.setOwnW R.SETT_ACCn_C0 n (BitVec.ofNat 32 c)).setFold n
      { s.sett.folds.get n with add1 := if add = 0 then none else some (BitVec.ofNat 64 add) }

/-- Step 2 if it has not been made, else step 3 (R515). -/
def foldNext (s : State) (n : Nat) : State :=
  let x := s.sett.folds.get n
  match x.add1 with
  | some a =>
    let c := (s.ownW R.SETT_ACCn_C1 n).toNat + a.toNat
    (s.setOwnW R.SETT_ACCn_C1 n (BitVec.ofNat 32 c)).setFold n ⟨none, decide (2 ^ 32 ≤ c)⟩
  | none =>
    if x.carry2 then (s.setOwnW R.SETT_ACCn_C2 n (s.ownW R.SETT_ACCn_C2 n + 1)).setFold n ⟨none, false⟩ else s

/-- The next step of every fold in progress, as one Sett cycle makes it. -/
def foldStep (s : State) : State := (s.sett.folds.cells.map (·.1)).foldl foldNext s

/-- Every pending step made (R517). -/
def foldFinish (s : State) : State := foldStep (foldStep s)

/-- The accumulators that a fold changes: those with a sum or with CLR. -/
def foldKeys (s : State) : List Nat :=
  (List.range 128).filter fun n => s.sett.sums.get n != 0 || s.ownB F.SETT_ACCn_CFG_CLR n

/-- Step 1 of the next fold; a step of the last one still to come is made first. -/
def foldBegin (s : State) : State := (foldKeys s).foldl foldFirst (foldFinish s)

/-- ENERGY_FOLD (R515): every 4 Sett cycles; steps 2 and 3 follow with the next Sett cycles. -/
def execEnergyFold (s : State) : Host.Outcome State Fault Refusal :=
  s.after (if s.sett.brownOut then s else foldBegin s)

/-! ### Reads (R516, R517) -/

/-- The cells of an accumulator as they read at C0: pending addend and carry added; 0 while ENERGY_VALID is 0. -/
def accCells (s : State) (n : Nat) : Word × Word × Word :=
  if s.ownB F.SETT_ACC_STAT_ENERGY_VALID then
    let x := s.sett.folds.get n
    let c1 := (s.ownW R.SETT_ACCn_C1 n).toNat + (match x.add1 with | some a => a.toNat | none => 0)
    let c2 := (s.ownW R.SETT_ACCn_C2 n).toNat + (if x.carry2 then 1 else 0) + c1 / 2 ^ 32
    (s.ownW R.SETT_ACCn_C0 n, BitVec.ofNat 32 c1, BitVec.ofNat 32 c2)
  else (0, 0, 0)

/-- A read of C0 latches C1 and C2 for that reader. -/
def accRead (s : State) (a : Reader) (n : Nat) : State × Word :=
  let c := accCells s n
  let k := a.code * 2 ^ 25 + R.SETT_ACCn_C0.addr 0 n
  ({ s with hold := (s.hold.set (k + 4) (some c.2.1)).set (k + 8) (some c.2.2) }, c.1)

/-- A read of C1 (1) or C2 (2): the held value, whose register empties; with nothing held, the live cell. -/
def accHeld (s : State) (a : Reader) (n w : Nat) : State × Word :=
  let k := a.code * 2 ^ 25 + R.SETT_ACCn_C0.addr 0 n + 4 * w
  match s.hold.get k with
  | some v => ({ s with hold := s.hold.set k none }, v)
  | none =>
    (s, if s.ownB F.SETT_ACC_STAT_ENERGY_VALID then s.ownW (if w = 1 then R.SETT_ACCn_C1 else R.SETT_ACCn_C2) n else 0)

/-- ACC_C0_READ (R516). -/
def execAccC0Read (a : Reader) (n : Fin 128) (s : State) : Host.Outcome State Fault Refusal :=
  let x := accRead s a n.val
  s.after (s.byPath a R.SETT_ACCn_C0.off (x.1.answer a (x.2.setWidth 64)))

/-! ### Telemetry (R518) -/

/-- The telemetry record of an accumulator. -/
def energyRecord (s : State) (n : Nat) : Item :=
  let c := accCells s n
  mkItem s settSrc 0 2 (s.own F.SETT_ACC_CTRL_FLOW) 0
    (payloadOf [(0, 2, 0x16F), (2, 2, n), (4, 4, c.1.toNat), (8, 4, c.2.1.toNat), (12, 4, c.2.2.toNat)])

/-- ENERGY_TELEMETRY: one record per enabled accumulator. -/
def execEnergyTelemetry (s : State) : Host.Outcome State Fault Refusal :=
  s.after <|
    if s.sett.brownOut || !s.ownB F.SETT_ACC_CTRL_TEL_EN then s
    else ((List.range 128).filter fun n => s.ownB F.SETT_ACCn_CFG_EN n).foldl (fun s n => s.produce (energyRecord s n)) s

/-! ### Loss of the pending sums (R515) -/

/-- The pending sums are lost; ENERGY_GAP tells how many, with the cycles since the last fold (between folds no register
counts them: a free value). -/
def sumsLost (s : State) : State :=
  let n := (s.sett.sums.cells.filter fun c => c.1 < 128).length
  if n = 0 then s
  else
    let f := s.free
    ({ f.2 with sett := { f.2.sett with sums := .empty } }).raise settSrc 0x168 (detailOf [(2, 2, n), (4, 4, f.1.toNat)])

end Sys2Proof.Machine
end

