-- ==== Sys2Proof/Machine/Power.lean ====
section
/-!
DEFINITION. Power-up and power-down, the resets of the package and of a region, the monitored supplies and the wakes
(14_modes_and_sett.md, R491, R493 to R499, R507, R509, R510).
-/

namespace Sys2Proof.Machine

/-! ### The reset of the Hub and Field dies (R498, R499) -/

/-- Addresses of the registers that the Sett holds for ports K and L (R482): their configuration and PIN_OUT5. -/
def settPinRegs : List Nat := 0x70054 :: ((List.range 32).map fun i => [0x71000 + 8 * (160 + i), 0x71004 + 8 * (160 + i)]).flatten

/-- The block kinds whose registers stand on the Hub and Field dies. -/
def dieBlks : List Blk := [.hub, .cfg, .sec, .spr, .pmap, .host, .herd, .pin, .ac, .cg, .pg, .le, .fab, .rgn]

/-- Every register of the dies at its reset value: no image is loaded, ledger and OTP fields and the pins that the Sett
holds stay. -/
def dieRegs (s : State) : State :=
  let kept := settPinRegs.map fun a => (a, s.regs.pin.get a)
  let s1 := dieBlks.foldl (fun s b => resetFile s b 0 0x200_0000) { s with img := .empty }
  { s1 with regs := { s1.regs with pin := s1.regs.pin.setAll kept, sett := s.sett.own } }

/-- What stands at the balls, and what the Sett and the ledger hold, when the dies are reset: the rest at its reset value. -/
def dieHidden (s : State) : State :=
  { s with
    hub := { HubS.reset with base := s.hub.base, pll := s.hub.pll, pllSpareUsed := s.hub.pllSpareUsed },
    rgn := s.rgn.mapAll fun _ x => { RgnS.reset with injNow := x.injNow, injSettle := x.injSettle, injEnd := x.injEnd },
    ana := .empty, conv := .empty, comp := .empty, pwm := .empty, slots := .empty, pgSub := .empty, engines := .empty,
    lemem := .empty, fabs := s.fabs.mapAll fun _ x => { FabS.reset with rowMap := x.rowMap },
    cfg := CfgS.reset, spoor := SpoorS.reset, pmap := PmapS.reset, herd := HerdS.reset,
    host := { HostS.reset with ball := s.host.ball, kept := s.host.kept, lastDone := s.host.lastDone, lastErr := s.host.lastErr,
                               jtag := s.host.jtag, ports := s.host.ports.mapAll fun _ x => { HPort.reset with perst := x.perst } },
    hold := .empty, stage := .empty,
    sett := { s.sett with
      writes := [], safe := false, safeCond := (if s.sett.safeNLow then 1 else 0) + (if s.sett.supplyBad = 0 then 0 else 8), safeLatch := 0, doze := false, rdoMask := 0,
      vtestBusy := false, sums := .empty, rowErr := .empty, colRows := .empty } }

/-- A ledger write that the reset meets has failed (R522). -/
def dropLedgerWrite (s : State) : State := if s.sett.mirror.isSome then ledgerWritten s false else s

/-- A READOUT that the reset meets is over (R507). -/
def dropReadout (s : State) : State := if s.sett.rdoMask = 0 then s else s.setOwn F.SETT_CMD_START 0 0

/-- The Hub and both Field dies return to their reset values (R498, R499, R507). Pending energy sums are lost (R515); Safe
hold, Torpor, freezes and Doze end. -/
def diesReset (s : State) : State :=
  let n := s.sett.sums.cells.length
  let s0 := if hubOn s then
      let t := keepLevels s
      { t with host := { t.host with lastDone := s.gb F.CFG_STAT_CFG_DONE 0, lastErr := s.gb F.CFG_STAT_CFG_ERR 0 } }
    else s
  let s1 := dropReadout (dropLedgerWrite (if s.safeHold then s0.logMode else s0))
  let s2 := dieHidden ((List.range 16).foldl hiddenReset s1)
  let s3 := dieRegs (s2.setOwn F.SETT_SAFE_NOW 0 s2.safeNow)
  let s4 := (List.range 16).foldl showInjected
    ([0, 1].foldl (fun s p => s.sb F.HOST_p_STAT_PERST 0 p (s.host.ports.get p).perst) s3)
  let s5 := syncSafeIn s4
  if n = 0 then s5 else sumsLost { s5 with sett := { s5.sett with sums := s.sett.sums } }

def State.setPhase (s : State) (p : Phase) (step : Nat) : State := { s with sett := { s.sett with phase := p, pwrStep := step } }

/-- Step 3 of the power-up, t0 (R493): from here the xSPI balls are driven (R472). -/
def State.atT0 (s : State) : State :=
  let t := s.setPhase .powerUp 3
  { t with sett := { t.sett with porstAt := s.hub.base } }

/-- The package reset (R498): power-up goes on from step 3 of R493, which waits for PORST_N and REFCLK25. -/
def packageReset (s : State) : State :=
  match s.sett.phase with
  | .off => s
  | .dormant => s
  | _ => (diesReset s).setPhase .powerUp (if s.sett.porstLow then 2 else 3)

/-- PACKAGE_RESET: WRST_N. -/
def execPackageReset (s : State) : Host.Outcome State Fault Refusal := s.after (packageReset s)

/-- SETT_ registers that a power-on reset or a brown-out leaves: those whose Reset column says Retained or Ledger (R498,
R509). -/
def retained (a : Nat) : Bool :=
  ownLedger a || a = 0x10004C || a = 0x100050 || (decide (0x100020 ≤ a) && decide (a < 0x100040)) || decide (0x101000 ≤ a)

/-- The SETT_ registers other than retained fields at their reset values, those of the image that runs among them; of SETT_ACC_STAT the mark of lost accumulators
stays with the accumulators it tells of. -/
def settRegsReset (s : State) : State :=
  let lost := s.own F.SETT_ACC_STAT_LOST
  let s1 := { s with sett := { s.sett with own := s.sett.own.keep retained, exporting := false } }
  let s2 := (List.range 128).foldl (fun s n => s.setOwn F.SETT_ACCn_CFG_CLR n 0) s1
  (settImage (s2.setOwn F.SETT_ACC_STAT_LOST 0 lost)).setOwn F.SETT_SAFE_NOW 0 s2.safeNow

/-- The mirror of the SETT_ registers shows what the Sett holds (R68). -/
def mirrorNow (s : State) : State := { s with regs := { s.regs with sett := s.sett.own } }

/-! ### Wakes (R507, R510) -/

/-- A wake: from Dormant it starts the power-up sequence; during a power-down it is kept until that completes. -/
def wakeUp (s : State) (cause : Nat) : State :=
  if s.sett.dormantReq then { s with sett := { s.sett with wakePend := some cause } }
  else if s.sett.phase = .dormant then
    ((s.logMode.setPhase .powerUp 0).setOwn F.SETT_WAKE_CAUSE 0 cause).setOwn F.SETT_EVT_WAKE 0 1
  else s

/-- POWER_ON_RESET (R498, R510, R530): PORST_N low for 1 µs; in Dormant it wakes the package. Vendor test ends. -/
def execPowerOnReset (s : State) : Host.Outcome State Fault Refusal :=
  let s0 := { s with sett := { s.sett with porstLow := true } }
  s.after <|
    match s.sett.phase with
    | .off => s0
    | .dormant => mirrorNow (wakeUp (settRegsReset s0) 3)
    | _ =>
      let s1 := if s0.sett.vendor then ({ s0 with sett := { s0.sett with vendor := false } }).logMode else s0
      let s2 := { s1 with sett := { s1.sett with dormantReq := false, wakePend := none } }
      mirrorNow (settRegsReset ((diesReset s2).setPhase .powerUp 2))

/-- PORST_N_DEASSERT (R493 step 3): with the supplies in range the power-up is at t0. -/
def execPorstNDeassert (s : State) : Host.Outcome State Fault Refusal :=
  let s1 := { s with sett := { s.sett with porstLow := false } }
  s.after (if s1.sett.phase = .powerUp ∧ s1.sett.pwrStep = 2 then s1.atT0 else s1)

/-- POWER_UP (R493, R495): the supply enables are driven in ascending k and the supplies are in range; with PORST_N high and
REFCLK25 present the package is at t0. -/
def execPowerUp (s : State) : Host.Outcome State Fault Refusal :=
  s.after <|
    if s.sett.phase = .powerUp ∧ s.sett.pwrStep < 3 then
      let on := [0, 1, 2, 3].foldl (fun s k => drivePwr s k true) s
      let s1 := if s.sett.porstLow then on.setPhase .powerUp 2 else on.atT0
      ({ s1 with sett := { s1.sett with supplyBad := 0 } }).safeRelease 3
    else s

/-- HERD_TIME_START (R434, R493): both timebase PLLs have locked. -/
def execHerdTimeStart (s : State) : Host.Outcome State Fault Refusal :=
  let on := match s.sett.phase with
    | .off => false
    | .dormant => false
    | .powerUp => decide (s.sett.pwrStep = 3)
    | _ => true
  s.after (if on && !s.hub.timeOn then { s with hub := { s.hub with time := 0, frac := 0, timeOn := true } } else s)

/-! ### Dormant (R495 to R497) -/

/-- A converter group or Loop Engine of the package has LIVE = 1. -/
def anyLive (s : State) : Bool :=
  (List.range 16).any fun r => s.gb F.LE_CTRL_LIVE (leB r) || [0, 1, 2, 3].any fun g => s.gb F.CG_CTRL_LIVE (cgB r g)

/-- A power-down that has been accepted: Herd transmitters off, host terminations removed (R496 step 2). -/
def linksOff (s : State) : State :=
  let s1 := [0, 1].foldl (fun s p => s.wr R.HOST_p_STAT 0 p ((s.rd R.HOST_p_STAT 0 p).setBits 31 20 0)) s
  let s2 := { s1 with pmap := { s1.pmap with credits := (s1.pmap.credits.set 0 0).set 1 0 } }
  portsOff s2

/-- The package is in Dormant: its dies held in reset, the entry logged (R490, R512). -/
def enterDormant (s : State) : State :=
  let s0 := (diesReset s).setPhase .dormant 0
  let s1 := { s0 with host := { s0.host with jtag := JtagS.reset } }
  (({ s1 with sett := { s1.sett with dormantReq := false, supplyBad := 0 } }).setOwn F.SETT_CMD_START 0 0).logMode

/-- The remaining energy increments folded (R496 step 3). -/
def foldRest (s : State) : State := foldFinish (foldBegin s)

/-- The ledger mirrored if it has changed (R496 step 3). -/
def mirrorRest (s : State) : State :=
  if s.sett.dirty then
    { s with sett := { s.sett with copies := s.sett.copies.set s.sett.sector (some (ledgerOf s)),
                                   sector := 1 - s.sett.sector, dirty := false } }
  else s

/-- DORMANT_COMPLETE (R496 steps 3 and 4): the supply enables go low in descending k, and a wake that came meanwhile starts the
power-up (R507). -/
def execDormantComplete (s : State) : Host.Outcome State Fault Refusal :=
  s.after <|
    if s.sett.dormantReq then
      let s1 := (enterDormant (mirrorRest (foldRest s))).setOwn F.SETT_CMD_STAT_RESULT 0 1
      let s2 := [3, 2, 1, 0].foldl (fun s k => drivePwr s k false) s1
      match s.sett.wakePend with
      | some c => wakeUp { s2 with sett := { s2.sett with wakePend := none } } c
      | none => s2
    else s

/-- SUPPLY_FAULT (R497): 0 VDD_CORE, 1 VDD_HUB, 2 VDDA, 3 VDD_SER, 4 VIO_PWM, from Loading on. -/
def execSupplyFault (code : Fin 5) (s : State) : Host.Outcome State Fault Refusal :=
  s.after (if hubOn s then safeOn { s with sett := { s.sett with supplyBad := code.val + 1 } } 3 true true else s)

/-- SUPPLY_LOSS_DORMANT (R497): the supply is still out of range 100 µs later. -/
def execSupplyLossDormant (s : State) : Host.Outcome State Fault Refusal :=
  s.after <|
    if hubOn s ∧ s.sett.supplyBad ≠ 0 then
      enterDormant (s.raise settSrc 0x162 (detailOf [(2, 1, s.sett.supplyBad)]))
    else s

/-- SUPPLY_RETURN (R497, R510): every supply has been in range for 1 ms. -/
def execSupplyReturn (s : State) : Host.Outcome State Fault Refusal :=
  let s1 := ({ s with sett := { s.sett with supplyBad := 0 } }).safeRelease 3
  s.after (if s1.ownB F.SETT_WAKE_SUPPLY_EN then wakeUp s1 4 else s1)

/-- TIMER_WAKE (R510). -/
def execTimerWake (s : State) : Host.Outcome State Fault Refusal :=
  s.after <|
    if s.ownB F.SETT_WAKE_TIMER_EN ∧ s.rtc.lo = s.ownW R.SETT_WAKE_TIME then wakeUp s 2 else s

/-! ### Region resets (R498) -/

/-- The region is in Torpor or entering it (R504). -/
def torporAsked (s : State) (r : Nat) : Bool := (s.rgnS r).torCmd || (s.rgnS r).torPin

/-- A region reset: a configured region runs the steps of R494 for itself; one without an image has none to run. -/
def regionRestart (s : State) (r : Nat) : State :=
  let s1 := regionResetAll s r
  if (s.rgnS r).configured then startRegionCal s1 r else s1.sb F.RGN_STAT_RESET (rgB r) 0 false

/-- RGN_RESET logged and raised: the regions, and 1 RGN_CTRL or 2 SETT_CMD (R498, R513). -/
def raiseRgnReset (s : State) (mask source : Nat) : State :=
  s.raise settSrc 0x16C (detailOf [(2, 2, mask), (4, 1, source)])

/-- A write of RGN_CTRL (R10, R29, R498): RST for a region in Torpor is refused; LOCK sets. -/
def rgnCtrlWrite (s : State) (a : Reader) (r : Nat) (v : Word) : State :=
  s.asOwner a r fun s =>
    let s1 := (s.plainWrite R.RGN_CTRL (rgB r) 0 v).sb F.RGN_CTRL_RST (rgB r) 0 false
    if fOf v F.RGN_CTRL_RST = 0 then s1
    else if torporAsked s r then s1.sb F.RGN_EVT_RST_REJ (rgB r) 0 true
    else raiseRgnReset (regionRestart s1 r) (2 ^ r) 1

/-- REGION_RESET: a write of 1 to RGN_CTRL.RST by the region owner, the other fields as they are. -/
def execRegionReset (a : Reader) (r : Rgn) (s : State) : Host.Outcome State Fault Refusal :=
  s.after (rgnCtrlWrite s a r.val (((s.rd R.RGN_CTRL (rgB r.val)).setBits 31 31 0).setBits 30 30 1))

/-- Rows that a region's memory test has failed are repaired (R299, R494). -/
def repairRows (s : State) (r : Rgn) (rows : List (Fin 16 × Fin 32)) : State :=
  rows.foldl (fun s p => rowRepair s r p.1.val p.2.val) s

/-- REGION_RESET_RELEASE (R494, R498): the region has run its steps; `badRows`: block memory rows whose test fails. -/
def execRegionResetRelease (r : Rgn) (badRows : List (Fin 16 × Fin 32)) (s : State) : Host.Outcome State Fault Refusal :=
  s.after <|
    if s.sett.phase = .running ∧ s.gb F.RGN_STAT_RESET (rgB r.val) ∧ calibrated s r.val then
      regionRelease (repairRows s r badRows) r.val
    else s

end Sys2Proof.Machine
end

