-- ==== Sys2Proof/Machine/Modes.lean ====
section
/-!
DEFINITION. The package modes and the commands of SETT_CMD: Safe hold's end, Doze, freeze, Torpor, Readout, the power-down
request, resets by command, the export header and LEDGER_SYNC (14_modes_and_sett.md, R490, R492, R496, R498, R500 to R507,
R522, R528).
-/

namespace Sys2Proof.Machine

/-! ### The mode (R490) -/

/-- A region in Torpor. -/
def someTorpor (s : State) : Bool := (List.range 16).any fun r => s.inTorpor r

/-- A partial load has been accepted and has not ended (R491). -/
def reconfiguring (s : State) : Bool := match s.cfg.pr with | some p => p.accepted | none => false

/-- Degraded under R525. -/
def degraded (s : State) : Bool := s.own F.SETT_DEGR_COND != 0

/-- SETT_MODE.MODE: the first that holds, in order of precedence; before Loading begins, and in reset, the reset value. -/
def modeCode (s : State) : Nat :=
  if s.sett.vendor then 0xC
  else match s.sett.phase with
    | .verifying => 3
    | .calibrating => 4
    | .running =>
      if s.safeHold then 9 else if s.sett.rdoMask != 0 then 0xB else if someTorpor s then 0xA
      else if reconfiguring s then 7 else if degraded s then 8 else if s.sett.doze then 6 else 5
    | _ => 2

/-- SETT_MODE: the mode, its flags and the frozen regions (R490, R491). -/
def modeWord (s : State) : Word :=
  let frozen := (List.range 16).foldl (fun n r => if s.gb F.RGN_STAT_FROZEN (rgB r) || s.inTorpor r then n + 2 ^ r else n) 0
  let flags := (if s.sett.rdoMask != 0 then 2 ^ 13 else 0) + (if someTorpor s then 2 ^ 12 else 0)
    + (if s.sett.doze then 2 ^ 11 else 0) + (if degraded s then 2 ^ 10 else 0) + (if reconfiguring s then 2 ^ 9 else 0)
    + (if s.safeHold then 2 ^ 8 else 0)
  BitVec.ofNat 32 (frozen * 2 ^ 16 + flags + modeCode s)

/-- Calibrating has ended, and no Vendor test. -/
def packageRuns (s : State) : Bool := s.sett.phase = .running && !s.sett.vendor

/-- The regions of a mask. -/
def regionsOf (mask : Nat) : List Nat := (List.range 16).filter fun r => mask.testBit r

/-! ### The outcome of a command (SETT_CMD_STAT) -/

/-- A command has ended: START reads 0, with its result. -/
def settEnd (s : State) (result cause : Nat) : State :=
  ((s.setOwn F.SETT_CMD_START 0 0).setOwn F.SETT_CMD_STAT_RESULT 0 result).setOwn F.SETT_CMD_STAT_CAUSE 0 cause

def settDone (s : State) : State := settEnd s 1 0

/-- A refusal: 1 GUARD, 2 STATE, 3 LIVE, 4 BUSY, 5 SOURCE, 6 SCOPE (R501, R506, R507, R522, R528). -/
def settRefuse (s : State) (cause : Nat) : State := (settEnd s 3 cause).setOwn F.SETT_EVT_REJECT 0 1

/-! ### The end of Safe hold (R501) -/

/-- Safe hold ends: latched sources clear, each channel follows R215, SAFE_EXIT is logged; 1 by command, 2 automatic. -/
def safeEnd (s : State) (how : Nat) : State :=
  let s1 := { s with sett := { s.sett with safe := false, safeLatch := 0 } }
  (safeFollow s (pgSafeEnd (s1.setOwn F.SETT_SAFE_NOW 0 s1.safeNow))).raise settSrc 0x165 (detailOf [(2, 1, how)])

/-- SETT_CMD SAFE_EXIT. -/
def cmdSafeExit (s : State) : State :=
  if s.sett.safeCond ≠ 0 then settRefuse s 5 else settDone (if s.safeHold then safeEnd s 1 else s)

/-- SAFE_DWELL × 10 ms have passed since a source was last asserted (R501). -/
def safeDwelt (s : State) : Bool := decide (s.sett.safeAt + s.own F.SETT_CTRL_SAFE_DWELL * 160_000_000 ≤ s.hub.base)

/-- SAFE_AUTO_EXIT (R501): no source has been asserted for SAFE_DWELL × 10 ms. -/
def execSafeAutoExit (s : State) : Host.Outcome State Fault Refusal :=
  s.after (if s.safeHold ∧ s.sett.safeCond = 0 ∧ s.ownB F.SETT_CTRL_SAFE_AUTO ∧ s.sett.brownOut = false ∧ safeDwelt s = true then
    safeEnd s 2 else s)

/-- HUB_HEARTBEAT_MISS (R500): latched until exit, with HUB_WDOG (R513). -/
def execHubHeartbeatMiss (s : State) : Host.Outcome State Fault Refusal :=
  s.after (if hubOn s then safeOn (s.raise settSrc 0x163 (detailOf [])) 4 false true else s)

/-! ### Doze (R502) -/

/-- A group of DOZE_LP goes from full rate to low-power mode, its MODE as it is. -/
def dozeGroup (s : State) (r g : Nat) : State :=
  if (s.gf F.RGN_CTRL_DOZE_LP (rgB r)).testBit g && cgState s r g = 3 then
    toLowPower (s.setGrp r g { s.grp r g with dozed := true }) r g
  else s

/-- A group that dozes returns to full rate. -/
def undozeGroup (s : State) (r g : Nat) : State :=
  let x := s.grp r g
  if x.dozed then
    let s1 := s.setGrp r g { x with dozed := false }
    if cgState s r g = 2 && s.gf F.CG_CTRL_MODE (cgB r g) = 2 then toFullRate s1 r g else s1
  else s

/-- The groups of the package. -/
def allGroups : List (Nat × Nat) := ((List.range 16).map fun r => [(r, 0), (r, 1), (r, 2), (r, 3)]).flatten

def dozeOn (s : State) : State :=
  allGroups.foldl (fun s p => dozeGroup s p.1 p.2) { s with sett := { s.sett with doze := true } }

def dozeOff (s : State) : State :=
  allGroups.foldl (fun s p => undozeGroup s p.1 p.2) { s with sett := { s.sett with doze := false } }

/-- SETT_CMD DOZE: from Active, Degraded or Doze (R491). -/
def cmdDoze (s : State) : State :=
  if modeCode s = 5 ∨ modeCode s = 8 ∨ modeCode s = 6 then settDone (dozeOn s) else settRefuse s 2

/-- WAKE_PIN (R482, R502, R510): the pin has been high, after INV, for its debounce time. -/
def execWakePin (i : Fin 192) (s : State) : Host.Outcome State Fault Refusal :=
  s.after <|
    if pinKL i.val && inputPin s 6 (inputKey s i.val 6) = some i.val && ballIn s i.val then
      let s1 := wakeUp s 1
      if s1.ownB F.SETT_WAKE_DOZE_EXIT && s1.sett.doze then dozeOff s1 else s1
    else s

/-! ### Freeze and Torpor (R503 to R505) -/

/-- RGN_STAT.FROZEN follows what freezes the region, and the balls with it (R201, R226); a substitution that it paused resumes at
its end (R232). -/
def syncFrozen (s : State) (r : Nat) : State :=
  let x := s.rgnS r
  pgSubResume (freezeFollow s (s.sb F.RGN_STAT_FROZEN (rgB r) 0 (x.frzCmd || x.frzPin || x.torCmd || x.torPin)) r) r

/-- A region frozen by SETT_CMD, or by FREEZE_N. -/
def freezeRegion (pin : Bool) (s : State) (r : Nat) : State :=
  let x := s.rgnS r
  syncFrozen (s.setRgn r { x with frzCmd := x.frzCmd || !pin, frzPin := x.frzPin || pin }) r

/-- LIVE of a region's groups and engine cleared, its rotations to pause at the end of their step (R504 steps 1 and 2). -/
def endRegulation (s : State) (r : Nat) : State :=
  [0, 1, 2, 3].foldl (fun s g =>
      (s.sb F.CG_CTRL_LIVE (cgB r g) 0 false).setGrp r g { s.grp r g with torpor := true })
    (s.sb F.LE_CTRL_LIVE (leB r) 0 false)

/-- A region enters Torpor: frozen at once; its clock stops when its running procedures have paused. -/
def torporRegion (pin : Bool) (s : State) (r : Nat) : State :=
  let x := s.rgnS r
  let was := torporAsked s r
  let s1 := s.setRgn r { x with
    torCmd := x.torCmd || !pin, torPin := x.torPin || pin, torporWait := x.torporWait || !was }
  syncFrozen (if was then s1 else endRegulation s1 r) r

/-- Every migration, self-check, substitution, rotation step and relocation of a region has ended or stands paused (R504
step 2). -/
def allPaused (s : State) (r : Nat) : Bool :=
  (List.range 12).all (fun k => (s.gf F.AC_MIG_STAT_STATE (acB r k) = 0 || (s.clu r k).paused)
      && (!checking s r k || (s.cmp r k).paused))
    && (List.range 4).all (fun g => s.gf F.CG_ROT_STAT_PHASE (cgB r g) = 0 || s.gf F.CG_ROT_STAT_PHASE (cgB r g) = 3)
    && (s.gf F.PG_SUB_STAT_STATE (pgB r) = 0 || s.gf F.PG_SUB_STAT_STATE (pgB r) = 5)
    && (s.gf F.LE_SUB_STAT_STATE (leB r) = 0 || s.gf F.LE_SUB_STAT_STATE (leB r) = 5)
    && (s.gf F.FAB_RELOC_STAT_STATE (fabB r) = 0 || s.gf F.FAB_RELOC_STAT_STATE (fabB r) = 7)

/-- The fast clock and the fabric branches of a region stop: Held (R504 step 3). -/
def holdRegion (s : State) (r : Nat) : State :=
  let s1 := (s.setRgn r { s.rgnS r with torporWait := false, synthOn := false }).setClk r 3
  (s1.sb F.RGN_STAT_TORPOR (rgB r) 0 true).setEng r { s1.eng r with paused := true }

/-- TORPOR_CLOCK_STOP (R504): once the last procedure of the regions that enter Torpor has paused, their clocks stop. -/
def execTorporClockStop (s : State) : Host.Outcome State Fault Refusal :=
  let scope := (List.range 16).filter fun r => (s.rgnS r).torporWait
  s.after (if scope.all (allPaused s) then scope.foldl holdRegion s else s)

/-- A stopped clock runs again: events captured meanwhile become pending (R260), slices are stale, and a rotation that did not
pause in Torpor begins a service window (R160). -/
def restartClock (s : State) (r : Nat) : State :=
  if s.clk r = 3 then
    let x := s.rgnS r
    let s1 := (s.setClk r 0).setRgn r { x with evCap := 0 }
    let s2 := s1.sf F.LE_EVPEND_PEND (leB r) 0 (s1.gf F.LE_EVPEND_PEND (leB r) ||| x.evCap)
    [0, 1, 2, 3].foldl (fun s g =>
      let st := cgState s r g
      if st = 3 ∨ st = 4 ∨ st = 5 then
        (if s.gf F.CG_ROT_STAT_PHASE (cgB r g) = 0 then startWindow (makeStale s r g) r g else makeStale s r g)
      else s) s2
  else s

/-- Torpor of a region ends: its clock restarts and paused procedures resume (R505). -/
def torporEnd (s : State) (r : Nat) : State :=
  let s1 := restartClock ((s.setRgn r { s.rgnS r with torporWait := false }).sb F.RGN_STAT_TORPOR (rgB r) 0 false) r
  let s2 := (List.range 12).foldl (fun s k =>
    (s.setClu r k { s.clu r k with paused := false }).setCmp r k { s.cmp r k with paused := false }) s1
  let s3 := [0, 1, 2, 3].foldl (fun s g => rotResume (s.setGrp r g { s.grp r g with torpor := false }) r g) s2
  rlResumeAt (laneResume (s3.setEng r { s3.eng r with paused := false }) r) r

/-- What one requester, SETT_CMD or FREEZE_N, has frozen or put into Torpor ends for a region (R503, R505). -/
def thawRegion (pin : Bool) (s : State) (r : Nat) : State :=
  let x := s.rgnS r
  let y : RgnS := if pin then { x with frzPin := false, torPin := false } else { x with frzCmd := false, torCmd := false }
  let s1 := s.setRgn r y
  syncFrozen (if torporAsked s r && !torporAsked s1 r then torporEnd s1 r else s1) r

/-- FREEZE_N low: the regions of PIN_SCOPE freeze, or with PIN_CLK, in a running package, enter Torpor (R491). -/
def freezePin (s : State) : State :=
  let torpor := s.ownB F.SETT_CTRL_PIN_CLK
  if s.sett.freezeNLow && (packageRuns s || (hubOn s && !torpor)) then
    (regionsOf (s.own F.SETT_CTRL_PIN_SCOPE)).foldl (if torpor then torporRegion true else freezeRegion true) s
  else s

/-- FREEZE_N_ASSERT (R503, R504). -/
def execFreezeNAssert (s : State) : Host.Outcome State Fault Refusal :=
  s.after (freezePin { s with sett := { s.sett with freezeNLow := true } })

/-- FREEZE_N_RELEASE (R503, R505). -/
def execFreezeNRelease (s : State) : Host.Outcome State Fault Refusal :=
  s.after ((List.range 16).foldl (thawRegion true) { s with sett := { s.sett with freezeNLow := false } })

/-- SETT_CMD FREEZE: from Loading on, where the dies run. -/
def cmdFreeze (s : State) (arg : Nat) : State :=
  if hubOn s then settDone ((regionsOf arg).foldl (freezeRegion false) s) else settRefuse s 2

/-- SETT_CMD TORPOR: in a running package (R491). -/
def cmdTorpor (s : State) (arg : Nat) : State :=
  if packageRuns s then settDone ((regionsOf arg).foldl (torporRegion false) s) else settRefuse s 2

/-! ### Readout (R506) -/

/-- SETT_CMD READOUT: every region of the mask is in Torpor; START reads 1 until the chains have shifted. A mask of no region
has no chain to shift. -/
def cmdReadout (s : State) (arg : Nat) : State :=
  if arg = 0 then settDone (s.setOwn F.SETT_EVT_RDO_DONE 0 1)
  else if (regionsOf arg).any fun r => !s.inTorpor r then settRefuse s 6
  else (regionsOf arg).foldl (fun s r => s.sb F.RGN_STAT_RDO (rgB r) 0 true) { s with sett := { s.sett with rdoMask := arg } }

/-- The count of a channel in fine steps: since its last period start. -/
def chCount (s : State) (r c : Nat) : Nat := tickNow s - (s.ch r c).start

/-- The logical channel that a physical channel serves, if any (PG_CHcc_STAT.PHYS), or whose state the spare runs in while it is
aligned (R229). -/
def logicalCh (s : State) (r p : Nat) : Option Nat :=
  ((List.range 16).find? fun c => s.gf F.PG_CHcc_STAT_PHYS (pgB r) c = p).orElse fun _ =>
    if p = 16 ∧ (spareCh s r).isSome then some (s.pgSub.get r).ch else none

/-- Words of the readout buffer that hold a channel's state: count, applied ON, shadow ON with SKIP, PG_CHcc_STAT. -/
def rdoChannel (s : State) (r p : Nat) : List (Nat × Word) :=
  match logicalCh s r p with
  | some c =>
    [(16 * p, BitVec.ofNat 32 (chCount s r c)), (16 * p + 1, BitVec.ofNat 32 (s.gf F.PG_CHcc_ON_ON (pgB r) c)),
     (16 * p + 2, s.rd R.PG_CHcc_DUTY (pgB r) c),
     (16 * p + 3, (s.rd R.PG_CHcc_STAT (pgB r) c).setBits F.PG_CHcc_STAT_STATE.hi F.PG_CHcc_STAT_STATE.lo (chState s r c))]
  | none => []

/-- Words that hold a group's state. How channel and sample count, the urgent queue and the tap fills share the sixteen words
is not stated: each is a free value. -/
def rdoGroup (s : State) (g : Nat) : State × List (Nat × Word) :=
  (List.range 16).foldl (fun x w => (x.1.free.2, (0x110 + 16 * g + w, x.1.free.1.setWidth 32) :: x.2)) (s, [])

/-- A queue controller's write pointer, read pointer and level, in entries. -/
def rdoQueue (s : State) (r q : Nat) : List (Nat × Word) :=
  let x := s.qc r q
  [(0x150 + 16 * q, BitVec.ofNat 32 ((x.rp + x.q.length) % qcDepth s r q)), (0x151 + 16 * q, BitVec.ofNat 32 x.rp),
   (0x152 + 16 * q, BitVec.ofNat 32 x.q.length)]

/-- The readout buffer and the capture latches of a region, when its chains have shifted once round: flip-flops, carry-pending
flip-flops and block memories' output registers. -/
def rdoRegion (s : State) (r : Nat) : State :=
  let fixed := ((List.range 17).map fun p => rdoChannel s r p).flatten ++ ((List.range 16).map fun q => rdoQueue s r q).flatten
  let all := [0, 1, 2, 3].foldl (fun x g => let y := rdoGroup x.1 g; (y.1, y.2 ++ x.2)) (s, fixed)
  let s1 := all.1.setRgn r { all.1.rgnS r with rdo := Tab.empty.setAll all.2 }
  let x := s1.fab r
  (s1.setFab r { x with capLatch := x.ff, capCarry := x.pend, capBm := x.bmOut }).sb F.RGN_STAT_RDO (rgB r) 0 false

/-- READOUT_DONE (R506). -/
def execReadoutDone (s : State) : Host.Outcome State Fault Refusal :=
  s.after <|
    if s.sett.rdoMask = 0 then s
    else
      let s1 := (regionsOf s.sett.rdoMask).foldl rdoRegion s
      settDone (({ s1 with sett := { s1.sett with rdoMask := 0 } }).setOwn F.SETT_EVT_RDO_DONE 0 1)

/-! ### Power-down and resets by command (R496, R498) -/

/-- SETT_CMD DORMANT: refused by its guard, outside the modes of R491, in Torpor, with LIVE, or during a partial load. -/
def cmdDormant (s : State) (guard : Nat) : State :=
  if guard ≠ 0x5A then settRefuse s 1
  else if !packageRuns s || (List.range 16).any (torporAsked s) then settRefuse s 2
  else if anyLive s then settRefuse s 3
  else if s.cfg.pr.isSome then settRefuse s 4
  else linksOff { s with sett := { s.sett with dormantReq := true } }

/-- SETT_CMD RESET. -/
def cmdReset (s : State) (guard : Nat) : State :=
  if guard ≠ 0x5A then settRefuse s 1 else packageReset (settDone s)

/-- SETT_CMD RGN_RESET: refused with STATE if the mask names a region in Torpor. -/
def cmdRgnReset (s : State) (guard arg : Nat) : State :=
  if guard ≠ 0x5A then settRefuse s 1
  else if !hubOn s || (regionsOf arg).any (torporAsked s) then settRefuse s 2
  else
    let s1 := (regionsOf arg).foldl regionRestart s
    settDone (if arg = 0 then s1 else raiseRgnReset s1 arg 2)

/-! ### The export header and the ledger (R522, R528) -/

/-- SETT_CMD EXPORT: START reads 1 until the header is written. -/
def cmdExport (s : State) : State :=
  if s.gb F.SEC_STAT_PUF_OK 0 then { s with sett := { s.sett with exporting := true } } else settRefuse s 2

/-- The words of a header field, lowest first. -/
def fieldWords (n v : Nat) : List Word := (List.range n).map fun i => BitVec.ofNat 32 (v / 2 ^ (32 * i))

/-- EXPORT_DONE (R528): the header at 0x017_F000, its fields in the order of the rule, without gaps. -/
def execExportDone (digest : BitVec 384) (sig : BitVec 768) (s : State) : Host.Outcome State Fault Refusal :=
  s.after <|
    if s.sett.exporting then
      let ws : List Word := [0x4558_5052] ++ (List.range 4).map (fun i => s.rd R.SEC_DEVIDi 0 i) ++ [s.rtc.lo, s.rtc.hi, s.ownW R.SETT_LOG_WP]
        ++ fieldWords 12 digest.toNat ++ fieldWords 24 sig.toNat
      let s1 := { s with sett := { s.sett with
          exporting := false, ret := s.sett.ret.setAll (((List.range 44).zip ws).map fun (p : Nat × Word) => (0x17_F000 + 4 * p.1, p.2)) } }
      settDone (s1.setOwn F.SETT_EVT_EXPORT_DONE 0 1)
    else s

/-- A write of the ledger to the next of its two flash sectors (R521; their base from OTP, log entry 4). -/
def ledgerWrite (s : State) (sync : Bool) : State :=
  let s1 := { s with sett := { s.sett with mirror := some sync }, cfg := { s.cfg with jobs := s.cfg.jobs ++ [FlJob.ledger] } }
  s1.emit (.flash 1 (s.otp.get 0x200_000A + BitVec.ofNat 32 (0x1_0000 * s.sett.sector)) [])

/-- SETT_CMD LEDGER_SYNC (R522). -/
def cmdLedgerSync (s : State) : State :=
  if s.sett.mirror.isSome then settRefuse s 4
  else if modeCode s = 2 ∨ modeCode s = 3 ∨ modeCode s = 0xC then settRefuse s 2
  else ledgerWrite s true

/-- LEDGER_MIRROR (R521): within 1 s of a change and at least every 24 hours. -/
def execLedgerMirror (s : State) : Host.Outcome State Fault Refusal :=
  s.after (if hubOn s ∧ s.sett.mirror = none ∧ s.sett.brownOut = false then ledgerWrite s false else s)

/-! ### Commands (R492, R507) -/

/-- The effect of a command whose START the Sett has seen. OP 0 names none: refused without a cause. -/
def settCommand (s : State) (op guard arg : Nat) : State :=
  match op with
  | 1 => cmdDoze s
  | 2 => settDone (dozeOff s)
  | 3 => cmdFreeze s arg
  | 4 => cmdTorpor s arg
  | 5 => settDone ((regionsOf arg).foldl (thawRegion false) s)
  | 6 => cmdReadout s arg
  | 7 => settDone (safeOn s 7 false true)
  | 8 => cmdSafeExit s
  | 9 => cmdDormant s guard
  | 0xA => cmdReset s guard
  | 0xB => cmdRgnReset s guard arg
  | 0xC => cmdExport s
  | 0xD => cmdLedgerSync s
  | _ => settRefuse s 0

/-- The word of a command. -/
def settWord (op guard arg : Nat) : Word := BitVec.ofNat 32 (2 ^ 31 + op * 2 ^ 24 + guard * 2 ^ 16 + arg)

/-- A command as SETT_CMD holds it starts, unless one runs (R16, R507). -/
def settRun (s : State) (op guard arg : Nat) : State :=
  if s.sett.brownOut || s.ownB F.SETT_CMD_START then s
  else
    let s1 := s.setOwnW R.SETT_CMD 0 (settWord op guard arg)
    settCommand ((s1.setOwn F.SETT_CMD_STAT_RESULT 0 0).setOwn F.SETT_CMD_STAT_CAUSE 0 0) op guard arg

/-- DOZE. -/
def execDoze (s : State) : Host.Outcome State Fault Refusal := s.after (settRun s 1 0 0)
/-- ACTIVE. -/
def execActive (s : State) : Host.Outcome State Fault Refusal := s.after (settRun s 2 0 0)
/-- FREEZE. -/
def execFreeze (arg : Fin 65536) (s : State) : Host.Outcome State Fault Refusal := s.after (settRun s 3 0 arg.val)
/-- TORPOR. -/
def execTorpor (arg : Fin 65536) (s : State) : Host.Outcome State Fault Refusal := s.after (settRun s 4 0 arg.val)
/-- THAW. -/
def execThaw (arg : Fin 65536) (s : State) : Host.Outcome State Fault Refusal := s.after (settRun s 5 0 arg.val)
/-- READOUT. -/
def execReadout (arg : Fin 65536) (s : State) : Host.Outcome State Fault Refusal := s.after (settRun s 6 0 arg.val)
/-- SAFE. -/
def execSafe (s : State) : Host.Outcome State Fault Refusal := s.after (settRun s 7 0 0)
/-- SAFE_EXIT. -/
def execSafeExit (s : State) : Host.Outcome State Fault Refusal := s.after (settRun s 8 0 0)
/-- DORMANT. -/
def execDormant (guard : Fin 256) (s : State) : Host.Outcome State Fault Refusal := s.after (settRun s 9 guard.val 0)
/-- RESET. -/
def execReset (guard : Fin 256) (s : State) : Host.Outcome State Fault Refusal := s.after (settRun s 0xA guard.val 0)
/-- RGN_RESET. -/
def execRgnReset (guard : Fin 256) (arg : Fin 65536) (s : State) : Host.Outcome State Fault Refusal :=
  s.after (settRun s 0xB guard.val arg.val)
/-- EXPORT. -/
def execExport (s : State) : Host.Outcome State Fault Refusal := s.after (settRun s 0xC 0 0)
/-- LEDGER_SYNC. -/
def execLedgerSync (s : State) : Host.Outcome State Fault Refusal := s.after (settRun s 0xD 0 0)

/-! ### The end of Calibrating (R494) -/

/-- CALIBRATION_END: every configured region has run its steps; `badRows`: rows that the memory tests fail. The regions are
released, and the mode is Active, or another that holds over it. -/
def execCalibrationEnd (badRows : List (Fin 16 × Fin 16 × Fin 32)) (s : State) : Host.Outcome State Fault Refusal :=
  let rs := allRgn.filter fun r => (s.rgnS r.val).configured
  s.after <|
    if s.sett.phase = .calibrating ∧ rs.all (fun r => calibrated s r.val) = true then
      let s1 := rs.foldl (fun s r => repairRows s r ((badRows.filter fun p => p.1 = r).map (·.2))) s
      let s2 := { s1 with sett := { s1.sett with phase := .running } }
      freezePin (rs.foldl (fun s r => regionRelease s r.val) s2)
    else s

end Sys2Proof.Machine
end

