-- ==== Sys2Proof/Machine/Sett.lean ====
section
/-!
DEFINITION. The Sett domain: the Hub's mirror of its registers, its brown-outs, wear and the projected life, the hub memory's
spares, and Vendor test (01_architecture.md R68; 14_modes_and_sett.md R492, R495, R508, R509, R517, R519, R520, R524, R526,
R530).
-/

namespace Sys2Proof.Machine

/-! ### The mirror (R68) -/

/-- The fields of a SETT_ register, by BAR0 address. -/
def settFields (a : Nat) : List FldRow :=
  match rowAt a with
  | some (_, _, row, _) => row.fields
  | none => []

/-- A write as it changes the mirror, and as it changes the Sett's own register. -/
def settMerge (t : RegFile) (a : Nat) (v : Word) : RegFile :=
  t.set a (mergeFields ((t.get (R.SETT_CTRL.addr 0 0)).bits F.SETT_CTRL_LOCK.hi F.SETT_CTRL_LOCK.lo != 0) (settFields a) (t.get a) v)

/-- A write of a SETT_ register: the mirror takes it at once, the Sett within two Sett cycles. While a command runs a further
START is dropped (R16). -/
def settWrite (s : State) (a : Nat) (v : Word) : State :=
  let w := if a = R.SETT_CMD.addr 0 0 ∧ s.ownB F.SETT_CMD_START then v.setBits 31 31 0 else v
  { s with regs := { s.regs with sett := settMerge s.regs.sett a w },
           sett := { s.sett with writes := s.sett.writes ++ [(a, w)] } }

/-- A write that has reached the Sett's own register, with what it starts there. -/
def settTake (s : State) (a : Nat) (v : Word) : State :=
  let s1 := { s with sett := { s.sett with own := settMerge s.sett.own a v } }
  if a = R.SETT_CMD.addr 0 0 ∧ v.bit 31 then
    settCommand ((s1.setOwn F.SETT_CMD_STAT_RESULT 0 0).setOwn F.SETT_CMD_STAT_CAUSE 0 0) (s1.own F.SETT_CMD_OP)
      (s1.own F.SETT_CMD_GUARD) (s1.own F.SETT_CMD_ARG)
  else if a = R.SETT_THR.addr 0 0 then s1.evalDegraded
  else if R.SETT_PWRk.addr 0 0 ≤ a ∧ a ≤ R.SETT_PWRk.addr 0 3 then
    drivePwr s1 ((a - R.SETT_PWRk.addr 0 0) / 4) (s.sett.phase != .off && s.sett.phase != .dormant)
  else s1

/-- SETT_MIRROR_APPLY (R68, R492, R507): the oldest write takes effect; a command waits for the one that runs. -/
def execSettMirrorApply (s : State) : Host.Outcome State Fault Refusal :=
  s.after <|
    match s.sett.writes with
    | [] => s
    | (a, v) :: l =>
      if s.sett.brownOut || (a = R.SETT_CMD.addr 0 0 && v.bit 31 && s.ownB F.SETT_CMD_START) then s
      else settTake { s with sett := { s.sett with writes := l } } a v

/-- The Sett cycles of an hour. -/
def cyclesPerHour : Nat := 32768 * 3600

/-- An hour of operation (R519). -/
def countHour (s : State) : State :=
  if s.rtc.toNat % cyclesPerHour = 0 ∧ hubOn s then
    let s1 := s.setOwn F.SETT_HOURS_HOURS 0 (s.own F.SETT_HOURS_HOURS + 1)
    { s1 with sett := { s1.sett with dirty := true } }
  else s

/-- A Sett cycle: SETT_RTC counts (R508), folds go on by a step (R515). -/
def settCycle (s : State) : State :=
  let t := DWord.ofHalves (s.rtc + 1).lo ((s.rtc + 1).hi &&& 0xFFFF)
  countHour (foldStep { s with sett := { s.sett with own := (s.sett.own.set 0x100020 t.lo).set 0x100024 t.hi } })

/-- SETT_MIRROR_REFRESH (R68): on each Sett cycle the mirror shows the Sett's registers, with the writes that have not
reached them yet. -/
def execSettMirrorRefresh (s : State) : Host.Outcome State Fault Refusal :=
  s.after <|
    if s.sett.brownOut then s
    else
      let s0 := settCycle s
      let s1 := s0.setOwnW R.SETT_MODE 0 (modeWord s0)
      { s1 with regs := { s1.regs with sett := s1.sett.writes.foldl (fun t w => settMerge t w.1 w.2) s1.sett.own } }

/-! ### VDD_SETT (R491, R509, R517) -/

/-- What is lost below the retention voltage: retention memory, the accumulators, and the count and settings that only a
retained register holds; all stand as at the first application of VDD_SETT (log entry 6). -/
def retentionLost (s : State) : State :=
  ({ s with sett := { s.sett with
      ret := .empty, retLost := true, folds := .empty,
      own := s.sett.own.keep fun a => decide (a ≠ 0x100050) && !(decide (0x100020 ≤ a) && decide (a < 0x100040))
        && !decide (0x101000 ≤ a) } }).setOwn F.SETT_ACC_STAT_LOST 0 1

/-- SETT_BROWN_OUT (R509): `below`: VDD_SETT falls below the retention voltage too. -/
def execSettBrownOut (below : Bool) (s : State) : Host.Outcome State Fault Refusal :=
  let s1 := settRegsReset { s with sett := { s.sett with brownOut := true } }
  s.after (if below then retentionLost s1 else s1)

/-- The Sett runs again: interrupted carries are completed, ENERGY_VALID sets, and lost retention is logged (R517, R509). -/
def settRuns (s : State) (lost : Bool) : State :=
  let s1 := (foldFinish { s with sett := { s.sett with brownOut := false } }).setOwn F.SETT_ACC_STAT_ENERGY_VALID 0 1
  if lost then s1.raise settSrc 0x169 (detailOf []) else s1

/-- BROWN_OUT_RECOVERY (R517): after a brown-out or a power-on reset of the Sett. -/
def execBrownOutRecovery (s : State) : Host.Outcome State Fault Refusal :=
  s.after <|
    if s.sett.phase ≠ .off ∧ (s.sett.brownOut ∨ s.ownB F.SETT_ACC_STAT_ENERGY_VALID = false) then
      settRuns s (s.sett.brownOut && s.sett.retLost)
    else s

/-- SETT_POWER_ON (R491): VDD_SETT enters its range, after an absence that has lost what it retains; the Sett runs and the
package is in Dormant. -/
def execSettPowerOn (s : State) : Host.Outcome State Fault Refusal :=
  s.after <|
    if s.sett.phase = .off ∨ (s.sett.brownOut ∧ s.sett.retLost) then
      let s1 := diesReset { s with sett := { s.sett with dormantReq := false, vendor := false, wakePend := none } }
      mirrorNow (settRuns ((retentionLost s1).setPhase .dormant 0) true).logMode
    else s

/-! ### Wear (R519, R520) -/

/-- The key of a block in the wear ledger: 0 to 11 analogue clusters, 12 to 15 converter groups, 16 the pulse generators, 17
the Loop Engine, 18 to 21 logic quadrants. -/
def wearKey (r blk : Nat) : Nat := r * 64 + blk

/-- What wear does for the unit of a block with the most stress hours: with the block's AUTO bit its substitution starts, else
WEAR_WARN names its kind and its number among its like (R513, R520, R523). Units of a cluster: 0 to 7 cells, 8 and 9 comparators; of a quadrant: 0 to 95
logic clusters, 96 to 111 block memories. -/
def wearAct (s : State) (r : Rgn) (blk unit : Nat) : State :=
  let n := if blk < 12 then blk else if blk < 16 then blk - 12 else if blk < 18 then 0 else blk - 18
  let warn := fun (kind : Nat) => s.raise settSrc 0x167 (detailOf [(2, 1, kind), (3, 1, r.val), (4, 1, n)])
  if blk < 12 then
    if unit < 8 then (if s.gb F.AC_CTRL_AUTO_MIG (acB r.val blk) then migStart s r.val blk unit false else warn 0)
    else (if s.gb F.WC_CTRL_AUTO_SUB (acB r.val blk) then chkStart s r.val blk (unit % 2) true else warn 1)
  else if blk < 16 then warn 2
  else if blk = 16 then (if s.gb F.PG_CTRL_AUTO_SUB (pgB r.val) then pgSubStart s r.val (unit % 16) else warn 3)
  else if blk = 17 then (if s.gb F.LE_CTRL_AUTO_SUB (leB r.val) then laneStart s r.val (unit % 4) else warn 4)
  else
    let kind := if unit < 96 then 0 else 1
    if s.gb F.FAB_CTRL_AUTO_RELOC (fabB r.val) then rlStart s r.val kind (if unit < 96 then unit else unit - 96)
    else warn (5 + kind)

/-- WEAR_SAMPLE (R519, R520): a block's wear index, in hundredths of its end-of-life value; crossing 80 is acted on, at most
once in 24 hours per block. -/
def execWearSample (r : Rgn) (blk : Fin 64) (index : Nat) (unit : Fin 128) (s : State) : Host.Outcome State Fault Refusal :=
  let k := wearKey r.val blk.val
  let old := s.sett.wear.get k
  let hour := s.own F.SETT_HOURS_HOURS
  let last := s.sett.wearAt.get k
  let act := decide (old < 80) && decide (80 ≤ index) && (last = 0 || decide (last + 23 ≤ hour))
  let bin := r.val * 65536 + s.gf F.RGN_TEMP_TEMP (rgB r.val)
  s.after <|
    if 22 ≤ blk.val ∨ s.sett.brownOut then s
    else
      let s1 := ({ s with sett := { s.sett with
        wear := s.sett.wear.set k index, hist := s.sett.hist.set bin (s.sett.hist.get bin + 1),
        wearAt := if act then s.sett.wearAt.set k (hour + 1) else s.sett.wearAt } }).ledgerChanged
      if act then wearAct s1 r blk.val unit.val else s1

/-- LIFE_PROJECTION (R519, R525, R527). -/
def execLifeProjection (months : Fin 65536) (s : State) : Host.Outcome State Fault Refusal :=
  s.after (if s.sett.brownOut then s else (s.setOwn F.SETT_LIFE_MONTHS 0 months.val).ledgerChanged)

/-- REPLACE_REPEAT (R526). -/
def execReplaceRepeat (s : State) : Host.Outcome State Fault Refusal :=
  s.after (if degraded s ∧ s.sett.brownOut = false then s.raiseReplace else s)

/-! ### Hub memory (R524) -/

/-- A row (kind 8) or column (kind 9) is retired, or, with no spare left, stays in service and the package is Degraded. -/
def retire (s : State) (kind n : Nat) : State :=
  let key := 2 * n + (kind - 8)
  if s.sett.retired.get key ≠ 0 then s
  else if s.own F.SETT_SPAREk_FREE kind = 0 then s.failPermanent
  else ({ s with sett := { s.sett with
      retired := s.sett.retired.set key 1,
      rowErr := if kind = 8 then s.sett.rowErr.set n 0 else s.sett.rowErr } }).useSpare kind 0 0 0

/-- The record of a flow that an uncorrectable word held is discarded and counted in the flow's DROP. -/
def loseRecord (s : State) (f : Nat) (guar : Bool) : State :=
  let l := s.spoor.hops.get hopPost
  match l.find? fun i => i.flow = f && i.conf == guar with
  | some i =>
    let x := s.flow f
    ({ s with spoor := { s.spoor with hops := s.spoor.hops.set hopPost (l.erase i) } }).setFlow f
      { x with drop := min 65535 (x.drop + 1) }
  | none => s

/-- Frames whose digest is gone are as if of volatile origin (R339). -/
def loseDigests (s : State) (as : List Nat) : State :=
  let put := fun (s : State) (a : Nat) =>
    match s.cfg.frames.get a with
    | some f => s.setCfg { s.cfg with frames := s.cfg.frames.set a (some { f with vol := true, dig := none }) }
    | none => s
  as.foldl put s

/-- An uncorrectable word: what its area makes of it, and HUB_MEM_UNCORR (R513). Areas: 1 flow pool, 2 best-effort buffer, 3
staging buffer, 4 digest table, 5 other. -/
def uncorrWord (s : State) (word : Nat) (area : Fin 6) (flow : Option (Fin 4096)) (frames : List Nat) : State :=
  let s1 := match area.val, flow with
    | 1, some f => loseRecord s f.val true
    | 2, some f => loseRecord s f.val false
    | 3, _ => if s.cfg.pr.isSome then prFail s 3 false else s
    | 4, _ => loseDigests s frames
    | _, _ => s
  s1.raise settSrc 0x170 (detailOf [(2, 3, word), (5, 1, area.val),
    (6, 2, match flow with | some f => f.val | none => 0xFFFF)])

/-- HUB_MEMORY_SCRUB: one word of hub memory, or the memory test before Loading. -/
def execHubMemoryScrub (row : Nat) (col : Nat) (word : Fin 2097152) (find : MemFind) (s : State) :
    Host.Outcome State Fault Refusal :=
  s.after <|
    match find with
    | .corrected =>
      let n := s.sett.rowErr.get row + 1
      let rows := s.sett.colRows.get col
      let rows1 := if rows.contains row then rows else rows ++ [row]
      let s1 := { s with sett := { s.sett with rowErr := s.sett.rowErr.set row n, colRows := s.sett.colRows.set col rows1 } }
      let s2 := if n ≥ 3 then retire s1 8 row else s1
      if rows1.length ≥ 8 then retire s2 9 col else s2
    | .uncorrectable area flow frames => uncorrWord (retire s 8 row) word.val area flow frames
    | .rowFails => retire s 8 row
    | .columnFails => retire s 9 col

/-! ### Vendor test (R470, R530) -/

/-- What must hold of the part for Vendor test (R530), and the modes of R491 from which it is entered. -/
def vtestAllowed (s : State) : Bool :=
  !s.gb F.SEC_STAT_VTEST_DIS 0 && s.gb F.SEC_STAT_CONSENT 0 && !someEnabled s && !s.sett.vendor
    && (if s.sett.phase = .running then !someTorpor s && !reconfiguring s
        else s.sett.phase = .loading && s.gf F.CFG_STAT_STATE 0 = 5)

/-- VTEST: `dev` the device ID of the unlock shifted in, `sig` whether its signature is the vendor key's; with VTEST_DIS it
acts as BYPASS. -/
def execVtest (dev : BitVec 128) (sig : Bool) (s : State) : Host.Outcome State Fault Refusal :=
  s.after <|
    if s.gb F.SEC_STAT_VTEST_DIS 0 then tapLoad s .bypass
    else
      let s1 := tapLoad s .vtest
      if tapOn s && vtestAllowed s && sig && dev.toNat = deviceId s then { s1 with sett := { s1.sett with vtestBusy := true } } else s1

/-- The package enters Vendor test: configuration memory, hub memory and user retention blank, no PUF key, Herd off. -/
def enterVendor (s : State) : State :=
  let s1 := { s with
    img := .empty, cfg := { CfgS.reset with jobs := s.cfg.jobs },
    spoor := { s.spoor with hops := s.spoor.hops.keep fun h => h < hopHub },
    sett := { s.sett with vendor := true, vtestBusy := false, safe := false, safeLatch := 0,
                          ret := s.sett.ret.keep fun a => decide (a < 0x17_0000) || decide (0x17_F000 ≤ a) } }
  let s2 := (s1.sb F.SEC_STAT_PUF_OK 0 0 false).log settSrc 0x16E (detailOf [])
  herdOff s2

/-- VTEST_UNLOCK_DONE. -/
def execVtestUnlockDone (s : State) : Host.Outcome State Fault Refusal :=
  let s1 := { s with sett := { s.sett with vtestBusy := false } }
  s.after (if s.sett.vtestBusy && vtestAllowed s then enterVendor s else s1)

end Sys2Proof.Machine
end

