-- ==== Sys2Proof/Machine/View.lean ====
section
/-!
DEFINITION. What each word of the register map reads as (R10, R66 to R70): the stored word of a register with the fields that
show other state of the block, the Loop Engine's window and memories, and the retention memory. What a read changes stands in
Access.lean.
-/

namespace Sys2Proof.Machine

/-! ### Regions, units and words of an address (R66, R69) -/

/-- The region of an address of the region blocks. -/
def rgnAt (a : Nat) : Rgn := Fin.ofNat 16 ((a - 0x100_0000) / 0x10_0000)
/-- The offset in its region block. -/
def offAt (a : Nat) : Nat := (a - 0x100_0000) % 0x10_0000
/-- The analogue cluster or converter group of an address in its region. -/
def unitAt (a : Nat) : Nat := a % 0x1_0000 / 0x1000

/-- The register number of the Loop Engine's window that an offset of the engine's block shows (R280); the numbers 32 to 39
are the accumulators, of two words each. -/
def winIndex (o : Nat) : Nat :=
  if o < 0x1080 then (o - 0x1000) / 4 else if o < 0x10C0 then 32 + (o - 0x1080) / 8 else 40 + (o - 0x10C0) / 4

/-- An offset of the engine's block lies in the register window. -/
def inWindow (o : Nat) : Bool := decide (0x1000 ≤ o) && decide (o < 0x1150)

/-- The address where the register of an address stands: AC_INJ_AIO and AC_INJ_FIN are one for a region and stand in the
window of cluster 0 (R91). -/
def sharedAt (addr : Nat) : Nat :=
  if 0x100_0000 ≤ addr ∧ offAt addr < 0xC000 ∧ (addr % 0x1000 = R.AC_INJ_AIO.off ∨ addr % 0x1000 = R.AC_INJ_FIN.off) then
    addr - addr % 0x1_0000 + addr % 0x1000
  else addr

/-! ### Registers with fields that show other state -/

/-- AC_STATUS.CLIP_ANY. -/
def viewAc (s : State) (b o : Nat) (w : Word) : Word :=
  if o = R.AC_STATUS.off then w.setBit 2 ((List.range 8).any fun n => s.gb F.AC_CELLn_STAT_CLIP b n) else w

/-- CG_URG_STAT.DEPTH, CG_RDSTAT of the reading reader, CG_TAPt_STAT.FILL, CG_HOLD_TIME. -/
def viewCg (s : State) (a : Reader) (r g o n : Nat) (w : Word) : Word :=
  let x := s.grp r g
  let q := x.readers.get a.code
  if o = R.CG_URG_STAT.off then w.setBits 2 0 x.urg.length
  else if o = R.CG_RDSTAT.off then ((w.setBit 2 q.hold.isSome).setBit 1 q.held).setBit 0 (ovrnPend x q)
  else if o = R.CG_TAPt_STAT.off then w.setBits 3 0 (x.taps.get n).buf.length
  else if o = R.CG_HOLD_TIME.off then BitVec.ofNat 32 (holdMs s r g)
  else w

/-- PG_STATUS, PG_GRPg_CTRL.MEMBERS, PG_CHcc_STAT.STATE. -/
def viewPg (s : State) (r o n : Nat) (w : Word) : Word :=
  if o = R.PG_STATUS.off then (w.setBit 4 (frozen s r)).setBit 3 s.safeHold
  else if o = R.PG_GRPg_CTRL.off then w.setBits 7 0 (memberCount s r n)
  else if o = R.PG_CHcc_STAT.off then w.setBits 2 0 (chState s r n)
  else w

/-- The engine's state as LE_STAT codes it (R272). -/
def leStateCode (x : EngS) : Nat :=
  if x.paused then 5
  else match x.mode with
    | .halted => 0
    | .waitIn => 2
    | .waitEv => 2
    | .faulted => 4
    | _ => if x.handler then 3 else 1

/-- LE_STAT, LE_CYCLES, LE_INp_STAT.FILL. -/
def viewLe (s : State) (r o n : Nat) (w : Word) : Word :=
  let x := s.eng r
  if o = R.LE_STAT.off then ((w.setBits 18 16 x.loops.length).setBits 14 12 (leStateCode x)).setBits 11 8 x.rets.length
  else if o = R.LE_CYCLES.off then BitVec.ofNat 32 x.cyc
  else if o = R.LE_INp_STAT.off then w.setBits 2 0 (x.ports.get n).buf.length
  else w

/-- QC_STAT (R300 to R303): each side's own level; of an idle controller all 0. -/
def qcStat (s : State) (r q : Nat) : Word :=
  let x := s.qc r q
  let f := fabB r
  let n := x.seen.length
  if !qcOn s r q then 0
  else BitVec.ofNat 32 ((if n = 0 then 2 ^ 19 else 0) + (if qcFull s r q then 2 ^ 18 else 0)
    + (if n ≤ s.gf F.QC_THR_AE f q then 2 ^ 17 else 0) + (if s.gf F.QC_THR_AF f q ≤ x.level then 2 ^ 16 else 0) + n)

/-- The head entry that a host sees (R300, R304). -/
def qcHead (s : State) (r q : Nat) : DWord :=
  match (s.qc r q).seen with
  | [] => 0
  | e :: _ => if qcOn s r q && s.gf F.QC_CFG_WIDTH (fabB r) q == 3 then e.v.setWidth 64 else 0

/-- FAB_CAP_STAT: STATE reads waiting while the branch of a tree not yet captured is closed (R309). -/
def capStat (s : State) (r : Nat) (w : Word) : Word :=
  let x := s.fab r
  if x.capTrig && (List.range 24).any fun t => x.capPend.testBit t && !branchOpen s r t then
    w.setBits F.FAB_CAP_STAT_STATE.hi F.FAB_CAP_STAT_STATE.lo 2
  else w

/-- FAB_CAP_DATA (R309): a cluster's latches, or those of a block's two output registers, whose places in the 32 bits no
rule gives. -/
def capData (s : State) (r c : Nat) : Word :=
  let x := s.fab r
  if c < 96 then x.capLatch.get c else Config.capBlock (x.capBm.get ((c - 96) * 2)) (x.capBm.get ((c - 96) * 2 + 1))

/-- FAB_GCLKg shows the same die-wide values in every region of a die: those of its first region (R287). -/
def globalTree (s : State) (r g : Nat) : Word := s.rd R.FAB_GCLKg (fabB (r / 8 * 8)) g

/-- FAB_GCLKg, FAB_CAP_STAT, FAB_CAP_DATA, QC_STAT and QC_DATA; FAB_BM_DATA reads through the copy port. -/
def viewFab (s : State) (r o n : Nat) (w : Word) : Word :=
  let f := fabB r
  if o = R.FAB_CAP_DATA.off then capData s r (s.gf F.FAB_CAP_ADDR_CLUSTER f)
  else if o = R.FAB_CAP_STAT.off then capStat s r w
  else if o = R.FAB_GCLKg.off then globalTree s r n
  else if o = R.FAB_BM_DATA.off then (copyRead s (Fin.ofNat 16 r) false).1.setWidth 32
  else if o = R.FAB_BM_DATA.off + 4 then ((copyRead s (Fin.ofNat 16 r) false).1 >>> 32).setWidth 32
  else if o = R.QC_STAT.off then qcStat s r n
  else if o = R.QC_DATA.off then (qcHead s r n).lo
  else if o = R.QC_DATA.off + 4 then (qcHead s r n).hi
  else w

/-- PMAP_FINFO of the flow that PMAP_FSEL names: GEN of the entry in use, CACHED, and the suspension with the milliseconds
left of its hold limit (R407; of the alarm flow no limit runs, R408). -/
def pmapInfo (s : State) : Word :=
  let f := s.gf F.PMAP_FSEL_FLOW 0
  let x := s.post f
  let gen := match x.entry with | some l => l.gen | none => 0
  let left := fun (u : SuspS) => (s.flow f).hold - (s.hub.base - u.since) / 16_000_000
  BitVec.ofNat 32 (gen * 2 ^ 24 + (if (s.pmap.cache.any fun c => c.flow = f) then 2 ^ 23 else 0)
    + (match x.susp with | some u => u.cause % 16 * 2 ^ 16 + left u % 2 ^ 16 | none => 0))

/-- Registers of the Hub window that show other state: HUB_IRQ_STAT, CFG_FIFO_STAT.FREE, SPR_ALARM_PEND, PMAP_FINFO,
PMAP_FWP, HERD_TIME, PIN_INw. -/
def viewHub (s : State) (a n : Nat) (w : Word) : Word :=
  if a = R.HUB_IRQ_STAT.off then BitVec.ofNat 32 s.irqStat
  else if a = R.CFG_FIFO_STAT.off then w.setBits 10 0 (1024 - s.cfg.fifo.length)
  else if a = R.SPR_ALARM_PEND.off then BitVec.ofNat 32 s.spoor.slots.cells.length
  else if a = R.PMAP_FINFO.off then pmapInfo s
  else if a = R.PMAP_FWP.off then (s.post (s.gf F.PMAP_FSEL_FLOW 0)).count.lo
  else if a = R.PMAP_FWP.off + 4 then (s.post (s.gf F.PMAP_FSEL_FLOW 0)).count.hi
  else if a = R.HERD_TIME.off then s.now.lo
  else if a = R.HERD_TIME.off + 4 then s.now.hi
  else if R.PIN_INw.off ≤ a ∧ a < R.PIN_INw.off + 24 then pinInWord s n
  else w

/-- The word of a register with a row in a summary: `k` its block kind, `b` its block's base, `o` the offset of the row, `n`
its number in the family (write-only fields not yet taken out). -/
def viewReg (s : State) (a : Reader) (addr : Nat) (k : Blk) (b o n : Nat) : Word :=
  let w := (s.regs.tab k).get (sharedAt addr)
  let r := (rgnAt addr).val
  match k with
  | .ac => viewAc s b o w
  | .cg => viewCg s a r (unitAt addr) o n w
  | .pg => viewPg s r o n w
  | .le => viewLe s r o n w
  | .fab => viewFab s r o n w
  | .rgn => if o = R.RGN_RDO_DATA.off then (s.rgnS r).rdo.get (s.gf F.RGN_RDO_ADDR_WORD (rgB r)) else w
  | .sett => w
  | _ => viewHub s addr n w

/-! ### Words without a row: window, engine memories, retention memory -/

/-- A word of a Loop Engine's register window (R280). -/
def viewWin (s : State) (r o : Nat) : Word :=
  let d := winGet (s.eng r) (s.gb F.LE_CTRL_VIEW (leB r)) (winIndex o)
  if 0x1080 ≤ o ∧ o < 0x10C0 ∧ o % 8 = 4 then d.hi else d.lo

/-- A word of program, X or Y memory; X and Y words sign-extended (R69, R70). -/
def viewMem (s : State) (addr : Nat) : Word :=
  if offAt addr < 0x9_0000 then s.lemem.get addr else ((s.lemem.get addr).setWidth 24).signExtend 32

/-- What an address of the map reads as for a reader: 0 at a reserved offset (R12). -/
def viewWord (s : State) (a : Reader) (addr : Nat) : Word :=
  if 0x14_0000 ≤ addr ∧ addr < 0x18_0000 then s.sett.ret.get addr
  else if addr < 0x100_0000 then
    match rowAt addr with
    | some (k, b, row, n) => readFields row.fields (viewReg s a addr k b row.off n)
    | none => 0
  else
    let o := offAt addr
    if 0x4_0000 ≤ o ∧ o < 0x5_0000 ∧ inWindow (o - 0x4_0000) then viewWin s (rgnAt addr).val (o - 0x4_0000)
    else if 0x8_0000 ≤ o ∧ o < 0xB_0000 then viewMem s addr
    else match rowAt addr with
      | some (k, b, row, n) => readFields row.fields (viewReg s a addr k b row.off n)
      | none => 0

/-! ### 64-bit registers (R18, R70, R280) -/

/-- Which half of a 64-bit register a word is: 1 the low half, 2 the high half, 0 a 32-bit word. -/
def halfAt (addr : Nat) : Nat :=
  let o := offAt addr
  if 0x100_0000 ≤ addr ∧ 0x8_0000 ≤ o ∧ o < 0x9_0000 then (if addr % 8 = 0 then 1 else 2)
  else if 0x100_0000 ≤ addr ∧ 0x4_1080 ≤ o ∧ o < 0x4_10C0 then (if addr % 8 = 0 then 1 else 2)
  else match rowAt addr with
    | some (_, _, row, _) => row.half
    | none => 0

end Sys2Proof.Machine
end

