-- ==== Sys2Proof/Machine/Access.lean ====
section
/-!
DEFINITION. Register access (00_scope.md R10 to R20; 01_architecture.md R29, R65 to R70; 07_loop_engines.md R246;
08_logic_fabric.md R294, R304; 13_host_interfaces_and_pins.md R460 to R463, R467 to R470): what a read answers and clears,
where a write goes, and the paths that make them.
-/

namespace Sys2Proof.Machine

/-- An address of a word of the map (R66). -/
def mapped (addr : Nat) : Bool := addr % 4 = 0 && decide (addr < 0x200_0000)

/-! ### Reads (R10, R15, R19) -/

/-- What a read leaves of the RC fields of a word, with the events of the same cycle (R10, R15); of a SETT_ register in the
Sett as well as in the mirror (R68). -/
def readClears (s : State) (addr : Nat) (ev : Word) : State :=
  match rowAt addr with
  | some (k, _, row, _) =>
    let s1 := { s with regs := s.regs.put k ((s.regs.tab k).set addr (afterRead row.fields ev ((s.regs.tab k).get addr))) }
    if k = .sett then { s1 with sett := { s1.sett with own := s1.sett.own.set addr (afterRead row.fields ev (s1.sett.own.get addr)) } }
    else s1
  | none => s

/-- The high half of a 64-bit register is held for the reader (R19). -/
def holdHigh (s : State) (a : Reader) (addr : Nat) (hi : Word) : State :=
  { s with hold := s.hold.set (accKey a (addr + 4)) (some hi) }

/-- A pop of a queue by a read of QC_DATA's low half (R304): the high half is held for the reader (R19). -/
def popRead (s : State) (a : Reader) (r : Rgn) (q : Nat) : Word × State :=
  let p := qcPop s r q
  (p.1.lo, holdHigh p.2 a (R.QC_DATA.addr (fabB r.val) q) p.1.hi)

/-- A read of a low half: the live half, the high half latched; QC_DATA pops (R304), FAB_BM_DATA reads through the copy port
(R298), CG_RESULT has a holding register of its own (R125). -/
def readLow (s : State) (a : Reader) (addr : Nat) : Word × State :=
  let r := rgnAt addr
  match rowAt addr with
  | some (k, _, row, n) =>
    if k = .cg ∧ row.off = R.CG_RESULT.off then resultLow s a r.val (unitAt addr)
    else if k = .fab ∧ row.off = R.QC_DATA.off then
      popRead (qcPass s r.val n 3 3) a r n
    else if k = .fab ∧ row.off = R.FAB_BM_DATA.off then
      let p := copyRead s r false
      (p.1.setWidth 32, holdHigh p.2 a addr ((p.1 >>> 32).setWidth 32))
    else (viewWord s a addr, holdHigh s a addr (viewWord s a (addr + 4)))
  | none => (viewWord s a addr, holdHigh s a addr (viewWord s a (addr + 4)))

/-- A read of a high half: the held half, whose register empties, or the live one. -/
def readHigh (s : State) (a : Reader) (addr : Nat) : Word × State :=
  let isResult : Bool := match rowAt addr with
    | some (k, _, row, _) => decide (k = .cg ∧ row.off = R.CG_RESULT.off + 4)
    | none => false
  if isResult then resultHigh s a (rgnAt addr).val (unitAt addr)
  else match s.hold.get (accKey a addr) with
    | some v => (v, { s with hold := s.hold.set (accKey a addr) none })
    | none => (viewWord s a addr, s)

/-- A read of a register with a row: a user register by its latch group (R306), an accumulator's cells (R516), else its word,
whose RC fields clear. -/
def readRow (s : State) (a : Reader) (addr : Nat) (ev : Word) (k : Blk) (o n : Nat) : Word × State :=
  if k = .fab ∧ o = R.FAB_UREGn.off then uregRead s a (rgnAt addr).val n
  else if k = .sett ∧ o = R.SETT_ACCn_C0.off then let p := accRead s a n; (p.2, p.1)
  else if k = .sett ∧ o = R.SETT_ACCn_C1.off then let p := accHeld s a n 1; (p.2, p.1)
  else if k = .sett ∧ o = R.SETT_ACCn_C2.off then let p := accHeld s a n 2; (p.2, p.1)
  else (viewWord s a addr, readClears s addr ev)

/-- A read of a word by an access path, with the events of the same cycle (R15). An address outside the map, one that is no
word's, and the wear ledger, whose layout no rule states, answer a free value. -/
def readWord (s : State) (a : Reader) (addr : Nat) (ev : Word) : Word × State :=
  if !mapped addr || decide (0x14_0000 ≤ addr ∧ addr < 0x15_0000) then let f := s.free; (f.1.setWidth 32, f.2)
  else match halfAt addr with
    | 1 => readLow s a addr
    | 2 => readHigh s a addr
    | _ =>
      match rowAt addr with
      | some (k, _, row, n) => readRow s a addr ev k row.off n
      | none => (viewWord s a addr, s)

/-- A read by a path that reaches the address, answered to it. -/
def readTo (s : State) (a : Reader) (addr : Nat) (ev : Word) : State :=
  if reaches s a addr then
    let p := readWord s a addr ev
    p.2.answer a (p.1.setWidth 64)
  else s

/-! ### Writes of 32-bit registers (R10 to R17, R29) -/

/-- Field by field. -/
def rowWrite (s : State) (addr : Nat) (k : Blk) (fs : List FldRow) (v : Word) : State :=
  let t := s.regs.tab k
  let i := sharedAt addr
  { s with regs := s.regs.put k (t.set i (mergeFields (s.locked k addr) fs (t.get i) v)) }

/-- The W1C bits that the Trarix sets in the cycle of a write, whatever the write does (R14); of a SETT_ register in the Sett
as well as in the mirror. A comparator's latch sets with its crossing alone: the write then leaves it set. -/
def rowEvents (s : State) (addr : Nat) (k : Blk) (row : RegRow) (hw : Word) : State :=
  if (k = .ac ∧ row.off = R.WC_CMPm_STAT.off) ∨ hw &&& accMask .w1c row.fields = 0 then s
  else
    let i := sharedAt addr
    let s1 := { s with regs := s.regs.put k ((s.regs.tab k).set i (withEvents row.fields hw ((s.regs.tab k).get i))) }
    if k = .sett then
      { s1 with sett := { s1.sett with own := s1.sett.own.set addr (withEvents row.fields hw (s1.sett.own.get addr)) } }
    else s1

/-- The analogue cluster's window: AC_ and WC_ registers. The injection bit of a detector that is still tripped reads 1 again
after a clear (R91). -/
def writeAc (s : State) (a : Reader) (r : Rgn) (c : Nat) (o n : Nat) (v : Word) (plain : State → State) : State :=
  let k : Fin 12 := Fin.ofNat 12 c
  let m : Fin 2 := Fin.ofNat 2 n
  let i : Fin 8 := Fin.ofNat 8 n
  if o = R.AC_CTRL.off then acCtrlWrite s a r k v
  else if o = R.AC_MIG.off then migWrite s a r.val c v
  else if o = R.AC_CELLn_CFG.off then cellCfgWrite s a r k i v
  else if o = R.AC_CELLn_FILT.off then cellFiltWrite s a r k i v
  else if o = R.AC_CELLn_ROUTE.off then cellRouteWrite s a r k i v
  else if o = R.AC_CELLn_AUX.off then cellPlainWrite s a R.AC_CELLn_AUX r.val c n v
  else if o = R.AC_CELLn_TRIM.off then cellPlainWrite s a R.AC_CELLn_TRIM r.val c n v
  else if o = R.AC_CELLn_STAT.off then cellPlainWrite s a R.AC_CELLn_STAT r.val c n v
  else if o = R.WC_CHK.off then wcChkWrite s a r.val c v
  else if o = R.WC_CMPm_CFG.off then wcCfgWrite s a r k m v
  else if o = R.WC_CMPm_THR.off then wcThrWrite s a r k m v
  else if o = R.WC_CMPm_TRIP.off then wcRouteWrite s a r k m true v
  else if o = R.WC_CMPm_ROUTE.off then wcRouteWrite s a r k m false v
  else if o = R.WC_CMPm_TRIM.off then wcTrimWrite s a r.val c n v
  else if o = R.WC_CMPm_STAT.off then wcStatWrite s a r k m v
  else if o = R.WC_CMPm_CNT.off then wcPlainWrite s a r.val c n plain
  else if R.WC_CTRL.off ≤ o then wcOwner s a r.val c plain
  else if o = R.AC_INJ_AIO.off ∨ o = R.AC_INJ_FIN.off then s.asOwner a r.val fun s => showInjected (plain s) r.val
  else s.asOwner a r.val plain

/-- Converter groups. -/
def writeCg (s : State) (a : Reader) (r : Rgn) (u : Nat) (o n : Nat) (v : Word) (plain : State → State) : State :=
  let g : Fin 4 := Fin.ofNat 4 u
  if o = R.CG_CTRL.off then cgCtrlWrite s a r.val u v
  else if o = R.CG_SCAN.off then cgScanWrite s a r.val u v
  else if o = R.CG_URG.off then urgWrite s a r g v
  else if o = R.CG_ROT_CTRL.off then rotCtrlWrite s a r g v
  else if o = R.CG_MASK.off then cgGuardedWrite s a R.CG_MASK r.val u 0 v
  else if o = R.CG_URGk_CFG.off then cgGuardedWrite s a R.CG_URGk_CFG r.val u n v
  else if o = R.CG_TAPt_CFG.off then cgGuardedWrite s a R.CG_TAPt_CFG r.val u n v
  else if o = R.CG_TAPt_MASK.off then cgGuardedWrite s a R.CG_TAPt_MASK r.val u n v
  else if o = R.CG_CHc_CFG.off then cgGuardedWrite s a R.CG_CHc_CFG r.val u n v
  else if o = R.CG_CHc_COR.off then cgGuardedWrite s a R.CG_CHc_COR r.val u n v
  else s.asOwner a r.val plain

/-- Pulse generators. A duty value written here is stamped at the tick's start; the registers of a substitution's target that
have nothing to write refuse too (R232). -/
def writePg (s : State) (a : Reader) (r : Rgn) (o n : Nat) (v : Word) (plain : State → State) : State :=
  let c : Fin 16 := Fin.ofNat 16 n
  if o = R.PG_SUB.off then pgSubWrite s a r.val v
  else if o = R.PG_GRPg_CTRL.off then grpCtrlWrite s a r.val n v
  else if o = R.PG_GRPg_PER.off then perWrite s a r.val n v
  else if o = R.PG_CHcc_CFG.off then chCfgWrite s a r c v
  else if o = R.PG_CHcc_PHASE.off then chPlainWrite s a R.PG_CHcc_PHASE r.val n v
  else if o = R.PG_CHcc_DUTY.off then dutyWrite s a r.val n v (fineNow s 0)
  else if o = R.PG_CHcc_TRIG.off then chPlainWrite s a R.PG_CHcc_TRIG r.val n v
  else if o = R.PG_CHcc_LOWMAX.off then chPlainWrite s a R.PG_CHcc_LOWMAX r.val n v
  else if o = R.PG_CHcc_LIM.off then limWrite s a r.val n v
  else if o = R.PG_CHcc_TRIPCFG.off then tripCfgWrite s a r c v
  else if o = R.PG_CHcc_STATES.off then statesWrite s a r.val n v
  else if o = R.PG_CHcc_REL.off then relWrite s a r.val n v
  else s.asOwner a r.val fun s => if 0x1000 ≤ o ∧ substituting s r.val n then pgReject s r.val else plain s

/-- Loop Engine control. -/
def writeLe (s : State) (a : Reader) (r : Rgn) (o n : Nat) (v : Word) (plain : State → State) : State :=
  if o = R.LE_CTRL.off then leCtrlWrite s a r.val v
  else if o = R.LE_SUB.off then leSubWrite s a r.val v
  else if o = R.LE_INp_CFG.off then leInCfgWrite s a r.val n v
  else if o = R.LE_OUTp_CFG.off then leOutCfgWrite s a r.val n v
  else s.asOwner a r.val plain

/-- Fabric, block memories and queue controllers. -/
def writeFab (s : State) (a : Reader) (r : Rgn) (o n : Nat) (v : Word) (plain : State → State) : State :=
  if o = R.FAB_RST.off then fabRstWrite s a r.val v
  else if o = R.FAB_CAP_CTRL.off then capWrite s a r.val v
  else if o = R.FAB_RELOC.off then relocWrite s a r.val v
  else if o = R.FAB_UREGn.off then uregWrite s a r.val n v
  else if o = R.QC_CFG.off then qcWrite s a R.QC_CFG r.val n v
  else if o = R.QC_THR.off then qcWrite s a R.QC_THR r.val n v
  else if o = R.QC_FLUSH.off then qcFlushWrite s a r.val n v
  else if o = R.QC_EVT.off then fabOwner s a r.val fun s => if blockTarget s r.val n then fabReject s r.val else plain s
  else fabOwner s a r.val plain

/-- The Hub window. SPR_CTRL.LOCK locks the descriptors (SPR_CTRL); a change of PMAP_CTRL may let a port post (R389). -/
def writeHub (s : State) (a : Reader) (o n : Nat) (v : Word) (plain : State → State) : State :=
  if o = R.CFG_PR_CMD.off then prCmdWrite s a v
  else if o = R.CFG_FIFO.off then fifoWrite s v
  else if o = R.CFG_FL_CMD.off then flWrite s v
  else if o = R.SEC_OTP_CMD.off then otpWrite s a v
  else if o = R.SEC_FENCE_CMD.off then fenceWrite s a v
  else if o = R.SPR_CMD.off then sprCmdWrite s v
  else if o = R.SPR_DESC0.off ∨ o = R.SPR_DESC1.off ∨ o = R.SPR_DESC2.off then
    (if s.gb F.SPR_CTRL_LOCK 0 then s else plain s)
  else if o = R.PMAP_CMD.off then pmapCmdWrite s v
  else if o = R.PMAP_CTRL.off then choosePort (plain s)
  else if o = R.HOST_p_CTRL.off then hostCtrlWrite s n v
  else if o = R.HERD_CTRL.off then herdCtrlChange s (plain s)
  else if o = R.HERD_DEMr.off then herdDemWrite s a n v
  else if o = R.PIN_OUTw.off then pinOutWrite s n 0 v
  else if o = R.PIN_OSETw.off then pinOutWrite s n 1 v
  else if o = R.PIN_OCLRw.off then pinOutWrite s n 2 v
  else if o = R.PIN_EVTk_CFG.off then pinEvtWrite s n v
  else if o = R.PIN_Pxn_CFG.off then pinWrite s n false v
  else if o = R.PIN_Pxn_ARG.off then pinWrite s n true v
  else plain s

/-- The write of a register with a row: to the meaning of its own that it has, else field by field under the owner check of
its region. -/
def writeRowTo (s : State) (a : Reader) (addr : Nat) (v : Word) (k : Blk) (row : RegRow) (n : Nat) (plain : State → State) :
    State :=
  let r := rgnAt addr
  match k with
  | .ac => writeAc s a r (unitAt addr) row.off n v plain
  | .cg => writeCg s a r (unitAt addr) row.off n v plain
  | .pg => writePg s a r row.off n v plain
  | .le => writeLe s a r row.off n v plain
  | .fab => writeFab s a r row.off n v plain
  | .rgn =>
    if row.off = R.RGN_CTRL.off then rgnCtrlWrite s a r.val v
    else if row.off = R.RGN_VF.off then vfWrite s a r.val v
    else s.asOwner a r.val plain
  | .sett => settWrite s addr v
  | _ => writeHub s a row.off n v plain

/-- The same, with the events of the same cycle, which it does not clear (R14). -/
def writeRow (s : State) (a : Reader) (addr : Nat) (v hw : Word) (k : Blk) (row : RegRow) (n : Nat) : State :=
  rowEvents (writeRowTo s a addr (v &&& ~~~(hw &&& accMask .w1c row.fields)) k row n fun s => rowWrite s addr k row.fields v)
    addr k row hw

/-! ### Writes of 64-bit registers (R20) -/

/-- A 64-bit register is replaced, each half field by field. -/
def wideRow (s : State) (addr : Nat) (v : DWord) : State :=
  match rowAt addr, rowAt (addr + 4) with
  | some (k, _, lo, _), some (_, _, hi, _) => rowWrite (rowWrite s addr k lo.fields v.lo) (addr + 4) k hi.fields v.hi
  | _, _ => s

/-- All 64 bits of the register whose low half is at `addr`. -/
def wideWrite (s : State) (a : Reader) (addr : Nat) (v : DWord) : State :=
  let r := rgnAt addr
  let o := offAt addr
  if addr < 0x100_0000 then
    if addr = R.PMAP_ROOT_A.off then pmapRootWrite s 0 v
    else if addr = R.PMAP_ROOT_B.off then pmapRootWrite s 1 v
    else if addr = R.HERD_TSET.off then herdTset s v
    else wideRow s addr v
  else if 0x8_0000 ≤ o then progWrite s a r.val ((o - 0x8_0000) / 8) v
  else if o < 0x5_0000 then winWrite s a r.val (winIndex (o - 0x4_0000)) v
  else if o = 0x6_0000 + R.FAB_BM_DATA.off then copyWrite s a r.val (v.setWidth 36) false
  else s

/-- A 64-bit register that takes writes: of a region, those of the engine and the copy port. -/
def wideWritable (addr : Nat) : Bool :=
  if addr < 0x100_0000 then
    (match rowAt addr with
      | some (_, _, row, _) => row.fields.any fun f => f.acc = .rw || f.acc = .rwl
      | none => false)
  else offAt addr < 0x5_0000 || 0x8_0000 ≤ offAt addr || offAt addr = 0x6_0000 + R.FAB_BM_DATA.off

/-- A write of a half is made by the owner, where the register stands in a region (R29). -/
def byOwner (s : State) (a : Reader) (addr : Nat) (f : State → State) : State :=
  if addr < 0x100_0000 then f s
  else if 0x6_0000 ≤ offAt addr ∧ offAt addr < 0x8_0000 then fabOwner s a (rgnAt addr).val f
  else s.asOwner a (rgnAt addr).val f

/-- A write of a low half: staged for the writer. -/
def stageLow (s : State) (a : Reader) (addr : Nat) (v : Word) : State :=
  if wideWritable addr then
    byOwner s a addr fun s => { s with stage := s.stage.set (accKey a (addr + 4)) (some v) }
  else s

/-- A write of a high half: all 64 bits, with the staged low half or the present one. -/
def writeHigh (s : State) (a : Reader) (addr : Nat) (v : Word) : State :=
  let low := addr - 4
  if wideWritable low then
    let lo := match s.stage.get (accKey a addr) with | some w => w | none => viewWord s a low
    wideWrite { s with stage := s.stage.set (accKey a addr) none } a low (DWord.ofHalves lo v)
  else s

/-! ### Any write -/

/-- A write of a word of a Loop Engine's window, X or Y memory; program memory and accumulators are 64-bit (R70, R280). -/
def writeLeWord (s : State) (a : Reader) (addr : Nat) (v : Word) : State :=
  let r := (rgnAt addr).val
  let o := offAt addr
  if o < 0x5_0000 then winWrite s a r (winIndex (o - 0x4_0000)) (v.setWidth 64)
  else if o < 0xA_0000 then xyWrite s a r false ((o - 0x9_0000) / 4) v false
  else xyWrite s a r true ((o - 0xA_0000) / 4) v false

/-- An address is a word of a Loop Engine's window, X or Y memory. -/
def isLeWord (addr : Nat) : Bool :=
  let o := offAt addr
  decide (0x100_0000 ≤ addr) && ((decide (0x4_0000 ≤ o) && decide (o < 0x5_0000) && inWindow (o - 0x4_0000))
    || (decide (0x9_0000 ≤ o) && decide (o < 0xB_0000)))

/-- A write of a word by an access path, with the events of the same cycle (R14). A reserved offset takes nothing (R12); of the
retention memory only user retention takes it (R511). -/
def writeWord (s : State) (a : Reader) (addr : Nat) (v hw : Word) : State :=
  if !mapped addr then s
  else if 0x14_0000 ≤ addr ∧ addr < 0x18_0000 then
    (if 0x17_0000 ≤ addr ∧ addr < 0x17_F000 then { s with sett := { s.sett with ret := s.sett.ret.set addr v } } else s)
  else match halfAt addr with
    | 1 => stageLow s a addr v
    | 2 => writeHigh s a addr v
    | _ =>
      if isLeWord addr then writeLeWord s a addr v
      else match rowAt addr with
        | some (k, _, row, n) => writeRow s a addr v hw k row n
        | none => s

/-- A write by a path that reaches the address. -/
def writeFrom (s : State) (a : Reader) (addr : Nat) (v hw : Word) : State :=
  if reaches s a addr then writeWord s a addr v hw else s

/-! ### The commands of R10, R15, R19 and R20 -/

/-- READ_LOW_HALF. -/
def execReadLowHalf (a : Reader) (n : WNum) (s : State) : Host.Outcome State Fault Refusal := s.after (readTo s a (4 * n.val) 0)
/-- READ_HIGH_HALF. -/
def execReadHighHalf (a : Reader) (n : WNum) (s : State) : Host.Outcome State Fault Refusal := s.after (readTo s a (4 * n.val) 0)
/-- READ_CLEAR: `ev`: RC bits set by the Trarix in the cycle of the read. -/
def execReadClear (a : Reader) (n : WNum) (ev : Word) (s : State) : Host.Outcome State Fault Refusal :=
  s.after (readTo s a (4 * n.val) ev)
/-- WRITE_LOW_HALF. -/
def execWriteLowHalf (a : Reader) (n : WNum) (v : Word) (s : State) : Host.Outcome State Fault Refusal :=
  s.after (writeFrom s a (4 * n.val) v 0)
/-- WRITE_HIGH_HALF. -/
def execWriteHighHalf (a : Reader) (n : WNum) (v : Word) (s : State) : Host.Outcome State Fault Refusal :=
  s.after (writeFrom s a (4 * n.val) v 0)
/-- REGISTER_WRITE: `hw`: W1C bits set by the Trarix in the cycle of the write. -/
def execRegisterWrite (a : Reader) (n : WNum) (v hw : Word) (s : State) : Host.Outcome State Fault Refusal :=
  s.after (writeFrom s a (4 * n.val) v hw)

/-! ### Accesses of a region's engine and fabric (R246, R294, R304) -/

/-- CWR_COMPLETE (R246): the oldest write in flight takes effect. -/
def execCwrComplete (r : Rgn) (s : State) : Host.Outcome State Fault Refusal :=
  let x := s.eng r.val
  s.after <|
    match x.cwr with
    | [] => s
    | (off, v) :: l => writeFrom (s.setEng r.val { x with cwr := l }) (.le r) (rgnBase r.val + off) v 0

/-- CRD_COMPLETE (R246), once every earlier CWR has taken effect: the engine waited `n` cycles more. -/
def execCrdComplete (r : Rgn) (n : Nat) (s : State) : Host.Outcome State Fault Refusal :=
  s.after <|
    match (s.eng r.val).mode with
    | .crd off k =>
      if s.clk r.val ≠ 0 ∨ (s.eng r.val).paused ∨ (s.eng r.val).cwr ≠ [] then s
      else
        let p := readWord s (.le r) (rgnBase r.val + off) 0
        crdTake p.2 r k p.1 n
    | _ => s

/-- REGION_REGISTER_PORT (R294): `off`: the word of the region block; no word to write: a read, answered to the port. A
write is acknowledged as done, refused or not (Emit.portAck). Fabric logic whose clocks are stopped strobes nothing (R289). -/
def execRegionRegisterPort (r : Rgn) (off : Fin 262144) (w : Option Word) (s : State) : Host.Outcome State Fault Refusal :=
  let addr := rgnBase r.val + 4 * off.val
  s.after <|
    if s.clk r.val ≠ 0 then s
    else match w with
    | some v => (writeFrom s (.fab r) addr v 0).emit (.portAck r.val)
    | none => (readTo s (.fab r) addr 0).emit (.portAck r.val)

/-- QUEUE_POP (R301, R304): the low half of QC_DATA read. `wc`, `rc`: cycles of the queue's clocks since its last command;
`upset`: bits of the oldest entry that have flipped. -/
def execQueuePop (a : Reader) (r : Rgn) (q : Fin 16) (wc rc : Nat) (upset : BitVec 72) (s : State) :
    Host.Outcome State Fault Refusal :=
  let s1 := entryUpset (qcPass s r.val q.val wc rc) r.val q.val upset
  let p := popRead s1 a r q.val
  s.after (if reaches s a (R.QC_DATA.addr (fabB r.val) q.val) then p.2.answer a (p.1.setWidth 64) else s)

/-! ### BAR0 (R456, R460, R461) -/

/-- The access path of a port. -/
def portReader (p : Fin 2) : Reader := if p.val = 0 then .hla else .hlb

/-- The addresses of the words that bytes [addr, addr + len) touch, ascending. -/
def wordsOf (addr len : Nat) : List Nat :=
  if len = 0 then [] else (List.range ((addr + len - 1) / 4 - addr / 4 + 1)).map fun i => (addr / 4 + i) * 4

/-- Words read in ascending address, each a read of its own; the bytes in order. -/
def readBytes (s : State) (a : Reader) (ws : List Nat) : List (BitVec 8) × State :=
  ws.foldl (fun (p : List (BitVec 8) × State) w =>
    let x := readWord p.2 a w 0
    (p.1 ++ wordBytes x.1, x.2)) ([], s)

/-- BAR0_READ (R456, R460, R461). -/
def execBar0Read (p : Fin 2) (addr : Fin 33554432) (len : Fin 4097) (s : State) : Host.Outcome State Fault Refusal :=
  s.after <|
    if !s.linkUp p.val then s
    else if s.gb F.HOST_p_STAT_D3HOT 0 p.val then s.emit (.completion p.val 1 [])
    else if 128 < len.val then (s.sb F.HOST_p_EVT_BAD_SIZE 0 p.val true).emit (.completion p.val 4 [])
    else
      let x := readBytes s (portReader p) (wordsOf addr.val len.val)
      x.2.emit (.completion p.val 0 ((x.1.drop (addr.val % 4)).take len.val))

/-- Four bytes at a time as words, lowest address first. -/
def toWords : List (BitVec 8) → List Word
  | b0 :: b1 :: b2 :: b3 :: l => (b3 ++ b2 ++ b1 ++ b0) :: toWords l
  | _ => []

/-- BAR0_WRITE (R456, R460, R461): `bytes` from the lowest address on; none: byte enable clear. -/
def execBar0Write (p : Fin 2) (addr : Fin 33554432) (bytes : List (Option (BitVec 8))) (s : State) :
    Host.Outcome State Fault Refusal :=
  s.after <|
    if !s.linkUp p.val || s.gb F.HOST_p_STAT_D3HOT 0 p.val then s
    else if 128 < bytes.length then s.sb F.HOST_p_EVT_BAD_SIZE 0 p.val true
    else if addr.val % 4 ≠ 0 ∨ bytes.length % 4 ≠ 0 ∨ bytes = [] ∨ bytes.any (·.isNone) then
      s.sb F.HOST_p_EVT_PARTIAL 0 p.val true
    else
      let ws := toWords (bytes.map fun b => b.getD 0)
      ((List.range ws.length).zip ws).foldl (fun s (c : Nat × Word) => writeWord s (portReader p) (addr.val + 4 * c.1) c.2 0) s

/-! ### The sideband target's register protocol (R467 to R469) -/

/-- A write transaction is taken: from Loading on, and, with HOST_SB_CFG.PEC = 1 and no dynamic address, only with a right PEC
byte; else it is discarded and counted. It abandons a result not yet read. -/
def sbCommand (s : State) (pec : Bool) (f : State → State) : Host.Outcome State Fault Refusal :=
  s.after <|
    if !hubOn s then s
    else if s.gb F.HOST_SB_CFG_PEC 0 && !s.gb F.HOST_SB_STAT_DA_VALID 0 && !pec then s.bump F.HOST_SB_STAT_ERR 0
    else f (s.setSb { s.host.sb with result := none })

/-- The result of a command: of a read command or not, its status and its data. -/
def sbResult (s : State) (rd : Bool) (status : Nat) (v : Word) : State :=
  s.setSb { s.host.sb with result := some (rd, status, v) }

/-- A read at an address, which becomes the last one. -/
def sbRead (s : State) (addr : Word) : State :=
  if addr.toNat % 4 ≠ 0 then sbResult s true 2 0
  else
    let p := readWord (s.setSb { s.host.sb with addr := addr }) .sb addr.toNat 0
    sbResult p.2 true 0 p.1

/-- READ (0x10). -/
def execRead (addr : Word) (pec : Bool) (s : State) : Host.Outcome State Fault Refusal :=
  sbCommand s pec fun s => sbRead s addr

/-- WRITE (0x11): a write refused under R29 still reports status 0. -/
def execWrite (addr v : Word) (pec : Bool) (s : State) : Host.Outcome State Fault Refusal :=
  sbCommand s pec fun s =>
    if addr.toNat % 4 ≠ 0 then sbResult s false 2 0
    else sbResult (writeWord (s.setSb { s.host.sb with addr := addr }) .sb addr.toNat v 0) false 0 0

/-- READ_NEXT (0x12): the last address plus 4. -/
def execReadNext (pec : Bool) (s : State) : Host.Outcome State Fault Refusal :=
  sbCommand s pec fun s => sbRead s (s.host.sb.addr + 4)

/-- One bit of the CRC-8 of a PEC byte (SMBus 3.2: polynomial 0x07, most significant bit first). -/
def pecBit (c : BitVec 8) : BitVec 8 := if c.getLsbD 7 then (c <<< 1) ^^^ 0x07 else c <<< 1

/-- The PEC byte over the bytes of a transaction. -/
def pecOf (bytes : List (BitVec 8)) : BitVec 8 :=
  bytes.foldl (fun c b => (List.range 8).foldl (fun c _ => pecBit c) (c ^^^ b)) 0

/-- STATUS_READ (R467, R469): data and status of the last command, once; then status 0x04. With PEC = 1 and no dynamic address
the PEC byte ends the read, over the address byte too. -/
def execStatusRead (s : State) : Host.Outcome State Fault Refusal :=
  s.after <|
    if !hubOn s then s
    else
      let bytes := match s.host.sb.result with
        | some (rd, st, v) => (if rd then wordBytes v else []) ++ [BitVec.ofNat 8 st]
        | none => wordBytes 0 ++ [4]
      let pec := s.gb F.HOST_SB_CFG_PEC 0 && !s.gb F.HOST_SB_STAT_DA_VALID 0
      let address := BitVec.ofNat 8 (s.gf F.HOST_SB_CFG_SA 0 * 2 + 1)
      (s.setSb { s.host.sb with result := none }).emit (.sideband (bytes ++ if pec then [pecOf (address :: bytes)] else []))

/-! ### JTAG (R470) -/

/-- REGACC: one scan of its data register: what Capture-DR took, then the access of Update-DR, whose outcome the next
Capture-DR takes. -/
def execRegacc (dr : BitVec 66) (s : State) : Host.Outcome State Fault Refusal :=
  let op := dr.toNat / 2 ^ 64
  let addr := dr.toNat / 2 ^ 32 % 2 ^ 32
  let keep := fun (s : State) (v : Word) =>
    { s with host := { s.host with jtag := { s.host.jtag with dr := v.setWidth 66 } } }
  s.after <|
    if !tapOn s then s
    else
      let s1 := (tapLoad s .regacc).emit (.jtag s.host.jtag.dr)
      if !hubOn s then s1
      else if op = 1 then
        let p := readWord s1 .jtag addr 0
        keep p.2 p.1
      else if op = 2 then keep (writeWord s1 .jtag addr (dr.setWidth 32) 0) 0
      else s1

end Sys2Proof.Machine
end

