-- ==== Sys2Proof/Machine/Transfers.lean ====
section
/-!
DEFINITION. Transfers between blocks: what a stream tap delivers (R128 to R130), a duty transfer (R211, R212), and a
transfer that arrives at a Loop Engine input port (R264, R265).
-/

namespace Sys2Proof.Machine

/-- The two-word transfer of a result (R129). -/
def resultXfer (t : TapEntry) : Xfer :=
  let w := t.result.lo
  let chan := w.bits 15 11
  let flag := fun (i : Nat) (n : Nat) => if w.bit i then n else 0
  ⟨BitVec.ofInt 24 (signedOf 16 (w.bits 31 16) * 2 ^ 10),
   BitVec.ofNat 24 (chan * 2 ^ 19 + flag 10 (2 ^ 18) + flag 9 (2 ^ 17) + flag 8 (2 ^ 16) + t.result.hi.toNat % 2 ^ 16)⟩

/-- The record of a result at a tap (R354). -/
def tapRecord (s : State) (r : Rgn) (g : Fin 4) (t : Nat) (e : TapEntry) : Item :=
  { mkItem s (srcRgn r (unitCg g)) 1 2 (s.gf F.CG_TAPt_CFG_FLOW (cgB r.val g.val) t)
      0 (payloadOf [(0, 8, e.result.toNat), (8, 1, g.val), (9, 1, t), (12, 4, e.seq)]) with time := e.time }

/-- The oldest result of a tap leaves its buffer. -/
def tapPop (s : State) (r g t : Nat) : State :=
  let x := s.grp r g
  s.setGrp r g { x with taps := x.taps.upd t fun p => { p with buf := p.buf.tail } }

/-- Room for a record in its cluster funnel (R130, R380). -/
def hopRoom (s : State) (h : Nat) (i : Item) : Bool :=
  decide ((s.spoor.hops.get h).length < Config.hopDepth h) || (victim (s.spoor.hops.get h) i).isSome

/-- A tap's record goes into its cluster funnel, or waits for a token or for space (R130, R370, R371). -/
def tapEmit (s : State) (r : Rgn) (g : Fin 4) (t : Nat) (e : TapEntry) : State :=
  let i := tapRecord s r g t e
  let h := firstHop i.src
  let s1 := tapPop s r.val g.val t
  match sourceDrop s i.cls i.flow with
  | 0 =>
    let acc := flowAccepted s i.flow
    let j := { i with conf := acc, prio := if i.flow = 0 then 0 else (s.flow i.flow).prio }
    if acc then
      if tokenFree s i.src i.flow then ((s1.takeToken i.src i.flow).enterHop h j).getD s else s
    else if hopRoom s h j then (s1.enterHop h j).getD s
    else s
  | 3 => (s1.countDrop i.flow).noteDrop h i.src
  | _ => s1.dropAt h i

/-- TAP_DELIVER (R128 to R130): the oldest result of a tap's buffer goes to the tap's destination; one that is refused stays
and is offered again. A group that calibrates or has failed delivers nothing (R138, R165), nor one whose clock is stopped. -/
def execTapDeliver (r : Rgn) (g : Fin 4) (t : Fin 3) (s : State) : Host.Outcome State Fault Refusal :=
  let b := cgB r.val g.val
  let dst := s.gf F.CG_TAPt_CFG_RGN b t.val
  let port := s.gf F.CG_TAPt_CFG_PORT b t.val
  s.after <|
    match (if s.clk r.val = 0 ∧ cgState s r.val g.val ≠ 6 ∧ cgState s r.val g.val ≠ 7 then
      ((s.grp r.val g.val).taps.get t.val).buf else []) with
    | [] => s
    | e :: _ =>
      let s1 := tapPop s r.val g.val t.val
      match s.gf F.CG_TAPt_CFG_DEST b t.val with
      | 0 => (portOffer s1 dst port (resultXfer e)).getD s
      | 1 => (streamPush s1 dst port 1 (e.result.setWidth 72)).getD s
      | _ => tapEmit s r g t.val e

/-- DUTY_TRANSFER (R212): the oldest transfer of an output port whose destination is a pulse generator. -/
def execDutyTransfer (r : Rgn) (p : Fin 8) (sub : Fin 120) (s : State) : Host.Outcome State Fault Refusal :=
  s.after <|
    match (if s.clk r.val = 0 then (s.eng r.val).outq.get p.val else []) with
    | [] => s
    | t :: _ =>
      if s.gf F.LE_OUTp_CFG_DEST (leB r.val) p.val = 0 then
        dutyTransfer (outPop s r.val p.val) r.val p.val (t.w0.setWidth 32) (t.w1.setWidth 32) (fineNow s sub)
      else s

/-- PORT_TRANSFER (R41, R265): a transfer of an engine's output port, whose clock must run, or of the Hub arrives at an input
port; a full port keeps the Hub's waiting and drops the engine's. -/
def execPortTransfer (src : PortSrc) (s : State) : Host.Outcome State Fault Refusal :=
  s.after <|
    match src with
    | .engine r p => if s.clk r.val = 0 then outArrive s r.val p.val else s
    | .hub r p w0 w1 => (portOffer s r.val p.val ⟨w0, w1⟩).getD s

end Sys2Proof.Machine
end

