-- ==== Sys2Proof/Machine/Dispatch.lean ====
section
/-!
DEFINITION. One arm for each constructor of Instr: a direct call of its meaning.
-/

namespace Sys2Proof.Machine

/-- The effect of a command on everything but the queue. -/
def exec (i : Instr) (s : State) : Host.Outcome State Fault Refusal :=
  match i with
  | .readLowHalf a n => Sys2Proof.Machine.execReadLowHalf a n s
  | .readHighHalf a n => Sys2Proof.Machine.execReadHighHalf a n s
  | .writeLowHalf a n v => Sys2Proof.Machine.execWriteLowHalf a n v s
  | .writeHighHalf a n v => Sys2Proof.Machine.execWriteHighHalf a n v s
  | .readClear a n ev => Sys2Proof.Machine.execReadClear a n ev s
  | .registerWrite a n v hw => Sys2Proof.Machine.execRegisterWrite a n v hw s
  | .herdTimeRefresh => Sys2Proof.Machine.execHerdTimeRefresh s
  | .tempSample readings => Sys2Proof.Machine.execTempSample readings s
  | .refTrimDone r => Sys2Proof.Machine.execRefTrimDone r s
  | .dieLinkReplay d ns => Sys2Proof.Machine.execDieLinkReplay d ns s
  | .vfRequest a r v => Sys2Proof.Machine.execVfRequest a r v s
  | .vfChangeEnd r => Sys2Proof.Machine.execVfChangeEnd r s
  | .vfWaitingStart r => Sys2Proof.Machine.execVfWaitingStart r s
  | .safeNAssert => Sys2Proof.Machine.execSafeNAssert s
  | .safeNRelease => Sys2Proof.Machine.execSafeNRelease s
  | .pllSwitch cause => Sys2Proof.Machine.execPllSwitch cause s
  | .refclkLoss => Sys2Proof.Machine.execRefclkLoss s
  | .xtalFail => Sys2Proof.Machine.execXtalFail s
  | .clockStart r => Sys2Proof.Machine.execClockStart r s
  | .clockGate r => Sys2Proof.Machine.execClockGate r s
  | .clockCold r => Sys2Proof.Machine.execClockCold r s
  | .regionWake r => Sys2Proof.Machine.execRegionWake r s
  | .synthLock r => Sys2Proof.Machine.execSynthLock r s
  | .acCellCfgWrite a r k n v => Sys2Proof.Machine.execAcCellCfgWrite a r k n v s
  | .acCellFiltWrite a r k n v => Sys2Proof.Machine.execAcCellFiltWrite a r k n v s
  | .acCellRouteWrite a r k n v => Sys2Proof.Machine.execAcCellRouteWrite a r k n v s
  | .acCtrlWrite a r k v => Sys2Proof.Machine.execAcCtrlWrite a r k v s
  | .outputSwitchClose r k n => Sys2Proof.Machine.execOutputSwitchClose r k n s
  | .shTrigger r trig e => Sys2Proof.Machine.execShTrigger r trig e s
  | .shHoldEnd r k n => Sys2Proof.Machine.execShHoldEnd r k n s
  | .cellClip r k n e => Sys2Proof.Machine.execCellClip r k n e s
  | .refFault r diff => Sys2Proof.Machine.execRefFault r diff s
  | .refFaultClear r => Sys2Proof.Machine.execRefFaultClear r s
  | .injectionDetect r ball => Sys2Proof.Machine.execInjectionDetect r ball s
  | .injectionRelease r => Sys2Proof.Machine.execInjectionRelease r s
  | .migrationStart start r k n => Sys2Proof.Machine.execMigrationStart start r k n s
  | .migrationStepEnd r k ok trim meas => Sys2Proof.Machine.execMigrationStepEnd r k ok trim meas s
  | .cgModeChange a r g v => Sys2Proof.Machine.execCgModeChange a r g v s
  | .cgModeReady r g => Sys2Proof.Machine.execCgModeReady r g s
  | .selfCalibration a r g => Sys2Proof.Machine.execSelfCalibration a r g s
  | .calibrationDone r g passed cals skews bws => Sys2Proof.Machine.execCalibrationDone r g passed cals skews bws s
  | .scanGo a r g => Sys2Proof.Machine.execScanGo a r g s
  | .scanTrigger r g => Sys2Proof.Machine.execScanTrigger r g s
  | .scanPassEnd r g => Sys2Proof.Machine.execScanPassEnd r g s
  | .batchDone r g xs sub => Sys2Proof.Machine.execBatchDone r g xs sub s
  | .excursion r g disc => Sys2Proof.Machine.execExcursion r g disc s
  | .hostUrgentRequest a r g v => Sys2Proof.Machine.execHostUrgentRequest a r g v s
  | .urgentTrigger r g k => Sys2Proof.Machine.execUrgentTrigger r g k s
  | .urgentSample r g x sub => Sys2Proof.Machine.execUrgentSample r g x sub s
  | .cgResultLowRead a r g => Sys2Proof.Machine.execCgResultLowRead a r g s
  | .cgResultHighRead a r g => Sys2Proof.Machine.execCgResultHighRead a r g s
  | .tapDeliver r g t => Sys2Proof.Machine.execTapDeliver r g t s
  | .rotationPoint r g diff => Sys2Proof.Machine.execRotationPoint r g diff s
  | .shadowStart r g cal dev => Sys2Proof.Machine.execShadowStart r g cal dev s
  | .estimatorBlock r g exc moves => Sys2Proof.Machine.execEstimatorBlock r g exc moves s
  | .cgRotCtrlWrite a r g v => Sys2Proof.Machine.execCgRotCtrlWrite a r g v s
  | .lowPowerHandover r g cal dev diff => Sys2Proof.Machine.execLowPowerHandover r g cal dev diff s
  | .comparatorCrossing r k m spare e sub => Sys2Proof.Machine.execComparatorCrossing r k m spare e sub s
  | .rawDeassert r k m spare e => Sys2Proof.Machine.execRawDeassert r k m spare e s
  | .latchClear a r k m => Sys2Proof.Machine.execLatchClear a r k m s
  | .clearPoint r c => Sys2Proof.Machine.execClearPoint r c s
  | .blankingEnd r k m sub => Sys2Proof.Machine.execBlankingEnd r k m sub s
  | .wcCmpCfgWrite a r k m v => Sys2Proof.Machine.execWcCmpCfgWrite a r k m v s
  | .wcCmpThrWrite a r k m v => Sys2Proof.Machine.execWcCmpThrWrite a r k m v s
  | .wcRouteWrite a r k m trip v => Sys2Proof.Machine.execWcRouteWrite a r k m trip v s
  | .selfCheck a r k m => Sys2Proof.Machine.execSelfCheck a r k m s
  | .selfCheckStepEnd r k disagree obs e => Sys2Proof.Machine.execSelfCheckStepEnd r k disagree obs e s
  | .comparatorSubstitution start r k m => Sys2Proof.Machine.execComparatorSubstitution start r k m s
  | .periodicCheck r k => Sys2Proof.Machine.execPeriodicCheck r k s
  | .periodStart r c sub => Sys2Proof.Machine.execPeriodStart r c sub s
  | .groupEpoch r g sub => Sys2Proof.Machine.execGroupEpoch r g sub s
  | .pgTrigger r c sub => Sys2Proof.Machine.execPgTrigger r c sub s
  | .pgGrpPerWrite a r g v => Sys2Proof.Machine.execPgGrpPerWrite a r g v s
  | .pgPhaseWrite a r c v => Sys2Proof.Machine.execPgPhaseWrite a r c v s
  | .pgLimWrite a r c v => Sys2Proof.Machine.execPgLimWrite a r c v s
  | .groupEnable a r g => Sys2Proof.Machine.execGroupEnable a r g s
  | .groupDisable a r g => Sys2Proof.Machine.execGroupDisable a r g s
  | .channelEnable a r c => Sys2Proof.Machine.execChannelEnable a r c s
  | .channelDisable a r c => Sys2Proof.Machine.execChannelDisable a r c s
  | .dutyWrite a r c v sub => Sys2Proof.Machine.execDutyWrite a r c v sub s
  | .dutyTransfer r p sub => Sys2Proof.Machine.execDutyTransfer r p sub s
  | .fabricDutyStrobe r line v sub => Sys2Proof.Machine.execFabricDutyStrobe r line v sub s
  | .dutyWatchdog r c => Sys2Proof.Machine.execDutyWatchdog r c s
  | .rel a r c v => Sys2Proof.Machine.execRel a r c v s
  | .pgSubstitution start r c => Sys2Proof.Machine.execPgSubstitution start r c s
  | .pgSubstitutionStepEnd r tgtBad spareBad => Sys2Proof.Machine.execPgSubstitutionStepEnd r tgtBad spareBad s
  | .nop r => Sys2Proof.Machine.execNop r s
  | .mul r => Sys2Proof.Machine.execMul r s
  | .mula r => Sys2Proof.Machine.execMula r s
  | .muls r => Sys2Proof.Machine.execMuls r s
  | .mul4 r => Sys2Proof.Machine.execMul4 r s
  | .mula4 r => Sys2Proof.Machine.execMula4 r s
  | .muls4 r => Sys2Proof.Machine.execMuls4 r s
  | .mul4b r => Sys2Proof.Machine.execMul4b r s
  | .mula4b r => Sys2Proof.Machine.execMula4b r s
  | .mular r => Sys2Proof.Machine.execMular r s
  | .add r => Sys2Proof.Machine.execAdd r s
  | .sub r => Sys2Proof.Machine.execSub r s
  | .addd r => Sys2Proof.Machine.execAddd r s
  | .subd r => Sys2Proof.Machine.execSubd r s
  | .mova r => Sys2Proof.Machine.execMova r s
  | .movd r => Sys2Proof.Machine.execMovd r s
  | .rnd r => Sys2Proof.Machine.execRnd r s
  | .neg r => Sys2Proof.Machine.execNeg r s
  | .abs r => Sys2Proof.Machine.execAbs r s
  | .clr r => Sys2Proof.Machine.execClr r s
  | .asl r => Sys2Proof.Machine.execAsl r s
  | .asr r => Sys2Proof.Machine.execAsr r s
  | .norm r => Sys2Proof.Machine.execNorm r s
  | .exp r => Sys2Proof.Machine.execExp r s
  | .max r => Sys2Proof.Machine.execMax r s
  | .min r => Sys2Proof.Machine.execMin r s
  | .cmp r => Sys2Proof.Machine.execCmp r s
  | .lim r => Sys2Proof.Machine.execLim r s
  | .dadd r => Sys2Proof.Machine.execDadd r s
  | .dsub r => Sys2Proof.Machine.execDsub r s
  | .dand r => Sys2Proof.Machine.execDand r s
  | .dor r => Sys2Proof.Machine.execDor r s
  | .dxor r => Sys2Proof.Machine.execDxor r s
  | .dmul r => Sys2Proof.Machine.execDmul r s
  | .dcmp r => Sys2Proof.Machine.execDcmp r s
  | .ld r => Sys2Proof.Machine.execLd r s
  | .st r => Sys2Proof.Machine.execSt r s
  | .sta r => Sys2Proof.Machine.execSta r s
  | .inPort r => Sys2Proof.Machine.execIn r s
  | .outPort r => Sys2Proof.Machine.execOut r s
  | .movs r => Sys2Proof.Machine.execMovs r s
  | .modp r => Sys2Proof.Machine.execModp r s
  | .controlNop r => Sys2Proof.Machine.execControlNop r s
  | .jmp r => Sys2Proof.Machine.execJmp r s
  | .jsr r => Sys2Proof.Machine.execJsr r s
  | .rts r => Sys2Proof.Machine.execRts r s
  | .rte r => Sys2Proof.Machine.execRte r s
  | .loop r => Sys2Proof.Machine.execLoop r s
  | .loopd r => Sys2Proof.Machine.execLoopd r s
  | .breakLoop r => Sys2Proof.Machine.execBreak r s
  | .waitin r n => Sys2Proof.Machine.execWaitin r n s
  | .wait r n => Sys2Proof.Machine.execWait r n s
  | .evout r => Sys2Proof.Machine.execEvout r s
  | .di r => Sys2Proof.Machine.execDi r s
  | .ei r => Sys2Proof.Machine.execEi r s
  | .rot r => Sys2Proof.Machine.execRot r s
  | .halt r => Sys2Proof.Machine.execHalt r s
  | .cwr r n => Sys2Proof.Machine.execCwr r n s
  | .crd r => Sys2Proof.Machine.execCrd r s
  | .immD r => Sys2Proof.Machine.execImmD r s
  | .immP r => Sys2Proof.Machine.execImmP r s
  | .immM r => Sys2Proof.Machine.execImmM r s
  | .immL r => Sys2Proof.Machine.execImmL r s
  | .immB r => Sys2Proof.Machine.execImmB r s
  | .immSr r => Sys2Proof.Machine.execImmSr r s
  | .immRofs r => Sys2Proof.Machine.execImmRofs r s
  | .illegalPacket r => Sys2Proof.Machine.execIllegalPacket r s
  | .loopEnd r => Sys2Proof.Machine.execLoopEnd r s
  | .eventPending r e => Sys2Proof.Machine.execEventPending r e s
  | .eventEntry r n => Sys2Proof.Machine.execEventEntry r n s
  | .leTimerExpire r => Sys2Proof.Machine.execLeTimerExpire r s
  | .portTransfer src => Sys2Proof.Machine.execPortTransfer src s
  | .waitinTimeout r => Sys2Proof.Machine.execWaitinTimeout r s
  | .cwrComplete r => Sys2Proof.Machine.execCwrComplete r s
  | .crdComplete r n => Sys2Proof.Machine.execCrdComplete r n s
  | .leRun a r => Sys2Proof.Machine.execLeRun a r s
  | .leHaltRequest a r => Sys2Proof.Machine.execLeHaltRequest a r s
  | .leStep a r => Sys2Proof.Machine.execLeStep a r s
  | .erst a r => Sys2Proof.Machine.execErst a r s
  | .programMemoryWrite a r n v => Sys2Proof.Machine.execProgramMemoryWrite a r n v s
  | .xyHostWrite a r y n v meets => Sys2Proof.Machine.execXyHostWrite a r y n v meets s
  | .leWindowWrite a r n v => Sys2Proof.Machine.execLeWindowWrite a r n v s
  | .laneSubstitution start r lane => Sys2Proof.Machine.execLaneSubstitution start r lane s
  | .laneStepEnd r ok => Sys2Proof.Machine.execLaneStepEnd r ok s
  | .laneShadowMismatch r => Sys2Proof.Machine.execLaneShadowMismatch r s
  | .globalReset d k on => Sys2Proof.Machine.execGlobalReset d k on s
  | .fabRstPulse a r v => Sys2Proof.Machine.execFabRstPulse a r v s
  | .runRequest r on => Sys2Proof.Machine.execRunRequest r on s
  | .fabricTrigger r line => Sys2Proof.Machine.execFabricTrigger r line s
  | .fabricSpoorStrobe r p payload => Sys2Proof.Machine.execFabricSpoorStrobe r p payload s
  | .regionRegisterPort r off w => Sys2Proof.Machine.execRegionRegisterPort r off w s
  | .bmWrite r b portB shape addr data mode same => Sys2Proof.Machine.execBmWrite r b portB shape addr data mode same s
  | .bmRead r b portB shape addr same upset => Sys2Proof.Machine.execBmRead r b portB shape addr same upset s
  | .copyPortAccess a r w same => Sys2Proof.Machine.execCopyPortAccess a r w same s
  | .queueWrite src wc rc => Sys2Proof.Machine.execQueueWrite src wc rc s
  | .queueRead r q wc rc upset => Sys2Proof.Machine.execQueueRead r q wc rc upset s
  | .queuePop a r q wc rc upset => Sys2Proof.Machine.execQueuePop a r q wc rc upset s
  | .queueFlush a r q => Sys2Proof.Machine.execQueueFlush a r q s
  | .packetAbort r q => Sys2Proof.Machine.execPacketAbort r q s
  | .uregGroupRead a r n steps live => Sys2Proof.Machine.execUregGroupRead a r n steps live s
  | .captureStart a r v => Sys2Proof.Machine.execCaptureStart a r v s
  | .captureTrigger r code before after sub => Sys2Proof.Machine.execCaptureTrigger r code before after sub s
  | .captureDone r steps sub => Sys2Proof.Machine.execCaptureDone r steps sub s
  | .captureAbort a r => Sys2Proof.Machine.execCaptureAbort a r s
  | .relocation start r c => Sys2Proof.Machine.execRelocation start r c s
  | .relocationStepEnd r ok image => Sys2Proof.Machine.execRelocationStepEnd r ok image s
  | .blockSubstitution start r b => Sys2Proof.Machine.execBlockSubstitution start r b s
  | .loadingStart puf ledger => Sys2Proof.Machine.execLoadingStart puf ledger s
  | .imageHeader pointer strobe hdr => Sys2Proof.Machine.execImageHeader pointer strobe hdr s
  | .frameRecord raw imgs => Sys2Proof.Machine.execFrameRecord raw imgs s
  | .attemptTimeout => Sys2Proof.Machine.execAttemptTimeout s
  | .signatureVerified tail => Sys2Proof.Machine.execSignatureVerified tail s
  | .verifyDone upset => Sys2Proof.Machine.execVerifyDone upset s
  | .cfgLoadFlash a => Sys2Proof.Machine.execCfgLoadFlash a s
  | .cfgLoadHostDma a => Sys2Proof.Machine.execCfgLoadHostDma a s
  | .cfgLoadFifo a => Sys2Proof.Machine.execCfgLoadFifo a s
  | .cfgFifoWrite a v => Sys2Proof.Machine.execCfgFifoWrite a v s
  | .prStageDone => Sys2Proof.Machine.execPrStageDone s
  | .prAuthDone tail => Sys2Proof.Machine.execPrAuthDone tail s
  | .prWaitEnd => Sys2Proof.Machine.execPrWaitEnd s
  | .prVerifyDone upset => Sys2Proof.Machine.execPrVerifyDone upset s
  | .scrubFrame d upset code crc => Sys2Proof.Machine.execScrubFrame d upset code crc s
  | .scrubReloadDone block => Sys2Proof.Machine.execScrubReloadDone block s
  | .portLoadFlash r addr => Sys2Proof.Machine.execPortLoadFlash r addr s
  | .portLoadQueue r q => Sys2Proof.Machine.execPortLoadQueue r q s
  | .portAbort r => Sys2Proof.Machine.execPortAbort r s
  | .fencedLoad a => Sys2Proof.Machine.execFencedLoad a s
  | .commitRollback a value guard => Sys2Proof.Machine.execCommitRollback a value guard s
  | .revokeSlot a value guard => Sys2Proof.Machine.execRevokeSlot a value guard s
  | .blowConsent a guard => Sys2Proof.Machine.execBlowConsent a guard s
  | .otpCommandDone golden fuse => Sys2Proof.Machine.execOtpCommandDone golden fuse s
  | .flashRead a words => Sys2Proof.Machine.execFlashRead a words s
  | .flashProgram a words => Sys2Proof.Machine.execFlashProgram a words s
  | .flashErase a => Sys2Proof.Machine.execFlashErase a s
  | .flashCommandDone ok data => Sys2Proof.Machine.execFlashCommandDone ok data s
  | .recordEmit x => Sys2Proof.Machine.execRecordEmit x s
  | .tokenGrant x flow ns => Sys2Proof.Machine.execTokenGrant x flow ns s
  | .funnelHop h slots => Sys2Proof.Machine.execFunnelHop h slots s
  | .alarmRaise x code detail => Sys2Proof.Machine.execAlarmRaise x code detail s
  | .deadlineMiss flow => Sys2Proof.Machine.execDeadlineMiss flow s
  | .openFlow f => Sys2Proof.Machine.execOpenFlow f s
  | .closeFlow f => Sys2Proof.Machine.execCloseFlow f s
  | .queryFlow f => Sys2Proof.Machine.execQueryFlow f s
  | .readmitFlow f => Sys2Proof.Machine.execReadmitFlow f s
  | .creditStall mbs => Sys2Proof.Machine.execCreditStall mbs s
  | .admissionRerun port => Sys2Proof.Machine.execAdmissionRerun port s
  | .admissionStart => Sys2Proof.Machine.execAdmissionStart s
  | .postRecord slots => Sys2Proof.Machine.execPostRecord slots s
  | .mapReadCompletion flow res => Sys2Proof.Machine.execMapReadCompletion flow res s
  | .accessTimeout flow go => Sys2Proof.Machine.execAccessTimeout flow go s
  | .mapRefresh flow => Sys2Proof.Machine.execMapRefresh flow s
  | .invFlow f => Sys2Proof.Machine.execInvFlow f s
  | .invRoot f => Sys2Proof.Machine.execInvRoot f s
  | .invAll => Sys2Proof.Machine.execInvAll s
  | .invalidationDone => Sys2Proof.Machine.execInvalidationDone s
  | .failover => Sys2Proof.Machine.execFailover s
  | .failback => Sys2Proof.Machine.execFailback s
  | .pmapRootWrite p v => Sys2Proof.Machine.execPmapRootWrite p v s
  | .pmapCmdStatRead p => Sys2Proof.Machine.execPmapCmdStatRead p s
  | .atsInvalidation p page n => Sys2Proof.Machine.execAtsInvalidation p page n s
  | .holdLimitExpire flow => Sys2Proof.Machine.execHoldLimitExpire flow s
  | .wpWrite flow => Sys2Proof.Machine.execWpWrite flow s
  | .intModExpire flow => Sys2Proof.Machine.execIntModExpire flow s
  | .rpRead flow => Sys2Proof.Machine.execRpRead flow s
  | .goReceived flow err => Sys2Proof.Machine.execGoReceived flow err s
  | .postingFailover trigger => Sys2Proof.Machine.execPostingFailover trigger s
  | .autoFailback => Sys2Proof.Machine.execAutoFailback s
  | .noPort => Sys2Proof.Machine.execNoPort s
  | .snoop p => Sys2Proof.Machine.execSnoop p s
  | .linkUp p => Sys2Proof.Machine.execLinkUp p s
  | .beaconTimer => Sys2Proof.Machine.execBeaconTimer s
  | .beacon p h id depth root anc => Sys2Proof.Machine.execBeacon p h id depth root anc s
  | .syncTimer => Sys2Proof.Machine.execSyncTimer s
  | .sync p h t1 sub turn => Sys2Proof.Machine.execSync p h t1 sub turn s
  | .dreq p h sub => Sys2Proof.Machine.execDreq p h sub s
  | .dresp p h t4 filt => Sys2Proof.Machine.execDresp p h t4 filt s
  | .cap p h w cyc => Sys2Proof.Machine.execCap p h w cyc s
  | .demand p h d f => Sys2Proof.Machine.execDemand p h d f s
  | .capCycle => Sys2Proof.Machine.execCapCycle s
  | .join p h node level parent root depth size ids => Sys2Proof.Machine.execJoin p h node level parent root depth size ids s
  | .joinResp p h node res ofs => Sys2Proof.Machine.execJoinResp p h node res ofs s
  | .leave p h id parent => Sys2Proof.Machine.execLeave p h id parent s
  | .move p h id depth parent => Sys2Proof.Machine.execMove p h id depth parent s
  | .moveAck p h res => Sys2Proof.Machine.execMoveAck p h res s
  | .nak p h => Sys2Proof.Machine.execNak p h s
  | .credit p h => Sys2Proof.Machine.execCredit p h s
  | .alarm p h rec => Sys2Proof.Machine.execAlarm p h rec s
  | .frameKeepalive p => Sys2Proof.Machine.execFrameKeepalive p s
  | .portLoss p => Sys2Proof.Machine.execPortLoss p s
  | .moveRetry => Sys2Proof.Machine.execMoveRetry s
  | .leaveHoldExpire id => Sys2Proof.Machine.execLeaveHoldExpire id s
  | .joinRetry => Sys2Proof.Machine.execJoinRetry s
  | .islandHoldExpire => Sys2Proof.Machine.execIslandHoldExpire s
  | .herdTset v => Sys2Proof.Machine.execHerdTset v s
  | .herdDemWrite a r v => Sys2Proof.Machine.execHerdDemWrite a r v s
  | .linkErrCheck p => Sys2Proof.Machine.execLinkErrCheck p s
  | .perstAssert p => Sys2Proof.Machine.execPerstAssert p s
  | .perstDeassert p => Sys2Proof.Machine.execPerstDeassert p s
  | .hotReset p => Sys2Proof.Machine.execHotReset p s
  | .linkDisable p => Sys2Proof.Machine.execLinkDisable p s
  | .functionLevelReset p => Sys2Proof.Machine.execFunctionLevelReset p s
  | .linkTrained p cxl rate width reversed polinv => Sys2Proof.Machine.execLinkTrained p cxl rate width reversed polinv s
  | .retrain a p => Sys2Proof.Machine.execRetrain a p s
  | .d3hotEntry p => Sys2Proof.Machine.execD3hotEntry p s
  | .hostUncorr p status fatal => Sys2Proof.Machine.execHostUncorr p status fatal s
  | .corrStormCheck p n => Sys2Proof.Machine.execCorrStormCheck p n s
  | .bar0Read p addr len => Sys2Proof.Machine.execBar0Read p addr len s
  | .bar0Write p addr bytes => Sys2Proof.Machine.execBar0Write p addr bytes s
  | .read addr pec => Sys2Proof.Machine.execRead addr pec s
  | .write addr v pec => Sys2Proof.Machine.execWrite addr v pec s
  | .readNext pec => Sys2Proof.Machine.execReadNext pec s
  | .statusRead => Sys2Proof.Machine.execStatusRead s
  | .enec ev => Sys2Proof.Machine.execEnec ev s
  | .disec ev => Sys2Proof.Machine.execDisec ev s
  | .rstdaa => Sys2Proof.Machine.execRstdaa s
  | .entdaa da => Sys2Proof.Machine.execEntdaa da s
  | .setdasa sa da => Sys2Proof.Machine.execSetdasa sa da s
  | .setnewda da => Sys2Proof.Machine.execSetnewda da s
  | .getpid => Sys2Proof.Machine.execGetpid s
  | .getbcr => Sys2Proof.Machine.execGetbcr s
  | .getdcr => Sys2Proof.Machine.execGetdcr s
  | .getstatus => Sys2Proof.Machine.execGetstatus s
  | .setmwl n => Sys2Proof.Machine.execSetmwl n s
  | .setmrl n => Sys2Proof.Machine.execSetmrl n s
  | .getmwl => Sys2Proof.Machine.execGetmwl s
  | .getmrl => Sys2Proof.Machine.execGetmrl s
  | .rstact act => Sys2Proof.Machine.execRstact act s
  | .smbusTimeout => Sys2Proof.Machine.execSmbusTimeout s
  | .bypass => Sys2Proof.Machine.execBypass s
  | .idcode => Sys2Proof.Machine.execIdcode s
  | .samplePreload vals => Sys2Proof.Machine.execSamplePreload vals s
  | .extest => Sys2Proof.Machine.execExtest s
  | .clamp => Sys2Proof.Machine.execClamp s
  | .highz => Sys2Proof.Machine.execHighz s
  | .extestPulse => Sys2Proof.Machine.execExtestPulse s
  | .extestTrain => Sys2Proof.Machine.execExtestTrain s
  | .regacc dr => Sys2Proof.Machine.execRegacc dr s
  | .vtest dev sig => Sys2Proof.Machine.execVtest dev sig s
  | .vtestUnlockDone => Sys2Proof.Machine.execVtestUnlockDone s
  | .pinConfigWrite a pin arg v => Sys2Proof.Machine.execPinConfigWrite a pin arg v s
  | .pinEvent pin level sub => Sys2Proof.Machine.execPinEvent pin level sub s
  | .pinEventSw a k => Sys2Proof.Machine.execPinEventSw a k s
  | .wakePin pin => Sys2Proof.Machine.execWakePin pin s
  | .settMirrorApply => Sys2Proof.Machine.execSettMirrorApply s
  | .settPowerOn => Sys2Proof.Machine.execSettPowerOn s
  | .powerUp => Sys2Proof.Machine.execPowerUp s
  | .herdTimeStart => Sys2Proof.Machine.execHerdTimeStart s
  | .calibrationEnd badRows => Sys2Proof.Machine.execCalibrationEnd badRows s
  | .doze => Sys2Proof.Machine.execDoze s
  | .active => Sys2Proof.Machine.execActive s
  | .freeze arg => Sys2Proof.Machine.execFreeze arg s
  | .torpor arg => Sys2Proof.Machine.execTorpor arg s
  | .torporClockStop => Sys2Proof.Machine.execTorporClockStop s
  | .thaw arg => Sys2Proof.Machine.execThaw arg s
  | .readout arg => Sys2Proof.Machine.execReadout arg s
  | .readoutDone => Sys2Proof.Machine.execReadoutDone s
  | .safe => Sys2Proof.Machine.execSafe s
  | .safeExit => Sys2Proof.Machine.execSafeExit s
  | .safeAutoExit => Sys2Proof.Machine.execSafeAutoExit s
  | .dormant guard => Sys2Proof.Machine.execDormant guard s
  | .dormantComplete => Sys2Proof.Machine.execDormantComplete s
  | .reset guard => Sys2Proof.Machine.execReset guard s
  | .rgnReset guard arg => Sys2Proof.Machine.execRgnReset guard arg s
  | .exportCmd => Sys2Proof.Machine.execExport s
  | .ledgerSync => Sys2Proof.Machine.execLedgerSync s
  | .freezeNAssert => Sys2Proof.Machine.execFreezeNAssert s
  | .freezeNRelease => Sys2Proof.Machine.execFreezeNRelease s
  | .powerOnReset => Sys2Proof.Machine.execPowerOnReset s
  | .packageReset => Sys2Proof.Machine.execPackageReset s
  | .regionReset a r => Sys2Proof.Machine.execRegionReset a r s
  | .regionResetRelease r badRows => Sys2Proof.Machine.execRegionResetRelease r badRows s
  | .supplyFault code => Sys2Proof.Machine.execSupplyFault code s
  | .supplyLossDormant => Sys2Proof.Machine.execSupplyLossDormant s
  | .supplyReturn => Sys2Proof.Machine.execSupplyReturn s
  | .settBrownOut below => Sys2Proof.Machine.execSettBrownOut below s
  | .brownOutRecovery => Sys2Proof.Machine.execBrownOutRecovery s
  | .hubHeartbeatMiss => Sys2Proof.Machine.execHubHeartbeatMiss s
  | .timerWake => Sys2Proof.Machine.execTimerWake s
  | .energyFold => Sys2Proof.Machine.execEnergyFold s
  | .energyTelemetry => Sys2Proof.Machine.execEnergyTelemetry s
  | .accC0Read a n => Sys2Proof.Machine.execAccC0Read a n s
  | .wearSample r blk index unit => Sys2Proof.Machine.execWearSample r blk index unit s
  | .lifeProjection months => Sys2Proof.Machine.execLifeProjection months s
  | .ledgerMirror => Sys2Proof.Machine.execLedgerMirror s
  | .replaceRepeat => Sys2Proof.Machine.execReplaceRepeat s
  | .hubMemoryScrub row col word find => Sys2Proof.Machine.execHubMemoryScrub row col word find s
  | .surpriseDown p => Sys2Proof.Machine.execSurpriseDown p s
  | .configurationRequest p bme cache ats d0 => Sys2Proof.Machine.execConfigurationRequest p bme cache ats d0 s
  | .bar2Request p n w pasid => Sys2Proof.Machine.execBar2Request p n w pasid s
  | .flowControlCredit p n => Sys2Proof.Machine.execFlowControlCredit p n s
  | .readCompletion ans => Sys2Proof.Machine.execReadCompletion ans s
  | .crcMismatch p => Sys2Proof.Machine.execCrcMismatch p s
  | .porstNDeassert => Sys2Proof.Machine.execPorstNDeassert s
  | .pwmEdge r c e sub => Sys2Proof.Machine.execPwmEdge r c e sub s
  | .settMirrorRefresh => Sys2Proof.Machine.execSettMirrorRefresh s
  | .exportDone digest sig => Sys2Proof.Machine.execExportDone digest sig s

end Sys2Proof.Machine
end

