-- ==== Sys2Proof/Safety.lean ====
section
/-!
DEFINITION. The terms that statements use: an outcome that is a next state of which something holds, and what a Loop Engine's
packet at PC names and reads.
-/

namespace Sys2Proof.Machine

/-- The outcome is a next state, and `p` holds of it. -/
def Ends (o : Host.Outcome State Fault Refusal) (p : State → Prop) : Prop := ∃ t, o = .next t ∧ p t

/-- Every next state that the outcome may be has the property. -/
def Keeps (o : Host.Outcome State Fault Refusal) (p : State → Prop) : Prop := ∀ t, o = .next t → p t

/-- A sequenced frame arrives in order at a Herd port that is not down (R428). -/
def inOrder (s : State) (p : Nat) (h : Hdr) : Bool := decide (hpState s p ≠ 0) && decide (h.seq.val = (s.hport p).seqRx)

/-- A frame with a body waits at a Herd port or has left it unacknowledged (R428, R429). -/
def handed (s : State) (p : Nat) (b : Body) : Bool := (unacked (s.hport p)).any fun f => f.body = b

/-- The Sett can start a command: it runs, and no command runs (R16, R507). -/
def settFree (s : State) : Bool := !s.sett.brownOut && !s.ownB F.SETT_CMD_START

/-- START, RESULT and CAUSE as the Sett holds them (R492, R507). -/
def settResult (s : State) : Bool × Nat × Nat :=
  (s.ownB F.SETT_CMD_START, s.own F.SETT_CMD_STAT_RESULT, s.own F.SETT_CMD_STAT_CAUSE)

/-! ### The whole block -/

/-- The commands that wait are those of `l` from some place on: none is lost, none overtakes another, none is added. -/
def QueueOf (l : List Instr) (s : State) : Prop := ∃ k, s.pending = l.drop k

/-- Since a state `o` no fuse has been restored, and none blown but those that R326, R327 and R529 blow: the rollback count is
no lower, a slot's bits once 1 are 1, CONSENT once 1 is 1, and every other word of OTP is as it was. -/
def FusesKept (o s : State) : Prop :=
  fOf (o.otp.get (R.SEC_STAT.addr 0 0)) F.SEC_STAT_ROLLBACK ≤ fOf (s.otp.get (R.SEC_STAT.addr 0 0)) F.SEC_STAT_ROLLBACK ∧
  fOf (o.otp.get (R.SEC_STAT.addr 0 0)) F.SEC_STAT_CONSENT ≤ fOf (s.otp.get (R.SEC_STAT.addr 0 0)) F.SEC_STAT_CONSENT ∧
  fOf (o.otp.get (R.SEC_SLOTS.addr 0 0)) F.SEC_SLOTS_SLOTS ||| fOf (s.otp.get (R.SEC_SLOTS.addr 0 0)) F.SEC_SLOTS_SLOTS =
    fOf (s.otp.get (R.SEC_SLOTS.addr 0 0)) F.SEC_SLOTS_SLOTS ∧
  ∀ a, a ≠ R.SEC_STAT.addr 0 0 → a ≠ R.SEC_SLOTS.addr 0 0 → s.otp.get a = o.otp.get a

/-- The commands that may end Safe hold: SAFE_EXIT, by itself or as a write that reaches the Sett, the automatic exit, a reset of
the dies, a loss of their supplies, and Vendor test (R498, R501, R530). -/
def endsSafe (i : Instr) : Bool :=
  match i with
  | .safeExit => true
  | .safeAutoExit => true
  | .settMirrorApply => true
  | .reset _ => true
  | .packageReset => true
  | .powerOnReset => true
  | .dormantComplete => true
  | .supplyLossDormant => true
  | .settPowerOn => true
  | .vtestUnlockDone => true
  | _ => false

/-! ### The packet at PC of an engine (R237 to R239, R272, R273) -/

/-- A Running engine issues the packet at PC, an operation names it, nothing faults it and its COND holds. -/
def issues (s : State) (r : Nat) (op : LeOp) : Bool :=
  leReady s r && decide ((s.eng r).mode = .running) && !s.gb F.LE_CTRL_STEP (leB r) && decide (opOf (atPc s r) = op)
    && decide (leFaultCause s r = 0) && leCond s r

/-- Operand fields A, X, Y, F and S of the packet at PC. -/
def opA (s : State) (r : Nat) : Nat := pf (atPc s r) 49 47
def opX (s : State) (r : Nat) : Nat := pf (atPc s r) 46 42
def opY (s : State) (r : Nat) : Nat := pf (atPc s r) 41 37
def opF (s : State) (r : Nat) : Nat := pf (atPc s r) 36 32
def opS (s : State) (r : Nat) : Bool := pf (atPc s r) 61 61 = 1

/-- An accumulator and a data register of the set in use, as integers. -/
def accAt (s : State) (r i : Nat) : Int := ((s.eng r).cur.a.get i).toInt
def datAt (s : State) (r k : Nat) : Int := ((s.eng r).dreg k).toInt

/-- An accumulator result under R248. -/
def accWord (s : State) (r : Nat) (v : Int) : BitVec 56 := (storeAcc (opS s r) accTop v).1

/-- A rounded accumulator result under R248 and R250. -/
def rndWord (s : State) (r : Nat) (v : Int) : BitVec 56 := (storeAcc (opS s r) (if opS s r then accTopRnd else accTop) (round23 v)).1

/-- What stands in the register that a name of an operand reached. -/
def EngS.at (x : EngS) (g : Tgt) : BitVec 56 :=
  match g with
  | .acc sh i => (x.setOf sh).a.get i
  | .dreg sh i => ((x.setOf sh).d.get i).setWidth 56
  | .rot i => (x.rot.get i).setWidth 56

/-- A result of latency 2 is on its way to a register (R269). -/
def EngS.owes (x : EngS) (land : Nat) (g : Tgt) (v : BitVec 56) (mula : Bool) : Bool :=
  x.pend.contains ⟨land, g, v, mula⟩

/-- The slot that names a packet without an arithmetic operation: the X slot, or, where it does nothing, the Y slot. -/
def nameY (s : State) (r : Nat) : Bool := pf (atPc s r) 31 29 = 0
def nameSlot (s : State) (r : Nat) : Nat := if nameY s r then pf (atPc s r) 15 0 else pf (atPc s r) 31 16

/-- REG, PTR, MOD and AUX of that slot (R242). -/
def slotReg (s : State) (r : Nat) : Nat := nameSlot s r / 2 ^ 8 % 32
def slotPtr (s : State) (r : Nat) : Nat := nameSlot s r / 2 ^ 5 % 8
def slotMod (s : State) (r : Nat) : Nat := nameSlot s r / 2 ^ 3 % 4
def slotAux (s : State) (r : Nat) : Nat := nameSlot s r % 8

/-- The memory word that the slot's pointer names. -/
def slotAddr (s : State) (r : Nat) : Nat := ((s.eng r).cur.p.get (slotPtr s r)).toNat

/-- The other slot holds the same operation too. -/
def slotTwin (s : State) (r : Nat) : Bool := !nameY s r && decide (pf (atPc s r) 15 13 = pf (atPc s r) 31 29)

/-! ### What a command may change: registers (R66 to R69) -/

/-- Registers of 64 bits that commands write in one cycle (R20). -/
def wideRegs : List Reg := [R.CG_RESULT, R.FAB_CAP_TIME, R.HERD_TSET, R.PMAP_FLT_ADDR, R.PMAP_ROOT_A, R.PMAP_ROOT_B]

/-- The addresses of a register's words. -/
def Reg.words (r : Reg) (b n : Nat) : List Nat :=
  if r ∈ wideRegs then [r.addr b n, r.addr b n + 4] else [r.addr b n]

/-- The bases of the blocks of a kind: unit u of region q, or the Hub window. -/
def Blk.base (k : Blk) (q u : Nat) : Nat :=
  match k with
  | .ac => acB q u | .cg => cgB q u | .pg => pgB q | .le => leB q | .fab => fabB q | .rgn => rgB q
  | _ => 0

/-- Registers that a command may change. -/
inductive Spot where
  /-- One register: its name, its block's base and its number. -/
  | one (r : Reg) (b n : Nat)
  /-- The registers of a name in one block. -/
  | inBlock (r : Reg) (b : Nat)
  /-- The registers of a name in every block of a region. -/
  | here (r : Reg) (q : Nat)
  /-- The registers of a name in every block. -/
  | every (r : Reg)
  /-- The register at an address. -/
  | word (a : Nat)
  /-- A region's register block. -/
  | region (r : Nat)
  /-- Every register of the blocks of a kind. -/
  | file (k : Blk)
  deriving DecidableEq, Repr

/-- A word of the register files is one of those. -/
def Spot.covers (x : Spot) (k : Blk) (a : Nat) : Prop :=
  match x with
  | .one r b n => k = r.blk ∧ a ∈ r.words b n
  | .inBlock r b => k = r.blk ∧ ∃ n, a ∈ r.words b n
  | .here r q => k = r.blk ∧ ∃ u n, a ∈ r.words (r.blk.base q u) n
  | .every r => k = r.blk ∧ ∃ q u n, a ∈ r.words (r.blk.base q u) n
  | .word b => a = b
  | .region r => rgnBase r ≤ a ∧ a < rgnBase r + 0x10_0000
  | .file j => k = j

/-! ### What a command may change: the rest of the state -/

/-- Parts of the state beside the registers; the key of a part that a table holds, or any. -/
inductive Place where
  | hub
  | rgn (k : Option Nat)
  | ana (k : Option Nat)
  | conv (k : Option Nat)
  | comp (k : Option Nat)
  | pwm (k : Option Nat)
  | slots (k : Option Nat)
  | pgSub (k : Option Nat)
  | engines (k : Option Nat)
  | lemem (k : Option Nat)
  | fabs (k : Option Nat)
  | loading
  | partLoad
  | frames
  | jobs
  | alarms
  | records
  | flows (k : Option Nat)
  | admission
  | delivery
  | hostWrites
  | postings (k : Option Nat)
  | herdPort (k : Option Nat)
  | herdNode
  | hostPort (k : Option Nat)
  | msix
  | sideband
  | tap
  | balls
  | retention
  | settWrites
  | power
  | safeHold
  | energy
  | wear
  | img
  | otp
  | held
  | staged
  | answers
  | mirror
  deriving DecidableEq, Repr

/-- A full load; a partial load; configuration memory and its scrub; the flash and OTP jobs. -/
def CfgS.loadPart (x : CfgS) := (x.load, x.prim, x.fifo)
def CfgS.partPart (x : CfgS) := (x.pr, x.isolated, x.fencedBad)
def CfgS.framePart (x : CfgS) := ((x.frames, x.digs, x.nextDig), (x.relocs, x.scrub, x.reloads))
def CfgS.jobPart (x : CfgS) := (x.jobs, x.otpCmd)

/-- Records on their way; admission and the budget. -/
def SpoorS.recordPart (x : SpoorS) := (x.srcQ, x.taken, x.hops, x.used, x.wrr, x.hopDrops)
def SpoorS.admitPart (x : SpoorS) := (x.started, x.c16, x.stallC, x.imgFlows)

/-- Map, port and translations of delivery; writes on their way to a host. -/
def PmapS.mapPart (x : PmapS) := ((x.cache, x.roots, x.trans, x.credits), (x.atsWait, x.inv, x.waitCmd, x.failback))
def PmapS.writePart (x : PmapS) := (x.waiting, x.gone, x.stallAt)

/-- What stands at the balls: levels, conflicts, and what is kept of them over a reset. -/
def HostS.ballPart (x : HostS) := (x.ball, x.cflt, x.stale, x.kept, x.lastDone, x.lastErr)

/-- What a Herd node holds beside its ports. -/
def HerdS.nodePart (x : HerdS) :=
  ((x.id, x.member, x.table, x.joins, x.leaves, x.budget), (x.cycle, x.move, x.saved, x.retry, x.holding, x.tset, x.steer))

/-- Power and modes; Safe hold; energy; wear, the ledger and hub memory. -/
def SettS.powerPart (x : SettS) :=
  ((x.phase, x.pwrStep, x.porstAt, x.porstLow, x.vendor, x.vtestBusy, x.brownOut, x.rcOsc),
    (x.dormantReq, x.wakePend, x.supplyBad, x.freezeNLow, x.doze, x.rdoMask, x.exporting))
def SettS.safePart (x : SettS) := (x.safe, x.safeAt, x.safeCond, x.safeLatch, x.safeNLow)
def SettS.energyPart (x : SettS) := (x.sums, x.folds)
def SettS.wearPart (x : SettS) :=
  ((x.replaceN, x.degrPerm, x.mirror, x.sector, x.copies, x.dirty), (x.wear, x.wearAt, x.hist, x.rowErr, x.colRows, x.retired))

/-- What a command may change, and the chapter of the specification that it belongs to. -/
structure Scope where
  chapter : Nat
  places : List Place
  spots : List Spot
  deriving DecidableEq, Repr

/-- The words of the registers that a scope names. -/
def Scope.word (c : Scope) (k : Blk) (a : Nat) : Prop := ∃ x ∈ c.spots, x.covers k a

/-- A key of a part that a scope names. -/
def Scope.key (c : Scope) (p : Option Nat → Place) (k : Nat) : Prop := p none ∈ c.places ∨ p (some k) ∈ c.places

/-- A next state that differs from a state in nothing but what a scope names: every register (the mirror of the SETT_
registers, and the Sett's own, apart), every table entry and every other part. The queue of commands stays. Signals out, with
what R465 and R484 remember of them, and the model's counter of free values are no part of the frame. -/
structure Within (c : Scope) (s t : State) : Prop where
  regs : ∀ k a, k ≠ .sett → (t.regs.tab k).get a = (s.regs.tab k).get a ∨ c.word k a
  own : ∀ a, t.sett.own.get a = s.sett.own.get a ∨ c.word .sett a
  mirror : t.regs.sett = s.regs.sett ∨ .mirror ∈ c.places
  hub : t.hub = s.hub ∨ .hub ∈ c.places
  rgn : ∀ k, t.rgn.get k = s.rgn.get k ∨ c.key .rgn k
  ana : ∀ k, t.ana.get k = s.ana.get k ∨ c.key .ana k
  conv : ∀ k, t.conv.get k = s.conv.get k ∨ c.key .conv k
  comp : ∀ k, t.comp.get k = s.comp.get k ∨ c.key .comp k
  pwm : ∀ k, t.pwm.get k = s.pwm.get k ∨ c.key .pwm k
  slots : ∀ k, t.slots.get k = s.slots.get k ∨ c.key .slots k
  pgSub : ∀ k, t.pgSub.get k = s.pgSub.get k ∨ c.key .pgSub k
  engines : ∀ k, t.engines.get k = s.engines.get k ∨ c.key .engines k
  lemem : ∀ a, t.lemem.get a = s.lemem.get a ∨ c.key .lemem a
  fabs : ∀ k, t.fabs.get k = s.fabs.get k ∨ c.key .fabs k
  loading : t.cfg.loadPart = s.cfg.loadPart ∨ .loading ∈ c.places
  partLoad : t.cfg.partPart = s.cfg.partPart ∨ .partLoad ∈ c.places
  frames : t.cfg.framePart = s.cfg.framePart ∨ .frames ∈ c.places
  jobs : t.cfg.jobPart = s.cfg.jobPart ∨ .jobs ∈ c.places
  alarms : t.spoor.slots = s.spoor.slots ∨ .alarms ∈ c.places
  records : t.spoor.recordPart = s.spoor.recordPart ∨ .records ∈ c.places
  flows : ∀ k, t.spoor.flows.get k = s.spoor.flows.get k ∨ c.key .flows k
  admission : t.spoor.admitPart = s.spoor.admitPart ∨ .admission ∈ c.places
  delivery : t.pmap.mapPart = s.pmap.mapPart ∨ .delivery ∈ c.places
  hostWrites : t.pmap.writePart = s.pmap.writePart ∨ .hostWrites ∈ c.places
  postings : ∀ k, t.pmap.flows.get k = s.pmap.flows.get k ∨ c.key .postings k
  herdPort : ∀ k, t.herd.ports.get k = s.herd.ports.get k ∨ c.key .herdPort k
  herdNode : t.herd.nodePart = s.herd.nodePart ∨ .herdNode ∈ c.places
  hostPort : ∀ k, t.host.ports.get k = s.host.ports.get k ∨ c.key .hostPort k
  msix : t.host.msix = s.host.msix ∨ .msix ∈ c.places
  sideband : t.host.sb = s.host.sb ∨ .sideband ∈ c.places
  tap : t.host.jtag = s.host.jtag ∨ .tap ∈ c.places
  balls : t.host.ballPart = s.host.ballPart ∨ .balls ∈ c.places
  retention : (t.sett.ret, t.sett.retLost) = (s.sett.ret, s.sett.retLost) ∨ .retention ∈ c.places
  settWrites : t.sett.writes = s.sett.writes ∨ .settWrites ∈ c.places
  power : t.sett.powerPart = s.sett.powerPart ∨ .power ∈ c.places
  safeHold : t.sett.safePart = s.sett.safePart ∨ .safeHold ∈ c.places
  energy : t.sett.energyPart = s.sett.energyPart ∨ .energy ∈ c.places
  wear : t.sett.wearPart = s.sett.wearPart ∨ .wear ∈ c.places
  img : t.img = s.img ∨ .img ∈ c.places
  otp : t.otp = s.otp ∨ .otp ∈ c.places
  held : t.hold = s.hold ∨ .held ∈ c.places
  staged : t.stage = s.stage ∨ .staged ∈ c.places
  answers : t.resp = s.resp ∨ .answers ∈ c.places
  pending : t.pending = s.pending

/-! ### What each command may change -/

/-- The places of an alarm, its log entry and what its record evicts (R377, R378, R512); the register that counts the log. -/
def alarmP : List Place := [.alarms, .records, .retention]
def logS : Spot := .one R.SETT_LOG_WP 0 0

/-- Registers that tell of a write refused to all but a region's owner (R29). -/
def ownerS (r : Nat) : List Spot := [.one R.RGN_EVT (rgB r) 0, .one R.RGN_REJ (rgB r) 0]

/-- Registers that tell of records dropped (R386). -/
def dropS : List Spot := [.one R.SPR_EVT 0 0, .one R.SPR_LOSS_BE 0 0, .one R.SPR_LOSS_TRACE 0 0]

/-- Registers of the Sett that tell of Degraded (R525), and of Safe hold (R500). -/
def degrS : List Spot := [.one R.SETT_DEGR 0 0, .one R.SETT_EVT 0 0]
def safeS : List Spot := [.one R.SETT_SAFE 0 0, .one R.SETT_EVT 0 0]

/-- The memory words that the move slots of the packet at PC store to (R242). -/
def slotStore (s : State) (r : Nat) (y : Bool) (v : Nat) : List Nat :=
  if v / 2 ^ 13 % 8 = 2 ∨ v / 2 ^ 13 % 8 = 3 then [xyAddr r y ((s.eng r).cur.p.get (v / 2 ^ 5 % 8)).toNat] else []
def packetStores (s : State) (r : Nat) : List Nat :=
  slotStore s r false (pf (atPc s r) 31 16) ++ slotStore s r true (pf (atPc s r) 15 0)

/-- A packet of the arithmetic and move slots: its engine, the words it stores to, a record by a spoor port. -/
def packetScope (s : State) (r : Nat) : Scope :=
  ⟨7, [.engines (some r), .rgn (some r), .flows none, .records] ++ (packetStores s r).map fun a => .lemem (some a),
    [.one R.LE_CTRL (leB r) 0, .one R.LE_EVT (leB r) 0, .inBlock R.LE_INp_STAT (leB r), .inBlock R.LE_OUTp_STAT (leB r)] ++ dropS⟩

/-- Registers of the Hub and Field dies, which a reset of the dies writes (R498). -/
def dieS : List Spot := dieBlks.map .file
def regionFileS : List Spot := [.file .ac, .file .cg, .file .pg, .file .le, .file .fab, .file .rgn]

/-- What a reset of the dies leaves: retention, OTP, what the Sett remembers of writes and holds besides (R498). -/
def dieP : List Place :=
  [.hub, .rgn none, .ana none, .conv none, .comp none, .pwm none, .slots none, .pgSub none, .engines none, .lemem none,
    .fabs none, .loading, .partLoad, .frames, .jobs, .admission, .flows none, .delivery, .hostWrites, .postings none,
    .herdPort none, .herdNode, .hostPort none, .msix, .sideband, .tap, .balls, .settWrites, .power, .safeHold, .energy, .wear,
    .img, .held, .staged, .mirror] ++ alarmP


/-! ### What a write of a register by its address may change -/

/-- Analogue cells and comparators of cluster u of region r. -/
def writeAcS (r u o n a : Nat) : List Place × List Spot :=
  if o = R.AC_CTRL.off then
    ([.rgn (some r)], List.flatten [ownerS r, [.one R.AC_CTRL (acB r (u % 12)) 0, .one R.AC_STATUS (acB r (u % 12)) 0]])
  else if o = R.AC_MIG.off then
    (List.flatten [alarmP, [.ana (some (cluKey r u)), .rgn (some r), .wear]], List.flatten [ownerS r, degrS,
      [.inBlock R.AC_CELLn_STAT (acB r u), .inBlock R.AC_CELLn_TRIM (acB r u), .one R.AC_MIG (acB r u) 0,
      .one R.AC_MIG_STAT (acB r u) 0, .one R.AC_SPARE_STAT (acB r u) 0, .one R.AC_STATUS (acB r u) 0, .one R.SETT_SPAREk 0 0,
      logS]])
  else if o = R.AC_CELLn_CFG.off then
    ([.ana (some (cluKey r (u % 12))), .rgn (some r)], List.flatten [ownerS r, [.one R.AC_CELLn_CFG (acB r (u % 12)) (n % 8),
      .one R.AC_CELLn_STAT (acB r (u % 12)) (n % 8), .one R.AC_STATUS (acB r (u % 12)) 0]])
  else if o = R.AC_CELLn_FILT.off then
    ([.rgn (some r)], List.flatten [ownerS r, [.one R.AC_CELLn_FILT (acB r (u % 12)) (n % 8),
      .one R.AC_STATUS (acB r (u % 12)) 0]])
  else if o = R.AC_CELLn_ROUTE.off then
    ([.rgn (some r)], List.flatten [ownerS r, [.one R.AC_CELLn_ROUTE (acB r (u % 12)) (n % 8),
      .one R.AC_STATUS (acB r (u % 12)) 0]])
  else if o = R.AC_CELLn_AUX.off then
    ([.ana (some (cluKey r u)), .rgn (some r)], List.flatten [ownerS r, [.one R.AC_CELLn_AUX (acB r u) n,
      .one R.AC_STATUS (acB r u) 0]])
  else if o = R.AC_CELLn_TRIM.off then
    ([.ana (some (cluKey r u)), .rgn (some r)], List.flatten [ownerS r, [.one R.AC_CELLn_TRIM (acB r u) n,
      .one R.AC_STATUS (acB r u) 0]])
  else if o = R.AC_CELLn_STAT.off then
    ([.ana (some (cluKey r u)), .rgn (some r)], List.flatten [ownerS r, [.one R.AC_CELLn_STAT (acB r u) n,
      .one R.AC_STATUS (acB r u) 0]])
  else if o = R.WC_CHK.off then
    ([.comp (some ((r * 12) + u)), .rgn (some r)], List.flatten [ownerS r, [.one R.WC_CHK (acB r u) 0,
      .one R.WC_CHK_STAT (acB r u) 0, .one R.WC_SPARE_STAT (acB r u) 0, .one R.WC_STATUS (acB r u) 0]])
  else if o = R.WC_CMPm_CFG.off then
    (List.flatten [alarmP, [.ana none, .comp none, .flows none, .pgSub none, .pwm none, .rgn (some r), .safeHold]],
      List.flatten [ownerS r, dropS, safeS, [.every R.PG_CHcc_CNT, .every R.PG_CHcc_STAT, .every R.PG_EVT,
      .inBlock R.WC_CMPm_STAT (acB r (u % 12)), .one R.LE_EVPEND (leB r) 0, .one R.WC_CMPm_CFG (acB r (u % 12)) (n % 2),
      .one R.WC_CMPm_CNT (acB r (u % 12)) (n % 2), .one R.WC_STATUS (acB r (u % 12)) 0, logS]])
  else if o = R.WC_CMPm_THR.off then
    ([.rgn (some r)], List.flatten [ownerS r, [.one R.WC_CMPm_THR (acB r (u % 12)) (n % 2),
      .one R.WC_STATUS (acB r (u % 12)) 0]])
  else if o = R.WC_CMPm_TRIP.off ∨ o = R.WC_CMPm_ROUTE.off then
    (List.flatten [alarmP, [.ana none, .comp none, .flows none, .pgSub none, .pwm none, .rgn (some r), .safeHold]],
      List.flatten [ownerS r, dropS, safeS, [.every R.PG_CHcc_CNT, .every R.PG_CHcc_STAT, .every R.PG_EVT,
      .inBlock R.WC_CMPm_STAT (acB r (u % 12)), .one R.LE_EVPEND (leB r) 0, .one R.WC_CMPm_CNT (acB r (u % 12)) (n % 2),
      .one R.WC_CMPm_ROUTE (acB r (u % 12)) (n % 2), .one R.WC_CMPm_TRIP (acB r (u % 12)) (n % 2),
      .one R.WC_STATUS (acB r (u % 12)) 0, logS]])
  else if o = R.WC_CMPm_TRIM.off then
    ([.rgn (some r)], List.flatten [ownerS r, [.one R.WC_CMPm_TRIM (acB r u) n, .one R.WC_STATUS (acB r u) 0]])
  else if o = R.WC_CMPm_STAT.off then
    (List.flatten [alarmP, [.ana none, .comp none, .flows none, .pgSub none, .pwm none, .rgn (some r), .safeHold]],
      List.flatten [ownerS r, dropS, safeS, [.every R.PG_CHcc_CNT, .every R.PG_CHcc_STAT, .every R.PG_EVT,
      .inBlock R.WC_CMPm_STAT (acB r (u % 12)), .one R.LE_EVPEND (leB r) 0, .one R.WC_CMPm_CNT (acB r (u % 12)) (n % 2),
      .one R.WC_STATUS (acB r (u % 12)) 0, logS]])
  else if o = R.WC_CMPm_CNT.off then
    ([.rgn (some r)], List.flatten [ownerS r, [.one R.WC_STATUS (acB r u) 0]])
  else ([.rgn (some r)], .word a :: (if R.WC_CTRL.off ≤ o then .one R.WC_STATUS (acB r u) 0 :: ownerS r else ownerS r))

/-- Converter group u of region r. -/
def writeCgS (r u o n a : Nat) : List Place × List Spot :=
  if o = R.CG_CTRL.off then
    ([.conv (some (grpKey r u)), .rgn (some r)], List.flatten [ownerS r, [.every R.CG_CTRL, .every R.CG_ROT_STAT,
      .every R.CG_SCAN, .every R.CG_STAT, .one R.CG_EVT (cgB r u) 0, .one R.CG_ROT_CTRL (cgB r u) 0,
      .one R.CG_URG_STAT (cgB r u) 0]])
  else if o = R.CG_SCAN.off then
    ([.conv (some (grpKey r u)), .rgn (some r)], List.flatten [ownerS r, [.one R.CG_EVT (cgB r u) 0,
      .one R.CG_SCAN (cgB r u) 0, .one R.CG_STAT (cgB r u) 0]])
  else if o = R.CG_URG.off then
    ([.conv (some (grpKey r (u % 4))), .rgn (some r)], List.flatten [ownerS r, [.one R.CG_EVT (cgB r (u % 4)) 0,
      .one R.CG_STAT (cgB r (u % 4)) 0, .one R.CG_URG_STAT (cgB r (u % 4)) 0]])
  else if o = R.CG_ROT_CTRL.off then
    ([.rgn (some r)], List.flatten [ownerS r, [.one R.CG_INTEG_EVT (cgB r (u % 4)) 0, .one R.CG_ROT_CTRL (cgB r (u % 4)) 0,
      .one R.CG_ROT_STAT (cgB r (u % 4)) 0]])
  else if o = R.CG_MASK.off then
    ([.conv (some (grpKey r u)), .rgn (some r)], List.flatten [ownerS r, [.one R.CG_EVT (cgB r u) 0,
      .one R.CG_MASK (cgB r u) 0, .one R.CG_STAT (cgB r u) 0]])
  else if o = R.CG_URGk_CFG.off then
    ([.conv (some (grpKey r u)), .rgn (some r)], List.flatten [ownerS r, [.one R.CG_EVT (cgB r u) 0,
      .one R.CG_STAT (cgB r u) 0, .one R.CG_URGk_CFG (cgB r u) n]])
  else if o = R.CG_TAPt_CFG.off then
    ([.conv (some (grpKey r u)), .rgn (some r)], List.flatten [ownerS r, [.one R.CG_EVT (cgB r u) 0,
      .one R.CG_STAT (cgB r u) 0, .one R.CG_TAPt_CFG (cgB r u) n]])
  else if o = R.CG_TAPt_MASK.off then
    ([.conv (some (grpKey r u)), .rgn (some r)], List.flatten [ownerS r, [.one R.CG_EVT (cgB r u) 0,
      .one R.CG_STAT (cgB r u) 0, .one R.CG_TAPt_MASK (cgB r u) n]])
  else if o = R.CG_CHc_CFG.off then
    ([.conv (some (grpKey r u)), .rgn (some r)], List.flatten [ownerS r, [.one R.CG_CHc_CFG (cgB r u) n,
      .one R.CG_EVT (cgB r u) 0, .one R.CG_STAT (cgB r u) 0]])
  else if o = R.CG_CHc_COR.off then
    ([.conv (some (grpKey r u)), .rgn (some r)], List.flatten [ownerS r, [.one R.CG_CHc_COR (cgB r u) n,
      .one R.CG_EVT (cgB r u) 0, .one R.CG_STAT (cgB r u) 0]])
  else ([.rgn (some r)], .word a :: (ownerS r))

/-- Pulse generators. -/
def writePgS (r o n a : Nat) : List Place × List Spot :=
  if o = R.PG_SUB.off then
    (List.flatten [alarmP, [.pgSub (some r), .rgn (some r), .wear]], List.flatten [ownerS r, degrS,
      [.inBlock R.PG_CHcc_STAT (pgB r), .one R.PG_SPARE_STAT (pgB r) 0, .one R.PG_SUB (pgB r) 0, .one R.PG_SUB_STAT (pgB r) 0,
      .one R.SETT_SPAREk 0 3, logS]])
  else if o = R.PG_GRPg_CTRL.off then
    ([.rgn (some r), .slots (some (chKey r n))], List.flatten [ownerS r, [.one R.PG_GRPg_CTRL (pgB r) n]])
  else if o = R.PG_GRPg_PER.off then
    ([.rgn (some r)], List.flatten [ownerS r, [.one R.PG_GRPg_PER (pgB r) n, .one R.PG_STATUS (pgB r) 0]])
  else if o = R.PG_CHcc_CFG.off then
    (List.flatten [alarmP, [.ana none, .comp none, .pgSub none, .pwm none, .rgn (some r)]], List.flatten [ownerS r,
      [.one R.PG_CHcc_CFG (pgB r) (n % 16), .one R.PG_CHcc_CNT (pgB r) (n % 16), .one R.PG_CHcc_STAT (pgB r) (n % 16),
      .one R.PG_EVT (pgB r) 0, .one R.PG_STATUS (pgB r) 0, logS]])
  else if o = R.PG_CHcc_PHASE.off then
    ([.rgn (some r)], List.flatten [ownerS r, [.one R.PG_CHcc_PHASE (pgB r) n, .one R.PG_STATUS (pgB r) 0]])
  else if o = R.PG_CHcc_DUTY.off then
    ([.pwm (some (chKey r n)), .rgn (some r)], List.flatten [ownerS r, [.one R.PG_CHcc_DUTY (pgB r) n,
      .one R.PG_STATUS (pgB r) 0]])
  else if o = R.PG_CHcc_TRIG.off then
    ([.rgn (some r)], List.flatten [ownerS r, [.one R.PG_CHcc_TRIG (pgB r) n, .one R.PG_STATUS (pgB r) 0]])
  else if o = R.PG_CHcc_LOWMAX.off then
    ([.rgn (some r)], List.flatten [ownerS r, [.one R.PG_CHcc_LOWMAX (pgB r) n, .one R.PG_STATUS (pgB r) 0]])
  else if o = R.PG_CHcc_LIM.off then
    ([.rgn (some r)], List.flatten [ownerS r, [.one R.PG_CHcc_LIM (pgB r) n, .one R.PG_STATUS (pgB r) 0]])
  else if o = R.PG_CHcc_TRIPCFG.off then
    (List.flatten [alarmP, [.ana none, .comp none, .pgSub none, .pwm none, .rgn (some r)]], List.flatten [ownerS r,
      [.one R.PG_CHcc_CNT (pgB r) (n % 16), .one R.PG_CHcc_STAT (pgB r) (n % 16), .one R.PG_CHcc_TRIPCFG (pgB r) (n % 16),
      .one R.PG_EVT (pgB r) 0, .one R.PG_STATUS (pgB r) 0, logS]])
  else if o = R.PG_CHcc_STATES.off then
    ([.ana none, .comp none, .rgn (some r)], List.flatten [ownerS r, [.one R.PG_CHcc_STATES (pgB r) n,
      .one R.PG_STATUS (pgB r) 0]])
  else if o = R.PG_CHcc_REL.off then
    ([.pwm none, .rgn (some r)], List.flatten [ownerS r, [.one R.PG_STATUS (pgB r) 0]])
  else ([.rgn (some r)], .word a :: (ownerS r))

/-- Loop Engine control. -/
def writeLeS (r o n a : Nat) : List Place × List Spot :=
  if o = R.LE_CTRL.off then
    ([.engines (some r), .rgn (some r)], List.flatten [ownerS r, [.one R.LE_CTRL (leB r) 0, .one R.LE_EVPEND (leB r) 0,
      .one R.LE_EVT (leB r) 0, .one R.LE_STAT (leB r) 0]])
  else if o = R.LE_SUB.off then
    ([.engines (some r), .rgn (some r)], List.flatten [ownerS r, [.one R.LE_SUB (leB r) 0, .one R.LE_SUB_STAT (leB r) 0]])
  else if o = R.LE_INp_CFG.off then
    ([.engines (some r), .rgn (some r)], List.flatten [ownerS r, [.one R.LE_INp_CFG (leB r) n]])
  else if o = R.LE_OUTp_CFG.off then
    ([.rgn (some r)], List.flatten [ownerS r, [.one R.LE_OUTp_CFG (leB r) n]])
  else ([.rgn (some r)], .word a :: (ownerS r))

/-- Fabric, block memories and queue controllers. -/
def writeFabS (r o n a : Nat) : List Place × List Spot :=
  if o = R.FAB_RST.off ∨ o = R.QC_FLUSH.off then
    ([.fabs (some r), .rgn (some r)], List.flatten [ownerS r, [.one R.FAB_EVT (fabB r) 0, .one R.FAB_STAT (fabB r) 0]])
  else if o = R.FAB_CAP_CTRL.off then
    ([.fabs (some r), .rgn (some r)], List.flatten [ownerS r, [.one R.FAB_CAP_CTRL (fabB r) 0, .one R.FAB_CAP_STAT (fabB r) 0,
      .one R.FAB_EVT (fabB r) 0, .one R.FAB_STAT (fabB r) 0]])
  else if o = R.FAB_RELOC.off then
    ([.fabs (some r), .rgn (some r)], List.flatten [ownerS r, [.one R.FAB_EVT (fabB r) 0, .one R.FAB_RELOC (fabB r) 0,
      .one R.FAB_RELOC_STAT (fabB r) 0, .one R.FAB_STAT (fabB r) 0]])
  else if o = R.FAB_UREGn.off then
    ([.rgn (some r)], List.flatten [ownerS r, [.one R.FAB_EVT (fabB r) 0, .one R.FAB_STAT (fabB r) 0,
      .one R.FAB_UREGn (fabB r) n]])
  else if o = R.QC_CFG.off then
    ([.rgn (some r)], List.flatten [ownerS r, [.one R.FAB_EVT (fabB r) 0, .one R.FAB_STAT (fabB r) 0,
      .one R.QC_CFG (fabB r) n]])
  else if o = R.QC_THR.off then
    ([.rgn (some r)], List.flatten [ownerS r, [.one R.FAB_EVT (fabB r) 0, .one R.FAB_STAT (fabB r) 0,
      .one R.QC_THR (fabB r) n]])
  else if o = R.QC_EVT.off then
    ([.rgn (some r)], List.flatten [ownerS r, [.one R.FAB_EVT (fabB r) 0, .one R.FAB_STAT (fabB r) 0]])
  else ([.rgn (some r)], .word a :: (.one R.FAB_EVT (fabB r) 0 :: .one R.FAB_STAT (fabB r) 0 :: ownerS r))

/-- The Hub window. -/
def writeHubS (o n a : Nat) : List Place × List Spot :=
  if o = R.CFG_PR_CMD.off then
    ([.frames, .loading, .partLoad], [.one R.CFG_EVT 0 0, .one R.CFG_PR_CMD 0 0, .one R.CFG_PR_STAT 0 0, .one R.CFG_STAT 0 0])
  else if o = R.CFG_FIFO.off then
    ([.frames, .loading, .partLoad, .power, .retention], [.one R.CFG_EVT 0 0, .one R.CFG_FIFO_STAT 0 0, .one R.CFG_PR_CMD 0 0,
      .one R.CFG_PR_STAT 0 0, .one R.CFG_STAT 0 0, .one R.SEC_EVT 0 0, .one R.SEC_FENCE_CMD 0 0, logS])
  else if o = R.CFG_FL_CMD.off then
    ([.jobs], [.one R.CFG_EVT 0 0, .one R.CFG_FL_CMD 0 0])
  else if o = R.SEC_OTP_CMD.off then
    ([.jobs], [.one R.SEC_EVT 0 0, .one R.SEC_OTP_CMD 0 0, .one R.SEC_OTP_STAT 0 0])
  else if o = R.SEC_FENCE_CMD.off then
    ([.partLoad], [.one R.CFG_EVT 0 0, .one R.CFG_PR_STAT 0 0, .one R.SEC_EVT 0 0, .one R.SEC_FENCE_CMD 0 0])
  else if o = R.SPR_CMD.off then
    (List.flatten [alarmP, [.delivery, .flows none, .hostWrites, .postings none]], List.flatten [dropS,
      [.inBlock R.PMAP_SUSPw 0, .one R.PMAP_EVT 0 0, .one R.PMAP_FLT_ADDR 0 0, .one R.PMAP_FLT_INFO 0 0,
      .one R.PMAP_FLT_TIME 0 0, .one R.PMAP_STAT 0 0, .one R.SPR_ALARM_CNT 0 0, .one R.SPR_CAP 0 0, .one R.SPR_CMD 0 0,
      .one R.SPR_CMD_STAT 0 0, .one R.SPR_DESC0 0 0, .one R.SPR_DESC1 0 0, .one R.SPR_DESC2 0 0, .one R.SPR_FCNT0 0 0,
      .one R.SPR_FCNT1 0 0, .one R.SPR_FSTAT 0 0, .one R.SPR_STAT 0 0, .one R.SPR_USE_DIE0 0 0, .one R.SPR_USE_DIE1 0 0,
      .one R.SPR_USE_HOST 0 0, .one R.SPR_USE_POOL 0 0, logS]])
  else if o = R.PMAP_CMD.off then
    (List.flatten [alarmP, [.admission, .delivery, .flows none, .hostWrites, .postings none]], List.flatten [dropS,
      [.inBlock R.PMAP_SUSPw 0, .one R.PMAP_CMD 0 0, .one R.PMAP_CMD_STAT 0 0, .one R.PMAP_EVT 0 0, .one R.PMAP_FLT_ADDR 0 0,
      .one R.PMAP_FLT_INFO 0 0, .one R.PMAP_FLT_TIME 0 0, .one R.PMAP_STAT 0 0, .one R.PMAP_WALKS 0 0,
      .one R.SPR_ALARM_CNT 0 0, .one R.SPR_CAP 0 0, .one R.SPR_STAT 0 0, .one R.SPR_USE_DIE0 0 0, .one R.SPR_USE_DIE1 0 0,
      .one R.SPR_USE_HOST 0 0, .one R.SPR_USE_POOL 0 0, logS]])
  else if o = R.PMAP_CTRL.off then
    (List.flatten [alarmP, [.admission, .delivery, .flows none, .hostWrites, .postings none]], List.flatten [dropS,
      [.inBlock R.PMAP_SUSPw 0, .one R.PMAP_EVT 0 0, .one R.PMAP_FLT_ADDR 0 0, .one R.PMAP_FLT_INFO 0 0,
      .one R.PMAP_FLT_TIME 0 0, .one R.PMAP_STAT 0 0, .one R.PMAP_WALKS 0 0, .one R.SPR_ALARM_CNT 0 0, .one R.SPR_CAP 0 0,
      .one R.SPR_STAT 0 0, .one R.SPR_USE_DIE0 0 0, .one R.SPR_USE_DIE1 0 0, .one R.SPR_USE_HOST 0 0, .one R.SPR_USE_POOL 0 0,
      .word a, logS]])
  else if o = R.HOST_p_CTRL.off then
    ([.hostWrites, .records], [.one R.HOST_p_CTRL 0 n])
  else if o = R.HERD_CTRL.off then
    (List.flatten [alarmP, [.herdNode, .herdPort none]], [.inBlock R.HERD_Pp_STAT 0, .one R.HERD_COUNT 0 0,
      .one R.HERD_EVT 0 0, .one R.HERD_STAT 0 0, .one R.HERD_TOPO 0 0, logS])
  else if o = R.HERD_DEMr.off then
    ([], [.one R.HERD_DEMr 0 n, .one R.HERD_EVT 0 0])
  else if o = R.PIN_OUTw.off ∨ o = R.PIN_OSETw.off ∨ o = R.PIN_OCLRw.off then
    ([], [.one R.PIN_EVT 0 0, .one R.PIN_OUTw 0 n, .one R.PIN_STAT 0 0])
  else if o = R.PIN_EVTk_CFG.off then
    ([.conv none, .fabs none, .herdNode], [.every R.CG_EVT, .every R.CG_URG_STAT, .one R.PIN_EVT 0 0, .one R.PIN_EVTk_CFG 0 n,
      .one R.PIN_EVTk_TIME 0 n])
  else if o = R.PIN_Pxn_CFG.off ∨ o = R.PIN_Pxn_ARG.off then
    (List.flatten [alarmP, [.ana none, .balls, .comp none, .pgSub none, .safeHold]], List.flatten [safeS,
      [.one R.PIN_CFLT_LAST 0 0, .one R.PIN_EVT 0 0, .one R.PIN_Pxn_ARG 0 n, .one R.PIN_Pxn_CFG 0 n, .one R.PIN_STAT 0 0,
      logS]])
  else ([], [.word a])

/-- Region registers. -/
def writeRgnS (r o a : Nat) : List Place × List Spot :=
  if o = R.RGN_CTRL.off then
    (List.flatten [alarmP, [.ana none, .comp none, .conv none, .engines (some r), .fabs (some r), .flows none, .frames, .held,
      .lemem none, .pgSub none, .pwm none, .rgn (some r), .safeHold, .slots none, .staged, .wear]], List.flatten [dropS,
      safeS, degrS, [.every R.AC_CELLn_STAT, .every R.AC_MIG, .every R.AC_MIG_STAT, .every R.AC_SPARE_STAT,
      .every R.AC_STATUS, .every R.CG_CTRL, .every R.CG_STAT, .every R.PG_CHcc_CNT, .every R.PG_CHcc_STAT, .every R.PG_EVT,
      .every R.SETT_SPAREk, .every R.WC_CHK, .every R.WC_CHK_STAT, .every R.WC_SPARE_STAT, .inBlock R.FAB_BMb_STAT (fabB r),
      .inBlock R.FAB_SPMAPs (fabB r), .one R.AC_INJ_AIO (acB r 0) 0, .one R.AC_INJ_FIN (acB r 0) 0, .region r, logS]])
  else if o = R.RGN_VF.off then
    ([.rgn (some r)], List.flatten [ownerS r, [.one R.RGN_VF (rgB r) 0]])
  else ([.rgn (some r)], .word a :: ownerS r)

/-- A 64-bit register whose low half is at `a` (R20). -/
def wideS (a : Nat) : List Place × List Spot :=
  let r := (rgnAt a).val
  let o := offAt a
  if a < 0x100_0000 then
    if a = R.PMAP_ROOT_A.off ∨ a = R.PMAP_ROOT_B.off then
      (List.flatten [alarmP, [.admission, .delivery, .flows none, .hostWrites, .postings none]], List.flatten [dropS,
        [.inBlock R.PMAP_SUSPw 0, .one R.PMAP_EVT 0 0, .one R.PMAP_FLT_ADDR 0 0, .one R.PMAP_FLT_INFO 0 0,
        .one R.PMAP_FLT_TIME 0 0, .one R.PMAP_ROOT_A 0 0, .one R.PMAP_ROOT_B 0 0, .one R.PMAP_STAT 0 0, .one R.PMAP_WALKS 0 0,
        .one R.SPR_ALARM_CNT 0 0, .one R.SPR_CAP 0 0, .one R.SPR_STAT 0 0, .one R.SPR_USE_DIE0 0 0, .one R.SPR_USE_DIE1 0 0,
        .one R.SPR_USE_HOST 0 0, .one R.SPR_USE_POOL 0 0, logS]])
    else if a = R.HERD_TSET.off then ([.herdNode], [.one R.HERD_EVT 0 0, .one R.HERD_TSET 0 0])
    else ([], [.word a, .word (a + 4)])
  else if o < 0x5_0000 then
    ([.engines (some r), .rgn (some r)], .one R.LE_EVT (leB r) 0 :: .one R.LE_STAT (leB r) 0 :: ownerS r)
  else if 0x8_0000 ≤ o then
    ([.lemem (some a), .lemem (some (a + 4)), .rgn (some r)], .one R.LE_EVT (leB r) 0 :: .one R.LE_STAT (leB r) 0 :: ownerS r)
  else ([.fabs (some r), .rgn (some r)], .one R.FAB_EVT (fabB r) 0 :: .one R.FAB_STAT (fabB r) 0 :: ownerS r)

/-- A write of a word at an address. -/
def writeS (a : Nat) : List Place × List Spot :=
  let r := (rgnAt a).val
  let u := unitAt a
  if 0x14_0000 ≤ a ∧ a < 0x18_0000 then ([.retention], [])
  else match halfAt a with
    | 1 => ([.staged, .rgn (some r)], .one R.FAB_EVT (fabB r) 0 :: .one R.FAB_STAT (fabB r) 0 :: ownerS r)
    | 2 => (.staged :: (wideS (a - 4)).1, (wideS (a - 4)).2)
    | _ =>
      if isLeWord a then
        ([.engines (some r), .lemem (some a), .rgn (some r)], .one R.LE_EVT (leB r) 0 :: .one R.LE_STAT (leB r) 0 :: ownerS r)
      else match rowAt a with
        | none => ([], [])
        | some (k, _, row, n) =>
          let x := match k with
            | .ac => writeAcS r u row.off n (sharedAt a)
            | .cg => writeCgS r u row.off n a
            | .pg => writePgS r row.off n a
            | .le => writeLeS r row.off n a
            | .fab => writeFabS r row.off n a
            | .rgn => writeRgnS r row.off a
            | .sett => ([.mirror, .settWrites], [])
            | _ => writeHubS row.off n a
          (x.1, .word (sharedAt a) :: x.2)

/-- A read of a word at an address. -/
def readS (a : Nat) : List Place × List Spot :=
  let r := (rgnAt a).val
  let u := unitAt a
  match halfAt a, rowAt a with
  | 0, some (k, _, row, _) =>
    if k = .fab ∧ row.off = R.FAB_UREGn.off then ([.held], [])
    else if k = .sett ∧ (row.off = R.SETT_ACCn_C0.off ∨ row.off = R.SETT_ACCn_C1.off ∨ row.off = R.SETT_ACCn_C2.off) then
      ([.held], [])
    else (if k = .sett then [.mirror] else [], [.word a])
  | _, some (k, _, row, n) =>
    if k = .cg ∧ (row.off = R.CG_RESULT.off ∨ row.off = R.CG_RESULT.off + 4) then ([.conv (some (grpKey r u))], [])
    else if k = .fab ∧ row.off = R.QC_DATA.off then
      (List.flatten [alarmP, [.fabs (some r), .held, .wear]], List.flatten [degrS, [.one R.FAB_BMb_STAT (fabB r) n,
        .one R.FAB_EVT (fabB r) 0, .one R.QC_CNT (fabB r) n, .one R.QC_EVT (fabB r) n, .one R.SETT_SPAREk 0 7, logS]])
    else if k = .fab ∧ row.off = R.FAB_BM_DATA.off then
      (List.flatten [alarmP, [.fabs (some r), .held, .wear]], List.flatten [degrS, [.inBlock R.FAB_BMb_STAT (fabB r),
        .one R.FAB_EVT (fabB r) 0, .one R.SETT_SPAREk 0 7, logS]])
    else ([.held], [])
  | _, none => ([.held], [])

/-- A scope of accesses, one after another, with what else the command changes. -/
def accessScope (c : Nat) (p : List Place) (x : List Spot) (l : List (List Place × List Spot)) : Scope :=
  ⟨c, p ++ l.flatMap (·.1), x ++ l.flatMap (·.2)⟩

/-- The words that an engine's CRD, and its oldest write in flight, name (R246). -/
def crdWords (s : State) (r : Nat) : List (List Place × List Spot) :=
  match (s.eng r).mode with | .crd off _ => [readS (rgnBase r + off)] | _ => []
def cwrWords (s : State) (r : Nat) : List (List Place × List Spot) :=
  match (s.eng r).cwr with | [] => [] | (off, _) :: _ => [writeS (rgnBase r + off)]

/-- The word that a fabric's register port, and REGACC, name (R294, R470). -/
def portWord (a : Nat) (w : Option Word) : List Place × List Spot := if w.isSome then writeS a else readS a
def regaccWord (dr : BitVec 66) : List Place × List Spot :=
  let a := dr.toNat / 2 ^ 32 % 2 ^ 32
  if dr.toNat / 2 ^ 64 = 1 then readS a else if dr.toNat / 2 ^ 64 = 2 then writeS a else ([], [])

/-- What a command may change. -/
def scope (i : Instr) (s : State) : Scope :=
  match i with
  | .readLowHalf _ n => accessScope 0 [.answers] [] [readS (4 * n.val)]
  | .readHighHalf _ n => accessScope 0 [.answers] [] [readS (4 * n.val)]
  | .writeLowHalf _ n _ => accessScope 0 [] [] [writeS (4 * n.val)]
  | .writeHighHalf _ n _ => accessScope 0 [] [] [writeS (4 * n.val)]
  | .readClear _ n _ => accessScope 0 [.answers] [] [readS (4 * n.val)]
  | .registerWrite _ n _ _ => accessScope 0 [] [] [writeS (4 * n.val)]
  | .herdTimeRefresh => ⟨1, [.rgn none], []⟩
  | .tempSample _ =>
    ⟨1, List.flatten [alarmP, [.ana none, .comp none, .conv none, .pgSub none, .rgn none, .safeHold]], List.flatten [safeS,
      [.every R.CG_SKEWs, .every R.RGN_EVT, .every R.RGN_STAT, .every R.RGN_TEMP, logS]]⟩
  | .refTrimDone r => ⟨1, [.rgn (some r.val)], [.every R.AC_CELLn_STAT, .every R.WC_CMPm_STAT]⟩
  | .dieLinkReplay _ _ => ⟨1, [.records], []⟩
  | .vfRequest _ r _ => ⟨1, [.rgn (some r.val)], List.flatten [ownerS r.val, [.one R.RGN_VF (rgB r.val) 0]]⟩
  | .vfChangeEnd r => ⟨1, [.rgn (some r.val)], [.one R.RGN_EVT (rgB r.val) 0, .one R.RGN_VF (rgB r.val) 0]⟩
  | .vfWaitingStart r => ⟨1, [.rgn (some r.val)], [.one R.RGN_EVT (rgB r.val) 0, .one R.RGN_VF (rgB r.val) 0]⟩
  | .safeNAssert => ⟨0, List.flatten [alarmP, [.ana none, .comp none, .pgSub none, .safeHold]], List.flatten [safeS, [logS]]⟩
  | .safeNRelease => ⟨0, [.safeHold], [.one R.SETT_SAFE 0 0]⟩
  | .pllSwitch _ => ⟨1, List.flatten [alarmP, [.hub, .wear]], List.flatten [degrS, [.one R.SETT_SPAREk 0 10, logS]]⟩
  | .refclkLoss => ⟨1, List.flatten [alarmP, [.hub]], [logS]⟩
  | .xtalFail => ⟨1, List.flatten [alarmP, [.power, .wear]], List.flatten [degrS, [.one R.SETT_SPAREk 0 11, logS]]⟩
  | .clockStart r =>
    ⟨1, [.conv none, .rgn (some r.val)], [.every R.CG_ROT_STAT, .one R.LE_EVPEND (leB r.val) 0,
      .one R.RGN_STAT (rgB r.val) 0]⟩
  | .clockGate r => ⟨1, [.conv none], [.every R.CG_CALs, .every R.CG_ROT_STAT, .every R.CG_SVCs, .one R.RGN_STAT (rgB r.val) 0]⟩
  | .clockCold r => ⟨1, [], [.one R.RGN_STAT (rgB r.val) 0]⟩
  | .regionWake r =>
    ⟨1, [.conv none, .rgn (some r.val)], [.every R.CG_ROT_STAT, .one R.LE_EVPEND (leB r.val) 0,
      .one R.RGN_STAT (rgB r.val) 0]⟩
  | .synthLock r =>
    ⟨1, [.conv none, .rgn (some r.val)], [.every R.CG_ROT_STAT, .one R.LE_EVPEND (leB r.val) 0,
      .one R.RGN_STAT (rgB r.val) 0]⟩
  | .acCellCfgWrite _ r k n _ =>
    ⟨2, [.ana (some (cluKey r.val k.val)), .rgn (some r.val)], List.flatten [ownerS r.val,
      [.one R.AC_CELLn_CFG (acB r.val k.val) n.val, .one R.AC_CELLn_STAT (acB r.val k.val) n.val,
      .one R.AC_STATUS (acB r.val k.val) 0]]⟩
  | .acCellFiltWrite _ r k n _ =>
    ⟨2, [.rgn (some r.val)], List.flatten [ownerS r.val, [.one R.AC_CELLn_FILT (acB r.val k.val) n.val,
      .one R.AC_STATUS (acB r.val k.val) 0]]⟩
  | .acCellRouteWrite _ r k n _ =>
    ⟨2, [.rgn (some r.val)], List.flatten [ownerS r.val, [.one R.AC_CELLn_ROUTE (acB r.val k.val) n.val,
      .one R.AC_STATUS (acB r.val k.val) 0]]⟩
  | .acCtrlWrite _ r k _ =>
    ⟨2, [.rgn (some r.val)], List.flatten [ownerS r.val, [.one R.AC_CTRL (acB r.val k.val) 0,
      .one R.AC_STATUS (acB r.val k.val) 0]]⟩
  | .outputSwitchClose r k _ => ⟨2, [.ana (some (cluKey r.val k.val))], []⟩
  | .shTrigger _ _ _ => ⟨2, [.ana none], []⟩
  | .shHoldEnd r k _ => ⟨2, [.ana (some (cluKey r.val k.val))], []⟩
  | .cellClip r k n _ => ⟨2, [], [.one R.AC_CELLn_STAT (acB r.val k.val) n.val]⟩
  | .refFault r _ => ⟨2, List.flatten [alarmP, [.rgn (some r.val)]], [.every R.AC_STATUS, logS]⟩
  | .refFaultClear r => ⟨2, [.rgn (some r.val)], [.every R.AC_STATUS]⟩
  | .injectionDetect r _ =>
    ⟨2, [.rgn (some r.val)], [.every R.AC_CELLn_STAT, .one R.AC_INJ_AIO (acB r.val 0) 0,
      .one R.AC_INJ_FIN (acB r.val 0) 0]⟩
  | .injectionRelease r => ⟨2, [.rgn (some r.val)], []⟩
  | .migrationStart _ r k _ =>
    ⟨2, List.flatten [alarmP, [.ana (some (cluKey r.val k.val)), .rgn (some r.val), .wear]], List.flatten [ownerS r.val,
      degrS, [.inBlock R.AC_CELLn_STAT (acB r.val k.val), .inBlock R.AC_CELLn_TRIM (acB r.val k.val),
      .one R.AC_MIG (acB r.val k.val) 0, .one R.AC_MIG_STAT (acB r.val k.val) 0, .one R.AC_SPARE_STAT (acB r.val k.val) 0,
      .one R.AC_STATUS (acB r.val k.val) 0, .one R.SETT_SPAREk 0 0, logS]]⟩
  | .migrationStepEnd r k _ _ _ =>
    ⟨2, List.flatten [alarmP, [.ana (some (cluKey r.val k.val)), .wear]], List.flatten [degrS,
      [.inBlock R.AC_CELLn_STAT (acB r.val k.val), .inBlock R.AC_CELLn_TRIM (acB r.val k.val),
      .one R.AC_MIG (acB r.val k.val) 0, .one R.AC_MIG_STAT (acB r.val k.val) 0, .one R.AC_SPARE_STAT (acB r.val k.val) 0,
      .one R.SETT_SPAREk 0 0, logS]]⟩
  | .cgModeChange _ r g _ =>
    ⟨3, [.conv (some (grpKey r.val g.val)), .rgn (some r.val)], List.flatten [ownerS r.val, [.every R.CG_CTRL,
      .every R.CG_ROT_STAT, .every R.CG_SCAN, .every R.CG_STAT, .one R.CG_EVT (cgB r.val g.val) 0,
      .one R.CG_ROT_CTRL (cgB r.val g.val) 0, .one R.CG_URG_STAT (cgB r.val g.val) 0]]⟩
  | .cgModeReady r _ =>
    ⟨3, [.conv none], [.every R.CG_ROT_STAT, .every R.CG_STAT, .here R.CG_CTRL r.val, .here R.CG_SCAN r.val]⟩
  | .selfCalibration _ r g =>
    ⟨3, [.conv (some (grpKey r.val g.val)), .rgn (some r.val)], List.flatten [ownerS r.val, [.every R.CG_CTRL,
      .every R.CG_ROT_STAT, .every R.CG_SCAN, .every R.CG_STAT, .one R.CG_EVT (cgB r.val g.val) 0,
      .one R.CG_ROT_CTRL (cgB r.val g.val) 0, .one R.CG_URG_STAT (cgB r.val g.val) 0]]⟩
  | .calibrationDone r g _ _ _ _ =>
    ⟨3, List.flatten [alarmP, [.conv (some (grpKey r.val g.val)), .wear]], List.flatten [degrS,
      [.inBlock R.CG_BWs (cgB r.val g.val), .inBlock R.CG_CALs (cgB r.val g.val), .inBlock R.CG_SKEWs (cgB r.val g.val),
      .inBlock R.CG_SVCs (cgB r.val g.val), .one R.CG_CAL_STAT (cgB r.val g.val) 0, .one R.CG_CTRL (cgB r.val g.val) 0,
      .one R.CG_EST_STAT (cgB r.val g.val) 0, .one R.CG_EVT (cgB r.val g.val) 0, .one R.CG_INTEG_EVT (cgB r.val g.val) 0,
      .one R.CG_ROT_STAT (cgB r.val g.val) 0, .one R.CG_STAT (cgB r.val g.val) 0, .one R.SETT_SPAREk 0 2, logS]]⟩
  | .scanGo _ r g =>
    ⟨3, [.conv (some (grpKey r.val g.val)), .rgn (some r.val)], List.flatten [ownerS r.val,
      [.one R.CG_EVT (cgB r.val g.val) 0, .one R.CG_SCAN (cgB r.val g.val) 0, .one R.CG_STAT (cgB r.val g.val) 0]]⟩
  | .scanTrigger r g => ⟨3, [.conv (some (grpKey r.val g.val))], [.one R.CG_EVT (cgB r.val g.val) 0]⟩
  | .scanPassEnd r g => ⟨3, [.conv (some (grpKey r.val g.val))], [.one R.CG_SCAN (cgB r.val g.val) 0]⟩
  | .batchDone r g _ _ =>
    ⟨3, [.conv (some (grpKey r.val g.val)), .flows none, .records], List.flatten [dropS,
      [.inBlock R.CG_TAPt_STAT (cgB r.val g.val), .one R.CG_EVT (cgB r.val g.val) 0, .one R.CG_INTEG_EVT (cgB r.val g.val) 0,
      .one R.CG_RESULT (cgB r.val g.val) 0]]⟩
  | .excursion r g _ => ⟨3, [.conv (some (grpKey r.val g.val))], []⟩
  | .hostUrgentRequest _ r g _ =>
    ⟨3, [.conv (some (grpKey r.val g.val)), .rgn (some r.val)], List.flatten [ownerS r.val,
      [.one R.CG_EVT (cgB r.val g.val) 0, .one R.CG_STAT (cgB r.val g.val) 0, .one R.CG_URG_STAT (cgB r.val g.val) 0]]⟩
  | .urgentTrigger r g _ =>
    ⟨3, [.conv (some (grpKey r.val g.val))], [.one R.CG_EVT (cgB r.val g.val) 0, .one R.CG_URG_STAT (cgB r.val g.val) 0]⟩
  | .urgentSample r g _ _ =>
    ⟨3, [.conv (some (grpKey r.val g.val)), .flows none, .records], List.flatten [dropS,
      [.inBlock R.CG_TAPt_STAT (cgB r.val g.val), .one R.CG_EVT (cgB r.val g.val) 0, .one R.CG_INTEG_EVT (cgB r.val g.val) 0,
      .one R.CG_RESULT (cgB r.val g.val) 0]]⟩
  | .cgResultLowRead _ r g => ⟨3, [.answers, .conv (some (grpKey r.val g.val))], []⟩
  | .cgResultHighRead _ r g => ⟨3, [.answers, .conv (some (grpKey r.val g.val))], []⟩
  | .tapDeliver r g _ =>
    ⟨3, [.conv (some (grpKey r.val g.val)), .engines none, .fabs none, .flows none, .records, .rgn none],
      List.flatten [dropS, [.every R.LE_EVPEND, .every R.LE_INp_STAT]]⟩
  | .rotationPoint r g _ =>
    ⟨4, List.flatten [alarmP, [.conv (some (grpKey r.val g.val)), .wear]], List.flatten [degrS,
      [.inBlock R.CG_SVCs (cgB r.val g.val), .one R.CG_CAL_STAT (cgB r.val g.val) 0, .one R.CG_EVT (cgB r.val g.val) 0,
      .one R.CG_INTEG_EVT (cgB r.val g.val) 0, .one R.CG_ROT_CNT (cgB r.val g.val) 0, .one R.CG_ROT_STAT (cgB r.val g.val) 0,
      .one R.CG_SCAN (cgB r.val g.val) 0, .one R.CG_STAT (cgB r.val g.val) 0, .one R.CG_URG_STAT (cgB r.val g.val) 0,
      .one R.SETT_SPAREk 0 2, logS]]⟩
  | .shadowStart r g _ _ =>
    ⟨4, List.flatten [alarmP, [.conv (some (grpKey r.val g.val)), .wear]], List.flatten [degrS,
      [.inBlock R.CG_CALs (cgB r.val g.val), .inBlock R.CG_SVCs (cgB r.val g.val), .one R.CG_CAL_STAT (cgB r.val g.val) 0,
      .one R.CG_EVT (cgB r.val g.val) 0, .one R.CG_INTEG_EVT (cgB r.val g.val) 0, .one R.CG_ROT_STAT (cgB r.val g.val) 0,
      .one R.CG_SCAN (cgB r.val g.val) 0, .one R.CG_STAT (cgB r.val g.val) 0, .one R.CG_URG_STAT (cgB r.val g.val) 0,
      .one R.SETT_SPAREk 0 2, logS]]⟩
  | .estimatorBlock r g _ _ =>
    ⟨4, List.flatten [alarmP, [.conv (some (grpKey r.val g.val))]], [.inBlock R.CG_BWs (cgB r.val g.val),
      .inBlock R.CG_SKEWs (cgB r.val g.val), .one R.CG_EST_STAT (cgB r.val g.val) 0, .one R.CG_INTEG_EVT (cgB r.val g.val) 0,
      logS]⟩
  | .cgRotCtrlWrite _ r g _ =>
    ⟨4, [.rgn (some r.val)], List.flatten [ownerS r.val, [.one R.CG_INTEG_EVT (cgB r.val g.val) 0,
      .one R.CG_ROT_CTRL (cgB r.val g.val) 0, .one R.CG_ROT_STAT (cgB r.val g.val) 0]]⟩
  | .lowPowerHandover r g _ _ _ =>
    ⟨4, List.flatten [alarmP, [.conv (some (grpKey r.val g.val)), .wear]], List.flatten [degrS,
      [.inBlock R.CG_CALs (cgB r.val g.val), .inBlock R.CG_SVCs (cgB r.val g.val), .one R.CG_CAL_STAT (cgB r.val g.val) 0,
      .one R.CG_EVT (cgB r.val g.val) 0, .one R.CG_INTEG_EVT (cgB r.val g.val) 0, .one R.CG_ROT_CNT (cgB r.val g.val) 0,
      .one R.CG_ROT_STAT (cgB r.val g.val) 0, .one R.CG_SCAN (cgB r.val g.val) 0, .one R.CG_STAT (cgB r.val g.val) 0,
      .one R.CG_URG_STAT (cgB r.val g.val) 0, .one R.SETT_SPAREk 0 2, logS]]⟩
  | .comparatorCrossing r k m _ _ _ =>
    ⟨5, List.flatten [alarmP, [.ana none, .comp none, .flows none, .hub, .pgSub none, .pwm none, .rgn (some r.val),
      .safeHold]], List.flatten [dropS, safeS, [.every R.PG_CHcc_CNT, .every R.PG_CHcc_STAT, .every R.PG_EVT,
      .inBlock R.WC_CMPm_STAT (acB r.val k.val), .one R.LE_EVPEND (leB r.val) 0, .one R.WC_CMPm_CNT (acB r.val k.val) m.val,
      .one R.WC_STATUS (acB r.val k.val) 0, logS]]⟩
  | .rawDeassert r k m _ _ =>
    ⟨5, List.flatten [alarmP, [.ana none, .comp none, .flows none, .pgSub none, .pwm none, .rgn (some r.val), .safeHold]],
      List.flatten [dropS, safeS, [.every R.PG_CHcc_CNT, .every R.PG_CHcc_STAT, .every R.PG_EVT,
      .inBlock R.WC_CMPm_STAT (acB r.val k.val), .one R.LE_EVPEND (leB r.val) 0, .one R.WC_CMPm_CNT (acB r.val k.val) m.val,
      .one R.WC_STATUS (acB r.val k.val) 0, logS]]⟩
  | .latchClear _ r k m =>
    ⟨5, List.flatten [alarmP, [.ana none, .comp none, .flows none, .pgSub none, .pwm none, .rgn (some r.val), .safeHold]],
      List.flatten [ownerS r.val, dropS, safeS, [.every R.PG_CHcc_CNT, .every R.PG_CHcc_STAT, .every R.PG_EVT,
      .inBlock R.WC_CMPm_STAT (acB r.val k.val), .one R.LE_EVPEND (leB r.val) 0, .one R.WC_CMPm_CNT (acB r.val k.val) m.val,
      .one R.WC_STATUS (acB r.val k.val) 0, logS]]⟩
  | .clearPoint r _ =>
    ⟨5, List.flatten [alarmP, [.ana none, .comp none, .flows none, .pgSub none, .pwm none, .rgn (some r.val), .safeHold]],
      List.flatten [dropS, safeS, [.every R.PG_CHcc_CNT, .every R.PG_CHcc_STAT, .every R.PG_EVT, .every R.WC_CMPm_CNT,
      .every R.WC_CMPm_STAT, .every R.WC_STATUS, .one R.LE_EVPEND (leB r.val) 0, logS]]⟩
  | .blankingEnd r k m _ =>
    ⟨5, List.flatten [alarmP, [.ana none, .comp none, .flows none, .hub, .pgSub none, .pwm none, .rgn (some r.val),
      .safeHold]], List.flatten [dropS, safeS, [.every R.PG_CHcc_CNT, .every R.PG_CHcc_STAT, .every R.PG_EVT,
      .inBlock R.WC_CMPm_STAT (acB r.val k.val), .one R.LE_EVPEND (leB r.val) 0, .one R.WC_CMPm_CNT (acB r.val k.val) m.val,
      .one R.WC_STATUS (acB r.val k.val) 0, logS]]⟩
  | .wcCmpCfgWrite _ r k m _ =>
    ⟨5, List.flatten [alarmP, [.ana none, .comp none, .flows none, .pgSub none, .pwm none, .rgn (some r.val), .safeHold]],
      List.flatten [ownerS r.val, dropS, safeS, [.every R.PG_CHcc_CNT, .every R.PG_CHcc_STAT, .every R.PG_EVT,
      .inBlock R.WC_CMPm_STAT (acB r.val k.val), .one R.LE_EVPEND (leB r.val) 0, .one R.WC_CMPm_CFG (acB r.val k.val) m.val,
      .one R.WC_CMPm_CNT (acB r.val k.val) m.val, .one R.WC_STATUS (acB r.val k.val) 0, logS]]⟩
  | .wcCmpThrWrite _ r k m _ =>
    ⟨5, [.rgn (some r.val)], List.flatten [ownerS r.val, [.one R.WC_CMPm_THR (acB r.val k.val) m.val,
      .one R.WC_STATUS (acB r.val k.val) 0]]⟩
  | .wcRouteWrite _ r k m _ _ =>
    ⟨5, List.flatten [alarmP, [.ana none, .comp none, .flows none, .pgSub none, .pwm none, .rgn (some r.val), .safeHold]],
      List.flatten [ownerS r.val, dropS, safeS, [.every R.PG_CHcc_CNT, .every R.PG_CHcc_STAT, .every R.PG_EVT,
      .inBlock R.WC_CMPm_STAT (acB r.val k.val), .one R.LE_EVPEND (leB r.val) 0, .one R.WC_CMPm_CNT (acB r.val k.val) m.val,
      .one R.WC_CMPm_ROUTE (acB r.val k.val) m.val, .one R.WC_CMPm_TRIP (acB r.val k.val) m.val,
      .one R.WC_STATUS (acB r.val k.val) 0, logS]]⟩
  | .selfCheck _ r k _ =>
    ⟨5, [.comp (some ((r.val * 12) + k.val)), .rgn (some r.val)], List.flatten [ownerS r.val,
      [.one R.WC_CHK (acB r.val k.val) 0, .one R.WC_CHK_STAT (acB r.val k.val) 0, .one R.WC_SPARE_STAT (acB r.val k.val) 0,
      .one R.WC_STATUS (acB r.val k.val) 0]]⟩
  | .selfCheckStepEnd r k _ _ _ =>
    ⟨5, List.flatten [alarmP, [.ana none, .comp none, .flows none, .pgSub none, .pwm none, .rgn (some r.val), .safeHold,
      .wear]], List.flatten [dropS, safeS, degrS, [.every R.PG_CHcc_CNT, .every R.PG_CHcc_STAT, .every R.PG_EVT,
      .inBlock R.WC_CMPm_CNT (acB r.val k.val), .inBlock R.WC_CMPm_STAT (acB r.val k.val),
      .inBlock R.WC_CMPm_TRIM (acB r.val k.val), .one R.LE_EVPEND (leB r.val) 0, .one R.SETT_SPAREk 0 1,
      .one R.WC_CHK (acB r.val k.val) 0, .one R.WC_CHK_STAT (acB r.val k.val) 0, .one R.WC_SPARE_STAT (acB r.val k.val) 0,
      .one R.WC_STATUS (acB r.val k.val) 0, logS]]⟩
  | .comparatorSubstitution _ r k _ =>
    ⟨5, [.comp (some ((r.val * 12) + k.val)), .rgn (some r.val)], List.flatten [ownerS r.val,
      [.one R.WC_CHK (acB r.val k.val) 0, .one R.WC_CHK_STAT (acB r.val k.val) 0, .one R.WC_SPARE_STAT (acB r.val k.val) 0,
      .one R.WC_STATUS (acB r.val k.val) 0]]⟩
  | .periodicCheck r k =>
    ⟨5, [.comp (some ((r.val * 12) + k.val))], [.one R.WC_CHK_STAT (acB r.val k.val) 0,
      .one R.WC_SPARE_STAT (acB r.val k.val) 0]⟩
  | .periodStart r c _ =>
    ⟨6, [.ana none, .comp none, .pgSub (some r.val), .pwm (some (chKey r.val c.val))],
      [.one R.PG_CHcc_CNT (pgB r.val) c.val, .one R.PG_CHcc_DUTY (pgB r.val) c.val, .one R.PG_CHcc_ON (pgB r.val) c.val,
      .one R.PG_CHcc_STAT (pgB r.val) c.val, .one R.PG_EVT (pgB r.val) 0]⟩
  | .groupEpoch r g _ =>
    ⟨6, [.pgSub none, .pwm none, .slots (some (chKey r.val g.val))], [.one R.PG_GRPg_APPLIED (pgB r.val) g.val]⟩
  | .pgTrigger r c _ =>
    ⟨6, [.conv none, .fabs (some r.val), .pwm (some (chKey r.val c.val))], [.every R.CG_EVT, .every R.CG_URG_STAT]⟩
  | .pgGrpPerWrite _ r g _ =>
    ⟨6, [.rgn (some r.val)], List.flatten [ownerS r.val, [.one R.PG_GRPg_PER (pgB r.val) g.val,
      .one R.PG_STATUS (pgB r.val) 0]]⟩
  | .pgPhaseWrite _ r c _ =>
    ⟨6, [.rgn (some r.val)], List.flatten [ownerS r.val, [.one R.PG_CHcc_PHASE (pgB r.val) c.val,
      .one R.PG_STATUS (pgB r.val) 0]]⟩
  | .pgLimWrite _ r c _ =>
    ⟨6, [.rgn (some r.val)], List.flatten [ownerS r.val, [.one R.PG_CHcc_LIM (pgB r.val) c.val,
      .one R.PG_STATUS (pgB r.val) 0]]⟩
  | .groupEnable _ r g =>
    ⟨6, [.rgn (some r.val), .slots (some (chKey r.val g.val))], List.flatten [ownerS r.val,
      [.one R.PG_GRPg_CTRL (pgB r.val) g.val]]⟩
  | .groupDisable _ r g =>
    ⟨6, [.rgn (some r.val), .slots (some (chKey r.val g.val))], List.flatten [ownerS r.val,
      [.one R.PG_GRPg_CTRL (pgB r.val) g.val]]⟩
  | .channelEnable _ r c =>
    ⟨6, List.flatten [alarmP, [.ana none, .comp none, .pgSub none, .pwm none, .rgn (some r.val)]],
      List.flatten [ownerS r.val, [.one R.PG_CHcc_CFG (pgB r.val) c.val, .one R.PG_CHcc_CNT (pgB r.val) c.val,
      .one R.PG_CHcc_STAT (pgB r.val) c.val, .one R.PG_EVT (pgB r.val) 0, .one R.PG_STATUS (pgB r.val) 0, logS]]⟩
  | .channelDisable _ r c =>
    ⟨6, List.flatten [alarmP, [.ana none, .comp none, .pgSub none, .pwm none, .rgn (some r.val)]],
      List.flatten [ownerS r.val, [.one R.PG_CHcc_CFG (pgB r.val) c.val, .one R.PG_CHcc_CNT (pgB r.val) c.val,
      .one R.PG_CHcc_STAT (pgB r.val) c.val, .one R.PG_EVT (pgB r.val) 0, .one R.PG_STATUS (pgB r.val) 0, logS]]⟩
  | .dutyWrite _ r c _ _ =>
    ⟨6, [.pwm (some (chKey r.val c.val)), .rgn (some r.val)], List.flatten [ownerS r.val,
      [.one R.PG_CHcc_DUTY (pgB r.val) c.val, .one R.PG_STATUS (pgB r.val) 0]]⟩
  | .dutyTransfer r _ _ => ⟨6, [.engines (some r.val), .pwm none], [.every R.PG_CHcc_DUTY]⟩
  | .fabricDutyStrobe r _ _ _ => ⟨6, [.pwm none], [.inBlock R.PG_CHcc_DUTY (pgB r.val)]⟩
  | .dutyWatchdog r c =>
    ⟨6, List.flatten [alarmP, [.ana none, .comp none, .pgSub none, .pwm (some (chKey r.val c.val))]],
      [.one R.PG_CHcc_STAT (pgB r.val) c.val, .one R.PG_EVT (pgB r.val) 0, logS]⟩
  | .rel _ r _ _ => ⟨6, [.pwm none, .rgn (some r.val)], List.flatten [ownerS r.val, [.one R.PG_STATUS (pgB r.val) 0]]⟩
  | .pgSubstitution _ r _ =>
    ⟨6, List.flatten [alarmP, [.pgSub (some r.val), .rgn (some r.val), .wear]], List.flatten [ownerS r.val, degrS,
      [.inBlock R.PG_CHcc_STAT (pgB r.val), .one R.PG_SPARE_STAT (pgB r.val) 0, .one R.PG_SUB (pgB r.val) 0,
      .one R.PG_SUB_STAT (pgB r.val) 0, .one R.SETT_SPAREk 0 3, logS]]⟩
  | .pgSubstitutionStepEnd r _ _ =>
    ⟨6, List.flatten [alarmP, [.pgSub (some r.val), .wear]], List.flatten [degrS, [.inBlock R.PG_CHcc_STAT (pgB r.val),
      .one R.PG_EVT (pgB r.val) 0, .one R.PG_SPARE_STAT (pgB r.val) 0, .one R.PG_SUB (pgB r.val) 0,
      .one R.PG_SUB_STAT (pgB r.val) 0, .one R.SETT_SPAREk 0 3, logS]]⟩
  | .nop r => packetScope s r.val
  | .mul r => packetScope s r.val
  | .mula r => packetScope s r.val
  | .muls r => packetScope s r.val
  | .mul4 r => packetScope s r.val
  | .mula4 r => packetScope s r.val
  | .muls4 r => packetScope s r.val
  | .mul4b r => packetScope s r.val
  | .mula4b r => packetScope s r.val
  | .mular r => packetScope s r.val
  | .add r => packetScope s r.val
  | .sub r => packetScope s r.val
  | .addd r => packetScope s r.val
  | .subd r => packetScope s r.val
  | .mova r => packetScope s r.val
  | .movd r => packetScope s r.val
  | .rnd r => packetScope s r.val
  | .neg r => packetScope s r.val
  | .abs r => packetScope s r.val
  | .clr r => packetScope s r.val
  | .asl r => packetScope s r.val
  | .asr r => packetScope s r.val
  | .norm r => packetScope s r.val
  | .exp r => packetScope s r.val
  | .max r => packetScope s r.val
  | .min r => packetScope s r.val
  | .cmp r => packetScope s r.val
  | .lim r => packetScope s r.val
  | .dadd r => packetScope s r.val
  | .dsub r => packetScope s r.val
  | .dand r => packetScope s r.val
  | .dor r => packetScope s r.val
  | .dxor r => packetScope s r.val
  | .dmul r => packetScope s r.val
  | .dcmp r => packetScope s r.val
  | .ld r => packetScope s r.val
  | .st r => packetScope s r.val
  | .sta r => packetScope s r.val
  | .inPort r => packetScope s r.val
  | .outPort r => packetScope s r.val
  | .movs r => packetScope s r.val
  | .modp r => packetScope s r.val
  | .controlNop r => ⟨7, [.engines (some r.val)], [.one R.LE_CTRL (leB r.val) 0]⟩
  | .jmp r => ⟨7, [.engines (some r.val)], [.one R.LE_CTRL (leB r.val) 0]⟩
  | .jsr r => ⟨7, [.engines (some r.val)], [.one R.LE_CTRL (leB r.val) 0]⟩
  | .rts r => ⟨7, [.engines (some r.val)], [.one R.LE_CTRL (leB r.val) 0]⟩
  | .rte r => ⟨7, [.engines (some r.val)], [.one R.LE_CTRL (leB r.val) 0]⟩
  | .loop r => ⟨7, [.engines (some r.val)], [.one R.LE_CTRL (leB r.val) 0]⟩
  | .loopd r => ⟨7, [.engines (some r.val)], [.one R.LE_CTRL (leB r.val) 0]⟩
  | .breakLoop r => ⟨7, [.engines (some r.val)], [.one R.LE_CTRL (leB r.val) 0]⟩
  | .waitin r _ =>
    ⟨7, [.engines (some r.val)], [.inBlock R.LE_INp_STAT (leB r.val), .one R.LE_CTRL (leB r.val) 0,
      .one R.LE_EVT (leB r.val) 0]⟩
  | .wait r _ => ⟨7, [.engines (some r.val)], [.one R.LE_CTRL (leB r.val) 0]⟩
  | .evout r =>
    ⟨7, [.conv none, .engines (some r.val), .fabs (some r.val)], [.every R.CG_EVT, .every R.CG_URG_STAT,
      .one R.LE_CTRL (leB r.val) 0]⟩
  | .di r => ⟨7, [.engines (some r.val)], [.one R.LE_CTRL (leB r.val) 0]⟩
  | .ei r => ⟨7, [.engines (some r.val)], [.one R.LE_CTRL (leB r.val) 0]⟩
  | .rot r => ⟨7, [.engines (some r.val)], [.one R.LE_CTRL (leB r.val) 0]⟩
  | .halt r => ⟨7, [.engines (some r.val)], [.one R.LE_CTRL (leB r.val) 0, .one R.LE_EVT (leB r.val) 0]⟩
  | .cwr r _ => ⟨7, [.engines (some r.val)], [.one R.LE_CTRL (leB r.val) 0]⟩
  | .crd r => ⟨7, [.engines (some r.val)], [.one R.LE_CTRL (leB r.val) 0]⟩
  | .immD r => ⟨7, [.engines (some r.val)], [.one R.LE_CTRL (leB r.val) 0]⟩
  | .immP r => ⟨7, [.engines (some r.val)], [.one R.LE_CTRL (leB r.val) 0]⟩
  | .immM r => ⟨7, [.engines (some r.val)], [.one R.LE_CTRL (leB r.val) 0]⟩
  | .immL r => ⟨7, [.engines (some r.val)], [.one R.LE_CTRL (leB r.val) 0]⟩
  | .immB r => ⟨7, [.engines (some r.val)], [.one R.LE_CTRL (leB r.val) 0]⟩
  | .immSr r => ⟨7, [.engines (some r.val)], [.one R.LE_CTRL (leB r.val) 0]⟩
  | .immRofs r => ⟨7, [.engines (some r.val)], [.one R.LE_CTRL (leB r.val) 0]⟩
  | .illegalPacket r =>
    ⟨7, List.flatten [alarmP, [.engines (some r.val)]], [.one R.LE_CTRL (leB r.val) 0, .one R.LE_EVT (leB r.val) 0,
      .one R.LE_FAULT (leB r.val) 0, logS]⟩
  | .loopEnd r => ⟨7, [.engines (some r.val)], []⟩
  | .eventPending r _ => ⟨7, [.rgn (some r.val)], [.one R.LE_EVPEND (leB r.val) 0]⟩
  | .eventEntry r _ => ⟨7, [.engines (some r.val)], [.one R.LE_CTRL (leB r.val) 0, .one R.LE_EVPEND (leB r.val) 0]⟩
  | .leTimerExpire r => ⟨7, [.rgn (some r.val)], [.one R.LE_EVPEND (leB r.val) 0]⟩
  | .portTransfer _ =>
    ⟨7, [.engines none, .rgn none], [.every R.LE_EVPEND, .every R.LE_EVT, .every R.LE_INp_STAT, .every R.LE_OUTp_STAT]⟩
  | .waitinTimeout r =>
    ⟨7, [.engines (some r.val)], [.inBlock R.LE_INp_STAT (leB r.val), .one R.LE_CTRL (leB r.val) 0,
      .one R.LE_EVT (leB r.val) 0]⟩
  | .cwrComplete r => accessScope 7 [.engines (some r.val)] [] (cwrWords s r.val)
  | .crdComplete r _ => accessScope 7 [.engines (some r.val)] [.one R.LE_CTRL (leB r.val) 0] (crdWords s r.val)
  | .leRun _ r =>
    ⟨7, [.engines (some r.val), .rgn (some r.val)], List.flatten [ownerS r.val, [.one R.LE_CTRL (leB r.val) 0,
      .one R.LE_EVPEND (leB r.val) 0, .one R.LE_EVT (leB r.val) 0, .one R.LE_STAT (leB r.val) 0]]⟩
  | .leHaltRequest _ r =>
    ⟨7, [.engines (some r.val), .rgn (some r.val)], List.flatten [ownerS r.val, [.one R.LE_CTRL (leB r.val) 0,
      .one R.LE_EVPEND (leB r.val) 0, .one R.LE_EVT (leB r.val) 0, .one R.LE_STAT (leB r.val) 0]]⟩
  | .leStep _ r =>
    ⟨7, [.engines (some r.val), .rgn (some r.val)], List.flatten [ownerS r.val, [.one R.LE_CTRL (leB r.val) 0,
      .one R.LE_EVPEND (leB r.val) 0, .one R.LE_EVT (leB r.val) 0, .one R.LE_STAT (leB r.val) 0]]⟩
  | .erst _ r =>
    ⟨7, [.engines (some r.val), .rgn (some r.val)], List.flatten [ownerS r.val, [.one R.LE_CTRL (leB r.val) 0,
      .one R.LE_EVPEND (leB r.val) 0, .one R.LE_EVT (leB r.val) 0, .one R.LE_STAT (leB r.val) 0]]⟩
  | .programMemoryWrite _ r n _ =>
    ⟨7, [.frames, .lemem (some ((progAddr r.val n.val) + 4)), .lemem (some (progAddr r.val n.val)), .rgn (some r.val)],
      List.flatten [ownerS r.val, [.one R.LE_EVT (leB r.val) 0, .one R.LE_STAT (leB r.val) 0]]⟩
  | .xyHostWrite _ r y n _ _ =>
    ⟨7, [.rgn (some r.val), .lemem (some (xyAddr r.val y n.val))], List.flatten [ownerS r.val,
      [.one R.LE_EVT (leB r.val) 0]]⟩
  | .leWindowWrite _ r _ _ =>
    ⟨7, [.engines (some r.val), .rgn (some r.val)], List.flatten [ownerS r.val, [.one R.LE_EVT (leB r.val) 0,
      .one R.LE_STAT (leB r.val) 0]]⟩
  | .laneSubstitution _ r _ =>
    ⟨7, [.engines (some r.val), .rgn (some r.val)], List.flatten [ownerS r.val, [.one R.LE_SUB (leB r.val) 0,
      .one R.LE_SUB_STAT (leB r.val) 0]]⟩
  | .laneStepEnd r _ =>
    ⟨7, List.flatten [alarmP, [.engines (some r.val), .wear]], List.flatten [degrS, [.one R.LE_LANEMAP (leB r.val) 0,
      .one R.LE_SPARE_STAT (leB r.val) 0, .one R.LE_SUB (leB r.val) 0, .one R.LE_SUB_STAT (leB r.val) 0,
      .one R.SETT_SPAREk 0 4, logS]]⟩
  | .laneShadowMismatch r =>
    ⟨7, List.flatten [alarmP, [.engines (some r.val), .wear]], List.flatten [degrS, [.one R.LE_EVT (leB r.val) 0,
      .one R.LE_LANEMAP (leB r.val) 0, .one R.LE_SPARE_STAT (leB r.val) 0, .one R.LE_SUB (leB r.val) 0,
      .one R.LE_SUB_STAT (leB r.val) 0, .one R.SETT_SPAREk 0 4, logS]]⟩
  | .globalReset _ _ _ => ⟨8, [.fabs none], []⟩
  | .fabRstPulse _ r _ =>
    ⟨8, [.fabs (some r.val), .rgn (some r.val)], List.flatten [ownerS r.val, [.one R.FAB_EVT (fabB r.val) 0,
      .one R.FAB_STAT (fabB r.val) 0]]⟩
  | .runRequest r _ => ⟨8, [.fabs (some r.val), .rgn (some r.val)], []⟩
  | .fabricTrigger r _ => ⟨8, [.conv none, .fabs (some r.val)], [.every R.CG_EVT, .every R.CG_URG_STAT]⟩
  | .fabricSpoorStrobe _ _ _ => ⟨8, List.flatten [alarmP, [.flows none]], List.flatten [dropS, [logS]]⟩
  | .regionRegisterPort r off w => accessScope 0 [.answers] [] [portWord (rgnBase r.val + 4 * off.val) w]
  | .bmWrite r _ _ _ _ _ _ _ => ⟨8, [.fabs (some r.val)], []⟩
  | .bmRead r b _ _ _ _ _ =>
    ⟨8, List.flatten [alarmP, [.fabs (some r.val), .wear]], List.flatten [degrS, [.one R.FAB_BMb_STAT (fabB r.val) b.val,
      .one R.FAB_EVT (fabB r.val) 0, .one R.SETT_SPAREk 0 7, logS]]⟩
  | .copyPortAccess _ r _ _ =>
    ⟨8, List.flatten [alarmP, [.answers, .fabs (some r.val), .rgn (some r.val), .wear]], List.flatten [ownerS r.val, degrS,
      [.inBlock R.FAB_BMb_STAT (fabB r.val), .one R.FAB_EVT (fabB r.val) 0, .one R.FAB_STAT (fabB r.val) 0,
      .one R.SETT_SPAREk 0 7, logS]]⟩
  | .queueWrite _ _ _ =>
    ⟨8, [.engines none, .fabs none], [.every R.LE_EVT, .every R.LE_OUTp_STAT, .every R.QC_CNT, .every R.QC_EVT]⟩
  | .queueRead r q _ _ _ =>
    ⟨8, List.flatten [alarmP, [.engines none, .fabs (some r.val), .rgn none, .wear]], List.flatten [degrS,
      [.every R.LE_EVPEND, .every R.LE_INp_STAT, .one R.FAB_BMb_STAT (fabB r.val) q.val, .one R.FAB_EVT (fabB r.val) 0,
      .one R.SETT_SPAREk 0 7, logS]]⟩
  | .queuePop _ r q _ _ _ => accessScope 8 [.answers] [] [readS (R.QC_DATA.addr (fabB r.val) q.val)]
  | .queueFlush _ r _ =>
    ⟨8, [.fabs (some r.val), .rgn (some r.val)], List.flatten [ownerS r.val, [.one R.FAB_EVT (fabB r.val) 0,
      .one R.FAB_STAT (fabB r.val) 0]]⟩
  | .packetAbort r q => ⟨8, [.fabs (some r.val)], [.one R.QC_EVT (fabB r.val) q.val]⟩
  | .uregGroupRead _ r _ _ _ => ⟨8, [.answers, .fabs (some r.val), .held], [.inBlock R.FAB_UREGn (fabB r.val)]⟩
  | .captureStart _ r _ =>
    ⟨8, [.fabs (some r.val), .rgn (some r.val)], List.flatten [ownerS r.val, [.one R.FAB_CAP_CTRL (fabB r.val) 0,
      .one R.FAB_CAP_STAT (fabB r.val) 0, .one R.FAB_EVT (fabB r.val) 0, .one R.FAB_STAT (fabB r.val) 0]]⟩
  | .captureTrigger r _ _ _ _ => ⟨8, [.fabs (some r.val)], []⟩
  | .captureDone r _ _ =>
    ⟨8, [.fabs (some r.val)], [.one R.FAB_CAP_CTRL (fabB r.val) 0, .one R.FAB_CAP_STAT (fabB r.val) 0,
      .one R.FAB_CAP_TIME (fabB r.val) 0, .one R.FAB_EVT (fabB r.val) 0]⟩
  | .captureAbort _ r =>
    ⟨8, [.fabs (some r.val), .rgn (some r.val)], List.flatten [ownerS r.val, [.one R.FAB_CAP_CTRL (fabB r.val) 0,
      .one R.FAB_CAP_STAT (fabB r.val) 0, .one R.FAB_EVT (fabB r.val) 0, .one R.FAB_STAT (fabB r.val) 0]]⟩
  | .relocation _ r _ =>
    ⟨8, [.fabs (some r.val), .rgn (some r.val)], List.flatten [ownerS r.val, [.one R.FAB_EVT (fabB r.val) 0,
      .one R.FAB_RELOC (fabB r.val) 0, .one R.FAB_RELOC_STAT (fabB r.val) 0, .one R.FAB_STAT (fabB r.val) 0]]⟩
  | .relocationStepEnd r _ _ =>
    ⟨8, List.flatten [alarmP, [.fabs (some r.val), .frames, .wear]], List.flatten [degrS, [.every R.SETT_SPAREk,
      .inBlock R.FAB_BMb_STAT (fabB r.val), .inBlock R.FAB_SPMAPs (fabB r.val), .one R.FAB_EVT (fabB r.val) 0,
      .one R.FAB_RELOC (fabB r.val) 0, .one R.FAB_RELOC_STAT (fabB r.val) 0, .one R.FAB_SPARE_STAT (fabB r.val) 0, logS]]⟩
  | .blockSubstitution _ r _ =>
    ⟨8, [.fabs (some r.val), .rgn (some r.val)], List.flatten [ownerS r.val, [.one R.FAB_EVT (fabB r.val) 0,
      .one R.FAB_RELOC (fabB r.val) 0, .one R.FAB_RELOC_STAT (fabB r.val) 0, .one R.FAB_STAT (fabB r.val) 0]]⟩
  | .loadingStart _ _ =>
    ⟨9, List.flatten [alarmP, [.fabs none, .frames, .loading, .power, .safeHold, .wear]], List.flatten [regionFileS,
      [.file .sett, .one R.CFG_STAT 0 0, .one R.SEC_STAT 0 0]]⟩
  | .imageHeader _ _ _ =>
    ⟨9, [.fabs none, .frames, .loading, .partLoad, .power, .retention], [.one R.CFG_EVT 0 0, .one R.CFG_PR_CMD 0 0,
      .one R.CFG_PR_STAT 0 0, .one R.CFG_STAT 0 0, .one R.SEC_EVT 0 0, .one R.SEC_FENCE_CMD 0 0, logS]⟩
  | .frameRecord _ _ =>
    ⟨9, [.fabs none, .frames, .loading, .partLoad, .power, .retention], [.one R.CFG_EVT 0 0, .one R.CFG_PR_CMD 0 0,
      .one R.CFG_PR_STAT 0 0, .one R.CFG_STAT 0 0, .one R.SEC_EVT 0 0, .one R.SEC_FENCE_CMD 0 0, logS]⟩
  | .attemptTimeout =>
    ⟨9, [.frames, .loading, .power, .retention], [.one R.CFG_PR_CMD 0 0, .one R.CFG_STAT 0 0, .one R.SEC_EVT 0 0, logS]⟩
  | .signatureVerified _ =>
    ⟨9, [.fabs none, .frames, .loading, .power, .retention], [.one R.CFG_PR_CMD 0 0, .one R.CFG_STAT 0 0,
      .one R.SEC_EVT 0 0, logS]⟩
  | .verifyDone _ =>
    ⟨9, List.flatten [alarmP, [.admission, .ana none, .balls, .comp none, .conv none, .engines none, .fabs none,
      .flows none, .frames, .held, .herdNode, .herdPort none, .img, .lemem none, .loading, .mirror, .pgSub none, .power,
      .pwm none, .rgn none, .safeHold, .slots none, .staged, .wear]], List.flatten [dieS, [.file .sett]]⟩
  | .cfgLoadFlash _ =>
    ⟨9, [.frames, .loading, .partLoad], [.one R.CFG_EVT 0 0, .one R.CFG_PR_CMD 0 0, .one R.CFG_PR_STAT 0 0,
      .one R.CFG_STAT 0 0]⟩
  | .cfgLoadHostDma _ =>
    ⟨9, [.frames, .loading, .partLoad], [.one R.CFG_EVT 0 0, .one R.CFG_PR_CMD 0 0, .one R.CFG_PR_STAT 0 0,
      .one R.CFG_STAT 0 0]⟩
  | .cfgLoadFifo _ =>
    ⟨9, [.frames, .loading, .partLoad], [.one R.CFG_EVT 0 0, .one R.CFG_PR_CMD 0 0, .one R.CFG_PR_STAT 0 0,
      .one R.CFG_STAT 0 0]⟩
  | .cfgFifoWrite _ _ =>
    ⟨9, [.frames, .loading, .partLoad, .power, .retention], [.one R.CFG_EVT 0 0, .one R.CFG_FIFO_STAT 0 0,
      .one R.CFG_PR_CMD 0 0, .one R.CFG_PR_STAT 0 0, .one R.CFG_STAT 0 0, .one R.SEC_EVT 0 0, .one R.SEC_FENCE_CMD 0 0,
      logS]⟩
  | .prStageDone =>
    ⟨9, [.partLoad], [.one R.CFG_EVT 0 0, .one R.CFG_PR_CMD 0 0, .one R.CFG_PR_STAT 0 0, .one R.SEC_EVT 0 0,
      .one R.SEC_FENCE_CMD 0 0]⟩
  | .prAuthDone _ =>
    ⟨9, [.fabs none, .loading, .partLoad], [.one R.CFG_EVT 0 0, .one R.CFG_PR_CMD 0 0, .one R.CFG_PR_STAT 0 0,
      .one R.SEC_EVT 0 0, .one R.SEC_FENCE_CMD 0 0]⟩
  | .prWaitEnd => ⟨9, [.frames, .partLoad], [.every R.CG_ROT_STAT, .one R.CFG_PR_STAT 0 0]⟩
  | .prVerifyDone _ =>
    ⟨9, List.flatten [alarmP, [.ana none, .comp none, .conv none, .engines none, .fabs none, .flows none, .frames, .held,
      .img, .lemem none, .partLoad, .pgSub none, .pwm none, .rgn none, .safeHold, .slots none, .staged, .wear]],
      List.flatten [regionFileS, dropS, safeS, degrS, [.every R.SETT_SPAREk, .one R.CFG_EVT 0 0, .one R.CFG_PR_CMD 0 0,
      .one R.CFG_PR_STAT 0 0, .one R.SEC_EVT 0 0, .one R.SEC_FENCE_CMD 0 0, logS]]⟩
  | .scrubFrame _ _ _ _ =>
    ⟨9, List.flatten [alarmP, [.ana none, .comp none, .frames, .partLoad, .pgSub none, .safeHold]], List.flatten [safeS,
      [.one R.CFG_EVT 0 0, .one R.CFG_SCRUB_CNT 0 0, .one R.CFG_SCRUB_LAST 0 0, logS]]⟩
  | .scrubReloadDone _ => ⟨9, List.flatten [alarmP, [.frames]], [.one R.CFG_EVT 0 0, logS]⟩
  | .portLoadFlash _ _ => ⟨9, [.partLoad], [.one R.CFG_EVT 0 0, .one R.CFG_PR_STAT 0 0]⟩
  | .portLoadQueue _ _ => ⟨9, [.partLoad], [.one R.CFG_EVT 0 0, .one R.CFG_PR_STAT 0 0]⟩
  | .portAbort _ => ⟨9, [.partLoad], [.one R.CFG_PR_CMD 0 0, .one R.CFG_PR_STAT 0 0, .one R.SEC_FENCE_CMD 0 0]⟩
  | .fencedLoad _ =>
    ⟨9, [.partLoad], [.one R.CFG_EVT 0 0, .one R.CFG_PR_STAT 0 0, .one R.SEC_EVT 0 0, .one R.SEC_FENCE_CMD 0 0]⟩
  | .commitRollback _ _ _ => ⟨9, [.jobs], [.one R.SEC_EVT 0 0, .one R.SEC_OTP_CMD 0 0, .one R.SEC_OTP_STAT 0 0]⟩
  | .revokeSlot _ _ _ => ⟨9, [.jobs], [.one R.SEC_EVT 0 0, .one R.SEC_OTP_CMD 0 0, .one R.SEC_OTP_STAT 0 0]⟩
  | .blowConsent _ _ => ⟨9, [.jobs], [.one R.SEC_EVT 0 0, .one R.SEC_OTP_CMD 0 0, .one R.SEC_OTP_STAT 0 0]⟩
  | .otpCommandDone _ _ =>
    ⟨9, [.otp], [.one R.SEC_EVT 0 0, .one R.SEC_OTP_CMD 0 0, .one R.SEC_OTP_STAT 0 0, .one R.SEC_SLOTS 0 0,
      .one R.SEC_STAT 0 0]⟩
  | .flashRead _ _ => ⟨9, [.jobs], [.one R.CFG_EVT 0 0, .one R.CFG_FL_CMD 0 0]⟩
  | .flashProgram _ _ => ⟨9, [.jobs], [.one R.CFG_EVT 0 0, .one R.CFG_FL_CMD 0 0]⟩
  | .flashErase _ => ⟨9, [.jobs], [.one R.CFG_EVT 0 0, .one R.CFG_FL_CMD 0 0]⟩
  | .flashCommandDone _ _ =>
    ⟨9, List.flatten [alarmP, [.jobs, .wear]], [.inBlock R.CFG_FL_BUF 0, .one R.CFG_FL_CMD 0 0, .one R.SETT_CMD 0 0,
      .one R.SETT_CMD_STAT 0 0, .one R.SETT_EVT 0 0, logS]⟩
  | .recordEmit _ => ⟨10, [.flows none, .records], dropS⟩
  | .tokenGrant _ _ _ => ⟨10, [.records], []⟩
  | .funnelHop _ _ =>
    ⟨10, List.flatten [alarmP, [.delivery, .energy, .flows none, .herdNode, .herdPort none, .hostWrites, .postings none]],
      List.flatten [dropS, [.inBlock R.PMAP_SUSPw 0, .one R.PMAP_EVT 0 0, .one R.PMAP_FLT_ADDR 0 0, .one R.PMAP_FLT_INFO 0 0,
      .one R.PMAP_FLT_TIME 0 0, .one R.PMAP_STAT 0 0, .one R.PMAP_WALKS 0 0, .one R.SETT_ACC_STAT 0 0, .one R.SPR_CAP 0 0,
      .one R.SPR_STAT 0 0, .one R.SPR_USE_DIE0 0 0, .one R.SPR_USE_DIE1 0 0, .one R.SPR_USE_HOST 0 0,
      .one R.SPR_USE_POOL 0 0, logS]]⟩
  | .alarmRaise _ _ _ => ⟨10, alarmP, [logS]⟩
  | .deadlineMiss flow =>
    ⟨10, List.flatten [alarmP, [.flows (some flow.val), .hostWrites]], [.one R.SPR_EVT 0 0, .one R.SPR_MISS_LAST 0 0,
      logS]⟩
  | .openFlow _ =>
    ⟨10, List.flatten [alarmP, [.delivery, .flows none, .hostWrites, .postings none]], List.flatten [dropS,
      [.inBlock R.PMAP_SUSPw 0, .one R.PMAP_EVT 0 0, .one R.PMAP_FLT_ADDR 0 0, .one R.PMAP_FLT_INFO 0 0,
      .one R.PMAP_FLT_TIME 0 0, .one R.PMAP_STAT 0 0, .one R.SPR_ALARM_CNT 0 0, .one R.SPR_CAP 0 0, .one R.SPR_CMD 0 0,
      .one R.SPR_CMD_STAT 0 0, .one R.SPR_DESC0 0 0, .one R.SPR_DESC1 0 0, .one R.SPR_DESC2 0 0, .one R.SPR_FCNT0 0 0,
      .one R.SPR_FCNT1 0 0, .one R.SPR_FSTAT 0 0, .one R.SPR_STAT 0 0, .one R.SPR_USE_DIE0 0 0, .one R.SPR_USE_DIE1 0 0,
      .one R.SPR_USE_HOST 0 0, .one R.SPR_USE_POOL 0 0, logS]]⟩
  | .closeFlow _ =>
    ⟨10, List.flatten [alarmP, [.delivery, .flows none, .hostWrites, .postings none]], List.flatten [dropS,
      [.inBlock R.PMAP_SUSPw 0, .one R.PMAP_EVT 0 0, .one R.PMAP_FLT_ADDR 0 0, .one R.PMAP_FLT_INFO 0 0,
      .one R.PMAP_FLT_TIME 0 0, .one R.PMAP_STAT 0 0, .one R.SPR_ALARM_CNT 0 0, .one R.SPR_CAP 0 0, .one R.SPR_CMD 0 0,
      .one R.SPR_CMD_STAT 0 0, .one R.SPR_DESC0 0 0, .one R.SPR_DESC1 0 0, .one R.SPR_DESC2 0 0, .one R.SPR_FCNT0 0 0,
      .one R.SPR_FCNT1 0 0, .one R.SPR_FSTAT 0 0, .one R.SPR_STAT 0 0, .one R.SPR_USE_DIE0 0 0, .one R.SPR_USE_DIE1 0 0,
      .one R.SPR_USE_HOST 0 0, .one R.SPR_USE_POOL 0 0, logS]]⟩
  | .queryFlow _ =>
    ⟨10, List.flatten [alarmP, [.delivery, .flows none, .hostWrites, .postings none]], List.flatten [dropS,
      [.inBlock R.PMAP_SUSPw 0, .one R.PMAP_EVT 0 0, .one R.PMAP_FLT_ADDR 0 0, .one R.PMAP_FLT_INFO 0 0,
      .one R.PMAP_FLT_TIME 0 0, .one R.PMAP_STAT 0 0, .one R.SPR_ALARM_CNT 0 0, .one R.SPR_CAP 0 0, .one R.SPR_CMD 0 0,
      .one R.SPR_CMD_STAT 0 0, .one R.SPR_DESC0 0 0, .one R.SPR_DESC1 0 0, .one R.SPR_DESC2 0 0, .one R.SPR_FCNT0 0 0,
      .one R.SPR_FCNT1 0 0, .one R.SPR_FSTAT 0 0, .one R.SPR_STAT 0 0, .one R.SPR_USE_DIE0 0 0, .one R.SPR_USE_DIE1 0 0,
      .one R.SPR_USE_HOST 0 0, .one R.SPR_USE_POOL 0 0, logS]]⟩
  | .readmitFlow _ =>
    ⟨10, List.flatten [alarmP, [.delivery, .flows none, .hostWrites, .postings none]], List.flatten [dropS,
      [.inBlock R.PMAP_SUSPw 0, .one R.PMAP_EVT 0 0, .one R.PMAP_FLT_ADDR 0 0, .one R.PMAP_FLT_INFO 0 0,
      .one R.PMAP_FLT_TIME 0 0, .one R.PMAP_STAT 0 0, .one R.SPR_ALARM_CNT 0 0, .one R.SPR_CAP 0 0, .one R.SPR_CMD 0 0,
      .one R.SPR_CMD_STAT 0 0, .one R.SPR_DESC0 0 0, .one R.SPR_DESC1 0 0, .one R.SPR_DESC2 0 0, .one R.SPR_FCNT0 0 0,
      .one R.SPR_FCNT1 0 0, .one R.SPR_FSTAT 0 0, .one R.SPR_STAT 0 0, .one R.SPR_USE_DIE0 0 0, .one R.SPR_USE_DIE1 0 0,
      .one R.SPR_USE_HOST 0 0, .one R.SPR_USE_POOL 0 0, logS]]⟩
  | .creditStall _ =>
    ⟨10, List.flatten [alarmP, [.admission, .flows none, .hostWrites]], List.flatten [dropS, [.one R.SPR_CAP 0 0,
      .one R.SPR_STAT 0 0, .one R.SPR_USE_DIE0 0 0, .one R.SPR_USE_DIE1 0 0, .one R.SPR_USE_HOST 0 0,
      .one R.SPR_USE_POOL 0 0, logS]]⟩
  | .admissionRerun _ =>
    ⟨10, List.flatten [alarmP, [.admission, .flows none, .hostWrites]], List.flatten [dropS, [.one R.SPR_CAP 0 0,
      .one R.SPR_STAT 0 0, .one R.SPR_USE_DIE0 0 0, .one R.SPR_USE_DIE1 0 0, .one R.SPR_USE_HOST 0 0,
      .one R.SPR_USE_POOL 0 0, logS]]⟩
  | .admissionStart =>
    ⟨10, List.flatten [alarmP, [.admission, .flows none, .hostWrites]], List.flatten [dropS, [.one R.SPR_CAP 0 0,
      .one R.SPR_STAT 0 0, .one R.SPR_USE_DIE0 0 0, .one R.SPR_USE_DIE1 0 0, .one R.SPR_USE_HOST 0 0,
      .one R.SPR_USE_POOL 0 0, logS]]⟩
  | .postRecord _ =>
    ⟨11, List.flatten [alarmP, [.delivery, .flows none, .hostWrites, .postings none]], List.flatten [dropS,
      [.inBlock R.PMAP_SUSPw 0, .one R.PMAP_EVT 0 0, .one R.PMAP_FLT_ADDR 0 0, .one R.PMAP_FLT_INFO 0 0,
      .one R.PMAP_FLT_TIME 0 0, .one R.PMAP_STAT 0 0, .one R.PMAP_WALKS 0 0, .one R.SPR_ALARM_CNT 0 0, .one R.SPR_CAP 0 0,
      .one R.SPR_STAT 0 0, .one R.SPR_USE_DIE0 0 0, .one R.SPR_USE_DIE1 0 0, .one R.SPR_USE_HOST 0 0,
      .one R.SPR_USE_POOL 0 0, logS]]⟩
  | .mapReadCompletion _ _ =>
    ⟨11, List.flatten [alarmP, [.delivery, .flows none, .hostWrites, .postings none]], List.flatten [dropS,
      [.inBlock R.PMAP_SUSPw 0, .one R.PMAP_EVT 0 0, .one R.PMAP_FLT_ADDR 0 0, .one R.PMAP_FLT_INFO 0 0,
      .one R.PMAP_FLT_TIME 0 0, .one R.PMAP_STAT 0 0, .one R.PMAP_WALK_MAX 0 0, .one R.SPR_ALARM_CNT 0 0, .one R.SPR_CAP 0 0,
      .one R.SPR_STAT 0 0, .one R.SPR_USE_DIE0 0 0, .one R.SPR_USE_DIE1 0 0, .one R.SPR_USE_HOST 0 0,
      .one R.SPR_USE_POOL 0 0, logS]]⟩
  | .accessTimeout _ _ =>
    ⟨11, List.flatten [alarmP, [.admission, .delivery, .flows none, .hostWrites, .postings none]], List.flatten [dropS,
      [.inBlock R.PMAP_SUSPw 0, .one R.PMAP_CMD 0 0, .one R.PMAP_CMD_STAT 0 0, .one R.PMAP_EVT 0 0, .one R.PMAP_FLT_ADDR 0 0,
      .one R.PMAP_FLT_INFO 0 0, .one R.PMAP_FLT_TIME 0 0, .one R.PMAP_STAT 0 0, .one R.PMAP_WALKS 0 0,
      .one R.SPR_ALARM_CNT 0 0, .one R.SPR_CAP 0 0, .one R.SPR_STAT 0 0, .one R.SPR_USE_DIE0 0 0, .one R.SPR_USE_DIE1 0 0,
      .one R.SPR_USE_HOST 0 0, .one R.SPR_USE_POOL 0 0, logS]]⟩
  | .mapRefresh _ =>
    ⟨11, List.flatten [alarmP, [.delivery, .flows none, .hostWrites, .postings none]], List.flatten [dropS,
      [.inBlock R.PMAP_SUSPw 0, .one R.PMAP_EVT 0 0, .one R.PMAP_FLT_ADDR 0 0, .one R.PMAP_FLT_INFO 0 0,
      .one R.PMAP_FLT_TIME 0 0, .one R.PMAP_STAT 0 0, .one R.PMAP_WALKS 0 0, .one R.SPR_CAP 0 0, .one R.SPR_STAT 0 0,
      .one R.SPR_USE_DIE0 0 0, .one R.SPR_USE_DIE1 0 0, .one R.SPR_USE_HOST 0 0, .one R.SPR_USE_POOL 0 0, logS]]⟩
  | .invFlow _ =>
    ⟨11, List.flatten [alarmP, [.admission, .delivery, .flows none, .hostWrites, .postings none]], List.flatten [dropS,
      [.inBlock R.PMAP_SUSPw 0, .one R.PMAP_CMD 0 0, .one R.PMAP_CMD_STAT 0 0, .one R.PMAP_EVT 0 0, .one R.PMAP_FLT_ADDR 0 0,
      .one R.PMAP_FLT_INFO 0 0, .one R.PMAP_FLT_TIME 0 0, .one R.PMAP_STAT 0 0, .one R.PMAP_WALKS 0 0,
      .one R.SPR_ALARM_CNT 0 0, .one R.SPR_CAP 0 0, .one R.SPR_STAT 0 0, .one R.SPR_USE_DIE0 0 0, .one R.SPR_USE_DIE1 0 0,
      .one R.SPR_USE_HOST 0 0, .one R.SPR_USE_POOL 0 0, logS]]⟩
  | .invRoot _ =>
    ⟨11, List.flatten [alarmP, [.admission, .delivery, .flows none, .hostWrites, .postings none]], List.flatten [dropS,
      [.inBlock R.PMAP_SUSPw 0, .one R.PMAP_CMD 0 0, .one R.PMAP_CMD_STAT 0 0, .one R.PMAP_EVT 0 0, .one R.PMAP_FLT_ADDR 0 0,
      .one R.PMAP_FLT_INFO 0 0, .one R.PMAP_FLT_TIME 0 0, .one R.PMAP_STAT 0 0, .one R.PMAP_WALKS 0 0,
      .one R.SPR_ALARM_CNT 0 0, .one R.SPR_CAP 0 0, .one R.SPR_STAT 0 0, .one R.SPR_USE_DIE0 0 0, .one R.SPR_USE_DIE1 0 0,
      .one R.SPR_USE_HOST 0 0, .one R.SPR_USE_POOL 0 0, logS]]⟩
  | .invAll =>
    ⟨11, List.flatten [alarmP, [.admission, .delivery, .flows none, .hostWrites, .postings none]], List.flatten [dropS,
      [.inBlock R.PMAP_SUSPw 0, .one R.PMAP_CMD 0 0, .one R.PMAP_CMD_STAT 0 0, .one R.PMAP_EVT 0 0, .one R.PMAP_FLT_ADDR 0 0,
      .one R.PMAP_FLT_INFO 0 0, .one R.PMAP_FLT_TIME 0 0, .one R.PMAP_STAT 0 0, .one R.PMAP_WALKS 0 0,
      .one R.SPR_ALARM_CNT 0 0, .one R.SPR_CAP 0 0, .one R.SPR_STAT 0 0, .one R.SPR_USE_DIE0 0 0, .one R.SPR_USE_DIE1 0 0,
      .one R.SPR_USE_HOST 0 0, .one R.SPR_USE_POOL 0 0, logS]]⟩
  | .invalidationDone => ⟨11, [.delivery], [.one R.PMAP_CMD 0 0, .one R.PMAP_CMD_STAT 0 0, .one R.PMAP_EVT 0 0]⟩
  | .failover =>
    ⟨11, List.flatten [alarmP, [.admission, .delivery, .flows none, .hostWrites, .postings none]], List.flatten [dropS,
      [.inBlock R.PMAP_SUSPw 0, .one R.PMAP_CMD 0 0, .one R.PMAP_CMD_STAT 0 0, .one R.PMAP_EVT 0 0, .one R.PMAP_FLT_ADDR 0 0,
      .one R.PMAP_FLT_INFO 0 0, .one R.PMAP_FLT_TIME 0 0, .one R.PMAP_STAT 0 0, .one R.PMAP_WALKS 0 0,
      .one R.SPR_ALARM_CNT 0 0, .one R.SPR_CAP 0 0, .one R.SPR_STAT 0 0, .one R.SPR_USE_DIE0 0 0, .one R.SPR_USE_DIE1 0 0,
      .one R.SPR_USE_HOST 0 0, .one R.SPR_USE_POOL 0 0, logS]]⟩
  | .failback =>
    ⟨11, List.flatten [alarmP, [.admission, .delivery, .flows none, .hostWrites, .postings none]], List.flatten [dropS,
      [.inBlock R.PMAP_SUSPw 0, .one R.PMAP_CMD 0 0, .one R.PMAP_CMD_STAT 0 0, .one R.PMAP_EVT 0 0, .one R.PMAP_FLT_ADDR 0 0,
      .one R.PMAP_FLT_INFO 0 0, .one R.PMAP_FLT_TIME 0 0, .one R.PMAP_STAT 0 0, .one R.PMAP_WALKS 0 0,
      .one R.SPR_ALARM_CNT 0 0, .one R.SPR_CAP 0 0, .one R.SPR_STAT 0 0, .one R.SPR_USE_DIE0 0 0, .one R.SPR_USE_DIE1 0 0,
      .one R.SPR_USE_HOST 0 0, .one R.SPR_USE_POOL 0 0, logS]]⟩
  | .pmapRootWrite _ _ =>
    ⟨11, List.flatten [alarmP, [.admission, .delivery, .flows none, .hostWrites, .postings none]], List.flatten [dropS,
      [.inBlock R.PMAP_SUSPw 0, .one R.PMAP_EVT 0 0, .one R.PMAP_FLT_ADDR 0 0, .one R.PMAP_FLT_INFO 0 0,
      .one R.PMAP_FLT_TIME 0 0, .one R.PMAP_ROOT_A 0 0, .one R.PMAP_ROOT_B 0 0, .one R.PMAP_STAT 0 0, .one R.PMAP_WALKS 0 0,
      .one R.SPR_ALARM_CNT 0 0, .one R.SPR_CAP 0 0, .one R.SPR_STAT 0 0, .one R.SPR_USE_DIE0 0 0, .one R.SPR_USE_DIE1 0 0,
      .one R.SPR_USE_HOST 0 0, .one R.SPR_USE_POOL 0 0, logS]]⟩
  | .pmapCmdStatRead _ => ⟨11, [.answers], []⟩
  | .atsInvalidation _ _ _ => ⟨11, [.delivery], []⟩
  | .holdLimitExpire _ =>
    ⟨11, List.flatten [alarmP, [.flows none, .hostWrites, .postings none]], List.flatten [dropS, [.inBlock R.PMAP_SUSPw 0,
      .one R.PMAP_EVT 0 0, .one R.PMAP_STAT 0 0, .one R.SPR_CAP 0 0, .one R.SPR_STAT 0 0, .one R.SPR_USE_DIE0 0 0,
      .one R.SPR_USE_DIE1 0 0, .one R.SPR_USE_HOST 0 0, .one R.SPR_USE_POOL 0 0, logS]]⟩
  | .wpWrite _ =>
    ⟨11, List.flatten [alarmP, [.admission, .delivery, .flows none, .hostWrites, .postings none]], List.flatten [dropS,
      [.inBlock R.PMAP_SUSPw 0, .one R.PMAP_CMD 0 0, .one R.PMAP_CMD_STAT 0 0, .one R.PMAP_EVT 0 0, .one R.PMAP_FLT_ADDR 0 0,
      .one R.PMAP_FLT_INFO 0 0, .one R.PMAP_FLT_TIME 0 0, .one R.PMAP_STAT 0 0, .one R.PMAP_WALKS 0 0,
      .one R.SPR_ALARM_CNT 0 0, .one R.SPR_CAP 0 0, .one R.SPR_STAT 0 0, .one R.SPR_USE_DIE0 0 0, .one R.SPR_USE_DIE1 0 0,
      .one R.SPR_USE_HOST 0 0, .one R.SPR_USE_POOL 0 0, logS]]⟩
  | .intModExpire flow => ⟨11, [.postings (some flow.val)], []⟩
  | .rpRead _ =>
    ⟨11, List.flatten [alarmP, [.delivery, .flows none, .hostWrites, .postings none]], List.flatten [dropS,
      [.inBlock R.PMAP_SUSPw 0, .one R.PMAP_EVT 0 0, .one R.PMAP_FLT_ADDR 0 0, .one R.PMAP_FLT_INFO 0 0,
      .one R.PMAP_FLT_TIME 0 0, .one R.PMAP_STAT 0 0, .one R.SPR_CAP 0 0, .one R.SPR_STAT 0 0, .one R.SPR_USE_DIE0 0 0,
      .one R.SPR_USE_DIE1 0 0, .one R.SPR_USE_HOST 0 0, .one R.SPR_USE_POOL 0 0, logS]]⟩
  | .goReceived _ _ =>
    ⟨11, List.flatten [alarmP, [.admission, .delivery, .flows none, .hostWrites, .postings none]], List.flatten [dropS,
      [.inBlock R.PMAP_SUSPw 0, .one R.PMAP_CMD 0 0, .one R.PMAP_CMD_STAT 0 0, .one R.PMAP_EVT 0 0, .one R.PMAP_FLT_ADDR 0 0,
      .one R.PMAP_FLT_INFO 0 0, .one R.PMAP_FLT_TIME 0 0, .one R.PMAP_STAT 0 0, .one R.PMAP_WALKS 0 0,
      .one R.SPR_ALARM_CNT 0 0, .one R.SPR_CAP 0 0, .one R.SPR_STAT 0 0, .one R.SPR_USE_DIE0 0 0, .one R.SPR_USE_DIE1 0 0,
      .one R.SPR_USE_HOST 0 0, .one R.SPR_USE_POOL 0 0, logS]]⟩
  | .postingFailover _ =>
    ⟨11, List.flatten [alarmP, [.admission, .delivery, .flows none, .hostWrites, .postings none]], List.flatten [dropS,
      [.inBlock R.PMAP_SUSPw 0, .one R.PMAP_CMD 0 0, .one R.PMAP_CMD_STAT 0 0, .one R.PMAP_EVT 0 0, .one R.PMAP_FLT_ADDR 0 0,
      .one R.PMAP_FLT_INFO 0 0, .one R.PMAP_FLT_TIME 0 0, .one R.PMAP_STAT 0 0, .one R.PMAP_WALKS 0 0,
      .one R.SPR_ALARM_CNT 0 0, .one R.SPR_CAP 0 0, .one R.SPR_STAT 0 0, .one R.SPR_USE_DIE0 0 0, .one R.SPR_USE_DIE1 0 0,
      .one R.SPR_USE_HOST 0 0, .one R.SPR_USE_POOL 0 0, logS]]⟩
  | .autoFailback =>
    ⟨11, List.flatten [alarmP, [.admission, .delivery, .flows none, .hostWrites, .postings none]], List.flatten [dropS,
      [.inBlock R.PMAP_SUSPw 0, .one R.PMAP_EVT 0 0, .one R.PMAP_FLT_ADDR 0 0, .one R.PMAP_FLT_INFO 0 0,
      .one R.PMAP_FLT_TIME 0 0, .one R.PMAP_STAT 0 0, .one R.PMAP_WALKS 0 0, .one R.SPR_ALARM_CNT 0 0, .one R.SPR_CAP 0 0,
      .one R.SPR_STAT 0 0, .one R.SPR_USE_DIE0 0 0, .one R.SPR_USE_DIE1 0 0, .one R.SPR_USE_HOST 0 0,
      .one R.SPR_USE_POOL 0 0, logS]]⟩
  | .noPort =>
    ⟨11, List.flatten [alarmP, [.admission, .delivery, .flows none, .hostWrites, .postings none]], List.flatten [dropS,
      [.inBlock R.PMAP_SUSPw 0, .one R.PMAP_CMD 0 0, .one R.PMAP_CMD_STAT 0 0, .one R.PMAP_EVT 0 0, .one R.PMAP_FLT_ADDR 0 0,
      .one R.PMAP_FLT_INFO 0 0, .one R.PMAP_FLT_TIME 0 0, .one R.PMAP_STAT 0 0, .one R.PMAP_WALKS 0 0,
      .one R.SPR_ALARM_CNT 0 0, .one R.SPR_CAP 0 0, .one R.SPR_STAT 0 0, .one R.SPR_USE_DIE0 0 0, .one R.SPR_USE_DIE1 0 0,
      .one R.SPR_USE_HOST 0 0, .one R.SPR_USE_POOL 0 0, logS]]⟩
  | .snoop _ => ⟨11, [], []⟩
  | .linkUp p => ⟨12, [.herdPort (some p.val)], [.one R.HERD_Pp_STAT 0 p.val, .one R.HERD_STAT 0 0]⟩
  | .beaconTimer => ⟨12, [.herdPort none], []⟩
  | .beacon p _ _ _ _ _ =>
    ⟨12, [.herdNode, .herdPort none], [.one R.HERD_Pp_CNT 0 p.val, .one R.HERD_Pp_STAT 0 p.val, .one R.HERD_STAT 0 0,
      .one R.HERD_TOPO 0 0]⟩
  | .syncTimer => ⟨12, [.herdPort none], []⟩
  | .sync p _ _ _ _ =>
    ⟨12, List.flatten [alarmP, [.herdPort none, .hub]], [.one R.HERD_EVT 0 0, .one R.HERD_Pp_CNT 0 p.val, logS]⟩
  | .dreq p _ _ => ⟨12, [.herdPort none], [.one R.HERD_Pp_CNT 0 p.val]⟩
  | .dresp p _ _ _ =>
    ⟨12, List.flatten [alarmP, [.herdNode, .herdPort none]], [.one R.HERD_EVT 0 0, .one R.HERD_OFS 0 0,
      .one R.HERD_Pp_CNT 0 p.val, .one R.HERD_Pp_STAT 0 p.val, .one R.HERD_STAT 0 0, logS]⟩
  | .cap p _ _ _ => ⟨12, [.herdNode, .herdPort none], [.one R.HERD_Pp_CNT 0 p.val]⟩
  | .demand p _ _ _ => ⟨12, [.herdPort none], [.one R.HERD_Pp_CNT 0 p.val]⟩
  | .capCycle =>
    ⟨12, List.flatten [alarmP, [.herdNode, .herdPort none, .rgn none]], [.every R.LE_EVPEND, .every R.RGN_CAP,
      .inBlock R.HERD_DEMr 0, .one R.HERD_CAP 0 0, .one R.HERD_DEMAND 0 0, .one R.HERD_EVT 0 0, logS]⟩
  | .join p _ _ _ _ _ _ _ _ =>
    ⟨12, [.herdNode, .herdPort none], [.one R.HERD_COUNT 0 0, .one R.HERD_Pp_CNT 0 p.val, .one R.HERD_Pp_STAT 0 p.val]⟩
  | .joinResp p _ _ _ _ =>
    ⟨12, List.flatten [alarmP, [.herdNode, .herdPort none]], [.one R.HERD_COUNT 0 0, .one R.HERD_EVT 0 0,
      .one R.HERD_Pp_CNT 0 p.val, .one R.HERD_Pp_STAT 0 p.val, .one R.HERD_STAT 0 0, .one R.HERD_TOPO 0 0, logS]⟩
  | .leave p _ _ _ => ⟨12, [.herdNode, .herdPort none], [.one R.HERD_COUNT 0 0, .one R.HERD_Pp_CNT 0 p.val]⟩
  | .move p _ _ _ _ =>
    ⟨12, [.herdNode, .herdPort none], [.one R.HERD_COUNT 0 0, .one R.HERD_Pp_CNT 0 p.val, .one R.HERD_Pp_STAT 0 p.val]⟩
  | .moveAck p _ _ =>
    ⟨12, List.flatten [alarmP, [.herdNode, .herdPort none]], [.one R.HERD_EVT 0 0, .one R.HERD_Pp_CNT 0 p.val,
      .one R.HERD_STAT 0 0, .one R.HERD_TOPO 0 0, logS]⟩
  | .nak p _ =>
    ⟨12, List.flatten [alarmP, [.herdNode, .herdPort none]], [.one R.HERD_COUNT 0 0, .one R.HERD_EVT 0 0,
      .one R.HERD_Pp_CNT 0 p.val, .one R.HERD_Pp_STAT 0 p.val, .one R.HERD_STAT 0 0, .one R.HERD_TOPO 0 0, logS]⟩
  | .credit _ _ => ⟨12, [.herdPort none], []⟩
  | .alarm p _ _ => ⟨12, [.herdNode, .herdPort none, .records], [.one R.HERD_Pp_CNT 0 p.val]⟩
  | .frameKeepalive p => ⟨12, [.herdPort (some p.val)], []⟩
  | .portLoss p =>
    ⟨12, List.flatten [alarmP, [.herdNode, .herdPort none]], [.one R.HERD_COUNT 0 0, .one R.HERD_EVT 0 0,
      .one R.HERD_Pp_STAT 0 p.val, .one R.HERD_STAT 0 0, .one R.HERD_TOPO 0 0, logS]⟩
  | .moveRetry => ⟨12, [.herdNode, .herdPort none], []⟩
  | .leaveHoldExpire _ => ⟨12, [.herdNode], [.one R.HERD_COUNT 0 0]⟩
  | .joinRetry => ⟨12, [.herdNode], [.inBlock R.HERD_Pp_STAT 0, .one R.HERD_STAT 0 0]⟩
  | .islandHoldExpire => ⟨12, [.herdNode], []⟩
  | .herdTset _ => ⟨12, [.herdNode], [.one R.HERD_EVT 0 0, .one R.HERD_TSET 0 0]⟩
  | .herdDemWrite _ r _ => ⟨12, [], [.one R.HERD_DEMr 0 r.val, .one R.HERD_EVT 0 0]⟩
  | .linkErrCheck p => ⟨12, List.flatten [alarmP, [.herdPort (some p.val)]], [.one R.HERD_EVT 0 0, logS]⟩
  | .perstAssert p =>
    ⟨13, List.flatten [alarmP, [.conv none, .delivery, .held, .hostPort (some p.val), .msix, .staged]],
      [.one R.HOST_p_EVT 0 p.val, .one R.HOST_p_STAT 0 p.val, logS]⟩
  | .perstDeassert p => ⟨13, [.hostPort (some p.val)], [.one R.HOST_p_STAT 0 p.val]⟩
  | .hotReset p =>
    ⟨13, List.flatten [alarmP, [.conv none, .delivery, .held, .msix, .staged]], [.one R.HOST_p_EVT 0 p.val,
      .one R.HOST_p_STAT 0 p.val, logS]⟩
  | .linkDisable p =>
    ⟨13, List.flatten [alarmP, [.conv none, .delivery, .held, .msix, .staged]], [.one R.HOST_p_EVT 0 p.val,
      .one R.HOST_p_STAT 0 p.val, logS]⟩
  | .functionLevelReset p =>
    ⟨13, List.flatten [alarmP, [.conv none, .delivery, .held, .msix, .staged]], [.one R.HOST_p_EVT 0 p.val,
      .one R.HOST_p_STAT 0 p.val, logS]⟩
  | .linkTrained p _ _ _ _ _ =>
    ⟨13, List.flatten [alarmP, [.admission, .delivery, .flows none, .hostPort (some p.val), .hostWrites, .postings none]],
      List.flatten [dropS, [.inBlock R.PMAP_SUSPw 0, .one R.HOST_p_CTRL 0 p.val, .one R.HOST_p_EVT 0 p.val,
      .one R.HOST_p_STAT 0 p.val, .one R.PMAP_EVT 0 0, .one R.PMAP_FLT_ADDR 0 0, .one R.PMAP_FLT_INFO 0 0,
      .one R.PMAP_FLT_TIME 0 0, .one R.PMAP_STAT 0 0, .one R.PMAP_WALKS 0 0, .one R.SPR_ALARM_CNT 0 0, .one R.SPR_CAP 0 0,
      .one R.SPR_STAT 0 0, .one R.SPR_USE_DIE0 0 0, .one R.SPR_USE_DIE1 0 0, .one R.SPR_USE_HOST 0 0,
      .one R.SPR_USE_POOL 0 0, logS]]⟩
  | .retrain _ p => ⟨13, [.hostWrites, .records], [.one R.HOST_p_CTRL 0 p.val]⟩
  | .d3hotEntry p => ⟨13, [], [.one R.HOST_p_STAT 0 p.val]⟩
  | .hostUncorr p _ _ =>
    ⟨13, List.flatten [alarmP, [.hostPort (some p.val)]], [.one R.HOST_p_ERRCNT 0 p.val, .one R.HOST_p_EVT 0 p.val, logS]⟩
  | .corrStormCheck p _ => ⟨13, alarmP, [.one R.HOST_p_ERRCNT 0 p.val, .one R.HOST_p_EVT 0 p.val, logS]⟩
  | .bar0Read p addr len => accessScope 13 [] [.one R.HOST_p_EVT 0 p.val] ((wordsOf addr.val len.val).map readS)
  | .bar0Write p addr bytes => accessScope 13 [] [.one R.HOST_p_EVT 0 p.val] ((wordsOf addr.val bytes.length).map writeS)
  | .read addr _ => accessScope 13 [.sideband] [.one R.HOST_SB_STAT 0 0] [readS addr.toNat]
  | .write addr _ _ => accessScope 13 [.sideband] [.one R.HOST_SB_STAT 0 0] [writeS addr.toNat]
  | .readNext _ => accessScope 13 [.sideband] [.one R.HOST_SB_STAT 0 0] [readS (s.host.sb.addr + 4).toNat]
  | .statusRead => ⟨13, [.sideband], []⟩
  | .enec _ => ⟨13, [.sideband], []⟩
  | .disec _ => ⟨13, [.sideband], []⟩
  | .rstdaa => ⟨13, [], [.one R.HOST_SB_STAT 0 0]⟩
  | .entdaa _ => ⟨13, [], [.one R.HOST_SB_STAT 0 0]⟩
  | .setdasa _ _ => ⟨13, [], [.one R.HOST_SB_STAT 0 0]⟩
  | .setnewda _ => ⟨13, [], [.one R.HOST_SB_STAT 0 0]⟩
  | .getpid => ⟨13, [], []⟩
  | .getbcr => ⟨13, [], []⟩
  | .getdcr => ⟨13, [], []⟩
  | .getstatus => ⟨13, [], []⟩
  | .setmwl _ => ⟨13, [.sideband], []⟩
  | .setmrl _ => ⟨13, [.sideband], []⟩
  | .getmwl => ⟨13, [], []⟩
  | .getmrl => ⟨13, [], []⟩
  | .rstact _ => ⟨13, [.conv none, .held, .sideband, .staged], [.one R.HOST_SB_STAT 0 0]⟩
  | .smbusTimeout => ⟨13, [.sideband], []⟩
  | .bypass => ⟨13, [.tap], []⟩
  | .idcode => ⟨13, [.tap], []⟩
  | .samplePreload _ => ⟨13, [.tap], []⟩
  | .extest => ⟨13, [.tap], []⟩
  | .clamp => ⟨13, [.tap], []⟩
  | .highz => ⟨13, [.tap], []⟩
  | .extestPulse => ⟨13, [.tap], []⟩
  | .extestTrain => ⟨13, [.tap], []⟩
  | .regacc dr => accessScope 13 [.tap] [] [regaccWord dr]
  | .vtest _ _ => ⟨13, [.power, .tap], []⟩
  | .vtestUnlockDone =>
    ⟨13, [.frames, .herdNode, .herdPort none, .img, .jobs, .loading, .partLoad, .power, .records, .retention, .safeHold],
      [.inBlock R.HERD_Pp_STAT 0, .one R.HERD_COUNT 0 0, .one R.HERD_STAT 0 0, .one R.HERD_TOPO 0 0, .one R.SEC_STAT 0 0,
      logS]⟩
  | .pinConfigWrite _ pin _ _ =>
    ⟨13, List.flatten [alarmP, [.ana none, .balls, .comp none, .pgSub none, .safeHold]], List.flatten [safeS,
      [.one R.PIN_CFLT_LAST 0 0, .one R.PIN_EVT 0 0, .one R.PIN_Pxn_ARG 0 pin.val, .one R.PIN_Pxn_CFG 0 pin.val,
      .one R.PIN_STAT 0 0, logS]]⟩
  | .pinEvent _ _ _ =>
    ⟨13, List.flatten [alarmP, [.ana none, .balls, .comp none, .conv none, .fabs none, .herdNode, .pgSub none, .safeHold]],
      List.flatten [safeS, [.every R.CG_EVT, .every R.CG_URG_STAT, .inBlock R.PIN_EVTk_CFG 0, .inBlock R.PIN_EVTk_TIME 0,
      .one R.PIN_EVT 0 0, logS]]⟩
  | .pinEventSw _ k =>
    ⟨13, [.conv none, .fabs none, .herdNode], [.every R.CG_EVT, .every R.CG_URG_STAT, .one R.PIN_EVT 0 0,
      .one R.PIN_EVTk_CFG 0 k.val, .one R.PIN_EVTk_TIME 0 k.val]⟩
  | .wakePin _ =>
    ⟨13, [.conv none, .power, .retention], [.every R.CG_ROT_STAT, .every R.CG_STAT, .one R.SETT_EVT 0 0,
      .one R.SETT_WAKE 0 0, logS]⟩
  | .settMirrorApply => ⟨14, dieP, .file .sett :: dieS⟩
  | .settPowerOn => ⟨14, dieP, List.flatten [dieS, [.file .sett]]⟩
  | .powerUp => ⟨14, [.power, .safeHold], [.inBlock R.PIN_OUTw 0, .one R.SETT_SAFE 0 0]⟩
  | .herdTimeStart => ⟨14, [.hub], []⟩
  | .calibrationEnd _ =>
    ⟨14, List.flatten [alarmP, [.ana none, .comp none, .conv none, .engines none, .fabs none, .pgSub none, .power,
      .pwm none, .rgn none, .slots none, .wear]], List.flatten [degrS, [.every R.AC_CELLn_STAT, .every R.CG_CTRL,
      .every R.CG_STAT, .every R.FAB_BMb_STAT, .every R.FAB_EVT, .every R.LE_CTRL, .every R.PG_CHcc_CNT,
      .every R.PG_CHcc_STAT, .every R.PG_EVT, .every R.PG_SUB_STAT, .every R.RGN_STAT, .every R.WC_CMPm_STAT,
      .one R.SETT_SPAREk 0 7, logS]]⟩
  | .doze =>
    ⟨14, [.conv none, .power], [.every R.CG_ROT_STAT, .every R.CG_STAT, .one R.SETT_CMD 0 0, .one R.SETT_CMD_STAT 0 0,
      .one R.SETT_EVT 0 0]⟩
  | .active =>
    ⟨14, [.conv none, .power], [.every R.CG_ROT_STAT, .every R.CG_STAT, .one R.SETT_CMD 0 0, .one R.SETT_CMD_STAT 0 0,
      .one R.SETT_EVT 0 0]⟩
  | .freeze _ =>
    ⟨14, [.ana none, .comp none, .pgSub none, .rgn none], [.every R.PG_SUB_STAT, .every R.RGN_STAT, .one R.SETT_CMD 0 0,
      .one R.SETT_CMD_STAT 0 0, .one R.SETT_EVT 0 0]⟩
  | .torpor _ =>
    ⟨14, [.ana none, .comp none, .conv none, .pgSub none, .rgn none], [.every R.CG_CTRL, .every R.LE_CTRL,
      .every R.PG_SUB_STAT, .every R.RGN_STAT, .one R.SETT_CMD 0 0, .one R.SETT_CMD_STAT 0 0, .one R.SETT_EVT 0 0]⟩
  | .torporClockStop => ⟨14, [.engines none, .rgn none], [.every R.RGN_STAT]⟩
  | .thaw _ =>
    ⟨14, [.ana none, .comp none, .conv none, .engines none, .pgSub none, .rgn none], [.every R.CG_ROT_STAT,
      .every R.FAB_RELOC_STAT, .every R.LE_EVPEND, .every R.LE_SUB_STAT, .every R.PG_SUB_STAT, .every R.RGN_STAT,
      .one R.SETT_CMD 0 0, .one R.SETT_CMD_STAT 0 0, .one R.SETT_EVT 0 0]⟩
  | .readout _ => ⟨14, [.power], [.every R.RGN_STAT, .one R.SETT_CMD 0 0, .one R.SETT_CMD_STAT 0 0, .one R.SETT_EVT 0 0]⟩
  | .readoutDone =>
    ⟨14, [.fabs none, .power, .rgn none], [.every R.RGN_STAT, .one R.SETT_CMD 0 0, .one R.SETT_CMD_STAT 0 0,
      .one R.SETT_EVT 0 0]⟩
  | .safe =>
    ⟨14, List.flatten [alarmP, [.safeHold]], List.flatten [safeS, [.one R.SETT_CMD 0 0, .one R.SETT_CMD_STAT 0 0, logS]]⟩
  | .safeExit =>
    ⟨14, List.flatten [alarmP, [.ana none, .comp none, .pgSub none, .pwm none, .safeHold]], List.flatten [safeS,
      [.every R.PG_CHcc_DUTY, .one R.SETT_CMD 0 0, .one R.SETT_CMD_STAT 0 0, logS]]⟩
  | .safeAutoExit =>
    ⟨14, List.flatten [alarmP, [.ana none, .comp none, .pgSub none, .pwm none, .safeHold]], [.every R.PG_CHcc_DUTY,
      .one R.SETT_SAFE 0 0, logS]⟩
  | .dormant _ =>
    ⟨14, [.delivery, .herdPort none, .power], [.inBlock R.HERD_Pp_STAT 0, .inBlock R.HOST_p_STAT 0, .one R.HERD_STAT 0 0,
      .one R.SETT_CMD 0 0, .one R.SETT_CMD_STAT 0 0, .one R.SETT_EVT 0 0]⟩
  | .dormantComplete =>
    ⟨14, dieP, List.flatten [dieS, safeS, degrS, [.every R.SETT_ACCn_C0, .every R.SETT_ACCn_C1, .every R.SETT_ACCn_C2,
      .every R.SETT_ACCn_CFG, .every R.SETT_SPAREk, .one R.SETT_CMD 0 0, .one R.SETT_CMD_STAT 0 0, .one R.SETT_WAKE 0 0,
      logS]]⟩
  | .reset _ =>
    ⟨14, dieP, List.flatten [dieS, safeS, degrS, [.every R.SETT_SPAREk, .one R.SETT_CMD 0 0, .one R.SETT_CMD_STAT 0 0,
      logS]]⟩
  | .rgnReset _ arg =>
    ⟨14, List.flatten [alarmP, [.ana none, .comp none, .conv none, .engines none, .fabs none, .flows none, .frames, .held,
      .lemem none, .pgSub none, .pwm none, .rgn none, .safeHold, .slots none, .staged, .wear]], List.flatten [dropS, safeS,
      degrS, (regionsOf arg.val).map .region, [.every R.AC_CELLn_STAT, .every R.AC_INJ_AIO, .every R.AC_INJ_FIN,
      .every R.AC_MIG, .every R.AC_MIG_STAT, .every R.AC_SPARE_STAT, .every R.AC_STATUS, .every R.CG_CTRL, .every R.CG_STAT,
      .every R.FAB_BMb_STAT, .every R.FAB_RELOC, .every R.FAB_RELOC_STAT, .every R.FAB_SPARE_STAT, .every R.FAB_SPMAPs,
      .every R.LE_LANEMAP, .every R.LE_SPARE_STAT, .every R.LE_SUB, .every R.LE_SUB_STAT, .every R.PG_CHcc_CNT,
      .every R.PG_CHcc_STAT, .every R.PG_EVT, .every R.PG_SPARE_STAT, .every R.PG_SUB, .every R.PG_SUB_STAT,
      .every R.RGN_STAT, .every R.RGN_TEMP, .every R.SETT_SPAREk, .every R.WC_CHK, .every R.WC_CHK_STAT,
      .every R.WC_SPARE_STAT, .one R.SETT_CMD 0 0, .one R.SETT_CMD_STAT 0 0, logS]]⟩
  | .exportCmd => ⟨14, [.power], [.one R.SETT_CMD 0 0, .one R.SETT_CMD_STAT 0 0, .one R.SETT_EVT 0 0]⟩
  | .ledgerSync => ⟨14, [.jobs, .wear], [.one R.SETT_CMD 0 0, .one R.SETT_CMD_STAT 0 0, .one R.SETT_EVT 0 0]⟩
  | .freezeNAssert =>
    ⟨14, [.ana none, .comp none, .conv none, .pgSub none, .power, .rgn none], [.every R.CG_CTRL, .every R.LE_CTRL,
      .every R.PG_SUB_STAT, .every R.RGN_STAT]⟩
  | .freezeNRelease =>
    ⟨14, [.ana none, .comp none, .conv none, .engines none, .pgSub none, .power, .rgn none], [.every R.CG_ROT_STAT,
      .every R.FAB_RELOC_STAT, .every R.LE_EVPEND, .every R.LE_SUB_STAT, .every R.PG_SUB_STAT, .every R.RGN_STAT]⟩
  | .powerOnReset => ⟨14, dieP, List.flatten [dieS, [.file .sett]]⟩
  | .packageReset =>
    ⟨14, dieP, List.flatten [dieS, safeS, degrS, [.every R.SETT_SPAREk, .one R.SETT_CMD 0 0, .one R.SETT_CMD_STAT 0 0,
      logS]]⟩
  | .regionReset _ r =>
    ⟨14, List.flatten [alarmP, [.ana none, .comp none, .conv none, .engines (some r.val), .fabs (some r.val), .flows none,
      .frames, .held, .lemem none, .pgSub none, .pwm none, .rgn (some r.val), .safeHold, .slots none, .staged, .wear]],
      List.flatten [ownerS r.val, dropS, safeS, degrS, [.region r.val], [.every R.AC_CELLn_STAT, .every R.AC_MIG,
      .every R.AC_MIG_STAT, .every R.AC_SPARE_STAT, .every R.AC_STATUS, .every R.CG_CTRL, .every R.CG_STAT,
      .every R.PG_CHcc_CNT, .every R.PG_CHcc_STAT, .every R.PG_EVT, .every R.SETT_SPAREk, .every R.WC_CHK,
      .every R.WC_CHK_STAT, .every R.WC_SPARE_STAT, logS]]⟩
  | .regionResetRelease r _ =>
    ⟨14, List.flatten [alarmP, [.ana none, .comp none, .engines (some r.val), .fabs (some r.val), .pgSub none, .pwm none,
      .rgn (some r.val), .slots none, .wear]], List.flatten [degrS, [.every R.AC_CELLn_STAT, .every R.CG_STAT,
      .every R.PG_CHcc_CNT, .every R.PG_CHcc_STAT, .every R.PG_EVT, .every R.WC_CMPm_STAT,
      .inBlock R.FAB_BMb_STAT (fabB r.val), .one R.FAB_EVT (fabB r.val) 0, .one R.RGN_STAT (rgB r.val) 0,
      .one R.SETT_SPAREk 0 7, logS]]⟩
  | .supplyFault _ =>
    ⟨14, List.flatten [alarmP, [.ana none, .comp none, .pgSub none, .power, .safeHold]], List.flatten [safeS, [logS]]⟩
  | .supplyLossDormant =>
    ⟨14, dieP, List.flatten [dieS, safeS, degrS, [.every R.SETT_SPAREk, .one R.SETT_CMD 0 0, .one R.SETT_CMD_STAT 0 0,
      logS]]⟩
  | .supplyReturn => ⟨14, [.power, .retention, .safeHold], List.flatten [safeS, [.one R.SETT_WAKE 0 0, logS]]⟩
  | .settBrownOut _ => ⟨14, [.energy, .power, .retention], [.file .sett]⟩
  | .brownOutRecovery =>
    ⟨14, List.flatten [alarmP, [.energy, .power]], [.every R.SETT_ACCn_C1, .every R.SETT_ACCn_C2, .one R.SETT_ACC_STAT 0 0,
      logS]⟩
  | .hubHeartbeatMiss =>
    ⟨14, List.flatten [alarmP, [.ana none, .comp none, .pgSub none, .safeHold]], List.flatten [safeS, [logS]]⟩
  | .timerWake => ⟨14, [.power, .retention], [.one R.SETT_EVT 0 0, .one R.SETT_WAKE 0 0, logS]⟩
  | .energyFold =>
    ⟨14, [.energy], [.every R.SETT_ACCn_C0, .every R.SETT_ACCn_C1, .every R.SETT_ACCn_C2, .every R.SETT_ACCn_CFG]⟩
  | .energyTelemetry => ⟨14, [.flows none, .records], dropS⟩
  | .accC0Read _ _ => ⟨14, [.answers, .held], []⟩
  | .wearSample r blk _ unit =>
    ⟨14, List.flatten [alarmP, [.ana (some (cluKey r.val blk.val)), .comp (some ((r.val * 12) + blk.val)),
      .engines (some r.val), .fabs (some r.val), .pgSub (some r.val), .wear]], List.flatten [degrS,
      [.inBlock R.PG_CHcc_STAT (pgB r.val), .one R.AC_CELLn_STAT (acB r.val blk.val) unit.val,
      .one R.AC_CELLn_TRIM (acB r.val blk.val) unit.val, .one R.AC_MIG_STAT (acB r.val blk.val) 0,
      .one R.AC_SPARE_STAT (acB r.val blk.val) 0, .one R.AC_STATUS (acB r.val blk.val) 0,
      .one R.FAB_RELOC_STAT (fabB r.val) 0, .one R.LE_SUB_STAT (leB r.val) 0, .one R.PG_SPARE_STAT (pgB r.val) 0,
      .one R.PG_SUB_STAT (pgB r.val) 0, .one R.SETT_SPAREk 0 0, .one R.SETT_SPAREk 0 3,
      .one R.WC_CHK_STAT (acB r.val blk.val) 0, .one R.WC_SPARE_STAT (acB r.val blk.val) 0, logS]]⟩
  | .lifeProjection _ => ⟨14, List.flatten [alarmP, [.wear]], List.flatten [degrS, [.one R.SETT_LIFE 0 0, logS]]⟩
  | .ledgerMirror => ⟨14, [.jobs, .wear], []⟩
  | .replaceRepeat => ⟨14, alarmP, [logS]⟩
  | .hubMemoryScrub _ _ _ _ =>
    ⟨14, List.flatten [alarmP, [.flows none, .frames, .partLoad, .wear]], List.flatten [degrS, [.one R.CFG_EVT 0 0,
      .one R.CFG_PR_CMD 0 0, .one R.CFG_PR_STAT 0 0, .one R.SEC_EVT 0 0, .one R.SEC_FENCE_CMD 0 0, .one R.SETT_SPAREk 0 8,
      .one R.SETT_SPAREk 0 9, logS]]⟩
  | .surpriseDown p => ⟨13, List.flatten [alarmP, [.delivery]], [.one R.HOST_p_EVT 0 p.val, .one R.HOST_p_STAT 0 p.val, logS]⟩
  | .configurationRequest p _ _ _ _ =>
    ⟨13, List.flatten [alarmP, [.admission, .delivery, .flows none, .hostWrites, .postings none]], List.flatten [dropS,
      [.inBlock R.PMAP_SUSPw 0, .one R.HOST_p_STAT 0 p.val, .one R.PMAP_EVT 0 0, .one R.PMAP_FLT_ADDR 0 0,
      .one R.PMAP_FLT_INFO 0 0, .one R.PMAP_FLT_TIME 0 0, .one R.PMAP_STAT 0 0, .one R.PMAP_WALKS 0 0,
      .one R.SPR_ALARM_CNT 0 0, .one R.SPR_CAP 0 0, .one R.SPR_STAT 0 0, .one R.SPR_USE_DIE0 0 0, .one R.SPR_USE_DIE1 0 0,
      .one R.SPR_USE_HOST 0 0, .one R.SPR_USE_POOL 0 0, logS]]⟩
  | .bar2Request _ _ _ _ => ⟨13, [.msix], []⟩
  | .flowControlCredit _ _ =>
    ⟨11, List.flatten [alarmP, [.delivery, .flows none, .hostWrites, .postings none]], List.flatten [dropS,
      [.inBlock R.PMAP_SUSPw 0, .one R.PMAP_EVT 0 0, .one R.PMAP_FLT_ADDR 0 0, .one R.PMAP_FLT_INFO 0 0,
      .one R.PMAP_FLT_TIME 0 0, .one R.PMAP_STAT 0 0, .one R.SPR_ALARM_CNT 0 0, .one R.SPR_CAP 0 0, .one R.SPR_STAT 0 0,
      .one R.SPR_USE_DIE0 0 0, .one R.SPR_USE_DIE1 0 0, .one R.SPR_USE_HOST 0 0, .one R.SPR_USE_POOL 0 0, logS]]⟩
  | .readCompletion _ =>
    ⟨11, List.flatten [alarmP, [.admission, .delivery, .flows none, .hostWrites, .postings none]], List.flatten [dropS,
      [.inBlock R.PMAP_SUSPw 0, .one R.PMAP_CMD 0 0, .one R.PMAP_CMD_STAT 0 0, .one R.PMAP_EVT 0 0, .one R.PMAP_FLT_ADDR 0 0,
      .one R.PMAP_FLT_INFO 0 0, .one R.PMAP_FLT_TIME 0 0, .one R.PMAP_STAT 0 0, .one R.PMAP_WALKS 0 0,
      .one R.SPR_ALARM_CNT 0 0, .one R.SPR_CAP 0 0, .one R.SPR_STAT 0 0, .one R.SPR_USE_DIE0 0 0, .one R.SPR_USE_DIE1 0 0,
      .one R.SPR_USE_HOST 0 0, .one R.SPR_USE_POOL 0 0, logS]]⟩
  | .crcMismatch p => ⟨12, [.herdPort (some p.val)], [.one R.HERD_Pp_CNT 0 p.val]⟩
  | .porstNDeassert => ⟨14, [.power], []⟩
  | .pwmEdge r c _ _ => ⟨6, [.ana none, .comp none, .pwm (some (chKey r.val c.val))], []⟩
  | .settMirrorRefresh =>
    ⟨14, [.energy, .mirror, .wear], [.every R.SETT_ACCn_C1, .every R.SETT_ACCn_C2, .one R.SETT_HOURS 0 0,
      .one R.SETT_MODE 0 0, .word 0x100020, .word 0x100024]⟩
  | .exportDone _ _ => ⟨14, [.power, .retention], [.one R.SETT_CMD 0 0, .one R.SETT_CMD_STAT 0 0, .one R.SETT_EVT 0 0]⟩

end Sys2Proof.Machine
end

