-- ==== Sys2Proof/WellFormed.lean ====
section
/-!
DEFINITION. Well-formed commands: those whose operands lie in the ranges that the spec gives them and that the operands' types
do not already fix. A command outside them is no event of this hardware.
-/

namespace Sys2Proof

/-- A node ID (R39: 14 bits). -/
def nodeOk (n : Nat) : Bool := decide (n < 16384)

/-- A depth below the root (R39: at most 7). -/
def depthOk (n : Nat) : Bool := decide (n ≤ 7)

/-- The operands of a command are in range. -/
def Instr.wf (i : Instr) : Bool :=
  match i with
  -- R35: one reading for each region
  | .tempSample l => decide (l.length = 16)
  -- R139: five physical slices
  | .calibrationDone _ _ passed cals skews bws =>
    decide (passed < 32) && decide (cals.length = 5) && decide (skews.length = 5) && decide (bws.length = 5)
  -- R144, R150: four positions
  | .estimatorBlock _ _ _ moves => decide (moves.length = 4)
  -- R115: a batch has 1 to 128 samples
  | .batchDone _ _ xs _ => decide (0 < xs.length) && decide (xs.length ≤ 128)
  -- R66: a request lies within BAR0
  | .bar0Read _ addr len => decide (addr.val + len.val ≤ 33554432)
  | .bar0Write _ addr bytes => decide (addr.val + bytes.length ≤ 33554432)
  -- R426, R431, R432: node IDs and depths of the Herd's frames
  | .beacon _ _ id depth root anc => nodeOk id && depthOk depth && nodeOk root && anc.all nodeOk
  | .join _ _ node level parent root depth size ids =>
    nodeOk node && depthOk level && nodeOk parent && nodeOk root && depthOk depth && decide (size ≤ 16384) && ids.all nodeOk
  | .joinResp _ _ node _ ofs => nodeOk node && decide (ofs ≤ 16384)
  | .leave _ _ id parent => nodeOk id && nodeOk parent
  | .move _ _ id depth parent => nodeOk id && depthOk depth && (parent.all nodeOk)
  | .leaveHoldExpire id => nodeOk id
  -- R350: a flash read answers at most 64 words
  | .flashCommandDone _ data => decide (data.length ≤ 64)
  | _ => true

end Sys2Proof
end

