-- ==== Sys2Proof/Certificates/Slice0/Obligations.lean ====
section
/-!
DEFINITION. What is to be proved of the block: its queue, its reset, its register access, and for every command what it does
when it has its effect, and what it leaves alone.
-/

open Sys2Proof Sys2Proof.Machine

/-- A step of a state with a command at the front of its queue is exec of that command on the state with the queue's rest. With nothing waiting, a step is one tick of the 400 MHz clock (R54; the model's choice, log entry 1): the timebase counts 40, and so does Herd Time, if it runs and neither a HERD_TSET value waits nor the root steers. -/
def Obligations.StepTakesTheFront : Prop :=
  (∀ (c : Instr) (l : List Instr) (s : State), s.pending = c :: l → step s = exec c { s with pending := l }) ∧
  (∀ s : State, s.pending = [] → step s = .next (herdTick s)) ∧
  (∀ s : State, s.hub.timeOn = true → s.herd.tset = none → s.herd.steer = 0 → s.hub.frac < 100000000 →
  (herdTick s).hub.time = s.hub.time + 40 ∧ (herdTick s).hub.frac = s.hub.frac ∧ (herdTick s).hub.base = s.hub.base + 40) ∧
  (∀ s : State, s.hub.timeOn = false → herdTick s = { s with hub := { s.hub with base := s.hub.base + 40 } })

/-- R489, R498: right after a package reset the mode is Loading and registers read what their summaries give; nothing is held, staged, pending as an alarm or waiting; Herd Time stands; every unit serves itself. That OTP and the ledger are a factory part's are the model's choices (log entries 4 and 5). The queue and the fuses meet the invariants. -/
def Obligations.ResetState : Prop :=
  State.reset.pending = [] ∧ State.reset.sett.phase = .loading ∧ State.reset.gf F.SETT_MODE_MODE 0 = 2 ∧ modeCode State.reset = 2 ∧
  State.reset.hub.timeOn = false ∧ State.reset.now = 0 ∧
  State.reset.rd R.PMAP_AGE_LIMIT 0 = 0x3E8 ∧ State.reset.rd R.PMAP_FO_CFG 0 = 0x64 ∧ State.reset.rd R.HERD_CAP_ROOT 0 = 0xFFFF_FFFF ∧
  State.reset.rd R.CFG_FIFO_STAT 0 = 0x400 ∧ State.reset.gf F.CFG_STAT_STATE 0 = 0 ∧ State.reset.gb F.CFG_STAT_CFG_DONE 0 = false ∧
  (∀ (r : Rgn) (c : Fin 16), State.reset.gf F.PG_CHcc_STAT_PHYS (pgB r) c = c ∧ (State.reset.ch r c).run = .off) ∧
  (∀ (r : Rgn) (k : Fin 12) (n : Fin 8), State.reset.gf F.AC_CELLn_STAT_PHYS (acB r k) n = n) ∧
  (∀ k, State.reset.hold.get k = none ∧ State.reset.stage.get k = none ∧ State.reset.spoor.slots.get k = none ∧
  State.reset.lemem.get k = 0 ∧ State.reset.otp.get k = 0) ∧
  (∀ r : Rgn, (State.reset.eng r).mode = .halted ∧ State.reset.gf F.RGN_STAT_OWNER (rgB r) = 0) ∧
  QueueOf [] State.reset ∧ FusesKept State.reset State.reset

/-- R462, R463: accesses take effect one at a time in the order in which they arrive. Whatever command runs, the commands that wait afterwards are those that waited before without the one it took. -/
def Obligations.QueueInOrder : Prop :=
  ∀ (l : List Instr) (s t : State), QueueOf l s → step s = .next t → QueueOf l t ∧ t.pending = s.pending.tail

/-- R326, R327, R529: whatever command runs, the rollback count never falls, a REVOKED bit and CONSENT once blown stay blown, and no other word of OTP ever changes. -/
def Obligations.FusesOneWay : Prop :=
  ∀ o s t : State, FusesKept o s → step s = .next t → FusesKept o t

/-- R500, R501: once it holds, Safe hold outlives every command but SAFE_EXIT and the automatic exit, which need that no source is asserted, resets of the dies (R498) and Vendor test (R530). -/
def Obligations.SafeHoldEnds : Prop :=
  ∀ (i : Instr) (s t : State), exec i s = .next t → s.safeHold = true → t.safeHold = false →
  endsSafe i = true ∧ (i = .safeExit ∨ i = .safeAutoExit → s.sett.safeCond = 0)

/-- No state stops the block: a well-formed command, refused or not, ends in a next state (R462, R463: accesses take effect one at a time; R12, R13, R16, R29: what a refused one leaves). What it leaves in its normal case is said command by command in the statements of each family. -/
def Obligations.EveryCommandCompletes : Prop :=
  ∀ (i : Instr) (s : State), i.wf = true → ∃ t, exec i s = .next t

/-- R19, R20: a read of a low half answers it and holds the high half for that reader; a read of a high half answers the held half and empties the register; a write of a low half is staged for that writer; a write of a high half replaces all 64 bits with the staged low half. R18: what the sideband target, the TAP, the host ports, an engine and a region's fabric read and write is the register map as readWord and writeWord give it for that path. -/
def Obligations.RegisterHalves : Prop :=
  (∀ (s : State) (a : Reader) (n : WNum), reaches s a (4 * n) = true → halfAt (4 * n) = 1 → 4 * n.val < 0x100_0000 → 
      Ends (exec (.readLowHalf a n) s) fun t => t.resp.get a.code = some ((viewWord s a (4 * n)).setWidth 64) ∧
        t.hold.get (accKey a (4 * n + 4)) = some (viewWord s a (4 * n + 4))) ∧
  (∀ (s : State) (a : Reader) (n : WNum) (v : Word), reaches s a (4 * n) = true → halfAt (4 * n) = 2 → 4 * n.val < 0x100_0000 → s.hold.get (accKey a (4 * n)) = some v → 
      Ends (exec (.readHighHalf a n) s) fun t => t.resp.get a.code = some (v.setWidth 64) ∧ t.hold.get (accKey a (4 * n)) = none) ∧
  (∀ (s : State) (a : Reader) (n : WNum) (v : Word), reaches s a (4 * n) = true → halfAt (4 * n) = 1 → 4 * n.val < 0x100_0000 → wideWritable (4 * n) = true → 
      Ends (exec (.writeLowHalf a n v) s) fun t => t.stage.get (accKey a (4 * n + 4)) = some v ∧ t.regs = s.regs) ∧
  (∀ (s : State) (a : Reader) (lo v : Word), reaches s a 0x1002C = true → s.stage.get (accKey a 0x1002C) = some lo → 
      Ends (exec (.writeHighHalf a 0x400B v) s) fun t => t.rd64 R.CFG_HOST_ADDR 0 = DWord.ofHalves lo v ∧ t.stage.get (accKey a 0x1002C) = none) ∧
  (∀ (s : State) (addr : Word) (pec : Bool), hubOn s = true → s.gb F.HOST_SB_CFG_PEC 0 = false → addr.toNat % 4 = 0 → 
      Ends (exec (.read addr pec) s) fun t => t.host.sb.result =
        some (true, 0, (readWord (s.setSb { s.host.sb with result := none, addr := addr }) .sb addr.toNat 0).1) ∧
        t.host.sb.addr = addr) ∧
  (∀ (s : State) (v : Word) (pec : Bool), hubOn s = true → s.gb F.HOST_SB_CFG_PEC 0 = false → 
      Ends (exec (.write 8 v pec) s) fun t => t.host.sb.result = some (false, 0, 0) ∧ t.rd R.HUB_IRQ_EN 0 = s.merged R.HUB_IRQ_EN 0 0 v) ∧
  (∀ (s : State) (pec : Bool), hubOn s = true → s.gb F.HOST_SB_CFG_PEC 0 = false → s.host.sb.addr.toNat % 4 = 0 → 
      Ends (exec (.readNext pec) s) fun t => t.host.sb.addr = s.host.sb.addr + 4) ∧
  (∀ (s : State), hubOn s = true → s.host.sb.result = none → s.gb F.HOST_SB_CFG_PEC 0 = false → 
      Ends (exec (.statusRead) s) fun t => Emit.sideband [0, 0, 0, 0, 4] ∈ t.out) ∧
  (∀ (s : State) (dr : BitVec 66) (v : Word), tapOn s = true → hubOn s = true → dr = BitVec.ofNat 66 (2 ^ 65 + 8 * 2 ^ 32 + v.toNat) → 
      Ends (exec (.regacc dr) s) fun t => t.rd R.HUB_IRQ_EN 0 = s.merged R.HUB_IRQ_EN 0 0 v ∧ Emit.jtag s.host.jtag.dr ∈ t.out) ∧
  (∀ (s : State) (p : Fin 2), s.linkUp p = true → s.gb F.HOST_p_STAT_D3HOT 0 p = false → 
      Ends (exec (.bar0Read p 8 4) s) fun t => Emit.completion p 0 (wordBytes (viewWord s (portReader p) 8)) ∈ t.out) ∧
  (∀ (s : State) (p : Fin 2) (b0 b1 b2 b3 : BitVec 8), s.linkUp p = true → s.gb F.HOST_p_STAT_D3HOT 0 p = false → 
      Ends (exec (.bar0Write p 8 [some b0, some b1, some b2, some b3]) s) fun t => t.rd R.HUB_IRQ_EN 0 = s.merged R.HUB_IRQ_EN 0 0 (b3 ++ b2 ++ b1 ++ b0)) ∧
  (∀ (s : State) (r : Rgn) (v : Word) (l : List (Nat × Word)), (s.eng r).cwr = (0xF_0020, v) :: l → s.mayWrite (.le r) r = true → 
      Ends (exec (.cwrComplete r) s) fun t => (t.eng r).cwr = l ∧ t.gf F.RGN_RDO_ADDR_WORD (rgB r) = v.bits 11 0) ∧
  (∀ (s : State) (r : Rgn) (v : Word), s.clk r = 0 → s.mayWrite (.fab r) r = true → 
      Ends (exec (.regionRegisterPort r 0x3C008 (some v)) s) fun t => t.gf F.RGN_RDO_ADDR_WORD (rgB r) = v.bits 11 0 ∧ Emit.portAck r ∈ t.out)

/-- R10 to R17, R29: a read answers the fields that are not write-only and clears RC fields but for the events of the same cycle; a write of a register with no rule of its own replaces each field by its access code and keeps every event of the same cycle; a region register takes it from the region's owner only, and from anybody else nothing but RGN_REJ and RGN_EVT.WR_REJ. -/
def Obligations.FieldAccess : Prop :=
  (∀ (s : State) (a : Reader) (n : WNum) (v hw : Word) (b m : Nat) (row : RegRow), reaches s a (4 * n) = true → rowAt (4 * n) = some (.hub, b, row, m) → 
      Ends (exec (.registerWrite a n v hw) s) fun t => (t.regs.tab .hub).get (4 * n) =
        withEvents row.fields hw (mergeFields false row.fields ((s.regs.tab .hub).get (4 * n)) v)) ∧
  (∀ (s : State) (a : Reader) (r : Rgn) (n : WNum) (v hw : Word), 4 * n.val = R.RGN_RDO_ADDR.addr (rgB r) 0 → reaches s a (4 * n) = true → s.mayWrite a r = true → 
      Ends (exec (.registerWrite a n v hw) s) fun t => t.gf F.RGN_RDO_ADDR_WORD (rgB r) = v.bits 11 0) ∧
  (∀ (s : State) (a : Reader) (r : Rgn) (n : WNum) (v hw : Word), 4 * n.val = R.RGN_RDO_ADDR.addr (rgB r) 0 → reaches s a (4 * n) = true → s.mayWrite a r = false → 
      Ends (exec (.registerWrite a n v hw) s) fun t => t.rd R.RGN_RDO_ADDR (rgB r) = s.rd R.RGN_RDO_ADDR (rgB r) ∧
        t.gf F.RGN_REJ_COUNT (rgB r) = satInc 16 (s.gf F.RGN_REJ_COUNT (rgB r)) ∧ t.gb F.RGN_EVT_WR_REJ (rgB r) = true)

/-- R58 to R65: pending work starts a Gated clock and the synthesiser of a Cold one; a write that gives work asks for the start; a clock without a reason to run is gated; a Gated one goes Cold where COLD_T is not 0; a wake request restarts it and makes event 31 pending; a locked synthesiser runs the clock. -/
def Obligations.Clocks : Prop :=
  (∀ (s : State) (r : Rgn), s.clk r = 1 → (hasReason s r = true ∨ (s.rgnS r).synthOn = true) → 
      Ends (exec (.clockStart r) s) fun t => t.clk r = 0) ∧
  (∀ (s : State) (r : Rgn), s.clk r = 2 → (hasReason s r = true ∨ (s.rgnS r).synthOn = true) → 
      Ends (exec (.clockStart r) s) fun t => (t.rgnS r).synthOn = true) ∧
  (∀ (s : State) (r : Rgn), (hasReason s r = false ∧ (s.rgnS r).synthOn = false) → 
      Ends (exec (.clockStart r) s) fun t => t.clk r = s.clk r ∧ t.rgnS r = s.rgnS r) ∧
  (∀ (s : State) (a : Reader) (r : Rgn), s.mayWrite a r = true → (s.clk r = 1 ∨ s.clk r = 2) → (hasWork s r = false ∧ (s.eng r).mode = .halted) → (s.gb F.LE_CTRL_STEP (leB r) = false ∧ s.gb F.LE_CTRL_ERST (leB r) = false) → 
      Ends (exec (.leRun a r) s) fun t => (t.rgnS r).synthOn = true) ∧
  (∀ (s : State) (r : Rgn), s.clk r = 0 → hasReason s r = false → 
      Ends (exec (.clockGate r) s) fun t => t.clk r = 1) ∧
  (∀ (s : State) (r : Rgn), s.clk r = 1 → (s.rgnS r).synthOn = false → s.gf F.RGN_CTRL_COLD_T (rgB r) ≠ 0 → 
      Ends (exec (.clockCold r) s) fun t => t.clk r = 2) ∧
  (∀ (s : State) (r : Rgn), s.clk r = 1 → 
      Ends (exec (.regionWake r) s) fun t => t.clk r = 0 ∧ (t.gf F.LE_EVPEND_PEND (leB r)).testBit 31 = true) ∧
  (∀ (s : State) (r : Rgn), (s.rgnS r).synthOn = true → s.clk r = 2 → 
      Ends (exec (.synthLock r) s) fun t => t.clk r = 0 ∧ (t.rgnS r).synthOn = false)

/-- R35 to R57: the regions' copies of Herd Time are refreshed; RGN_TEMP takes the rounded sample; a trimmed reference holds its temperature; a voltage and frequency request is taken, waits behind a running change, ends with its values in force and starts when it has waited; the timebase and the Sett switch to their spare oscillators; SAFE_N asserts and releases its source of Safe hold. -/
def Obligations.TimeAndSupply : Prop :=
  (∀ (s : State) (r : Rgn), 
      Ends (exec (.herdTimeRefresh) s) fun t => (t.rgnS r).timeOfs = 0) ∧
  (∀ (s : State) (l : List Int) (r : Rgn), l.length = 16 → 
      Ends (exec (.tempSample l) s) fun t => t.gf F.RGN_TEMP_TEMP (rgB r) = codeOf 16 (quarterDegrees (l.getD r 0))) ∧
  (∀ (s : State) (r : Rgn), 
      Ends (exec (.refTrimDone r) s) fun t => (t.rgnS r).trimming = false ∧ (t.rgnS r).trimTemp = tempOf s r) ∧
  (∀ (s : State) (d : Fin 2) (ns : Nat) (x : Item) (l : List Item), s.spoor.hops.get (hopLink d) = x :: l → 
      Ends (exec (.dieLinkReplay d ns) s) fun t => t.spoor.hops.get (hopLink d) = { x with linkNs := x.linkNs + min 20 ns } :: l) ∧
  (∀ (s : State) (a : Reader) (r : Rgn) (v : Word), s.mayWrite a r = true → fOf v F.RGN_VF_FREQ ≤ 20 → vfBad s r (fOf v F.RGN_VF_VOLT) (fOf v F.RGN_VF_FREQ) = false → (s.rgnS r).vfBusy = none → s.gf F.RGN_VF_VOLT (rgB r) < fOf v F.RGN_VF_VOLT → 
      Ends (exec (.vfRequest a r v) s) fun t => (t.rgnS r).vfBusy = some (fOf v F.RGN_VF_VOLT, fOf v F.RGN_VF_FREQ) ∧ t.rd R.RGN_VF (rgB r) = s.rd R.RGN_VF (rgB r)) ∧
  (∀ (s : State) (a : Reader) (r : Rgn) (v : Word), s.mayWrite a r = true → fOf v F.RGN_VF_FREQ ≤ 20 → vfBad s r (fOf v F.RGN_VF_VOLT) (fOf v F.RGN_VF_FREQ) = false → (s.rgnS r).vfBusy.isSome = true → 
      Ends (exec (.vfRequest a r v) s) fun t => (t.rgnS r).vfWait = some (fOf v F.RGN_VF_VOLT, fOf v F.RGN_VF_FREQ)) ∧
  (∀ (s : State) (r : Rgn) (volt freq : Nat), (s.rgnS r).vfBusy = some (volt, freq) → (s.rgnS r).vfVoltFirst = true → 
      Ends (exec (.vfChangeEnd r) s) fun t => t.gf F.RGN_VF_VOLT (rgB r) = volt % 16 ∧ t.gf F.RGN_VF_FREQ (rgB r) = freq % 32 ∧ (t.rgnS r).vfBusy = none) ∧
  (∀ (s : State) (r : Rgn) (volt freq : Nat), (s.rgnS r).vfBusy = none → (s.rgnS r).vfWait = some (volt, freq) → tooSlow s r freq = false → s.gf F.RGN_VF_VOLT (rgB r) < volt → 
      Ends (exec (.vfWaitingStart r) s) fun t => (t.rgnS r).vfBusy = some (volt, freq) ∧ (t.rgnS r).vfWait = none) ∧
  (∀ (s : State), 
      Ends (exec (.safeNAssert) s) fun t => t.sett.safeNLow = true ∧ t.sett.safeCond.testBit 0 = true) ∧
  (∀ (s : State), 
      Ends (exec (.safeNRelease) s) fun t => t.sett.safeNLow = false ∧ t.sett.safeCond.testBit 0 = false) ∧
  (∀ (s : State) (cause : Fin 2), s.hub.pllSpareUsed = false → 
      Ends (exec (.pllSwitch cause) s) fun t => t.hub.pll = 1 - s.hub.pll ∧ t.hub.pllSpareUsed = true) ∧
  (∀ (s : State), 
      Ends (exec (.refclkLoss) s) fun t => t.hub.refclkLost = true) ∧
  (∀ (s : State), 
      Ends (exec (.xtalFail) s) fun t => t.sett.rcOsc = true)

/-- R74 to R82: a cell's configuration and filter words and the cluster's divider take effect where they keep the limits of the power modes, a routing word where it makes no second driver; output switches close on a cell that is not Off; a trigger starts the hold time, whose end returns the cell to tracking; a driving cell that clips sets CLIP. -/
def Obligations.AnalogueCells : Prop :=
  (∀ (s : State) (a : Reader) (r : Rgn) (k : Fin 12) (n : Fin 8) (v : Word), s.mayWrite a r = true → cellMigrating s r k n = false → cellWithin (s.merged R.AC_CELLn_CFG (acB r k) n v) (s.rd R.AC_CELLn_FILT (acB r k) n) (s.gf F.AC_CTRL_SC_DIV (acB r k)) = true → 
      Ends (exec (.acCellCfgWrite a r k n v) s) fun t => t.rd R.AC_CELLn_CFG (acB r k) n = s.merged R.AC_CELLn_CFG (acB r k) n v ∧
        t.gb F.AC_CELLn_STAT_ACTIVE (acB r k) n = (fOf (s.merged R.AC_CELLn_CFG (acB r k) n v) F.AC_CELLn_CFG_MODE != 0) ∧
        (fOf (s.merged R.AC_CELLn_CFG (acB r k) n v) F.AC_CELLn_CFG_FUNC ≠ s.gf F.AC_CELLn_CFG_FUNC (acB r k) n →
        (t.clu r k).closedOut.get n = 0)) ∧
  (∀ (s : State) (a : Reader) (r : Rgn) (k : Fin 12) (n : Fin 8) (v : Word), s.mayWrite a r = true → cellMigrating s r k n = false → cellWithin (s.rd R.AC_CELLn_CFG (acB r k) n) (s.merged R.AC_CELLn_FILT (acB r k) n v) (s.gf F.AC_CTRL_SC_DIV (acB r k)) = true → 
      Ends (exec (.acCellFiltWrite a r k n v) s) fun t => t.rd R.AC_CELLn_FILT (acB r k) n = s.merged R.AC_CELLn_FILT (acB r k) n v) ∧
  (∀ (s : State) (a : Reader) (r : Rgn) (k : Fin 12) (n : Fin 8) (v : Word), s.mayWrite a r = true → cellMigrating s r k n = false → missingLine r (routeWord s r k n v) = false → secondDriver s r k n (routeWord s r k n v) = false → 
      Ends (exec (.acCellRouteWrite a r k n v) s) fun t => t.rd R.AC_CELLn_ROUTE (acB r k) n = routeWord s r k n v) ∧
  (∀ (s : State) (a : Reader) (r : Rgn) (k : Fin 12) (v : Word), s.mayWrite a r = true → (List.range 8).all (fun n => s.gf F.AC_CELLn_CFG_FUNC (acB r k) n != 5 || cellWithin (s.rd R.AC_CELLn_CFG (acB r k) n)
(s.rd R.AC_CELLn_FILT (acB r k) n) (fOf (s.merged R.AC_CTRL (acB r k) 0 v) F.AC_CTRL_SC_DIV)) = true → 
      Ends (exec (.acCtrlWrite a r k v) s) fun t => t.rd R.AC_CTRL (acB r k) = s.merged R.AC_CTRL (acB r k) 0 v) ∧
  (∀ (s : State) (r : Rgn) (k : Fin 12) (n : Fin 8), cellOn s r k n = true → 
      Ends (exec (.outputSwitchClose r k n) s) fun t => (t.clu r k).closedOut.get n = 1) ∧
  (∀ (s : State) (r : Rgn) (k : Fin 12) (n : Fin 8) (trig : Fin 32) (e : Levels), takesTrigger s r k n trig = true → 
      Ends (exec (.shTrigger r trig e) s) fun t => (t.clu r k).hold.get n = some (10 * s.gf F.AC_CELLn_AUX_HOLD_T (acB r k) n) ∧
        (t.clu r k).held.get n = some (inputLevel s e r k (s.gf F.AC_CELLn_ROUTE_INP (acB r k) n))) ∧
  (∀ (s : State) (r : Rgn) (k : Fin 12) (n : Fin 8), 
      Ends (exec (.shHoldEnd r k n) s) fun t => (t.clu r k).hold.get n = none) ∧
  (∀ (s : State) (r : Rgn) (k : Fin 12) (n : Fin 8) (e : Levels), cellOn s r k n = true → clips (cellWants s e r k n) = true → 
      Ends (exec (.cellClip r k n e) s) fun t => t.gb F.AC_CELLn_STAT_CLIP (acB r k) n = true)

/-- R88 to R99: a reference difference beyond 3 mV sets REF_FAULT, its end clears it; an injection sets its ball's bit; a migration starts at step 1 with the free spare, passes to step 2, is forced where step 3 measures more than 20 mV, ends at step 6 with the mapping exchanged, and is abandoned with the spare failed where the spare cannot match. -/
def Obligations.ReferencesAndMigration : Prop :=
  (∀ (s : State) (r : Rgn) (k : Fin 12) (diff : Int), (s.rgnS r).refFault = false → refRuns s = true → 60 < diff.natAbs → 
      Ends (exec (.refFault r diff) s) fun t => (t.rgnS r).refFault = true ∧ t.gb F.AC_STATUS_REF_FAULT (acB r k) = true) ∧
  (∀ (s : State) (r : Rgn) (k : Fin 12), 
      Ends (exec (.refFaultClear r) s) fun t => (t.rgnS r).refFault = false ∧ t.gb F.AC_STATUS_REF_FAULT (acB r k) = false) ∧
  (∀ (s : State) (r : Rgn) (ball : Fin 40), ball.val < 32 → 
      Ends (exec (.injectionDetect r ball) s) fun t => (t.gf F.AC_INJ_AIO_AIO (acB r 0)).testBit ball = true ∧ (t.rgnS r).injSettle = true) ∧
  (∀ (s : State) (r : Rgn) (ball : Fin 40), 32 ≤ ball.val → 
      Ends (exec (.injectionDetect r ball) s) fun t => (t.gf F.AC_INJ_FIN_FIN (acB r 0)).testBit (ball - 32) = true ∧ (t.rgnS r).injSettle = true) ∧
  (∀ (s : State) (r : Rgn), 
      Ends (exec (.injectionRelease r) s) fun t => (t.rgnS r).injNow = 0 ∧ (t.rgnS r).injSettle = false) ∧
  (∀ (s : State) (a : Reader) (r : Rgn) (k : Fin 12) (n : Fin 8), s.mayWrite a r = true → s.gb F.AC_MIG_START (acB r k) = false → s.gb F.AC_SPARE_STAT_FREE (acB r k) = true → s.gf F.AC_MIG_STAT_STATE (acB r k) = 0 → s.gf F.AC_CELLn_CFG_MODE (acB r k) n ≠ 0 → 
      Ends (exec (.migrationStart (.by a) r k n) s) fun t => t.gf F.AC_MIG_STAT_STATE (acB r k) = 1 ∧ t.gb F.AC_MIG_START (acB r k) = true ∧ (t.clu r k).migCell = n) ∧
  (∀ (s : State) (r : Rgn) (k : Fin 12) (ok : Bool) (trim meas : Nat), (s.clu r k).paused = false → s.gf F.AC_MIG_STAT_STATE (acB r k) = 1 → 
      Ends (exec (.migrationStepEnd r k ok trim meas) s) fun t => t.gf F.AC_MIG_STAT_STATE (acB r k) = 2) ∧
  (∀ (s : State) (r : Rgn) (k : Fin 12) (ok : Bool) (trim meas : Nat), (s.clu r k).paused = false → ((s.gf F.AC_MIG_STAT_STATE (acB r k) = 2 ∧ (ok = false ∨ gainLimit < meas)) ∨
    (s.gf F.AC_MIG_STAT_STATE (acB r k) = 4 ∧ (ok = false ∨ offsetLimit < meas))) → 
      Ends (exec (.migrationStepEnd r k ok trim meas) s) fun t => t.gf F.AC_MIG_STAT_STATE (acB r k) = 0 ∧ t.gb F.AC_SPARE_STAT_FAILED (acB r k) = true ∧
        t.gb F.AC_SPARE_STAT_FREE (acB r k) = false ∧ t.gf F.AC_MIG_STAT_RESULT (acB r k) = 3) ∧
  (∀ (s : State) (r : Rgn) (k : Fin 12) (ok : Bool) (trim meas : Nat), (s.clu r k).paused = false → s.gf F.AC_MIG_STAT_STATE (acB r k) = 3 → 20000 < meas → 
      Ends (exec (.migrationStepEnd r k ok trim meas) s) fun t => t.gf F.AC_MIG_STAT_STATE (acB r k) = 5 ∧ (t.clu r k).forced = true) ∧
  (∀ (s : State) (r : Rgn) (k : Fin 12) (ok : Bool) (trim meas : Nat), (s.clu r k).paused = false → s.gf F.AC_MIG_STAT_STATE (acB r k) = 6 → (s.clu r k).forced = false → (s.clu r k).migCell < 8 → 
      Ends (exec (.migrationStepEnd r k ok trim meas) s) fun t => t.gf F.AC_MIG_STAT_STATE (acB r k) = 0 ∧ t.gf F.AC_CELLn_STAT_PHYS (acB r k) (s.clu r k).migCell = 8 ∧
        t.gf F.AC_MIG_STAT_RESULT (acB r k) = 1)

/-- R107 to R140: an allowed write of CG_CTRL takes the new mode; results begin in it; self-calibration stops the group and its end leaves the calibrated group with CAL_DONE; GO and a trigger start a pass on the lowest channel of the mask; a pass that is done ends. -/
def Obligations.ConverterGroups : Prop :=
  (∀ (s : State) (a : Reader) (r : Rgn) (g : Fin 4) (v : Word), s.mayWrite a r = true → (fOf v F.CG_CTRL_MODE = 1 ∨ fOf v F.CG_CTRL_MODE = 2) → fOf v F.CG_CTRL_CAL = 0 → s.gf F.CG_CTRL_MODE (cgB r g) = 0 → cgState s r g = 0 → s.gb F.CG_STAT_CAL_VALID (cgB r g) = true → s.gb F.RGN_STAT_RESET (rgB r) = false → 
      Ends (exec (.cgModeChange a r g v) s) fun t => t.gf F.CG_CTRL_MODE (cgB r g) = fOf v F.CG_CTRL_MODE ∧ cgState t r g = 1) ∧
  (∀ (s : State) (r : Rgn) (g : Fin 4), cgState s r g = 1 → s.gf F.CG_CTRL_MODE (cgB r g) = 1 → 
      Ends (exec (.cgModeReady r g) s) fun t => cgState t r g = 2 ∧ t.gf F.CG_ROT_STAT_PHASE (cgB r g) = 0) ∧
  (∀ (s : State) (r : Rgn) (g : Fin 4), cgState s r g = 1 → s.gf F.CG_CTRL_MODE (cgB r g) = 2 → (s.grp r g).unpair = false → 
      Ends (exec (.cgModeReady r g) s) fun t => cgState t r g = 3 ∧ ((working s r g).length = 5 → rotPaused s r g = false → t.gf F.CG_ROT_STAT_PHASE (cgB r g) = 1)) ∧
  (∀ (s : State) (a : Reader) (r : Rgn) (g : Fin 4), s.mayWrite a r = true → s.gb F.CG_CTRL_CAL (cgB r g) = false → calAllowed s r g = true → 
      Ends (exec (.selfCalibration a r g) s) fun t => cgState t r g = 6 ∧ t.gb F.CG_CTRL_CAL (cgB r g) = true ∧ (t.grp r g).pass = none) ∧
  (∀ (s : State) (r : Rgn) (g : Fin 4) (cals skews bws : List Word), cgState s r g = 6 → s.gf F.CG_CAL_STAT_SLICE_FAIL (cgB r g) = 0 → 
      Ends (exec (.calibrationDone r g 31 cals skews bws) s) fun t => cgState t r g = stateAfterCal s r g ∧ t.gb F.CG_EVT_CAL_DONE (cgB r g) = true ∧
        t.gb F.CG_STAT_CAL_VALID (cgB r g) = true ∧ t.gb F.CG_CTRL_CAL (cgB r g) = false ∧
        t.gf F.CG_CAL_STAT_TEMP (cgB r g) = codeOf 16 (s.grp r g).calTemp ∧
        t.rd R.CG_CALs (cgB r g) 4 = cals.getD 4 0 ∧ t.rd R.CG_BWs (cgB r g) 4 = bws.getD 4 0) ∧
  (∀ (s : State) (a : Reader) (r : Rgn) (g : Fin 4) (c : Nat), s.mayWrite a r = true → s.gf F.CG_SCAN_SMODE (cgB r g) = 3 → converting s r g = true → (s.grp r g).pass = none → lowChan (s.gf F.CG_MASK_MASK (cgB r g)) = some c → 
      Ends (exec (.scanGo a r g) s) fun t => (t.grp r g).pass = passOf s (cgB r g) (s.gf F.CG_MASK_MASK (cgB r g)) ∧ t.gb F.CG_SCAN_GO (cgB r g) = true) ∧
  (∀ (s : State) (r : Rgn) (g : Fin 4), s.gf F.CG_SCAN_SMODE (cgB r g) = 2 → converting s r g = true → (s.grp r g).pass = none → 
      Ends (exec (.scanTrigger r g) s) fun t => (t.grp r g).pass = passOf s (cgB r g) (s.gf F.CG_MASK_MASK (cgB r g))) ∧
  (∀ (s : State) (r : Rgn) (g : Fin 4) (p : PassS), (s.grp r g).pass = some p → p.done = true → (s.grp r g).remembered = false → s.gf F.CG_SCAN_SMODE (cgB r g) ≠ 1 → 
      Ends (exec (.scanPassEnd r g) s) fun t => (t.grp r g).pass = none ∧ t.gb F.CG_SCAN_GO (cgB r g) = false) ∧
  (∀ (s : State) (r : Rgn) (g : Fin 4) (p : PassS) (disc : Bool), (s.grp r g).pass = some p → p.done = false → converting s r g = true → 
      Ends (exec (.excursion r g disc) s) fun t => (t.grp r g).pass = some { p with excAvg := p.excAvg || !disc, excDisc := p.excDisc || disc })

/-- R113 to R130: a batch's corrected mean of a channel that CG_RES_MASK lets in goes to CG_RESULT; an urgent request is queued and its single sample replaces CG_RESULT with URG set; a low-half read of CG_RESULT answers the live half and holds the other, which the high-half read answers; a tap's oldest buffered result leaves for its destination. -/
def Obligations.ResultsAndReaders : Prop :=
  (∀ (s : State) (r : Rgn) (g : Fin 4) (p : PassS) (xs : List Sample) (sub : Fin 40), (s.grp r g).pass = some p → p.done = false → converting s r g = true → xs.length = 2 ^ fOf p.cfg F.CG_CHc_CFG_AVG → (s.gf F.CG_RES_MASK_MASK (cgB r g)).testBit p.chan = true → 
      Ends (exec (.batchDone r g xs sub) s) fun t => (t.rd64 R.CG_RESULT (cgB r g)).lo.bits 31 16 =
        codeOf 16 (correct (batchMean ((takeAll s r g p.chan xs).map (·.value))) (s.rd R.CG_CHc_COR (cgB r g) p.chan)).1 ∧
        (t.rd64 R.CG_RESULT (cgB r g)).lo.bits 15 11 = p.chan % 32) ∧
  (∀ (s : State) (a : Reader) (r : Rgn) (g : Fin 4) (v : Word), s.mayWrite a r = true → converting s r g = true → (s.grp r g).urg.length < 4 → 
      Ends (exec (.hostUrgentRequest a r g v) s) fun t => (t.grp r g).urg = (s.grp r g).urg ++ [fOf v F.CG_URG_CH]) ∧
  (∀ (s : State) (r : Rgn) (g k : Fin 4), s.gb F.CG_URGk_CFG_EN (cgB r g) k = true → converting s r g = true → (s.grp r g).urg.length < 4 → 
      Ends (exec (.urgentTrigger r g k) s) fun t => (t.grp r g).urg = (s.grp r g).urg ++ [s.gf F.CG_URGk_CFG_CH (cgB r g) k]) ∧
  (∀ (s : State) (r : Rgn) (g : Fin 4) (chan : Nat) (rest : List Nat) (x : Sample) (sub : Fin 40), (s.grp r g).urg = chan :: rest → converting s r g = true → (s.gf F.CG_RES_MASK_MASK (cgB r g)).testBit chan = true → 
      Ends (exec (.urgentSample r g x sub) s) fun t => (t.grp r g).urg = rest ∧ (t.rd64 R.CG_RESULT (cgB r g)).lo.bit 8 = true ∧
        (t.rd64 R.CG_RESULT (cgB r g)).lo.bits 31 16 = codeOf 16 (correct (takeSample s r g chan x).value (s.rd R.CG_CHc_COR (cgB r g) chan)).1) ∧
  (∀ (s : State) (a : Reader) (r : Rgn) (g : Fin 4), reaches s a (cgB r g) = true → 
      Ends (exec (.cgResultLowRead a r g) s) fun t => t.resp.get a.code = some ((resultLow s a r g).1.setWidth 64) ∧
        ((t.grp r g).readers.get a.code).hold = some (s.rd64 R.CG_RESULT (cgB r g)).hi) ∧
  (∀ (s : State) (a : Reader) (r : Rgn) (g : Fin 4) (h : Word), reaches s a (cgB r g) = true → ((s.grp r g).readers.get a.code).hold = some h → 
      Ends (exec (.cgResultHighRead a r g) s) fun t => t.resp.get a.code = some (h.setWidth 64) ∧ ((t.grp r g).readers.get a.code).hold = none)

/-- R145 to R166: the service slice is calibrated and shadows, then takes the position of the rotation point; a usable block moves the coefficients of the active slices by at most 1/16 of the estimated errors, an unusable one counts; CG_ROT_CTRL takes what no LIVE group forbids; in low-power mode the conversion moves to the next working slice. -/
def Obligations.ConverterIntegrity : Prop :=
  (∀ (s : State) (r : Rgn) (g : Fin 4) (cal : Word) (dev : Nat), s.gf F.CG_ROT_STAT_PHASE (cgB r g) = 1 → calFails cal dev = false → rotPaused s r g = false → s.gf F.CG_ROT_STAT_SVC (cgB r g) < 5 → 
      Ends (exec (.shadowStart r g cal dev) s) fun t => t.gf F.CG_ROT_STAT_PHASE (cgB r g) = 2 ∧
        t.gf F.CG_CALs_OFS (cgB r g) (s.gf F.CG_ROT_STAT_SVC (cgB r g)) = fOf cal F.CG_CALs_OFS) ∧
  (∀ (s : State) (r : Rgn) (g : Fin 4) (diff : Nat), s.gf F.CG_ROT_STAT_PHASE (cgB r g) = 2 → diff ≤ 64 → rotPaused s r g = false → s.gf F.CG_ROT_STAT_SVC (cgB r g) < 5 → 
      Ends (exec (.rotationPoint r g diff) s) fun t => t.gf F.CG_ROT_STAT_PHASE (cgB r g) = 1 ∧
        t.gf F.CG_ROT_STAT_SVC (cgB r g) = (posSlices s r g).getD ((s.grp r g).rot % 4) 0 ∧
        (posSlices t r g).getD ((s.grp r g).rot % 4) 0 = s.gf F.CG_ROT_STAT_SVC (cgB r g) ∧
        t.gf F.CG_ROT_CNT_HANDOVERS (cgB r g) = (s.gf F.CG_ROT_CNT_HANDOVERS (cgB r g) + 1) % 2 ^ 32) ∧
  (∀ (s : State) (r : Rgn) (g : Fin 4) (exc : Nat) (m : EstMove) (l : List EstMove), cgState s r g = 3 → converting s r g = true → usable s r g exc = true → (posSlices s r g).all (fun x => decide (x < 5)) = true → (posSlices s r g).Nodup → 
      Ends (exec (.estimatorBlock r g exc (m :: l)) s) fun t => t.gf F.CG_SKEWs_TRIM (cgB r g) ((posSlices s r g).getD 0 0) = codeOf 12 (clampInt (-2048) 2047
        (signedOf 12 (s.gf F.CG_SKEWs_TRIM (cgB r g) ((posSlices s r g).getD 0 0)) + limited m.trimErr m.trim)) ∧
        t.gf F.CG_BWs_BW (cgB r g) ((posSlices s r g).getD 0 0) = codeOf 16 (clampInt (-32768) 32767
        (signedOf 16 (s.gf F.CG_BWs_BW (cgB r g) ((posSlices s r g).getD 0 0)) + limited m.bwErr m.bw)) ∧
        t.gf F.CG_EST_STAT_HOLD_BLK (cgB r g) = 0 ∧ (t.grp r g).usableAt = s.hub.base) ∧
  (∀ (s : State) (r : Rgn) (g : Fin 4) (exc : Nat) (moves : List EstMove), converting s r g = true → usable s r g exc = false → 
      Ends (exec (.estimatorBlock r g exc moves) s) fun t => t.gf F.CG_EST_STAT_USABLE_RUN (cgB r g) = 0 ∧
        t.gf F.CG_EST_STAT_HOLD_BLK (cgB r g) = satInc 16 (s.gf F.CG_EST_STAT_HOLD_BLK (cgB r g)) ∧
        (63 ≤ s.gf F.CG_EST_STAT_HOLD_BLK (cgB r g) → t.gb F.CG_EST_STAT_SKEW_HOLD (cgB r g) = true)) ∧
  (∀ (s : State) (a : Reader) (r : Rgn) (g : Fin 4) (v : Word), s.mayWrite a r = true → s.gb F.CG_CTRL_LIVE (cgB r g) = false → s.gf F.CG_ROT_STAT_PHASE (cgB r g) ≠ 3 → 
      Ends (exec (.cgRotCtrlWrite a r g v) s) fun t => t.rd R.CG_ROT_CTRL (cgB r g) = s.merged R.CG_ROT_CTRL (cgB r g) 0 v) ∧
  (∀ (s : State) (r : Rgn) (g : Fin 4) (cal : Word) (dev diff : Nat), cgState s r g = 2 → s.inTorpor r = false → rotPaused s r g = false → calFails cal dev = false → diff ≤ 64 → working s r g ≠ [] → 
      Ends (exec (.lowPowerHandover r g cal dev diff) s) fun t => (t.grp r g).lpSlice = nextSlice s r g (s.grp r g).lpSlice ∧
        t.gf F.CG_ROT_CNT_HANDOVERS (cgB r g) = (s.gf F.CG_ROT_CNT_HANDOVERS (cgB r g) + 1) % 2 ^ 32)

/-- R170 to R184: a crossing that makes RAW 1 outside a blanking window sets the latch, and WC_CMPm_STAT.LATCHED shows what the destinations get; RAW falling clears a transparent latch; a software clear and a clear point empty a latch whose RAW is 0; a latch sets at the end of a blanking window whose RAW is 1; configuration, thresholds and routes take effect where R172, R175 and R194 let them. R186 to R193: a check or a substitution that nothing refuses starts at step 1, a periodic one with the next active comparator; step 1 leads to step 2; a target that fails its test is replaced by the spare; a check that finds nothing ends with RESULT 0b01. -/
def Obligations.Comparators : Prop :=
  (∀ (s : State) (r : Rgn) (k : Fin 12) (m : Fin 2) (e : Levels) (sub : Fin 40), watching s r k m false = true → rawOf (s.gf F.WC_CMPm_CFG_COND (acB r k) m) (newHalves s e r k m false) = true → (s.cmp r k).blank.get m = 0 → 
      Ends (exec (.comparatorCrossing r k m false e sub) s) fun t => ((t.cmp r k).tgt.get m).raw = true ∧ ((t.cmp r k).tgt.get m).latch = true ∧
        t.gb F.WC_CMPm_STAT_LATCHED (acB r k) m = compOut t r k m) ∧
  (∀ (s : State) (r : Rgn) (k : Fin 12) (m : Fin 2) (e : Levels), watching s r k m false = true → rawOf (s.gf F.WC_CMPm_CFG_COND (acB r k) m) (newHalves s e r k m false) = false → s.gf F.WC_CMPm_CFG_LATCH (acB r k) m = 0 → 
      Ends (exec (.rawDeassert r k m false e) s) fun t => ((t.cmp r k).tgt.get m).raw = false ∧ ((t.cmp r k).tgt.get m).latch = false ∧
        ((t.cmp r k).tgt.get m).halves = newHalves s e r k m false) ∧
  (∀ (s : State) (a : Reader) (r : Rgn) (k : Fin 12) (m : Fin 2), s.mayWrite a r = true → (s.gf F.WC_CMPm_CFG_LATCH (acB r k) m).testBit 0 = true → ((s.cmp r k).tgt.get m).raw = false → 
      Ends (exec (.latchClear a r k m) s) fun t => ((t.cmp r k).tgt.get m).latch = false) ∧
  (∀ (s : State) (r : Rgn) (k : Fin 12) (m : Fin 2) (c : Fin 16), (s.gf F.WC_CMPm_CFG_LATCH (acB r k) m).testBit 1 = true → s.gf F.WC_CMPm_CFG_CLR_CH (acB r k) m = c.val → ((s.cmp r k).tgt.get m).raw = false → 
      Ends (exec (.clearPoint r c) s) fun t => ((t.cmp r k).tgt.get m).latch = false) ∧
  (∀ (s : State) (r : Rgn) (k : Fin 12) (m : Fin 2) (sub : Fin 40), (s.cmp r k).blank.get m ≠ 0 → (s.cmp r k).blank.get m ≤ tickNow s + 3 * sub + 2 → ((s.cmp r k).tgt.get m).raw = true → 
      Ends (exec (.blankingEnd r k m sub) s) fun t => ((t.cmp r k).tgt.get m).latch = true) ∧
  (∀ (s : State) (a : Reader) (r : Rgn) (k : Fin 12) (m : Fin 2) (v : Word), s.mayWrite a r = true → isTarget s r k m = false → windowBad (wcCfgWord s r k m v) (s.rd R.WC_CMPm_THR (acB r k) m) = false → (fOf (wcCfgWord s r k m v) F.WC_CMPm_CFG_MODE ≠ 0 ∨ s.gf F.WC_CMPm_CFG_MODE (acB r k) m = 0 ∨ guards s (acB r k) m = false) → 
      Ends (exec (.wcCmpCfgWrite a r k m v) s) fun t => t.rd R.WC_CMPm_CFG (acB r k) m = wcCfgWord s r k m v) ∧
  (∀ (s : State) (a : Reader) (r : Rgn) (k : Fin 12) (m : Fin 2) (v : Word), s.mayWrite a r = true → isTarget s r k m = false → windowBad (s.rd R.WC_CMPm_CFG (acB r k) m) (s.merged R.WC_CMPm_THR (acB r k) m v) = false → 
      Ends (exec (.wcCmpThrWrite a r k m v) s) fun t => t.rd R.WC_CMPm_THR (acB r k) m = s.merged R.WC_CMPm_THR (acB r k) m v) ∧
  (∀ (s : State) (a : Reader) (r : Rgn) (k : Fin 12) (m : Fin 2) (trip : Bool) (v : Word), s.mayWrite a r = true → isTarget s r k m = false → 
      Ends (exec (.wcRouteWrite a r k m trip v) s) fun t => t.rd (if trip then R.WC_CMPm_TRIP else R.WC_CMPm_ROUTE) (acB r k) m =
        s.merged (if trip then R.WC_CMPm_TRIP else R.WC_CMPm_ROUTE) (acB r k) m v) ∧
  (∀ (s : State) (a : Reader) (r : Rgn) (k : Fin 12) (m : Fin 2), s.mayWrite a r = true → s.gb F.WC_CHK_START (acB r k) = false → chkRefusal s r k m = 0 → 
      Ends (exec (.selfCheck a r k m) s) fun t => t.gf F.WC_CHK_STAT_STATE (acB r k) = 1 ∧ t.gb F.WC_CHK_START (acB r k) = true ∧ (t.cmp r k).cmp = m ∧ (t.cmp r k).sub = false) ∧
  (∀ (s : State) (a : Reader) (r : Rgn) (k : Fin 12) (m : Fin 2), s.mayWrite a r = true → s.gb F.WC_CHK_START (acB r k) = false → chkRefusal s r k m = 0 → 
      Ends (exec (.comparatorSubstitution (.by a) r k m) s) fun t => t.gf F.WC_CHK_STAT_STATE (acB r k) = 1 ∧ (t.cmp r k).cmp = m ∧ (t.cmp r k).sub = true) ∧
  (∀ (s : State) (r : Rgn) (k : Fin 12) (m : Nat), s.gf F.WC_CTRL_CHK_PERIOD (acB r k) ≠ 0 → periodicTarget s r k = some m → chkRefusal s r k m = 0 → 
      Ends (exec (.periodicCheck r k) s) fun t => t.gf F.WC_CHK_STAT_STATE (acB r k) = 1 ∧ (t.cmp r k).cmp = m ∧ (t.cmp r k).perNext = 1 - m) ∧
  (∀ (s : State) (r : Rgn) (k : Fin 12) (d : Bool) (obs : List (Fin 4 × Fin 4)) (e : Levels), (s.cmp r k).paused = false → s.gf F.WC_CHK_STAT_STATE (acB r k) = 1 → 
      Ends (exec (.selfCheckStepEnd r k d obs e) s) fun t => t.gf F.WC_CHK_STAT_STATE (acB r k) = 2) ∧
  (∀ (s : State) (r : Rgn) (k : Fin 12) (d : Bool) (obs : List (Fin 4 × Fin 4)) (e : Levels), (s.cmp r k).paused = false → s.gf F.WC_CHK_STAT_STATE (acB r k) = 4 → (s.cmp r k).cmp < 2 → testFails s r k (s.cmp r k).cmp obs ≠ 0 → 
      Ends (exec (.selfCheckStepEnd r k d obs e) s) fun t => t.gf F.WC_CHK_STAT_STATE (acB r k) = 0 ∧ t.gf F.WC_CHK_STAT_RESULT (acB r k) = 2 ∧
        t.gf F.WC_CMPm_STAT_PHYS (acB r k) (s.cmp r k).cmp = 2 ∧ t.gb F.WC_STATUS_CHK_FAIL (acB r k) = true ∧
        t.gb F.WC_SPARE_STAT_FREE (acB r k) = false) ∧
  (∀ (s : State) (r : Rgn) (k : Fin 12) (d : Bool) (obs : List (Fin 4 × Fin 4)) (e : Levels), (s.cmp r k).paused = false → s.gf F.WC_CHK_STAT_STATE (acB r k) = 7 → (s.cmp r k).sub = false → (s.cmp r k).disagree = false → 
      Ends (exec (.selfCheckStepEnd r k d obs e) s) fun t => t.gf F.WC_CHK_STAT_STATE (acB r k) = 0 ∧ t.gf F.WC_CHK_STAT_RESULT (acB r k) = 1 ∧ t.gb F.WC_CHK_START (acB r k) = false)

/-- R201 to R217: at a period start a duty value that arrived at least 8.0 ns before applies within the limits of R203; the high interval starts and ends at its edges; an epoch puts PER in force; a trigger starts a scan that names it; PER, PHASE and LIM take what R203, R209 and R232 let through. -/
def Obligations.PulseTiming : Prop :=
  (∀ (s : State) (r : Rgn) (c : Fin 16) (sub : Fin 120), (enabled s r c = true ∧ (s.ch r c).everEn = true ∧ (s.ch r c).per ≠ 0) → (s.ch r c).next ≤ fineNow s sub → (s.ch r c).run ≠ .off → (s.ch r c).full = true → (s.ch r c).at_ + 384 ≤ (s.ch r c).next → ((s.ch r c).relLat = false ∧ (s.ch r c).relRs = false ∧ (s.ch r c).lat = false ∧ (s.ch r c).rs = false) → (respOf s r c false ≠ 1 ∧ respOf s r c true ≠ 1) → (s.safeHold = false ∧ frozen s r = false) → 
      Ends (exec (.periodStart r c sub) s) fun t => (t.ch r c).run = .switching ∧ (t.ch r c).full = false ∧
        t.gf F.PG_CHcc_ON_ON (pgB r) c = limitOn s r c (s.gf F.PG_CHcc_DUTY_ON (pgB r) c) % 2 ^ 20 ∧
        (t.ch r c).start = (s.ch r c).next ∧ (t.ch r c).next = (s.ch r c).next + (s.ch r c).per) ∧
  (∀ (s : State) (r : Rgn) (c : Fin 16) (u : Nat) (sub : Fin 120), (s.ch r c).run = .switching → (s.ch r c).wave = .high → (s.ch r c).up = some u → u + (s.ch r c).high ≤ fineNow s sub → 
      Ends (exec (.pwmEdge r c .fall sub) s) fun t => (t.ch r c).wave = .low ∧ (t.ch r c).fell = u + (s.ch r c).high) ∧
  (∀ (s : State) (r : Rgn) (c : Fin 16) (sub : Fin 120), (s.ch r c).run = .switching → (s.ch r c).high ≠ 0 → (s.ch r c).up = none → riseAt s r c ≤ fineNow s sub → 
      Ends (exec (.pwmEdge r c .rise sub) s) fun t => (t.ch r c).wave = .high ∧ (t.ch r c).up = some (riseAt s r c)) ∧
  (∀ (s : State) (r : Rgn) (c : Fin 16) (sub : Fin 120), (s.ch r c).run = .switching → (s.ch r c).wave = .low → s.gb F.PG_CHcc_CFG_LEVELS (pgB r) c = true → s.gf F.PG_CHcc_LOWMAX_LOWMAX (pgB r) c ≠ 0 → (s.ch r c).fell + s.gf F.PG_CHcc_LOWMAX_LOWMAX (pgB r) c ≤ fineNow s sub → 
      Ends (exec (.pwmEdge r c .lowEnd sub) s) fun t => (t.ch r c).wave = .mid) ∧
  (∀ (s : State) (r g : Fin 16) (sub : Fin 120) (e : Nat), s.gb F.PG_GRPg_CTRL_EN (pgB r) g = true → (s.slot r g).first = some e → e ≤ fineNow s sub → 
      Ends (exec (.groupEpoch r g sub) s) fun t => t.gf F.PG_GRPg_APPLIED_PER (pgB r) g = s.gf F.PG_GRPg_PER_PER (pgB r) g ∧ t.slot r g = ⟨none, e⟩) ∧
  (∀ (s : State) (r g : Fin 16) (sub : Fin 120), s.gb F.PG_GRPg_CTRL_EN (pgB r) g = true → (s.slot r g).first = none → s.gf F.PG_GRPg_APPLIED_PER (pgB r) g ≠ 0 → (s.slot r g).epoch + s.gf F.PG_GRPg_APPLIED_PER (pgB r) g ≤ fineNow s sub → 
      Ends (exec (.groupEpoch r g sub) s) fun t => t.gf F.PG_GRPg_APPLIED_PER (pgB r) g = s.gf F.PG_GRPg_PER_PER (pgB r) g ∧
        t.slot r g = ⟨none, (s.slot r g).epoch + s.gf F.PG_GRPg_APPLIED_PER (pgB r) g⟩) ∧
  (∀ (s : State) (r : Rgn) (c : Fin 16) (g : Fin 4) (sub : Fin 120), (enOf s r c = true ∧ (s.ch r c).everEn = true ∧ (s.ch r c).fired = false) → s.gf F.PG_CHcc_TRIG_TRIG (pgB r) c < perOf s r c → (s.ch r c).start + s.gf F.PG_CHcc_TRIG_TRIG (pgB r) c ≤ fineNow s sub → (s.gf F.CG_SCAN_TRIG_SRC (cgB r g) = c.val ∧ s.gf F.CG_SCAN_SMODE (cgB r g) = 2) → converting s r g = true → (s.grp r g).pass = none → 
      Ends (exec (.pgTrigger r c sub) s) fun t => (t.ch r c).fired = true ∧ (t.grp r g).pass = passOf s (cgB r g) (s.gf F.CG_MASK_MASK (cgB r g))) ∧
  (∀ (s : State) (a : Reader) (r : Rgn) (g : Fin 16) (v : Word), s.mayWrite a r = true → (s.gb F.PG_GRPg_CTRL_EN (pgB r) g = false ∨ s.gf F.PG_GRPg_APPLIED_PER (pgB r) g = 0 ∨
    (fOf (s.merged R.PG_GRPg_PER (pgB r) g v) F.PG_GRPg_PER_PER ≤ 2 * s.gf F.PG_GRPg_APPLIED_PER (pgB r) g ∧
    s.gf F.PG_GRPg_APPLIED_PER (pgB r) g ≤ 2 * fOf (s.merged R.PG_GRPg_PER (pgB r) g v) F.PG_GRPg_PER_PER)) → (members s r g).all (fun m => decide (s.gf F.PG_CHcc_LIM_MIN_ON (pgB m.1) m.2 + s.gf F.PG_CHcc_LIM_MIN_OFF (pgB m.1) m.2 ≤
fOf (s.merged R.PG_GRPg_PER (pgB r) g v) F.PG_GRPg_PER_PER)) = true → 
      Ends (exec (.pgGrpPerWrite a r g v) s) fun t => t.rd R.PG_GRPg_PER (pgB r) g = s.merged R.PG_GRPg_PER (pgB r) g v) ∧
  (∀ (s : State) (a : Reader) (r : Rgn) (c : Fin 16) (v : Word), s.mayWrite a r = true → substituting s r c = false → 
      Ends (exec (.pgPhaseWrite a r c v) s) fun t => t.rd R.PG_CHcc_PHASE (pgB r) c = s.merged R.PG_CHcc_PHASE (pgB r) c v) ∧
  (∀ (s : State) (a : Reader) (r : Rgn) (c : Fin 16) (v : Word), s.mayWrite a r = true → substituting s r c = false → s.gf F.PG_GRPg_PER_PER (pgB (grpOf s r c).1) (grpOf s r c).2 = 0 ∨
fOf (s.merged R.PG_CHcc_LIM (pgB r) c v) F.PG_CHcc_LIM_MIN_ON + fOf (s.merged R.PG_CHcc_LIM (pgB r) c v) F.PG_CHcc_LIM_MIN_OFF ≤
s.gf F.PG_GRPg_PER_PER (pgB (grpOf s r c).1) (grpOf s r c).2 → 
      Ends (exec (.pgLimWrite a r c v) s) fun t => t.rd R.PG_CHcc_LIM (pgB r) c = s.merged R.PG_CHcc_LIM (pgB r) c v)

/-- R207 to R229: an enabled group has its first epoch at the next multiple of 16,000 counts; EN of a channel is written and cleared; a duty value arrives from the channel's own source only; the watchdog latches a channel off; a release is taken where no input blocks it; a substitution starts at step 1 and ends with the channel on the spare. -/
def Obligations.PulseControl : Prop :=
  (∀ (s : State) (a : Reader) (r g : Fin 16), s.mayWrite a r = true → s.gb F.PG_GRPg_CTRL_EN (pgB r) g = false → 
      Ends (exec (.groupEnable a r g) s) fun t => t.gb F.PG_GRPg_CTRL_EN (pgB r) g = true ∧ (t.slot r g).first = some (firstEpoch s)) ∧
  (∀ (s : State) (a : Reader) (r g : Fin 16), s.mayWrite a r = true → 
      Ends (exec (.groupDisable a r g) s) fun t => t.gb F.PG_GRPg_CTRL_EN (pgB r) g = false) ∧
  (∀ (s : State) (a : Reader) (r : Rgn) (c : Fin 16), s.mayWrite a r = true → substituting s r c = false → 
      Ends (exec (.channelEnable a r c) s) fun t => t.gb F.PG_CHcc_CFG_EN (pgB r) c = true ∧ (t.ch r c).everEn = true) ∧
  (∀ (s : State) (a : Reader) (r : Rgn) (c : Fin 16), s.mayWrite a r = true → substituting s r c = false → 
      Ends (exec (.channelDisable a r c) s) fun t => t.gb F.PG_CHcc_CFG_EN (pgB r) c = false) ∧
  (∀ (s : State) (a : Reader) (r : Rgn) (c : Fin 16) (v : Word) (sub : Fin 120), s.mayWrite a r = true → s.gf F.PG_CHcc_CFG_DSRC (pgB r) c = 0 → 
      Ends (exec (.dutyWrite a r c v sub) s) fun t => t.gf F.PG_CHcc_DUTY_ON (pgB r) c = fOf v F.PG_CHcc_DUTY_ON ∧ (t.ch r c).full = true ∧ (t.ch r c).at_ = fineNow s sub) ∧
  (∀ (s : State) (r : Rgn) (line : Fin 8) (c : Fin 16) (v : Word) (sub : Fin 120), s.clk r = 0 → s.gf F.PG_CHcc_CFG_DSRC (pgB r) c = 2 → s.gf F.PG_CHcc_CFG_SRC_PORT (pgB r) c = line.val → 
      Ends (exec (.fabricDutyStrobe r line v sub) s) fun t => t.gf F.PG_CHcc_DUTY_ON (pgB r) c = fOf v F.PG_CHcc_DUTY_ON ∧ (t.ch r c).full = true ∧ (t.ch r c).at_ = fineNow s sub) ∧
  (∀ (s : State) (r : Rgn) (c : Fin 16), s.gf F.PG_CHcc_CFG_WDOG (pgB r) c ≠ 0 → s.gf F.PG_CHcc_CFG_WDOG (pgB r) c ≤ (s.ch r c).wdog → (s.ch r c).latW = false → 
      Ends (exec (.dutyWatchdog r c) s) fun t => (t.ch r c).latW = true ∧ t.gf F.PG_CHcc_STAT_CAUSE (pgB r) c = 3 ∧ t.gb F.PG_EVT_WDOG (pgB r) = true) ∧
  (∀ (s : State) (a : Reader) (r : Rgn) (c : Fin 16), s.mayWrite a r = true → substituting s r c = false → (s.ch r c).lat = true → ((r.val, c.val) :: members s (grpOf s r c).1 (grpOf s r c).2).all (fun m => !(s.ch m.1 m.2).rs) = true → ((s.ch r c).latA = true → tripIn s r c false = false) → ((s.ch r c).latB = true → tripIn s r c true = false) → 
      Ends (exec (.rel a r c 1) s) fun t => (t.ch r c).relLat = true) ∧
  (∀ (s : State) (a : Reader) (r : Rgn) (c : Fin 16), s.mayWrite a r = true → s.gb F.PG_SUB_START (pgB r) = false → s.gb F.PG_SPARE_STAT_FREE (pgB r) = true → s.gf F.PG_SUB_STAT_STATE (pgB r) = 0 → enOf s r c = true → 
      Ends (exec (.pgSubstitution (.by a) r c) s) fun t => t.gf F.PG_SUB_STAT_STATE (pgB r) = 1 ∧ t.gb F.PG_SUB_START (pgB r) = true ∧ (t.pgSub.get r).ch = c) ∧
  (∀ (s : State) (r : Rgn) (x y : Bool), s.gf F.PG_SUB_STAT_STATE (pgB r) = 4 → (s.pgSub.get r).forced = false → (s.pgSub.get r).ch < 16 → 
      Ends (exec (.pgSubstitutionStepEnd r x y) s) fun t => t.gf F.PG_SUB_STAT_STATE (pgB r) = 0 ∧ t.gf F.PG_SUB_STAT_RESULT (pgB r) = 1 ∧
        t.gf F.PG_CHcc_STAT_PHYS (pgB r) (s.pgSub.get r).ch = 16 ∧ t.gb F.PG_SPARE_STAT_FREE (pgB r) = false)

/-- R240, R269: each multiply operation that issues has its exact result under R248 (or R250) on its way, landing two cycles after its issue; a multiply-accumulate takes a result of the cycle before from its chain. -/
def Obligations.EngineMultiply : Prop :=
  (∀ (s : State) (r : Rgn), issues s r (.arith 1) = true → 
      Ends (exec (.mul r) s) fun t => (t.eng r).owes ((s.eng r).cyc + 2) ((s.eng r).aTgt (opA s r)) (accWord s r (datAt s r (opX s r) * datAt s r (opY s r))) false = true) ∧
  (∀ (s : State) (r : Rgn), issues s r (.arith 2) = true → 
      Ends (exec (.mula r) s) fun t => (t.eng r).owes ((s.eng r).cyc + 2) ((s.eng r).aTgt (opA s r)) (accWord s r ((s.eng r).accFor true (opA s r) + datAt s r (opX s r) * datAt s r (opY s r))) true = true) ∧
  (∀ (s : State) (r : Rgn), issues s r (.arith 3) = true → 
      Ends (exec (.muls r) s) fun t => (t.eng r).owes ((s.eng r).cyc + 2) ((s.eng r).aTgt (opA s r)) (accWord s r ((s.eng r).accFor true (opA s r) - datAt s r (opX s r) * datAt s r (opY s r))) true = true) ∧
  (∀ (s : State) (r : Rgn), issues s r (.arith 4) = true → 
      Ends (exec (.mul4 r) s) fun t => ∀ l : Fin 4, (t.eng r).owes ((s.eng r).cyc + 2) ((s.eng r).aTgt (opA s r + l)) (accWord s r (datAt s r (opX s r + l) * datAt s r (opY s r + l))) false = true) ∧
  (∀ (s : State) (r : Rgn), issues s r (.arith 5) = true → 
      Ends (exec (.mula4 r) s) fun t => ∀ l : Fin 4, (t.eng r).owes ((s.eng r).cyc + 2) ((s.eng r).aTgt (opA s r + l)) (accWord s r ((s.eng r).accFor true (opA s r + l) + datAt s r (opX s r + l) * datAt s r (opY s r + l))) true = true) ∧
  (∀ (s : State) (r : Rgn), issues s r (.arith 6) = true → 
      Ends (exec (.muls4 r) s) fun t => ∀ l : Fin 4, (t.eng r).owes ((s.eng r).cyc + 2) ((s.eng r).aTgt (opA s r + l)) (accWord s r ((s.eng r).accFor true (opA s r + l) - datAt s r (opX s r + l) * datAt s r (opY s r + l))) true = true) ∧
  (∀ (s : State) (r : Rgn), issues s r (.arith 7) = true → 
      Ends (exec (.mul4b r) s) fun t => ∀ l : Fin 4, (t.eng r).owes ((s.eng r).cyc + 2) ((s.eng r).aTgt (opA s r + l)) (accWord s r (datAt s r (opX s r + l) * datAt s r (opY s r))) false = true) ∧
  (∀ (s : State) (r : Rgn), issues s r (.arith 8) = true → 
      Ends (exec (.mula4b r) s) fun t => ∀ l : Fin 4, (t.eng r).owes ((s.eng r).cyc + 2) ((s.eng r).aTgt (opA s r + l)) (accWord s r ((s.eng r).accFor true (opA s r + l) + datAt s r (opX s r + l) * datAt s r (opY s r))) true = true) ∧
  (∀ (s : State) (r : Rgn), issues s r (.arith 9) = true → 
      Ends (exec (.mular r) s) fun t => (t.eng r).owes ((s.eng r).cyc + 2) ((s.eng r).aTgt (opA s r)) (rndWord s r ((s.eng r).accFor true (opA s r) + datAt s r (opX s r) * datAt s r (opY s r))) true = true) ∧
  (∀ (s : State) (r : Rgn), issues s r (.arith 0x27) = true → 
      Ends (exec (.dmul r) s) fun t => (t.eng r).owes ((s.eng r).cyc + 2) ((s.eng r).dTgt (opF s r)) ((accToD (opS s r) (datAt s r (opX s r) * datAt s r (opY s r))).1.setWidth 56) false = true)

/-- R240: each accumulator operation that issues leaves its exact result, narrowed by R248 (and R250 where it rounds), in its accumulator for the next packet. -/
def Obligations.EngineAccumulators : Prop :=
  (∀ (s : State) (r : Rgn), issues s r (.arith 0x10) = true → 
      Ends (exec (.add r) s) fun t => (t.eng r).at ((s.eng r).aTgt (opA s r)) = accWord s r (accAt s r (opA s r) + accAt s r (opF s r % 8))) ∧
  (∀ (s : State) (r : Rgn), issues s r (.arith 0x11) = true → 
      Ends (exec (.sub r) s) fun t => (t.eng r).at ((s.eng r).aTgt (opA s r)) = accWord s r (accAt s r (opA s r) - accAt s r (opF s r % 8))) ∧
  (∀ (s : State) (r : Rgn), issues s r (.arith 0x12) = true → 
      Ends (exec (.addd r) s) fun t => (t.eng r).at ((s.eng r).aTgt (opA s r)) = accWord s r (accAt s r (opA s r) + datAt s r (opX s r) * 2 ^ 23)) ∧
  (∀ (s : State) (r : Rgn), issues s r (.arith 0x13) = true → 
      Ends (exec (.subd r) s) fun t => (t.eng r).at ((s.eng r).aTgt (opA s r)) = accWord s r (accAt s r (opA s r) - datAt s r (opX s r) * 2 ^ 23)) ∧
  (∀ (s : State) (r : Rgn), issues s r (.arith 0x14) = true → 
      Ends (exec (.mova r) s) fun t => (t.eng r).at ((s.eng r).aTgt (opA s r)) = accWord s r (datAt s r (opX s r) * 2 ^ 23)) ∧
  (∀ (s : State) (r : Rgn), issues s r (.arith 0x16) = true → 
      Ends (exec (.rnd r) s) fun t => (t.eng r).at ((s.eng r).aTgt (opA s r)) = rndWord s r (accAt s r (opA s r))) ∧
  (∀ (s : State) (r : Rgn), issues s r (.arith 0x17) = true → 
      Ends (exec (.neg r) s) fun t => (t.eng r).at ((s.eng r).aTgt (opA s r)) = accWord s r (-accAt s r (opA s r))) ∧
  (∀ (s : State) (r : Rgn), issues s r (.arith 0x18) = true → 
      Ends (exec (.abs r) s) fun t => (t.eng r).at ((s.eng r).aTgt (opA s r)) = accWord s r (accAt s r (opA s r)).natAbs) ∧
  (∀ (s : State) (r : Rgn), issues s r (.arith 0x19) = true → 
      Ends (exec (.clr r) s) fun t => (t.eng r).at ((s.eng r).aTgt (opA s r)) = 0) ∧
  (∀ (s : State) (r : Rgn), issues s r (.arith 0x1A) = true → 
      Ends (exec (.asl r) s) fun t => (t.eng r).at ((s.eng r).aTgt (opA s r)) = accWord s r (accAt s r (opA s r) * 2 ^ opF s r)) ∧
  (∀ (s : State) (r : Rgn), issues s r (.arith 0x1B) = true → 
      Ends (exec (.asr r) s) fun t => (t.eng r).at ((s.eng r).aTgt (opA s r)) = accWord s r (accAt s r (opA s r) / 2 ^ opF s r)) ∧
  (∀ (s : State) (r : Rgn), issues s r (.arith 0x1C) = true → 
      Ends (exec (.norm r) s) fun t => (t.eng r).at ((s.eng r).aTgt (opA s r)) = BitVec.ofInt 56 (normalise (accAt s r (opA s r))) ∧
        (t.eng r).at ((s.eng r).dTgt (opF s r)) = (BitVec.ofInt 24 (exponentOf (accAt s r (opA s r)))).setWidth 56) ∧
  (∀ (s : State) (r : Rgn), issues s r (.arith 0x1E) = true → 
      Ends (exec (.max r) s) fun t => (t.eng r).at ((s.eng r).aTgt (opA s r)) = accWord s r (max (accAt s r (opA s r)) (accAt s r (opF s r % 8)))) ∧
  (∀ (s : State) (r : Rgn), issues s r (.arith 0x1F) = true → 
      Ends (exec (.min r) s) fun t => (t.eng r).at ((s.eng r).aTgt (opA s r)) = accWord s r (min (accAt s r (opA s r)) (accAt s r (opF s r % 8)))) ∧
  (∀ (s : State) (r : Rgn), issues s r (.arith 0x21) = true → 
      Ends (exec (.lim r) s) fun t => (t.eng r).at ((s.eng r).aTgt (opA s r)) = accWord s r (min (max (accAt s r (opA s r)) (-((datAt s r (opX s r) * 2 ^ 23).natAbs : Int))) ((datAt s r (opX s r) * 2 ^ 23).natAbs : Int)))

/-- R240, R249, R251: each data-register operation that issues leaves its result in DF for the next packet; comparisons set Z and N from the exact difference and clear V; NOP only moves on. -/
def Obligations.EngineData : Prop :=
  (∀ (s : State) (r : Rgn), issues s r (.arith 0x15) = true → 
      Ends (exec (.movd r) s) fun t => (t.eng r).at ((s.eng r).dTgt (opF s r)) = ((accToD (opS s r) (accAt s r (opA s r))).1).setWidth 56) ∧
  (∀ (s : State) (r : Rgn), issues s r (.arith 0x1D) = true → 
      Ends (exec (.exp r) s) fun t => (t.eng r).at ((s.eng r).dTgt (opF s r)) = (BitVec.ofInt 24 (exponentOf (accAt s r (opA s r)))).setWidth 56) ∧
  (∀ (s : State) (r : Rgn), issues s r (.arith 0x22) = true → 
      Ends (exec (.dadd r) s) fun t => (t.eng r).at ((s.eng r).dTgt (opF s r)) = ((storeD (opS s r) (datAt s r (opX s r) + datAt s r (opY s r))).1).setWidth 56) ∧
  (∀ (s : State) (r : Rgn), issues s r (.arith 0x23) = true → 
      Ends (exec (.dsub r) s) fun t => (t.eng r).at ((s.eng r).dTgt (opF s r)) = ((storeD (opS s r) (datAt s r (opX s r) - datAt s r (opY s r))).1).setWidth 56) ∧
  (∀ (s : State) (r : Rgn), issues s r (.arith 0x24) = true → 
      Ends (exec (.dand r) s) fun t => (t.eng r).at ((s.eng r).dTgt (opF s r)) = ((s.eng r).dreg (opX s r) &&& (s.eng r).dreg (opY s r)).setWidth 56) ∧
  (∀ (s : State) (r : Rgn), issues s r (.arith 0x25) = true → 
      Ends (exec (.dor r) s) fun t => (t.eng r).at ((s.eng r).dTgt (opF s r)) = ((s.eng r).dreg (opX s r) ||| (s.eng r).dreg (opY s r)).setWidth 56) ∧
  (∀ (s : State) (r : Rgn), issues s r (.arith 0x26) = true → 
      Ends (exec (.dxor r) s) fun t => (t.eng r).at ((s.eng r).dTgt (opF s r)) = ((s.eng r).dreg (opX s r) ^^^ (s.eng r).dreg (opY s r)).setWidth 56) ∧
  (∀ (s : State) (r : Rgn), issues s r (.arith 0x20) = true → 
      Ends (exec (.cmp r) s) fun t => (t.eng r).cur.sr.getLsbD 0 = decide (accAt s r (opA s r) = accAt s r (opF s r % 8)) ∧ (t.eng r).cur.sr.getLsbD 1 = decide (accAt s r (opA s r) < accAt s r (opF s r % 8)) ∧
        (t.eng r).cur.sr.getLsbD 2 = false) ∧
  (∀ (s : State) (r : Rgn), issues s r (.arith 0x28) = true → 
      Ends (exec (.dcmp r) s) fun t => (t.eng r).cur.sr.getLsbD 0 = decide (datAt s r (opX s r) = datAt s r (opY s r)) ∧ (t.eng r).cur.sr.getLsbD 1 = decide (datAt s r (opX s r) < datAt s r (opY s r)) ∧
        (t.eng r).cur.sr.getLsbD 2 = false) ∧
  (∀ (s : State) (r : Rgn), issues s r (.arith 0) = true → (s.eng r).loopList = [] → 
      Ends (exec (.nop r) s) fun t => (t.eng r).pc = ((s.eng r).pc + 1) % 8192 ∧ (t.eng r).cyc = (s.eng r).cyc + 1 ∧ (t.eng r).cur.sr = (s.eng r).cur.sr)

/-- R242 to R267: a load and an input-port read have their words on their way, landing two cycles after issue; a store writes its word at its pointer; an output joins its port's transfers; a special register is read for the next packet; a pointer is modified. R247: an immediate packet that issues writes its register for the next packet. -/
def Obligations.EngineMoves : Prop :=
  (∀ (s : State) (r : Rgn), issues s r (.move 1) = true → 
      Ends (exec (.ld r) s) fun t => (t.eng r).owes ((s.eng r).cyc + 2) ((s.eng r).dTgt (slotReg s r))
        ((xyGet s r (nameY s r) (slotAddr s r)).setWidth 56) false = true) ∧
  (∀ (s : State) (r : Rgn), issues s r (.move 2) = true → 
      Ends (exec (.st r) s) fun t => xyGet t r (nameY s r) (slotAddr s r) = (s.eng r).dreg (slotReg s r)) ∧
  (∀ (s : State) (r : Rgn), issues s r (.move 3) = true → 
      Ends (exec (.sta r) s) fun t => xyGet t r (nameY s r) (slotAddr s r) = (accToD (opS s r) (accAt s r (slotAux s r))).1) ∧
  (∀ (s : State) (r : Rgn) (x : Xfer) (l : List Xfer), issues s r (.move 4) = true → ((s.eng r).ports.get (slotAux s r)).buf = x :: l → 
      Ends (exec (.inPort r) s) fun t => (t.eng r).owes ((s.eng r).cyc + 2) ((s.eng r).dTgt (slotReg s r)) (x.w0.setWidth 56) false = true ∧
        (t.eng r).owes ((s.eng r).cyc + 2) ((s.eng r).dTgt (slotReg s r + 1)) (x.w1.setWidth 56) false = true) ∧
  (∀ (s : State) (r : Rgn), issues s r (.move 5) = true → (slotTwin s r = false ∨ pf (atPc s r) 2 0 ≠ slotAux s r) → s.gf F.LE_OUTp_CFG_DEST (leB r) (slotAux s r) ≠ 3 → (nameSlot s r / 2 ^ 3 % 32 < 31 ∨ slotReg s r < 31) → 
      Ends (exec (.outPort r) s) fun t => (t.eng r).outq.get (slotAux s r) = (s.eng r).outq.get (slotAux s r) ++
        [⟨(s.eng r).dreg (slotReg s r), (outWord1 s r (slotAux s r) (nameSlot s r / 2 ^ 3 % 32) (slotReg s r)).1⟩]) ∧
  (∀ (s : State) (r : Rgn), issues s r (.move 6) = true → (slotTwin s r = false ∨ pf (atPc s r) 12 8 ≠ slotReg s r) → 
      Ends (exec (.movs r) s) fun t => (t.eng r).at ((s.eng r).dTgt (slotReg s r)) = (special ⟨s, none, [], [], [], []⟩ (s.eng r) r (slotAux s r)).1.setWidth 56) ∧
  (∀ (s : State) (r : Rgn), issues s r (.move 7) = true → (pf (atPc s r) 15 13 = 0 ∨ nameY s r = true ∨ pf (atPc s r) 7 5 ≠ slotPtr s r) → slotMod s r ≠ 0 → 
      Ends (exec (.modp r) s) fun t => (t.eng r).cur.p.get (slotPtr s r) = modPtr (s.eng r) (slotPtr s r) (slotMod s r)) ∧
  (∀ (s : State) (r : Rgn), issues s r (.imm 0) = true → 
      Ends (exec (.immD r) s) fun t => (t.eng r).at ((s.eng r).dTgt (pf (atPc s r) 54 50)) = BitVec.ofNat 56 (pf (atPc s r) 23 0)) ∧
  (∀ (s : State) (r : Rgn), issues s r (.imm 1) = true → 
      Ends (exec (.immP r) s) fun t => (t.eng r).cur.p.get (pf (atPc s r) 54 50) = BitVec.ofNat 14 (pf (atPc s r) 23 0)) ∧
  (∀ (s : State) (r : Rgn), issues s r (.imm 2) = true → 
      Ends (exec (.immM r) s) fun t => (t.eng r).m.get (pf (atPc s r) 54 50) = BitVec.ofNat 14 (pf (atPc s r) 23 0)) ∧
  (∀ (s : State) (r : Rgn), issues s r (.imm 3) = true → 
      Ends (exec (.immL r) s) fun t => (t.eng r).l.get (pf (atPc s r) 54 50) = BitVec.ofNat 14 (pf (atPc s r) 23 0)) ∧
  (∀ (s : State) (r : Rgn), issues s r (.imm 4) = true → 
      Ends (exec (.immB r) s) fun t => (t.eng r).b.get (pf (atPc s r) 54 50) = BitVec.ofNat 14 (pf (atPc s r) 23 0)) ∧
  (∀ (s : State) (r : Rgn), issues s r (.imm 5) = true → 
      Ends (exec (.immSr r) s) fun t => (t.eng r).cur.sr = BitVec.ofNat 12 (pf (atPc s r) 23 0 % 256)) ∧
  (∀ (s : State) (r : Rgn), issues s r (.imm 6) = true → (s.eng r).loopList = [] → 
      Ends (exec (.immRofs r) s) fun t => (t.eng r).rofs = pf (atPc s r) 23 0)

/-- R245 to R265: jumps, calls, returns, loops and breaks move PC and the stacks; waits begin and end; DI and EI write SR.EM; ROT steps ROFS; HALT halts; CWR puts its write on its way and CRD waits for its data; EVOUT is a trigger of the converter groups. -/
def Obligations.EngineControl : Prop :=
  (∀ (s : State) (r : Rgn), issues s r (.ctl 0) = true → (s.eng r).loopList = [] → 
      Ends (exec (.controlNop r) s) fun t => (t.eng r).pc = ((s.eng r).pc + 1) % 8192 ∧ (t.eng r).cyc = (s.eng r).cyc + 1) ∧
  (∀ (s : State) (r : Rgn), issues s r (.ctl 1) = true → 
      Ends (exec (.jmp r) s) fun t => (t.eng r).pc = pf (atPc s r) 12 0 ∧ (t.eng r).cyc = (s.eng r).cyc + 2) ∧
  (∀ (s : State) (r : Rgn), issues s r (.ctl 2) = true → 
      Ends (exec (.jsr r) s) fun t => (t.eng r).pc = pf (atPc s r) 12 0 ∧ (t.eng r).rets = ((s.eng r).pc + 1) % 8192 :: (s.eng r).rets) ∧
  (∀ (s : State) (r : Rgn) (a : Nat) (l : List Nat), issues s r (.ctl 3) = true → (s.eng r).rets = a :: l → 
      Ends (exec (.rts r) s) fun t => (t.eng r).pc = a % 8192 ∧ (t.eng r).rets = l) ∧
  (∀ (s : State) (r : Rgn), issues s r (.ctl 4) = true → 
      Ends (exec (.rte r) s) fun t => (t.eng r).handler = false ∧ (t.eng r).pc = (s.eng r).ret % 8192) ∧
  (∀ (s : State) (r : Rgn), issues s r (.ctl 5) = true → 
      Ends (exec (.loop r) s) fun t => (t.eng r).pc = ((s.eng r).pc + 1) % 8192 ∧
        (t.eng r).loopList = ⟨((s.eng r).pc + 1) % 8192, pf (atPc s r) 12 0,
        if pf (atPc s r) 47 32 = 0 then none else some (pf (atPc s r) 47 32), decide (pf (atPc s r) 29 29 = 1)⟩ :: (s.eng r).loopList) ∧
  (∀ (s : State) (r : Rgn) (n : Nat), issues s r (.ctl 6) = true → ((s.eng r).dreg (pf (atPc s r) 28 24)).toNat % 65536 = n → n ≠ 0 → 
      Ends (exec (.loopd r) s) fun t => (t.eng r).pc = ((s.eng r).pc + 1) % 8192 ∧
        (t.eng r).loopList = ⟨((s.eng r).pc + 1) % 8192, pf (atPc s r) 12 0, some n, decide (pf (atPc s r) 29 29 = 1)⟩ :: (s.eng r).loopList) ∧
  (∀ (s : State) (r : Rgn) (x : LoopE) (l : List LoopE), issues s r (.ctl 7) = true → (s.eng r).loopList = x :: l → 
      Ends (exec (.breakLoop r) s) fun t => (t.eng r).pc = (x.last + 1) % 8192 ∧ (t.eng r).loopList = l) ∧
  (∀ (s : State) (r : Rgn) (n : Nat), issues s r (.ctl 8) = true → ((s.eng r).ports.get (pf (atPc s r) 23 20)).buf = [] → 
      Ends (exec (.waitin r n) s) fun t => (t.eng r).mode = .waitIn ∧ (t.eng r).pc = (s.eng r).pc) ∧
  (∀ (s : State) (r : Rgn) (n : Nat) (x : Xfer) (l : List Xfer), issues s r (.ctl 8) = true → ((s.eng r).ports.get (pf (atPc s r) 23 20)).buf = x :: l → 
      Ends (exec (.waitin r n) s) fun t => (t.eng r).mode = .running ∧
        (t.eng r).owes ((s.eng r).cyc + 2) ((s.eng r).dTgt (pf (atPc s r) 28 24)) (x.w0.setWidth 56) false = true) ∧
  (∀ (s : State) (r : Rgn) (n : Nat), issues s r (.ctl 9) = true → 
      Ends (exec (.wait r n) s) fun t => (t.eng r).mode = .waitEv ∧ (t.eng r).pc = (s.eng r).pc) ∧
  (∀ (s : State) (r : Rgn) (g : Fin 4), issues s r (.ctl 10) = true → (s.gf F.CG_SCAN_TRIG_SRC (cgB r g) = 0x10 + pf (atPc s r) 23 20 ∧ s.gf F.CG_SCAN_SMODE (cgB r g) = 2) → converting s r g = true → (s.grp r g).pass = none → 
      Ends (exec (.evout r) s) fun t => (t.grp r g).pass = passOf s (cgB r g) (s.gf F.CG_MASK_MASK (cgB r g)) ∧
        (t.eng r).evAt.get (pf (atPc s r) 23 20) = s.hub.base + 1) ∧
  (∀ (s : State) (r : Rgn), issues s r (.ctl 11) = true → 
      Ends (exec (.di r) s) fun t => (t.eng r).cur.sr.getLsbD 7 = true) ∧
  (∀ (s : State) (r : Rgn), issues s r (.ctl 12) = true → 
      Ends (exec (.ei r) s) fun t => (t.eng r).cur.sr.getLsbD 7 = false) ∧
  (∀ (s : State) (r : Rgn), issues s r (.ctl 13) = true → (s.eng r).loopList = [] → 
      Ends (exec (.rot r) s) fun t => (t.eng r).rofs = ((s.eng r).rofs + 1) % 16) ∧
  (∀ (s : State) (r : Rgn), issues s r (.ctl 14) = true → 
      Ends (exec (.halt r) s) fun t => (t.eng r).mode = .halted ∧ t.gb F.LE_EVT_HALTED (leB r) = true) ∧
  (∀ (s : State) (r : Rgn) (n : Nat), issues s r (.ctl 15) = true → (s.eng r).cwr.length < 4 → 
      Ends (exec (.cwr r n) s) fun t => (t.eng r).cwr = (s.eng r).cwr ++ [(((s.eng r).dreg (pf (atPc s r) 28 24)).toNat &&& 0xF_FFFC,
        BitVec.ofNat 32 (((s.eng r).dreg (pf (atPc s r) 28 24 + 1)).toNat % 65536 * 65536 +
        ((s.eng r).dreg (pf (atPc s r) 28 24 + 2)).toNat % 65536))]) ∧
  (∀ (s : State) (r : Rgn) (n : Nat), issues s r (.ctl 15) = true → 4 ≤ (s.eng r).cwr.length → 
      Ends (exec (.cwr r n) s) fun t => (t.eng r).cwr = (s.eng r).cwr ∧ (t.eng r).pc = (s.eng r).pc ∧
        (t.eng r).mode = .cwr (((s.eng r).dreg (pf (atPc s r) 28 24)).toNat &&& 0xF_FFFC)
        (((s.eng r).dreg (pf (atPc s r) 28 24 + 1)).toNat % 65536 * 65536 + ((s.eng r).dreg (pf (atPc s r) 28 24 + 2)).toNat % 65536)) ∧
  (∀ (s : State) (r : Rgn) (off v n : Nat), (s.eng r).mode = .cwr off v → (s.clk r = 0 ∧ (s.eng r).paused = false) → (s.eng r).cwr.length < 4 → (s.gb F.LE_CTRL_RUN (leB r) = true ∧ s.gb F.LE_CTRL_STEP (leB r) = false) → 
      Ends (exec (.cwr r n) s) fun t => (t.eng r).cwr = (s.eng r).cwr ++ [(off, BitVec.ofNat 32 v)] ∧ (t.eng r).mode = .running ∧ (t.eng r).cyc = (s.eng r).cyc + n + 1) ∧
  (∀ (s : State) (r : Rgn), issues s r (.ctl 16) = true → 
      Ends (exec (.crd r) s) fun t => (t.eng r).mode = .crd (((s.eng r).dreg (pf (atPc s r) 28 24)).toNat &&& 0xF_FFFC) (pf (atPc s r) 28 24))

/-- R255 to R273: a loop whose count has run out is left; an illegal packet faults the engine with its cause and address; a rising edge makes an event pending, or is captured while the clock is stopped; an enabled event enters its handler; a transfer arrives at an input port; a WAITIN times out on an empty port; a CRD takes its data. -/
def Obligations.EngineEvents : Prop :=
  (∀ (s : State) (r : Rgn) (a : Nat) (x : LoopE), (s.eng r).atEnd = some a → (s.clk r = 0 ∧ (s.eng r).paused = false) → (s.eng r).loopList = [x] → 
      Ends (exec (.loopEnd r) s) fun t => (t.eng r).loopList = [] ∧ (t.eng r).pc = (a + 1) % 8192 ∧ (t.eng r).atEnd = none ∧
        (t.eng r).rofs = if x.rot then ((s.eng r).rofs + 1) % 16 else (s.eng r).rofs) ∧
  (∀ (s : State) (r : Rgn) (a : Nat) (x y : LoopE) (l : List LoopE), (s.eng r).atEnd = some a → (s.clk r = 0 ∧ (s.eng r).paused = false) → (s.eng r).loopList = x :: y :: l → y.last ≠ a → 
      Ends (exec (.loopEnd r) s) fun t => (t.eng r).loopList = y :: l ∧ (t.eng r).pc = (a + 1) % 8192) ∧
  (∀ (s : State) (r : Rgn), leReady s r = true → leFaultCause s r ≠ 0 → 
      Ends (exec (.illegalPacket r) s) fun t => (t.eng r).mode = .faulted ∧ t.gf F.LE_FAULT_CAUSE (leB r) = leFaultCause s r ∧
        t.gf F.LE_FAULT_FPC (leB r) = (s.eng r).pc % 8192 ∧ t.gb F.LE_EVT_FAULT (leB r) = true) ∧
  (∀ (s : State) (r : Rgn) (e : Fin 32), s.clk r = 0 → 
      Ends (exec (.eventPending r e) s) fun t => (t.gf F.LE_EVPEND_PEND (leB r)).testBit e = true) ∧
  (∀ (s : State) (r : Rgn) (e : Fin 32), s.clk r ≠ 0 → 
      Ends (exec (.eventPending r e) s) fun t => (t.rgnS r).evCap.testBit e = true) ∧
  (∀ (s : State) (r : Rgn) (n : Nat), takesEvents s r = true → (s.eng r).mode = .running → s.gf F.LE_EVPEND_PEND (leB r) &&& s.gf F.LE_EVEN_EN (leB r) ≠ 0 → 
      Ends (exec (.eventEntry r n) s) fun t => (t.eng r).handler = true ∧ (t.eng r).ret = (s.eng r).pc ∧
        (t.eng r).pc = (s.gf F.LE_VECBASE_BASE (leB r) +
        4 * lowestBit (s.gf F.LE_EVPEND_PEND (leB r) &&& s.gf F.LE_EVEN_EN (leB r))) % 8192) ∧
  (∀ (s : State) (r : Rgn), s.gf F.LE_TIMER_PERIOD (leB r) ≠ 0 → s.clk r = 0 → 
      Ends (exec (.leTimerExpire r) s) fun t => (t.gf F.LE_EVPEND_PEND (leB r)).testBit 29 = true) ∧
  (∀ (s : State) (r : Rgn) (p : Fin 8) (w0 w1 : BitVec 24), s.gb F.LE_INp_CFG_MODE (leB r) p = false → ((s.eng r).ports.get p).buf.length < 4 → 
      Ends (exec (.portTransfer (.hub r p w0 w1)) s) fun t => ((t.eng r).ports.get p).buf = ((s.eng r).ports.get p).buf ++ [⟨w0, w1⟩]) ∧
  (∀ (s : State) (r : Rgn) (p : Fin 8) (q i : Nat) (x : Xfer) (l : List Xfer), s.clk r = 0 → (s.eng r).outq.get p = x :: l → s.gf F.LE_OUTp_CFG_DEST (leB r) p = 1 → (s.gf F.LE_OUTp_CFG_RGN (leB r) p = q ∧ s.gf F.LE_OUTp_CFG_PORT (leB r) p = i ∧ i < 8) → s.gb F.LE_INp_CFG_MODE (leB q) i = false → ((s.eng q).ports.get i).buf.length < 4 → 
      Ends (exec (.portTransfer (.engine r p)) s) fun t => ((t.eng q).ports.get i).buf = ((s.eng q).ports.get i).buf ++ [x] ∧ (t.eng r).outq.get p = l) ∧
  (∀ (s : State) (r : Rgn), leWaits s r .waitIn = true → s.gf F.LE_WAIT_TMO_CYC (leB r) ≠ 0 → ((s.eng r).ports.get (pf (atPc s r) 23 20)).buf = [] → s.gb F.LE_CTRL_STEP (leB r) = false → 
      Ends (exec (.waitinTimeout r) s) fun t => (t.eng r).mode = .running ∧ t.gb F.LE_EVT_WAIT_TMO (leB r) = true ∧ t.gb F.LE_EVT_STALE (leB r) = true) ∧
  (∀ (s : State) (r : Rgn) (n off k : Nat), (s.eng r).mode = .crd off k → (s.clk r = 0 ∧ (s.eng r).paused = false ∧ (s.eng r).cwr = []) → (s.gb F.LE_CTRL_STEP (leB r) = false ∧ s.gb F.LE_CTRL_RUN (leB r) = true) → 
      Ends (exec (.crdComplete r n) s) fun t => (t.eng r).mode = .running ∧ (t.eng r).at ((s.eng r).dTgt (k + 1)) =
        BitVec.ofNat 56 ((readWord s (.le r) (rgnBase r + off) 0).1.toNat / 65536)) ∧
  (∀ (s : State) (r : Rgn) (n off k : Nat), (s.eng r).mode = .crd off k → (s.clk r = 0 ∧ (s.eng r).paused = false ∧ (s.eng r).cwr = []) → s.gb F.LE_CTRL_RUN (leB r) = false → 
      Ends (exec (.crdComplete r n) s) fun t => (t.eng r).mode = .halted)

/-- R272 to R280: RUN starts and stops an engine, STEP readies one packet, ERST returns it to LE_START; program memory and the window take writes of a stopped engine, X and Y memory of any; a tap's oldest result goes to its input port, a duty transfer to its channel. R276 to R278: a substitution starts at step 1 with the free spare; a signature that agrees leads to step 2, one that does not fails the spare; step 4 ends it; a shadow mismatch forces the handover. -/
def Obligations.EngineAccess : Prop :=
  (∀ (s : State) (a : Reader) (r : Rgn), s.mayWrite a r = true → (s.gb F.LE_CTRL_STEP (leB r) = false ∧ s.gb F.LE_CTRL_ERST (leB r) = false) → (s.eng r).mode = .halted → 
      Ends (exec (.leRun a r) s) fun t => (t.eng r).mode = .running ∧ t.gb F.LE_CTRL_RUN (leB r) = true) ∧
  (∀ (s : State) (a : Reader) (r : Rgn), s.mayWrite a r = true → (s.gb F.LE_CTRL_STEP (leB r) = false ∧ s.gb F.LE_CTRL_ERST (leB r) = false) → s.gb F.LE_CTRL_LIVE (leB r) = false → ((s.eng r).mode = .running ∨ (s.eng r).mode = .waitIn ∨ (s.eng r).mode = .waitEv ∨ (s.eng r).mode = .halted) → 
      Ends (exec (.leHaltRequest a r) s) fun t => (t.eng r).mode = .halted ∧ t.gb F.LE_CTRL_RUN (leB r) = false) ∧
  (∀ (s : State) (a : Reader) (r : Rgn) (off k : Nat), s.mayWrite a r = true → (s.gb F.LE_CTRL_STEP (leB r) = false ∧ s.gb F.LE_CTRL_ERST (leB r) = false) → s.gb F.LE_CTRL_LIVE (leB r) = false → ((s.eng r).mode = .crd off k ∨ (s.eng r).mode = .cwr off k) → 
      Ends (exec (.leHaltRequest a r) s) fun t => (t.eng r).mode = (s.eng r).mode ∧ t.gb F.LE_CTRL_RUN (leB r) = false) ∧
  (∀ (s : State) (a : Reader) (r : Rgn), s.mayWrite a r = true → s.gb F.LE_CTRL_LIVE (leB r) = false → (s.eng r).mode = .halted → 
      Ends (exec (.leStep a r) s) fun t => t.gb F.LE_CTRL_STEP (leB r) = true ∧ (t.eng r).mode = .halted ∧ t.gb F.LE_CTRL_RUN (leB r) = s.gb F.LE_CTRL_RUN (leB r)) ∧
  (∀ (s : State) (a : Reader) (r : Rgn), s.mayWrite a r = true → (s.gb F.LE_CTRL_LIVE (leB r) = false ∨ (s.eng r).mode = .faulted) → 
      Ends (exec (.erst a r) s) fun t => (t.eng r).mode = .halted ∧ (t.eng r).pc = s.gf F.LE_START_ADDR (leB r) ∧ (t.eng r).main = RegSet.reset ∧
        t.gf F.LE_EVPEND_PEND (leB r) = 0) ∧
  (∀ (s : State) (a : Reader) (r : Rgn) (n : Fin 8192) (v : DWord), s.mayWrite a r = true → leStopped s r = true → 
      Ends (exec (.programMemoryWrite a r n v) s) fun t => packet t r n = v) ∧
  (∀ (s : State) (a : Reader) (r : Rgn) (y : Bool) (n : Fin 16384) (v : Word), s.mayWrite a r = true → 
      Ends (exec (.xyHostWrite a r y n v false) s) fun t => xyGet t r y n = v.setWidth 24) ∧
  (∀ (s : State) (a : Reader) (r : Rgn) (y : Bool) (n : Fin 16384) (v : Word), s.mayWrite a r = true → (s.eng r).stored.contains (y, n.val) = true → 
      Ends (exec (.xyHostWrite a r y n v true) s) fun t => t.gb F.LE_EVT_HOST_LOST (leB r) = true ∧ t.lemem = s.lemem) ∧
  (∀ (s : State) (a : Reader) (r : Rgn) (n : Fin 76) (v : DWord), s.mayWrite a r = true → leStopped s r = true → n.val < 16 → 
      Ends (exec (.leWindowWrite a r n v) s) fun t => ((t.eng r).setOf (s.gb F.LE_CTRL_VIEW (leB r))).d.get n = v.setWidth 24) ∧
  (∀ (s : State) (a : Reader) (r : Rgn) (v : DWord), s.mayWrite a r = true → leStopped s r = true → 
      Ends (exec (.leWindowWrite a r 74 v) s) fun t => (t.eng r).pc = v.toNat % 8192) ∧
  (∀ (s : State) (r : Rgn) (g : Fin 4) (n : Fin 3) (e : TapEntry) (l : List TapEntry) (q i : Nat), (s.clk r = 0 ∧ cgState s r g ≠ 6 ∧ cgState s r g ≠ 7) → ((s.grp r g).taps.get n).buf = e :: l → s.gf F.CG_TAPt_CFG_DEST (cgB r g) n = 0 → (s.gf F.CG_TAPt_CFG_RGN (cgB r g) n = q ∧ s.gf F.CG_TAPt_CFG_PORT (cgB r g) n = i ∧ i < 8) → s.gb F.LE_INp_CFG_MODE (leB q) i = false → ((s.eng q).ports.get i).buf.length < 4 → 
      Ends (exec (.tapDeliver r g n) s) fun t => ((t.eng q).ports.get i).buf = ((s.eng q).ports.get i).buf ++ [resultXfer e] ∧ ((t.grp r g).taps.get n).buf = l) ∧
  (∀ (s : State) (r : Rgn) (g : Fin 4) (n : Fin 3) (e : TapEntry) (l : List TapEntry) (q i : Nat), (s.clk r = 0 ∧ cgState s r g ≠ 6 ∧ cgState s r g ≠ 7) → ((s.grp r g).taps.get n).buf = e :: l → s.gf F.CG_TAPt_CFG_DEST (cgB r g) n = 1 → (s.gf F.CG_TAPt_CFG_RGN (cgB r g) n = q ∧ s.gf F.CG_TAPt_CFG_PORT (cgB r g) n = i) → (streamPush (tapPop s r g n) q i 1 (e.result.setWidth 72)).isSome = true → 
      Ends (exec (.tapDeliver r g n) s) fun t => ((t.grp r g).taps.get n).buf = l ∧ t.qc q i = ((streamPush (tapPop s r g n) q i 1 (e.result.setWidth 72)).getD s).qc q i) ∧
  (∀ (s : State) (r : Rgn) (p : Fin 8) (sub : Fin 120) (x : Xfer) (l : List Xfer) (q : Rgn) (c : Fin 16), (s.clk r = 0 ∧ (q = r ∨ s.clk q = 0)) → (s.eng r).outq.get p = x :: l → s.gf F.LE_OUTp_CFG_DEST (leB r) p = 0 → (Word.bits (x.w1.setWidth 32) 23 20 = q.val ∧ Word.bits (x.w1.setWidth 32) 19 16 = c.val ∧ dieOf q = dieOf r) → s.gf F.PG_CHcc_CFG_DSRC (pgB q) c = 1 → (s.gf F.PG_CHcc_CFG_SRC_RGN (pgB q) c = r.val ∧ s.gf F.PG_CHcc_CFG_SRC_PORT (pgB q) c = p.val) → 
      Ends (exec (.dutyTransfer r p sub) s) fun t => (t.eng r).outq.get p = l ∧ (t.ch q c).full = true ∧ (t.ch q c).at_ = fineNow s sub ∧ t.gf F.PG_CHcc_DUTY_ON (pgB q) c =
        (if x.w0.toInt ≤ 0 then 0 else (x.w0.toInt.toNat * perOf s q c * 2 + 2 ^ 23) / 2 ^ 24) % 2 ^ 20) ∧
  (∀ (s : State) (a : Reader) (r : Rgn) (lane : Fin 4), s.mayWrite a r = true → s.gb F.LE_SUB_START (leB r) = false → s.gb F.LE_SPARE_STAT_FREE (leB r) = true → s.gf F.LE_SUB_STAT_STATE (leB r) = 0 → 
      Ends (exec (.laneSubstitution (.by a) r lane) s) fun t => t.gf F.LE_SUB_STAT_STATE (leB r) = (if pausing s r then 5 else 1) ∧ t.gb F.LE_SUB_START (leB r) = true ∧ (t.eng r).lane = lane) ∧
  (∀ (s : State) (r : Rgn), s.gf F.LE_SUB_STAT_STATE (leB r) = 1 → pausing s r = false → 
      Ends (exec (.laneStepEnd r true) s) fun t => t.gf F.LE_SUB_STAT_STATE (leB r) = 2 ∧ (t.eng r).laneSteps = 16384) ∧
  (∀ (s : State) (r : Rgn), s.gf F.LE_SUB_STAT_STATE (leB r) = 1 → 
      Ends (exec (.laneStepEnd r false) s) fun t => t.gf F.LE_SUB_STAT_STATE (leB r) = 0 ∧ t.gf F.LE_SUB_STAT_RESULT (leB r) = 3 ∧ t.gf F.LE_SUB_STAT_CAUSE (leB r) = 6 ∧
        t.gb F.LE_SPARE_STAT_FAILED (leB r) = true ∧ t.gb F.LE_SPARE_STAT_FREE (leB r) = false) ∧
  (∀ (s : State) (r : Rgn) (ok : Bool), s.gf F.LE_SUB_STAT_STATE (leB r) = 4 → (s.eng r).forced = false → 
      Ends (exec (.laneStepEnd r ok) s) fun t => t.gf F.LE_SUB_STAT_STATE (leB r) = 0 ∧ t.gf F.LE_SUB_STAT_RESULT (leB r) = 1) ∧
  (∀ (s : State) (r : Rgn), s.gf F.LE_SUB_STAT_STATE (leB r) = 2 → 
      Ends (exec (.laneShadowMismatch r) s) fun t => t.gf F.LE_SUB_STAT_STATE (leB r) = 0 ∧ t.gf F.LE_SUB_STAT_RESULT (leB r) = 2 ∧ t.gb F.LE_EVT_SUB_FAIL (leB r) = true ∧
        t.gb F.LE_SPARE_STAT_FREE (leB r) = false)

/-- R289 to R294: a global reset of a die that has a source, once asserted, puts every flip-flop that uses it and is not reset synchronously at its initial value, in each region of the die, and holds each that uses it; released, it leaves through the synchroniser of each clock, two edges long; FAB_RST gives such a pulse in one region; an edge of a tree gives a flip-flop what its cell makes; the run-request line starts a Gated clock; a trigger line starts the scan of a group that selects it; a spoor strobe makes a record of the port's class and flow, or an alarm of the code in its payload. R305 to R309: reading the first register of a group answers it and latches the group for that reader, a wide counter with its pending carries added; a capture is armed, waits for the trigger of its code, takes each selected tree's flip-flops at that tree's first edge, of which there is none while the branches are closed, ends with the time of the first edge once every tree has been taken, and can be aborted. -/
def Obligations.FabricLines : Prop :=
  (∀ (s : State) (d : Fin 2) (k : Fin 8), resetSource s d k ≠ 0 → 
      Ends (exec (.globalReset d k true) s) fun t => ∀ r : Rgn, r.val / 8 = d.val → (t.fab r).grst.testBit k = true ∧
        (∀ c : Fin 96, (t.fab r).ff.get c &&& (ffResets s r k c &&& wordOf fun j => !(ffCode s r c j).testBit 6) =
        ffInit s r c &&& (ffResets s r k c &&& wordOf fun j => !(ffCode s r c j).testBit 6)) ∧
        (∀ (c : Fin 96) (j : Fin 32), (ffResets s r k c).getLsbD j = true → ffHeld t r c j = true)) ∧
  (∀ (s : State) (d : Fin 2) (k : Fin 8), resetSource s d k ≠ 0 → 
      Ends (exec (.globalReset d k false) s) fun t => ∀ r : Rgn, r.val / 8 = d.val → (t.fab r).grst.testBit k = false ∧ (t.fab r).ff = (s.fab r).ff ∧
        ((s.fab r).grst.testBit k = true → ∀ c : Fin 24, (t.fab r).rstStage.get (k * 24 + c) = 2)) ∧
  (∀ (s : State) (a : Reader) (r : Rgn) (v : Word) (k : Fin 8) (c : Fin 96), s.mayWrite a r = true → (fOf v F.FAB_RST_PULSE).testBit k = true → 
      Ends (exec (.fabRstPulse a r v) s) fun t => (t.fab r).ff.get c &&& (ffResets s r k c &&& wordOf fun j => !(ffCode s r c j).testBit 6) =
        ffInit s r c &&& (ffResets s r k c &&& wordOf fun j => !(ffCode s r c j).testBit 6)) ∧
  (∀ (s : State) (r : Rgn) (code : Fin 64) (tr : Fin 24) (sub : Fin 40) (c : Fin 96) (j : Fin 32), branchOpen s r tr = true → clusterClock s r c (ffCode s r c j / 8 % 2) = some tr.val → ffEnabled s r c j = true → 
      Ends (exec (.captureTrigger r code [.edge tr] [] sub) s) fun t => ((t.fab r).ff.get c).getLsbD j = if ffHeld s r c j then (ffInit s r c).getLsbD j else ffData s r c j) ∧
  (∀ (s : State) (r : Rgn) (on : Bool), 
      Ends (exec (.runRequest r on) s) fun t => (t.fab r).runReq = on ∧ ((on = true ∧ (s.clk r = 1 ∨ s.clk r = 2)) → (t.rgnS r).synthOn = true)) ∧
  (∀ (s : State) (r : Rgn) (line : Fin 8) (g : Fin 4), s.clk r = 0 → s.gf F.CG_SCAN_TRIG_SRC (cgB r g) = 0x18 + line.val → (∀ k : Fin 4, s.gf F.CG_URGk_CFG_SRC (cgB r g) k ≠ 0x18 + line.val) → s.gf F.CG_SCAN_SMODE (cgB r g) = 2 → converting s r g = true → (s.grp r g).pass = none → 
      Ends (exec (.fabricTrigger r line) s) fun t => (t.grp r g).pass = passOf s (cgB r g) (s.gf F.CG_MASK_MASK (cgB r g))) ∧
  (∀ (s : State) (r : Rgn) (p : Fin 4) (payload : BitVec 128) (cls flow : Nat), s.gb F.FAB_SPRp_EN (fabB r) p = true → s.clk r = 0 → (s.gf F.FAB_SPRp_CLASS (fabB r) p = cls ∧ cls ≠ 0) → s.gf F.FAB_SPRp_FLOW (fabB r) p = flow → sourceDrop s cls flow = 0 → flowAccepted s flow = false → 
      Ends (exec (.fabricSpoorStrobe r p payload) s) fun t => ((t.spoor.srcQ.get (srcRgn r (unitFabPort p)).key).map fun i => (i.typ, i.cls, i.flow, i.payload)) =
        ((s.spoor.srcQ.get (srcRgn r (unitFabPort p)).key).map fun i => (i.typ, i.cls, i.flow, i.payload)) ++ [(3, cls, flow, payload)]) ∧
  (∀ (s : State) (r : Rgn) (p : Fin 4) (payload : BitVec 128), s.gb F.FAB_SPRp_EN (fabB r) p = true → s.clk r = 0 → s.gf F.FAB_SPRp_CLASS (fabB r) p = 0 → s.spoor.slots.get (slotKey (srcRgn r (unitFabPort p)) (payloadGet payload 0 2) 0) = none → 
      Ends (exec (.fabricSpoorStrobe r p payload) s) fun t => (t.spoor.slots.get (slotKey (srcRgn r (unitFabPort p)) (payloadGet payload 0 2) 0)).map (fun x => (x.typ, x.code, x.detail)) =
        some (3, payloadGet payload 0 2, (payload >>> 16).setWidth 80)) ∧
  (∀ (s : State) (a : Reader) (r : Rgn) (n m : Fin 64) (v w : Word) (c d : Fin 4), groupOf s r n = [n.val, m.val] → (groupStart s r n = true ∧ reaches s a (R.FAB_UREGn.addr (fabB r) n) = true) → (uregWide s r n = false ∧ uregWide s r m = false) → (∀ h : Fin 2, uregSegment s r n h = none ∧ uregSegment s r m h = none) → 
      Ends (exec (.uregGroupRead a r n [] [(v, c), (w, d)]) s) fun t => t.resp.get a.code = some (v.setWidth 64) ∧ t.hold.get (accKey a (R.FAB_UREGn.addr (fabB r) m)) = some w) ∧
  (∀ (s : State) (a : Reader) (r : Rgn) (n m : Fin 64) (v w : Word) (c d : Fin 4), groupOf s r n = [n.val, m.val] → (groupStart s r n = true ∧ reaches s a (R.FAB_UREGn.addr (fabB r) n) = true) → (uregWide s r n = true ∧ uregWide s r m = true) → (∀ h : Fin 2, uregSegment s r n h = none ∧ uregSegment s r m h = none) → 
      Ends (exec (.uregGroupRead a r n [] [(v, c), (w, d)]) s) fun t => (let total := v.toNat + (if c.val.testBit 0 then 2 ^ 16 else 0) + (if c.val.testBit 1 then 2 ^ 32 else 0)
        + w.toNat * 2 ^ 32 + (if d.val.testBit 0 then 2 ^ 48 else 0);
        t.resp.get a.code = some ((BitVec.ofNat 32 total).setWidth 64) ∧
        t.hold.get (accKey a (R.FAB_UREGn.addr (fabB r) m)) = some (BitVec.ofNat 32 (total / 2 ^ 32)))) ∧
  (∀ (s : State) (a : Reader) (r : Rgn) (n : Fin 64) (c d : Fin 96) (live : List (Word × Fin 4)), (groupStart s r n = true ∧ reaches s a (R.FAB_UREGn.addr (fabB r) n) = true) → uregWide s r n = false → (uregSegment s r n 0 = some c.val ∧ uregSegment s r n 1 = some d.val) → 
      Ends (exec (.uregGroupRead a r n [] live) s) fun t => ∀ i : Fin 16, ((t.resp.get a.code).getD 0).getLsbD i = ((s.fab r).ff.get c).getLsbD (2 * i) ∧
        ((t.resp.get a.code).getD 0).getLsbD (16 + i) = ((s.fab r).ff.get d).getLsbD (2 * i)) ∧
  (∀ (s : State) (a : Reader) (r : Rgn) (v : Word), s.mayWrite a r = true → s.gb F.FAB_CAP_CTRL_START (fabB r) = false → 
      Ends (exec (.captureStart a r v) s) fun t => t.gf F.FAB_CAP_STAT_STATE (fabB r) = 1 ∧ t.gb F.FAB_CAP_CTRL_START (fabB r) = true ∧
        ((t.fab r).capTrig = true ↔ t.gf F.FAB_CAP_CTRL_TRIG (fabB r) = 0x3F) ∧ (t.fab r).capFirst = none) ∧
  (∀ (s : State) (r : Rgn) (code : Fin 64) (sub : Fin 40), (s.gf F.FAB_CAP_STAT_STATE (fabB r) = 1 ∧ (s.fab r).capTrig = false) → 
      Ends (exec (.captureTrigger r code [] [] sub) s) fun t => if s.gf F.FAB_CAP_CTRL_TRIG (fabB r) = code then
        (t.fab r).capTrig = true ∧ t.gf F.FAB_CAP_STAT_STATE (fabB r) = 1 ∧
        (t.fab r).capPend = s.gf F.FAB_CAP_CTRL_GMASK (fabB r) + s.gf F.FAB_CAP_CTRL_RMASK (fabB r) * 2 ^ 16
        else t.fabs = s.fabs ∧ t.regs = s.regs) ∧
  (∀ (s : State) (r : Rgn) (code : Fin 64) (tr : Fin 24) (sub : Fin 40), ((s.fab r).capTrig = true ∧ (s.fab r).capPend.testBit tr = true) → branchOpen s r tr = true → 
      Ends (exec (.captureTrigger r code [] [.edge tr] sub) s) fun t => (t.fab r).capPend.testBit tr = false ∧ (t.fab r).capFirst = some ((s.fab r).capFirst.getD (s.stamp sub)) ∧
        ∀ c : Fin 96, (t.fab r).capLatch.get c &&& onTree s r c tr = (s.fab r).ff.get c &&& onTree s r c tr) ∧
  (∀ (s : State) (r : Rgn) (code : Fin 64) (tr : Fin 24) (sub : Fin 40), ((s.fab r).capTrig = true ∧ (s.fab r).capPend.testBit tr = true) → s.clk r ≠ 0 → 
      Ends (exec (.captureTrigger r code [] [.edge tr] sub) s) fun t => (t.fab r).capPend.testBit tr = true ∧ (t.fab r).capLatch = (s.fab r).capLatch ∧ (t.fab r).ff = (s.fab r).ff) ∧
  (∀ (s : State) (r : Rgn) (tr : Fin 24) (sub : Fin 40) (x : DWord), ((s.fab r).capTrig = true ∧ (s.fab r).capFirst = some x) → branchOpen s r tr = true → (s.fab r).capPend = 2 ^ tr.val → 
      Ends (exec (.captureDone r [.edge tr] sub) s) fun t => t.rd64 R.FAB_CAP_TIME (fabB r) = x ∧ t.gf F.FAB_CAP_STAT_STATE (fabB r) = 3 ∧
        t.gb F.FAB_EVT_CAP_DONE (fabB r) = true ∧ t.gb F.FAB_CAP_CTRL_START (fabB r) = false ∧
        ∀ c : Fin 96, (t.fab r).capLatch.get c &&& onTree s r c tr = (s.fab r).ff.get c &&& onTree s r c tr) ∧
  (∀ (s : State) (r : Rgn) (sub : Fin 40), (s.fab r).capPend ≠ 0 → 
      Ends (exec (.captureDone r [] sub) s) fun t => t.fabs = s.fabs ∧ t.regs = s.regs) ∧
  (∀ (s : State) (a : Reader) (r : Rgn), s.mayWrite a r = true → s.gb F.FAB_CAP_CTRL_START (fabB r) = true → 
      Ends (exec (.captureAbort a r) s) fun t => t.gf F.FAB_CAP_STAT_STATE (fabB r) = 0 ∧ t.gb F.FAB_CAP_CTRL_START (fabB r) = false ∧ (t.fab r).capTrig = false)

/-- R295 to R299: a port writes the bits that its shape and address name, and its output register takes the old field, the new one, or stays; in a same-cycle write of both ports port A's bits stand; with the branches closed nothing happens; with parity on, bit 8 of each byte is its even parity; a read gives the addressed field, and a parity error counts and raises BM_PARITY; the copy port reads and writes a word and loses against a user write in the same cycle. -/
def Obligations.BlockMemories : Prop :=
  (∀ (s : State) (r : Rgn) (b : Fin 16) (pB : Bool) (h : Shape) (a : Fin 4096) (v : BitVec 36) (m : WrMode), blockParity s r b = false → s.clk r = 0 → 
      Ends (exec (.bmWrite r b pB h a v m false) s) fun t => bmGet t r b (shapeWord h a) = (bmGet s r b (shapeWord h a) &&& ~~~ shapeMask h a) ||| ((v <<< shapeLo h a) &&& shapeMask h a)) ∧
  (∀ (s : State) (r : Rgn) (b : Fin 16) (pB : Bool) (h : Shape) (a : Fin 4096) (v : BitVec 36) (m : WrMode), s.clk r = 0 → 
      Ends (exec (.bmWrite r b pB h a v m false) s) fun t => (t.fab r).bmOut.get (b * 2 + (if pB then 1 else 0)) =
        match m with
        | .readFirst => (bmGet s r b (shapeWord h a) &&& shapeMask h a) >>> shapeLo h a
        | .writeFirst => (bmGet t r b (shapeWord h a) &&& shapeMask h a) >>> shapeLo h a
        | .noChange => (s.fab r).bmOut.get (b * 2 + (if pB then 1 else 0))) ∧
  (∀ (s : State) (r : Rgn) (b : Fin 16) (h : Shape) (a : Fin 4096) (v : BitVec 36) (m : WrMode) (l : BmLast), blockParity s r b = false → (s.fab r).bmLast.get b = some l → (l.word = shapeWord h a ∧ l.portB = false) → s.clk r = 0 → 
      Ends (exec (.bmWrite r b true h a v m true) s) fun t => bmGet t r b (shapeWord h a) &&& l.mask = bmGet s r b (shapeWord h a) &&& l.mask) ∧
  (∀ (s : State) (r : Rgn) (b : Fin 16) (pB : Bool) (a : Fin 4096) (v : BitVec 36) (m : WrMode) (i : Fin 4), blockParity s r b = true → s.clk r = 0 → 
      Ends (exec (.bmWrite r b pB .by36 a v m false) s) fun t => byteOdd (bmGet t r b (shapeWord .by36 a)) i = false ∧
        bmGet t r b (shapeWord .by36 a) &&& 0x7FBFDFEFF#36 = v &&& 0x7FBFDFEFF#36) ∧
  (∀ (s : State) (r : Rgn) (b : Fin 16) (pB : Bool) (h : Shape) (a : Fin 4096), blockParity s r b = false → s.clk r = 0 → 
      Ends (exec (.bmRead r b pB h a false 0) s) fun t => (t.fab r).bmOut.get (b * 2 + (if pB then 1 else 0)) = (bmGet s r b (shapeWord h a) &&& shapeMask h a) >>> shapeLo h a) ∧
  (∀ (s : State) (r : Rgn) (b : Fin 16) (pB : Bool) (h : Shape) (a : Fin 4096) (v : BitVec 36) (m : WrMode) (same : Bool), s.clk r ≠ 0 → 
      Ends (exec (.bmWrite r b pB h a v m same) s) fun t => t.fabs = s.fabs ∧ t.regs = s.regs) ∧
  (∀ (s : State) (r : Rgn) (b : Fin 16) (pB : Bool) (a : Fin 4096) (u : BitVec 36), blockParity s r b = true → (∃ i : Fin 4, byteOdd (bmGet s r b (a.val % 1024) ^^^ u) i = true) → (s.fab r).rowErr.get (b * 32 + a.val % 1024 / 32) = 0 → s.clk r = 0 → 
      Ends (exec (.bmRead r b pB .by36 a false u) s) fun t => (t.fab r).bmErr.testBit (b * 2 + (if pB then 1 else 0)) = true ∧
        t.gf F.FAB_BMb_STAT_PAR_CNT (fabB r) b = satInc (F.FAB_BMb_STAT_PAR_CNT.hi + 1 - F.FAB_BMb_STAT_PAR_CNT.lo) (s.gf F.FAB_BMb_STAT_PAR_CNT (fabB r) b) ∧
        t.gb F.FAB_EVT_PARITY (fabB r) = true ∧
        (t.spoor.slots.get (slotKey (srcRgn r unitFab) 0x60 0)).isSome = true) ∧
  (∀ (s : State) (a : Reader) (r : Rgn), reaches s a (fabB r) = true → blockParity s r (s.gf F.FAB_BM_ADDR_BLK (fabB r)) = false → 
      Ends (exec (.copyPortAccess a r none false) s) fun t => t.resp.get a.code = some ((bmGet s r (s.gf F.FAB_BM_ADDR_BLK (fabB r)) (s.gf F.FAB_BM_ADDR_WORD (fabB r))).setWidth 64)) ∧
  (∀ (s : State) (a : Reader) (r : Rgn) (v : BitVec 36), s.mayWrite a r = true → s.gf F.FAB_RELOC_STAT_STATE (fabB r) = 0 → blockParity s r (s.gf F.FAB_BM_ADDR_BLK (fabB r)) = false → 
      Ends (exec (.copyPortAccess a r (some v) false) s) fun t => bmGet t r (s.gf F.FAB_BM_ADDR_BLK (fabB r)) (s.gf F.FAB_BM_ADDR_WORD (fabB r)) = v) ∧
  (∀ (s : State) (a : Reader) (r : Rgn) (v : BitVec 36) (l : BmLast), s.mayWrite a r = true → s.gf F.FAB_RELOC_STAT_STATE (fabB r) = 0 → (s.fab r).bmLast.get (s.gf F.FAB_BM_ADDR_BLK (fabB r)) = some l → l.word = s.gf F.FAB_BM_ADDR_WORD (fabB r) → 
      Ends (exec (.copyPortAccess a r (some v) true) s) fun t => t.gb F.FAB_EVT_HOST_LOST (fabB r) = true ∧ (t.fab r).bm = (s.fab r).bm)

/-- R300 to R304: a write where there is room puts the entry, cut to the width and with its parity, at the end of the queue; each side sees what the other has done three of its own cycles late; in packet mode a packet is seen once its END is written, and one that runs out of room is discarded and counted; a full FIFO drops the write and counts it; an engine's transfer enters a 72-bit queue; a fabric read takes the oldest entry it sees, or nothing; a host pop of a 72-bit queue answers its low word, and 0 from a queue that shows nothing, counted; QC_FLUSH empties the queue; the abort strobe discards the packet being written. -/
def Obligations.QueueControllers : Prop :=
  (∀ (s : State) (r : Rgn) (q : Fin 16) (v : BitVec 72) (fin : Bool) (wc rc : Nat), (qcOn s r q = true ∧ s.clk r = 0) → s.gf F.QC_CFG_WSRC (fabB r) q = 0 → qcPacket s r q = false → qcFull (qcPass s r q wc rc) r q = false → 
      Ends (exec (.queueWrite (.fabric r q v fin) wc rc) s) fun t => (t.qc r q).q = ((s.qc r q).pass wc rc).q ++ [⟨entryParity s r q (v &&& qcMask s r q), fin, 0⟩]) ∧
  (∀ (s : State) (r : Rgn) (q : Fin 16) (v : BitVec 72) (fin : Bool) (wc rc : Nat), (qcOn s r q = true ∧ s.clk r = 0) → s.gf F.QC_CFG_WSRC (fabB r) q = 0 → qcPacket s r q = true → (s.qc r q).dropping = false → qcFull (qcPass s r q wc rc) r q = false → 
      Ends (exec (.queueWrite (.fabric r q v fin) wc rc) s) fun t => (let e : QEntry := ⟨entryParity s r q (v &&& qcMask s r q), fin, 0⟩;
        if fin then (t.qc r q).q = ((s.qc r q).pass wc rc).q ++ (s.qc r q).part ++ [e] ∧ (t.qc r q).part = []
        else (t.qc r q).q = ((s.qc r q).pass wc rc).q ∧ (t.qc r q).part = (s.qc r q).part ++ [e])) ∧
  (∀ (s : State) (r : Rgn) (q : Fin 16) (v : BitVec 72) (fin : Bool) (wc rc : Nat), (qcOn s r q = true ∧ s.clk r = 0) → s.gf F.QC_CFG_WSRC (fabB r) q = 0 → qcFull (qcPass s r q wc rc) r q = true → (s.qc r q).dropping = false → 
      Ends (exec (.queueWrite (.fabric r q v fin) wc rc) s) fun t => (t.qc r q).q = ((s.qc r q).pass wc rc).q ∧
        if qcPacket s r q then (t.qc r q).part = [] ∧ (t.qc r q).dropping = !fin ∧ t.gb F.QC_EVT_PKT_DROP (fabB r) q = true
        else t.gb F.QC_EVT_OVF (fabB r) q = true) ∧
  (∀ (s : State) (r q : Rgn) (p : Fin 8) (i : Fin 16) (wc rc : Nat) (x : Xfer) (l : List Xfer), (s.eng r).outq.get p = x :: l → (s.clk r = 0 ∧ s.clk q = 0) → s.gf F.LE_OUTp_CFG_DEST (leB r) p = 2 → (s.gf F.LE_OUTp_CFG_RGN (leB r) p = q.val ∧ s.gf F.LE_OUTp_CFG_PORT (leB r) p = i) → (qcOn s q i = true ∧ qcPacket s q i = false ∧ qcFull (qcPass s q i wc rc) q i = false) → (s.gf F.QC_CFG_WSRC (fabB q) i = 2 ∧ s.gf F.QC_CFG_WIDTH (fabB q) i = 3) → 
      Ends (exec (.queueWrite (.engine r p) wc rc) s) fun t => (t.qc q i).q = ((s.qc q i).pass wc rc).q ++ [⟨entryParity s q i (xferEntry x), false, 0⟩] ∧ (t.eng r).outq.get p = l) ∧
  (∀ (s : State) (r : Rgn) (q : Fin 16) (e : QEntry) (l : List QEntry) (wc rc : Nat) (u : BitVec 72), (qcOn s r q = true ∧ s.clk r = 0) → ((s.qc r q).pass wc rc).q = e :: l → e.age = 3 → s.gf F.QC_CFG_RSNK (fabB r) q = 0 → 
      Ends (exec (.queueRead r q wc rc u) s) fun t => (t.qc r q).q = l ∧ (t.qc r q).last = e.v ^^^ u ∧ (t.qc r q).freed = ((s.qc r q).pass wc rc).freed ++ [0]) ∧
  (∀ (s : State) (r : Rgn) (q : Fin 16) (wc rc : Nat) (u : BitVec 72), (qcOn s r q = true ∧ s.clk r = 0) → ((s.qc r q).pass wc rc).seen = [] → 
      Ends (exec (.queueRead r q wc rc u) s) fun t => t.qc r q = (s.qc r q).pass wc rc ∧ t.regs = s.regs) ∧
  (∀ (s : State) (a : Reader) (r : Rgn) (q : Fin 16) (e : QEntry) (l : List QEntry) (wc rc : Nat) (u : BitVec 72), reaches s a (R.QC_DATA.addr (fabB r) q) = true → (qcOn s r q = true ∧ s.gf F.QC_CFG_WIDTH (fabB r) q = 3) → ((s.qc r q).pass wc rc).q = e :: l → e.age = 3 → 
      Ends (exec (.queuePop a r q wc rc u) s) fun t => t.resp.get a.code = some (((e.v ^^^ u).setWidth 32).setWidth 64) ∧ (t.qc r q).q = l) ∧
  (∀ (s : State) (a : Reader) (r : Rgn) (q : Fin 16) (wc rc : Nat) (u : BitVec 72), reaches s a (R.QC_DATA.addr (fabB r) q) = true → (qcOn s r q = true ∧ s.gf F.QC_CFG_WIDTH (fabB r) q = 3) → (s.qc r q).q = [] → 
      Ends (exec (.queuePop a r q wc rc u) s) fun t => t.resp.get a.code = some 0 ∧ t.gb F.QC_EVT_UNF (fabB r) q = true) ∧
  (∀ (s : State) (a : Reader) (r : Rgn) (q : Fin 16), s.mayWrite a r = true → s.gf F.FAB_RELOC_STAT_STATE (fabB r) = 0 → 
      Ends (exec (.queueFlush a r q) s) fun t => (t.qc r q).q = [] ∧ (t.qc r q).part = [] ∧
        ((t.qc r q).dropping = true ↔ qcPacket s r q = true ∧ ((s.qc r q).dropping = true ∨ (s.qc r q).part ≠ []))) ∧
  (∀ (s : State) (r : Rgn) (q : Fin 16), (qcOn s r q = true ∧ qcPacket s r q = true ∧ s.clk r = 0) → (s.qc r q).part ≠ [] → 
      Ends (exec (.packetAbort r q) s) fun t => (t.qc r q).part = [] ∧ (t.qc r q).q = (s.qc r q).q ∧ t.gb F.QC_EVT_PKT_ABORT (fabB r) q = true)

/-- R310 to R314: a relocation of a cluster that the image holds, with a spare free, starts and shows step 1; with no spare it is refused with cause 1; a block substitution likewise with the spare block; the wear logic starts one only with AUTO_RELOC; the steps follow one another, the handover maps the cluster to the spare, and the end shows the result and consumes a spare; a paused one waits under Torpor; step 1 takes the RELOC image's records if they are the 26 that its digest covers, with right CRCs and addresses, and puts the first 24 into the spare; a wrong step 3 forces the handover once the spare has passed its test, and fails the spare otherwise. -/
def Obligations.Relocation : Prop :=
  (∀ (s : State) (a : Reader) (r : Rgn) (c : Fin 96) (sp : Nat), s.mayWrite a r = true → (s.gb F.FAB_RELOC_START (fabB r) = false ∧ s.gf F.FAB_RELOC_STAT_STATE (fabB r) = 0) → rlFree s r 0 = some sp → relocHeld s r 0 c = true → 
      Ends (exec (.relocation (.by a) r c) s) fun t => t.gf F.FAB_RELOC_STAT_STATE (fabB r) = 1 ∧ t.gb F.FAB_RELOC_START (fabB r) = true ∧
        (t.fab r).rlKind = 0 ∧ (t.fab r).rlTarget = c ∧ (t.fab r).rlSpare = sp) ∧
  (∀ (s : State) (a : Reader) (r : Rgn) (c : Fin 96), s.mayWrite a r = true → s.gb F.FAB_RELOC_START (fabB r) = false → rlFree s r 0 = none → 
      Ends (exec (.relocation (.by a) r c) s) fun t => t.gf F.FAB_RELOC_STAT_RESULT (fabB r) = 3 ∧ t.gf F.FAB_RELOC_STAT_CAUSE (fabB r) = 1 ∧
        t.gf F.FAB_RELOC_STAT_STATE (fabB r) = s.gf F.FAB_RELOC_STAT_STATE (fabB r)) ∧
  (∀ (s : State) (r : Rgn) (c : Fin 96) (sp : Nat), s.gb F.FAB_CTRL_AUTO_RELOC (fabB r) = true → (s.gf F.FAB_RELOC_STAT_STATE (fabB r) = 0 ∧ s.gf F.RGN_STAT_OWNER (rgB r) ≠ 0) → rlFree s r 0 = some sp → relocHeld s r 0 c = true → 
      Ends (exec (.relocation .wear r c) s) fun t => t.gf F.FAB_RELOC_STAT_STATE (fabB r) = 1 ∧ (t.fab r).rlTarget = c ∧ (t.fab r).rlSpare = sp) ∧
  (∀ (s : State) (r : Rgn) (c : Fin 96), s.gb F.FAB_CTRL_AUTO_RELOC (fabB r) = false → 
      Ends (exec (.relocation .wear r c) s) fun t => t.fabs = s.fabs ∧ t.regs = s.regs) ∧
  (∀ (s : State) (a : Reader) (r : Rgn) (b : Fin 16), s.mayWrite a r = true → (s.gb F.FAB_RELOC_START (fabB r) = false ∧ s.gf F.FAB_RELOC_STAT_STATE (fabB r) = 0) → s.gb F.FAB_SPARE_STAT_BM_FREE (fabB r) = true → relocHeld s r 1 b = true → 
      Ends (exec (.blockSubstitution (.by a) r b) s) fun t => t.gf F.FAB_RELOC_STAT_STATE (fabB r) = 1 ∧ (t.fab r).rlKind = 1 ∧ (t.fab r).rlTarget = b ∧ (t.fab r).rlSpare = 16) ∧
  (∀ (s : State) (r : Rgn) (raw : List (BitVec 1088)) (e : DigS) (ok : Bool), s.gf F.FAB_RELOC_STAT_STATE (fabB r) = 1 → ((s.fab r).rlKind = 0 ∧ (s.fab r).rlSpare < 4) → relocDigest s r (s.fab r).rlTarget = some e → (e.vol = false ∧ e.enc = false ∧ e.count = 26) → 
      Ends (exec (.relocationStepEnd r ok (some raw)) s) fun t => if raw.length = 26 ∧ digestOf raw = e.hash ∧
        (∀ p ∈ raw.zip (List.range 26), recSound p.1 = true ∧ recAddr p.1 = relocFrame r (s.fab r).rlTarget p.2) then
        t.gf F.FAB_RELOC_STAT_STATE (fabB r) = (if pausing s r then 7 else 2) ∧
        ∀ i : Fin 24, (t.cfg.frames.get (spareFrame r (s.fab r).rlSpare i)).map (fun f => f.data) = some (recData (raw.getD i 0))
        else t.gf F.FAB_RELOC_STAT_STATE (fabB r) = 0 ∧ t.gf F.FAB_RELOC_STAT_RESULT (fabB r) = 3 ∧ t.gf F.FAB_RELOC_STAT_CAUSE (fabB r) = 4) ∧
  (∀ (s : State) (r : Rgn) (ok : Bool), s.gf F.FAB_RELOC_STAT_STATE (fabB r) = 1 → (s.fab r).rlKind = 0 → 
      Ends (exec (.relocationStepEnd r ok none) s) fun t => t.gf F.FAB_RELOC_STAT_STATE (fabB r) = 0 ∧ t.gf F.FAB_RELOC_STAT_RESULT (fabB r) = 3 ∧ t.gf F.FAB_RELOC_STAT_CAUSE (fabB r) = 4) ∧
  (∀ (s : State) (r : Rgn) (ok : Bool), s.gf F.FAB_RELOC_STAT_STATE (fabB r) = 1 → (s.fab r).rlKind = 1 → 
      Ends (exec (.relocationStepEnd r ok none) s) fun t => if ok then t.gf F.FAB_RELOC_STAT_STATE (fabB r) = (if pausing s r then 7 else 2)
        else t.gf F.FAB_RELOC_STAT_STATE (fabB r) = 0 ∧ t.gf F.FAB_RELOC_STAT_RESULT (fabB r) = 3 ∧ t.gf F.FAB_RELOC_STAT_CAUSE (fabB r) = 4) ∧
  (∀ (s : State) (r : Rgn) (ok : Bool), s.gf F.FAB_RELOC_STAT_STATE (fabB r) = 3 → 
      Ends (exec (.relocationStepEnd r ok none) s) fun t => (t.gf F.FAB_RELOC_STAT_STATE (fabB r) = if pausing s r then 7 else if ok then 5 else 4) ∧
        (ok = false → t.gb F.FAB_EVT_RELOC_FAIL (fabB r) = true)) ∧
  (∀ (s : State) (r : Rgn) (ok : Bool), s.gf F.FAB_RELOC_STAT_STATE (fabB r) = 4 → (s.fab r).rlSpare < 4 → 
      Ends (exec (.relocationStepEnd r ok none) s) fun t => if ok then (t.fab r).rlForced = true ∧ t.gf F.FAB_RELOC_STAT_STATE (fabB r) = (if pausing s r then 7 else 5)
        else t.gf F.FAB_RELOC_STAT_STATE (fabB r) = 0 ∧ t.gf F.FAB_RELOC_STAT_RESULT (fabB r) = 3 ∧ t.gf F.FAB_RELOC_STAT_CAUSE (fabB r) = 6 ∧
        (t.gf F.FAB_SPARE_STAT_FAILED (fabB r)).testBit (s.fab r).rlSpare = true) ∧
  (∀ (s : State) (r : Rgn) (ok : Bool), s.gf F.FAB_RELOC_STAT_STATE (fabB r) = 5 → ((s.fab r).rlKind = 0 ∧ (s.fab r).rlSpare < 4 ∧ (s.fab r).rlTarget < 96) → 
      Ends (exec (.relocationStepEnd r ok none) s) fun t => t.gb F.FAB_SPMAPs_USED (fabB r) (s.fab r).rlSpare = true ∧ t.gf F.FAB_SPMAPs_CLUSTER (fabB r) (s.fab r).rlSpare = (s.fab r).rlTarget ∧
        (t.gf F.FAB_SPARE_STAT_FREE (fabB r)).testBit (s.fab r).rlSpare = false) ∧
  (∀ (s : State) (r : Rgn) (ok : Bool), s.gf F.FAB_RELOC_STAT_STATE (fabB r) = 6 → ((s.fab r).rlKind = 0 ∧ (s.fab r).rlForced = false) → 
      Ends (exec (.relocationStepEnd r ok none) s) fun t => t.gf F.FAB_RELOC_STAT_STATE (fabB r) = 0 ∧ t.gf F.FAB_RELOC_STAT_RESULT (fabB r) = 1 ∧ t.gf F.FAB_RELOC_STAT_CAUSE (fabB r) = 0 ∧
        t.own F.SETT_SPAREk_FREE 5 = s.own F.SETT_SPAREk_FREE 5 - 1)

/-- R328 to R334: loading starts at the first attempt on the primary image, with the ledger restored where retention was lost; a header of the format, found through the flash pointer where the attempt is a primary one, is taken if it authenticates and fails the attempt with its cause otherwise, is read again in the next slower mode if its magic is wrong, and a wrong pointer is cause 1; a frame record that passes its checks is written with its code and CRC, another fails the attempt with its cause, and the last one ends the frames; a right tag and signature lead to Verifying and another to the cause; a readback whose codes and CRC are right leads to CFG_DONE, another to cause 9; a failed attempt leads to the next, and after the fourth the controller waits for the host. -/
def Obligations.FullImages : Prop :=
  (∀ (s : State) (puf : Bool) (led : Option (Fin 2)), (s.sett.phase = .powerUp ∧ s.sett.pwrStep = 3) → otpBootSrc s = 0 → 
      Ends (exec (.loadingStart puf led) s) fun t => t.sett.phase = .loading ∧ t.gb F.SEC_STAT_PUF_OK 0 = puf ∧ t.gf F.CFG_STAT_STATE 0 = 1 ∧ t.gf F.CFG_STAT_SOURCE 0 = 1 ∧
        t.gf F.CFG_STAT_ATTEMPT 0 = 1 ∧ t.sett.retLost = false ∧ .flash 0 0 [] ∈ t.out ∧
        (s.sett.retLost = true → (t.spoor.slots.get (slotKey settSrc 0x16A 0)).isSome = true)) ∧
  (∀ (s : State) (l : LoadS) (p : BitVec 128) (st : Bool) (h : BitVec 2048) (g : Bool) (base : Word), s.cfg.load = some l → (l.hdr = none ∧ l.src = .flash g ∧ l.mode ≤ 2) → (if g then some l.base else pointerAddr p) = some base → (hdrFormat h = true ∧ hKind h = 1 ∧ hFrames h + hRelocs h ≠ 0) → (l.mode = 2 → st = true) → 
      Ends (exec (.imageHeader p st h) s) fun t => if authCause s h = 0 then
        t.gf F.CFG_STAT_STATE 0 = 2 ∧ t.cfg.load = some ({ l with base := base }.header s h) ∧ t.gf F.CFG_STAT_FLASH_MODE 0 = l.mode
        else t.gf F.CFG_STAT_CAUSE 0 = authCause s h ∧ t.gb F.SEC_EVT_AUTH_FAIL 0 = true) ∧
  (∀ (s : State) (l : LoadS) (p : BitVec 128) (st : Bool) (h : BitVec 2048), s.cfg.load = some l → (l.hdr = none ∧ l.src = .flash false) → pointerAddr p = none → 
      Ends (exec (.imageHeader p st h) s) fun t => t.gf F.CFG_STAT_CAUSE 0 = 1) ∧
  (∀ (s : State) (l : LoadS) (p : BitVec 128) (st : Bool) (h : BitVec 2048), s.cfg.load = some l → (l.hdr = none ∧ l.src = .flash true) → (hb h 0 4 ≠ 0x474C_5854 ∨ (l.mode = 2 ∧ st = false)) → l.mode ≠ 0 → 
      Ends (exec (.imageHeader p st h) s) fun t => t.cfg.load = some { l with mode := l.mode - 1 } ∧ .flash 0 l.base [] ∈ t.out ∧ t.regs = s.regs) ∧
  (∀ (s : State) (l : LoadS) (h : BitVec 2048) (raw : BitVec 1088) (g : Bool), s.cfg.load = some l → (l.hdr = some h ∧ l.src = .flash g) → s.gf F.CFG_STAT_STATE 0 = 2 → l.n + 1 < hFrames h → 
      let x := recPlain s (hEnc h) (hIv h) (l.n + l.nr) raw
      Ends (exec (.frameRecord raw []) s) fun t => if recordCause s l h x ≠ 0 then t.gf F.CFG_STAT_CAUSE 0 = recordCause s l h x
        else if fKind (recAddr x) = 4 then t.cfg.frames = s.cfg.frames ∧ (t.cfg.load.map fun y => y.nr) = some (l.nr + 1)
        else (t.cfg.frames.get (recAddr x)).map (fun f => (f.data, f.code, f.crc, f.vol)) =
        some (recData x, secded (recData x), frameCrc (BitVec.ofNat 32 (recAddr x)) (recData x), false) ∧
        t.gf F.CFG_STAT_STATE 0 = 2 ∧ (t.cfg.load.map fun y => (y.n, y.crc)) = some (l.n + 1, crcData l.crc (recData x))) ∧
  (∀ (s : State) (l : LoadS) (h : BitVec 2048) (raw : BitVec 1088) (g : Bool), s.cfg.load = some l → (l.hdr = some h ∧ l.src = .flash g) → s.gf F.CFG_STAT_STATE 0 = 2 → (l.n + 1 = hFrames h ∧ l.nr = hRelocs h) → hFrames h = 512 + 4240 * bitCount 16 (hMask h) → 
      let x := recPlain s (hEnc h) (hIv h) (l.n + l.nr) raw
      Ends (exec (.frameRecord raw []) s) fun t => if recordCause s l h x ≠ 0 then t.gf F.CFG_STAT_CAUSE 0 = recordCause s l h x else t.gf F.CFG_STAT_STATE 0 = 3) ∧
  (∀ (s : State) (l : LoadS) (g : Bool), s.cfg.load = some l → l.src = .flash g → 
      Ends (exec (.attemptTimeout) s) fun t => t.gf F.CFG_STAT_CAUSE 0 = 0xA ∧
        if s.gf F.CFG_STAT_ATTEMPT 0 < 4 then
        t.gf F.CFG_STAT_ATTEMPT 0 = s.gf F.CFG_STAT_ATTEMPT 0 + 1 ∧
        t.gf F.CFG_STAT_SOURCE 0 = if 2 ≤ s.gf F.CFG_STAT_ATTEMPT 0 then 2 else 1
        else t.gf F.CFG_STAT_STATE 0 = 5 ∧ t.gb F.CFG_STAT_CFG_ERR 0 = true) ∧
  (∀ (s : State) (l : LoadS) (h : BitVec 2048) (g : Bool) (tail : BitVec 896), s.cfg.load = some l → (l.hdr = some h ∧ l.src = .flash g) → s.gf F.CFG_STAT_STATE 0 = 3 → 
      Ends (exec (.signatureVerified tail) s) fun t => if tagCause s l h tail ≠ 0 then t.gf F.CFG_STAT_CAUSE 0 = tagCause s l h tail ∧ t.cfg.frames.cells = []
        else if signatureOk l h tail then t.gf F.CFG_STAT_STATE 0 = 4 ∧ t.sett.phase = .verifying
        else t.gf F.CFG_STAT_CAUSE 0 = 5 ∧ t.gb F.SEC_EVT_AUTH_FAIL 0 = true ∧ t.cfg.frames.cells = []) ∧
  (∀ (s : State) (l : LoadS) (h : BitVec 2048) (upset : List (Word × BitVec 1024 × BitVec 12)), s.cfg.load = some l → l.hdr = some h → s.gf F.CFG_STAT_STATE 0 = 4 → 
      let u := s.setCfg { s.cfg with frames := flipFrames s.cfg.frames upset }
      Ends (exec (.verifyDone upset) s) fun t => if (u.cfg.frames.cells.all fun c => c.2.all fun f => f.code == secded f.data) = true ∧ framesCrc u = hCrc h then
        t.gb F.CFG_STAT_CFG_DONE 0 = true ∧ t.gf F.CFG_STAT_STATE 0 = 0 ∧ t.sett.phase = .calibrating ∧ t.img = l.img ∧ t.cfg.load = none
        else t.gf F.CFG_STAT_CAUSE 0 = 9)

/-- R333 to R349: START of CFG_PR_CMD, by a path that reaches the Hub window, stages a partial image from flash, or the full or partial image from the host or the FIFO; a host load by a path that is no host port is refused with cause 0x14; a request while one runs is refused; the FIFO takes up to 1,024 words and then flags an overflow; a fabric port whose clock runs and the fenced command stage a partial image in the same way, and a port may abort its own. -/
def Obligations.LoadRequests : Prop :=
  (∀ (s : State) (a : Reader), reaches s a R.CFG_PR_CMD.off = true → imageRuns s = true → s.cfg.pr = none → s.gb F.CFG_PR_CMD_START 0 = false → 
      Ends (exec (.cfgLoadFlash a) s) fun t => t.gb F.CFG_PR_CMD_START 0 = true ∧ t.gf F.CFG_PR_STAT_STATE 0 = 1 ∧ t.gf F.CFG_PR_STAT_RESULT 0 = 0 ∧
        t.cfg.pr = some ⟨LoadS.start (.flash false) (s.rd R.CFG_PR_ADDR 0) 0, some a, 0, 0, false, false⟩ ∧
        .flash 0 (s.rd R.CFG_PR_ADDR 0) [] ∈ t.out) ∧
  (∀ (s : State) (a : Reader) (p : PrS), reaches s a R.CFG_PR_CMD.off = true → imageRuns s = true → s.cfg.pr = some p → s.gb F.CFG_PR_CMD_START 0 = false → 
      Ends (exec (.cfgLoadFlash a) s) fun t => t.gf F.CFG_PR_STAT_RESULT 0 = 3 ∧ t.gf F.CFG_PR_STAT_CAUSE 0 = 0x10 ∧ t.gb F.CFG_EVT_REJECT 0 = true ∧ t.cfg.pr = some p) ∧
  (∀ (s : State) (a : Reader) (p : Fin 2), reaches s a R.CFG_PR_CMD.off = true → portOf a = some p → imageRuns s = true → s.cfg.pr = none → s.gb F.CFG_PR_CMD_START 0 = false → 
      Ends (exec (.cfgLoadHostDma a) s) fun t => t.cfg.pr = some ⟨LoadS.start (.host p) 0 0, some a, 0, s.gf F.CFG_LEN_LEN 0, false, false⟩ ∧
        .dmaRead (s.rd64 R.CFG_HOST_ADDR 0) (s.gf F.CFG_LEN_LEN 0) ∈ t.out) ∧
  (∀ (s : State) (a : Reader), reaches s a R.CFG_PR_CMD.off = true → portOf a = none → imageRuns s = true → s.cfg.pr = none → s.gb F.CFG_PR_CMD_START 0 = false → 
      Ends (exec (.cfgLoadHostDma a) s) fun t => t.gf F.CFG_PR_STAT_RESULT 0 = 3 ∧ t.gf F.CFG_PR_STAT_CAUSE 0 = 0x14 ∧ t.cfg.pr = none) ∧
  (∀ (s : State) (a : Reader), reaches s a R.CFG_PR_CMD.off = true → (imageRuns s = false ∧ awaitsHost s = true) → s.gb F.CFG_PR_CMD_START 0 = false → 
      Ends (exec (.cfgLoadFifo a) s) fun t => t.cfg.load = some (LoadS.start .fifo 0 0) ∧ t.cfg.fifo = [] ∧ t.gf F.CFG_STAT_STATE 0 = 2 ∧ t.gf F.CFG_STAT_SOURCE 0 = 4) ∧
  (∀ (s : State) (a : Reader), reaches s a R.CFG_PR_CMD.off = false → 
      Ends (exec (.cfgLoadFifo a) s) fun t => t.cfg = s.cfg ∧ t.regs = s.regs) ∧
  (∀ (s : State) (a : Reader) (v : Word), reaches s a R.CFG_FIFO.off = true → s.cfg.fifo.length < 1024 → 
      Ends (exec (.cfgFifoWrite a v) s) fun t => t.cfg.fifo = s.cfg.fifo ++ [v]) ∧
  (∀ (s : State) (a : Reader) (v : Word), reaches s a R.CFG_FIFO.off = true → ¬ s.cfg.fifo.length < 1024 → 
      Ends (exec (.cfgFifoWrite a v) s) fun t => t.gb F.CFG_FIFO_STAT_OVF 0 = true) ∧
  (∀ (s : State) (r : Rgn) (a : Word), (s.cfg.pr = none ∧ imageRuns s = true ∧ s.clk r = 0) → 
      Ends (exec (.portLoadFlash r a) s) fun t => t.cfg.pr = some ⟨LoadS.start (.flash false) a 0, none, r, 0, false, false⟩ ∧ t.gf F.CFG_PR_STAT_STATE 0 = 1 ∧ .flash 0 a [] ∈ t.out) ∧
  (∀ (s : State) (r : Rgn) (q : Fin 16), (s.cfg.pr = none ∧ imageRuns s = true ∧ s.clk r = 0) → 2 ≤ s.gf F.QC_CFG_WIDTH (fabB r) q → 
      Ends (exec (.portLoadQueue r q) s) fun t => t.cfg.pr = some ⟨LoadS.start (.queue r q) 0 0, none, r, 0, false, false⟩ ∧ t.gf F.CFG_PR_STAT_STATE 0 = 1) ∧
  (∀ (s : State) (r : Rgn) (p : PrS), (s.cfg.pr = some p ∧ s.clk r = 0) → (p.by_ = none ∧ p.port = r) → (s.gf F.CFG_PR_STAT_STATE 0 = 1 ∨ s.gf F.CFG_PR_STAT_STATE 0 = 2) → 
      Ends (exec (.portAbort r) s) fun t => t.cfg.pr = none ∧ t.gf F.CFG_PR_STAT_STATE 0 = 0) ∧
  (∀ (s : State) (a : Reader) (p : Fin 2), reaches s a R.SEC_FENCE_CMD.off = true → portOf a = some p → s.gb F.SEC_FENCE_CMD_START 0 = false → (s.cfg.pr = none ∧ imageRuns s = true) → 
      Ends (exec (.fencedLoad a) s) fun t => t.gb F.SEC_FENCE_CMD_START 0 = true ∧ t.cfg.pr = some ⟨LoadS.start (.secure p) 0 0, some a, 0, s.gf F.SEC_FENCE_LEN_LEN 0, false, false⟩ ∧
        .dmaRead (s.rd64 R.SEC_FENCE_ADDR 0) (s.gf F.SEC_FENCE_LEN_LEN 0) ∈ t.out)

/-- R341 to R344: a partial image's header is accepted or refused with its cause, its records are decrypted, checked and staged or refused, and once its units are whole, key, tag, signature and CRC are right and nothing it covers is busy its frames are written with their codes and CRCs, verified and released; a first mismatch rewrites the failed frames, a second ends the load with cause 0x13. R337 to R339: the scrubber leaves a frame that matches its checks, corrects and counts one that its code mends, and counts and alarms another one, or queues it for a reload from flash, whose end leaves it right if the block read anew matches its digest. -/
def Obligations.PartialImages : Prop :=
  (∀ (s : State) (p : PrS) (w : BitVec 128) (st : Bool) (h : BitVec 2048) (g : Bool), s.cfg.load = none → s.cfg.pr = some p → (p.load.hdr = none ∧ p.load.src = .flash g) → prHeaderCause s p h = 0 → 
      Ends (exec (.imageHeader w st h) s) fun t => t.cfg.pr = some { p with accepted := true, load := p.load.header s h }) ∧
  (∀ (s : State) (p : PrS) (w : BitVec 128) (st : Bool) (h : BitVec 2048) (g : Bool), s.cfg.load = none → s.cfg.pr = some p → (p.load.hdr = none ∧ p.load.src = .flash g ∧ p.by_.isSome = true) → (prHeaderCause s p h ≠ 0 ∧ prHeaderCause s p h ≠ 2) → 
      Ends (exec (.imageHeader w st h) s) fun t => t.cfg.pr = none ∧ t.gf F.CFG_PR_STAT_RESULT 0 = 3 ∧ t.gf F.CFG_PR_STAT_CAUSE 0 = prHeaderCause s p h ∧
        t.gb F.CFG_EVT_REJECT 0 = true ∧ t.gb F.CFG_PR_CMD_START 0 = false) ∧
  (∀ (s : State) (p : PrS) (h : BitVec 2048) (raw : BitVec 1088) (g : Bool), s.cfg.load = none → s.cfg.pr = some p → (p.load.hdr = some h ∧ p.load.src = .flash g) → s.gf F.CFG_PR_STAT_STATE 0 = 1 → 
      let x := recPlain s (hEnc h) (hIv h) (p.load.n + p.load.nr) raw
      Ends (exec (.frameRecord raw []) s) fun t => t.cfg.frames = s.cfg.frames ∧
        if recordCause s p.load h x ≠ 0 then t.cfg.pr = none ∧ t.gf F.CFG_PR_STAT_RESULT 0 = 3 ∧ t.gf F.CFG_PR_STAT_CAUSE 0 = recordCause s p.load h x
        else if portsOwn s p (recAddr x) then t.cfg.pr = none ∧ t.gf F.CFG_PR_STAT_CAUSE 0 = 0x11
        else if inService s (recAddr x) then t.cfg.pr = none ∧ t.gf F.CFG_PR_STAT_CAUSE 0 = 0xE
        else (t.cfg.pr.map fun y => y.load.recs) = some ((recAddr x, recData x) :: p.load.recs)) ∧
  (∀ (s : State) (p : PrS) (h : BitVec 2048), s.cfg.pr = some p → p.load.hdr = some h → (s.gf F.CFG_PR_STAT_STATE 0 = 1 ∧ p.load.complete h = true) → ((covered p).getLast?.all fun x => fKind x.1 = 1 || fKind x.1 = 8 || fIndex x.1 + 1 = unitFrames x.1) = true → 
      Ends (exec (.prStageDone) s) fun t => t.gf F.CFG_PR_STAT_STATE 0 = 2) ∧
  (∀ (s : State) (p : PrS) (h : BitVec 2048) (g : Bool) (tail : BitVec 896), s.cfg.pr = some p → (p.load.hdr = some h ∧ p.load.src = .flash g) → s.gf F.CFG_PR_STAT_STATE 0 = 2 → 
      Ends (exec (.prAuthDone tail) s) fun t => if authCause s h = 0 ∧ tagCause s p.load h tail = 0 ∧ signatureOk p.load h tail = true ∧ ~~~ p.load.crc = hCrc h then
        t.gf F.CFG_PR_STAT_STATE 0 = 3 ∧ t.cfg.pr = some p
        else t.cfg.pr = none ∧ t.gf F.CFG_PR_STAT_RESULT 0 = 3 ∧ t.gb F.CFG_EVT_PR_FAIL 0 = true) ∧
  (∀ (s : State) (p : PrS) (a : Nat) (d : BitVec 1024), s.cfg.pr = some p → s.gf F.CFG_PR_STAT_STATE 0 = 3 → covered p = [(a, d)] → coveredBusy s a = false → 
      Ends (exec (.prWaitEnd) s) fun t => t.gf F.CFG_PR_STAT_STATE 0 = 4 ∧
        (t.cfg.frames.get a).map (fun f => (f.data, f.code, f.crc)) = some (d, secded d, frameCrc (BitVec.ofNat 32 a) d)) ∧
  (∀ (s : State) (p : PrS) (upset : List (Word × BitVec 1024 × BitVec 12)), s.cfg.pr = some p → (s.gf F.CFG_PR_STAT_STATE 0 = 4 ∨ s.gf F.CFG_PR_STAT_STATE 0 = 5) → 
      let u := s.setCfg { s.cfg with frames := flipFrames s.cfg.frames upset }
      Ends (exec (.prVerifyDone upset) s) fun t => if badFrames u p = [] then
        t.cfg.pr = none ∧ t.gf F.CFG_PR_STAT_STATE 0 = 0 ∧ t.gf F.CFG_PR_STAT_RESULT 0 = 1 ∧ t.gb F.CFG_EVT_PR_DONE 0 = true
        else if p.retried then t.cfg.pr = none ∧ t.gf F.CFG_PR_STAT_RESULT 0 = 3 ∧ t.gf F.CFG_PR_STAT_CAUSE 0 = 0x13
        else t.cfg.pr = some { p with retried := true } ∧ t.gf F.CFG_PR_STAT_STATE 0 = 5) ∧
  (∀ (s : State) (d : Fin 3) (u : BitVec 1024) (co : BitVec 12) (k : Word) (a : Nat) (f : FrameC), (s.gb F.CFG_CTRL_SCRUB_EN 0 = true ∧ imageRuns s = true) → scrubNext s d = some a → s.cfg.frames.get a = some f → 
      let g := f.flip u co k
      Ends (exec (.scrubFrame d u co k) s) fun t => t.cfg.scrub.get d = a + 1 ∧
        if g.sound a then t.cfg.frames.get a = some g ∧ t.regs = s.regs
        else if (g.fixed a).isSome then
        t.cfg.frames.get a = g.fixed a ∧ t.gf F.CFG_SCRUB_CNT_CORR 0 = satInc 16 (s.gf F.CFG_SCRUB_CNT_CORR 0) ∧ t.gb F.CFG_EVT_CORR 0 = true
        else
        t.gf F.CFG_SCRUB_CNT_UNCORR 0 = satInc 16 (s.gf F.CFG_SCRUB_CNT_UNCORR 0) ∧ t.rd R.CFG_SCRUB_LAST 0 = BitVec.ofNat 32 a ∧
        t.gb F.CFG_EVT_UNCORR 0 = true ∧
        if fDie a ≠ 2 ∧ fenced s (fRgn a) = true then a ∈ t.cfg.fencedBad ∧ (t.spoor.slots.get (slotKey cfgSrc 0x111 0)).isSome = true
        else if f.vol then (t.spoor.slots.get (slotKey cfgSrc 0x111 0)).isSome = true
        else t.cfg.reloads = if s.cfg.reloads.contains a then s.cfg.reloads else s.cfg.reloads ++ [a]) ∧
  (∀ (s : State) (a : Nat) (l : List Nat) (f : FrameC) (b : Option (List (BitVec 1088))), s.cfg.reloads = a :: l → s.cfg.frames.get a = some f → 
      Ends (exec (.scrubReloadDone b) s) fun t => t.cfg.reloads = l ∧ (t.spoor.slots.get (slotKey cfgSrc 0x111 0)).isSome = true ∧
        t.cfg.frames.get a = some (((reloaded s f b).map fun d => FrameC.put a d f.vol f.dig).getD f) ∧
        (reloaded s f b = none → t.gb F.CFG_EVT_RELOAD_FAIL 0 = true))

/-- R326, R327, R529: an OTP command, by a path that reaches the Hub window, with the guard and a value in range starts, another is refused with its cause; when the fuses verify, the rollback counter, if the golden image read anew passes its checks and is no older, a slot's REVOKED or CONSENT is blown in OTP and shown; fuses that do not verify give cause 7. R345, R350: flash commands start and end in order, one that touches the golden range is refused; R521: the ledger's write to flash leaves its copy. -/
def Obligations.FusesAndFlash : Prop :=
  (∀ (s : State) (a : Reader) (v : Fin 256), (reaches s a R.SEC_OTP_CMD.off = true ∧ a ≠ .jtag) → s.gb F.SEC_OTP_CMD_START 0 = false → (v.val ≤ 64 ∧ s.gf F.SEC_STAT_ROLLBACK 0 ≤ v.val ∧ v.val ≤ s.gf F.CFG_IMAGE_SVN 0) → 
      Ends (exec (.commitRollback a v 0x5A) s) fun t => t.gb F.SEC_OTP_CMD_START 0 = true ∧ t.cfg.otpCmd = (1, v.val) ∧ t.otp = s.otp ∧ .flash 0 (otpGoldenAddr s) [] ∈ t.out) ∧
  (∀ (s : State) (a : Reader) (v g : Fin 256), (reaches s a R.SEC_OTP_CMD.off = true ∧ a ≠ .jtag) → s.gb F.SEC_OTP_CMD_START 0 = false → g.val ≠ 0x5A → 
      Ends (exec (.commitRollback a v g) s) fun t => t.gb F.SEC_OTP_CMD_START 0 = false ∧ t.gf F.SEC_OTP_STAT_RESULT 0 = 3 ∧ t.gf F.SEC_OTP_STAT_CAUSE 0 = 1 ∧ t.gb F.SEC_EVT_REJECT 0 = true) ∧
  (∀ (s : State) (a : Reader) (v : Fin 256) (i : Fin 4), (reaches s a R.SEC_OTP_CMD.off = true ∧ a ≠ .jtag) → s.gb F.SEC_OTP_CMD_START 0 = false → (i.val ≠ v.val % 4 ∧ (s.gf F.SEC_SLOTS_SLOTS 0 / 16 ^ i.val).testBit 0 = true ∧ (s.gf F.SEC_SLOTS_SLOTS 0 / 16 ^ i.val).testBit 3 = false) → 
      Ends (exec (.revokeSlot a v 0x5A) s) fun t => t.gb F.SEC_OTP_CMD_START 0 = true ∧ t.cfg.otpCmd = (2, v.val)) ∧
  (∀ (s : State) (a : Reader), (reaches s a R.SEC_OTP_CMD.off = true ∧ a ≠ .jtag) → s.gb F.SEC_OTP_CMD_START 0 = false → s.gb F.SEC_STAT_VTEST_DIS 0 = false → 
      Ends (exec (.blowConsent a 0x5A) s) fun t => t.gb F.SEC_OTP_CMD_START 0 = true ∧ t.cfg.otpCmd.1 = 3) ∧
  (∀ (s : State) (v : Nat) (g : Option RawImage), s.gb F.SEC_OTP_CMD_START 0 = true → s.cfg.otpCmd = (1, v) → 
      Ends (exec (.otpCommandDone g true) s) fun t => t.gb F.SEC_OTP_CMD_START 0 = false ∧
        if (g.any fun x => decide (imageCause s x = 0 ∧ v ≤ hSvn x.hdr)) = true then
        t.gf F.SEC_STAT_ROLLBACK 0 = max (fOf (s.otp.get (R.SEC_STAT.addr 0 0)) F.SEC_STAT_ROLLBACK) (min v 64) ∧
        fOf (t.otp.get (R.SEC_STAT.addr 0 0)) F.SEC_STAT_ROLLBACK = t.gf F.SEC_STAT_ROLLBACK 0 ∧
        t.gf F.SEC_OTP_STAT_RESULT 0 = 1 ∧ t.gb F.SEC_EVT_OTP_DONE 0 = true
        else t.gf F.SEC_OTP_STAT_RESULT 0 = 3 ∧ t.gf F.SEC_OTP_STAT_CAUSE 0 = 3 ∧ t.otp = s.otp) ∧
  (∀ (s : State) (v : Nat) (g : Option RawImage), s.gb F.SEC_OTP_CMD_START 0 = true → s.cfg.otpCmd = (2, v) → 
      Ends (exec (.otpCommandDone g true) s) fun t => t.gf F.SEC_SLOTS_SLOTS 0 = fOf (s.otp.get (R.SEC_SLOTS.addr 0 0)) F.SEC_SLOTS_SLOTS ||| 8 * 16 ^ (v % 4)) ∧
  (∀ (s : State) (g : Option RawImage), s.gb F.SEC_OTP_CMD_START 0 = true → (s.cfg.otpCmd.1 = 2 ∨ s.cfg.otpCmd.1 = 3) → 
      Ends (exec (.otpCommandDone g false) s) fun t => t.otp = s.otp ∧ t.gf F.SEC_OTP_STAT_RESULT 0 = 3 ∧ t.gf F.SEC_OTP_STAT_CAUSE 0 = 7 ∧ t.gb F.SEC_OTP_CMD_START 0 = false) ∧
  (∀ (s : State) (a : Reader) (n : Fin 64), reaches s a R.CFG_FL_CMD.off = true → s.gb F.CFG_FL_CMD_START 0 = false → 
      Ends (exec (.flashRead a n) s) fun t => t.gb F.CFG_FL_CMD_START 0 = true ∧ t.cfg.jobs = s.cfg.jobs ++ [.host 0 n] ∧ .flash 0 (s.rd R.CFG_FL_ADDR 0) [] ∈ t.out) ∧
  (∀ (s : State) (a : Reader) (n : Fin 64), reaches s a R.CFG_FL_CMD.off = true → s.gb F.CFG_FL_CMD_START 0 = false → touchesGolden s 1 n = false → 
      Ends (exec (.flashProgram a n) s) fun t => t.cfg.jobs = s.cfg.jobs ++ [.host 1 n] ∧
        .flash 1 (s.rd R.CFG_FL_ADDR 0) ((List.range (n.val + 1)).map fun i => s.rd R.CFG_FL_BUF 0 i) ∈ t.out) ∧
  (∀ (s : State) (a : Reader) (n : Fin 64), reaches s a R.CFG_FL_CMD.off = true → s.gb F.CFG_FL_CMD_START 0 = false → touchesGolden s 1 n = true → 
      Ends (exec (.flashProgram a n) s) fun t => t.gf F.CFG_FL_CMD_RESULT 0 = 3 ∧ t.gf F.CFG_FL_CMD_CAUSE 0 = 1 ∧ t.cfg.jobs = s.cfg.jobs) ∧
  (∀ (s : State) (a : Reader), reaches s a R.CFG_FL_CMD.off = true → s.gb F.CFG_FL_CMD_START 0 = false → touchesGolden s 2 (s.gf F.CFG_FL_CMD_WORDS 0) = false → 
      Ends (exec (.flashErase a) s) fun t => t.cfg.jobs = s.cfg.jobs ++ [.host 2 (s.gf F.CFG_FL_CMD_WORDS 0)] ∧ t.gb F.CFG_FL_CMD_START 0 = true) ∧
  (∀ (s : State) (n : Nat) (l : List FlJob) (w : Word), s.cfg.jobs = .host 0 n :: l → 
      Ends (exec (.flashCommandDone true [w]) s) fun t => t.rd R.CFG_FL_BUF 0 = w ∧ t.gf F.CFG_FL_CMD_RESULT 0 = 1 ∧ t.gb F.CFG_FL_CMD_START 0 = false ∧ t.cfg.jobs = l) ∧
  (∀ (s : State) (l : List FlJob), s.cfg.jobs = .ledger :: l → 
      Ends (exec (.flashCommandDone true []) s) fun t => t.sett.copies.get s.sett.sector = some (ledgerOf s) ∧ t.sett.dirty = false ∧ t.cfg.jobs = l)

/-- R357 to R381: a source emits its oldest record that may leave, which then enters its funnel, a guaranteed one always; a token makes a waiting record conforming; a record passes from hop to hop; a raised alarm takes its slot, and one already pending counts a repeat and keeps its first detail; an alarm leaves its slot as it passes the Hub funnel; a record that still waits when its deadline has passed is counted, shown and raised. -/
def Obligations.SpoorNetwork : Prop :=
  (∀ (s : State) (x : Src) (i : Item) (l : List Item), s.spoor.srcQ.get x.key = i :: l → (i.conf = true ∧ flowAccepted s i.flow = true) → 
      Ends (exec (.recordEmit x) s) fun t => t.spoor.srcQ.get x.key = l ∧ { i with emit := s.hub.base } ∈ t.spoor.hops.get (firstHop x)) ∧
  (∀ (s : State) (x : Src) (i : Item) (l : List Item), s.spoor.srcQ.get x.key = i :: l → (flowAccepted s i.flow = false ∧ i.cls ≠ 0) → 
      Ends (exec (.recordEmit x) s) fun t => t.spoor.srcQ.get x.key = l ∧ ((s.spoor.hops.get (firstHop x)).length < Config.hopDepth (firstHop x) →
        t.spoor.hops.get (firstHop x) = s.spoor.hops.get (firstHop x) ++ [{ i with conf := false, emit := s.hub.base }])) ∧
  (∀ (s : State) (f : Fin 4096) (i : Item), lateRecord s f = some i → s.hub.base < i.emit + (s.flow i.flow).deadline * 16000 → 
      Ends (exec (.deadlineMiss f) s) fun t => t.spoor = s.spoor ∧ t.regs = s.regs) ∧
  (∀ (s : State) (x : Src) (f : Fin 4096) (ns : Nat) (i : Item) (l : List Item), s.spoor.srcQ.get x.key = i :: l → (i.flow = f.val ∧ i.conf = false) → flowAccepted s f = true → s.spoor.taken.get (x.key * 4096 + f) - (s.flow f).rate * ns + 32000000 ≤ (s.flow f).burst * 32000000 → ((queuedItems s).filter fun i => i.flow = f.val && i.conf).length < (s.flow f).q32 → 
      Ends (exec (.tokenGrant x f ns) s) fun t => t.spoor.srcQ.get x.key = { i with conf := true } :: l ∧
        t.spoor.taken.get (x.key * 4096 + f) = s.spoor.taken.get (x.key * 4096 + f) - (s.flow f).rate * ns + 32000000) ∧
  (∀ (s : State) (h : Fin 533) (n : Nat) (i : Item), h.val ≠ 532 → s.spoor.hops.get h = [i] → (i.cls ≠ 0 ∧ i.conf = true ∧ i.slot = none) → onPath i.src h = true → s.spoor.hopDrops.get (h * 65536 + i.src.key) = 0 → 
      Ends (exec (.funnelHop h n) s) fun t => t.spoor.hops.get h = [] ∧ i ∈ t.spoor.hops.get (nextHop h)) ∧
  (∀ (s : State) (n : Nat) (i : Item) (k : Nat) (x : Slot), s.spoor.hops.get hopHub = [i] → (i.cls = 0 ∧ i.slot = some k) → s.spoor.slots.get k = some x → postPort s ≠ 0 → ((s.post i.flow).walk.isSome = true ∨ (cached s i.flow).isSome = true) → 
      Ends (exec (.funnelHop 532 n) s) fun t => ((s.spoor.hops.get hopPost).length < Config.hopDepth hopPost →
        t.spoor.slots.get k = none ∧ t.spoor.hops.get hopHub = [] ∧
        ((t.spoor.hops.get hopPost).getLast?.map fun j => (j.payload, j.rep, j.time)) = some (alarmPayload x, x.rep, x.time))) ∧
  (∀ (s : State) (x : Src) (c : Fin 65536) (d : BitVec 80), mayRaise x c = true → (alarmType x c ≠ 3 ∧ c.val ≠ 0x121) → s.spoor.slots.get (slotKey x c 0) = none → 
      Ends (exec (.alarmRaise x c d) s) fun t => t.spoor.slots.get (slotKey x c 0) = some ⟨x, alarmType x c, c, d, s.now, s.now.lo, 0⟩ ∧
        ((t.spoor.hops.get (firstHop x)).getLast?.map fun j => (j.cls, j.slot)) = some (0, some (slotKey x c 0))) ∧
  (∀ (s : State) (x : Src) (c : Fin 65536) (d : BitVec 80) (y : Slot), mayRaise x c = true → (alarmType x c ≠ 3 ∧ c.val ≠ 0x121) → s.spoor.slots.get (slotKey x c 0) = some y → 
      Ends (exec (.alarmRaise x c d) s) fun t => t.spoor.slots.get (slotKey x c 0) = some { y with rep := min 255 (y.rep + 1), last := s.now.lo } ∧ t.spoor.hops = s.spoor.hops) ∧
  (∀ (s : State) (f : Fin 4096) (i : Item), lateRecord s f = some i → missCause i ≠ 0 → flowAccepted s f = true → i.emit + (s.flow i.flow).deadline * 16000 ≤ s.hub.base → 
      Ends (exec (.deadlineMiss f) s) fun t => t.gf F.SPR_MISS_LAST_CAUSE 0 = missCause i ∧ t.gf F.SPR_MISS_LAST_FLOW 0 = f ∧ t.gb F.SPR_EVT_MISS 0 = true ∧
        (t.flow f).miss = min 65535 ((s.flow f).miss + 1) ∧ (t.spoor.slots.get (slotKey admission 0x121 f)).isSome = true)

/-- R363 to R368: OPEN admits a best-effort flow whose descriptor passes the checks, and a guaranteed one whose sums also fit while a port posts; otherwise it is refused with its cause; CLOSE closes; QUERY shows the flow; READMIT gives a best-effort or demoted flow its guarantee. R382 to R387: a credit stall lowers C, a re-run takes the capacity of the posting port, and admission starts with the image's flows. -/
def Obligations.FlowsAndAdmission : Prop :=
  (∀ (s : State) (f : Fin 4096) (x : FlowS), (s.gb F.SPR_CTRL_LOCK 0 = false ∧ s.gb F.SPR_CMD_START 0 = false) → x = { FlowS.reset with d0 := s.rd R.SPR_DESC0 0, d1 := s.rd R.SPR_DESC1 0, d2 := s.rd R.SPR_DESC2 0 } → (f.val ≠ 0 ∧ checkDesc x (s.gb F.SPR_DESC0_GUAR 0) = 0) → (s.flow f).st = .closed → (s.gb F.SPR_DESC0_GUAR 0 = true → postPort s ≠ 0 ∧ checkSums s x = 0) → (s.post f).uncov = 0 → 
      Ends (exec (.openFlow f) s) fun t => t.flow f = { x with st := if s.gb F.SPR_DESC0_GUAR 0 then .accepted else .bestEffort } ∧
        t.gf F.SPR_CMD_STAT_RESULT 0 = 1 ∧ t.gf F.SPR_CMD_STAT_CAUSE 0 = 0 ∧ t.gb F.SPR_CMD_START 0 = false ∧
        (t.post f).count = 0) ∧
  (∀ (s : State) (f : Fin 4096) (x : FlowS), (s.gb F.SPR_CTRL_LOCK 0 = false ∧ s.gb F.SPR_CMD_START 0 = false) → x = { FlowS.reset with d0 := s.rd R.SPR_DESC0 0, d1 := s.rd R.SPR_DESC1 0, d2 := s.rd R.SPR_DESC2 0 } → (f.val ≠ 0 ∧ checkDesc x (s.gb F.SPR_DESC0_GUAR 0) ≠ 0) → 
      Ends (exec (.openFlow f) s) fun t => t.gf F.SPR_CMD_STAT_RESULT 0 = 3 ∧ t.gf F.SPR_CMD_STAT_CAUSE 0 = checkDesc x (s.gb F.SPR_DESC0_GUAR 0) ∧
        t.gb F.SPR_EVT_REFUSED 0 = true ∧ t.spoor.flows = s.spoor.flows) ∧
  (∀ (s : State) (f : Fin 4096), (s.gb F.SPR_CTRL_LOCK 0 = false ∧ s.gb F.SPR_CMD_START 0 = false) → (f.val ≠ 0 ∧ (s.flow f).st ≠ .closed) → suspended s f = false → 
      Ends (exec (.closeFlow f) s) fun t => (t.flow f).st = .closed ∧ t.gf F.SPR_CMD_STAT_RESULT 0 = 1 ∧ ∀ i ∈ queuedItems t, i.flow = f.val → i.conf = false) ∧
  (∀ (s : State) (f : Fin 4096), (s.gb F.SPR_CTRL_LOCK 0 = false ∧ s.gb F.SPR_CMD_START 0 = false) → f.val ≠ 0 → 
      Ends (exec (.queryFlow f) s) fun t => t.rd R.SPR_DESC0 0 = (s.flow f).d0 ∧ t.rd R.SPR_DESC1 0 = (s.flow f).d1 ∧ t.rd R.SPR_DESC2 0 = (s.flow f).d2 ∧
        t.gf F.SPR_FSTAT_STATE 0 = flowCode s f ∧ t.rd R.SPR_FCNT0 0 = (s.flow f).deliv ∧ t.gf F.SPR_CMD_STAT_RESULT 0 = 1) ∧
  (∀ (s : State) (f : Fin 4096), (s.gb F.SPR_CTRL_LOCK 0 = false ∧ s.gb F.SPR_CMD_START 0 = false) → f.val ≠ 0 → ((s.flow f).st = .bestEffort ∨ (s.flow f).st = .demoted) → checkDesc (s.flow f) true = 0 → (postPort s ≠ 0 ∧ checkSums s (s.flow f) = 0) → 
      Ends (exec (.readmitFlow f) s) fun t => (t.flow f).st = .accepted ∧ t.gf F.SPR_CMD_STAT_RESULT 0 = 1) ∧
  (∀ (s : State) (mbs : Nat), postPort s ≠ 0 → stalledFor s (postPort s - 1) 160000 = true → 
      Ends (exec (.creditStall mbs) s) fun t => t.gb F.SPR_STAT_STALL 0 = true ∧ t.spoor.stallC = true ∧
        t.spoor.c16 = s.spoor.c16 * min 16 (mbs * 256 / s.spoor.c16) / 16) ∧
  (∀ (s : State) (port : Bool), s.spoor.started = true → 
      Ends (exec (.admissionRerun port) s) fun t => t.spoor.c16 = 16 * postCapacity s ∧ t.spoor.stallC = false) ∧
  (∀ (s : State), s.spoor.started = false → postPort s ≠ 0 → 
      Ends (exec (.admissionStart) s) fun t => t.spoor.started = true ∧ t.spoor.c16 = 16 * postCapacity s) ∧
  (∀ (s : State) (f : Nat) (d0 d1 d2 : Word), s.spoor.started = false → postPort s ≠ 0 → s.spoor.imgFlows = [(f, d0, d1, d2)] → (f ≠ 0 ∧ (s.flow f).st = .closed ∧ fOf d0 F.SPR_DESC0_GUAR = 0) → 
      Ends (exec (.admissionStart) s) fun t => (t.flow f).st = .bestEffort ∧ (t.flow f).d0 = d0 ∧ (t.flow f).d1 = d1 ∧ (t.flow f).d2 = d2)

/-- R391 to R408: a valid root entry leads to the read of the leaf entry, a valid leaf entry becomes the flow's entry; a leaf entry that fails a check, or an access without an answer, suspends the flow with its cause; an entry is read again at 7/8 of its age; the invalidation commands remove what they cover, and end once their walks have; at its hold limit a suspended flow is broken; an ATS invalidation removes its translations. -/
def Obligations.PostingMap : Prop :=
  (∀ (s : State) (f : Fin 4096) (w : WalkS) (e : DWord), (s.post f).walk = some w → w.stage = .root → (e.getLsbD 0 = true ∧ e.getLsbD 1 = false ∧ e.toNat / 4 % 512 = 0) → fenceHit s (postPort s - 1) (e.toNat / 2048 * 2048 + 32 * (f.val % 64)) 32 = false → 
      Ends (exec (.mapReadCompletion f (.data [e])) s) fun t => ((t.post f).walk.map (·.stage)) = some .leaf ∧ t.pmap.roots.get (f.val / 64) = some (e, w.issued) ∧
        .mapRead (postPort s - 1) (BitVec.ofNat 64 (e.toNat / 2048 * 2048 + 32 * (f.val % 64))) 32 ∈ t.out) ∧
  (∀ (s : State) (f : Fin 4096) (w : WalkS) (ws : List DWord), (s.post f).walk = some w → w.stage = .leaf → leafCheck s f (postPort s - 1) (leafOf ws) = 0 → 
      Ends (exec (.mapReadCompletion f (.data ws)) s) fun t => (t.post f).entry = some (leafOf ws) ∧ (t.post f).walk = none ∧ (t.post f).susp = none) ∧
  (∀ (s : State) (f : Fin 4096) (w : WalkS) (ws : List DWord), (s.post f).walk = some w → w.stage = .leaf → leafCheck s f (postPort s - 1) (leafOf ws) ≠ 0 → (f.val = 0 ∨ ((s.flow f).st ≠ .closed ∧ (s.post f).holdDue = false ∧ (s.flow f).hold ≠ 0)) → 
      Ends (exec (.mapReadCompletion f (.data ws)) s) fun t => ((t.post f).susp.map (·.cause)) = some (leafCheck s f (postPort s - 1) (leafOf ws)) ∧ (t.post f).walk = none ∧
        t.gb F.PMAP_EVT_FAULT 0 = true ∧ (t.spoor.slots.get (slotKey postingSrc 0x130 0)).isSome = true) ∧
  (∀ (s : State) (f : Fin 4096) (w : WalkS), (s.post f).walk = some w → (w.stage ≠ .queued ∧ postPort s ≠ 0) → (f.val = 0 ∨ ((s.flow f).st ≠ .closed ∧ (s.post f).holdDue = false ∧ (s.flow f).hold ≠ 0)) → w.issued + accessLimit ≤ s.hub.base → 
      Ends (exec (.accessTimeout f false) s) fun t => ((t.post f).susp.map (·.cause)) = some 5 ∧ (t.post f).walk = none ∧ t.gb F.PMAP_EVT_FAULT 0 = true) ∧
  (∀ (s : State) (f : Fin 4096) (c : CacheE) (e : DWord), s.pmap.cache.find? (fun c => c.flow = f.val) = some c → (postPort s ≠ 0 ∧ (s.post f).walk = none ∧ (s.post f).susp = none) → (c.fill * 8 + 7 * ageLimit s ≤ s.hub.base * 8 ∧ c.fill * 8 + 6 * ageLimit s ≤ c.used * 8) → rootEntry s f = some e → (e.getLsbD 1 = false ∧ fenceHit s (postPort s - 1) (e.toNat / 2048 * 2048 + 32 * (f.val % 64)) 32 = false) → 
      Ends (exec (.mapRefresh f) s) fun t => ((t.post f).walk.map (·.refresh)) = some true) ∧
  (∀ (s : State) (f : Fin 4096), (s.gb F.PMAP_CMD_START 0 = false ∧ s.pmap.failback = false) → 
      Ends (exec (.invFlow f) s) fun t => t.gb F.PMAP_CMD_START 0 = true ∧ t.pmap.inv.isSome = true ∧ ∀ c ∈ t.pmap.cache, c.flow ≠ f.val) ∧
  (∀ (s : State) (f : Fin 4096), (s.gb F.PMAP_CMD_START 0 = false ∧ s.pmap.failback = false) → 
      Ends (exec (.invRoot f) s) fun t => t.gb F.PMAP_CMD_START 0 = true ∧ t.pmap.roots.get (f.val / 64) = none ∧ ∀ c ∈ t.pmap.cache, c.flow / 64 ≠ f.val / 64) ∧
  (∀ (s : State), (s.gb F.PMAP_CMD_START 0 = false ∧ s.pmap.failback = false) → 
      Ends (exec (.invAll) s) fun t => t.gb F.PMAP_CMD_START 0 = true ∧ t.pmap.cache = []) ∧
  (∀ (s : State) (bad : Bool) (n : Nat), s.pmap.inv = some (bad, n) → s.gb F.PMAP_CMD_START 0 = true → (s.pmap.flows.cells.any fun c => match c.2.walk with | some w => w.inv | none => false) = false → (postPort s ≠ 0 → (s.pmap.waiting.get (postPort s - 1)).isEmpty = true ∧ (isCxl s (postPort s - 1) = true → (s.pmap.gone.get (postPort s - 1)).isEmpty = true) ∧ oldUncovered s = false) → 
      Ends (exec (.invalidationDone) s) fun t => t.pmap.inv = none ∧ t.gf F.PMAP_CMD_STAT_RESULT 0 = (if bad then 2 else 1) ∧ t.gb F.PMAP_CMD_START 0 = false ∧
        t.gb F.PMAP_EVT_INV_DONE 0 = true) ∧
  (∀ (s : State) (p : Fin 2) (page : DWord) (n j : Nat), j < n → 
      Ends (exec (.atsInvalidation p page n) s) fun t => t.pmap.trans.get (p * 2 ^ 52 + page.toNat / 4096 + j) = none) ∧
  (∀ (s : State) (f : Fin 4096) (u : SuspS), (s.post f).susp = some u → (f.val ≠ 0 ∧ (s.post f).walk = none) → u.since + (s.flow f).hold * 16000000 ≤ s.hub.base → 
      Ends (exec (.holdLimitExpire f) s) fun t => (t.flow f).st = .broken ∧ (t.post f).susp = none ∧ t.gb F.PMAP_EVT_BROKEN 0 = true ∧
        (t.spoor.slots.get (slotKey postingSrc 0x131 0)).isSome = true) ∧
  (∀ (s : State) (p : Fin 2) (v : DWord), 
      Ends (exec (.pmapRootWrite p v) s) fun t => t.rd64 (if p.val = 0 then R.PMAP_ROOT_A else R.PMAP_ROOT_B) 0 = v &&& 0xFFFF_FFFF_FFFF_FE03) ∧
  (∀ (s : State) (p : Fin 2), reaches s (if p.val = 0 then .hla else .hlb) R.PMAP_CMD_STAT.off = true → 
      Ends (exec (.pmapCmdStatRead p) s) fun t => t.resp.get (if p.val = 0 then Reader.hla else Reader.hlb).code = some ((s.rd R.PMAP_CMD_STAT 0).setWidth 64))

/-- R410 to R414: in PCIe mode, with credit and no write waiting, a record is written at its place in the ring and the write count goes on; a write pointer covers what was written; a deferred interrupt is sent at the end of its interval; a full stop-mode ring reads RP again; answers to reads and GOs are taken; credits are counted; a CXL snoop is answered. R415 to R419: FAILOVER, or a trigger of R415, moves posting to the other port if it can post, and is refused otherwise; FAILBACK in PCIe mode sends the zero-length read, whose answer moves posting to the primary port; where posting is there already it is refused; with no port that can post, posting stops. -/
def Obligations.PostingWrites : Prop :=
  (∀ (s : State) (i : Item) (l : Leaf) (n : Nat), (postPort s ≠ 0 ∧ canPost s (postPort s - 1) = true ∧ isCxl s (postPort s - 1) = false ∧ s.pmap.failback = false) → s.spoor.hops.get hopPost = [i] → s.spoor.hopDrops.get (hopPost * 65536 + i.src.key) = 0 → postable s i = true → postEntry s i.flow = some l → (l.ats = false ∧ fenceHit s (postPort s - 1) (l.base + 32 * ((s.post i.flow).count.toNat % 2 ^ l.logSize)) 32 = false) → (s.pmap.waiting.get (postPort s - 1) = [] ∧ s.pmap.credits.get (postPort s - 1) ≠ 0) → l.base + 32 * 2 ^ l.logSize ≤ 2 ^ 64 → 
      Ends (exec (.postRecord n) s) fun t => (t.post i.flow).count = (s.post i.flow).count + 1 ∧ t.spoor.hops.get hopPost = [] ∧
        .hostWrite (postPort s - 1) .posted false (BitVec.ofNat 64 (l.base + 32 * ((s.post i.flow).count.toNat % 2 ^ l.logSize)))
        ((recordBits s i).setWidth 512) ∈ t.out) ∧
  (∀ (s : State) (f : Fin 4096) (l : Leaf), (postPort s ≠ 0 ∧ isCxl s (postPort s - 1) = false) → (s.post f).entry = some l → ((s.post f).uncov ≠ 0 ∧ (s.post f).susp = none ∧ (s.post f).trans = none) → (s.pmap.waiting.get (postPort s - 1) = [] ∧ s.pmap.credits.get (postPort s - 1) ≠ 0) → (16 ≤ (s.post f).uncov ∨ (s.post f).uncovAt + 16000 ≤ s.hub.base ∨ ((s.spoor.hops.get hopPost).any fun i => i.flow = f.val) = false) → (l.ats = false ∧ fenceHit s (postPort s - 1) l.wp 8 = false) → 
      Ends (exec (.wpWrite f) s) fun t => (t.post f).uncov = 0 ∧
        .hostWrite (postPort s - 1) .posted true (BitVec.ofNat 64 l.wp) ((s.post f).count.setWidth 512) ∈ t.out) ∧
  (∀ (s : State) (f : Fin 4096) (l : Leaf), ((s.post f).intDue = true ∧ postPort s ≠ 0) → (s.post f).entry = some l → ((s.post f).lastInt.all fun v => decide (v + l.intMod * 16000 ≤ s.hub.base)) = true → 
      Ends (exec (.intModExpire f) s) fun t => (t.post f).intDue = false ∧ (t.post f).lastInt = some s.hub.base) ∧
  (∀ (s : State) (f : Fin 4096) (l : Leaf), (postPort s ≠ 0 ∧ s.pmap.failback = false) → postEntry s f = some l → ringFull s f l = true → ((s.post f).rpBusy = false ∧ (s.post f).susp = none ∧ (s.post f).trans = none) → ((s.post f).rpAt.all fun t => decide (t + 16000 ≤ s.hub.base)) = true → (l.ats = false ∧ fenceHit s (postPort s - 1) l.rp 8 = false) → 
      Ends (exec (.rpRead f) s) fun t => (t.post f).rpBusy = true ∧ (t.post f).rpAt = some s.hub.base ∧ .rpRead (postPort s - 1) (BitVec.ofNat 64 l.rp) ∈ t.out) ∧
  (∀ (s : State) (f : Fin 4096) (v : DWord), postPort s ≠ 0 → (s.post f).rpBusy = true → 
      Ends (exec (.readCompletion (.rp f v)) s) fun t => (t.post f).rp = some v ∧ (t.post f).rpBusy = false) ∧
  (∀ (s : State) (f : Fin 4096) (page : DWord) (r w : Bool) (b : Bool) (p : DWord), postPort s ≠ 0 → (s.post f).trans = some (p, b) → (if b then w else r) = true → (s.post f).walk = none → 
      Ends (exec (.readCompletion (.trans f page r w)) s) fun t => t.pmap.trans.get ((postPort s - 1) * 2 ^ 52 + p.toNat / 4096) = some ⟨page, r, w⟩ ∧ (t.post f).trans = none) ∧
  (∀ (s : State) (f : Fin 4096) (w : Write) (l : List Write), (postPort s ≠ 0 ∧ isCxl s (postPort s - 1) = true ∧ s.pmap.failback = false) → s.pmap.gone.get (postPort s - 1) = w :: l → (w.flow = f.val ∧ w.wp = false) → 
      Ends (exec (.goReceived f false) s) fun t => t.pmap.gone.get (postPort s - 1) = l) ∧
  (∀ (s : State) (p : Fin 2) (n : Nat), s.pmap.waiting.get p = [] → 
      Ends (exec (.flowControlCredit p n) s) fun t => t.pmap.credits.get p = s.pmap.credits.get p + n) ∧
  (∀ (s : State) (p : Fin 2), isCxl s p = true → 
      Ends (exec (.snoop p) s) fun t => .snoopResponse p ∈ t.out) ∧
  (∀ (s : State), (s.gb F.PMAP_CMD_START 0 = false ∧ s.pmap.failback = false) → (postPort s = 1 ∨ postPort s = 2) → canPost s (1 - (postPort s - 1)) = true → 
      Ends (exec (.failover) s) fun t => postPort t = 3 - postPort s ∧ t.gf F.PMAP_CMD_STAT_RESULT 0 = 1 ∧ t.gb F.PMAP_EVT_FAILOVER 0 = true ∧
        t.gb F.PMAP_CMD_START 0 = false ∧ (t.spoor.slots.get (slotKey postingSrc 0x132 0)).isSome = true) ∧
  (∀ (s : State), (s.gb F.PMAP_CMD_START 0 = false ∧ s.pmap.failback = false) → (postPort s = 0 ∨ canPost s (1 - (postPort s - 1)) = false) → 
      Ends (exec (.failover) s) fun t => t.gf F.PMAP_CMD_STAT_RESULT 0 = 3 ∧ t.gf F.PMAP_CMD_STAT_CAUSE 0 = 1 ∧ t.gb F.PMAP_EVT_REJECT 0 = true ∧ postPort t = postPort s) ∧
  (∀ (s : State) (k : Fin 5), (postPort s = 1 ∨ postPort s = 2) → (triggerHolds s (postPort s - 1) k = true ∧ s.pmap.waitCmd = none) → canPost s (1 - (postPort s - 1)) = true → 
      Ends (exec (.postingFailover k) s) fun t => postPort t = 3 - postPort s ∧ t.gb F.PMAP_EVT_FAILOVER 0 = true) ∧
  (∀ (s : State), (s.gb F.PMAP_CMD_START 0 = false ∧ s.pmap.failback = false) → canPost s (s.gf F.PMAP_CTRL_PRIMARY 0) = true → (postPort s ≠ 0 ∧ postPort s ≠ s.gf F.PMAP_CTRL_PRIMARY 0 + 1) → isCxl s (postPort s - 1) = false → 
      Ends (exec (.failback) s) fun t => t.pmap.failback = true ∧ .zeroRead (postPort s - 1) ∈ t.out ∧ t.gf F.PMAP_CMD_STAT_RESULT 0 = 1) ∧
  (∀ (s : State), (s.gb F.PMAP_CMD_START 0 = false ∧ s.pmap.failback = false) → canPost s (s.gf F.PMAP_CTRL_PRIMARY 0) = true → postPort s = s.gf F.PMAP_CTRL_PRIMARY 0 + 1 → 
      Ends (exec (.failback) s) fun t => t.gf F.PMAP_CMD_STAT_RESULT 0 = 3 ∧ t.gf F.PMAP_CMD_STAT_CAUSE 0 = 2 ∧ t.pmap.failback = false) ∧
  (∀ (s : State), (s.gb F.PMAP_CTRL_FAILBACK 0 = true ∧ s.pmap.failback = false) → canPost s (s.gf F.PMAP_CTRL_PRIMARY 0) = true → (postPort s ≠ 0 ∧ postPort s ≠ s.gf F.PMAP_CTRL_PRIMARY 0 + 1) → isCxl s (postPort s - 1) = false → 
      Ends (exec (.autoFailback) s) fun t => t.pmap.failback = true ∧ .zeroRead (postPort s - 1) ∈ t.out) ∧
  (∀ (s : State), (postPort s ≠ 0 ∧ isCxl s (postPort s - 1) = false) → (s.pmap.failback = true ∧ s.pmap.waitCmd = none) → 
      Ends (exec (.readCompletion .zero) s) fun t => t.pmap.failback = false ∧ postPort t = s.gf F.PMAP_CTRL_PRIMARY 0 + 1 ∧ t.gb F.PMAP_EVT_FAILBACK 0 = true) ∧
  (∀ (s : State), (postPort s ≠ 0 ∧ s.pmap.waitCmd = none) → (canPost s (postPort s - 1) = false ∧ canPost s (1 - (postPort s - 1)) = false) → 
      Ends (exec (.noPort) s) fun t => postPort t = 0 ∧ t.pmap.cache = [] ∧ t.gb F.PMAP_EVT_NOPORT 0 = true ∧ (t.spoor.slots.get (slotKey postingSrc 0x134 0)).isSome = true)

/-- R422 to R449: a port comes up; a BEACON of a candidate makes the uplink active, of another refuses the port; BEACON frames are handed to every DN port; frames in order act, a mismatch is counted and answered by one NAK, a NAK resends; lost ports go down, fail over to the standby or leave an island; an ALARM is posted at the root of its tree. -/
def Obligations.HerdLinks : Prop :=
  (∀ (s : State) (p : Fin 6), herdRuns s = true → (s.gf F.HERD_CTRL_PORT_EN 0).testBit p = true → ((isRoot s && decide (p.val < 2)) = false ∧ hpState s p = 0) → 
      Ends (exec (.linkUp p) s) fun t => hpState t p = (if p.val < 2 then 1 else 2) ∧ (t.hport p).acred = 16 ∧ (t.hport p).ccred = 16 ∧ (t.hport p).replay = []) ∧
  (∀ (s : State) (p : Fin 6), 2 ≤ p.val → hpState s p = 2 → uplink s = none → 
      Ends (exec (.beaconTimer) s) fun t => handed t p (.beacon s.herd.id (ownDepth s) (s.gf F.HERD_TOPO_ROOT_ID 0) []) = true) ∧
  (∀ (s : State) (p : Fin 6) (h : Hdr) (id depth root : Nat) (anc : List Nat), inOrder s p h = true → (p.val < 2 ∧ root < 16384) → candidate s ⟨id, depth, root, anc⟩ = true → (uplink s = none ∧ s.herd.move = none ∧ s.herd.retry = false) → (preferredUplink s p ⟨id, depth, root, anc⟩).1 = p.val → 
      Ends (exec (.beacon p h id depth root anc) s) fun t => uplink t = some p.val ∧ ownDepth t = depth + 1 ∧ hpState t p = 2 ∧
        (s.herd.table = [] → handed t p (.join s.herd.id (depth + 1) id root 0 1 [s.herd.id]) = true)) ∧
  (∀ (s : State) (p : Fin 6) (h : Hdr) (id depth root : Nat) (anc : List Nat), inOrder s p h = true → p.val < 2 → candidate s ⟨id, depth, root, anc⟩ = false → uplink s ≠ some p.val → 
      Ends (exec (.beacon p h id depth root anc) s) fun t => hpState t p = 3 ∧ uplink t = uplink s) ∧
  (∀ (s : State) (p : Fin 6) (h : Hdr) (b : BitVec 256), inOrder s p h = true → (2 ≤ p.val ∧ ownRoot s = true) → 
      Ends (exec (.alarm p h b) s) fun t => ((t.spoor.hops.get hopHub).getLast?.map (·.raw)) = some (some b)) ∧
  (∀ (s : State) (p : Fin 6) (h : Hdr), hpState s p ≠ 0 → (s.hport p).queue = [] → ((s.hport p).replay.filter fun f => 2048 ≤ (h.ack.val + 4096 - f.1) % 4096) ≠ [] → (s.hport p).resent < 4 → 
      Ends (exec (.nak p h) s) fun t => t.gf F.HERD_Pp_CNT_REPLAY 0 p = satInc 16 (s.gf F.HERD_Pp_CNT_REPLAY 0 p) ∧
        (t.hport p).replay = (s.hport p).replay.filter fun f => 2048 ≤ (h.ack.val + 4096 - f.1) % 4096) ∧
  (∀ (s : State) (p : Fin 6) (h : Hdr), hpState s p ≠ 0 → (s.hport p).queue = [] → 
      Ends (exec (.credit p h) s) fun t => (t.hport p).acred = min 16 ((s.hport p).acred + h.acred.val) ∧ (t.hport p).ccred = min 16 ((s.hport p).ccred + h.ccred.val) ∧
        (t.hport p).srcCnt = h.srcCnt.val) ∧
  (∀ (s : State) (p : Fin 6), hpState s p ≠ 0 → 
      Ends (exec (.frameKeepalive p) s) fun t => .frame p (s.hport p).seqTx (min 31 (s.hport p).retA) (min 31 (s.hport p).retC) (((s.hport p).seqRx + 4095) % 4096) (srcCount s) .credit ∈ t.out ∧
        (t.hport p).retA = (s.hport p).retA - min 31 (s.hport p).retA) ∧
  (∀ (s : State) (p : Fin 6), hpState s p ≠ 0 → 
      Ends (exec (.crcMismatch p) s) fun t => t.gf F.HERD_Pp_CNT_CRC 0 p = satInc 16 (s.gf F.HERD_Pp_CNT_CRC 0 p) ∧ (t.hport p).naked = true ∧ (t.hport p).crcSec = (s.hport p).crcSec + 1) ∧
  (∀ (s : State) (p : Fin 6), (s.hport p).crcSec > 100 → 
      Ends (exec (.linkErrCheck p) s) fun t => t.gb F.HERD_EVT_LINK_ERR 0 = true ∧ (t.hport p).crcSec = 0 ∧ (t.spoor.slots.get (slotKey herdSrc 0x153 0)).isSome = true) ∧
  (∀ (s : State) (p : Fin 6), hpState s p ≠ 0 → (p.val < 2 ∧ uplink s = some p.val) → (s.gb F.HERD_STAT_STANDBY 0 = true ∧ hpState s (1 - p.val) ≠ 0) → 
      Ends (exec (.portLoss p) s) fun t => hpState t p = 0 ∧ uplink t = none ∧ t.herd.move = some (1 - p.val, false) ∧ t.herd.saved = unacked (s.hport p) ∧
        handed t (1 - p.val) (.move s.herd.id (subtreeDepth s) none) = true) ∧
  (∀ (s : State) (p : Fin 6), hpState s p ≠ 0 → (p.val < 2 ∧ uplink s = some p.val ∧ s.gb F.HERD_STAT_STANDBY 0 = false) → 
      Ends (exec (.portLoss p) s) fun t => hpState t p = 0 ∧ uplink t = none ∧ t.gf F.HERD_STAT_ROLE 0 = 3 ∧ t.gb F.HERD_EVT_ISLAND 0 = true ∧ t.herd.holding = true ∧ ownDepth t = 0) ∧
  (∀ (s : State) (q : Nat), s.herd.move = some (q, false) → hpState s q ≠ 0 → 
      Ends (exec (.moveRetry) s) fun t => t.herd.move = some (q, true) ∧ handed t q (.move s.herd.id (subtreeDepth s) none) = true)

/-- R432 to R447: the root judges a complete join, records it and answers; an accepted node is a member, a refused one an island that tries again; a LEAVE from the recorded parent is held and then removes the subtree; a MOVE takes the new parent and is answered; an accepted MOVE makes the standby active, a refused one leaves an island; an island's budget becomes its safe budget. -/
def Obligations.HerdMembership : Prop :=
  (∀ (s : State) (p : Fin 6) (h : Hdr) (node level parent root depth size : Nat) (ids : List Nat), inOrder s p h = true → (2 ≤ p.val ∧ ownRoot s = true) → size ≤ (joinIds s node ids).length → joinedBefore s node parent (joinIds s node ids) = false → judgeJoin s level root depth size (joinIds s node ids) = (0, 0) → 
      Ends (exec (.join p h node level parent root depth size ids) s) fun t => handed t p (.joinResp node 0 0) = true ∧
        (∀ i ∈ joinIds s node ids, (t.herd.table.any fun x => decide (x.id = i) && decide (x.port = p.val)) = true) ∧
        ∀ x ∈ s.herd.table, x ∈ t.herd.table) ∧
  (∀ (s : State) (p : Fin 6) (h : Hdr) (node level parent root depth size : Nat) (ids : List Nat) (c o : Nat), inOrder s p h = true → (2 ≤ p.val ∧ ownRoot s = true) → size ≤ (joinIds s node ids).length → joinedBefore s node parent (joinIds s node ids) = false → (judgeJoin s level root depth size (joinIds s node ids) = (c, o) ∧ c ≠ 0) → 
      Ends (exec (.join p h node level parent root depth size ids) s) fun t => handed t p (.joinResp node c o) = true ∧ t.herd.table = s.herd.table) ∧
  (∀ (s : State) (p : Fin 6) (h : Hdr) (ofs : Nat), inOrder s p h = true → (p.val < 2 ∧ uplink s = some p.val) → 
      Ends (exec (.joinResp p h s.herd.id 0 ofs) s) fun t => t.herd.member = true ∧ t.gf F.HERD_STAT_ROLE 0 = 1) ∧
  (∀ (s : State) (p : Fin 6) (h : Hdr) (c : Fin 5) (ofs : Nat), inOrder s p h = true → (p.val < 2 ∧ uplink s = some p.val ∧ c.val ≠ 0) → 
      Ends (exec (.joinResp p h s.herd.id c ofs) s) fun t => hpState t p = 3 ∧ uplink t = none ∧ t.gf F.HERD_STAT_ROLE 0 = 3 ∧ t.gb F.HERD_EVT_JOIN_REFUSED 0 = true ∧ t.herd.retry = true ∧ t.herd.member = false) ∧
  (∀ (s : State) (p : Fin 6) (h : Hdr) (id parent : Nat) (x : NodeS), inOrder s p h = true → (2 ≤ p.val ∧ ownRoot s = true) → s.herd.table.find? (fun x => x.id = id) = some x → (x.parent = parent ∧ s.herd.leaves.contains (id, parent) = false) → 
      Ends (exec (.leave p h id parent) s) fun t => t.herd.leaves = s.herd.leaves ++ [(id, parent)] ∧ t.herd.table = s.herd.table) ∧
  (∀ (s : State) (id : Nat), (s.herd.leaves.any fun l => l.1 = id) = true → 
      Ends (exec (.leaveHoldExpire id) s) fun t => (∀ x ∈ t.herd.table, x.id ≠ id ∧ x.parent ≠ id) ∧ ∀ l ∈ t.herd.leaves, l.1 ≠ id) ∧
  (∀ (s : State) (p : Fin 6) (h : Hdr) (id depth : Nat), inOrder s p h = true → (2 ≤ p.val ∧ ownRoot s = true ∧ uplink s = none) → (ownDepth s ≤ 6 ∧ ownDepth s + 1 + depth ≤ 7) → 
      Ends (exec (.move p h id depth none) s) fun t => handed t p (.moveAck 0) = true ∧ (∀ l ∈ t.herd.leaves, l.1 ≠ id) ∧
        ∀ x ∈ t.herd.table, x.id = id → x.parent = s.herd.id ∧ x.port = p.val) ∧
  (∀ (s : State) (p : Fin 6) (h : Hdr), inOrder s p h = true → (p.val < 2 ∧ moveOn s p = true) → 
      Ends (exec (.moveAck p h 0) s) fun t => uplink t = some p.val ∧ t.herd.move = none ∧ t.herd.saved = [] ∧ t.gb F.HERD_EVT_FAILOVER 0 = true ∧
        (t.spoor.slots.get (slotKey herdSrc 0x150 0)).isSome = true) ∧
  (∀ (s : State) (p : Fin 6) (h : Hdr) (c : Fin 3), inOrder s p h = true → (p.val < 2 ∧ moveOn s p = true ∧ c.val ≠ 0) → 
      Ends (exec (.moveAck p h c) s) fun t => uplink t = none ∧ t.herd.move = none ∧ t.gf F.HERD_STAT_ROLE 0 = 3 ∧ t.gb F.HERD_EVT_ISLAND 0 = true) ∧
  (∀ (s : State), s.herd.retry = true → 
      Ends (exec (.joinRetry) s) fun t => t.herd.retry = false ∧ (hpState s 0 = 3 → hpState t 0 = 1) ∧ (hpState s 1 = 3 → hpState t 1 = 1)) ∧
  (∀ (s : State), s.herd.holding = true → 
      Ends (exec (.islandHoldExpire) s) fun t => t.herd.holding = false ∧ t.herd.budget = s.gf F.HERD_CAP_CFG_SAFE 0)

/-- R435 to R440: a SYNC records its exchange, steps a node that lags more than 1 µs forward, and is answered by a DREQ; a DREQ is answered by a DRESP; a DRESP gives the offset of the exchange. HERD_TSET takes hold at the root for a value not below the present time. A CAP frame gives the budget, a DEMAND frame a child's report; a cap cycle, at a multiple of 80,000 counts, shares the budget, all of it to a sole item, and 0xFFFFFF to what it does not govern. -/
def Obligations.HerdTimeAndCaps : Prop :=
  (∀ (s : State) (p : Fin 6), 2 ≤ p.val → hpState s p = 2 → 
      Ends (exec (.syncTimer) s) fun t => handed t p (.sync s.now) = true) ∧
  (∀ (s : State) (p : Fin 6) (h : Hdr) (t1 : DWord) (sub : Fin 40) (turn : Nat), inOrder s p h = true → p.val < 2 → (uplink s ≠ some p.val ∨ -1000000 ≤ (s.hport p).ofs) → 
      Ends (exec (.sync p h t1 sub turn) s) fun t => (t.hport p).ex = some (t1, s.stamp sub, s.stamp sub + BitVec.ofNat 64 turn) ∧ handed t p .dreq = true ∧ t.hub.time = s.hub.time) ∧
  (∀ (s : State) (p : Fin 6) (h : Hdr) (t1 : DWord) (sub : Fin 40) (turn : Nat), inOrder s p h = true → p.val < 2 → (uplink s = some p.val ∧ (s.hport p).ofs < -1000000) → 
      Ends (exec (.sync p h t1 sub turn) s) fun t => t.hub.time = s.hub.time + BitVec.ofNat 64 ((s.hport p).ofs.natAbs * 2 / 125) ∧ t.gb F.HERD_EVT_TIME_STEP 0 = true) ∧
  (∀ (s : State) (p : Fin 6) (h : Hdr) (sub : Fin 40), inOrder s p h = true → 2 ≤ p.val → 
      Ends (exec (.dreq p h sub) s) fun t => handed t p (.dresp (s.stamp sub)) = true) ∧
  (∀ (s : State) (p : Fin 6) (h : Hdr) (t1 t2 t3 t4 : DWord) (filt : Int), inOrder s p h = true → (s.hport p).ex = some (t1, t2, t3) → 
      Ends (exec (.dresp p h t4 filt) s) fun t => (t.hport p).ofs = (125 * ((t2 - t1).toInt - (t4 - t3).toInt) - 2 * signedOf 16 (s.gf F.HERD_Pp_ASYM_PS 0 p)) / 4 ∧ (t.hport p).ex = none ∧
        t.gb F.HERD_Pp_STAT_PSYNC 0 p = decide (filt.natAbs ≤ 500)) ∧
  (∀ (s : State) (v : DWord), (isRoot s = true ∧ s.now.toNat ≤ v.toNat) → 
      Ends (exec (.herdTset v) s) fun t => t.herd.tset = some v ∧ t.rd64 R.HERD_TSET 0 = v) ∧
  (∀ (s : State) (v : DWord), (isRoot s = false ∨ v.toNat < s.now.toNat) → 
      Ends (exec (.herdTset v) s) fun t => t.gb F.HERD_EVT_REJECT 0 = true ∧ t.herd.tset = s.herd.tset) ∧
  (∀ (s : State) (p : Fin 6) (h : Hdr) (w c : Word), inOrder s p h = true → uplink s = some p.val → 
      Ends (exec (.cap p h w c) s) fun t => t.herd.budget = w.toNat ∧ t.herd.cycle = c.toNat) ∧
  (∀ (s : State) (p : Fin 6) (h : Hdr) (d f : Word), inOrder s p h = true → 2 ≤ p.val → 
      Ends (exec (.demand p h d f) s) fun t => (t.hport p).child = some (d.toNat, f.toNat, 0)) ∧
  (∀ (s : State) (r : Rgn) (b : Nat), (herdSpan s = true ∧ atCapCycle s = true) → ((if isRoot s then s.gf F.HERD_CAP_ROOT_W 0 else s.herd.budget) = b ∧ b < 0xFFFF_FFFF) → (s.gf F.HERD_DEM_SRC_GOV 0 = 2 ^ r.val ∧ s.gf F.HERD_DEM_SRC_FAB 0 = 0) → (∀ p : Fin 6, (s.hport p).child = none) → 
      Ends (exec (.capCycle) s) fun t => t.gf F.HERD_CAP_W 0 = b ∧ t.gf F.RGN_CAP_CAP (rgB r) = min (100 * b) 0xFF_FFFE ∧
        ∀ q : Rgn, q ≠ r → t.gf F.RGN_CAP_CAP (rgB q) = 0xFF_FFFF)

/-- R451 to R459: PERST, hot reset and link disable take the link down and the function to its reset values, surprise down takes the link down, a function-level reset keeps it up; a port that may train comes up in the protocol of its first training; D3hot, errors and correctable storms show; a configuration request sets the enables; BAR2 reads and writes the MSI-X table. -/
def Obligations.HostLinks : Prop :=
  (∀ (s : State) (p : Fin 2) (n : Nat), n < 1024 → 
      Ends (exec (.perstAssert p) s) fun t => t.linkUp p = false ∧ t.gb F.HOST_p_STAT_PERST 0 p = true ∧ t.gb F.HOST_p_STAT_BME 0 p = false ∧ t.gb F.HOST_p_EVT_PERST 0 p = true ∧
        t.host.msix.get (p * 1024 + n) = (if n % 4 = 3 then 1 else 0)) ∧
  (∀ (s : State) (p : Fin 2), 
      Ends (exec (.perstDeassert p) s) fun t => t.gb F.HOST_p_STAT_PERST 0 p = false ∧ (t.host.ports.get p).perst = false) ∧
  (∀ (s : State) (p : Fin 2), s.linkUp p = true → 
      Ends (exec (.hotReset p) s) fun t => t.linkUp p = false ∧ t.gb F.HOST_p_STAT_BME 0 p = false ∧ t.gb F.HOST_p_EVT_LINK_DOWN 0 p = true ∧ t.pmap.credits.get p = 0 ∧
        (t.spoor.slots.get (slotKey (hostSrc p) 0x140 0)).isSome = true) ∧
  (∀ (s : State) (p : Fin 2), s.linkUp p = true → 
      Ends (exec (.linkDisable p) s) fun t => t.linkUp p = false ∧ t.gb F.HOST_p_STAT_BME 0 p = false ∧ t.gb F.HOST_p_EVT_LINK_DOWN 0 p = true ∧ t.pmap.credits.get p = 0) ∧
  (∀ (s : State) (p : Fin 2), s.linkUp p = true → 
      Ends (exec (.surpriseDown p) s) fun t => t.linkUp p = false ∧ t.gb F.HOST_p_EVT_LINK_DOWN 0 p = true ∧ t.gb F.HOST_p_STAT_BME 0 p = s.gb F.HOST_p_STAT_BME 0 p ∧
        t.pmap.credits.get p = 0) ∧
  (∀ (s : State) (p : Fin 2), s.linkUp p = true → 
      Ends (exec (.functionLevelReset p) s) fun t => t.linkUp p = true ∧ t.gb F.HOST_p_STAT_BME 0 p = false ∧ t.gb F.HOST_p_EVT_FLR 0 p = true ∧
        (t.spoor.slots.get (slotKey (hostSrc p) 0x144 0)).isSome = true) ∧
  (∀ (s : State) (p : Fin 2) (cxl : Bool) (rate : Fin 5) (width : Fin 3) (rev : Bool) (pol : Fin 16), mayTrain s p = true → withinLimits s p rate width = true → 
      Ends (exec (.linkTrained p cxl rate width rev pol) s) fun t => t.gf F.HOST_p_STAT_MODE 0 p = (if (s.host.ports.get p).cxl.getD (cxl && rate.val = 4) then 2 else 1) ∧
        t.gf F.HOST_p_STAT_RATE 0 p = rate.val ∧ t.gf F.HOST_p_STAT_WIDTH 0 p = width.val ∧ t.gb F.HOST_p_CTRL_RETRAIN 0 p = false ∧
        (t.host.ports.get p).cxl = some ((s.host.ports.get p).cxl.getD (cxl && rate.val = 4))) ∧
  (∀ (s : State) (a : Reader) (p : Fin 2), reaches s a R.HOST_p_CTRL.off = true → 
      Ends (exec (.retrain a p) s) fun t => t.gb F.HOST_p_CTRL_RETRAIN 0 p = true) ∧
  (∀ (s : State) (p : Fin 2), s.linkUp p = true → 
      Ends (exec (.d3hotEntry p) s) fun t => t.gb F.HOST_p_STAT_D3HOT 0 p = true ∧ canPost t p = false) ∧
  (∀ (s : State) (p : Fin 2) (w : Word) (fatal : Bool), 
      Ends (exec (.hostUncorr p w fatal) s) fun t => t.gb F.HOST_p_EVT_UNCORR 0 p = true ∧ t.gf F.HOST_p_ERRCNT_UNCORR 0 p = satInc 16 (s.gf F.HOST_p_ERRCNT_UNCORR 0 p) ∧
        (t.host.ports.get p).fatal = ((s.host.ports.get p).fatal || fatal) ∧ (t.spoor.slots.get (slotKey (hostSrc p) 0x142 0)).isSome = true) ∧
  (∀ (s : State) (p : Fin 2) (n : Nat), 
      Ends (exec (.corrStormCheck p n) s) fun t => t.gf F.HOST_p_ERRCNT_CORR 0 p = min 0xFFFF (s.gf F.HOST_p_ERRCNT_CORR 0 p + n) ∧
        (1000 < n → t.gb F.HOST_p_EVT_CORR_STORM 0 p = true)) ∧
  (∀ (s : State) (p : Fin 2) (bme cache ats : Bool), s.linkUp p = true → 
      Ends (exec (.configurationRequest p bme cache ats false) s) fun t => t.gb F.HOST_p_STAT_BME 0 p = bme ∧ t.gb F.HOST_p_STAT_CACHE_EN 0 p = (cache && isCxl s p) ∧
        t.gb F.HOST_p_STAT_ATS_EN 0 p = (ats && otpAts s p) ∧ t.gb F.HOST_p_STAT_D3HOT 0 p = s.gb F.HOST_p_STAT_D3HOT 0 p) ∧
  (∀ (s : State) (p : Fin 2) (n : Fin 4096), (s.linkUp p = true ∧ s.gb F.HOST_p_STAT_D3HOT 0 p = false) → n.val < 256 → 
      Ends (exec (.bar2Request p n none false) s) fun t => .completion p 0 (wordBytes (s.host.msix.get (p * 1024 + n))) ∈ t.out) ∧
  (∀ (s : State) (p : Fin 2) (n : Fin 4096) (v : Word), (s.linkUp p = true ∧ s.gb F.HOST_p_STAT_D3HOT 0 p = false) → n.val < 256 → 
      Ends (exec (.bar2Request p n (some v) false) s) fun t => t.host.msix.get (p * 1024 + n) = if n.val % 4 = 3 then v &&& 1 else v)

/-- R466, R467: from Loading on the target takes ENEC and DISEC of its In-Band Interrupts, its dynamic address by ENTDAA, SETDASA or SETNEWDA and its release by RSTDAA, and its lengths; it answers its ID, characteristics, status and lengths; RSTACT and an SMBus timeout reset what they say. -/
def Obligations.SidebandCommands : Prop :=
  (∀ (s : State) (ev : Fin 16), hubOn s = true → ev.val % 2 = 1 → 
      Ends (exec (.enec ev) s) fun t => t.host.sb.events = true) ∧
  (∀ (s : State) (ev : Fin 16), hubOn s = true → ev.val % 2 = 1 → 
      Ends (exec (.disec ev) s) fun t => t.host.sb.events = false) ∧
  (∀ (s : State), hubOn s = true → 
      Ends (exec (.rstdaa) s) fun t => t.gb F.HOST_SB_STAT_DA_VALID 0 = false) ∧
  (∀ (s : State) (da : Fin 128), hubOn s = true → s.gb F.HOST_SB_STAT_DA_VALID 0 = false → 
      Ends (exec (.entdaa da) s) fun t => t.gb F.HOST_SB_STAT_DA_VALID 0 = true ∧ t.gf F.HOST_SB_STAT_DA 0 = da) ∧
  (∀ (s : State) (sa da : Fin 128), hubOn s = true → (s.gb F.HOST_SB_STAT_DA_VALID 0 = false ∧ s.gf F.HOST_SB_CFG_SA 0 = sa) → 
      Ends (exec (.setdasa sa da) s) fun t => t.gb F.HOST_SB_STAT_DA_VALID 0 = true ∧ t.gf F.HOST_SB_STAT_DA 0 = da) ∧
  (∀ (s : State) (sa da : Fin 128), hubOn s = true → (s.gb F.HOST_SB_STAT_DA_VALID 0 = true ∨ s.gf F.HOST_SB_CFG_SA 0 ≠ sa) → 
      Ends (exec (.setdasa sa da) s) fun t => t.rd R.HOST_SB_STAT 0 = s.rd R.HOST_SB_STAT 0) ∧
  (∀ (s : State) (da : Fin 128), hubOn s = true → s.gb F.HOST_SB_STAT_DA_VALID 0 = true → 
      Ends (exec (.setnewda da) s) fun t => t.gb F.HOST_SB_STAT_DA_VALID 0 = true ∧ t.gf F.HOST_SB_STAT_DA 0 = da) ∧
  (∀ (s : State), hubOn s = true → 
      Ends (exec (.getpid) s) fun t => .sideband (bigEndian 6 (otpPid s)) ∈ t.out) ∧
  (∀ (s : State), hubOn s = true → 
      Ends (exec (.getbcr) s) fun t => .sideband (bigEndian 1 (otpBcr s)) ∈ t.out) ∧
  (∀ (s : State), hubOn s = true → 
      Ends (exec (.getdcr) s) fun t => .sideband (bigEndian 1 (otpDcr s)) ∈ t.out) ∧
  (∀ (s : State), hubOn s = true → 
      Ends (exec (.getstatus) s) fun t => (t.out.any fun e => match e with | .sideband l => l.length == 2 | _ => false) = true) ∧
  (∀ (s : State) (n : Fin 65536), hubOn s = true → 
      Ends (exec (.setmwl n) s) fun t => t.host.sb.mwl = n.val) ∧
  (∀ (s : State) (n : Fin 65536), hubOn s = true → 
      Ends (exec (.setmrl n) s) fun t => t.host.sb.mrl = n.val) ∧
  (∀ (s : State), hubOn s = true → 
      Ends (exec (.getmwl) s) fun t => .sideband (bigEndian 2 s.host.sb.mwl) ∈ t.out) ∧
  (∀ (s : State), hubOn s = true → 
      Ends (exec (.getmrl) s) fun t => .sideband (bigEndian 2 s.host.sb.mrl) ∈ t.out) ∧
  (∀ (s : State) (act : Fin 256), hubOn s = true → act.val ≠ 0 → 
      Ends (exec (.rstact act) s) fun t => t.host.sb = SbS.reset ∧ t.gb F.HOST_SB_STAT_DA_VALID 0 = false) ∧
  (∀ (s : State), hubOn s = true → 
      Ends (exec (.smbusTimeout) s) fun t => t.host.sb.result = none ∧ t.host.sb.addr = 0)

/-- R470, R471: with VDD_HUB an instruction becomes the TAP's, IDCODE is captured, preloaded values stand at their balls; VTEST of the right device leads to Vendor test once its unlock is done. R475 to R480: a pin's configuration is written unless a fabric owns it; an edge of an enabled line is stamped and counted; a WAKE pin wakes from Dormant. -/
def Obligations.TapAndPins : Prop :=
  (∀ (s : State), tapOn s = true → 
      Ends (exec (.bypass) s) fun t => t.host.jtag.instr = .bypass) ∧
  (∀ (s : State), tapOn s = true → 
      Ends (exec (.idcode) s) fun t => t.host.jtag.instr = .idcode ∧ .jtag (BitVec.ofNat 66 (idcodeWord s)) ∈ t.out) ∧
  (∀ (s : State) (b : Nat) (v : Bool), tapOn s = true → 
      Ends (exec (.samplePreload [(b, v)]) s) fun t => t.host.jtag.instr = .sample ∧ t.host.jtag.bscan.get b = if v then 2 else 1) ∧
  (∀ (s : State), tapOn s = true → 
      Ends (exec (.extest) s) fun t => t.host.jtag.instr = .extest) ∧
  (∀ (s : State), tapOn s = true → 
      Ends (exec (.clamp) s) fun t => t.host.jtag.instr = .clamp) ∧
  (∀ (s : State), tapOn s = true → 
      Ends (exec (.highz) s) fun t => t.host.jtag.instr = .highz) ∧
  (∀ (s : State), tapOn s = true → 
      Ends (exec (.extestPulse) s) fun t => t.host.jtag.instr = .extestPulse) ∧
  (∀ (s : State), tapOn s = true → 
      Ends (exec (.extestTrain) s) fun t => t.host.jtag.instr = .extestTrain) ∧
  (∀ (s : State) (dev : BitVec 128), (tapOn s = true ∧ vtestAllowed s = true) → dev.toNat = deviceId s → 
      Ends (exec (.vtest dev true) s) fun t => t.host.jtag.instr = .vtest ∧ t.sett.vtestBusy = true) ∧
  (∀ (s : State) (dev : BitVec 128) (sig : Bool), (tapOn s = true ∧ s.gb F.SEC_STAT_VTEST_DIS 0 = true) → 
      Ends (exec (.vtest dev sig) s) fun t => t.host.jtag.instr = .bypass ∧ t.sett.vtestBusy = s.sett.vtestBusy) ∧
  (∀ (s : State), s.sett.vtestBusy = true → vtestAllowed s = true → 
      Ends (exec (.vtestUnlockDone) s) fun t => t.sett.vendor = true ∧ t.sett.vtestBusy = false ∧ t.img.cells = [] ∧ t.cfg.frames.cells = [] ∧ t.gb F.SEC_STAT_PUF_OK 0 = false ∧ t.sett.safe = false) ∧
  (∀ (s : State) (a : Reader) (i : Fin 192) (v : Word), reaches s a R.PIN_Pxn_CFG.off = true → s.gf F.PIN_Pxn_CFG_OWNER 0 i ≠ 2 → fOf (s.merged R.PIN_Pxn_CFG 0 i v) F.PIN_Pxn_CFG_FUNC_EN &&& pinAllowed i = fOf (s.merged R.PIN_Pxn_CFG 0 i v) F.PIN_Pxn_CFG_FUNC_EN → 
      Ends (exec (.pinConfigWrite a i false v) s) fun t => t.rd R.PIN_Pxn_CFG 0 i = s.merged R.PIN_Pxn_CFG 0 i v) ∧
  (∀ (s : State) (a : Reader) (i : Fin 192) (arg : Bool) (v : Word), reaches s a R.PIN_Pxn_CFG.off = true → s.gf F.PIN_Pxn_CFG_OWNER 0 i = 2 → 
      Ends (exec (.pinConfigWrite a i arg v) s) fun t => t.rd R.PIN_Pxn_CFG 0 i = s.rd R.PIN_Pxn_CFG 0 i ∧ t.rd R.PIN_Pxn_ARG 0 i = s.rd R.PIN_Pxn_ARG 0 i ∧ t.gb F.PIN_EVT_REJECT 0 = true) ∧
  (∀ (s : State) (i : Fin 192) (sub : Fin 40) (k : Nat), s.gf F.PIN_Pxn_ARG_LINE 0 i = k → (pinFunc s i 3 = true ∧ inputPin s 3 k = some i.val) → (s.gb F.PIN_Pxn_CFG_INV 0 i = false ∧ s.host.ball.get i = 0) → (s.gb F.PIN_EVTk_CFG_EN 0 k = true ∧ s.gf F.PIN_EVTk_CFG_EDGE 0 k % 2 = 1) → 
      Ends (exec (.pinEvent i true sub) s) fun t => t.host.ball.get i = 1 ∧ t.rd R.PIN_EVTk_TIME 0 k = (s.stamp sub).lo ∧
        t.gf F.PIN_EVTk_CFG_COUNT 0 k = (s.gf F.PIN_EVTk_CFG_COUNT 0 k + 1) % 65536 ∧ (t.gf F.PIN_EVT_LINE 0).testBit k = true) ∧
  (∀ (s : State) (a : Reader) (k : Fin 16), reaches s a R.PIN_EVTk_CFG.off = true → lineLevel s k = false → (s.gb F.PIN_EVTk_CFG_EN 0 k = true ∧ s.gf F.PIN_EVTk_CFG_EDGE 0 k = 1) → 
      Ends (exec (.pinEventSw a k) s) fun t => t.rd R.PIN_EVTk_TIME 0 k = s.now.lo ∧ t.gf F.PIN_EVTk_CFG_COUNT 0 k = (s.gf F.PIN_EVTk_CFG_COUNT 0 k + 1) % 65536 ∧
        (t.gf F.PIN_EVT_LINE 0).testBit k = true)

/-- R492, R507: a command that starts ends with RESULT 1, or is refused with RESULT 3, a CAUSE and SETT_EVT.REJECT. DOZE and ACTIVE set and end Doze; FREEZE, TORPOR and THAW act on the regions of ARG; READOUT needs Torpor; SAFE asserts its source and SAFE_EXIT ends Safe hold with no source asserted; DORMANT, RESET and RGN_RESET need the guard. The results of an empty READOUT and of SAFE_EXIT outside Safe hold are the model's own (log entries). -/
def Obligations.SettCommands : Prop :=
  (∀ (s : State), settFree s = true → (modeCode s = 5 ∨ modeCode s = 6 ∨ modeCode s = 8) → 
      Ends (exec (.doze) s) fun t => t.sett.doze = true ∧ settResult t = (false, 1, 0)) ∧
  (∀ (s : State), settFree s = true → (modeCode s ≠ 5 ∧ modeCode s ≠ 6 ∧ modeCode s ≠ 8) → 
      Ends (exec (.doze) s) fun t => t.sett.doze = s.sett.doze ∧ settResult t = (false, 3, 2) ∧ t.ownB F.SETT_EVT_REJECT 0 = true) ∧
  (∀ (s : State), settFree s = true → 
      Ends (exec (.active) s) fun t => t.sett.doze = false ∧ settResult t = (false, 1, 0)) ∧
  (∀ (s : State) (arg : Fin 65536) (r : Rgn), (settFree s = true ∧ hubOn s = true) → arg.val.testBit r = true → 
      Ends (exec (.freeze arg) s) fun t => t.gb F.RGN_STAT_FROZEN (rgB r) = true ∧ settResult t = (false, 1, 0)) ∧
  (∀ (s : State) (arg : Fin 65536), (settFree s = true ∧ hubOn s = false) → 
      Ends (exec (.freeze arg) s) fun t => settResult t = (false, 3, 2) ∧ t.regs.rgn = s.regs.rgn) ∧
  (∀ (s : State) (arg : Fin 65536) (r : Rgn), (settFree s = true ∧ packageRuns s = true) → arg.val.testBit r = true → 
      Ends (exec (.torpor arg) s) fun t => t.gb F.RGN_STAT_FROZEN (rgB r) = true ∧ torporAsked t r = true ∧ settResult t = (false, 1, 0)) ∧
  (∀ (s : State) (r : Rgn), (s.rgnS r).torporWait = true → (∀ q : Rgn, (s.rgnS q).torporWait = true → allPaused s q = true) → 
      Ends (exec (.torporClockStop) s) fun t => t.clk r = 3 ∧ t.gb F.RGN_STAT_TORPOR (rgB r) = true ∧ (t.eng r).paused = true ∧ (t.rgnS r).torporWait = false) ∧
  (∀ (s : State) (arg : Fin 65536) (r : Rgn), settFree s = true → arg.val.testBit r = true → ((s.rgnS r).frzPin = false ∧ (s.rgnS r).torPin = false) → 
      Ends (exec (.thaw arg) s) fun t => t.gb F.RGN_STAT_FROZEN (rgB r) = false ∧ torporAsked t r = false ∧ settResult t = (false, 1, 0)) ∧
  (∀ (s : State) (arg : Fin 65536), settFree s = true → (arg.val ≠ 0 ∧ ∀ r : Rgn, arg.val.testBit r = true → s.inTorpor r = true) → 
      Ends (exec (.readout arg) s) fun t => t.sett.rdoMask = arg.val ∧ settResult t = (true, 0, 0)) ∧
  (∀ (s : State) (arg : Fin 65536) (r : Rgn), settFree s = true → (arg.val.testBit r = true ∧ s.inTorpor r = false) → 
      Ends (exec (.readout arg) s) fun t => t.sett.rdoMask = s.sett.rdoMask ∧ settResult t = (false, 3, 6)) ∧
  (∀ (s : State), settFree s = true → 
      Ends (exec (.readout 0) s) fun t => t.sett.rdoMask = s.sett.rdoMask ∧ settResult t = (false, 1, 0) ∧ t.ownB F.SETT_EVT_RDO_DONE 0 = true) ∧
  (∀ (s : State) (r : Rgn), s.sett.rdoMask.testBit r = true → 
      Ends (exec (.readoutDone) s) fun t => t.sett.rdoMask = 0 ∧ settResult t = (false, 1, 0) ∧ t.ownB F.SETT_EVT_RDO_DONE 0 = true ∧
        t.gb F.RGN_STAT_RDO (rgB r) = false ∧ (t.fab r).capLatch = (s.fab r).ff ∧ (t.fab r).capCarry = (s.fab r).pend ∧
        (t.fab r).capBm = (s.fab r).bmOut) ∧
  (∀ (s : State), (settFree s = true ∧ s.safePhase = true) → 
      Ends (exec (.safe) s) fun t => t.safeHold = true ∧ (t.own F.SETT_SAFE_NOW 0).testBit 7 = true ∧ settResult t = (false, 1, 0)) ∧
  (∀ (s : State), (settFree s = true ∧ s.safeHold = true) → s.sett.safeCond = 0 → 
      Ends (exec (.safeExit) s) fun t => t.safeHold = false ∧ t.sett.safeLatch = 0 ∧ settResult t = (false, 1, 0)) ∧
  (∀ (s : State), settFree s = true → s.sett.safeCond ≠ 0 → 
      Ends (exec (.safeExit) s) fun t => t.safeHold = s.safeHold ∧ settResult t = (false, 3, 5) ∧ t.ownB F.SETT_EVT_REJECT 0 = true) ∧
  (∀ (s : State), (s.sett.brownOut = false ∧ s.safeHold = true) → (s.sett.safeCond = 0 ∧ s.ownB F.SETT_CTRL_SAFE_AUTO = true ∧ safeDwelt s = true) → 
      Ends (exec (.safeAutoExit) s) fun t => t.safeHold = false ∧ t.sett.safeLatch = 0) ∧
  (∀ (s : State) (guard : Fin 256), settFree s = true → guard.val ≠ 0x5A → 
      Ends (exec (.dormant guard) s) fun t => t.sett.dormantReq = s.sett.dormantReq ∧ settResult t = (false, 3, 1)) ∧
  (∀ (s : State) (p : Fin 2) (q : Fin 6), (settFree s = true ∧ packageRuns s = true) → (anyLive s = false ∧ s.cfg.pr = none) → (∀ r : Rgn, torporAsked s r = false) → 
      Ends (exec (.dormant 0x5A) s) fun t => t.sett.dormantReq = true ∧ settResult t = (true, 0, 0) ∧ t.linkUp p = false ∧ hpState t q = 0) ∧
  (∀ (s : State), (settFree s = true ∧ packageRuns s = true) → anyLive s = true → (∀ r : Rgn, torporAsked s r = false) → 
      Ends (exec (.dormant 0x5A) s) fun t => t.sett.dormantReq = s.sett.dormantReq ∧ settResult t = (false, 3, 3)) ∧
  (∀ (s : State), s.sett.dormantReq = true → s.sett.wakePend = none → 
      Ends (exec (.dormantComplete) s) fun t => t.sett.phase = .dormant ∧ t.sett.dormantReq = false ∧ t.ownB F.SETT_CMD_START = false ∧ t.own F.SETT_CMD_STAT_RESULT = 1 ∧ t.hub.timeOn = false) ∧
  (∀ (s : State) (guard : Fin 256), settFree s = true → guard.val ≠ 0x5A → 
      Ends (exec (.reset guard) s) fun t => t.sett.phase = s.sett.phase ∧ settResult t = (false, 3, 1)) ∧
  (∀ (s : State), (settFree s = true ∧ hubOn s = true) → 
      Ends (exec (.reset 0x5A) s) fun t => t.sett.phase = .powerUp ∧ t.sett.pwrStep = (if s.sett.porstLow then 2 else 3) ∧ t.hub.timeOn = false) ∧
  (∀ (s : State) (guard : Fin 256) (arg : Fin 65536), settFree s = true → guard.val ≠ 0x5A → 
      Ends (exec (.rgnReset guard arg) s) fun t => settResult t = (false, 3, 1) ∧ t.regs.rgn = s.regs.rgn) ∧
  (∀ (s : State) (arg : Fin 65536) (r : Rgn) (g : Fin 4), (settFree s = true ∧ hubOn s = true) → (∀ q : Rgn, arg.val.testBit q = true → torporAsked s q = false) → (arg.val.testBit r = true ∧ (s.rgnS r).configured = true) → 
      Ends (exec (.rgnReset 0x5A arg) s) fun t => t.gb F.RGN_STAT_RESET (rgB r) = true ∧ cgState t r g = 6 ∧ settResult t = (false, 1, 0)) ∧
  (∀ (s : State), (settFree s = true ∧ s.gb F.SEC_STAT_PUF_OK 0 = true) → 
      Ends (exec (.exportCmd) s) fun t => t.sett.exporting = true ∧ settResult t = (true, 0, 0)) ∧
  (∀ (s : State), (settFree s = true ∧ s.gb F.SEC_STAT_PUF_OK 0 = false) → 
      Ends (exec (.exportCmd) s) fun t => t.sett.exporting = s.sett.exporting ∧ settResult t = (false, 3, 2)) ∧
  (∀ (s : State) (digest : BitVec 384) (sig : BitVec 768), s.sett.exporting = true → 
      Ends (exec (.exportDone digest sig) s) fun t => t.sett.exporting = false ∧ settResult t = (false, 1, 0) ∧ t.ownB F.SETT_EVT_EXPORT_DONE 0 = true ∧
        t.sett.ret.get 0x17_F000 = 0x4558_5052 ∧ t.sett.ret.get 0x17_F004 = s.rd R.SEC_DEVIDi 0 0 ∧
        t.sett.ret.get 0x17_F01C = s.ownW R.SETT_LOG_WP) ∧
  (∀ (s : State), settFree s = true → (s.sett.mirror = none ∧ modeCode s ≠ 2 ∧ modeCode s ≠ 3 ∧ modeCode s ≠ 0xC) → 
      Ends (exec (.ledgerSync) s) fun t => t.sett.mirror = some true ∧ t.cfg.jobs = s.cfg.jobs ++ [FlJob.ledger] ∧ settResult t = (true, 0, 0)) ∧
  (∀ (s : State), settFree s = true → s.sett.mirror.isSome = true → 
      Ends (exec (.ledgerSync) s) fun t => t.cfg.jobs = s.cfg.jobs ∧ settResult t = (false, 3, 4))

/-- R493 to R499, R509, R510: the steps of power-up, resets of the package and of a region, what a supply fault and a brown-out leave, and what wakes the package from Dormant. -/
def Obligations.PowerAndResets : Prop :=
  (∀ (s : State), s.sett.phase = .off → 
      Ends (exec (.settPowerOn) s) fun t => t.sett.phase = .dormant ∧ t.sett.brownOut = false ∧ t.ownB F.SETT_ACC_STAT_ENERGY_VALID 0 = true ∧ modeCode t = 2) ∧
  (∀ (s : State), (s.sett.brownOut = true ∧ s.sett.retLost = true) → 
      Ends (exec (.settPowerOn) s) fun t => t.sett.phase = .dormant ∧ t.sett.brownOut = false ∧ t.ownB F.SETT_ACC_STAT_ENERGY_VALID 0 = true ∧ modeCode t = 2) ∧
  (∀ (s : State) (k : Fin 4), (s.sett.phase = .powerUp ∧ s.sett.pwrStep < 3) → 
      Ends (exec (.powerUp) s) fun t => t.sett.phase = .powerUp ∧ t.sett.pwrStep = (if s.sett.porstLow then 2 else 3) ∧ t.sett.supplyBad = 0 ∧
        (s.ownB F.SETT_PWRk_EN k = true → (t.rd R.PIN_OUTw 0 5).bit (s.own F.SETT_PWRk_PIN k) = true)) ∧
  (∀ (s : State), (s.sett.phase = .powerUp ∧ s.sett.pwrStep = 2) → 
      Ends (exec (.porstNDeassert) s) fun t => t.sett.porstLow = false ∧ t.sett.pwrStep = 3) ∧
  (∀ (s : State), (hubOn s = true ∧ s.hub.timeOn = false) → 
      Ends (exec (.herdTimeStart) s) fun t => t.hub.timeOn = true ∧ t.hub.time = 0 ∧ t.hub.frac = 0) ∧
  (∀ (s : State) (r : Rgn) (badRows : List (Fin 16 × Fin 16 × Fin 32)), s.sett.phase = .calibrating → (∀ q : Rgn, (s.rgnS q).configured = true → calibrated s q = true) → (s.rgnS r).configured = true → 
      Ends (exec (.calibrationEnd badRows) s) fun t => t.sett.phase = .running ∧ t.gb F.RGN_STAT_RESET (rgB r) = false) ∧
  (∀ (s : State) (r : Rgn), (packageRuns s = true ∨ hubOn s = true ∧ s.ownB F.SETT_CTRL_PIN_CLK = false) → (s.own F.SETT_CTRL_PIN_SCOPE).testBit r = true → 
      Ends (exec (.freezeNAssert) s) fun t => t.sett.freezeNLow = true ∧ t.gb F.RGN_STAT_FROZEN (rgB r) = true ∧ (s.ownB F.SETT_CTRL_PIN_CLK = true → torporAsked t r = true)) ∧
  (∀ (s : State) (r : Rgn), ((s.rgnS r).frzCmd = false ∧ (s.rgnS r).torCmd = false) → 
      Ends (exec (.freezeNRelease) s) fun t => t.sett.freezeNLow = false ∧ t.gb F.RGN_STAT_FROZEN (rgB r) = false ∧ torporAsked t r = false) ∧
  (∀ (s : State), hubOn s = true → 
      Ends (exec (.powerOnReset) s) fun t => t.sett.phase = .powerUp ∧ t.sett.pwrStep = 2 ∧ t.sett.vendor = false ∧ t.hub.timeOn = false ∧ t.sett.porstLow = true) ∧
  (∀ (s : State), hubOn s = true → 
      Ends (exec (.packageReset) s) fun t => t.sett.phase = .powerUp ∧ t.sett.pwrStep = (if s.sett.porstLow then 2 else 3) ∧ t.hub.timeOn = false ∧ t.img.cells = [] ∧ t.sett.doze = false) ∧
  (∀ (s : State) (a : Reader) (r : Rgn) (g : Fin 4), s.mayWrite a r = true → (torporAsked s r = false ∧ (s.rgnS r).configured = true) → 
      Ends (exec (.regionReset a r) s) fun t => t.gb F.RGN_STAT_RESET (rgB r) = true ∧ cgState t r g = 6 ∧ (t.spoor.slots.get (slotKey settSrc 0x16C 0)).isSome = true) ∧
  (∀ (s : State) (a : Reader) (r : Rgn), s.mayWrite a r = true → torporAsked s r = true → 
      Ends (exec (.regionReset a r) s) fun t => t.gb F.RGN_EVT_RST_REJ (rgB r) = true ∧ t.gb F.RGN_STAT_RESET (rgB r) = s.gb F.RGN_STAT_RESET (rgB r)) ∧
  (∀ (s : State) (r : Rgn) (badRows : List (Fin 16 × Fin 32)), (s.sett.phase = .running ∧ s.gb F.RGN_STAT_RESET (rgB r) = true) → calibrated s r = true → 
      Ends (exec (.regionResetRelease r badRows) s) fun t => t.gb F.RGN_STAT_RESET (rgB r) = false ∧ (t.rgnS r).trimming = false) ∧
  (∀ (s : State) (code : Fin 5), (hubOn s = true ∧ s.sett.vendor = false) → 
      Ends (exec (.supplyFault code) s) fun t => t.sett.supplyBad = code.val + 1 ∧ t.safeHold = true ∧ (t.own F.SETT_SAFE_NOW 0).testBit 3 = true) ∧
  (∀ (s : State), hubOn s = true → s.sett.supplyBad ≠ 0 → 
      Ends (exec (.supplyLossDormant) s) fun t => t.sett.phase = .dormant ∧ t.sett.supplyBad = 0 ∧ t.hub.timeOn = false) ∧
  (∀ (s : State), s.sett.phase ≠ .dormant → 
      Ends (exec (.supplyReturn) s) fun t => t.sett.supplyBad = 0 ∧ t.sett.safeCond.testBit 3 = false ∧ t.sett.phase = s.sett.phase) ∧
  (∀ (s : State) (below : Bool), 
      Ends (exec (.settBrownOut below) s) fun t => t.sett.brownOut = true ∧ t.sett.exporting = false ∧
        (below = false → t.rtc = s.rtc ∧ t.sett.ret = s.sett.ret ∧ t.ownW R.SETT_LOG_WP 0 = s.ownW R.SETT_LOG_WP 0) ∧
        (below = true → t.sett.retLost = true ∧ t.sett.ret.cells = [] ∧ t.ownB F.SETT_ACC_STAT_LOST 0 = true)) ∧
  (∀ (s : State) (below : Bool), (∀ c ∈ s.img.cells, c.1 < 0x10_0000 ∨ 0x100_0000 ≤ c.1) → 
      Ends (exec (.settBrownOut below) s) fun t => t.ownW R.SETT_CTRL 0 = 0 ∧ t.ownW R.SETT_WAKE_TIME 0 = 0) ∧
  (∀ (s : State), (s.sett.phase ≠ .off ∧ s.sett.brownOut = true) → 
      Ends (exec (.brownOutRecovery) s) fun t => t.sett.brownOut = false ∧ t.ownB F.SETT_ACC_STAT_ENERGY_VALID 0 = true) ∧
  (∀ (s : State), (hubOn s = true ∧ s.sett.vendor = false) → 
      Ends (exec (.hubHeartbeatMiss) s) fun t => t.safeHold = true ∧ t.sett.safeLatch.testBit 4 = true ∧ (t.spoor.slots.get (slotKey settSrc 0x163 0)).isSome = true) ∧
  (∀ (s : State) (i : Fin 192), (s.sett.phase = .running ∧ s.sett.dormantReq = false) → (pinKL i = true ∧ inputPin s 6 (inputKey s i 6) = some i.val ∧ ballIn s i = true) → s.ownB F.SETT_WAKE_DOZE_EXIT = true → 
      Ends (exec (.wakePin i) s) fun t => t.sett.doze = false ∧ t.sett.phase = .running)

/-- R515, R516: a fold adds its pending sum to C0 and with CLR zeroes the accumulator; a read of C0 holds C1 and C2. R519 to R527: a wear index is recorded; a projection gives SETT_LIFE and its Degraded condition; the ledger is written to flash. R524: three corrected errors retire a row. R68: the mirror shows the Sett's registers, and SETT_RTC counts. -/
def Obligations.EnergyWearAndMirror : Prop :=
  (∀ (s : State) (n : Fin 128), (s.sett.brownOut = false ∧ s.ownB F.SETT_ACCn_CFG_CLR n = false) → 
      Ends (exec (.energyFold) s) fun t => t.ownW R.SETT_ACCn_C0 n = s.ownW R.SETT_ACCn_C0 n + BitVec.ofNat 32 (s.sett.sums.get n) ∧ t.sett.sums.get n = 0) ∧
  (∀ (s : State) (n : Fin 128), (s.sett.brownOut = false ∧ s.ownB F.SETT_ACCn_CFG_CLR n = true) → 
      Ends (exec (.energyFold) s) fun t => t.ownW R.SETT_ACCn_C0 n = 0 ∧ t.ownW R.SETT_ACCn_C1 n = 0 ∧ t.ownW R.SETT_ACCn_C2 n = 0 ∧ t.ownB F.SETT_ACCn_CFG_CLR n = false) ∧
  (∀ (s : State) (n : Fin 128) (f : Nat), (s.sett.brownOut = false ∧ s.ownB F.SETT_ACC_CTRL_TEL_EN 0 = true) → (∀ m : Fin 128, s.ownB F.SETT_ACCn_CFG_EN m = decide (m = n)) → s.own F.SETT_ACC_CTRL_FLOW 0 = f → (sourceDrop s 2 f = 0 ∧ flowAccepted s f = false) → 
      Ends (exec (.energyTelemetry) s) fun t => t.spoor.srcQ.get settSrc.key = s.spoor.srcQ.get settSrc.key ++
        [{ energyRecord s n with prio := if f = 0 then 0 else (s.flow f).prio }]) ∧
  (∀ (s : State) (a : Reader) (n : Fin 128), reaches s a R.SETT_ACCn_C0.off = true → s.ownB F.SETT_ACC_STAT_ENERGY_VALID 0 = true → s.sett.folds.get n = ⟨none, false⟩ → 
      Ends (exec (.accC0Read a n) s) fun t => t.resp.get a.code = some ((s.ownW R.SETT_ACCn_C0 n).setWidth 64) ∧
        t.hold.get (accKey a (R.SETT_ACCn_C1.addr 0 n)) = some (s.ownW R.SETT_ACCn_C1 n) ∧
        t.hold.get (accKey a (R.SETT_ACCn_C2.addr 0 n)) = some (s.ownW R.SETT_ACCn_C2 n)) ∧
  (∀ (s : State) (r : Rgn) (blk : Fin 64) (index : Nat) (unit : Fin 128), (blk.val < 22 ∧ s.sett.brownOut = false) → 
      Ends (exec (.wearSample r blk index unit) s) fun t => t.sett.wear.get (wearKey r blk) = index) ∧
  (∀ (s : State) (r : Rgn) (blk : Fin 64) (index : Nat) (unit : Fin 128), (12 ≤ blk.val ∧ blk.val < 16 ∧ s.sett.brownOut = false) → (s.sett.wear.get (wearKey r blk) < 80 ∧ 80 ≤ index ∧ s.sett.wearAt.get (wearKey r blk) = 0) → 
      Ends (exec (.wearSample r blk index unit) s) fun t => (t.spoor.slots.get (slotKey settSrc 0x167 0)).isSome = true) ∧
  (∀ (s : State) (months : Fin 65536), s.sett.brownOut = false → 
      Ends (exec (.lifeProjection months) s) fun t => t.own F.SETT_LIFE_MONTHS 0 = months.val ∧ (t.own F.SETT_DEGR_COND 0).testBit 2 = decide (months.val < s.own F.SETT_THR_LIFE 0)) ∧
  (∀ (s : State), (hubOn s = true ∧ s.sett.brownOut = false) → s.sett.mirror = none → 
      Ends (exec (.ledgerMirror) s) fun t => t.sett.mirror = some false ∧ t.cfg.jobs = s.cfg.jobs ++ [FlJob.ledger]) ∧
  (∀ (s : State), (degraded s = true ∧ s.sett.brownOut = false) → 
      Ends (exec (.replaceRepeat) s) fun t => (t.spoor.slots.get (slotKey settSrc 0x160 0)).isSome = true) ∧
  (∀ (s : State) (row col : Nat) (word : Fin 2097152), s.sett.rowErr.get row + 1 < 3 → 
      Ends (exec (.hubMemoryScrub row col word .corrected) s) fun t => t.sett.rowErr.get row = s.sett.rowErr.get row + 1) ∧
  (∀ (s : State) (row col : Nat) (word : Fin 2097152), 3 ≤ s.sett.rowErr.get row + 1 → (s.sett.retired.get (2 * row) = 0 ∧ s.own F.SETT_SPAREk_FREE 8 ≠ 0) → 
      Ends (exec (.hubMemoryScrub row col word .corrected) s) fun t => t.sett.retired.get (2 * row) = 1) ∧
  (∀ (s : State) (row col : Nat) (word : Fin 2097152), (s.sett.retired.get (2 * row) = 0 ∧ s.own F.SETT_SPAREk_FREE 8 = 0) → 
      Ends (exec (.hubMemoryScrub row col word .rowFails) s) fun t => t.sett.degrPerm = true ∧ (t.own F.SETT_DEGR_COND 0).testBit 0 = true ∧ t.sett.retired = s.sett.retired) ∧
  (∀ (s : State), s.sett.brownOut = false → s.sett.writes = [] → 
      Ends (exec (.settMirrorRefresh) s) fun t => t.rtc.toNat = (s.rtc.toNat + 1) % 2 ^ 48 ∧ t.gf F.SETT_MODE_MODE 0 = modeCode s ∧ t.regs.sett = t.sett.own) ∧
  (∀ (s : State) (a : Nat) (v : Word) (l : List (Nat × Word)), s.sett.brownOut = false → s.sett.writes = (a, v) :: l → (a ≠ R.SETT_CMD.addr 0 0 ∧ a ≠ R.SETT_THR.addr 0 0 ∧ (a < R.SETT_PWRk.addr 0 0 ∨ R.SETT_PWRk.addr 0 3 < a)) → 
      Ends (exec (.settMirrorApply) s) fun t => t.sett.writes = l ∧ t.sett.own.get a = mergeFields (s.ownB F.SETT_CTRL_LOCK) (settFields a) (s.sett.own.get a) v) ∧
  (∀ (s : State) (v : Word) (l : List (Nat × Word)), s.sett.brownOut = false → s.sett.writes = (R.SETT_CMD.addr 0 0, v) :: l → (v.bit 31 = true ∧ s.ownB F.SETT_CMD_START = true) → 
      Ends (exec (.settMirrorApply) s) fun t => t.sett = s.sett)

/-- R440: a host write of HERD_DEMr through any reader of R18 sets it while region r's owner is host software and bit r of HERD_DEM_SRC.FAB is 0; otherwise it is refused. -/
def Obligations.DemandRegisters : Prop :=
  (∀ (s : State) (a : Reader) (r : Rgn) (v : Word), reaches s a R.HERD_DEMr.off = true → (s.gf F.RGN_STAT_OWNER (rgB r) = 1 ∧ (s.gf F.HERD_DEM_SRC_FAB 0).testBit r = false) → 
      Ends (exec (.herdDemWrite a r v) s) fun t => t.rd R.HERD_DEMr 0 r = v) ∧
  (∀ (s : State) (a : Reader) (r : Rgn) (v : Word), reaches s a R.HERD_DEMr.off = true → (s.gf F.RGN_STAT_OWNER (rgB r) ≠ 1 ∨ (s.gf F.HERD_DEM_SRC_FAB 0).testBit r = true) → 
      Ends (exec (.herdDemWrite a r v) s) fun t => t.gb F.HERD_EVT_REJECT 0 = true ∧ t.rd R.HERD_DEMr 0 r = s.rd R.HERD_DEMr 0 r)

/-- R510: a port K or L pin with WAKE, SETT_RTC[31:0] at SETT_WAKE_TIME with TIMER_EN, a low on PORST_N, and supply return start the power-up sequence from Dormant, each with its CAUSE. -/
def Obligations.WakesFromDormant : Prop :=
  (∀ (s : State), (s.sett.phase = .dormant ∧ s.sett.dormantReq = false) → 
      Ends (exec (.powerOnReset) s) fun t => t.sett.phase = .powerUp ∧ t.gf F.SETT_WAKE_CAUSE 0 = 3) ∧
  (∀ (s : State), (s.sett.phase = .dormant ∧ s.sett.dormantReq = false) → s.ownB F.SETT_WAKE_SUPPLY_EN = true → 
      Ends (exec (.supplyReturn) s) fun t => t.sett.supplyBad = 0 ∧ t.sett.phase = .powerUp ∧ t.own F.SETT_WAKE_CAUSE 0 = 4 ∧ t.ownB F.SETT_EVT_WAKE 0 = true) ∧
  (∀ (s : State), (s.sett.phase = .dormant ∧ s.sett.dormantReq = false) → (s.ownB F.SETT_WAKE_TIMER_EN = true ∧ s.rtc.lo = s.ownW R.SETT_WAKE_TIME) → 
      Ends (exec (.timerWake) s) fun t => t.sett.phase = .powerUp ∧ t.own F.SETT_WAKE_CAUSE 0 = 2 ∧ t.ownB F.SETT_EVT_WAKE 0 = true) ∧
  (∀ (s : State) (i : Fin 192), (s.sett.phase = .dormant ∧ s.sett.dormantReq = false) → (pinKL i = true ∧ inputPin s 6 (inputKey s i 6) = some i.val ∧ ballIn s i = true) → 
      Ends (exec (.wakePin i) s) fun t => t.sett.phase = .powerUp ∧ t.own F.SETT_WAKE_CAUSE 0 = 1 ∧ t.ownB F.SETT_EVT_WAKE 0 = true)

/-- R15: READ_CLEAR of a register with RC fields answers its word as it stands, and its RC fields then hold the events of the cycle of the read (the retention memory has no such field). -/
def Obligations.ReadsWithEvents : Prop :=
  (∀ (s : State) (a : Reader) (n : WNum) (ev : Word) (k : Blk) (b m : Nat) (row : RegRow), reaches s a (4 * n) = true → (4 * n.val < 0x14_0000 ∨ 0x18_0000 ≤ 4 * n.val) → halfAt (4 * n) = 0 → rowAt (4 * n) = some (k, b, row, m) → accMask .rc row.fields ≠ 0 → 
      Ends (exec (.readClear a n ev) s) fun t => t.resp.get a.code = some ((viewWord s a (4 * n)).setWidth 64) ∧
        (t.regs.tab k).get (4 * n) &&& accMask .rc row.fields = ev &&& accMask .rc row.fields)

/-- R203: at a period start that applies a duty value, ON = 0 stays 0, an ON below MIN_ON gives MIN_ON, an ON above PER − MIN_OFF gives PER − MIN_OFF, and any other stays, for minima that fit in the period. -/
def Obligations.AppliedDuty : Prop :=
  (∀ (s : State) (r : Rgn) (c : Fin 16) (sub : Fin 120) (on mn mo : Nat), (enabled s r c = true ∧ (s.ch r c).run ≠ .off ∧ (s.ch r c).everEn = true ∧ (s.ch r c).per ≠ 0) → ((s.ch r c).full = true ∧ (s.ch r c).next ≤ fineNow s sub ∧ (s.ch r c).at_ + 384 ≤ (s.ch r c).next) → ((s.ch r c).relLat = false ∧ (s.ch r c).relRs = false ∧ (s.ch r c).lat = false ∧ (s.ch r c).rs = false) → (respOf s r c false ≠ 1 ∧ respOf s r c true ≠ 1) → (s.safeHold = false ∧ frozen s r = false) → (s.gf F.PG_CHcc_DUTY_ON (pgB r) c = on ∧ s.gf F.PG_CHcc_LIM_MIN_ON (pgB r) c = mn ∧ s.gf F.PG_CHcc_LIM_MIN_OFF (pgB r) c = mo) → mn + mo ≤ perOf s r c → 
      Ends (exec (.periodStart r c sub) s) fun t => t.gf F.PG_CHcc_ON_ON (pgB r) c =
        if on = 0 then 0 else if on < mn then mn else if perOf s r c - mo < on then perOf s r c - mo else on)

/-- R530: VTEST starts an unlock only with SEC_STAT.VTEST_DIS 0, CONSENT 1, no pulse-generator channel enabled, and an unlock that carries SEC_DEVID and the vendor's signature; and VTEST_UNLOCK_DONE enters Vendor test only from such an unlock, while all of it still holds. -/
def Obligations.VendorTestUnlock : Prop :=
  (∀ (s : State) (dev : BitVec 128) (sig : Bool), s.sett.vtestBusy = false → 
      Ends (exec (.vtest dev sig) s) fun t => t.sett.vendor = s.sett.vendor ∧ (t.sett.vtestBusy = true → s.gb F.SEC_STAT_VTEST_DIS 0 = false ∧ s.gb F.SEC_STAT_CONSENT 0 = true ∧
        (∀ (r : Rgn) (c : Fin 16), s.gb F.PG_CHcc_CFG_EN (pgB r) c = false) ∧ dev.toNat = deviceId s ∧ sig = true)) ∧
  (∀ (s : State), s.sett.vendor = false → 
      Ends (exec (.vtestUnlockDone) s) fun t => t.sett.vendor = true → s.sett.vtestBusy = true ∧ s.gb F.SEC_STAT_VTEST_DIS 0 = false ∧ s.gb F.SEC_STAT_CONSENT 0 = true ∧
        (∀ (r : Rgn) (c : Fin 16), s.gb F.PG_CHcc_CFG_EN (pgB r) c = false))

/-- R250: rounding adds accumulator bit 22 and clears bits [22:0], of an accumulator's bits as of its value; the result is the nearest multiple of 2^23, the upper one on a tie; DMUL rounds the exact product so. -/
def Obligations.Rounding : Prop :=
  (∀ v : Int, BitVec.ofInt 56 (round23 v) = (BitVec.ofInt 56 v + BitVec.ofNat 56 (2 ^ 22)) &&& ~~~BitVec.ofNat 56 (2 ^ 23 - 1)) ∧
  (∀ v : Int, (2 ^ 23 : Int) ∣ round23 v ∧ round23 v - v ≤ 2 ^ 22 ∧ v - round23 v < 2 ^ 22) ∧
  (∀ (a x y f : Nat) (sat : Bool) (ra rd : Nat → Int), (arith 0x27 a x y f sat ra rd).ds = [(f, (storeD sat (round23 (rd x * rd y) / 2 ^ 23)).1)])

/-- The frame of every command of accesses, clocks and supply settings: a next state differs from the state before in nothing but the registers, table entries and parts that scope names for the command, among them those of an alarm's record and its log entry where one is raised. A write of a register changes what the command that the register names may, or, where it names none, that register alone, and the registers that tell of a refusal. -/
def Obligations.FrameAccessAndClocks : Prop :=
  ∀ (i : Instr) (s : State), (scope i s).chapter = 0 ∨ (scope i s).chapter = 1 → Keeps (exec i s) (Within (scope i s) s)

/-- The frame of every command of analogue cells, converter groups, comparators: a next state differs from the state before in nothing but the registers, table entries and parts that scope names for the command, among them those of an alarm's record and its log entry where one is raised. -/
def Obligations.FrameAnalogueAndConversion : Prop :=
  ∀ (i : Instr) (s : State), (scope i s).chapter = 2 ∨ (scope i s).chapter = 3 ∨ (scope i s).chapter = 4 ∨ (scope i s).chapter = 5 → Keeps (exec i s) (Within (scope i s) s)

/-- The frame of every command of pulse generators: a next state differs from the state before in nothing but the registers, table entries and parts that scope names for the command, among them those of an alarm's record and its log entry where one is raised. -/
def Obligations.FramePulses : Prop :=
  ∀ (i : Instr) (s : State), (scope i s).chapter = 6 → Keeps (exec i s) (Within (scope i s) s)

/-- The frame of every command of Loop Engines: a next state differs from the state before in nothing but the registers, table entries and parts that scope names for the command, among them those of an alarm's record and its log entry where one is raised. A packet stores to the words that its move slots name and to no other. -/
def Obligations.FrameEngines : Prop :=
  ∀ (i : Instr) (s : State), (scope i s).chapter = 7 → Keeps (exec i s) (Within (scope i s) s)

/-- The frame of every command of fabrics and the configuration controller: a next state differs from the state before in nothing but the registers, table entries and parts that scope names for the command, among them those of an alarm's record and its log entry where one is raised. -/
def Obligations.FrameFabricAndConfiguration : Prop :=
  ∀ (i : Instr) (s : State), (scope i s).chapter = 8 ∨ (scope i s).chapter = 9 → Keeps (exec i s) (Within (scope i s) s)

/-- The frame of every command of spoor records, flows and posting: a next state differs from the state before in nothing but the registers, table entries and parts that scope names for the command, among them those of an alarm's record and its log entry where one is raised. -/
def Obligations.FrameRecordsAndPosting : Prop :=
  ∀ (i : Instr) (s : State), (scope i s).chapter = 10 ∨ (scope i s).chapter = 11 → Keeps (exec i s) (Within (scope i s) s)

/-- The frame of every command of the Herd, the host ports, sideband, TAP and pins: a next state differs from the state before in nothing but the registers, table entries and parts that scope names for the command, among them those of an alarm's record and its log entry where one is raised. -/
def Obligations.FrameHerdAndHost : Prop :=
  ∀ (i : Instr) (s : State), (scope i s).chapter = 12 ∨ (scope i s).chapter = 13 → Keeps (exec i s) (Within (scope i s) s)

/-- The frame of every command of modes, resets and the Sett: a next state differs from the state before in nothing but the registers, table entries and parts that scope names for the command, among them those of an alarm's record and its log entry where one is raised. -/
def Obligations.FrameModes : Prop :=
  ∀ (i : Instr) (s : State), (scope i s).chapter = 14 → Keeps (exec i s) (Within (scope i s) s)
end

