-- ==== Sys2Proof/Laws/State.lean ====
section
/-!
SUPPORT. What each update of State leaves as it was: one lemma per update and field.
-/

namespace Sys2Proof.Machine

variable (s : State)

/-! ### State.wr changes regs -/

@[simp] theorem wr_hub (r : Reg) (b n : Nat) (v : Word) : (s.wr r b n v).hub = s.hub := rfl
@[simp] theorem wr_rgn (r : Reg) (b n : Nat) (v : Word) : (s.wr r b n v).rgn = s.rgn := rfl
@[simp] theorem wr_ana (r : Reg) (b n : Nat) (v : Word) : (s.wr r b n v).ana = s.ana := rfl
@[simp] theorem wr_conv (r : Reg) (b n : Nat) (v : Word) : (s.wr r b n v).conv = s.conv := rfl
@[simp] theorem wr_comp (r : Reg) (b n : Nat) (v : Word) : (s.wr r b n v).comp = s.comp := rfl
@[simp] theorem wr_pwm (r : Reg) (b n : Nat) (v : Word) : (s.wr r b n v).pwm = s.pwm := rfl
@[simp] theorem wr_slots (r : Reg) (b n : Nat) (v : Word) : (s.wr r b n v).slots = s.slots := rfl
@[simp] theorem wr_pgSub (r : Reg) (b n : Nat) (v : Word) : (s.wr r b n v).pgSub = s.pgSub := rfl
@[simp] theorem wr_engines (r : Reg) (b n : Nat) (v : Word) : (s.wr r b n v).engines = s.engines := rfl
@[simp] theorem wr_lemem (r : Reg) (b n : Nat) (v : Word) : (s.wr r b n v).lemem = s.lemem := rfl
@[simp] theorem wr_fabs (r : Reg) (b n : Nat) (v : Word) : (s.wr r b n v).fabs = s.fabs := rfl
@[simp] theorem wr_cfg (r : Reg) (b n : Nat) (v : Word) : (s.wr r b n v).cfg = s.cfg := rfl
@[simp] theorem wr_spoor (r : Reg) (b n : Nat) (v : Word) : (s.wr r b n v).spoor = s.spoor := rfl
@[simp] theorem wr_pmap (r : Reg) (b n : Nat) (v : Word) : (s.wr r b n v).pmap = s.pmap := rfl
@[simp] theorem wr_herd (r : Reg) (b n : Nat) (v : Word) : (s.wr r b n v).herd = s.herd := rfl
@[simp] theorem wr_host (r : Reg) (b n : Nat) (v : Word) : (s.wr r b n v).host = s.host := rfl
@[simp] theorem wr_sett (r : Reg) (b n : Nat) (v : Word) : (s.wr r b n v).sett = s.sett := rfl
@[simp] theorem wr_img (r : Reg) (b n : Nat) (v : Word) : (s.wr r b n v).img = s.img := rfl
@[simp] theorem wr_otp (r : Reg) (b n : Nat) (v : Word) : (s.wr r b n v).otp = s.otp := rfl
@[simp] theorem wr_hold (r : Reg) (b n : Nat) (v : Word) : (s.wr r b n v).hold = s.hold := rfl
@[simp] theorem wr_stage (r : Reg) (b n : Nat) (v : Word) : (s.wr r b n v).stage = s.stage := rfl
@[simp] theorem wr_resp (r : Reg) (b n : Nat) (v : Word) : (s.wr r b n v).resp = s.resp := rfl
@[simp] theorem wr_out (r : Reg) (b n : Nat) (v : Word) : (s.wr r b n v).out = s.out := rfl
@[simp] theorem wr_freeCtr (r : Reg) (b n : Nat) (v : Word) : (s.wr r b n v).freeCtr = s.freeCtr := rfl
@[simp] theorem wr_pending (r : Reg) (b n : Nat) (v : Word) : (s.wr r b n v).pending = s.pending := rfl

/-! ### State.sf changes regs -/

@[simp] theorem sf_hub (f : Fld) (b n v : Nat) : (s.sf f b n v).hub = s.hub := rfl
@[simp] theorem sf_rgn (f : Fld) (b n v : Nat) : (s.sf f b n v).rgn = s.rgn := rfl
@[simp] theorem sf_ana (f : Fld) (b n v : Nat) : (s.sf f b n v).ana = s.ana := rfl
@[simp] theorem sf_conv (f : Fld) (b n v : Nat) : (s.sf f b n v).conv = s.conv := rfl
@[simp] theorem sf_comp (f : Fld) (b n v : Nat) : (s.sf f b n v).comp = s.comp := rfl
@[simp] theorem sf_pwm (f : Fld) (b n v : Nat) : (s.sf f b n v).pwm = s.pwm := rfl
@[simp] theorem sf_slots (f : Fld) (b n v : Nat) : (s.sf f b n v).slots = s.slots := rfl
@[simp] theorem sf_pgSub (f : Fld) (b n v : Nat) : (s.sf f b n v).pgSub = s.pgSub := rfl
@[simp] theorem sf_engines (f : Fld) (b n v : Nat) : (s.sf f b n v).engines = s.engines := rfl
@[simp] theorem sf_lemem (f : Fld) (b n v : Nat) : (s.sf f b n v).lemem = s.lemem := rfl
@[simp] theorem sf_fabs (f : Fld) (b n v : Nat) : (s.sf f b n v).fabs = s.fabs := rfl
@[simp] theorem sf_cfg (f : Fld) (b n v : Nat) : (s.sf f b n v).cfg = s.cfg := rfl
@[simp] theorem sf_spoor (f : Fld) (b n v : Nat) : (s.sf f b n v).spoor = s.spoor := rfl
@[simp] theorem sf_pmap (f : Fld) (b n v : Nat) : (s.sf f b n v).pmap = s.pmap := rfl
@[simp] theorem sf_herd (f : Fld) (b n v : Nat) : (s.sf f b n v).herd = s.herd := rfl
@[simp] theorem sf_host (f : Fld) (b n v : Nat) : (s.sf f b n v).host = s.host := rfl
@[simp] theorem sf_sett (f : Fld) (b n v : Nat) : (s.sf f b n v).sett = s.sett := rfl
@[simp] theorem sf_img (f : Fld) (b n v : Nat) : (s.sf f b n v).img = s.img := rfl
@[simp] theorem sf_otp (f : Fld) (b n v : Nat) : (s.sf f b n v).otp = s.otp := rfl
@[simp] theorem sf_hold (f : Fld) (b n v : Nat) : (s.sf f b n v).hold = s.hold := rfl
@[simp] theorem sf_stage (f : Fld) (b n v : Nat) : (s.sf f b n v).stage = s.stage := rfl
@[simp] theorem sf_resp (f : Fld) (b n v : Nat) : (s.sf f b n v).resp = s.resp := rfl
@[simp] theorem sf_out (f : Fld) (b n v : Nat) : (s.sf f b n v).out = s.out := rfl
@[simp] theorem sf_freeCtr (f : Fld) (b n v : Nat) : (s.sf f b n v).freeCtr = s.freeCtr := rfl
@[simp] theorem sf_pending (f : Fld) (b n v : Nat) : (s.sf f b n v).pending = s.pending := rfl

/-! ### State.sb changes regs -/

@[simp] theorem sb_hub (f : Fld) (b n : Nat) (v : Bool) : (s.sb f b n v).hub = s.hub := rfl
@[simp] theorem sb_rgn (f : Fld) (b n : Nat) (v : Bool) : (s.sb f b n v).rgn = s.rgn := rfl
@[simp] theorem sb_ana (f : Fld) (b n : Nat) (v : Bool) : (s.sb f b n v).ana = s.ana := rfl
@[simp] theorem sb_conv (f : Fld) (b n : Nat) (v : Bool) : (s.sb f b n v).conv = s.conv := rfl
@[simp] theorem sb_comp (f : Fld) (b n : Nat) (v : Bool) : (s.sb f b n v).comp = s.comp := rfl
@[simp] theorem sb_pwm (f : Fld) (b n : Nat) (v : Bool) : (s.sb f b n v).pwm = s.pwm := rfl
@[simp] theorem sb_slots (f : Fld) (b n : Nat) (v : Bool) : (s.sb f b n v).slots = s.slots := rfl
@[simp] theorem sb_pgSub (f : Fld) (b n : Nat) (v : Bool) : (s.sb f b n v).pgSub = s.pgSub := rfl
@[simp] theorem sb_engines (f : Fld) (b n : Nat) (v : Bool) : (s.sb f b n v).engines = s.engines := rfl
@[simp] theorem sb_lemem (f : Fld) (b n : Nat) (v : Bool) : (s.sb f b n v).lemem = s.lemem := rfl
@[simp] theorem sb_fabs (f : Fld) (b n : Nat) (v : Bool) : (s.sb f b n v).fabs = s.fabs := rfl
@[simp] theorem sb_cfg (f : Fld) (b n : Nat) (v : Bool) : (s.sb f b n v).cfg = s.cfg := rfl
@[simp] theorem sb_spoor (f : Fld) (b n : Nat) (v : Bool) : (s.sb f b n v).spoor = s.spoor := rfl
@[simp] theorem sb_pmap (f : Fld) (b n : Nat) (v : Bool) : (s.sb f b n v).pmap = s.pmap := rfl
@[simp] theorem sb_herd (f : Fld) (b n : Nat) (v : Bool) : (s.sb f b n v).herd = s.herd := rfl
@[simp] theorem sb_host (f : Fld) (b n : Nat) (v : Bool) : (s.sb f b n v).host = s.host := rfl
@[simp] theorem sb_sett (f : Fld) (b n : Nat) (v : Bool) : (s.sb f b n v).sett = s.sett := rfl
@[simp] theorem sb_img (f : Fld) (b n : Nat) (v : Bool) : (s.sb f b n v).img = s.img := rfl
@[simp] theorem sb_otp (f : Fld) (b n : Nat) (v : Bool) : (s.sb f b n v).otp = s.otp := rfl
@[simp] theorem sb_hold (f : Fld) (b n : Nat) (v : Bool) : (s.sb f b n v).hold = s.hold := rfl
@[simp] theorem sb_stage (f : Fld) (b n : Nat) (v : Bool) : (s.sb f b n v).stage = s.stage := rfl
@[simp] theorem sb_resp (f : Fld) (b n : Nat) (v : Bool) : (s.sb f b n v).resp = s.resp := rfl
@[simp] theorem sb_out (f : Fld) (b n : Nat) (v : Bool) : (s.sb f b n v).out = s.out := rfl
@[simp] theorem sb_freeCtr (f : Fld) (b n : Nat) (v : Bool) : (s.sb f b n v).freeCtr = s.freeCtr := rfl
@[simp] theorem sb_pending (f : Fld) (b n : Nat) (v : Bool) : (s.sb f b n v).pending = s.pending := rfl

/-! ### State.orf changes regs -/

@[simp] theorem orf_hub (f : Fld) (b n i : Nat) : (s.orf f b n i).hub = s.hub := rfl
@[simp] theorem orf_rgn (f : Fld) (b n i : Nat) : (s.orf f b n i).rgn = s.rgn := rfl
@[simp] theorem orf_ana (f : Fld) (b n i : Nat) : (s.orf f b n i).ana = s.ana := rfl
@[simp] theorem orf_conv (f : Fld) (b n i : Nat) : (s.orf f b n i).conv = s.conv := rfl
@[simp] theorem orf_comp (f : Fld) (b n i : Nat) : (s.orf f b n i).comp = s.comp := rfl
@[simp] theorem orf_pwm (f : Fld) (b n i : Nat) : (s.orf f b n i).pwm = s.pwm := rfl
@[simp] theorem orf_slots (f : Fld) (b n i : Nat) : (s.orf f b n i).slots = s.slots := rfl
@[simp] theorem orf_pgSub (f : Fld) (b n i : Nat) : (s.orf f b n i).pgSub = s.pgSub := rfl
@[simp] theorem orf_engines (f : Fld) (b n i : Nat) : (s.orf f b n i).engines = s.engines := rfl
@[simp] theorem orf_lemem (f : Fld) (b n i : Nat) : (s.orf f b n i).lemem = s.lemem := rfl
@[simp] theorem orf_fabs (f : Fld) (b n i : Nat) : (s.orf f b n i).fabs = s.fabs := rfl
@[simp] theorem orf_cfg (f : Fld) (b n i : Nat) : (s.orf f b n i).cfg = s.cfg := rfl
@[simp] theorem orf_spoor (f : Fld) (b n i : Nat) : (s.orf f b n i).spoor = s.spoor := rfl
@[simp] theorem orf_pmap (f : Fld) (b n i : Nat) : (s.orf f b n i).pmap = s.pmap := rfl
@[simp] theorem orf_herd (f : Fld) (b n i : Nat) : (s.orf f b n i).herd = s.herd := rfl
@[simp] theorem orf_host (f : Fld) (b n i : Nat) : (s.orf f b n i).host = s.host := rfl
@[simp] theorem orf_sett (f : Fld) (b n i : Nat) : (s.orf f b n i).sett = s.sett := rfl
@[simp] theorem orf_img (f : Fld) (b n i : Nat) : (s.orf f b n i).img = s.img := rfl
@[simp] theorem orf_otp (f : Fld) (b n i : Nat) : (s.orf f b n i).otp = s.otp := rfl
@[simp] theorem orf_hold (f : Fld) (b n i : Nat) : (s.orf f b n i).hold = s.hold := rfl
@[simp] theorem orf_stage (f : Fld) (b n i : Nat) : (s.orf f b n i).stage = s.stage := rfl
@[simp] theorem orf_resp (f : Fld) (b n i : Nat) : (s.orf f b n i).resp = s.resp := rfl
@[simp] theorem orf_out (f : Fld) (b n i : Nat) : (s.orf f b n i).out = s.out := rfl
@[simp] theorem orf_freeCtr (f : Fld) (b n i : Nat) : (s.orf f b n i).freeCtr = s.freeCtr := rfl
@[simp] theorem orf_pending (f : Fld) (b n i : Nat) : (s.orf f b n i).pending = s.pending := rfl

/-! ### State.bump changes regs -/

@[simp] theorem bump_hub (f : Fld) (b n : Nat) : (s.bump f b n).hub = s.hub := rfl
@[simp] theorem bump_rgn (f : Fld) (b n : Nat) : (s.bump f b n).rgn = s.rgn := rfl
@[simp] theorem bump_ana (f : Fld) (b n : Nat) : (s.bump f b n).ana = s.ana := rfl
@[simp] theorem bump_conv (f : Fld) (b n : Nat) : (s.bump f b n).conv = s.conv := rfl
@[simp] theorem bump_comp (f : Fld) (b n : Nat) : (s.bump f b n).comp = s.comp := rfl
@[simp] theorem bump_pwm (f : Fld) (b n : Nat) : (s.bump f b n).pwm = s.pwm := rfl
@[simp] theorem bump_slots (f : Fld) (b n : Nat) : (s.bump f b n).slots = s.slots := rfl
@[simp] theorem bump_pgSub (f : Fld) (b n : Nat) : (s.bump f b n).pgSub = s.pgSub := rfl
@[simp] theorem bump_engines (f : Fld) (b n : Nat) : (s.bump f b n).engines = s.engines := rfl
@[simp] theorem bump_lemem (f : Fld) (b n : Nat) : (s.bump f b n).lemem = s.lemem := rfl
@[simp] theorem bump_fabs (f : Fld) (b n : Nat) : (s.bump f b n).fabs = s.fabs := rfl
@[simp] theorem bump_cfg (f : Fld) (b n : Nat) : (s.bump f b n).cfg = s.cfg := rfl
@[simp] theorem bump_spoor (f : Fld) (b n : Nat) : (s.bump f b n).spoor = s.spoor := rfl
@[simp] theorem bump_pmap (f : Fld) (b n : Nat) : (s.bump f b n).pmap = s.pmap := rfl
@[simp] theorem bump_herd (f : Fld) (b n : Nat) : (s.bump f b n).herd = s.herd := rfl
@[simp] theorem bump_host (f : Fld) (b n : Nat) : (s.bump f b n).host = s.host := rfl
@[simp] theorem bump_sett (f : Fld) (b n : Nat) : (s.bump f b n).sett = s.sett := rfl
@[simp] theorem bump_img (f : Fld) (b n : Nat) : (s.bump f b n).img = s.img := rfl
@[simp] theorem bump_otp (f : Fld) (b n : Nat) : (s.bump f b n).otp = s.otp := rfl
@[simp] theorem bump_hold (f : Fld) (b n : Nat) : (s.bump f b n).hold = s.hold := rfl
@[simp] theorem bump_stage (f : Fld) (b n : Nat) : (s.bump f b n).stage = s.stage := rfl
@[simp] theorem bump_resp (f : Fld) (b n : Nat) : (s.bump f b n).resp = s.resp := rfl
@[simp] theorem bump_out (f : Fld) (b n : Nat) : (s.bump f b n).out = s.out := rfl
@[simp] theorem bump_freeCtr (f : Fld) (b n : Nat) : (s.bump f b n).freeCtr = s.freeCtr := rfl
@[simp] theorem bump_pending (f : Fld) (b n : Nat) : (s.bump f b n).pending = s.pending := rfl

/-! ### State.count changes regs -/

@[simp] theorem count_hub (f : Fld) (b n : Nat) : (s.count f b n).hub = s.hub := rfl
@[simp] theorem count_rgn (f : Fld) (b n : Nat) : (s.count f b n).rgn = s.rgn := rfl
@[simp] theorem count_ana (f : Fld) (b n : Nat) : (s.count f b n).ana = s.ana := rfl
@[simp] theorem count_conv (f : Fld) (b n : Nat) : (s.count f b n).conv = s.conv := rfl
@[simp] theorem count_comp (f : Fld) (b n : Nat) : (s.count f b n).comp = s.comp := rfl
@[simp] theorem count_pwm (f : Fld) (b n : Nat) : (s.count f b n).pwm = s.pwm := rfl
@[simp] theorem count_slots (f : Fld) (b n : Nat) : (s.count f b n).slots = s.slots := rfl
@[simp] theorem count_pgSub (f : Fld) (b n : Nat) : (s.count f b n).pgSub = s.pgSub := rfl
@[simp] theorem count_engines (f : Fld) (b n : Nat) : (s.count f b n).engines = s.engines := rfl
@[simp] theorem count_lemem (f : Fld) (b n : Nat) : (s.count f b n).lemem = s.lemem := rfl
@[simp] theorem count_fabs (f : Fld) (b n : Nat) : (s.count f b n).fabs = s.fabs := rfl
@[simp] theorem count_cfg (f : Fld) (b n : Nat) : (s.count f b n).cfg = s.cfg := rfl
@[simp] theorem count_spoor (f : Fld) (b n : Nat) : (s.count f b n).spoor = s.spoor := rfl
@[simp] theorem count_pmap (f : Fld) (b n : Nat) : (s.count f b n).pmap = s.pmap := rfl
@[simp] theorem count_herd (f : Fld) (b n : Nat) : (s.count f b n).herd = s.herd := rfl
@[simp] theorem count_host (f : Fld) (b n : Nat) : (s.count f b n).host = s.host := rfl
@[simp] theorem count_sett (f : Fld) (b n : Nat) : (s.count f b n).sett = s.sett := rfl
@[simp] theorem count_img (f : Fld) (b n : Nat) : (s.count f b n).img = s.img := rfl
@[simp] theorem count_otp (f : Fld) (b n : Nat) : (s.count f b n).otp = s.otp := rfl
@[simp] theorem count_hold (f : Fld) (b n : Nat) : (s.count f b n).hold = s.hold := rfl
@[simp] theorem count_stage (f : Fld) (b n : Nat) : (s.count f b n).stage = s.stage := rfl
@[simp] theorem count_resp (f : Fld) (b n : Nat) : (s.count f b n).resp = s.resp := rfl
@[simp] theorem count_out (f : Fld) (b n : Nat) : (s.count f b n).out = s.out := rfl
@[simp] theorem count_freeCtr (f : Fld) (b n : Nat) : (s.count f b n).freeCtr = s.freeCtr := rfl
@[simp] theorem count_pending (f : Fld) (b n : Nat) : (s.count f b n).pending = s.pending := rfl

/-! ### State.wr64 changes regs -/

@[simp] theorem wr64_hub (r : Reg) (b n : Nat) (v : DWord) : (s.wr64 r b n v).hub = s.hub := rfl
@[simp] theorem wr64_rgn (r : Reg) (b n : Nat) (v : DWord) : (s.wr64 r b n v).rgn = s.rgn := rfl
@[simp] theorem wr64_ana (r : Reg) (b n : Nat) (v : DWord) : (s.wr64 r b n v).ana = s.ana := rfl
@[simp] theorem wr64_conv (r : Reg) (b n : Nat) (v : DWord) : (s.wr64 r b n v).conv = s.conv := rfl
@[simp] theorem wr64_comp (r : Reg) (b n : Nat) (v : DWord) : (s.wr64 r b n v).comp = s.comp := rfl
@[simp] theorem wr64_pwm (r : Reg) (b n : Nat) (v : DWord) : (s.wr64 r b n v).pwm = s.pwm := rfl
@[simp] theorem wr64_slots (r : Reg) (b n : Nat) (v : DWord) : (s.wr64 r b n v).slots = s.slots := rfl
@[simp] theorem wr64_pgSub (r : Reg) (b n : Nat) (v : DWord) : (s.wr64 r b n v).pgSub = s.pgSub := rfl
@[simp] theorem wr64_engines (r : Reg) (b n : Nat) (v : DWord) : (s.wr64 r b n v).engines = s.engines := rfl
@[simp] theorem wr64_lemem (r : Reg) (b n : Nat) (v : DWord) : (s.wr64 r b n v).lemem = s.lemem := rfl
@[simp] theorem wr64_fabs (r : Reg) (b n : Nat) (v : DWord) : (s.wr64 r b n v).fabs = s.fabs := rfl
@[simp] theorem wr64_cfg (r : Reg) (b n : Nat) (v : DWord) : (s.wr64 r b n v).cfg = s.cfg := rfl
@[simp] theorem wr64_spoor (r : Reg) (b n : Nat) (v : DWord) : (s.wr64 r b n v).spoor = s.spoor := rfl
@[simp] theorem wr64_pmap (r : Reg) (b n : Nat) (v : DWord) : (s.wr64 r b n v).pmap = s.pmap := rfl
@[simp] theorem wr64_herd (r : Reg) (b n : Nat) (v : DWord) : (s.wr64 r b n v).herd = s.herd := rfl
@[simp] theorem wr64_host (r : Reg) (b n : Nat) (v : DWord) : (s.wr64 r b n v).host = s.host := rfl
@[simp] theorem wr64_sett (r : Reg) (b n : Nat) (v : DWord) : (s.wr64 r b n v).sett = s.sett := rfl
@[simp] theorem wr64_img (r : Reg) (b n : Nat) (v : DWord) : (s.wr64 r b n v).img = s.img := rfl
@[simp] theorem wr64_otp (r : Reg) (b n : Nat) (v : DWord) : (s.wr64 r b n v).otp = s.otp := rfl
@[simp] theorem wr64_hold (r : Reg) (b n : Nat) (v : DWord) : (s.wr64 r b n v).hold = s.hold := rfl
@[simp] theorem wr64_stage (r : Reg) (b n : Nat) (v : DWord) : (s.wr64 r b n v).stage = s.stage := rfl
@[simp] theorem wr64_resp (r : Reg) (b n : Nat) (v : DWord) : (s.wr64 r b n v).resp = s.resp := rfl
@[simp] theorem wr64_out (r : Reg) (b n : Nat) (v : DWord) : (s.wr64 r b n v).out = s.out := rfl
@[simp] theorem wr64_freeCtr (r : Reg) (b n : Nat) (v : DWord) : (s.wr64 r b n v).freeCtr = s.freeCtr := rfl
@[simp] theorem wr64_pending (r : Reg) (b n : Nat) (v : DWord) : (s.wr64 r b n v).pending = s.pending := rfl

/-! ### State.reject changes regs -/

@[simp] theorem reject_hub (e c : Fld) (b : Nat) : (s.reject e c b).hub = s.hub := rfl
@[simp] theorem reject_rgn (e c : Fld) (b : Nat) : (s.reject e c b).rgn = s.rgn := rfl
@[simp] theorem reject_ana (e c : Fld) (b : Nat) : (s.reject e c b).ana = s.ana := rfl
@[simp] theorem reject_conv (e c : Fld) (b : Nat) : (s.reject e c b).conv = s.conv := rfl
@[simp] theorem reject_comp (e c : Fld) (b : Nat) : (s.reject e c b).comp = s.comp := rfl
@[simp] theorem reject_pwm (e c : Fld) (b : Nat) : (s.reject e c b).pwm = s.pwm := rfl
@[simp] theorem reject_slots (e c : Fld) (b : Nat) : (s.reject e c b).slots = s.slots := rfl
@[simp] theorem reject_pgSub (e c : Fld) (b : Nat) : (s.reject e c b).pgSub = s.pgSub := rfl
@[simp] theorem reject_engines (e c : Fld) (b : Nat) : (s.reject e c b).engines = s.engines := rfl
@[simp] theorem reject_lemem (e c : Fld) (b : Nat) : (s.reject e c b).lemem = s.lemem := rfl
@[simp] theorem reject_fabs (e c : Fld) (b : Nat) : (s.reject e c b).fabs = s.fabs := rfl
@[simp] theorem reject_cfg (e c : Fld) (b : Nat) : (s.reject e c b).cfg = s.cfg := rfl
@[simp] theorem reject_spoor (e c : Fld) (b : Nat) : (s.reject e c b).spoor = s.spoor := rfl
@[simp] theorem reject_pmap (e c : Fld) (b : Nat) : (s.reject e c b).pmap = s.pmap := rfl
@[simp] theorem reject_herd (e c : Fld) (b : Nat) : (s.reject e c b).herd = s.herd := rfl
@[simp] theorem reject_host (e c : Fld) (b : Nat) : (s.reject e c b).host = s.host := rfl
@[simp] theorem reject_sett (e c : Fld) (b : Nat) : (s.reject e c b).sett = s.sett := rfl
@[simp] theorem reject_img (e c : Fld) (b : Nat) : (s.reject e c b).img = s.img := rfl
@[simp] theorem reject_otp (e c : Fld) (b : Nat) : (s.reject e c b).otp = s.otp := rfl
@[simp] theorem reject_hold (e c : Fld) (b : Nat) : (s.reject e c b).hold = s.hold := rfl
@[simp] theorem reject_stage (e c : Fld) (b : Nat) : (s.reject e c b).stage = s.stage := rfl
@[simp] theorem reject_resp (e c : Fld) (b : Nat) : (s.reject e c b).resp = s.resp := rfl
@[simp] theorem reject_out (e c : Fld) (b : Nat) : (s.reject e c b).out = s.out := rfl
@[simp] theorem reject_freeCtr (e c : Fld) (b : Nat) : (s.reject e c b).freeCtr = s.freeCtr := rfl
@[simp] theorem reject_pending (e c : Fld) (b : Nat) : (s.reject e c b).pending = s.pending := rfl

/-! ### State.ownerReject changes regs -/

@[simp] theorem ownerReject_hub (r : Nat) : (s.ownerReject r).hub = s.hub := (bump_hub _ _ _ _).trans (sb_hub s _ _ _ _)
@[simp] theorem ownerReject_rgn (r : Nat) : (s.ownerReject r).rgn = s.rgn := (bump_rgn _ _ _ _).trans (sb_rgn s _ _ _ _)
@[simp] theorem ownerReject_ana (r : Nat) : (s.ownerReject r).ana = s.ana := (bump_ana _ _ _ _).trans (sb_ana s _ _ _ _)
@[simp] theorem ownerReject_conv (r : Nat) : (s.ownerReject r).conv = s.conv := (bump_conv _ _ _ _).trans (sb_conv s _ _ _ _)
@[simp] theorem ownerReject_comp (r : Nat) : (s.ownerReject r).comp = s.comp := (bump_comp _ _ _ _).trans (sb_comp s _ _ _ _)
@[simp] theorem ownerReject_pwm (r : Nat) : (s.ownerReject r).pwm = s.pwm := (bump_pwm _ _ _ _).trans (sb_pwm s _ _ _ _)
@[simp] theorem ownerReject_slots (r : Nat) : (s.ownerReject r).slots = s.slots := (bump_slots _ _ _ _).trans (sb_slots s _ _ _ _)
@[simp] theorem ownerReject_pgSub (r : Nat) : (s.ownerReject r).pgSub = s.pgSub := (bump_pgSub _ _ _ _).trans (sb_pgSub s _ _ _ _)
@[simp] theorem ownerReject_engines (r : Nat) : (s.ownerReject r).engines = s.engines := (bump_engines _ _ _ _).trans (sb_engines s _ _ _ _)
@[simp] theorem ownerReject_lemem (r : Nat) : (s.ownerReject r).lemem = s.lemem := (bump_lemem _ _ _ _).trans (sb_lemem s _ _ _ _)
@[simp] theorem ownerReject_fabs (r : Nat) : (s.ownerReject r).fabs = s.fabs := (bump_fabs _ _ _ _).trans (sb_fabs s _ _ _ _)
@[simp] theorem ownerReject_cfg (r : Nat) : (s.ownerReject r).cfg = s.cfg := (bump_cfg _ _ _ _).trans (sb_cfg s _ _ _ _)
@[simp] theorem ownerReject_spoor (r : Nat) : (s.ownerReject r).spoor = s.spoor := (bump_spoor _ _ _ _).trans (sb_spoor s _ _ _ _)
@[simp] theorem ownerReject_pmap (r : Nat) : (s.ownerReject r).pmap = s.pmap := (bump_pmap _ _ _ _).trans (sb_pmap s _ _ _ _)
@[simp] theorem ownerReject_herd (r : Nat) : (s.ownerReject r).herd = s.herd := (bump_herd _ _ _ _).trans (sb_herd s _ _ _ _)
@[simp] theorem ownerReject_host (r : Nat) : (s.ownerReject r).host = s.host := (bump_host _ _ _ _).trans (sb_host s _ _ _ _)
@[simp] theorem ownerReject_sett (r : Nat) : (s.ownerReject r).sett = s.sett := (bump_sett _ _ _ _).trans (sb_sett s _ _ _ _)
@[simp] theorem ownerReject_img (r : Nat) : (s.ownerReject r).img = s.img := (bump_img _ _ _ _).trans (sb_img s _ _ _ _)
@[simp] theorem ownerReject_otp (r : Nat) : (s.ownerReject r).otp = s.otp := (bump_otp _ _ _ _).trans (sb_otp s _ _ _ _)
@[simp] theorem ownerReject_hold (r : Nat) : (s.ownerReject r).hold = s.hold := (bump_hold _ _ _ _).trans (sb_hold s _ _ _ _)
@[simp] theorem ownerReject_stage (r : Nat) : (s.ownerReject r).stage = s.stage := (bump_stage _ _ _ _).trans (sb_stage s _ _ _ _)
@[simp] theorem ownerReject_resp (r : Nat) : (s.ownerReject r).resp = s.resp := (bump_resp _ _ _ _).trans (sb_resp s _ _ _ _)
@[simp] theorem ownerReject_out (r : Nat) : (s.ownerReject r).out = s.out := (bump_out _ _ _ _).trans (sb_out s _ _ _ _)
@[simp] theorem ownerReject_freeCtr (r : Nat) : (s.ownerReject r).freeCtr = s.freeCtr := (bump_freeCtr _ _ _ _).trans (sb_freeCtr s _ _ _ _)
@[simp] theorem ownerReject_pending (r : Nat) : (s.ownerReject r).pending = s.pending := (bump_pending _ _ _ _).trans (sb_pending s _ _ _ _)

/-! ### State.plainWrite changes regs -/

@[simp] theorem plainWrite_hub (r : Reg) (b n : Nat) (v : Word) : (s.plainWrite r b n v).hub = s.hub := wr_hub s r b n _
@[simp] theorem plainWrite_rgn (r : Reg) (b n : Nat) (v : Word) : (s.plainWrite r b n v).rgn = s.rgn := wr_rgn s r b n _
@[simp] theorem plainWrite_ana (r : Reg) (b n : Nat) (v : Word) : (s.plainWrite r b n v).ana = s.ana := wr_ana s r b n _
@[simp] theorem plainWrite_conv (r : Reg) (b n : Nat) (v : Word) : (s.plainWrite r b n v).conv = s.conv := wr_conv s r b n _
@[simp] theorem plainWrite_comp (r : Reg) (b n : Nat) (v : Word) : (s.plainWrite r b n v).comp = s.comp := wr_comp s r b n _
@[simp] theorem plainWrite_pwm (r : Reg) (b n : Nat) (v : Word) : (s.plainWrite r b n v).pwm = s.pwm := wr_pwm s r b n _
@[simp] theorem plainWrite_slots (r : Reg) (b n : Nat) (v : Word) : (s.plainWrite r b n v).slots = s.slots := wr_slots s r b n _
@[simp] theorem plainWrite_pgSub (r : Reg) (b n : Nat) (v : Word) : (s.plainWrite r b n v).pgSub = s.pgSub := wr_pgSub s r b n _
@[simp] theorem plainWrite_engines (r : Reg) (b n : Nat) (v : Word) : (s.plainWrite r b n v).engines = s.engines := wr_engines s r b n _
@[simp] theorem plainWrite_lemem (r : Reg) (b n : Nat) (v : Word) : (s.plainWrite r b n v).lemem = s.lemem := wr_lemem s r b n _
@[simp] theorem plainWrite_fabs (r : Reg) (b n : Nat) (v : Word) : (s.plainWrite r b n v).fabs = s.fabs := wr_fabs s r b n _
@[simp] theorem plainWrite_cfg (r : Reg) (b n : Nat) (v : Word) : (s.plainWrite r b n v).cfg = s.cfg := wr_cfg s r b n _
@[simp] theorem plainWrite_spoor (r : Reg) (b n : Nat) (v : Word) : (s.plainWrite r b n v).spoor = s.spoor := wr_spoor s r b n _
@[simp] theorem plainWrite_pmap (r : Reg) (b n : Nat) (v : Word) : (s.plainWrite r b n v).pmap = s.pmap := wr_pmap s r b n _
@[simp] theorem plainWrite_herd (r : Reg) (b n : Nat) (v : Word) : (s.plainWrite r b n v).herd = s.herd := wr_herd s r b n _
@[simp] theorem plainWrite_host (r : Reg) (b n : Nat) (v : Word) : (s.plainWrite r b n v).host = s.host := wr_host s r b n _
@[simp] theorem plainWrite_sett (r : Reg) (b n : Nat) (v : Word) : (s.plainWrite r b n v).sett = s.sett := wr_sett s r b n _
@[simp] theorem plainWrite_img (r : Reg) (b n : Nat) (v : Word) : (s.plainWrite r b n v).img = s.img := wr_img s r b n _
@[simp] theorem plainWrite_otp (r : Reg) (b n : Nat) (v : Word) : (s.plainWrite r b n v).otp = s.otp := wr_otp s r b n _
@[simp] theorem plainWrite_hold (r : Reg) (b n : Nat) (v : Word) : (s.plainWrite r b n v).hold = s.hold := wr_hold s r b n _
@[simp] theorem plainWrite_stage (r : Reg) (b n : Nat) (v : Word) : (s.plainWrite r b n v).stage = s.stage := wr_stage s r b n _
@[simp] theorem plainWrite_resp (r : Reg) (b n : Nat) (v : Word) : (s.plainWrite r b n v).resp = s.resp := wr_resp s r b n _
@[simp] theorem plainWrite_out (r : Reg) (b n : Nat) (v : Word) : (s.plainWrite r b n v).out = s.out := wr_out s r b n _
@[simp] theorem plainWrite_freeCtr (r : Reg) (b n : Nat) (v : Word) : (s.plainWrite r b n v).freeCtr = s.freeCtr := wr_freeCtr s r b n _
@[simp] theorem plainWrite_pending (r : Reg) (b n : Nat) (v : Word) : (s.plainWrite r b n v).pending = s.pending := wr_pending s r b n _

/-! ### State.setOwnW changes sett -/

@[simp] theorem setOwnW_regs (r : Reg) (n : Nat) (v : Word) : (s.setOwnW r n v).regs = s.regs := rfl
@[simp] theorem setOwnW_hub (r : Reg) (n : Nat) (v : Word) : (s.setOwnW r n v).hub = s.hub := rfl
@[simp] theorem setOwnW_rgn (r : Reg) (n : Nat) (v : Word) : (s.setOwnW r n v).rgn = s.rgn := rfl
@[simp] theorem setOwnW_ana (r : Reg) (n : Nat) (v : Word) : (s.setOwnW r n v).ana = s.ana := rfl
@[simp] theorem setOwnW_conv (r : Reg) (n : Nat) (v : Word) : (s.setOwnW r n v).conv = s.conv := rfl
@[simp] theorem setOwnW_comp (r : Reg) (n : Nat) (v : Word) : (s.setOwnW r n v).comp = s.comp := rfl
@[simp] theorem setOwnW_pwm (r : Reg) (n : Nat) (v : Word) : (s.setOwnW r n v).pwm = s.pwm := rfl
@[simp] theorem setOwnW_slots (r : Reg) (n : Nat) (v : Word) : (s.setOwnW r n v).slots = s.slots := rfl
@[simp] theorem setOwnW_pgSub (r : Reg) (n : Nat) (v : Word) : (s.setOwnW r n v).pgSub = s.pgSub := rfl
@[simp] theorem setOwnW_engines (r : Reg) (n : Nat) (v : Word) : (s.setOwnW r n v).engines = s.engines := rfl
@[simp] theorem setOwnW_lemem (r : Reg) (n : Nat) (v : Word) : (s.setOwnW r n v).lemem = s.lemem := rfl
@[simp] theorem setOwnW_fabs (r : Reg) (n : Nat) (v : Word) : (s.setOwnW r n v).fabs = s.fabs := rfl
@[simp] theorem setOwnW_cfg (r : Reg) (n : Nat) (v : Word) : (s.setOwnW r n v).cfg = s.cfg := rfl
@[simp] theorem setOwnW_spoor (r : Reg) (n : Nat) (v : Word) : (s.setOwnW r n v).spoor = s.spoor := rfl
@[simp] theorem setOwnW_pmap (r : Reg) (n : Nat) (v : Word) : (s.setOwnW r n v).pmap = s.pmap := rfl
@[simp] theorem setOwnW_herd (r : Reg) (n : Nat) (v : Word) : (s.setOwnW r n v).herd = s.herd := rfl
@[simp] theorem setOwnW_host (r : Reg) (n : Nat) (v : Word) : (s.setOwnW r n v).host = s.host := rfl
@[simp] theorem setOwnW_img (r : Reg) (n : Nat) (v : Word) : (s.setOwnW r n v).img = s.img := rfl
@[simp] theorem setOwnW_otp (r : Reg) (n : Nat) (v : Word) : (s.setOwnW r n v).otp = s.otp := rfl
@[simp] theorem setOwnW_hold (r : Reg) (n : Nat) (v : Word) : (s.setOwnW r n v).hold = s.hold := rfl
@[simp] theorem setOwnW_stage (r : Reg) (n : Nat) (v : Word) : (s.setOwnW r n v).stage = s.stage := rfl
@[simp] theorem setOwnW_resp (r : Reg) (n : Nat) (v : Word) : (s.setOwnW r n v).resp = s.resp := rfl
@[simp] theorem setOwnW_out (r : Reg) (n : Nat) (v : Word) : (s.setOwnW r n v).out = s.out := rfl
@[simp] theorem setOwnW_freeCtr (r : Reg) (n : Nat) (v : Word) : (s.setOwnW r n v).freeCtr = s.freeCtr := rfl
@[simp] theorem setOwnW_pending (r : Reg) (n : Nat) (v : Word) : (s.setOwnW r n v).pending = s.pending := rfl

/-! ### State.setOwn changes sett -/

@[simp] theorem setOwn_regs (f : Fld) (n v : Nat) : (s.setOwn f n v).regs = s.regs := rfl
@[simp] theorem setOwn_hub (f : Fld) (n v : Nat) : (s.setOwn f n v).hub = s.hub := rfl
@[simp] theorem setOwn_rgn (f : Fld) (n v : Nat) : (s.setOwn f n v).rgn = s.rgn := rfl
@[simp] theorem setOwn_ana (f : Fld) (n v : Nat) : (s.setOwn f n v).ana = s.ana := rfl
@[simp] theorem setOwn_conv (f : Fld) (n v : Nat) : (s.setOwn f n v).conv = s.conv := rfl
@[simp] theorem setOwn_comp (f : Fld) (n v : Nat) : (s.setOwn f n v).comp = s.comp := rfl
@[simp] theorem setOwn_pwm (f : Fld) (n v : Nat) : (s.setOwn f n v).pwm = s.pwm := rfl
@[simp] theorem setOwn_slots (f : Fld) (n v : Nat) : (s.setOwn f n v).slots = s.slots := rfl
@[simp] theorem setOwn_pgSub (f : Fld) (n v : Nat) : (s.setOwn f n v).pgSub = s.pgSub := rfl
@[simp] theorem setOwn_engines (f : Fld) (n v : Nat) : (s.setOwn f n v).engines = s.engines := rfl
@[simp] theorem setOwn_lemem (f : Fld) (n v : Nat) : (s.setOwn f n v).lemem = s.lemem := rfl
@[simp] theorem setOwn_fabs (f : Fld) (n v : Nat) : (s.setOwn f n v).fabs = s.fabs := rfl
@[simp] theorem setOwn_cfg (f : Fld) (n v : Nat) : (s.setOwn f n v).cfg = s.cfg := rfl
@[simp] theorem setOwn_spoor (f : Fld) (n v : Nat) : (s.setOwn f n v).spoor = s.spoor := rfl
@[simp] theorem setOwn_pmap (f : Fld) (n v : Nat) : (s.setOwn f n v).pmap = s.pmap := rfl
@[simp] theorem setOwn_herd (f : Fld) (n v : Nat) : (s.setOwn f n v).herd = s.herd := rfl
@[simp] theorem setOwn_host (f : Fld) (n v : Nat) : (s.setOwn f n v).host = s.host := rfl
@[simp] theorem setOwn_img (f : Fld) (n v : Nat) : (s.setOwn f n v).img = s.img := rfl
@[simp] theorem setOwn_otp (f : Fld) (n v : Nat) : (s.setOwn f n v).otp = s.otp := rfl
@[simp] theorem setOwn_hold (f : Fld) (n v : Nat) : (s.setOwn f n v).hold = s.hold := rfl
@[simp] theorem setOwn_stage (f : Fld) (n v : Nat) : (s.setOwn f n v).stage = s.stage := rfl
@[simp] theorem setOwn_resp (f : Fld) (n v : Nat) : (s.setOwn f n v).resp = s.resp := rfl
@[simp] theorem setOwn_out (f : Fld) (n v : Nat) : (s.setOwn f n v).out = s.out := rfl
@[simp] theorem setOwn_freeCtr (f : Fld) (n v : Nat) : (s.setOwn f n v).freeCtr = s.freeCtr := rfl
@[simp] theorem setOwn_pending (f : Fld) (n v : Nat) : (s.setOwn f n v).pending = s.pending := rfl

/-! ### State.emit changes out -/

@[simp] theorem emit_regs (e : Emit) : (s.emit e).regs = s.regs := rfl
@[simp] theorem emit_hub (e : Emit) : (s.emit e).hub = s.hub := rfl
@[simp] theorem emit_rgn (e : Emit) : (s.emit e).rgn = s.rgn := rfl
@[simp] theorem emit_ana (e : Emit) : (s.emit e).ana = s.ana := rfl
@[simp] theorem emit_conv (e : Emit) : (s.emit e).conv = s.conv := rfl
@[simp] theorem emit_comp (e : Emit) : (s.emit e).comp = s.comp := rfl
@[simp] theorem emit_pwm (e : Emit) : (s.emit e).pwm = s.pwm := rfl
@[simp] theorem emit_slots (e : Emit) : (s.emit e).slots = s.slots := rfl
@[simp] theorem emit_pgSub (e : Emit) : (s.emit e).pgSub = s.pgSub := rfl
@[simp] theorem emit_engines (e : Emit) : (s.emit e).engines = s.engines := rfl
@[simp] theorem emit_lemem (e : Emit) : (s.emit e).lemem = s.lemem := rfl
@[simp] theorem emit_fabs (e : Emit) : (s.emit e).fabs = s.fabs := rfl
@[simp] theorem emit_cfg (e : Emit) : (s.emit e).cfg = s.cfg := rfl
@[simp] theorem emit_spoor (e : Emit) : (s.emit e).spoor = s.spoor := rfl
@[simp] theorem emit_pmap (e : Emit) : (s.emit e).pmap = s.pmap := rfl
@[simp] theorem emit_herd (e : Emit) : (s.emit e).herd = s.herd := rfl
@[simp] theorem emit_host (e : Emit) : (s.emit e).host = s.host := rfl
@[simp] theorem emit_sett (e : Emit) : (s.emit e).sett = s.sett := rfl
@[simp] theorem emit_img (e : Emit) : (s.emit e).img = s.img := rfl
@[simp] theorem emit_otp (e : Emit) : (s.emit e).otp = s.otp := rfl
@[simp] theorem emit_hold (e : Emit) : (s.emit e).hold = s.hold := rfl
@[simp] theorem emit_stage (e : Emit) : (s.emit e).stage = s.stage := rfl
@[simp] theorem emit_resp (e : Emit) : (s.emit e).resp = s.resp := rfl
@[simp] theorem emit_freeCtr (e : Emit) : (s.emit e).freeCtr = s.freeCtr := rfl
@[simp] theorem emit_pending (e : Emit) : (s.emit e).pending = s.pending := rfl

/-! ### State.emitAll changes out -/

@[simp] theorem emitAll_regs (l : List Emit) : (s.emitAll l).regs = s.regs := rfl
@[simp] theorem emitAll_hub (l : List Emit) : (s.emitAll l).hub = s.hub := rfl
@[simp] theorem emitAll_rgn (l : List Emit) : (s.emitAll l).rgn = s.rgn := rfl
@[simp] theorem emitAll_ana (l : List Emit) : (s.emitAll l).ana = s.ana := rfl
@[simp] theorem emitAll_conv (l : List Emit) : (s.emitAll l).conv = s.conv := rfl
@[simp] theorem emitAll_comp (l : List Emit) : (s.emitAll l).comp = s.comp := rfl
@[simp] theorem emitAll_pwm (l : List Emit) : (s.emitAll l).pwm = s.pwm := rfl
@[simp] theorem emitAll_slots (l : List Emit) : (s.emitAll l).slots = s.slots := rfl
@[simp] theorem emitAll_pgSub (l : List Emit) : (s.emitAll l).pgSub = s.pgSub := rfl
@[simp] theorem emitAll_engines (l : List Emit) : (s.emitAll l).engines = s.engines := rfl
@[simp] theorem emitAll_lemem (l : List Emit) : (s.emitAll l).lemem = s.lemem := rfl
@[simp] theorem emitAll_fabs (l : List Emit) : (s.emitAll l).fabs = s.fabs := rfl
@[simp] theorem emitAll_cfg (l : List Emit) : (s.emitAll l).cfg = s.cfg := rfl
@[simp] theorem emitAll_spoor (l : List Emit) : (s.emitAll l).spoor = s.spoor := rfl
@[simp] theorem emitAll_pmap (l : List Emit) : (s.emitAll l).pmap = s.pmap := rfl
@[simp] theorem emitAll_herd (l : List Emit) : (s.emitAll l).herd = s.herd := rfl
@[simp] theorem emitAll_host (l : List Emit) : (s.emitAll l).host = s.host := rfl
@[simp] theorem emitAll_sett (l : List Emit) : (s.emitAll l).sett = s.sett := rfl
@[simp] theorem emitAll_img (l : List Emit) : (s.emitAll l).img = s.img := rfl
@[simp] theorem emitAll_otp (l : List Emit) : (s.emitAll l).otp = s.otp := rfl
@[simp] theorem emitAll_hold (l : List Emit) : (s.emitAll l).hold = s.hold := rfl
@[simp] theorem emitAll_stage (l : List Emit) : (s.emitAll l).stage = s.stage := rfl
@[simp] theorem emitAll_resp (l : List Emit) : (s.emitAll l).resp = s.resp := rfl
@[simp] theorem emitAll_freeCtr (l : List Emit) : (s.emitAll l).freeCtr = s.freeCtr := rfl
@[simp] theorem emitAll_pending (l : List Emit) : (s.emitAll l).pending = s.pending := rfl

/-! ### State.answer changes resp -/

@[simp] theorem answer_regs (a : Reader) (v : DWord) : (s.answer a v).regs = s.regs := rfl
@[simp] theorem answer_hub (a : Reader) (v : DWord) : (s.answer a v).hub = s.hub := rfl
@[simp] theorem answer_rgn (a : Reader) (v : DWord) : (s.answer a v).rgn = s.rgn := rfl
@[simp] theorem answer_ana (a : Reader) (v : DWord) : (s.answer a v).ana = s.ana := rfl
@[simp] theorem answer_conv (a : Reader) (v : DWord) : (s.answer a v).conv = s.conv := rfl
@[simp] theorem answer_comp (a : Reader) (v : DWord) : (s.answer a v).comp = s.comp := rfl
@[simp] theorem answer_pwm (a : Reader) (v : DWord) : (s.answer a v).pwm = s.pwm := rfl
@[simp] theorem answer_slots (a : Reader) (v : DWord) : (s.answer a v).slots = s.slots := rfl
@[simp] theorem answer_pgSub (a : Reader) (v : DWord) : (s.answer a v).pgSub = s.pgSub := rfl
@[simp] theorem answer_engines (a : Reader) (v : DWord) : (s.answer a v).engines = s.engines := rfl
@[simp] theorem answer_lemem (a : Reader) (v : DWord) : (s.answer a v).lemem = s.lemem := rfl
@[simp] theorem answer_fabs (a : Reader) (v : DWord) : (s.answer a v).fabs = s.fabs := rfl
@[simp] theorem answer_cfg (a : Reader) (v : DWord) : (s.answer a v).cfg = s.cfg := rfl
@[simp] theorem answer_spoor (a : Reader) (v : DWord) : (s.answer a v).spoor = s.spoor := rfl
@[simp] theorem answer_pmap (a : Reader) (v : DWord) : (s.answer a v).pmap = s.pmap := rfl
@[simp] theorem answer_herd (a : Reader) (v : DWord) : (s.answer a v).herd = s.herd := rfl
@[simp] theorem answer_host (a : Reader) (v : DWord) : (s.answer a v).host = s.host := rfl
@[simp] theorem answer_sett (a : Reader) (v : DWord) : (s.answer a v).sett = s.sett := rfl
@[simp] theorem answer_img (a : Reader) (v : DWord) : (s.answer a v).img = s.img := rfl
@[simp] theorem answer_otp (a : Reader) (v : DWord) : (s.answer a v).otp = s.otp := rfl
@[simp] theorem answer_hold (a : Reader) (v : DWord) : (s.answer a v).hold = s.hold := rfl
@[simp] theorem answer_stage (a : Reader) (v : DWord) : (s.answer a v).stage = s.stage := rfl
@[simp] theorem answer_out (a : Reader) (v : DWord) : (s.answer a v).out = s.out := rfl
@[simp] theorem answer_freeCtr (a : Reader) (v : DWord) : (s.answer a v).freeCtr = s.freeCtr := rfl
@[simp] theorem answer_pending (a : Reader) (v : DWord) : (s.answer a v).pending = s.pending := rfl

/-! ### State.setRgn changes rgn -/

@[simp] theorem setRgn_regs (r : Nat) (x : RgnS) : (s.setRgn r x).regs = s.regs := rfl
@[simp] theorem setRgn_hub (r : Nat) (x : RgnS) : (s.setRgn r x).hub = s.hub := rfl
@[simp] theorem setRgn_ana (r : Nat) (x : RgnS) : (s.setRgn r x).ana = s.ana := rfl
@[simp] theorem setRgn_conv (r : Nat) (x : RgnS) : (s.setRgn r x).conv = s.conv := rfl
@[simp] theorem setRgn_comp (r : Nat) (x : RgnS) : (s.setRgn r x).comp = s.comp := rfl
@[simp] theorem setRgn_pwm (r : Nat) (x : RgnS) : (s.setRgn r x).pwm = s.pwm := rfl
@[simp] theorem setRgn_slots (r : Nat) (x : RgnS) : (s.setRgn r x).slots = s.slots := rfl
@[simp] theorem setRgn_pgSub (r : Nat) (x : RgnS) : (s.setRgn r x).pgSub = s.pgSub := rfl
@[simp] theorem setRgn_engines (r : Nat) (x : RgnS) : (s.setRgn r x).engines = s.engines := rfl
@[simp] theorem setRgn_lemem (r : Nat) (x : RgnS) : (s.setRgn r x).lemem = s.lemem := rfl
@[simp] theorem setRgn_fabs (r : Nat) (x : RgnS) : (s.setRgn r x).fabs = s.fabs := rfl
@[simp] theorem setRgn_cfg (r : Nat) (x : RgnS) : (s.setRgn r x).cfg = s.cfg := rfl
@[simp] theorem setRgn_spoor (r : Nat) (x : RgnS) : (s.setRgn r x).spoor = s.spoor := rfl
@[simp] theorem setRgn_pmap (r : Nat) (x : RgnS) : (s.setRgn r x).pmap = s.pmap := rfl
@[simp] theorem setRgn_herd (r : Nat) (x : RgnS) : (s.setRgn r x).herd = s.herd := rfl
@[simp] theorem setRgn_host (r : Nat) (x : RgnS) : (s.setRgn r x).host = s.host := rfl
@[simp] theorem setRgn_sett (r : Nat) (x : RgnS) : (s.setRgn r x).sett = s.sett := rfl
@[simp] theorem setRgn_img (r : Nat) (x : RgnS) : (s.setRgn r x).img = s.img := rfl
@[simp] theorem setRgn_otp (r : Nat) (x : RgnS) : (s.setRgn r x).otp = s.otp := rfl
@[simp] theorem setRgn_hold (r : Nat) (x : RgnS) : (s.setRgn r x).hold = s.hold := rfl
@[simp] theorem setRgn_stage (r : Nat) (x : RgnS) : (s.setRgn r x).stage = s.stage := rfl
@[simp] theorem setRgn_resp (r : Nat) (x : RgnS) : (s.setRgn r x).resp = s.resp := rfl
@[simp] theorem setRgn_out (r : Nat) (x : RgnS) : (s.setRgn r x).out = s.out := rfl
@[simp] theorem setRgn_freeCtr (r : Nat) (x : RgnS) : (s.setRgn r x).freeCtr = s.freeCtr := rfl
@[simp] theorem setRgn_pending (r : Nat) (x : RgnS) : (s.setRgn r x).pending = s.pending := rfl

/-! ### State.setClk changes regs -/

@[simp] theorem setClk_hub (r c : Nat) : (s.setClk r c).hub = s.hub := sf_hub s _ _ _ _
@[simp] theorem setClk_rgn (r c : Nat) : (s.setClk r c).rgn = s.rgn := sf_rgn s _ _ _ _
@[simp] theorem setClk_ana (r c : Nat) : (s.setClk r c).ana = s.ana := sf_ana s _ _ _ _
@[simp] theorem setClk_conv (r c : Nat) : (s.setClk r c).conv = s.conv := sf_conv s _ _ _ _
@[simp] theorem setClk_comp (r c : Nat) : (s.setClk r c).comp = s.comp := sf_comp s _ _ _ _
@[simp] theorem setClk_pwm (r c : Nat) : (s.setClk r c).pwm = s.pwm := sf_pwm s _ _ _ _
@[simp] theorem setClk_slots (r c : Nat) : (s.setClk r c).slots = s.slots := sf_slots s _ _ _ _
@[simp] theorem setClk_pgSub (r c : Nat) : (s.setClk r c).pgSub = s.pgSub := sf_pgSub s _ _ _ _
@[simp] theorem setClk_engines (r c : Nat) : (s.setClk r c).engines = s.engines := sf_engines s _ _ _ _
@[simp] theorem setClk_lemem (r c : Nat) : (s.setClk r c).lemem = s.lemem := sf_lemem s _ _ _ _
@[simp] theorem setClk_fabs (r c : Nat) : (s.setClk r c).fabs = s.fabs := sf_fabs s _ _ _ _
@[simp] theorem setClk_cfg (r c : Nat) : (s.setClk r c).cfg = s.cfg := sf_cfg s _ _ _ _
@[simp] theorem setClk_spoor (r c : Nat) : (s.setClk r c).spoor = s.spoor := sf_spoor s _ _ _ _
@[simp] theorem setClk_pmap (r c : Nat) : (s.setClk r c).pmap = s.pmap := sf_pmap s _ _ _ _
@[simp] theorem setClk_herd (r c : Nat) : (s.setClk r c).herd = s.herd := sf_herd s _ _ _ _
@[simp] theorem setClk_host (r c : Nat) : (s.setClk r c).host = s.host := sf_host s _ _ _ _
@[simp] theorem setClk_sett (r c : Nat) : (s.setClk r c).sett = s.sett := sf_sett s _ _ _ _
@[simp] theorem setClk_img (r c : Nat) : (s.setClk r c).img = s.img := sf_img s _ _ _ _
@[simp] theorem setClk_otp (r c : Nat) : (s.setClk r c).otp = s.otp := sf_otp s _ _ _ _
@[simp] theorem setClk_hold (r c : Nat) : (s.setClk r c).hold = s.hold := sf_hold s _ _ _ _
@[simp] theorem setClk_stage (r c : Nat) : (s.setClk r c).stage = s.stage := sf_stage s _ _ _ _
@[simp] theorem setClk_resp (r c : Nat) : (s.setClk r c).resp = s.resp := sf_resp s _ _ _ _
@[simp] theorem setClk_out (r c : Nat) : (s.setClk r c).out = s.out := sf_out s _ _ _ _
@[simp] theorem setClk_freeCtr (r c : Nat) : (s.setClk r c).freeCtr = s.freeCtr := sf_freeCtr s _ _ _ _
@[simp] theorem setClk_pending (r c : Nat) : (s.setClk r c).pending = s.pending := sf_pending s _ _ _ _

/-! ### State.hopPush changes spoor -/

@[simp] theorem hopPush_regs (h : Nat) (i : Item) : (s.hopPush h i).regs = s.regs := rfl
@[simp] theorem hopPush_hub (h : Nat) (i : Item) : (s.hopPush h i).hub = s.hub := rfl
@[simp] theorem hopPush_rgn (h : Nat) (i : Item) : (s.hopPush h i).rgn = s.rgn := rfl
@[simp] theorem hopPush_ana (h : Nat) (i : Item) : (s.hopPush h i).ana = s.ana := rfl
@[simp] theorem hopPush_conv (h : Nat) (i : Item) : (s.hopPush h i).conv = s.conv := rfl
@[simp] theorem hopPush_comp (h : Nat) (i : Item) : (s.hopPush h i).comp = s.comp := rfl
@[simp] theorem hopPush_pwm (h : Nat) (i : Item) : (s.hopPush h i).pwm = s.pwm := rfl
@[simp] theorem hopPush_slots (h : Nat) (i : Item) : (s.hopPush h i).slots = s.slots := rfl
@[simp] theorem hopPush_pgSub (h : Nat) (i : Item) : (s.hopPush h i).pgSub = s.pgSub := rfl
@[simp] theorem hopPush_engines (h : Nat) (i : Item) : (s.hopPush h i).engines = s.engines := rfl
@[simp] theorem hopPush_lemem (h : Nat) (i : Item) : (s.hopPush h i).lemem = s.lemem := rfl
@[simp] theorem hopPush_fabs (h : Nat) (i : Item) : (s.hopPush h i).fabs = s.fabs := rfl
@[simp] theorem hopPush_cfg (h : Nat) (i : Item) : (s.hopPush h i).cfg = s.cfg := rfl
@[simp] theorem hopPush_pmap (h : Nat) (i : Item) : (s.hopPush h i).pmap = s.pmap := rfl
@[simp] theorem hopPush_herd (h : Nat) (i : Item) : (s.hopPush h i).herd = s.herd := rfl
@[simp] theorem hopPush_host (h : Nat) (i : Item) : (s.hopPush h i).host = s.host := rfl
@[simp] theorem hopPush_sett (h : Nat) (i : Item) : (s.hopPush h i).sett = s.sett := rfl
@[simp] theorem hopPush_img (h : Nat) (i : Item) : (s.hopPush h i).img = s.img := rfl
@[simp] theorem hopPush_otp (h : Nat) (i : Item) : (s.hopPush h i).otp = s.otp := rfl
@[simp] theorem hopPush_hold (h : Nat) (i : Item) : (s.hopPush h i).hold = s.hold := rfl
@[simp] theorem hopPush_stage (h : Nat) (i : Item) : (s.hopPush h i).stage = s.stage := rfl
@[simp] theorem hopPush_resp (h : Nat) (i : Item) : (s.hopPush h i).resp = s.resp := rfl
@[simp] theorem hopPush_out (h : Nat) (i : Item) : (s.hopPush h i).out = s.out := rfl
@[simp] theorem hopPush_freeCtr (h : Nat) (i : Item) : (s.hopPush h i).freeCtr = s.freeCtr := rfl
@[simp] theorem hopPush_pending (h : Nat) (i : Item) : (s.hopPush h i).pending = s.pending := rfl

/-! ### State.setClu changes ana -/

@[simp] theorem setClu_regs (r k : Nat) (x : CluS) : (s.setClu r k x).regs = s.regs := rfl
@[simp] theorem setClu_hub (r k : Nat) (x : CluS) : (s.setClu r k x).hub = s.hub := rfl
@[simp] theorem setClu_rgn (r k : Nat) (x : CluS) : (s.setClu r k x).rgn = s.rgn := rfl
@[simp] theorem setClu_conv (r k : Nat) (x : CluS) : (s.setClu r k x).conv = s.conv := rfl
@[simp] theorem setClu_comp (r k : Nat) (x : CluS) : (s.setClu r k x).comp = s.comp := rfl
@[simp] theorem setClu_pwm (r k : Nat) (x : CluS) : (s.setClu r k x).pwm = s.pwm := rfl
@[simp] theorem setClu_slots (r k : Nat) (x : CluS) : (s.setClu r k x).slots = s.slots := rfl
@[simp] theorem setClu_pgSub (r k : Nat) (x : CluS) : (s.setClu r k x).pgSub = s.pgSub := rfl
@[simp] theorem setClu_engines (r k : Nat) (x : CluS) : (s.setClu r k x).engines = s.engines := rfl
@[simp] theorem setClu_lemem (r k : Nat) (x : CluS) : (s.setClu r k x).lemem = s.lemem := rfl
@[simp] theorem setClu_fabs (r k : Nat) (x : CluS) : (s.setClu r k x).fabs = s.fabs := rfl
@[simp] theorem setClu_cfg (r k : Nat) (x : CluS) : (s.setClu r k x).cfg = s.cfg := rfl
@[simp] theorem setClu_spoor (r k : Nat) (x : CluS) : (s.setClu r k x).spoor = s.spoor := rfl
@[simp] theorem setClu_pmap (r k : Nat) (x : CluS) : (s.setClu r k x).pmap = s.pmap := rfl
@[simp] theorem setClu_herd (r k : Nat) (x : CluS) : (s.setClu r k x).herd = s.herd := rfl
@[simp] theorem setClu_host (r k : Nat) (x : CluS) : (s.setClu r k x).host = s.host := rfl
@[simp] theorem setClu_sett (r k : Nat) (x : CluS) : (s.setClu r k x).sett = s.sett := rfl
@[simp] theorem setClu_img (r k : Nat) (x : CluS) : (s.setClu r k x).img = s.img := rfl
@[simp] theorem setClu_otp (r k : Nat) (x : CluS) : (s.setClu r k x).otp = s.otp := rfl
@[simp] theorem setClu_hold (r k : Nat) (x : CluS) : (s.setClu r k x).hold = s.hold := rfl
@[simp] theorem setClu_stage (r k : Nat) (x : CluS) : (s.setClu r k x).stage = s.stage := rfl
@[simp] theorem setClu_resp (r k : Nat) (x : CluS) : (s.setClu r k x).resp = s.resp := rfl
@[simp] theorem setClu_out (r k : Nat) (x : CluS) : (s.setClu r k x).out = s.out := rfl
@[simp] theorem setClu_freeCtr (r k : Nat) (x : CluS) : (s.setClu r k x).freeCtr = s.freeCtr := rfl
@[simp] theorem setClu_pending (r k : Nat) (x : CluS) : (s.setClu r k x).pending = s.pending := rfl

/-! ### State.setGrp changes conv -/

@[simp] theorem setGrp_regs (r g : Nat) (x : GrpS) : (s.setGrp r g x).regs = s.regs := rfl
@[simp] theorem setGrp_hub (r g : Nat) (x : GrpS) : (s.setGrp r g x).hub = s.hub := rfl
@[simp] theorem setGrp_rgn (r g : Nat) (x : GrpS) : (s.setGrp r g x).rgn = s.rgn := rfl
@[simp] theorem setGrp_ana (r g : Nat) (x : GrpS) : (s.setGrp r g x).ana = s.ana := rfl
@[simp] theorem setGrp_comp (r g : Nat) (x : GrpS) : (s.setGrp r g x).comp = s.comp := rfl
@[simp] theorem setGrp_pwm (r g : Nat) (x : GrpS) : (s.setGrp r g x).pwm = s.pwm := rfl
@[simp] theorem setGrp_slots (r g : Nat) (x : GrpS) : (s.setGrp r g x).slots = s.slots := rfl
@[simp] theorem setGrp_pgSub (r g : Nat) (x : GrpS) : (s.setGrp r g x).pgSub = s.pgSub := rfl
@[simp] theorem setGrp_engines (r g : Nat) (x : GrpS) : (s.setGrp r g x).engines = s.engines := rfl
@[simp] theorem setGrp_lemem (r g : Nat) (x : GrpS) : (s.setGrp r g x).lemem = s.lemem := rfl
@[simp] theorem setGrp_fabs (r g : Nat) (x : GrpS) : (s.setGrp r g x).fabs = s.fabs := rfl
@[simp] theorem setGrp_cfg (r g : Nat) (x : GrpS) : (s.setGrp r g x).cfg = s.cfg := rfl
@[simp] theorem setGrp_spoor (r g : Nat) (x : GrpS) : (s.setGrp r g x).spoor = s.spoor := rfl
@[simp] theorem setGrp_pmap (r g : Nat) (x : GrpS) : (s.setGrp r g x).pmap = s.pmap := rfl
@[simp] theorem setGrp_herd (r g : Nat) (x : GrpS) : (s.setGrp r g x).herd = s.herd := rfl
@[simp] theorem setGrp_host (r g : Nat) (x : GrpS) : (s.setGrp r g x).host = s.host := rfl
@[simp] theorem setGrp_sett (r g : Nat) (x : GrpS) : (s.setGrp r g x).sett = s.sett := rfl
@[simp] theorem setGrp_img (r g : Nat) (x : GrpS) : (s.setGrp r g x).img = s.img := rfl
@[simp] theorem setGrp_otp (r g : Nat) (x : GrpS) : (s.setGrp r g x).otp = s.otp := rfl
@[simp] theorem setGrp_hold (r g : Nat) (x : GrpS) : (s.setGrp r g x).hold = s.hold := rfl
@[simp] theorem setGrp_stage (r g : Nat) (x : GrpS) : (s.setGrp r g x).stage = s.stage := rfl
@[simp] theorem setGrp_resp (r g : Nat) (x : GrpS) : (s.setGrp r g x).resp = s.resp := rfl
@[simp] theorem setGrp_out (r g : Nat) (x : GrpS) : (s.setGrp r g x).out = s.out := rfl
@[simp] theorem setGrp_freeCtr (r g : Nat) (x : GrpS) : (s.setGrp r g x).freeCtr = s.freeCtr := rfl
@[simp] theorem setGrp_pending (r g : Nat) (x : GrpS) : (s.setGrp r g x).pending = s.pending := rfl

/-! ### State.setCmp changes comp -/

@[simp] theorem setCmp_regs (r k : Nat) (x : CmpS) : (s.setCmp r k x).regs = s.regs := rfl
@[simp] theorem setCmp_hub (r k : Nat) (x : CmpS) : (s.setCmp r k x).hub = s.hub := rfl
@[simp] theorem setCmp_rgn (r k : Nat) (x : CmpS) : (s.setCmp r k x).rgn = s.rgn := rfl
@[simp] theorem setCmp_ana (r k : Nat) (x : CmpS) : (s.setCmp r k x).ana = s.ana := rfl
@[simp] theorem setCmp_conv (r k : Nat) (x : CmpS) : (s.setCmp r k x).conv = s.conv := rfl
@[simp] theorem setCmp_pwm (r k : Nat) (x : CmpS) : (s.setCmp r k x).pwm = s.pwm := rfl
@[simp] theorem setCmp_slots (r k : Nat) (x : CmpS) : (s.setCmp r k x).slots = s.slots := rfl
@[simp] theorem setCmp_pgSub (r k : Nat) (x : CmpS) : (s.setCmp r k x).pgSub = s.pgSub := rfl
@[simp] theorem setCmp_engines (r k : Nat) (x : CmpS) : (s.setCmp r k x).engines = s.engines := rfl
@[simp] theorem setCmp_lemem (r k : Nat) (x : CmpS) : (s.setCmp r k x).lemem = s.lemem := rfl
@[simp] theorem setCmp_fabs (r k : Nat) (x : CmpS) : (s.setCmp r k x).fabs = s.fabs := rfl
@[simp] theorem setCmp_cfg (r k : Nat) (x : CmpS) : (s.setCmp r k x).cfg = s.cfg := rfl
@[simp] theorem setCmp_spoor (r k : Nat) (x : CmpS) : (s.setCmp r k x).spoor = s.spoor := rfl
@[simp] theorem setCmp_pmap (r k : Nat) (x : CmpS) : (s.setCmp r k x).pmap = s.pmap := rfl
@[simp] theorem setCmp_herd (r k : Nat) (x : CmpS) : (s.setCmp r k x).herd = s.herd := rfl
@[simp] theorem setCmp_host (r k : Nat) (x : CmpS) : (s.setCmp r k x).host = s.host := rfl
@[simp] theorem setCmp_sett (r k : Nat) (x : CmpS) : (s.setCmp r k x).sett = s.sett := rfl
@[simp] theorem setCmp_img (r k : Nat) (x : CmpS) : (s.setCmp r k x).img = s.img := rfl
@[simp] theorem setCmp_otp (r k : Nat) (x : CmpS) : (s.setCmp r k x).otp = s.otp := rfl
@[simp] theorem setCmp_hold (r k : Nat) (x : CmpS) : (s.setCmp r k x).hold = s.hold := rfl
@[simp] theorem setCmp_stage (r k : Nat) (x : CmpS) : (s.setCmp r k x).stage = s.stage := rfl
@[simp] theorem setCmp_resp (r k : Nat) (x : CmpS) : (s.setCmp r k x).resp = s.resp := rfl
@[simp] theorem setCmp_out (r k : Nat) (x : CmpS) : (s.setCmp r k x).out = s.out := rfl
@[simp] theorem setCmp_freeCtr (r k : Nat) (x : CmpS) : (s.setCmp r k x).freeCtr = s.freeCtr := rfl
@[simp] theorem setCmp_pending (r k : Nat) (x : CmpS) : (s.setCmp r k x).pending = s.pending := rfl

/-! ### State.setCh changes pwm -/

@[simp] theorem setCh_regs (r c : Nat) (x : ChS) : (s.setCh r c x).regs = s.regs := rfl
@[simp] theorem setCh_hub (r c : Nat) (x : ChS) : (s.setCh r c x).hub = s.hub := rfl
@[simp] theorem setCh_rgn (r c : Nat) (x : ChS) : (s.setCh r c x).rgn = s.rgn := rfl
@[simp] theorem setCh_ana (r c : Nat) (x : ChS) : (s.setCh r c x).ana = s.ana := rfl
@[simp] theorem setCh_conv (r c : Nat) (x : ChS) : (s.setCh r c x).conv = s.conv := rfl
@[simp] theorem setCh_comp (r c : Nat) (x : ChS) : (s.setCh r c x).comp = s.comp := rfl
@[simp] theorem setCh_slots (r c : Nat) (x : ChS) : (s.setCh r c x).slots = s.slots := rfl
@[simp] theorem setCh_pgSub (r c : Nat) (x : ChS) : (s.setCh r c x).pgSub = s.pgSub := rfl
@[simp] theorem setCh_engines (r c : Nat) (x : ChS) : (s.setCh r c x).engines = s.engines := rfl
@[simp] theorem setCh_lemem (r c : Nat) (x : ChS) : (s.setCh r c x).lemem = s.lemem := rfl
@[simp] theorem setCh_fabs (r c : Nat) (x : ChS) : (s.setCh r c x).fabs = s.fabs := rfl
@[simp] theorem setCh_cfg (r c : Nat) (x : ChS) : (s.setCh r c x).cfg = s.cfg := rfl
@[simp] theorem setCh_spoor (r c : Nat) (x : ChS) : (s.setCh r c x).spoor = s.spoor := rfl
@[simp] theorem setCh_pmap (r c : Nat) (x : ChS) : (s.setCh r c x).pmap = s.pmap := rfl
@[simp] theorem setCh_herd (r c : Nat) (x : ChS) : (s.setCh r c x).herd = s.herd := rfl
@[simp] theorem setCh_host (r c : Nat) (x : ChS) : (s.setCh r c x).host = s.host := rfl
@[simp] theorem setCh_sett (r c : Nat) (x : ChS) : (s.setCh r c x).sett = s.sett := rfl
@[simp] theorem setCh_img (r c : Nat) (x : ChS) : (s.setCh r c x).img = s.img := rfl
@[simp] theorem setCh_otp (r c : Nat) (x : ChS) : (s.setCh r c x).otp = s.otp := rfl
@[simp] theorem setCh_hold (r c : Nat) (x : ChS) : (s.setCh r c x).hold = s.hold := rfl
@[simp] theorem setCh_stage (r c : Nat) (x : ChS) : (s.setCh r c x).stage = s.stage := rfl
@[simp] theorem setCh_resp (r c : Nat) (x : ChS) : (s.setCh r c x).resp = s.resp := rfl
@[simp] theorem setCh_out (r c : Nat) (x : ChS) : (s.setCh r c x).out = s.out := rfl
@[simp] theorem setCh_freeCtr (r c : Nat) (x : ChS) : (s.setCh r c x).freeCtr = s.freeCtr := rfl
@[simp] theorem setCh_pending (r c : Nat) (x : ChS) : (s.setCh r c x).pending = s.pending := rfl

/-! ### State.setSlot changes slots -/

@[simp] theorem setSlot_regs (r g : Nat) (x : SlotS) : (s.setSlot r g x).regs = s.regs := rfl
@[simp] theorem setSlot_hub (r g : Nat) (x : SlotS) : (s.setSlot r g x).hub = s.hub := rfl
@[simp] theorem setSlot_rgn (r g : Nat) (x : SlotS) : (s.setSlot r g x).rgn = s.rgn := rfl
@[simp] theorem setSlot_ana (r g : Nat) (x : SlotS) : (s.setSlot r g x).ana = s.ana := rfl
@[simp] theorem setSlot_conv (r g : Nat) (x : SlotS) : (s.setSlot r g x).conv = s.conv := rfl
@[simp] theorem setSlot_comp (r g : Nat) (x : SlotS) : (s.setSlot r g x).comp = s.comp := rfl
@[simp] theorem setSlot_pwm (r g : Nat) (x : SlotS) : (s.setSlot r g x).pwm = s.pwm := rfl
@[simp] theorem setSlot_pgSub (r g : Nat) (x : SlotS) : (s.setSlot r g x).pgSub = s.pgSub := rfl
@[simp] theorem setSlot_engines (r g : Nat) (x : SlotS) : (s.setSlot r g x).engines = s.engines := rfl
@[simp] theorem setSlot_lemem (r g : Nat) (x : SlotS) : (s.setSlot r g x).lemem = s.lemem := rfl
@[simp] theorem setSlot_fabs (r g : Nat) (x : SlotS) : (s.setSlot r g x).fabs = s.fabs := rfl
@[simp] theorem setSlot_cfg (r g : Nat) (x : SlotS) : (s.setSlot r g x).cfg = s.cfg := rfl
@[simp] theorem setSlot_spoor (r g : Nat) (x : SlotS) : (s.setSlot r g x).spoor = s.spoor := rfl
@[simp] theorem setSlot_pmap (r g : Nat) (x : SlotS) : (s.setSlot r g x).pmap = s.pmap := rfl
@[simp] theorem setSlot_herd (r g : Nat) (x : SlotS) : (s.setSlot r g x).herd = s.herd := rfl
@[simp] theorem setSlot_host (r g : Nat) (x : SlotS) : (s.setSlot r g x).host = s.host := rfl
@[simp] theorem setSlot_sett (r g : Nat) (x : SlotS) : (s.setSlot r g x).sett = s.sett := rfl
@[simp] theorem setSlot_img (r g : Nat) (x : SlotS) : (s.setSlot r g x).img = s.img := rfl
@[simp] theorem setSlot_otp (r g : Nat) (x : SlotS) : (s.setSlot r g x).otp = s.otp := rfl
@[simp] theorem setSlot_hold (r g : Nat) (x : SlotS) : (s.setSlot r g x).hold = s.hold := rfl
@[simp] theorem setSlot_stage (r g : Nat) (x : SlotS) : (s.setSlot r g x).stage = s.stage := rfl
@[simp] theorem setSlot_resp (r g : Nat) (x : SlotS) : (s.setSlot r g x).resp = s.resp := rfl
@[simp] theorem setSlot_out (r g : Nat) (x : SlotS) : (s.setSlot r g x).out = s.out := rfl
@[simp] theorem setSlot_freeCtr (r g : Nat) (x : SlotS) : (s.setSlot r g x).freeCtr = s.freeCtr := rfl
@[simp] theorem setSlot_pending (r g : Nat) (x : SlotS) : (s.setSlot r g x).pending = s.pending := rfl

/-! ### State.setEng changes engines -/

@[simp] theorem setEng_regs (r : Nat) (x : EngS) : (s.setEng r x).regs = s.regs := rfl
@[simp] theorem setEng_hub (r : Nat) (x : EngS) : (s.setEng r x).hub = s.hub := rfl
@[simp] theorem setEng_rgn (r : Nat) (x : EngS) : (s.setEng r x).rgn = s.rgn := rfl
@[simp] theorem setEng_ana (r : Nat) (x : EngS) : (s.setEng r x).ana = s.ana := rfl
@[simp] theorem setEng_conv (r : Nat) (x : EngS) : (s.setEng r x).conv = s.conv := rfl
@[simp] theorem setEng_comp (r : Nat) (x : EngS) : (s.setEng r x).comp = s.comp := rfl
@[simp] theorem setEng_pwm (r : Nat) (x : EngS) : (s.setEng r x).pwm = s.pwm := rfl
@[simp] theorem setEng_slots (r : Nat) (x : EngS) : (s.setEng r x).slots = s.slots := rfl
@[simp] theorem setEng_pgSub (r : Nat) (x : EngS) : (s.setEng r x).pgSub = s.pgSub := rfl
@[simp] theorem setEng_lemem (r : Nat) (x : EngS) : (s.setEng r x).lemem = s.lemem := rfl
@[simp] theorem setEng_fabs (r : Nat) (x : EngS) : (s.setEng r x).fabs = s.fabs := rfl
@[simp] theorem setEng_cfg (r : Nat) (x : EngS) : (s.setEng r x).cfg = s.cfg := rfl
@[simp] theorem setEng_spoor (r : Nat) (x : EngS) : (s.setEng r x).spoor = s.spoor := rfl
@[simp] theorem setEng_pmap (r : Nat) (x : EngS) : (s.setEng r x).pmap = s.pmap := rfl
@[simp] theorem setEng_herd (r : Nat) (x : EngS) : (s.setEng r x).herd = s.herd := rfl
@[simp] theorem setEng_host (r : Nat) (x : EngS) : (s.setEng r x).host = s.host := rfl
@[simp] theorem setEng_sett (r : Nat) (x : EngS) : (s.setEng r x).sett = s.sett := rfl
@[simp] theorem setEng_img (r : Nat) (x : EngS) : (s.setEng r x).img = s.img := rfl
@[simp] theorem setEng_otp (r : Nat) (x : EngS) : (s.setEng r x).otp = s.otp := rfl
@[simp] theorem setEng_hold (r : Nat) (x : EngS) : (s.setEng r x).hold = s.hold := rfl
@[simp] theorem setEng_stage (r : Nat) (x : EngS) : (s.setEng r x).stage = s.stage := rfl
@[simp] theorem setEng_resp (r : Nat) (x : EngS) : (s.setEng r x).resp = s.resp := rfl
@[simp] theorem setEng_out (r : Nat) (x : EngS) : (s.setEng r x).out = s.out := rfl
@[simp] theorem setEng_freeCtr (r : Nat) (x : EngS) : (s.setEng r x).freeCtr = s.freeCtr := rfl
@[simp] theorem setEng_pending (r : Nat) (x : EngS) : (s.setEng r x).pending = s.pending := rfl

/-! ### State.setFab changes fabs -/

@[simp] theorem setFab_regs (r : Nat) (x : FabS) : (s.setFab r x).regs = s.regs := rfl
@[simp] theorem setFab_hub (r : Nat) (x : FabS) : (s.setFab r x).hub = s.hub := rfl
@[simp] theorem setFab_rgn (r : Nat) (x : FabS) : (s.setFab r x).rgn = s.rgn := rfl
@[simp] theorem setFab_ana (r : Nat) (x : FabS) : (s.setFab r x).ana = s.ana := rfl
@[simp] theorem setFab_conv (r : Nat) (x : FabS) : (s.setFab r x).conv = s.conv := rfl
@[simp] theorem setFab_comp (r : Nat) (x : FabS) : (s.setFab r x).comp = s.comp := rfl
@[simp] theorem setFab_pwm (r : Nat) (x : FabS) : (s.setFab r x).pwm = s.pwm := rfl
@[simp] theorem setFab_slots (r : Nat) (x : FabS) : (s.setFab r x).slots = s.slots := rfl
@[simp] theorem setFab_pgSub (r : Nat) (x : FabS) : (s.setFab r x).pgSub = s.pgSub := rfl
@[simp] theorem setFab_engines (r : Nat) (x : FabS) : (s.setFab r x).engines = s.engines := rfl
@[simp] theorem setFab_lemem (r : Nat) (x : FabS) : (s.setFab r x).lemem = s.lemem := rfl
@[simp] theorem setFab_cfg (r : Nat) (x : FabS) : (s.setFab r x).cfg = s.cfg := rfl
@[simp] theorem setFab_spoor (r : Nat) (x : FabS) : (s.setFab r x).spoor = s.spoor := rfl
@[simp] theorem setFab_pmap (r : Nat) (x : FabS) : (s.setFab r x).pmap = s.pmap := rfl
@[simp] theorem setFab_herd (r : Nat) (x : FabS) : (s.setFab r x).herd = s.herd := rfl
@[simp] theorem setFab_host (r : Nat) (x : FabS) : (s.setFab r x).host = s.host := rfl
@[simp] theorem setFab_sett (r : Nat) (x : FabS) : (s.setFab r x).sett = s.sett := rfl
@[simp] theorem setFab_img (r : Nat) (x : FabS) : (s.setFab r x).img = s.img := rfl
@[simp] theorem setFab_otp (r : Nat) (x : FabS) : (s.setFab r x).otp = s.otp := rfl
@[simp] theorem setFab_hold (r : Nat) (x : FabS) : (s.setFab r x).hold = s.hold := rfl
@[simp] theorem setFab_stage (r : Nat) (x : FabS) : (s.setFab r x).stage = s.stage := rfl
@[simp] theorem setFab_resp (r : Nat) (x : FabS) : (s.setFab r x).resp = s.resp := rfl
@[simp] theorem setFab_out (r : Nat) (x : FabS) : (s.setFab r x).out = s.out := rfl
@[simp] theorem setFab_freeCtr (r : Nat) (x : FabS) : (s.setFab r x).freeCtr = s.freeCtr := rfl
@[simp] theorem setFab_pending (r : Nat) (x : FabS) : (s.setFab r x).pending = s.pending := rfl

/-! ### State.setQc changes fabs -/

@[simp] theorem setQc_regs (r q : Nat) (x : QcS) : (s.setQc r q x).regs = s.regs := rfl
@[simp] theorem setQc_hub (r q : Nat) (x : QcS) : (s.setQc r q x).hub = s.hub := rfl
@[simp] theorem setQc_rgn (r q : Nat) (x : QcS) : (s.setQc r q x).rgn = s.rgn := rfl
@[simp] theorem setQc_ana (r q : Nat) (x : QcS) : (s.setQc r q x).ana = s.ana := rfl
@[simp] theorem setQc_conv (r q : Nat) (x : QcS) : (s.setQc r q x).conv = s.conv := rfl
@[simp] theorem setQc_comp (r q : Nat) (x : QcS) : (s.setQc r q x).comp = s.comp := rfl
@[simp] theorem setQc_pwm (r q : Nat) (x : QcS) : (s.setQc r q x).pwm = s.pwm := rfl
@[simp] theorem setQc_slots (r q : Nat) (x : QcS) : (s.setQc r q x).slots = s.slots := rfl
@[simp] theorem setQc_pgSub (r q : Nat) (x : QcS) : (s.setQc r q x).pgSub = s.pgSub := rfl
@[simp] theorem setQc_engines (r q : Nat) (x : QcS) : (s.setQc r q x).engines = s.engines := rfl
@[simp] theorem setQc_lemem (r q : Nat) (x : QcS) : (s.setQc r q x).lemem = s.lemem := rfl
@[simp] theorem setQc_cfg (r q : Nat) (x : QcS) : (s.setQc r q x).cfg = s.cfg := rfl
@[simp] theorem setQc_spoor (r q : Nat) (x : QcS) : (s.setQc r q x).spoor = s.spoor := rfl
@[simp] theorem setQc_pmap (r q : Nat) (x : QcS) : (s.setQc r q x).pmap = s.pmap := rfl
@[simp] theorem setQc_herd (r q : Nat) (x : QcS) : (s.setQc r q x).herd = s.herd := rfl
@[simp] theorem setQc_host (r q : Nat) (x : QcS) : (s.setQc r q x).host = s.host := rfl
@[simp] theorem setQc_sett (r q : Nat) (x : QcS) : (s.setQc r q x).sett = s.sett := rfl
@[simp] theorem setQc_img (r q : Nat) (x : QcS) : (s.setQc r q x).img = s.img := rfl
@[simp] theorem setQc_otp (r q : Nat) (x : QcS) : (s.setQc r q x).otp = s.otp := rfl
@[simp] theorem setQc_hold (r q : Nat) (x : QcS) : (s.setQc r q x).hold = s.hold := rfl
@[simp] theorem setQc_stage (r q : Nat) (x : QcS) : (s.setQc r q x).stage = s.stage := rfl
@[simp] theorem setQc_resp (r q : Nat) (x : QcS) : (s.setQc r q x).resp = s.resp := rfl
@[simp] theorem setQc_out (r q : Nat) (x : QcS) : (s.setQc r q x).out = s.out := rfl
@[simp] theorem setQc_freeCtr (r q : Nat) (x : QcS) : (s.setQc r q x).freeCtr = s.freeCtr := rfl
@[simp] theorem setQc_pending (r q : Nat) (x : QcS) : (s.setQc r q x).pending = s.pending := rfl

/-! ### State.setCfg changes cfg -/

@[simp] theorem setCfg_regs (x : CfgS) : (s.setCfg x).regs = s.regs := rfl
@[simp] theorem setCfg_hub (x : CfgS) : (s.setCfg x).hub = s.hub := rfl
@[simp] theorem setCfg_rgn (x : CfgS) : (s.setCfg x).rgn = s.rgn := rfl
@[simp] theorem setCfg_ana (x : CfgS) : (s.setCfg x).ana = s.ana := rfl
@[simp] theorem setCfg_conv (x : CfgS) : (s.setCfg x).conv = s.conv := rfl
@[simp] theorem setCfg_comp (x : CfgS) : (s.setCfg x).comp = s.comp := rfl
@[simp] theorem setCfg_pwm (x : CfgS) : (s.setCfg x).pwm = s.pwm := rfl
@[simp] theorem setCfg_slots (x : CfgS) : (s.setCfg x).slots = s.slots := rfl
@[simp] theorem setCfg_pgSub (x : CfgS) : (s.setCfg x).pgSub = s.pgSub := rfl
@[simp] theorem setCfg_engines (x : CfgS) : (s.setCfg x).engines = s.engines := rfl
@[simp] theorem setCfg_lemem (x : CfgS) : (s.setCfg x).lemem = s.lemem := rfl
@[simp] theorem setCfg_fabs (x : CfgS) : (s.setCfg x).fabs = s.fabs := rfl
@[simp] theorem setCfg_spoor (x : CfgS) : (s.setCfg x).spoor = s.spoor := rfl
@[simp] theorem setCfg_pmap (x : CfgS) : (s.setCfg x).pmap = s.pmap := rfl
@[simp] theorem setCfg_herd (x : CfgS) : (s.setCfg x).herd = s.herd := rfl
@[simp] theorem setCfg_host (x : CfgS) : (s.setCfg x).host = s.host := rfl
@[simp] theorem setCfg_sett (x : CfgS) : (s.setCfg x).sett = s.sett := rfl
@[simp] theorem setCfg_img (x : CfgS) : (s.setCfg x).img = s.img := rfl
@[simp] theorem setCfg_otp (x : CfgS) : (s.setCfg x).otp = s.otp := rfl
@[simp] theorem setCfg_hold (x : CfgS) : (s.setCfg x).hold = s.hold := rfl
@[simp] theorem setCfg_stage (x : CfgS) : (s.setCfg x).stage = s.stage := rfl
@[simp] theorem setCfg_resp (x : CfgS) : (s.setCfg x).resp = s.resp := rfl
@[simp] theorem setCfg_out (x : CfgS) : (s.setCfg x).out = s.out := rfl
@[simp] theorem setCfg_freeCtr (x : CfgS) : (s.setCfg x).freeCtr = s.freeCtr := rfl
@[simp] theorem setCfg_pending (x : CfgS) : (s.setCfg x).pending = s.pending := rfl

/-! ### State.setFlow changes spoor -/

@[simp] theorem setFlow_regs (f : Nat) (x : FlowS) : (s.setFlow f x).regs = s.regs := rfl
@[simp] theorem setFlow_hub (f : Nat) (x : FlowS) : (s.setFlow f x).hub = s.hub := rfl
@[simp] theorem setFlow_rgn (f : Nat) (x : FlowS) : (s.setFlow f x).rgn = s.rgn := rfl
@[simp] theorem setFlow_ana (f : Nat) (x : FlowS) : (s.setFlow f x).ana = s.ana := rfl
@[simp] theorem setFlow_conv (f : Nat) (x : FlowS) : (s.setFlow f x).conv = s.conv := rfl
@[simp] theorem setFlow_comp (f : Nat) (x : FlowS) : (s.setFlow f x).comp = s.comp := rfl
@[simp] theorem setFlow_pwm (f : Nat) (x : FlowS) : (s.setFlow f x).pwm = s.pwm := rfl
@[simp] theorem setFlow_slots (f : Nat) (x : FlowS) : (s.setFlow f x).slots = s.slots := rfl
@[simp] theorem setFlow_pgSub (f : Nat) (x : FlowS) : (s.setFlow f x).pgSub = s.pgSub := rfl
@[simp] theorem setFlow_engines (f : Nat) (x : FlowS) : (s.setFlow f x).engines = s.engines := rfl
@[simp] theorem setFlow_lemem (f : Nat) (x : FlowS) : (s.setFlow f x).lemem = s.lemem := rfl
@[simp] theorem setFlow_fabs (f : Nat) (x : FlowS) : (s.setFlow f x).fabs = s.fabs := rfl
@[simp] theorem setFlow_cfg (f : Nat) (x : FlowS) : (s.setFlow f x).cfg = s.cfg := rfl
@[simp] theorem setFlow_pmap (f : Nat) (x : FlowS) : (s.setFlow f x).pmap = s.pmap := rfl
@[simp] theorem setFlow_herd (f : Nat) (x : FlowS) : (s.setFlow f x).herd = s.herd := rfl
@[simp] theorem setFlow_host (f : Nat) (x : FlowS) : (s.setFlow f x).host = s.host := rfl
@[simp] theorem setFlow_sett (f : Nat) (x : FlowS) : (s.setFlow f x).sett = s.sett := rfl
@[simp] theorem setFlow_img (f : Nat) (x : FlowS) : (s.setFlow f x).img = s.img := rfl
@[simp] theorem setFlow_otp (f : Nat) (x : FlowS) : (s.setFlow f x).otp = s.otp := rfl
@[simp] theorem setFlow_hold (f : Nat) (x : FlowS) : (s.setFlow f x).hold = s.hold := rfl
@[simp] theorem setFlow_stage (f : Nat) (x : FlowS) : (s.setFlow f x).stage = s.stage := rfl
@[simp] theorem setFlow_resp (f : Nat) (x : FlowS) : (s.setFlow f x).resp = s.resp := rfl
@[simp] theorem setFlow_out (f : Nat) (x : FlowS) : (s.setFlow f x).out = s.out := rfl
@[simp] theorem setFlow_freeCtr (f : Nat) (x : FlowS) : (s.setFlow f x).freeCtr = s.freeCtr := rfl
@[simp] theorem setFlow_pending (f : Nat) (x : FlowS) : (s.setFlow f x).pending = s.pending := rfl

/-! ### State.setPost changes pmap -/

@[simp] theorem setPost_regs (f : Nat) (x : PostS) : (s.setPost f x).regs = s.regs := rfl
@[simp] theorem setPost_hub (f : Nat) (x : PostS) : (s.setPost f x).hub = s.hub := rfl
@[simp] theorem setPost_rgn (f : Nat) (x : PostS) : (s.setPost f x).rgn = s.rgn := rfl
@[simp] theorem setPost_ana (f : Nat) (x : PostS) : (s.setPost f x).ana = s.ana := rfl
@[simp] theorem setPost_conv (f : Nat) (x : PostS) : (s.setPost f x).conv = s.conv := rfl
@[simp] theorem setPost_comp (f : Nat) (x : PostS) : (s.setPost f x).comp = s.comp := rfl
@[simp] theorem setPost_pwm (f : Nat) (x : PostS) : (s.setPost f x).pwm = s.pwm := rfl
@[simp] theorem setPost_slots (f : Nat) (x : PostS) : (s.setPost f x).slots = s.slots := rfl
@[simp] theorem setPost_pgSub (f : Nat) (x : PostS) : (s.setPost f x).pgSub = s.pgSub := rfl
@[simp] theorem setPost_engines (f : Nat) (x : PostS) : (s.setPost f x).engines = s.engines := rfl
@[simp] theorem setPost_lemem (f : Nat) (x : PostS) : (s.setPost f x).lemem = s.lemem := rfl
@[simp] theorem setPost_fabs (f : Nat) (x : PostS) : (s.setPost f x).fabs = s.fabs := rfl
@[simp] theorem setPost_cfg (f : Nat) (x : PostS) : (s.setPost f x).cfg = s.cfg := rfl
@[simp] theorem setPost_spoor (f : Nat) (x : PostS) : (s.setPost f x).spoor = s.spoor := rfl
@[simp] theorem setPost_herd (f : Nat) (x : PostS) : (s.setPost f x).herd = s.herd := rfl
@[simp] theorem setPost_host (f : Nat) (x : PostS) : (s.setPost f x).host = s.host := rfl
@[simp] theorem setPost_sett (f : Nat) (x : PostS) : (s.setPost f x).sett = s.sett := rfl
@[simp] theorem setPost_img (f : Nat) (x : PostS) : (s.setPost f x).img = s.img := rfl
@[simp] theorem setPost_otp (f : Nat) (x : PostS) : (s.setPost f x).otp = s.otp := rfl
@[simp] theorem setPost_hold (f : Nat) (x : PostS) : (s.setPost f x).hold = s.hold := rfl
@[simp] theorem setPost_stage (f : Nat) (x : PostS) : (s.setPost f x).stage = s.stage := rfl
@[simp] theorem setPost_resp (f : Nat) (x : PostS) : (s.setPost f x).resp = s.resp := rfl
@[simp] theorem setPost_out (f : Nat) (x : PostS) : (s.setPost f x).out = s.out := rfl
@[simp] theorem setPost_freeCtr (f : Nat) (x : PostS) : (s.setPost f x).freeCtr = s.freeCtr := rfl
@[simp] theorem setPost_pending (f : Nat) (x : PostS) : (s.setPost f x).pending = s.pending := rfl

/-! ### State.setHost changes host -/

@[simp] theorem setHost_regs (p : Nat) (x : HPort) : (s.setHost p x).regs = s.regs := rfl
@[simp] theorem setHost_hub (p : Nat) (x : HPort) : (s.setHost p x).hub = s.hub := rfl
@[simp] theorem setHost_rgn (p : Nat) (x : HPort) : (s.setHost p x).rgn = s.rgn := rfl
@[simp] theorem setHost_ana (p : Nat) (x : HPort) : (s.setHost p x).ana = s.ana := rfl
@[simp] theorem setHost_conv (p : Nat) (x : HPort) : (s.setHost p x).conv = s.conv := rfl
@[simp] theorem setHost_comp (p : Nat) (x : HPort) : (s.setHost p x).comp = s.comp := rfl
@[simp] theorem setHost_pwm (p : Nat) (x : HPort) : (s.setHost p x).pwm = s.pwm := rfl
@[simp] theorem setHost_slots (p : Nat) (x : HPort) : (s.setHost p x).slots = s.slots := rfl
@[simp] theorem setHost_pgSub (p : Nat) (x : HPort) : (s.setHost p x).pgSub = s.pgSub := rfl
@[simp] theorem setHost_engines (p : Nat) (x : HPort) : (s.setHost p x).engines = s.engines := rfl
@[simp] theorem setHost_lemem (p : Nat) (x : HPort) : (s.setHost p x).lemem = s.lemem := rfl
@[simp] theorem setHost_fabs (p : Nat) (x : HPort) : (s.setHost p x).fabs = s.fabs := rfl
@[simp] theorem setHost_cfg (p : Nat) (x : HPort) : (s.setHost p x).cfg = s.cfg := rfl
@[simp] theorem setHost_spoor (p : Nat) (x : HPort) : (s.setHost p x).spoor = s.spoor := rfl
@[simp] theorem setHost_pmap (p : Nat) (x : HPort) : (s.setHost p x).pmap = s.pmap := rfl
@[simp] theorem setHost_herd (p : Nat) (x : HPort) : (s.setHost p x).herd = s.herd := rfl
@[simp] theorem setHost_sett (p : Nat) (x : HPort) : (s.setHost p x).sett = s.sett := rfl
@[simp] theorem setHost_img (p : Nat) (x : HPort) : (s.setHost p x).img = s.img := rfl
@[simp] theorem setHost_otp (p : Nat) (x : HPort) : (s.setHost p x).otp = s.otp := rfl
@[simp] theorem setHost_hold (p : Nat) (x : HPort) : (s.setHost p x).hold = s.hold := rfl
@[simp] theorem setHost_stage (p : Nat) (x : HPort) : (s.setHost p x).stage = s.stage := rfl
@[simp] theorem setHost_resp (p : Nat) (x : HPort) : (s.setHost p x).resp = s.resp := rfl
@[simp] theorem setHost_out (p : Nat) (x : HPort) : (s.setHost p x).out = s.out := rfl
@[simp] theorem setHost_freeCtr (p : Nat) (x : HPort) : (s.setHost p x).freeCtr = s.freeCtr := rfl
@[simp] theorem setHost_pending (p : Nat) (x : HPort) : (s.setHost p x).pending = s.pending := rfl

/-! ### State.setSb changes host -/

@[simp] theorem setSb_regs (x : SbS) : (s.setSb x).regs = s.regs := rfl
@[simp] theorem setSb_hub (x : SbS) : (s.setSb x).hub = s.hub := rfl
@[simp] theorem setSb_rgn (x : SbS) : (s.setSb x).rgn = s.rgn := rfl
@[simp] theorem setSb_ana (x : SbS) : (s.setSb x).ana = s.ana := rfl
@[simp] theorem setSb_conv (x : SbS) : (s.setSb x).conv = s.conv := rfl
@[simp] theorem setSb_comp (x : SbS) : (s.setSb x).comp = s.comp := rfl
@[simp] theorem setSb_pwm (x : SbS) : (s.setSb x).pwm = s.pwm := rfl
@[simp] theorem setSb_slots (x : SbS) : (s.setSb x).slots = s.slots := rfl
@[simp] theorem setSb_pgSub (x : SbS) : (s.setSb x).pgSub = s.pgSub := rfl
@[simp] theorem setSb_engines (x : SbS) : (s.setSb x).engines = s.engines := rfl
@[simp] theorem setSb_lemem (x : SbS) : (s.setSb x).lemem = s.lemem := rfl
@[simp] theorem setSb_fabs (x : SbS) : (s.setSb x).fabs = s.fabs := rfl
@[simp] theorem setSb_cfg (x : SbS) : (s.setSb x).cfg = s.cfg := rfl
@[simp] theorem setSb_spoor (x : SbS) : (s.setSb x).spoor = s.spoor := rfl
@[simp] theorem setSb_pmap (x : SbS) : (s.setSb x).pmap = s.pmap := rfl
@[simp] theorem setSb_herd (x : SbS) : (s.setSb x).herd = s.herd := rfl
@[simp] theorem setSb_sett (x : SbS) : (s.setSb x).sett = s.sett := rfl
@[simp] theorem setSb_img (x : SbS) : (s.setSb x).img = s.img := rfl
@[simp] theorem setSb_otp (x : SbS) : (s.setSb x).otp = s.otp := rfl
@[simp] theorem setSb_hold (x : SbS) : (s.setSb x).hold = s.hold := rfl
@[simp] theorem setSb_stage (x : SbS) : (s.setSb x).stage = s.stage := rfl
@[simp] theorem setSb_resp (x : SbS) : (s.setSb x).resp = s.resp := rfl
@[simp] theorem setSb_out (x : SbS) : (s.setSb x).out = s.out := rfl
@[simp] theorem setSb_freeCtr (x : SbS) : (s.setSb x).freeCtr = s.freeCtr := rfl
@[simp] theorem setSb_pending (x : SbS) : (s.setSb x).pending = s.pending := rfl

/-! ### State.setPhase changes sett -/

@[simp] theorem setPhase_regs (p : Phase) (n : Nat) : (s.setPhase p n).regs = s.regs := rfl
@[simp] theorem setPhase_hub (p : Phase) (n : Nat) : (s.setPhase p n).hub = s.hub := rfl
@[simp] theorem setPhase_rgn (p : Phase) (n : Nat) : (s.setPhase p n).rgn = s.rgn := rfl
@[simp] theorem setPhase_ana (p : Phase) (n : Nat) : (s.setPhase p n).ana = s.ana := rfl
@[simp] theorem setPhase_conv (p : Phase) (n : Nat) : (s.setPhase p n).conv = s.conv := rfl
@[simp] theorem setPhase_comp (p : Phase) (n : Nat) : (s.setPhase p n).comp = s.comp := rfl
@[simp] theorem setPhase_pwm (p : Phase) (n : Nat) : (s.setPhase p n).pwm = s.pwm := rfl
@[simp] theorem setPhase_slots (p : Phase) (n : Nat) : (s.setPhase p n).slots = s.slots := rfl
@[simp] theorem setPhase_pgSub (p : Phase) (n : Nat) : (s.setPhase p n).pgSub = s.pgSub := rfl
@[simp] theorem setPhase_engines (p : Phase) (n : Nat) : (s.setPhase p n).engines = s.engines := rfl
@[simp] theorem setPhase_lemem (p : Phase) (n : Nat) : (s.setPhase p n).lemem = s.lemem := rfl
@[simp] theorem setPhase_fabs (p : Phase) (n : Nat) : (s.setPhase p n).fabs = s.fabs := rfl
@[simp] theorem setPhase_cfg (p : Phase) (n : Nat) : (s.setPhase p n).cfg = s.cfg := rfl
@[simp] theorem setPhase_spoor (p : Phase) (n : Nat) : (s.setPhase p n).spoor = s.spoor := rfl
@[simp] theorem setPhase_pmap (p : Phase) (n : Nat) : (s.setPhase p n).pmap = s.pmap := rfl
@[simp] theorem setPhase_herd (p : Phase) (n : Nat) : (s.setPhase p n).herd = s.herd := rfl
@[simp] theorem setPhase_host (p : Phase) (n : Nat) : (s.setPhase p n).host = s.host := rfl
@[simp] theorem setPhase_img (p : Phase) (n : Nat) : (s.setPhase p n).img = s.img := rfl
@[simp] theorem setPhase_otp (p : Phase) (n : Nat) : (s.setPhase p n).otp = s.otp := rfl
@[simp] theorem setPhase_hold (p : Phase) (n : Nat) : (s.setPhase p n).hold = s.hold := rfl
@[simp] theorem setPhase_stage (p : Phase) (n : Nat) : (s.setPhase p n).stage = s.stage := rfl
@[simp] theorem setPhase_resp (p : Phase) (n : Nat) : (s.setPhase p n).resp = s.resp := rfl
@[simp] theorem setPhase_out (p : Phase) (n : Nat) : (s.setPhase p n).out = s.out := rfl
@[simp] theorem setPhase_freeCtr (p : Phase) (n : Nat) : (s.setPhase p n).freeCtr = s.freeCtr := rfl
@[simp] theorem setPhase_pending (p : Phase) (n : Nat) : (s.setPhase p n).pending = s.pending := rfl

end Sys2Proof.Machine
end

