-- ==== Sys2Proof/Laws/Tab.lean ====
section
/-!
SUPPORT. The laws of a sparse table: what was written reads back, every other key reads as before, and the canonical form
makes equal contents equal data.
-/

namespace Sys2Proof.Machine

theorem tabFind_erase_self {α : Type} (k : Nat) (l : List (Nat × α)) : tabFind k (tabErase k l) = none := by
  induction l with
  | nil => rfl
  | cons c l ih =>
    by_cases h : c.1 = k
    · simpa [tabErase, h] using ih
    · have hc : (c.1 != k) = true := by simpa using h
      simp only [tabErase, List.filter_cons, hc, if_true, tabFind, h, if_false]
      exact ih

theorem tabFind_erase_ne {α : Type} {j k : Nat} (h : j ≠ k) (l : List (Nat × α)) :
    tabFind j (tabErase k l) = tabFind j l := by
  induction l with
  | nil => rfl
  | cons c l ih =>
    by_cases hk : c.1 = k
    · have hj : c.1 ≠ j := fun e => h (e ▸ hk)
      have hc : (c.1 != k) = false := by simpa using hk
      simp only [tabErase, List.filter_cons, hc, Bool.false_eq_true, if_false, tabFind, hj]
      exact ih
    · have hc : (c.1 != k) = true := by simpa using hk
      simp only [tabErase, List.filter_cons, hc, if_true, tabFind]
      split
      · rfl
      · exact ih

theorem tabFind_insert_self {α : Type} (k : Nat) (v : α) (l : List (Nat × α)) (h : tabFind k l = none) :
    tabFind k (tabInsert k v l) = some v := by
  induction l with
  | nil => simp [tabInsert, tabFind]
  | cons c l ih =>
    have hc : c.1 ≠ k := by
      intro e
      simp [tabFind, e] at h
    simp only [tabFind, hc, if_false] at h
    simp only [tabInsert]
    split
    · simp [tabFind]
    · simp only [tabFind, hc, if_false]
      exact ih h

theorem tabFind_insert_ne {α : Type} {j k : Nat} (h : j ≠ k) (v : α) (l : List (Nat × α)) :
    tabFind j (tabInsert k v l) = tabFind j l := by
  induction l with
  | nil => simp [tabInsert, tabFind, Ne.symm h]
  | cons c l ih =>
    simp only [tabInsert]
    split
    · simp [tabFind, Ne.symm h]
    · simp only [tabFind]
      split
      · rfl
      · exact ih

/-- What was written at a key reads back. -/
@[simp] theorem Tab.get_set_self {α : Type} [DecidableEq α] {d : Nat → α} (t : Tab α d) (k : Nat) (v : α) :
    (t.set k v).get k = v := by
  simp only [Tab.get, Tab.set, tabSet]
  split
  · rename_i h
    simp [tabFind_erase_self, h]
  · rw [tabFind_insert_self k v _ (tabFind_erase_self k _)]
    rfl

/-- A write leaves every other key as it was. -/
theorem Tab.get_set_ne {α : Type} [DecidableEq α] {d : Nat → α} (t : Tab α d) {j k : Nat} (v : α) (h : j ≠ k) :
    (t.set k v).get j = t.get j := by
  simp only [Tab.get, Tab.set, tabSet]
  split
  · rw [tabFind_erase_ne h]
  · rw [tabFind_insert_ne h, tabFind_erase_ne h]

/-- Both laws at once. -/
theorem Tab.get_set {α : Type} [DecidableEq α] {d : Nat → α} (t : Tab α d) (j k : Nat) (v : α) :
    (t.set k v).get j = if j = k then v else t.get j := by
  split
  · rename_i h
    rw [h, Tab.get_set_self]
  · rename_i h
    exact Tab.get_set_ne t v h

@[simp] theorem Tab.get_empty {α : Type} {d : Nat → α} (k : Nat) : (Tab.empty : Tab α d).get k = d k := rfl

/-- Every operation on a table keeps the canonical form: the form is part of the table. -/
theorem Tab.canonical {α : Type} {d : Nat → α} (t : Tab α d) : tabWf d t.cells := t.ok

/-- The value at a key that `keep` keeps, or its default. -/
theorem Tab.get_keep {α : Type} {d : Nat → α} (t : Tab α d) (p : Nat → Bool) (k : Nat) :
    (t.keep p).get k = if p k then t.get k else d k := by
  simp only [Tab.get, Tab.keep]
  generalize t.cells = l
  induction l with
  | nil => simp [tabFind]
  | cons c l ih =>
    by_cases hk : c.1 = k
    · subst hk
      by_cases hp : p c.1 = true
      · simp [List.filter_cons, hp, tabFind]
      · simp only [hp, Bool.false_eq_true, if_false] at ih ⊢
        rw [List.filter_cons, if_neg hp]
        exact ih
    · by_cases hp : p c.1 = true
      · rw [List.filter_cons, if_pos hp]
        simp only [tabFind, hk, if_false]
        exact ih
      · rw [List.filter_cons, if_neg hp]
        simp only [tabFind, hk, if_false]
        exact ih

end Sys2Proof.Machine
end

