-- ==== Sys2Proof/Laws/Word.lean ====
section
/-!
SUPPORT. The laws of bit fields: a field written reads back, cut to its width, and every field apart from it reads as before.
-/

namespace Sys2Proof

theorem Word.mask_getLsbD (hi lo i : Nat) :
    (Word.mask hi lo).getLsbD i = (decide (i < 32) && decide (lo ≤ i) && decide (i < lo + (hi + 1 - lo))) := by
  simp only [Word.mask, BitVec.getLsbD_ofNat, Nat.testBit_mul_two_pow, Nat.testBit_two_pow_sub_one]
  by_cases h1 : i < 32 <;> by_cases h2 : lo ≤ i <;> simp [h1, h2] <;> omega

theorem Word.setBits_getLsbD (w : Word) (hi lo v i : Nat) (hi32 : i < 32) :
    (w.setBits hi lo v).getLsbD i
      = if lo ≤ i ∧ i < lo + (hi + 1 - lo) then v.testBit (i - lo) else w.getLsbD i := by
  simp only [Word.setBits, BitVec.getLsbD_or, BitVec.getLsbD_and, BitVec.getLsbD_not, Word.mask_getLsbD,
    BitVec.getLsbD_ofNat, Nat.testBit_mul_two_pow, hi32]
  by_cases h1 : lo ≤ i <;> by_cases h2 : i < lo + (hi + 1 - lo) <;> simp [h1, h2]

theorem Word.bits_testBit (w : Word) (hi lo i : Nat) :
    (w.bits hi lo).testBit i = (decide (i < hi + 1 - lo) && w.getLsbD (lo + i)) := by
  simp only [Word.bits, Nat.testBit_mod_two_pow, Nat.testBit_div_two_pow, BitVec.getLsbD]
  rw [Nat.add_comm i lo]

/-- A field written reads back, cut to its width. -/
theorem Word.bits_setBits_self (w : Word) (hi lo v : Nat) (h : hi < 32) :
    (w.setBits hi lo v).bits hi lo = v % 2 ^ (hi + 1 - lo) := by
  apply Nat.eq_of_testBit_eq
  intro i
  rw [Word.bits_testBit, Nat.testBit_mod_two_pow]
  by_cases hi' : i < hi + 1 - lo
  · rw [Word.setBits_getLsbD _ _ _ _ _ (by omega)]
    have : lo ≤ lo + i ∧ lo + i < lo + (hi + 1 - lo) := by omega
    simp [this, hi']
  · simp [hi']

/-- A field apart from the one written reads as before. -/
theorem Word.bits_setBits_ne (w : Word) (hi lo v hi' lo' : Nat) (h : hi < lo' ∨ hi' < lo) (h' : hi' < 32) :
    (w.setBits hi lo v).bits hi' lo' = w.bits hi' lo' := by
  apply Nat.eq_of_testBit_eq
  intro i
  rw [Word.bits_testBit, Word.bits_testBit]
  by_cases hi2 : i < hi' + 1 - lo'
  · rw [Word.setBits_getLsbD _ _ _ _ _ (by omega)]
    have : ¬ (lo ≤ lo' + i ∧ lo' + i < lo + (hi + 1 - lo)) := by omega
    simp [this]
  · simp [hi2]

/-- A field is below its width. -/
theorem Word.bits_lt (w : Word) (hi lo : Nat) : w.bits hi lo < 2 ^ (hi + 1 - lo) := Nat.mod_lt _ (Nat.two_pow_pos _)

end Sys2Proof
end

