-- ==== Sys2Proof/Laws/Ops.lean ====
section
/-!
SUPPORT. What each shared operation can do, once: registers and their fields, the end of a command, the signals of R465,
alarms (R377, R378) and the incident log (R512).
-/

namespace Sys2Proof.Machine

/-! ### Registers -/

@[simp] theorem Regs.tab_put_self (r : Regs) (k : Blk) (t : RegFile) : (r.put k t).tab k = t := by cases k <;> rfl

theorem Regs.tab_put_ne (r : Regs) {j k : Blk} (t : RegFile) (h : j ≠ k) : (r.put k t).tab j = r.tab j := by
  cases j <;> cases k <;> first | rfl | exact absurd rfl h

/-- A register written reads back. -/
@[simp] theorem rd_wr_self (s : State) (r : Reg) (b n : Nat) (v : Word) : (s.wr r b n v).rd r b n = v := by
  simp [State.rd, State.wr]

/-- A write leaves the registers of other blocks, and those at other addresses. -/
theorem rd_wr_ne (s : State) {q r : Reg} {b n c m : Nat} (v : Word) (h : q.blk ≠ r.blk ∨ q.addr c m ≠ r.addr b n) :
    (s.wr r b n v).rd q c m = s.rd q c m := by
  simp only [State.rd, State.wr]
  by_cases hb : q.blk = r.blk
  · rw [hb, Regs.tab_put_self, Tab.get_set_ne]
    rcases h with h | h
    · exact absurd hb h
    · exact h
  · rw [Regs.tab_put_ne _ _ hb]

/-- A field written reads back, cut to its width. -/
theorem gf_sf_self (s : State) (f : Fld) (b n v : Nat) (h : f.hi < 32) :
    (s.sf f b n v).gf f b n = v % 2 ^ (f.hi + 1 - f.lo) := by
  simp only [State.gf, State.sf, rd_wr_self]
  exact Word.bits_setBits_self _ _ _ _ h

/-- A field written leaves the other fields of its register. -/
theorem gf_sf_same_reg (s : State) (f g : Fld) (b n v : Nat) (hr : g.reg = f.reg) (h : f.hi < g.lo ∨ g.hi < f.lo)
    (h' : g.hi < 32) : (s.sf f b n v).gf g b n = s.gf g b n := by
  simp only [State.gf, State.sf, hr, rd_wr_self]
  exact Word.bits_setBits_ne _ _ _ _ _ _ h h'

/-- A field written leaves every field of other registers. -/
theorem gf_sf_ne (s : State) (f g : Fld) (b n v c m : Nat)
    (h : g.reg.blk ≠ f.reg.blk ∨ g.reg.addr c m ≠ f.reg.addr b n) : (s.sf f b n v).gf g c m = s.gf g c m := by
  simp only [State.gf, State.sf, rd_wr_ne _ _ h]

/-- A flag written reads back. -/
theorem gb_sb_self (s : State) (f : Fld) (b n : Nat) (v : Bool) (h : f.hi < 32) (hl : f.lo ≤ f.hi) :
    (s.sb f b n v).gb f b n = v := by
  simp only [State.gb, State.sb, gf_sf_self s f b n _ h]
  cases v
  · simp
  · have : 2 ≤ 2 ^ (f.hi + 1 - f.lo) := by
      calc 2 = 2 ^ 1 := rfl
        _ ≤ 2 ^ (f.hi + 1 - f.lo) := Nat.pow_le_pow_right (by omega) (by omega)
    simp only [if_true, bne_iff_ne]
    rw [Nat.mod_eq_of_lt (by omega)]
    omega

/-- Registers read the same in states whose registers are the same. -/
theorem gf_congr {s t : State} (h : t.regs = s.regs) (f : Fld) (b n : Nat) : t.gf f b n = s.gf f b n := by
  simp only [State.gf, State.rd, h]

theorem gb_congr {s t : State} (h : t.regs = s.regs) (f : Fld) (b n : Nat) : t.gb f b n = s.gb f b n := by
  simp only [State.gb, gf_congr h]

theorem rd_congr {s t : State} (h : t.regs = s.regs) (r : Reg) (b n : Nat) : t.rd r b n = s.rd r b n := by
  simp only [State.rd, h]

/-! ### MSI-X and the signals of R465 -/

/-- An MSI-X vector touches the pending bits and what leaves the part, and nothing else. -/
theorem msix_eq (s : State) (p v : Nat) :
    ∃ pba out, s.msix p v = { s with host := { s.host with pba := pba }, out := out } := by
  unfold State.msix
  split
  · exact ⟨_, s.out, rfl⟩
  · split
    · exact ⟨s.host.pba, _, rfl⟩
    · exact ⟨s.host.pba, s.out, rfl⟩

/-- The signals of R465 touch the pending bits of the vectors and what leaves the part, and nothing else beside what is noted of
the lines. -/
theorem settle_eq (s : State) :
    ∃ pba out, s.settle = { s.noted with host := { s.noted.host with pba := pba }, out := out } := by
  have one : ∀ (c : Bool) (p v : Nat) (t : State),
      (∃ pba out, t = { s.noted with host := { s.noted.host with pba := pba }, out := out }) →
      ∃ pba out, (if c then t.msix p v else t) = { s.noted with host := { s.noted.host with pba := pba }, out := out } := by
    rintro c p v t ⟨q, o, rfl⟩
    cases c
    · exact ⟨q, o, rfl⟩
    · obtain ⟨q', o', h⟩ := msix_eq { s.noted with host := { s.noted.host with pba := q }, out := o } p v
      exact ⟨q', o', by simp only [if_true]; rw [h]⟩
  unfold State.settle
  simp only
  split
  · exact ⟨s.noted.host.pba, s.noted.out, rfl⟩
  · obtain ⟨q, o, h⟩ := one (s.gb F.HUB_IRQ_CFG_EN_B 0) 1 (s.gf F.HUB_IRQ_CFG_VEC_B 0) _
      (one (s.gb F.HUB_IRQ_CFG_EN_A 0) 0 (s.gf F.HUB_IRQ_CFG_VEC_A 0) s.noted ⟨s.noted.host.pba, s.noted.out, rfl⟩)
    rw [h]
    split
    · exact ⟨q, _, rfl⟩
    · exact ⟨q, o, rfl⟩

/-! ### The end of a command -/

/-- Every command that ends by `after` answers a next state. -/
theorem after_next (s t : State) : ∃ u, s.after t = .next u := ⟨_, rfl⟩

/-! The signals leave every other field. -/

@[simp] theorem settle_regs (s : State) : s.settle.regs = s.regs := by obtain ⟨_, _, h⟩ := settle_eq s; rw [h]; rfl
@[simp] theorem settle_hub (s : State) : s.settle.hub = s.hub := by obtain ⟨_, _, h⟩ := settle_eq s; rw [h]; rfl
@[simp] theorem settle_rgn (s : State) : s.settle.rgn = s.rgn := by obtain ⟨_, _, h⟩ := settle_eq s; rw [h]; rfl
@[simp] theorem settle_ana (s : State) : s.settle.ana = s.ana := by obtain ⟨_, _, h⟩ := settle_eq s; rw [h]; rfl
@[simp] theorem settle_conv (s : State) : s.settle.conv = s.conv := by obtain ⟨_, _, h⟩ := settle_eq s; rw [h]; rfl
@[simp] theorem settle_comp (s : State) : s.settle.comp = s.comp := by obtain ⟨_, _, h⟩ := settle_eq s; rw [h]; rfl
@[simp] theorem settle_pwm (s : State) : s.settle.pwm = s.pwm := by obtain ⟨_, _, h⟩ := settle_eq s; rw [h]; rfl
@[simp] theorem settle_slots (s : State) : s.settle.slots = s.slots := by obtain ⟨_, _, h⟩ := settle_eq s; rw [h]; rfl
@[simp] theorem settle_pgSub (s : State) : s.settle.pgSub = s.pgSub := by obtain ⟨_, _, h⟩ := settle_eq s; rw [h]; rfl
@[simp] theorem settle_engines (s : State) : s.settle.engines = s.engines := by obtain ⟨_, _, h⟩ := settle_eq s; rw [h]; rfl
@[simp] theorem settle_lemem (s : State) : s.settle.lemem = s.lemem := by obtain ⟨_, _, h⟩ := settle_eq s; rw [h]; rfl
@[simp] theorem settle_fabs (s : State) : s.settle.fabs = s.fabs := by obtain ⟨_, _, h⟩ := settle_eq s; rw [h]; rfl
@[simp] theorem settle_cfg (s : State) : s.settle.cfg = s.cfg := by obtain ⟨_, _, h⟩ := settle_eq s; rw [h]; rfl
@[simp] theorem settle_spoor (s : State) : s.settle.spoor = s.spoor := by obtain ⟨_, _, h⟩ := settle_eq s; rw [h]; rfl
@[simp] theorem settle_pmap (s : State) : s.settle.pmap = s.pmap := by obtain ⟨_, _, h⟩ := settle_eq s; rw [h]; rfl
@[simp] theorem settle_herd (s : State) : s.settle.herd = s.herd := by obtain ⟨_, _, h⟩ := settle_eq s; rw [h]; rfl
@[simp] theorem settle_sett (s : State) : s.settle.sett = s.sett := by obtain ⟨_, _, h⟩ := settle_eq s; rw [h]; rfl
@[simp] theorem settle_img (s : State) : s.settle.img = s.img := by obtain ⟨_, _, h⟩ := settle_eq s; rw [h]; rfl
@[simp] theorem settle_otp (s : State) : s.settle.otp = s.otp := by obtain ⟨_, _, h⟩ := settle_eq s; rw [h]; rfl
@[simp] theorem settle_hold (s : State) : s.settle.hold = s.hold := by obtain ⟨_, _, h⟩ := settle_eq s; rw [h]; rfl
@[simp] theorem settle_stage (s : State) : s.settle.stage = s.stage := by obtain ⟨_, _, h⟩ := settle_eq s; rw [h]; rfl
@[simp] theorem settle_resp (s : State) : s.settle.resp = s.resp := by obtain ⟨_, _, h⟩ := settle_eq s; rw [h]; rfl
@[simp] theorem settle_freeCtr (s : State) : s.settle.freeCtr = s.freeCtr := by obtain ⟨_, _, h⟩ := settle_eq s; rw [h]; rfl
@[simp] theorem settle_pending (s : State) : s.settle.pending = s.pending := by obtain ⟨_, _, h⟩ := settle_eq s; rw [h]; rfl
@[simp] theorem settle_host_ports (s : State) : s.settle.host.ports = s.host.ports := by obtain ⟨_, _, h⟩ := settle_eq s; rw [h]; rfl
@[simp] theorem settle_host_msix (s : State) : s.settle.host.msix = s.host.msix := by obtain ⟨_, _, h⟩ := settle_eq s; rw [h]; rfl
@[simp] theorem settle_host_sb (s : State) : s.settle.host.sb = s.host.sb := by obtain ⟨_, _, h⟩ := settle_eq s; rw [h]; rfl
@[simp] theorem settle_host_jtag (s : State) : s.settle.host.jtag = s.host.jtag := by obtain ⟨_, _, h⟩ := settle_eq s; rw [h]; rfl
@[simp] theorem settle_host_ball (s : State) : s.settle.host.ball = s.host.ball := by obtain ⟨_, _, h⟩ := settle_eq s; rw [h]; rfl
@[simp] theorem settle_host_cflt (s : State) : s.settle.host.cflt = s.host.cflt := by obtain ⟨_, _, h⟩ := settle_eq s; rw [h]; rfl
@[simp] theorem settle_host_stale (s : State) : s.settle.host.stale = s.host.stale := by obtain ⟨_, _, h⟩ := settle_eq s; rw [h]; rfl
@[simp] theorem settle_host_kept (s : State) : s.settle.host.kept = s.host.kept := by obtain ⟨_, _, h⟩ := settle_eq s; rw [h]; rfl
@[simp] theorem settle_host_lastDone (s : State) : s.settle.host.lastDone = s.host.lastDone := by obtain ⟨_, _, h⟩ := settle_eq s; rw [h]; rfl
@[simp] theorem settle_host_lastErr (s : State) : s.settle.host.lastErr = s.host.lastErr := by obtain ⟨_, _, h⟩ := settle_eq s; rw [h]; rfl

@[simp] theorem settle_host_irqWas (s : State) : s.settle.host.irqWas = s.irqNow := by obtain ⟨_, _, h⟩ := settle_eq s; rw [h]; rfl
@[simp] theorem settle_host_alarmWas (s : State) : s.settle.host.alarmWas = alarmCause s := by
  obtain ⟨_, _, h⟩ := settle_eq s; rw [h]; rfl
@[simp] theorem settle_host_alarmAt (s : State) :
    s.settle.host.alarmAt = if alarmCause s && !s.host.alarmWas then s.hub.base + 1 else s.host.alarmAt := by
  obtain ⟨_, _, h⟩ := settle_eq s; rw [h]; rfl

/-- What a command that ends by `after` leaves: its effect, but for the signals of R465, the queue and OTP. -/
theorem after_spec {s t u : State} (h : s.after t = .next u) :
    u.pending = s.pending ∧ u.otp = s.otp ∧ ∃ pba out,
      u = { t.noted with host := { t.noted.host with pba := pba }, out := out, pending := s.pending, otp := s.otp } := by
  simp only [State.after, Host.Outcome.next.injEq] at h
  obtain ⟨q, o, hs⟩ := settle_eq t
  subst h
  exact ⟨rfl, rfl, q, o, by rw [hs]⟩

/-- To show what a command that ends by `after` leaves, show it of the state with the signals, the queue and OTP put in. -/
theorem ends_after {s t : State} {p : State → Prop} (h : p { t.settle with pending := s.pending, otp := s.otp }) :
    Ends (s.after t) p := ⟨_, rfl, h⟩

/-! ### The incident log, alarms, spares and Degraded -/

/-- An entry of the incident log is kept in the Sett alone. -/
theorem log_eq (s : State) (x : Src) (c : Nat) (d : BitVec 80) : ∃ y, s.log x c d = { s with sett := y } := ⟨_, rfl⟩

/-- Raising an alarm changes the Sett (its log) and the alarm's slot and record, and nothing else. -/
theorem raiseT_eq (s : State) (x : Src) (ty c f : Nat) (d : BitVec 80) :
    ∃ y z, s.raiseT x ty c f d = { s with sett := y, spoor := z } := by
  obtain ⟨y, hy⟩ : ∃ y, (if loggedCode c then s.log x c d else s) = { s with sett := y } := by
    split
    · exact log_eq s x c d
    · exact ⟨s.sett, rfl⟩
  unfold State.raiseT
  simp only [hy]
  split
  · exact ⟨y, _, rfl⟩
  · exact ⟨y, _, rfl⟩

theorem raise_eq (s : State) (x : Src) (c : Nat) (d : BitVec 80) :
    ∃ y z, s.raise x c d = { s with sett := y, spoor := z } := raiseT_eq s x 0 c 0 d

/-- A log entry of a mode transition changes the Sett and the count of free values. -/
theorem logMode_eq (s : State) : ∃ y n, s.logMode = { s with sett := y, freeCtr := n } := ⟨_, _, rfl⟩

theorem evalDegraded_eq (s : State) :
    ∃ y z n, s.evalDegraded = { s with sett := y, spoor := z, freeCtr := n } := by
  unfold State.evalDegraded
  simp only
  split
  · obtain ⟨y, n, h⟩ := logMode_eq ((((s.setOwn F.SETT_DEGR_COND 0 s.degrCond).setOwn F.SETT_DEGR_KINDS_LOW 0 s.kindsLow).setOwn
      F.SETT_EVT_DEGRADED 0 1))
    unfold State.raiseReplace
    obtain ⟨y', z', h'⟩ := raise_eq { (((s.setOwn F.SETT_DEGR_COND 0 s.degrCond).setOwn F.SETT_DEGR_KINDS_LOW 0 s.kindsLow).setOwn
      F.SETT_EVT_DEGRADED 0 1).logMode with sett := { (((s.setOwn F.SETT_DEGR_COND 0 s.degrCond).setOwn F.SETT_DEGR_KINDS_LOW 0
      s.kindsLow).setOwn F.SETT_EVT_DEGRADED 0 1).logMode.sett with replaceN := true } } settSrc 0x160 _
    refine ⟨y', z', n, h'.trans ?_⟩
    rw [h]
    rfl
  · split
    · obtain ⟨y, n, h⟩ := logMode_eq ((s.setOwn F.SETT_DEGR_COND 0 s.degrCond).setOwn F.SETT_DEGR_KINDS_LOW 0 s.kindsLow)
      exact ⟨{ y with replaceN := false }, s.spoor, n, by rw [h]; rfl⟩
    · exact ⟨_, s.spoor, s.freeCtr, rfl⟩

theorem ledgerChanged_eq (s : State) :
    ∃ y z n, s.ledgerChanged = { s with sett := y, spoor := z, freeCtr := n } := by
  obtain ⟨y, z, n, h⟩ := evalDegraded_eq { s with sett := { s.sett with dirty := true } }
  exact ⟨y, z, n, h⟩

/-- The use of a spare changes the Sett, its records, and the count of free values. -/
theorem useSpare_eq (s : State) (k r b c : Nat) :
    ∃ y z n, s.useSpare k r b c = { s with sett := y, spoor := z, freeCtr := n } := by
  unfold State.useSpare
  simp only
  obtain ⟨y1, z1, h1⟩ := raise_eq (s.setOwn F.SETT_SPAREk_FREE k (s.own F.SETT_SPAREk_FREE k - 1)) settSrc 0x166
    (detailOf [(2, 1, k), (3, 1, r), (4, 1, b), (5, 1, c), (6, 2, s.own F.SETT_SPAREk_FREE k - 1)])
  rw [h1]
  obtain ⟨y, z, n, h⟩ := ledgerChanged_eq { s with sett := y1, spoor := z1 }
  exact ⟨y, z, n, h⟩

theorem failPermanent_eq (s : State) :
    ∃ y z n, s.failPermanent = { s with sett := y, spoor := z, freeCtr := n } := by
  obtain ⟨y, z, n, h⟩ := evalDegraded_eq { s with sett := { s.sett with degrPerm := true } }
  exact ⟨y, z, n, h⟩

theorem safeEnter_eq (s : State) : ∃ y z, s.safeEnter = { s with sett := y, spoor := z } := by
  obtain ⟨y, z, h⟩ := raise_eq ((s.setOwn F.SETT_SAFE_ENTRY 0 s.safeNow).setOwn F.SETT_EVT_SAFE 0 1) settSrc 0x164
    (detailOf [(2, 1, s.safeNow)])
  exact ⟨y, z, h⟩

theorem safeEval_eq (s : State) : ∃ y z, s.safeEval = { s with sett := y, spoor := z } := by
  unfold State.safeEval
  simp only
  split
  · obtain ⟨y, z, h⟩ := safeEnter_eq { s.setOwn F.SETT_SAFE_NOW 0 s.safeNow with
      sett := { (s.setOwn F.SETT_SAFE_NOW 0 s.safeNow).sett with safe := true } }
    exact ⟨y, z, h⟩
  · exact ⟨_, s.spoor, rfl⟩

/-- A source of Safe hold changes the Sett and its records. -/
theorem safeAssert_eq (s : State) (b : Nat) (l m : Bool) :
    ∃ y z, s.safeAssert b l m = { s with sett := y, spoor := z } := by
  unfold State.safeAssert
  obtain ⟨y, z, h⟩ := safeEval_eq { s with sett := { s.sett with
      safeCond := if l then s.sett.safeCond ||| 2 ^ b else s.sett.safeCond,
      safeLatch := if m && s.safePhase then s.sett.safeLatch ||| 2 ^ b else s.sett.safeLatch, safeAt := s.hub.base } }
  exact ⟨y, z, h⟩

/-! What these leave as it was. -/

@[simp] theorem raise_regs (s : State) (x : Src) (c : Nat) (d : BitVec 80) : (s.raise x c d).regs = s.regs := by obtain ⟨_, _, h⟩ := raise_eq s x c d; rw [h]
@[simp] theorem raise_hub (s : State) (x : Src) (c : Nat) (d : BitVec 80) : (s.raise x c d).hub = s.hub := by obtain ⟨_, _, h⟩ := raise_eq s x c d; rw [h]
@[simp] theorem raise_rgn (s : State) (x : Src) (c : Nat) (d : BitVec 80) : (s.raise x c d).rgn = s.rgn := by obtain ⟨_, _, h⟩ := raise_eq s x c d; rw [h]
@[simp] theorem raise_ana (s : State) (x : Src) (c : Nat) (d : BitVec 80) : (s.raise x c d).ana = s.ana := by obtain ⟨_, _, h⟩ := raise_eq s x c d; rw [h]
@[simp] theorem raise_conv (s : State) (x : Src) (c : Nat) (d : BitVec 80) : (s.raise x c d).conv = s.conv := by obtain ⟨_, _, h⟩ := raise_eq s x c d; rw [h]
@[simp] theorem raise_comp (s : State) (x : Src) (c : Nat) (d : BitVec 80) : (s.raise x c d).comp = s.comp := by obtain ⟨_, _, h⟩ := raise_eq s x c d; rw [h]
@[simp] theorem raise_pwm (s : State) (x : Src) (c : Nat) (d : BitVec 80) : (s.raise x c d).pwm = s.pwm := by obtain ⟨_, _, h⟩ := raise_eq s x c d; rw [h]
@[simp] theorem raise_slots (s : State) (x : Src) (c : Nat) (d : BitVec 80) : (s.raise x c d).slots = s.slots := by obtain ⟨_, _, h⟩ := raise_eq s x c d; rw [h]
@[simp] theorem raise_pgSub (s : State) (x : Src) (c : Nat) (d : BitVec 80) : (s.raise x c d).pgSub = s.pgSub := by obtain ⟨_, _, h⟩ := raise_eq s x c d; rw [h]
@[simp] theorem raise_engines (s : State) (x : Src) (c : Nat) (d : BitVec 80) : (s.raise x c d).engines = s.engines := by obtain ⟨_, _, h⟩ := raise_eq s x c d; rw [h]
@[simp] theorem raise_lemem (s : State) (x : Src) (c : Nat) (d : BitVec 80) : (s.raise x c d).lemem = s.lemem := by obtain ⟨_, _, h⟩ := raise_eq s x c d; rw [h]
@[simp] theorem raise_fabs (s : State) (x : Src) (c : Nat) (d : BitVec 80) : (s.raise x c d).fabs = s.fabs := by obtain ⟨_, _, h⟩ := raise_eq s x c d; rw [h]
@[simp] theorem raise_cfg (s : State) (x : Src) (c : Nat) (d : BitVec 80) : (s.raise x c d).cfg = s.cfg := by obtain ⟨_, _, h⟩ := raise_eq s x c d; rw [h]
@[simp] theorem raise_pmap (s : State) (x : Src) (c : Nat) (d : BitVec 80) : (s.raise x c d).pmap = s.pmap := by obtain ⟨_, _, h⟩ := raise_eq s x c d; rw [h]
@[simp] theorem raise_herd (s : State) (x : Src) (c : Nat) (d : BitVec 80) : (s.raise x c d).herd = s.herd := by obtain ⟨_, _, h⟩ := raise_eq s x c d; rw [h]
@[simp] theorem raise_host (s : State) (x : Src) (c : Nat) (d : BitVec 80) : (s.raise x c d).host = s.host := by obtain ⟨_, _, h⟩ := raise_eq s x c d; rw [h]
@[simp] theorem raise_img (s : State) (x : Src) (c : Nat) (d : BitVec 80) : (s.raise x c d).img = s.img := by obtain ⟨_, _, h⟩ := raise_eq s x c d; rw [h]
@[simp] theorem raise_otp (s : State) (x : Src) (c : Nat) (d : BitVec 80) : (s.raise x c d).otp = s.otp := by obtain ⟨_, _, h⟩ := raise_eq s x c d; rw [h]
@[simp] theorem raise_hold (s : State) (x : Src) (c : Nat) (d : BitVec 80) : (s.raise x c d).hold = s.hold := by obtain ⟨_, _, h⟩ := raise_eq s x c d; rw [h]
@[simp] theorem raise_stage (s : State) (x : Src) (c : Nat) (d : BitVec 80) : (s.raise x c d).stage = s.stage := by obtain ⟨_, _, h⟩ := raise_eq s x c d; rw [h]
@[simp] theorem raise_resp (s : State) (x : Src) (c : Nat) (d : BitVec 80) : (s.raise x c d).resp = s.resp := by obtain ⟨_, _, h⟩ := raise_eq s x c d; rw [h]
@[simp] theorem raise_out (s : State) (x : Src) (c : Nat) (d : BitVec 80) : (s.raise x c d).out = s.out := by obtain ⟨_, _, h⟩ := raise_eq s x c d; rw [h]
@[simp] theorem raise_freeCtr (s : State) (x : Src) (c : Nat) (d : BitVec 80) : (s.raise x c d).freeCtr = s.freeCtr := by obtain ⟨_, _, h⟩ := raise_eq s x c d; rw [h]
@[simp] theorem raise_pending (s : State) (x : Src) (c : Nat) (d : BitVec 80) : (s.raise x c d).pending = s.pending := by obtain ⟨_, _, h⟩ := raise_eq s x c d; rw [h]

@[simp] theorem raiseT_regs (s : State) (x : Src) (ty c f : Nat) (d : BitVec 80) : (s.raiseT x ty c f d).regs = s.regs := by obtain ⟨_, _, h⟩ := raiseT_eq s x ty c f d; rw [h]
@[simp] theorem raiseT_hub (s : State) (x : Src) (ty c f : Nat) (d : BitVec 80) : (s.raiseT x ty c f d).hub = s.hub := by obtain ⟨_, _, h⟩ := raiseT_eq s x ty c f d; rw [h]
@[simp] theorem raiseT_rgn (s : State) (x : Src) (ty c f : Nat) (d : BitVec 80) : (s.raiseT x ty c f d).rgn = s.rgn := by obtain ⟨_, _, h⟩ := raiseT_eq s x ty c f d; rw [h]
@[simp] theorem raiseT_ana (s : State) (x : Src) (ty c f : Nat) (d : BitVec 80) : (s.raiseT x ty c f d).ana = s.ana := by obtain ⟨_, _, h⟩ := raiseT_eq s x ty c f d; rw [h]
@[simp] theorem raiseT_conv (s : State) (x : Src) (ty c f : Nat) (d : BitVec 80) : (s.raiseT x ty c f d).conv = s.conv := by obtain ⟨_, _, h⟩ := raiseT_eq s x ty c f d; rw [h]
@[simp] theorem raiseT_comp (s : State) (x : Src) (ty c f : Nat) (d : BitVec 80) : (s.raiseT x ty c f d).comp = s.comp := by obtain ⟨_, _, h⟩ := raiseT_eq s x ty c f d; rw [h]
@[simp] theorem raiseT_pwm (s : State) (x : Src) (ty c f : Nat) (d : BitVec 80) : (s.raiseT x ty c f d).pwm = s.pwm := by obtain ⟨_, _, h⟩ := raiseT_eq s x ty c f d; rw [h]
@[simp] theorem raiseT_slots (s : State) (x : Src) (ty c f : Nat) (d : BitVec 80) : (s.raiseT x ty c f d).slots = s.slots := by obtain ⟨_, _, h⟩ := raiseT_eq s x ty c f d; rw [h]
@[simp] theorem raiseT_pgSub (s : State) (x : Src) (ty c f : Nat) (d : BitVec 80) : (s.raiseT x ty c f d).pgSub = s.pgSub := by obtain ⟨_, _, h⟩ := raiseT_eq s x ty c f d; rw [h]
@[simp] theorem raiseT_engines (s : State) (x : Src) (ty c f : Nat) (d : BitVec 80) : (s.raiseT x ty c f d).engines = s.engines := by obtain ⟨_, _, h⟩ := raiseT_eq s x ty c f d; rw [h]
@[simp] theorem raiseT_lemem (s : State) (x : Src) (ty c f : Nat) (d : BitVec 80) : (s.raiseT x ty c f d).lemem = s.lemem := by obtain ⟨_, _, h⟩ := raiseT_eq s x ty c f d; rw [h]
@[simp] theorem raiseT_fabs (s : State) (x : Src) (ty c f : Nat) (d : BitVec 80) : (s.raiseT x ty c f d).fabs = s.fabs := by obtain ⟨_, _, h⟩ := raiseT_eq s x ty c f d; rw [h]
@[simp] theorem raiseT_cfg (s : State) (x : Src) (ty c f : Nat) (d : BitVec 80) : (s.raiseT x ty c f d).cfg = s.cfg := by obtain ⟨_, _, h⟩ := raiseT_eq s x ty c f d; rw [h]
@[simp] theorem raiseT_pmap (s : State) (x : Src) (ty c f : Nat) (d : BitVec 80) : (s.raiseT x ty c f d).pmap = s.pmap := by obtain ⟨_, _, h⟩ := raiseT_eq s x ty c f d; rw [h]
@[simp] theorem raiseT_herd (s : State) (x : Src) (ty c f : Nat) (d : BitVec 80) : (s.raiseT x ty c f d).herd = s.herd := by obtain ⟨_, _, h⟩ := raiseT_eq s x ty c f d; rw [h]
@[simp] theorem raiseT_host (s : State) (x : Src) (ty c f : Nat) (d : BitVec 80) : (s.raiseT x ty c f d).host = s.host := by obtain ⟨_, _, h⟩ := raiseT_eq s x ty c f d; rw [h]
@[simp] theorem raiseT_img (s : State) (x : Src) (ty c f : Nat) (d : BitVec 80) : (s.raiseT x ty c f d).img = s.img := by obtain ⟨_, _, h⟩ := raiseT_eq s x ty c f d; rw [h]
@[simp] theorem raiseT_otp (s : State) (x : Src) (ty c f : Nat) (d : BitVec 80) : (s.raiseT x ty c f d).otp = s.otp := by obtain ⟨_, _, h⟩ := raiseT_eq s x ty c f d; rw [h]
@[simp] theorem raiseT_hold (s : State) (x : Src) (ty c f : Nat) (d : BitVec 80) : (s.raiseT x ty c f d).hold = s.hold := by obtain ⟨_, _, h⟩ := raiseT_eq s x ty c f d; rw [h]
@[simp] theorem raiseT_stage (s : State) (x : Src) (ty c f : Nat) (d : BitVec 80) : (s.raiseT x ty c f d).stage = s.stage := by obtain ⟨_, _, h⟩ := raiseT_eq s x ty c f d; rw [h]
@[simp] theorem raiseT_resp (s : State) (x : Src) (ty c f : Nat) (d : BitVec 80) : (s.raiseT x ty c f d).resp = s.resp := by obtain ⟨_, _, h⟩ := raiseT_eq s x ty c f d; rw [h]
@[simp] theorem raiseT_out (s : State) (x : Src) (ty c f : Nat) (d : BitVec 80) : (s.raiseT x ty c f d).out = s.out := by obtain ⟨_, _, h⟩ := raiseT_eq s x ty c f d; rw [h]
@[simp] theorem raiseT_freeCtr (s : State) (x : Src) (ty c f : Nat) (d : BitVec 80) : (s.raiseT x ty c f d).freeCtr = s.freeCtr := by obtain ⟨_, _, h⟩ := raiseT_eq s x ty c f d; rw [h]
@[simp] theorem raiseT_pending (s : State) (x : Src) (ty c f : Nat) (d : BitVec 80) : (s.raiseT x ty c f d).pending = s.pending := by obtain ⟨_, _, h⟩ := raiseT_eq s x ty c f d; rw [h]

@[simp] theorem logMode_regs (s : State) : (s.logMode).regs = s.regs := by obtain ⟨_, _, h⟩ := logMode_eq s; rw [h]
@[simp] theorem logMode_hub (s : State) : (s.logMode).hub = s.hub := by obtain ⟨_, _, h⟩ := logMode_eq s; rw [h]
@[simp] theorem logMode_rgn (s : State) : (s.logMode).rgn = s.rgn := by obtain ⟨_, _, h⟩ := logMode_eq s; rw [h]
@[simp] theorem logMode_ana (s : State) : (s.logMode).ana = s.ana := by obtain ⟨_, _, h⟩ := logMode_eq s; rw [h]
@[simp] theorem logMode_conv (s : State) : (s.logMode).conv = s.conv := by obtain ⟨_, _, h⟩ := logMode_eq s; rw [h]
@[simp] theorem logMode_comp (s : State) : (s.logMode).comp = s.comp := by obtain ⟨_, _, h⟩ := logMode_eq s; rw [h]
@[simp] theorem logMode_pwm (s : State) : (s.logMode).pwm = s.pwm := by obtain ⟨_, _, h⟩ := logMode_eq s; rw [h]
@[simp] theorem logMode_slots (s : State) : (s.logMode).slots = s.slots := by obtain ⟨_, _, h⟩ := logMode_eq s; rw [h]
@[simp] theorem logMode_pgSub (s : State) : (s.logMode).pgSub = s.pgSub := by obtain ⟨_, _, h⟩ := logMode_eq s; rw [h]
@[simp] theorem logMode_engines (s : State) : (s.logMode).engines = s.engines := by obtain ⟨_, _, h⟩ := logMode_eq s; rw [h]
@[simp] theorem logMode_lemem (s : State) : (s.logMode).lemem = s.lemem := by obtain ⟨_, _, h⟩ := logMode_eq s; rw [h]
@[simp] theorem logMode_fabs (s : State) : (s.logMode).fabs = s.fabs := by obtain ⟨_, _, h⟩ := logMode_eq s; rw [h]
@[simp] theorem logMode_cfg (s : State) : (s.logMode).cfg = s.cfg := by obtain ⟨_, _, h⟩ := logMode_eq s; rw [h]
@[simp] theorem logMode_spoor (s : State) : (s.logMode).spoor = s.spoor := by obtain ⟨_, _, h⟩ := logMode_eq s; rw [h]
@[simp] theorem logMode_pmap (s : State) : (s.logMode).pmap = s.pmap := by obtain ⟨_, _, h⟩ := logMode_eq s; rw [h]
@[simp] theorem logMode_herd (s : State) : (s.logMode).herd = s.herd := by obtain ⟨_, _, h⟩ := logMode_eq s; rw [h]
@[simp] theorem logMode_host (s : State) : (s.logMode).host = s.host := by obtain ⟨_, _, h⟩ := logMode_eq s; rw [h]
@[simp] theorem logMode_img (s : State) : (s.logMode).img = s.img := by obtain ⟨_, _, h⟩ := logMode_eq s; rw [h]
@[simp] theorem logMode_otp (s : State) : (s.logMode).otp = s.otp := by obtain ⟨_, _, h⟩ := logMode_eq s; rw [h]
@[simp] theorem logMode_hold (s : State) : (s.logMode).hold = s.hold := by obtain ⟨_, _, h⟩ := logMode_eq s; rw [h]
@[simp] theorem logMode_stage (s : State) : (s.logMode).stage = s.stage := by obtain ⟨_, _, h⟩ := logMode_eq s; rw [h]
@[simp] theorem logMode_resp (s : State) : (s.logMode).resp = s.resp := by obtain ⟨_, _, h⟩ := logMode_eq s; rw [h]
@[simp] theorem logMode_out (s : State) : (s.logMode).out = s.out := by obtain ⟨_, _, h⟩ := logMode_eq s; rw [h]
@[simp] theorem logMode_pending (s : State) : (s.logMode).pending = s.pending := by obtain ⟨_, _, h⟩ := logMode_eq s; rw [h]

@[simp] theorem evalDegraded_regs (s : State) : (s.evalDegraded).regs = s.regs := by obtain ⟨_, _, _, h⟩ := evalDegraded_eq s; rw [h]
@[simp] theorem evalDegraded_hub (s : State) : (s.evalDegraded).hub = s.hub := by obtain ⟨_, _, _, h⟩ := evalDegraded_eq s; rw [h]
@[simp] theorem evalDegraded_rgn (s : State) : (s.evalDegraded).rgn = s.rgn := by obtain ⟨_, _, _, h⟩ := evalDegraded_eq s; rw [h]
@[simp] theorem evalDegraded_ana (s : State) : (s.evalDegraded).ana = s.ana := by obtain ⟨_, _, _, h⟩ := evalDegraded_eq s; rw [h]
@[simp] theorem evalDegraded_conv (s : State) : (s.evalDegraded).conv = s.conv := by obtain ⟨_, _, _, h⟩ := evalDegraded_eq s; rw [h]
@[simp] theorem evalDegraded_comp (s : State) : (s.evalDegraded).comp = s.comp := by obtain ⟨_, _, _, h⟩ := evalDegraded_eq s; rw [h]
@[simp] theorem evalDegraded_pwm (s : State) : (s.evalDegraded).pwm = s.pwm := by obtain ⟨_, _, _, h⟩ := evalDegraded_eq s; rw [h]
@[simp] theorem evalDegraded_slots (s : State) : (s.evalDegraded).slots = s.slots := by obtain ⟨_, _, _, h⟩ := evalDegraded_eq s; rw [h]
@[simp] theorem evalDegraded_pgSub (s : State) : (s.evalDegraded).pgSub = s.pgSub := by obtain ⟨_, _, _, h⟩ := evalDegraded_eq s; rw [h]
@[simp] theorem evalDegraded_engines (s : State) : (s.evalDegraded).engines = s.engines := by obtain ⟨_, _, _, h⟩ := evalDegraded_eq s; rw [h]
@[simp] theorem evalDegraded_lemem (s : State) : (s.evalDegraded).lemem = s.lemem := by obtain ⟨_, _, _, h⟩ := evalDegraded_eq s; rw [h]
@[simp] theorem evalDegraded_fabs (s : State) : (s.evalDegraded).fabs = s.fabs := by obtain ⟨_, _, _, h⟩ := evalDegraded_eq s; rw [h]
@[simp] theorem evalDegraded_cfg (s : State) : (s.evalDegraded).cfg = s.cfg := by obtain ⟨_, _, _, h⟩ := evalDegraded_eq s; rw [h]
@[simp] theorem evalDegraded_pmap (s : State) : (s.evalDegraded).pmap = s.pmap := by obtain ⟨_, _, _, h⟩ := evalDegraded_eq s; rw [h]
@[simp] theorem evalDegraded_herd (s : State) : (s.evalDegraded).herd = s.herd := by obtain ⟨_, _, _, h⟩ := evalDegraded_eq s; rw [h]
@[simp] theorem evalDegraded_host (s : State) : (s.evalDegraded).host = s.host := by obtain ⟨_, _, _, h⟩ := evalDegraded_eq s; rw [h]
@[simp] theorem evalDegraded_img (s : State) : (s.evalDegraded).img = s.img := by obtain ⟨_, _, _, h⟩ := evalDegraded_eq s; rw [h]
@[simp] theorem evalDegraded_otp (s : State) : (s.evalDegraded).otp = s.otp := by obtain ⟨_, _, _, h⟩ := evalDegraded_eq s; rw [h]
@[simp] theorem evalDegraded_hold (s : State) : (s.evalDegraded).hold = s.hold := by obtain ⟨_, _, _, h⟩ := evalDegraded_eq s; rw [h]
@[simp] theorem evalDegraded_stage (s : State) : (s.evalDegraded).stage = s.stage := by obtain ⟨_, _, _, h⟩ := evalDegraded_eq s; rw [h]
@[simp] theorem evalDegraded_resp (s : State) : (s.evalDegraded).resp = s.resp := by obtain ⟨_, _, _, h⟩ := evalDegraded_eq s; rw [h]
@[simp] theorem evalDegraded_out (s : State) : (s.evalDegraded).out = s.out := by obtain ⟨_, _, _, h⟩ := evalDegraded_eq s; rw [h]
@[simp] theorem evalDegraded_pending (s : State) : (s.evalDegraded).pending = s.pending := by obtain ⟨_, _, _, h⟩ := evalDegraded_eq s; rw [h]

@[simp] theorem ledgerChanged_regs (s : State) : (s.ledgerChanged).regs = s.regs := by obtain ⟨_, _, _, h⟩ := ledgerChanged_eq s; rw [h]
@[simp] theorem ledgerChanged_hub (s : State) : (s.ledgerChanged).hub = s.hub := by obtain ⟨_, _, _, h⟩ := ledgerChanged_eq s; rw [h]
@[simp] theorem ledgerChanged_rgn (s : State) : (s.ledgerChanged).rgn = s.rgn := by obtain ⟨_, _, _, h⟩ := ledgerChanged_eq s; rw [h]
@[simp] theorem ledgerChanged_ana (s : State) : (s.ledgerChanged).ana = s.ana := by obtain ⟨_, _, _, h⟩ := ledgerChanged_eq s; rw [h]
@[simp] theorem ledgerChanged_conv (s : State) : (s.ledgerChanged).conv = s.conv := by obtain ⟨_, _, _, h⟩ := ledgerChanged_eq s; rw [h]
@[simp] theorem ledgerChanged_comp (s : State) : (s.ledgerChanged).comp = s.comp := by obtain ⟨_, _, _, h⟩ := ledgerChanged_eq s; rw [h]
@[simp] theorem ledgerChanged_pwm (s : State) : (s.ledgerChanged).pwm = s.pwm := by obtain ⟨_, _, _, h⟩ := ledgerChanged_eq s; rw [h]
@[simp] theorem ledgerChanged_slots (s : State) : (s.ledgerChanged).slots = s.slots := by obtain ⟨_, _, _, h⟩ := ledgerChanged_eq s; rw [h]
@[simp] theorem ledgerChanged_pgSub (s : State) : (s.ledgerChanged).pgSub = s.pgSub := by obtain ⟨_, _, _, h⟩ := ledgerChanged_eq s; rw [h]
@[simp] theorem ledgerChanged_engines (s : State) : (s.ledgerChanged).engines = s.engines := by obtain ⟨_, _, _, h⟩ := ledgerChanged_eq s; rw [h]
@[simp] theorem ledgerChanged_lemem (s : State) : (s.ledgerChanged).lemem = s.lemem := by obtain ⟨_, _, _, h⟩ := ledgerChanged_eq s; rw [h]
@[simp] theorem ledgerChanged_fabs (s : State) : (s.ledgerChanged).fabs = s.fabs := by obtain ⟨_, _, _, h⟩ := ledgerChanged_eq s; rw [h]
@[simp] theorem ledgerChanged_cfg (s : State) : (s.ledgerChanged).cfg = s.cfg := by obtain ⟨_, _, _, h⟩ := ledgerChanged_eq s; rw [h]
@[simp] theorem ledgerChanged_pmap (s : State) : (s.ledgerChanged).pmap = s.pmap := by obtain ⟨_, _, _, h⟩ := ledgerChanged_eq s; rw [h]
@[simp] theorem ledgerChanged_herd (s : State) : (s.ledgerChanged).herd = s.herd := by obtain ⟨_, _, _, h⟩ := ledgerChanged_eq s; rw [h]
@[simp] theorem ledgerChanged_host (s : State) : (s.ledgerChanged).host = s.host := by obtain ⟨_, _, _, h⟩ := ledgerChanged_eq s; rw [h]
@[simp] theorem ledgerChanged_img (s : State) : (s.ledgerChanged).img = s.img := by obtain ⟨_, _, _, h⟩ := ledgerChanged_eq s; rw [h]
@[simp] theorem ledgerChanged_otp (s : State) : (s.ledgerChanged).otp = s.otp := by obtain ⟨_, _, _, h⟩ := ledgerChanged_eq s; rw [h]
@[simp] theorem ledgerChanged_hold (s : State) : (s.ledgerChanged).hold = s.hold := by obtain ⟨_, _, _, h⟩ := ledgerChanged_eq s; rw [h]
@[simp] theorem ledgerChanged_stage (s : State) : (s.ledgerChanged).stage = s.stage := by obtain ⟨_, _, _, h⟩ := ledgerChanged_eq s; rw [h]
@[simp] theorem ledgerChanged_resp (s : State) : (s.ledgerChanged).resp = s.resp := by obtain ⟨_, _, _, h⟩ := ledgerChanged_eq s; rw [h]
@[simp] theorem ledgerChanged_out (s : State) : (s.ledgerChanged).out = s.out := by obtain ⟨_, _, _, h⟩ := ledgerChanged_eq s; rw [h]
@[simp] theorem ledgerChanged_pending (s : State) : (s.ledgerChanged).pending = s.pending := by obtain ⟨_, _, _, h⟩ := ledgerChanged_eq s; rw [h]

@[simp] theorem failPermanent_regs (s : State) : (s.failPermanent).regs = s.regs := by obtain ⟨_, _, _, h⟩ := failPermanent_eq s; rw [h]
@[simp] theorem failPermanent_hub (s : State) : (s.failPermanent).hub = s.hub := by obtain ⟨_, _, _, h⟩ := failPermanent_eq s; rw [h]
@[simp] theorem failPermanent_rgn (s : State) : (s.failPermanent).rgn = s.rgn := by obtain ⟨_, _, _, h⟩ := failPermanent_eq s; rw [h]
@[simp] theorem failPermanent_ana (s : State) : (s.failPermanent).ana = s.ana := by obtain ⟨_, _, _, h⟩ := failPermanent_eq s; rw [h]
@[simp] theorem failPermanent_conv (s : State) : (s.failPermanent).conv = s.conv := by obtain ⟨_, _, _, h⟩ := failPermanent_eq s; rw [h]
@[simp] theorem failPermanent_comp (s : State) : (s.failPermanent).comp = s.comp := by obtain ⟨_, _, _, h⟩ := failPermanent_eq s; rw [h]
@[simp] theorem failPermanent_pwm (s : State) : (s.failPermanent).pwm = s.pwm := by obtain ⟨_, _, _, h⟩ := failPermanent_eq s; rw [h]
@[simp] theorem failPermanent_slots (s : State) : (s.failPermanent).slots = s.slots := by obtain ⟨_, _, _, h⟩ := failPermanent_eq s; rw [h]
@[simp] theorem failPermanent_pgSub (s : State) : (s.failPermanent).pgSub = s.pgSub := by obtain ⟨_, _, _, h⟩ := failPermanent_eq s; rw [h]
@[simp] theorem failPermanent_engines (s : State) : (s.failPermanent).engines = s.engines := by obtain ⟨_, _, _, h⟩ := failPermanent_eq s; rw [h]
@[simp] theorem failPermanent_lemem (s : State) : (s.failPermanent).lemem = s.lemem := by obtain ⟨_, _, _, h⟩ := failPermanent_eq s; rw [h]
@[simp] theorem failPermanent_fabs (s : State) : (s.failPermanent).fabs = s.fabs := by obtain ⟨_, _, _, h⟩ := failPermanent_eq s; rw [h]
@[simp] theorem failPermanent_cfg (s : State) : (s.failPermanent).cfg = s.cfg := by obtain ⟨_, _, _, h⟩ := failPermanent_eq s; rw [h]
@[simp] theorem failPermanent_pmap (s : State) : (s.failPermanent).pmap = s.pmap := by obtain ⟨_, _, _, h⟩ := failPermanent_eq s; rw [h]
@[simp] theorem failPermanent_herd (s : State) : (s.failPermanent).herd = s.herd := by obtain ⟨_, _, _, h⟩ := failPermanent_eq s; rw [h]
@[simp] theorem failPermanent_host (s : State) : (s.failPermanent).host = s.host := by obtain ⟨_, _, _, h⟩ := failPermanent_eq s; rw [h]
@[simp] theorem failPermanent_img (s : State) : (s.failPermanent).img = s.img := by obtain ⟨_, _, _, h⟩ := failPermanent_eq s; rw [h]
@[simp] theorem failPermanent_otp (s : State) : (s.failPermanent).otp = s.otp := by obtain ⟨_, _, _, h⟩ := failPermanent_eq s; rw [h]
@[simp] theorem failPermanent_hold (s : State) : (s.failPermanent).hold = s.hold := by obtain ⟨_, _, _, h⟩ := failPermanent_eq s; rw [h]
@[simp] theorem failPermanent_stage (s : State) : (s.failPermanent).stage = s.stage := by obtain ⟨_, _, _, h⟩ := failPermanent_eq s; rw [h]
@[simp] theorem failPermanent_resp (s : State) : (s.failPermanent).resp = s.resp := by obtain ⟨_, _, _, h⟩ := failPermanent_eq s; rw [h]
@[simp] theorem failPermanent_out (s : State) : (s.failPermanent).out = s.out := by obtain ⟨_, _, _, h⟩ := failPermanent_eq s; rw [h]
@[simp] theorem failPermanent_pending (s : State) : (s.failPermanent).pending = s.pending := by obtain ⟨_, _, _, h⟩ := failPermanent_eq s; rw [h]

@[simp] theorem useSpare_regs (s : State) (k r b c : Nat) : (s.useSpare k r b c).regs = s.regs := by obtain ⟨_, _, _, h⟩ := useSpare_eq s k r b c; rw [h]
@[simp] theorem useSpare_hub (s : State) (k r b c : Nat) : (s.useSpare k r b c).hub = s.hub := by obtain ⟨_, _, _, h⟩ := useSpare_eq s k r b c; rw [h]
@[simp] theorem useSpare_rgn (s : State) (k r b c : Nat) : (s.useSpare k r b c).rgn = s.rgn := by obtain ⟨_, _, _, h⟩ := useSpare_eq s k r b c; rw [h]
@[simp] theorem useSpare_ana (s : State) (k r b c : Nat) : (s.useSpare k r b c).ana = s.ana := by obtain ⟨_, _, _, h⟩ := useSpare_eq s k r b c; rw [h]
@[simp] theorem useSpare_conv (s : State) (k r b c : Nat) : (s.useSpare k r b c).conv = s.conv := by obtain ⟨_, _, _, h⟩ := useSpare_eq s k r b c; rw [h]
@[simp] theorem useSpare_comp (s : State) (k r b c : Nat) : (s.useSpare k r b c).comp = s.comp := by obtain ⟨_, _, _, h⟩ := useSpare_eq s k r b c; rw [h]
@[simp] theorem useSpare_pwm (s : State) (k r b c : Nat) : (s.useSpare k r b c).pwm = s.pwm := by obtain ⟨_, _, _, h⟩ := useSpare_eq s k r b c; rw [h]
@[simp] theorem useSpare_slots (s : State) (k r b c : Nat) : (s.useSpare k r b c).slots = s.slots := by obtain ⟨_, _, _, h⟩ := useSpare_eq s k r b c; rw [h]
@[simp] theorem useSpare_pgSub (s : State) (k r b c : Nat) : (s.useSpare k r b c).pgSub = s.pgSub := by obtain ⟨_, _, _, h⟩ := useSpare_eq s k r b c; rw [h]
@[simp] theorem useSpare_engines (s : State) (k r b c : Nat) : (s.useSpare k r b c).engines = s.engines := by obtain ⟨_, _, _, h⟩ := useSpare_eq s k r b c; rw [h]
@[simp] theorem useSpare_lemem (s : State) (k r b c : Nat) : (s.useSpare k r b c).lemem = s.lemem := by obtain ⟨_, _, _, h⟩ := useSpare_eq s k r b c; rw [h]
@[simp] theorem useSpare_fabs (s : State) (k r b c : Nat) : (s.useSpare k r b c).fabs = s.fabs := by obtain ⟨_, _, _, h⟩ := useSpare_eq s k r b c; rw [h]
@[simp] theorem useSpare_cfg (s : State) (k r b c : Nat) : (s.useSpare k r b c).cfg = s.cfg := by obtain ⟨_, _, _, h⟩ := useSpare_eq s k r b c; rw [h]
@[simp] theorem useSpare_pmap (s : State) (k r b c : Nat) : (s.useSpare k r b c).pmap = s.pmap := by obtain ⟨_, _, _, h⟩ := useSpare_eq s k r b c; rw [h]
@[simp] theorem useSpare_herd (s : State) (k r b c : Nat) : (s.useSpare k r b c).herd = s.herd := by obtain ⟨_, _, _, h⟩ := useSpare_eq s k r b c; rw [h]
@[simp] theorem useSpare_host (s : State) (k r b c : Nat) : (s.useSpare k r b c).host = s.host := by obtain ⟨_, _, _, h⟩ := useSpare_eq s k r b c; rw [h]
@[simp] theorem useSpare_img (s : State) (k r b c : Nat) : (s.useSpare k r b c).img = s.img := by obtain ⟨_, _, _, h⟩ := useSpare_eq s k r b c; rw [h]
@[simp] theorem useSpare_otp (s : State) (k r b c : Nat) : (s.useSpare k r b c).otp = s.otp := by obtain ⟨_, _, _, h⟩ := useSpare_eq s k r b c; rw [h]
@[simp] theorem useSpare_hold (s : State) (k r b c : Nat) : (s.useSpare k r b c).hold = s.hold := by obtain ⟨_, _, _, h⟩ := useSpare_eq s k r b c; rw [h]
@[simp] theorem useSpare_stage (s : State) (k r b c : Nat) : (s.useSpare k r b c).stage = s.stage := by obtain ⟨_, _, _, h⟩ := useSpare_eq s k r b c; rw [h]
@[simp] theorem useSpare_resp (s : State) (k r b c : Nat) : (s.useSpare k r b c).resp = s.resp := by obtain ⟨_, _, _, h⟩ := useSpare_eq s k r b c; rw [h]
@[simp] theorem useSpare_out (s : State) (k r b c : Nat) : (s.useSpare k r b c).out = s.out := by obtain ⟨_, _, _, h⟩ := useSpare_eq s k r b c; rw [h]
@[simp] theorem useSpare_pending (s : State) (k r b c : Nat) : (s.useSpare k r b c).pending = s.pending := by obtain ⟨_, _, _, h⟩ := useSpare_eq s k r b c; rw [h]

@[simp] theorem safeEval_regs (s : State) : (s.safeEval).regs = s.regs := by obtain ⟨_, _, h⟩ := safeEval_eq s; rw [h]
@[simp] theorem safeEval_hub (s : State) : (s.safeEval).hub = s.hub := by obtain ⟨_, _, h⟩ := safeEval_eq s; rw [h]
@[simp] theorem safeEval_rgn (s : State) : (s.safeEval).rgn = s.rgn := by obtain ⟨_, _, h⟩ := safeEval_eq s; rw [h]
@[simp] theorem safeEval_ana (s : State) : (s.safeEval).ana = s.ana := by obtain ⟨_, _, h⟩ := safeEval_eq s; rw [h]
@[simp] theorem safeEval_conv (s : State) : (s.safeEval).conv = s.conv := by obtain ⟨_, _, h⟩ := safeEval_eq s; rw [h]
@[simp] theorem safeEval_comp (s : State) : (s.safeEval).comp = s.comp := by obtain ⟨_, _, h⟩ := safeEval_eq s; rw [h]
@[simp] theorem safeEval_pwm (s : State) : (s.safeEval).pwm = s.pwm := by obtain ⟨_, _, h⟩ := safeEval_eq s; rw [h]
@[simp] theorem safeEval_slots (s : State) : (s.safeEval).slots = s.slots := by obtain ⟨_, _, h⟩ := safeEval_eq s; rw [h]
@[simp] theorem safeEval_pgSub (s : State) : (s.safeEval).pgSub = s.pgSub := by obtain ⟨_, _, h⟩ := safeEval_eq s; rw [h]
@[simp] theorem safeEval_engines (s : State) : (s.safeEval).engines = s.engines := by obtain ⟨_, _, h⟩ := safeEval_eq s; rw [h]
@[simp] theorem safeEval_lemem (s : State) : (s.safeEval).lemem = s.lemem := by obtain ⟨_, _, h⟩ := safeEval_eq s; rw [h]
@[simp] theorem safeEval_fabs (s : State) : (s.safeEval).fabs = s.fabs := by obtain ⟨_, _, h⟩ := safeEval_eq s; rw [h]
@[simp] theorem safeEval_cfg (s : State) : (s.safeEval).cfg = s.cfg := by obtain ⟨_, _, h⟩ := safeEval_eq s; rw [h]
@[simp] theorem safeEval_pmap (s : State) : (s.safeEval).pmap = s.pmap := by obtain ⟨_, _, h⟩ := safeEval_eq s; rw [h]
@[simp] theorem safeEval_herd (s : State) : (s.safeEval).herd = s.herd := by obtain ⟨_, _, h⟩ := safeEval_eq s; rw [h]
@[simp] theorem safeEval_host (s : State) : (s.safeEval).host = s.host := by obtain ⟨_, _, h⟩ := safeEval_eq s; rw [h]
@[simp] theorem safeEval_img (s : State) : (s.safeEval).img = s.img := by obtain ⟨_, _, h⟩ := safeEval_eq s; rw [h]
@[simp] theorem safeEval_otp (s : State) : (s.safeEval).otp = s.otp := by obtain ⟨_, _, h⟩ := safeEval_eq s; rw [h]
@[simp] theorem safeEval_hold (s : State) : (s.safeEval).hold = s.hold := by obtain ⟨_, _, h⟩ := safeEval_eq s; rw [h]
@[simp] theorem safeEval_stage (s : State) : (s.safeEval).stage = s.stage := by obtain ⟨_, _, h⟩ := safeEval_eq s; rw [h]
@[simp] theorem safeEval_resp (s : State) : (s.safeEval).resp = s.resp := by obtain ⟨_, _, h⟩ := safeEval_eq s; rw [h]
@[simp] theorem safeEval_out (s : State) : (s.safeEval).out = s.out := by obtain ⟨_, _, h⟩ := safeEval_eq s; rw [h]
@[simp] theorem safeEval_freeCtr (s : State) : (s.safeEval).freeCtr = s.freeCtr := by obtain ⟨_, _, h⟩ := safeEval_eq s; rw [h]
@[simp] theorem safeEval_pending (s : State) : (s.safeEval).pending = s.pending := by obtain ⟨_, _, h⟩ := safeEval_eq s; rw [h]

@[simp] theorem safeAssert_regs (s : State) (b : Nat) (l m : Bool) : (s.safeAssert b l m).regs = s.regs := by obtain ⟨_, _, h⟩ := safeAssert_eq s b l m; rw [h]
@[simp] theorem safeAssert_hub (s : State) (b : Nat) (l m : Bool) : (s.safeAssert b l m).hub = s.hub := by obtain ⟨_, _, h⟩ := safeAssert_eq s b l m; rw [h]
@[simp] theorem safeAssert_rgn (s : State) (b : Nat) (l m : Bool) : (s.safeAssert b l m).rgn = s.rgn := by obtain ⟨_, _, h⟩ := safeAssert_eq s b l m; rw [h]
@[simp] theorem safeAssert_ana (s : State) (b : Nat) (l m : Bool) : (s.safeAssert b l m).ana = s.ana := by obtain ⟨_, _, h⟩ := safeAssert_eq s b l m; rw [h]
@[simp] theorem safeAssert_conv (s : State) (b : Nat) (l m : Bool) : (s.safeAssert b l m).conv = s.conv := by obtain ⟨_, _, h⟩ := safeAssert_eq s b l m; rw [h]
@[simp] theorem safeAssert_comp (s : State) (b : Nat) (l m : Bool) : (s.safeAssert b l m).comp = s.comp := by obtain ⟨_, _, h⟩ := safeAssert_eq s b l m; rw [h]
@[simp] theorem safeAssert_pwm (s : State) (b : Nat) (l m : Bool) : (s.safeAssert b l m).pwm = s.pwm := by obtain ⟨_, _, h⟩ := safeAssert_eq s b l m; rw [h]
@[simp] theorem safeAssert_slots (s : State) (b : Nat) (l m : Bool) : (s.safeAssert b l m).slots = s.slots := by obtain ⟨_, _, h⟩ := safeAssert_eq s b l m; rw [h]
@[simp] theorem safeAssert_pgSub (s : State) (b : Nat) (l m : Bool) : (s.safeAssert b l m).pgSub = s.pgSub := by obtain ⟨_, _, h⟩ := safeAssert_eq s b l m; rw [h]
@[simp] theorem safeAssert_engines (s : State) (b : Nat) (l m : Bool) : (s.safeAssert b l m).engines = s.engines := by obtain ⟨_, _, h⟩ := safeAssert_eq s b l m; rw [h]
@[simp] theorem safeAssert_lemem (s : State) (b : Nat) (l m : Bool) : (s.safeAssert b l m).lemem = s.lemem := by obtain ⟨_, _, h⟩ := safeAssert_eq s b l m; rw [h]
@[simp] theorem safeAssert_fabs (s : State) (b : Nat) (l m : Bool) : (s.safeAssert b l m).fabs = s.fabs := by obtain ⟨_, _, h⟩ := safeAssert_eq s b l m; rw [h]
@[simp] theorem safeAssert_cfg (s : State) (b : Nat) (l m : Bool) : (s.safeAssert b l m).cfg = s.cfg := by obtain ⟨_, _, h⟩ := safeAssert_eq s b l m; rw [h]
@[simp] theorem safeAssert_pmap (s : State) (b : Nat) (l m : Bool) : (s.safeAssert b l m).pmap = s.pmap := by obtain ⟨_, _, h⟩ := safeAssert_eq s b l m; rw [h]
@[simp] theorem safeAssert_herd (s : State) (b : Nat) (l m : Bool) : (s.safeAssert b l m).herd = s.herd := by obtain ⟨_, _, h⟩ := safeAssert_eq s b l m; rw [h]
@[simp] theorem safeAssert_host (s : State) (b : Nat) (l m : Bool) : (s.safeAssert b l m).host = s.host := by obtain ⟨_, _, h⟩ := safeAssert_eq s b l m; rw [h]
@[simp] theorem safeAssert_img (s : State) (b : Nat) (l m : Bool) : (s.safeAssert b l m).img = s.img := by obtain ⟨_, _, h⟩ := safeAssert_eq s b l m; rw [h]
@[simp] theorem safeAssert_otp (s : State) (b : Nat) (l m : Bool) : (s.safeAssert b l m).otp = s.otp := by obtain ⟨_, _, h⟩ := safeAssert_eq s b l m; rw [h]
@[simp] theorem safeAssert_hold (s : State) (b : Nat) (l m : Bool) : (s.safeAssert b l m).hold = s.hold := by obtain ⟨_, _, h⟩ := safeAssert_eq s b l m; rw [h]
@[simp] theorem safeAssert_stage (s : State) (b : Nat) (l m : Bool) : (s.safeAssert b l m).stage = s.stage := by obtain ⟨_, _, h⟩ := safeAssert_eq s b l m; rw [h]
@[simp] theorem safeAssert_resp (s : State) (b : Nat) (l m : Bool) : (s.safeAssert b l m).resp = s.resp := by obtain ⟨_, _, h⟩ := safeAssert_eq s b l m; rw [h]
@[simp] theorem safeAssert_out (s : State) (b : Nat) (l m : Bool) : (s.safeAssert b l m).out = s.out := by obtain ⟨_, _, h⟩ := safeAssert_eq s b l m; rw [h]
@[simp] theorem safeAssert_freeCtr (s : State) (b : Nat) (l m : Bool) : (s.safeAssert b l m).freeCtr = s.freeCtr := by obtain ⟨_, _, h⟩ := safeAssert_eq s b l m; rw [h]
@[simp] theorem safeAssert_pending (s : State) (b : Nat) (l m : Bool) : (s.safeAssert b l m).pending = s.pending := by obtain ⟨_, _, h⟩ := safeAssert_eq s b l m; rw [h]

end Sys2Proof.Machine
end

