-- ==== Sys2Proof/Laws/Frame.lean ====
section
/-!
SUPPORT. The frame: what `Within` says composes, and each shared operation's own frame, which the frame of a command cites.
-/

namespace Sys2Proof.Machine

/-! ### Within composes -/

theorem Within.refl (c : Scope) (s : State) : Within c s s := by
  constructor <;> intros <;> first | exact Or.inl rfl | rfl

/-- One part of a frame, over two steps. -/
theorem part_trans {α : Sort _} {x y z : α} {p : Prop} (h : y = x ∨ p) (g : z = y ∨ p) : z = x ∨ p := by
  cases h with
  | inr h => exact Or.inr h
  | inl h => cases g with
    | inr g => exact Or.inr g
    | inl g => exact Or.inl (g.trans h)

theorem Within.trans {c : Scope} {s t u : State} (h : Within c s t) (g : Within c t u) : Within c s u where
  regs k a hk := part_trans (h.regs k a hk) (g.regs k a hk)
  own a := part_trans (h.own a) (g.own a)
  mirror := part_trans h.mirror g.mirror
  hub := part_trans h.hub g.hub
  rgn k := part_trans (h.rgn k) (g.rgn k)
  ana k := part_trans (h.ana k) (g.ana k)
  conv k := part_trans (h.conv k) (g.conv k)
  comp k := part_trans (h.comp k) (g.comp k)
  pwm k := part_trans (h.pwm k) (g.pwm k)
  slots k := part_trans (h.slots k) (g.slots k)
  pgSub k := part_trans (h.pgSub k) (g.pgSub k)
  engines k := part_trans (h.engines k) (g.engines k)
  lemem a := part_trans (h.lemem a) (g.lemem a)
  fabs k := part_trans (h.fabs k) (g.fabs k)
  loading := part_trans h.loading g.loading
  partLoad := part_trans h.partLoad g.partLoad
  frames := part_trans h.frames g.frames
  jobs := part_trans h.jobs g.jobs
  alarms := part_trans h.alarms g.alarms
  records := part_trans h.records g.records
  flows k := part_trans (h.flows k) (g.flows k)
  admission := part_trans h.admission g.admission
  delivery := part_trans h.delivery g.delivery
  hostWrites := part_trans h.hostWrites g.hostWrites
  postings k := part_trans (h.postings k) (g.postings k)
  herdPort k := part_trans (h.herdPort k) (g.herdPort k)
  herdNode := part_trans h.herdNode g.herdNode
  hostPort k := part_trans (h.hostPort k) (g.hostPort k)
  msix := part_trans h.msix g.msix
  sideband := part_trans h.sideband g.sideband
  tap := part_trans h.tap g.tap
  balls := part_trans h.balls g.balls
  retention := part_trans h.retention g.retention
  settWrites := part_trans h.settWrites g.settWrites
  power := part_trans h.power g.power
  safeHold := part_trans h.safeHold g.safeHold
  energy := part_trans h.energy g.energy
  wear := part_trans h.wear g.wear
  img := part_trans h.img g.img
  otp := part_trans h.otp g.otp
  held := part_trans h.held g.held
  staged := part_trans h.staged g.staged
  answers := part_trans h.answers g.answers
  pending := g.pending.trans h.pending

/-- A scope that names more allows more. -/
theorem Within.mono {c d : Scope} {s t : State} (h : Within c s t) (hp : ∀ p ∈ c.places, p ∈ d.places)
    (hw : ∀ x ∈ c.spots, x ∈ d.spots) : Within d s t := by
  have hk : ∀ (p : Option Nat → Place) (k : Nat), c.key p k → d.key p k := fun p k g => g.imp (hp _) (hp _)
  have hs : ∀ k a, c.word k a → d.word k a := fun k a ⟨x, hx, g⟩ => ⟨x, hw x hx, g⟩
  constructor
  case regs => exact fun k a hn => (h.regs k a hn).imp id (hs k a)
  case own => exact fun a => (h.own a).imp id (hs _ a)
  case pending => exact h.pending
  case rgn => exact fun k => (h.rgn k).imp id (hk _ k)
  case ana => exact fun k => (h.ana k).imp id (hk _ k)
  case conv => exact fun k => (h.conv k).imp id (hk _ k)
  case comp => exact fun k => (h.comp k).imp id (hk _ k)
  case pwm => exact fun k => (h.pwm k).imp id (hk _ k)
  case slots => exact fun k => (h.slots k).imp id (hk _ k)
  case pgSub => exact fun k => (h.pgSub k).imp id (hk _ k)
  case engines => exact fun k => (h.engines k).imp id (hk _ k)
  case lemem => exact fun k => (h.lemem k).imp id (hk _ k)
  case fabs => exact fun k => (h.fabs k).imp id (hk _ k)
  case flows => exact fun k => (h.flows k).imp id (hk _ k)
  case postings => exact fun k => (h.postings k).imp id (hk _ k)
  case herdPort => exact fun k => (h.herdPort k).imp id (hk _ k)
  case hostPort => exact fun k => (h.hostPort k).imp id (hk _ k)
  case mirror => exact h.mirror.imp id (hp _)
  case hub => exact h.hub.imp id (hp _)
  case loading => exact h.loading.imp id (hp _)
  case partLoad => exact h.partLoad.imp id (hp _)
  case frames => exact h.frames.imp id (hp _)
  case jobs => exact h.jobs.imp id (hp _)
  case alarms => exact h.alarms.imp id (hp _)
  case records => exact h.records.imp id (hp _)
  case admission => exact h.admission.imp id (hp _)
  case delivery => exact h.delivery.imp id (hp _)
  case hostWrites => exact h.hostWrites.imp id (hp _)
  case herdNode => exact h.herdNode.imp id (hp _)
  case msix => exact h.msix.imp id (hp _)
  case sideband => exact h.sideband.imp id (hp _)
  case tap => exact h.tap.imp id (hp _)
  case balls => exact h.balls.imp id (hp _)
  case retention => exact h.retention.imp id (hp _)
  case settWrites => exact h.settWrites.imp id (hp _)
  case power => exact h.power.imp id (hp _)
  case safeHold => exact h.safeHold.imp id (hp _)
  case energy => exact h.energy.imp id (hp _)
  case wear => exact h.wear.imp id (hp _)
  case img => exact h.img.imp id (hp _)
  case otp => exact h.otp.imp id (hp _)
  case held => exact h.held.imp id (hp _)
  case staged => exact h.staged.imp id (hp _)
  case answers => exact h.answers.imp id (hp _)

/-- Both branches of a choice, and each step of a fold. -/
theorem Within.ite {c : Scope} {s t u : State} {p : Prop} [Decidable p] (h : p → Within c s t) (g : ¬p → Within c s u) :
    Within c s (if p then t else u) := by
  split
  · exact h ‹_›
  · exact g ‹_›

theorem Within.foldl {α : Type} {c : Scope} {f : State → α → State} (h : ∀ s x, Within c s (f s x)) :
    ∀ (l : List α) (s : State), Within c s (l.foldl f s)
  | [], s => Within.refl c s
  | x :: l, s => (h s x).trans (Within.foldl h l (f s x))

/-! ### Registers -/

/-- The word of register n of a name in a block is one of those that `one` covers. -/
theorem addr_mem_words (r : Reg) (b n : Nat) : r.addr b n ∈ r.words b n := by
  unfold Reg.words; split <;> simp

theorem Scope.word_one {c : Scope} {r : Reg} {b n : Nat} (h : .one r b n ∈ c.spots) : c.word r.blk (r.addr b n) :=
  ⟨_, h, rfl, addr_mem_words r b n⟩
theorem Scope.word_inBlock {c : Scope} {r : Reg} {b : Nat} (n : Nat) (h : .inBlock r b ∈ c.spots) :
    c.word r.blk (r.addr b n) := ⟨_, h, rfl, n, addr_mem_words r b n⟩
theorem Scope.word_here {c : Scope} {r : Reg} {q : Nat} (u n : Nat) (h : .here r q ∈ c.spots) :
    c.word r.blk (r.addr (r.blk.base q u) n) := ⟨_, h, rfl, u, n, addr_mem_words r _ n⟩
theorem Scope.word_every {c : Scope} {r : Reg} (q u n : Nat) (h : .every r ∈ c.spots) :
    c.word r.blk (r.addr (r.blk.base q u) n) := ⟨_, h, rfl, q, u, n, addr_mem_words r _ n⟩
theorem Scope.word_word {c : Scope} {a : Nat} (k : Blk) (h : .word a ∈ c.spots) : c.word k a := ⟨_, h, rfl⟩
theorem Scope.word_file {c : Scope} {k : Blk} (a : Nat) (h : .file k ∈ c.spots) : c.word k a := ⟨_, h, rfl⟩

/-- New register files: a word of none but the scope's differs. -/
theorem within_regs {c : Scope} (s : State) (x : Regs)
    (h : ∀ k a, k ≠ .sett → (x.tab k).get a = (s.regs.tab k).get a ∨ c.word k a)
    (m : x.sett = s.regs.sett ∨ .mirror ∈ c.places) : Within c s { s with regs := x } := by
  constructor
  case regs => exact h
  case mirror => exact m
  all_goals first | exact rfl | exact Or.inl rfl | exact fun _ => Or.inl rfl

/-- One word of one register file. -/
theorem within_put {c : Scope} (s : State) (j : Blk) (b : Nat) (v : Word) (hj : j ≠ .sett) (hw : c.word j b) :
    Within c s { s with regs := s.regs.put j ((s.regs.tab j).set b v) } := by
  apply within_regs
  · intro k a _
    by_cases hk : k = j
    · subst hk
      by_cases ha : a = b
      · subst ha; exact Or.inr hw
      · left; rw [Regs.tab_put_self, Tab.get_set_ne _ _ ha]
    · left; rw [Regs.tab_put_ne _ _ hk]
  · left; cases j <;> first | rfl | exact absurd rfl hj

theorem within_wr {c : Scope} (s : State) (r : Reg) (b n : Nat) (v : Word) (hj : r.blk ≠ .sett)
    (hw : c.word r.blk (r.addr b n)) : Within c s (s.wr r b n v) := within_put s r.blk _ v hj hw

theorem within_sf {c : Scope} (s : State) (f : Fld) (b n v : Nat) (hj : f.reg.blk ≠ .sett)
    (hw : c.word f.reg.blk (f.reg.addr b n)) : Within c s (s.sf f b n v) := within_wr s f.reg b n _ hj hw

theorem within_sb {c : Scope} (s : State) (f : Fld) (b n : Nat) (v : Bool) (hj : f.reg.blk ≠ .sett)
    (hw : c.word f.reg.blk (f.reg.addr b n)) : Within c s (s.sb f b n v) := within_sf s f b n _ hj hw

theorem within_orf {c : Scope} (s : State) (f : Fld) (b n bit : Nat) (hj : f.reg.blk ≠ .sett)
    (hw : c.word f.reg.blk (f.reg.addr b n)) : Within c s (s.orf f b n bit) := within_sf s f b n _ hj hw

theorem within_bump {c : Scope} (s : State) (f : Fld) (b n : Nat) (hj : f.reg.blk ≠ .sett)
    (hw : c.word f.reg.blk (f.reg.addr b n)) : Within c s (s.bump f b n) := within_sf s f b n _ hj hw

theorem within_count {c : Scope} (s : State) (f : Fld) (b n : Nat) (hj : f.reg.blk ≠ .sett)
    (hw : c.word f.reg.blk (f.reg.addr b n)) : Within c s (s.count f b n) := within_sf s f b n _ hj hw

theorem within_reject {c : Scope} (s : State) (ev cnt : Fld) (b : Nat) (he : ev.reg.blk ≠ .sett) (hc : cnt.reg.blk ≠ .sett)
    (we : c.word ev.reg.blk (ev.reg.addr b 0)) (wc : c.word cnt.reg.blk (cnt.reg.addr b 0)) :
    Within c s (s.reject ev cnt b) := (within_sb s ev b 0 true he we).trans (within_bump _ cnt b 0 hc wc)

/-! ### Tables and parts -/

/-- A table with one entry replaced differs at that key alone. -/
theorem set_part {α : Type} [DecidableEq α] {d : Nat → α} (t : Tab α d) (k : Nat) (v : α) (p : Nat → Prop) (h : p k) (j : Nat) :
    (t.set k v).get j = t.get j ∨ p j := by
  by_cases hj : j = k
  · subst hj; exact Or.inr h
  · exact Or.inl (Tab.get_set_ne _ _ hj)

theorem within_setRgn {c : Scope} (s : State) (r : Nat) (x : RgnS) (h : c.key .rgn r) :
    Within c s (s.setRgn r x) := by
  constructor
  case rgn => exact set_part s.rgn _ _ _ h
  all_goals first | exact rfl | exact Or.inl rfl | exact fun _ => Or.inl rfl | exact fun _ _ _ => Or.inl rfl

theorem within_setGrp {c : Scope} (s : State) (r g : Nat) (x : GrpS) (h : c.key .conv (grpKey r g)) :
    Within c s (s.setGrp r g x) := by
  constructor
  case conv => exact set_part s.conv _ _ _ h
  all_goals first | exact rfl | exact Or.inl rfl | exact fun _ => Or.inl rfl | exact fun _ _ _ => Or.inl rfl

theorem within_setEng {c : Scope} (s : State) (r : Nat) (x : EngS) (h : c.key .engines r) :
    Within c s (s.setEng r x) := by
  constructor
  case engines => exact set_part s.engines _ _ _ h
  all_goals first | exact rfl | exact Or.inl rfl | exact fun _ => Or.inl rfl | exact fun _ _ _ => Or.inl rfl

theorem within_setFab {c : Scope} (s : State) (r : Nat) (x : FabS) (h : c.key .fabs r) :
    Within c s (s.setFab r x) := by
  constructor
  case fabs => exact set_part s.fabs _ _ _ h
  all_goals first | exact rfl | exact Or.inl rfl | exact fun _ => Or.inl rfl | exact fun _ _ _ => Or.inl rfl

theorem within_setClu {c : Scope} (s : State) (r k : Nat) (x : CluS) (h : c.key .ana (cluKey r k)) :
    Within c s (s.setClu r k x) := by
  constructor
  case ana => exact set_part s.ana _ _ _ h
  all_goals first | exact rfl | exact Or.inl rfl | exact fun _ => Or.inl rfl | exact fun _ _ _ => Or.inl rfl

theorem within_setCmp {c : Scope} (s : State) (r k : Nat) (x : CmpS) (h : c.key .comp (r * 12 + k)) :
    Within c s (s.setCmp r k x) := by
  constructor
  case comp => exact set_part s.comp _ _ _ h
  all_goals first | exact rfl | exact Or.inl rfl | exact fun _ => Or.inl rfl | exact fun _ _ _ => Or.inl rfl

theorem within_setCh {c : Scope} (s : State) (r n : Nat) (x : ChS) (h : c.key .pwm (chKey r n)) :
    Within c s (s.setCh r n x) := by
  constructor
  case pwm => exact set_part s.pwm _ _ _ h
  all_goals first | exact rfl | exact Or.inl rfl | exact fun _ => Or.inl rfl | exact fun _ _ _ => Or.inl rfl

theorem within_setSlot {c : Scope} (s : State) (r g : Nat) (x : SlotS) (h : c.key .slots (chKey r g)) :
    Within c s (s.setSlot r g x) := by
  constructor
  case slots => exact set_part s.slots _ _ _ h
  all_goals first | exact rfl | exact Or.inl rfl | exact fun _ => Or.inl rfl | exact fun _ _ _ => Or.inl rfl

theorem within_setFlow {c : Scope} (s : State) (f : Nat) (x : FlowS) (h : c.key .flows f) :
    Within c s (s.setFlow f x) := by
  constructor
  case flows => exact set_part s.spoor.flows _ _ _ h
  all_goals first | exact rfl | exact Or.inl rfl | exact fun _ => Or.inl rfl | exact fun _ _ _ => Or.inl rfl

theorem within_setPost {c : Scope} (s : State) (f : Nat) (x : PostS) (h : c.key .postings f) :
    Within c s (s.setPost f x) := by
  constructor
  case postings => exact set_part s.pmap.flows _ _ _ h
  all_goals first | exact rfl | exact Or.inl rfl | exact fun _ => Or.inl rfl | exact fun _ _ _ => Or.inl rfl

theorem within_setHport {c : Scope} (s : State) (p : Nat) (x : HPortS) (h : c.key .herdPort p) :
    Within c s (s.setHport p x) := by
  constructor
  case herdPort => exact set_part s.herd.ports _ _ _ h
  all_goals first | exact rfl | exact Or.inl rfl | exact fun _ => Or.inl rfl | exact fun _ _ _ => Or.inl rfl

theorem within_setHost {c : Scope} (s : State) (p : Nat) (x : HPort) (h : c.key .hostPort p) :
    Within c s (s.setHost p x) := by
  constructor
  case hostPort => exact set_part s.host.ports _ _ _ h
  all_goals first | exact rfl | exact Or.inl rfl | exact fun _ => Or.inl rfl | exact fun _ _ _ => Or.inl rfl

theorem within_xySet {c : Scope} (s : State) (r : Nat) (y : Bool) (n : Nat) (v : BitVec 24)
    (h : c.key .lemem (xyAddr r y n)) : Within c s (xySet s r y n v) := by
  constructor
  case lemem => exact set_part s.lemem _ _ _ h
  all_goals first | exact rfl | exact Or.inl rfl | exact fun _ => Or.inl rfl | exact fun _ _ _ => Or.inl rfl

theorem within_setSb {c : Scope} (s : State) (x : SbS) (h : .sideband ∈ c.places) : Within c s (s.setSb x) := by
  constructor
  case sideband => exact Or.inr h
  all_goals first | exact rfl | exact Or.inl rfl | exact fun _ => Or.inl rfl | exact fun _ _ _ => Or.inl rfl

/-- A word of the Sett's own registers. -/
theorem within_setOwnW {c : Scope} (s : State) (r : Reg) (n : Nat) (v : Word) (h : c.word .sett (r.addr 0 n)) :
    Within c s (s.setOwnW r n v) := by
  constructor
  case own => exact set_part s.sett.own _ _ (c.word .sett) h
  all_goals first | exact rfl | exact Or.inl rfl | exact fun _ => Or.inl rfl | exact fun _ _ _ => Or.inl rfl

theorem within_setOwn {c : Scope} (s : State) (f : Fld) (n v : Nat) (h : c.word .sett (f.reg.addr 0 n)) :
    Within c s (s.setOwn f n v) := within_setOwnW s f.reg n _ h

/-- The incident log (R512): retention memory and SETT_LOG_WP. -/
theorem within_log {c : Scope} (s : State) (x : Src) (code : Nat) (d : BitVec 80) (hr : .retention ∈ c.places)
    (hl : logS ∈ c.spots) : Within c s (s.log x code d) := by
  unfold State.log
  refine Within.trans (t := { s with sett := { s.sett with ret := _ } }) ?_ (within_setOwn _ _ 0 _ (Scope.word_one hl))
  constructor
  case retention => exact Or.inr hr
  all_goals first | exact rfl | exact Or.inl rfl | exact fun _ => Or.inl rfl | exact fun _ _ _ => Or.inl rfl

/-- An alarm (R377, R378, R512): its slot, the network of records, the log. -/
theorem within_raiseT {c : Scope} (s : State) (x : Src) (ty code f : Nat) (d : BitVec 80) (ha : ∀ p ∈ alarmP, p ∈ c.places)
    (hl : logS ∈ c.spots) : Within c s (s.raiseT x ty code f d) := by
  have h0 : Within c s (if loggedCode code then s.log x code d else s) :=
    Within.ite (fun _ => within_log s x code d (ha _ (by simp [alarmP])) hl) fun _ => Within.refl c s
  have hs : Place.alarms ∈ c.places := ha _ (by simp [alarmP])
  have hr : Place.records ∈ c.places := ha _ (by simp [alarmP])
  unfold State.raiseT
  simp only
  split
  · refine h0.trans ?_
    constructor
    case alarms => exact Or.inr hs
    all_goals first | exact rfl | exact Or.inl rfl | exact fun _ => Or.inl rfl | exact fun _ _ _ => Or.inl rfl
  · refine h0.trans ?_
    constructor
    case alarms => exact Or.inr hs
    case records => exact Or.inr hr
    all_goals first | exact rfl | exact Or.inl rfl | exact fun _ => Or.inl rfl | exact fun _ _ _ => Or.inl rfl

theorem within_raise {c : Scope} (s : State) (x : Src) (code : Nat) (d : BitVec 80) (ha : ∀ p ∈ alarmP, p ∈ c.places)
    (hl : logS ∈ c.spots) : Within c s (s.raise x code d) := within_raiseT s x 0 code 0 d ha hl

/-- A signal out, a free value taken, and the signals of R465 that follow a command's effect. -/
theorem within_emit {c : Scope} (s : State) (e : Emit) : Within c s (s.emit e) := by
  constructor <;> intros <;> first | exact Or.inl rfl | rfl

theorem within_free {c : Scope} (s : State) : Within c s s.free.2 := by
  constructor <;> intros <;> first | exact Or.inl rfl | rfl

theorem within_answer {c : Scope} (s : State) (a : Reader) (v : DWord) (h : .answers ∈ c.places) : Within c s (s.answer a v) := by
  constructor
  case answers => exact Or.inr h
  all_goals first | exact rfl | exact Or.inl rfl | exact fun _ => Or.inl rfl | exact fun _ _ _ => Or.inl rfl

theorem within_settle {c : Scope} (s : State) : Within c s s.settle := by
  constructor <;> intros <;> first | (left; simp) | (left; simp [HostS.ballPart]) | simp

/-- The frame of a command is that of the state it hands to `after`, but for the queue and the fuses, which `after` keeps. -/
theorem keeps_after {c : Scope} {s t : State} (h : Within c s t) : Keeps (s.after t) (Within c s) := by
  intro u hu
  obtain rfl : { t.settle with pending := s.pending, otp := s.otp } = u := by
    simpa only [State.after, Host.Outcome.next.injEq] using hu
  have g := h.trans (within_settle t)
  exact { g with otp := Or.inl rfl, pending := rfl }

end Sys2Proof.Machine
end

