-- ==== Sys2Proof/Machine/Link.lean ====
section
/-!
DEFINITION. Herd frames as they cross the line: header, data and trailer blocks (12_herd.md, R425 to R427).
-/

namespace Sys2Proof.Machine

/-- A block on the line (R425, R426): its sync header and its 64 bits, the block type field of a control block in the low
eight. -/
structure LineBlock where
  sync : BitVec 2
  bits : DWord
  deriving DecidableEq, Repr

/-- A control block with its block type field and 56 bits. -/
def controlBlock (type : Nat) (v : BitVec 56) : LineBlock := ⟨0b10, BitVec.ofNat 64 (v.toNat * 256 + type)⟩

/-- Node IDs of a frame as the values it carries. -/
def bodyValues : Body → List Nat
  | .beacon id depth root anc => id :: depth :: root :: anc
  | .join node level parent root depth size ids => node :: level :: parent :: root :: depth :: size :: ids
  | .joinResp node res ofs => [node, res, ofs]
  | .leave id parent => [id, parent]
  | .move id depth parent => [id, depth] ++ parent.toList
  | .moveAck res => [res]
  | _ => []

/-- Blocks whose layout the spec does not give (log entry 16). -/
def openBlocks (b : Body) (n : Nat) : List DWord := (List.range n).map (Config.frameData b.kind (bodyValues b))

/-- The data blocks of a frame (R427); a JOIN has as many as its IDs ask for, up to 4. -/
def bodyBlocks (b : Body) : List DWord :=
  match b with
  | .credit => []
  | .nak => []
  | .dreq => []
  | .alarm rec => [0, 1, 2, 3].map fun i => (rec >>> (64 * i)).setWidth 64
  | .sync t1 => [t1]
  | .dresp t4 => [t4]
  | .cap w cyc => [DWord.ofHalves w cyc]
  | .demand d f => [DWord.ofHalves d f]
  | .beacon _ _ _ _ => openBlocks b 2
  | .join _ _ _ _ _ _ ids => openBlocks b (min 4 (ids.length / 4 + 1))
  | .joinResp _ _ _ => openBlocks b 1
  | .leave _ _ => openBlocks b 1
  | .move _ _ _ => openBlocks b 1
  | .moveAck _ => openBlocks b 1

/-- The 56 bits of a header (R426). -/
def headerBits (b : Body) (seq acred ccred ack srcCnt : Nat) : BitVec 56 :=
  BitVec.ofNat 56 (b.kind % 16 * 2 ^ 52 + seq % 4096 * 2 ^ 40 + (bodyBlocks b).length % 8 * 2 ^ 37 + acred % 32 * 2 ^ 32
    + ccred % 32 * 2 ^ 27 + ack % 4096 * 2 ^ 15 + srcCnt % 2 ^ 14)

/-- The CRC-32C over the header's 56 bits and the data blocks, least significant bit first (R426; no rule gives the order of
the bits: DESIGN CHOICE, log entry 220). -/
def frameCheck (head : BitVec 56) (blocks : List DWord) : Word :=
  let bits := (List.range 56).map head.getLsbD ++ (blocks.map fun d => (List.range 64).map d.getLsbD).flatten
  ~~~ bits.foldl (fun c b => crcBit (c ^^^ if b then 1 else 0)) 0xFFFF_FFFF

/-- A frame on the line (R426): header 0xD4, data blocks, trailer 0xE8 with the CRC. -/
def frameLine (b : Body) (seq acred ccred ack srcCnt : Nat) : List LineBlock :=
  let head := headerBits b seq acred ccred ack srcCnt
  controlBlock 0xD4 head :: ((bodyBlocks b).map fun d => ⟨0b01, d⟩)
    ++ [controlBlock 0xE8 (BitVec.ofNat 56 ((frameCheck head (bodyBlocks b)).toNat * 2 ^ 24))]

/-- The blocks of a frame that has left the part (R425, R426). -/
def Emit.line (e : Emit) : List LineBlock :=
  match e with
  | .frame _ seq acred ccred ack srcCnt body => frameLine body seq acred ccred ack srcCnt
  | _ => []

end Sys2Proof.Machine
end

