-- ==== Sys2Proof/Machine/Package.lean ====
section
/-!
DEFINITION. The ball map: where each signal ball of a region or of a port of a Field die lies (15_electrical_and_package.md, R552;
00_scope.md gives the letters of the rows).
-/

namespace Sys2Proof.Machine

/-- A position of the package: row index 1 (A) to 51 (BN), column 1 to 51 (R552). -/
structure Ball where
  row : Nat
  col : Nat
  deriving DecidableEq, Repr

/-- A position of the band of region 00 to 07, or of the mirrored band of region 08 to 15 (R552). -/
def inBand (die row col : Nat) : Ball := ⟨row, if die = 0 then col else 52 - col⟩

/-- Ball AIOnn_kk (R552). -/
def aioBall (r : Fin 16) (k : Fin 32) : Ball :=
  inBand (r.val / 8) (6 * (r.val % 8) + 1 + k.val / 8) (1 + k.val % 8)

/-- Ball FINnn_gP, or FINnn_gN (R552). -/
def finBall (r : Fin 16) (g : Fin 4) (neg : Bool) : Ball :=
  inBand (r.val / 8) (6 * (r.val % 8) + 5) (if neg then 2 + 2 * g.val else 1 + 2 * g.val)

/-- Ball PGOnn_cc (R552). -/
def pgoPos (r : Fin 16) (c : Fin 16) : Ball :=
  inBand (r.val / 8) (6 * (r.val % 8) + 1 + c.val / 8) (11 + c.val % 8)

/-- Pin j of a Field die's five ports, in the order A to E or F to J (R552). -/
def portBall (die : Fin 2) (j : Fin 80) : Ball := inBand die.val (6 * (j.val / 10) + 6) (1 + j.val % 10)

/-- The letters of the rows: I, O, Q, R, S, X and Z are left out (00_scope.md). -/
def rowLetters : List Char := "ABCDEFGHJKLMNPTUVWY".toList

/-- The name of a row: A to Y, then AA to AY, then BA to BN (00_scope.md). -/
def rowName (row : Nat) : String :=
  let n := row - 1
  let c := String.singleton (rowLetters.getD (n % 19) 'A')
  if n < 19 then c else if n < 38 then "A" ++ c else "B" ++ c

/-- The name of a ball: row letters and column number. -/
def Ball.name (b : Ball) : String := rowName b.row ++ toString b.col

end Sys2Proof.Machine
end

