-- ==== Sys2Proof/Tests/Slice0.lean ====
section
/-!
SUPPORT. Tests: ill-formed commands that the checks of WellFormed refuse, witnesses for the hypotheses of the obligations, and
single steps whose results the spec gives.
-/

open Sys2Proof Sys2Proof.Machine

section

set_option Elab.async false

/-- Reset with the region owned by the host. -/
def owned (r : Nat) : State := State.reset.sf F.RGN_STAT_OWNER (rgB r) 0 1

/-- Group 0 of region 3, owned by the host, in a state of CG_STAT. -/
def grpIn (st : Nat) : State := setCgState (owned 3) 3 0 st

/-- The same group with a pass on a channel, whose batch takes one sample. -/
def grpPass (st : Nat) (p : PassS) : State := (grpIn st).setGrp 3 0 { GrpS.reset with pass := some p }

/-- Comparator 0 of cluster 0 of region 3, active, in latch mode `lm` with COND 0, in a state of its own. -/
def cmpIn (lm : Nat) (h : HalfS) (blank : Nat) : State :=
  (((owned 3).sf F.WC_CMPm_CFG_MODE (acB 3 0) 0 2).sf F.WC_CMPm_CFG_LATCH (acB 3 0) 0 lm).setCmp 3 0
    { CmpS.reset with tgt := CmpS.reset.tgt.set 0 h, blank := CmpS.reset.blank.set 0 blank }

/-- Channel 0 of region 3, enabled with its group 3.0, in a state of its own. -/
def chIn (x : ChS) : State :=
  (((((owned 3).sb F.PG_CHcc_CFG_EN (pgB 3) 0 true).sf F.PG_CHcc_CFG_GRP_RGN (pgB 3) 0 3).sb F.PG_GRPg_CTRL_EN (pgB 3) 0 true).sf
    F.PG_GRPg_APPLIED_PER (pgB 3) 0 9600).setCh 3 0 x

/-- A parallel packet from its arithmetic operation, operands and move slots. -/
def par (op a x y f xs ys : Nat) : DWord :=
  BitVec.ofNat 64 (op * 2 ^ 50 + a * 2 ^ 47 + x * 2 ^ 42 + y * 2 ^ 37 + f * 2 ^ 32 + xs * 2 ^ 16 + ys)

/-- Control and immediate packets. -/
def ctlW (op low : Nat) : DWord := BitVec.ofNat 64 (2 ^ 63 + op * 2 ^ 52 + low)
def immW (cls i v : Nat) : DWord := BitVec.ofNat 64 (2 ^ 62 + cls * 2 ^ 55 + i * 2 ^ 50 + v)

/-- A state with packets at the start of an engine's program memory. -/
def withProg (s : State) (r : Nat) (l : List DWord) : State :=
  ((List.range l.length).zip l).foldl (fun s p =>
    { s with lemem := (s.lemem.set (progAddr r p.1) p.2.lo).set (progAddr r p.1 + 4) p.2.hi }) s

/-- A running engine with some data. -/
def engRun : EngS :=
  { EngS.reset with
    mode := .running,
    main := { RegSet.reset with
      a := (RegSet.reset.a.set 0 0x600000).set 1 5, d := (((RegSet.reset.d.set 0 3).set 1 4).set 2 0x400000).set 4 7 } }

/-- The engine of region 3, running, with packets from 0 on. -/
def leRunning (l : List DWord) : State := withProg ((owned 3).setEng 3 engRun) 3 l

/-- A header of R320 with CRC `crc`. -/
def hdrW (kind enc slot mask frames : Nat) (crc : Word) : BitVec 2048 :=
  BitVec.ofNat 2048 (0x474C_5854 + 2 ^ 32 + kind * 2 ^ 48 + enc * 2 ^ 56 + slot * 2 ^ 72 + mask * 2 ^ 80 + frames * 2 ^ 128
    + crc.toNat * 2 ^ 192)

/-- A record of R321, and a frame held in configuration memory. -/
def recW (a : Word) (d : BitVec 1024) : BitVec 1088 :=
  a.setWidth 1088 ||| d.setWidth 1088 <<< 32 ||| (frameCrc a d).setWidth 1088 <<< 1056
def frame5 : FrameC := ⟨0, 0, 249964034, false, none⟩

/-- Reset with a full load at a state of CFG_STAT, its key slots open to every kind. -/
def loadingAt (st : Nat) (l : LoadS) : State :=
  { ((State.reset.sf F.CFG_STAT_STATE 0 0 st).sf F.CFG_STAT_ATTEMPT 0 0 1).sf F.SEC_SLOTS_SLOTS 0 0 0x7777 with
    cfg := { CfgS.reset with load := some l } }

/-- A load from flash whose header has arrived. -/
def loadW (h : BitVec 2048) : LoadS := { LoadS.start (.flash false) 0 0 with hdr := some h }

/-- An image runs. -/
def imageUp : State := ({ owned 3 with sett := { State.reset.sett with phase := .running, porstLow := false } } : State).sf F.CFG_STAT_CFG_DONE 0 0 1

/-- An image runs, and a partial load is at a state of CFG_PR_STAT. -/
def partAt (st : Nat) (p : PrS) : State :=
  { ((imageUp).sf F.CFG_PR_STAT_STATE 0 0 st).sf F.SEC_SLOTS_SLOTS 0 0 0x7777 with
    cfg := { CfgS.reset with pr := some p } }

/-- A partial load from flash, asked for by host port A. -/
def prW (l : LoadS) : PrS := ⟨l, some .hla, 0, 0, true, false⟩

/-- A record of the fabric of region 3, of class 2 and flow 5. -/
def itemW (conf : Bool) : Item := { mkItem State.reset (srcRgn 3 unitFab) 3 2 5 0 7 with conf := conf }

/-- A flow of rate 1000, burst 4 and deadline 100. -/
def flowW (st : FlowState) : FlowS :=
  { FlowS.reset with st := st, d0 := 0x4800_03E8, d1 := 0x4_0000, d2 := 100 }

/-- Admission has started, posting goes by HLA, and flow 5 stands as `st`. -/
def flowAt (st : FlowState) : State :=
  ({ State.reset with spoor := { SpoorS.reset with started := true, c16 := 16 * 15754 } }.sf F.PMAP_STAT_PORT 0 0 1).setFlow 5 (flowW st)

/-- Records at a hop and at a source interface. -/
def withHop (s : State) (h : Nat) (l : List Item) : State := { s with spoor := { s.spoor with hops := s.spoor.hops.set h l } }
def withSrc (s : State) (x : Src) (l : List Item) : State := { s with spoor := { s.spoor with srcQ := s.spoor.srcQ.set x.key l } }

/-- Port p is up and can post. -/
def portUp (s : State) (p : Nat) : State :=
  let s1 := (s.sf F.HOST_p_STAT_MODE 0 p 1).sf F.HOST_p_STAT_BME 0 p 1
  if p = 0 then (s1.sf F.PMAP_CTRL_EN_A 0 0 1).sf F.PMAP_ROOT_A_V 0 0 1 else (s1.sf F.PMAP_CTRL_EN_B 0 0 1).sf F.PMAP_ROOT_B_V 0 0 1

/-- Posting goes by HLA; flow 5, of hold limit 9, is accepted. -/
def posting : State :=
  ((portUp (flowAt .accepted) 0).setFlow 5 { flowW .accepted with d1 := 0x4_0009 })

/-- A leaf entry: ring of 128 records at 0x10000, write pointer at 0x20000. -/
def leafW : Leaf := ⟨0x1_0381, 0x2_0000, 0x3_0000, 0⟩

/-- A walk of flow 5 at a stage. -/
def walking (st : WalkStage) : State := posting.setPost 5 { PostS.reset with walk := some ⟨st, 0, 0, 0, false, false⟩ }

/-- A Herd node of ID 7 that runs, with port p in a state. -/
def herdAt (p st : Nat) : State :=
  { ((State.reset.sf F.HERD_CTRL_EN 0 0 1).sf F.HERD_CTRL_PORT_EN 0 0 63).setHpState p st with
    sett := { State.reset.sett with phase := .running }, herd := { HerdS.reset with id := 7 } }

/-- The same node as a root. -/
def herdRoot (p st : Nat) : State := (herdAt p st).sf F.HERD_CTRL_ROOT 0 0 1

/-- The same node with its uplink on port p. -/
def herdLeaf (p : Nat) : State := (herdAt p 2).setParent p ⟨9, 2, 9, []⟩

def hdr0 : Hdr := ⟨0, 0, 0, 0, 0⟩

/-- The Hub runs. -/
def running : State := { State.reset with sett := { State.reset.sett with phase := .running, porstLow := false } }

/-- Port p's link is up as well. -/
def linked (p : Nat) : State := portUp running p

/-- The running package with something changed that the Sett holds. -/
def sett (f : SettS → SettS) : State := { running with sett := f running.sett }

/-- The package in Dormant. -/
def asleep : State := sett fun x => { x with phase := .dormant }

/-- Region 3 configured; its clock is Running. -/
def cfgd (s : State) : State := s.setRgn 3 { RgnS.reset with configured := true }

/-- The records of a RELOC image of cluster 0 of region 3, its digest, and a relocation of that cluster in step 1. -/
def relocRecs : List (BitVec 1088) :=
  (List.range 26).map fun i => recW (BitVec.ofNat 32 (relocFrame 3 0 i)) 0
def relocDigW : DigS := ⟨33665252767955593471610433261583943307017546682244418962534731579940592551629646863138060812595889457100132187529719, false, [], 0, 26, 0, false⟩
def relocW : State :=
  { (State.reset.sf F.FAB_RELOC_STAT_STATE (fabB 3) 0 1) with
    cfg := { CfgS.reset with relocs := CfgS.reset.relocs.set 384 (some 0), digs := CfgS.reset.digs.set 0 (some relocDigW) } }

theorem wit_StepTakesTheFront :
    (∃ (c : Instr) (l : List Instr) (s : State), s.pending = c :: l) ∧
    (∃ s : State, s.pending = [] ∧ s.hub.timeOn = false) ∧
    (∃ s : State, s.hub.timeOn = true ∧ s.herd.tset = none ∧ s.herd.steer = 0 ∧ s.hub.frac < 100000000) :=
    ⟨⟨.safe, [], { State.reset with pending := [.safe] }, rfl⟩, ⟨State.reset, by decide +kernel⟩,
    ⟨{ State.reset with hub := { HubS.reset with timeOn := true } }, by decide +kernel⟩⟩

theorem wit_QueueInOrder :
    (∃ (l : List Instr) (s t : State), QueueOf l s ∧ step s = .next t) :=
    ⟨[], State.reset, herdTick State.reset, ⟨⟨0, rfl⟩, rfl⟩⟩

theorem wit_FusesOneWay :
    (∃ o s t : State, FusesKept o s ∧ step s = .next t) :=
    ⟨State.reset, State.reset, herdTick State.reset, ⟨⟨le_refl _, le_refl _, Nat.or_self _, fun _ _ _ => rfl⟩, rfl⟩⟩

theorem wit_SafeHoldEnds :
    (∃ (i : Instr) (s t : State), exec i s = .next t ∧ s.safeHold = true ∧ t.safeHold = false) := by
    refine ⟨.vtestUnlockDone, (sett fun x => { x with safe := true, vtestBusy := true }).sf F.SEC_STAT_CONSENT 0 0 1, _, rfl,
    by decide +kernel, by decide +kernel⟩

theorem wit_EveryCommandCompletes :
    (∃ (i : Instr) (s : State), i.wf = true) := ⟨.tempSample (List.replicate 16 25000), State.reset, by decide +kernel⟩

theorem wit_RegisterHalves :
    (∃ (s : State) (a : Reader) (n : WNum), (reaches s a (4 * n) = true) ∧ (halfAt (4 * n) = 1) ∧ (4 * n.val < 0x100_0000)) ∧
    (∃ (s : State) (a : Reader) (n : WNum) (v : Word), (reaches s a (4 * n) = true) ∧ (halfAt (4 * n) = 2) ∧ (4 * n.val < 0x100_0000) ∧ (s.hold.get (accKey a (4 * n)) = some v)) ∧
    (∃ (s : State) (a : Reader) (n : WNum) (v : Word), (reaches s a (4 * n) = true) ∧ (halfAt (4 * n) = 1) ∧ (4 * n.val < 0x100_0000) ∧ (wideWritable (4 * n) = true)) ∧
    (∃ (s : State) (a : Reader) (lo v : Word), (reaches s a 0x1002C = true) ∧ (s.stage.get (accKey a 0x1002C) = some lo)) ∧
    (∃ (s : State) (addr : Word) (pec : Bool), (hubOn s = true) ∧ (s.gb F.HOST_SB_CFG_PEC 0 = false) ∧ (addr.toNat % 4 = 0)) ∧
    (∃ (s : State) (v : Word) (pec : Bool), (hubOn s = true) ∧ (s.gb F.HOST_SB_CFG_PEC 0 = false)) ∧
    (∃ (s : State) (pec : Bool), (hubOn s = true) ∧ (s.gb F.HOST_SB_CFG_PEC 0 = false) ∧ (s.host.sb.addr.toNat % 4 = 0)) ∧
    (∃ (s : State), (hubOn s = true) ∧ (s.host.sb.result = none) ∧ (s.gb F.HOST_SB_CFG_PEC 0 = false)) ∧
    (∃ (s : State) (dr : BitVec 66) (v : Word), (tapOn s = true) ∧ (hubOn s = true) ∧ (dr = BitVec.ofNat 66 (2 ^ 65 + 8 * 2 ^ 32 + v.toNat))) ∧
    (∃ (s : State) (p : Fin 2), (s.linkUp p = true) ∧ (s.gb F.HOST_p_STAT_D3HOT 0 p = false)) ∧
    (∃ (s : State) (p : Fin 2) (b0 b1 b2 b3 : BitVec 8), (s.linkUp p = true) ∧ (s.gb F.HOST_p_STAT_D3HOT 0 p = false)) ∧
    (∃ (s : State) (r : Rgn) (v : Word) (l : List (Nat × Word)), ((s.eng r).cwr = (0xF_0020, v) :: l) ∧ (s.mayWrite (.le r) r = true)) ∧
    (∃ (s : State) (r : Rgn) (v : Word), (s.clk r = 0) ∧ (s.mayWrite (.fab r) r = true)) :=
  ⟨⟨State.reset, .hla, 0x18008, by decide +kernel⟩,
   ⟨{ State.reset with hold := State.reset.hold.set (accKey .hla 0x60024) (some 5) }, .hla, 0x18009, 5, by decide +kernel⟩,
   ⟨State.reset, .hla, 0x400A, 7, by decide +kernel⟩,
   ⟨{ State.reset with stage := State.reset.stage.set (accKey .hla 0x1002C) (some 5) }, .hla, 5, 0, by decide +kernel⟩,
   ⟨State.reset, 8, false, by decide +kernel⟩,
   ⟨State.reset, 7, false, by decide +kernel⟩,
   ⟨State.reset, false, by decide +kernel⟩,
   ⟨State.reset, by decide +kernel⟩,
   ⟨State.reset, BitVec.ofNat 66 (2 ^ 65 + 8 * 2 ^ 32 + 3), 3, by decide +kernel⟩,
   ⟨State.reset.sf F.HOST_p_STAT_MODE 0 0 1, 0, by decide +kernel⟩,
   ⟨State.reset.sf F.HOST_p_STAT_MODE 0 0 1, 0, 0, 0, 0, 0, by decide +kernel⟩,
   ⟨((State.reset.sf F.RGN_STAT_OWNER (rgB 3) 0 2).setEng 3 { EngS.reset with cwr := [(0xF_0020, 5)] }), 3, 5, [], by decide +kernel⟩,
   ⟨State.reset.sf F.RGN_STAT_OWNER (rgB 3) 0 3, 3, 0, by decide +kernel⟩⟩

theorem wit_FieldAccess :
    (∃ (s : State) (a : Reader) (n : WNum) (v hw : Word) (b m : Nat) (row : RegRow), (reaches s a (4 * n) = true) ∧ (rowAt (4 * n) = some (.hub, b, row, m))) ∧
    (∃ (s : State) (a : Reader) (r : Rgn) (n : WNum) (v hw : Word), (4 * n.val = R.RGN_RDO_ADDR.addr (rgB r) 0) ∧ (reaches s a (4 * n) = true) ∧ (s.mayWrite a r = true)) ∧
    (∃ (s : State) (a : Reader) (r : Rgn) (n : WNum) (v hw : Word), (4 * n.val = R.RGN_RDO_ADDR.addr (rgB r) 0) ∧ (reaches s a (4 * n) = true) ∧ (s.mayWrite a r = false)) :=
  ⟨⟨State.reset, .hla, 2, 0, 0, 0, 0, ((rowAt 8).getD (.hub, 0, ⟨0, 0, 0, 0, []⟩, 0)).2.2.1, by decide +kernel⟩,
   ⟨owned 3, .hla, 3, 0x4FC008, 0, 0, by decide +kernel⟩,
   ⟨State.reset, .hla, 3, 0x4FC008, 0, 0, by decide +kernel⟩⟩

theorem wit_Clocks :
    (∃ (s : State) (r : Rgn), (s.clk r = 1) ∧ (hasReason s r = true ∨ (s.rgnS r).synthOn = true)) ∧
    (∃ (s : State) (r : Rgn), (s.clk r = 2) ∧ (hasReason s r = true ∨ (s.rgnS r).synthOn = true)) ∧
    (∃ (s : State) (r : Rgn), (hasReason s r = false ∧ (s.rgnS r).synthOn = false)) ∧
    (∃ (s : State) (a : Reader) (r : Rgn), (s.mayWrite a r = true) ∧ (s.clk r = 1 ∨ s.clk r = 2) ∧ (hasWork s r = false ∧ (s.eng r).mode = .halted) ∧ (s.gb F.LE_CTRL_STEP (leB r) = false ∧ s.gb F.LE_CTRL_ERST (leB r) = false)) ∧
    (∃ (s : State) (r : Rgn), (s.clk r = 0) ∧ (hasReason s r = false)) ∧
    (∃ (s : State) (r : Rgn), (s.clk r = 1) ∧ ((s.rgnS r).synthOn = false) ∧ (s.gf F.RGN_CTRL_COLD_T (rgB r) ≠ 0)) ∧
    (∃ (s : State) (r : Rgn), (s.clk r = 1)) ∧
    (∃ (s : State) (r : Rgn), ((s.rgnS r).synthOn = true) ∧ (s.clk r = 2)) :=
  ⟨⟨(State.reset.setClk 3 1).sb F.LE_CTRL_LIVE (leB 3) 0 true, 3, by decide +kernel⟩,
   ⟨(State.reset.setClk 3 2).sb F.LE_CTRL_LIVE (leB 3) 0 true, 3, by decide +kernel⟩,
   ⟨State.reset.setClk 3 1, 3, by decide +kernel⟩,
   ⟨(owned 3).setClk 3 1, .hla, 3, by decide +kernel⟩,
   ⟨State.reset, 3, by decide +kernel⟩,
   ⟨(State.reset.setClk 3 1).sf F.RGN_CTRL_COLD_T (rgB 3) 0 5, 3, by decide +kernel⟩,
   ⟨State.reset.setClk 3 1, 3, by decide +kernel⟩,
   ⟨(State.reset.setClk 3 2).setRgn 3 { RgnS.reset with synthOn := true }, 3, by decide +kernel⟩⟩

theorem wit_TimeAndSupply :
    (∃ (s : State) (l : List Int) (r : Rgn), (l.length = 16)) ∧
    (∃ (s : State) (d : Fin 2) (ns : Nat) (x : Item) (l : List Item), (s.spoor.hops.get (hopLink d) = x :: l)) ∧
    (∃ (s : State) (a : Reader) (r : Rgn) (v : Word), (s.mayWrite a r = true) ∧ (fOf v F.RGN_VF_FREQ ≤ 20) ∧ (vfBad s r (fOf v F.RGN_VF_VOLT) (fOf v F.RGN_VF_FREQ) = false) ∧ ((s.rgnS r).vfBusy = none) ∧ (s.gf F.RGN_VF_VOLT (rgB r) < fOf v F.RGN_VF_VOLT)) ∧
    (∃ (s : State) (a : Reader) (r : Rgn) (v : Word), (s.mayWrite a r = true) ∧ (fOf v F.RGN_VF_FREQ ≤ 20) ∧ (vfBad s r (fOf v F.RGN_VF_VOLT) (fOf v F.RGN_VF_FREQ) = false) ∧ ((s.rgnS r).vfBusy.isSome = true)) ∧
    (∃ (s : State) (r : Rgn) (volt freq : Nat), ((s.rgnS r).vfBusy = some (volt, freq)) ∧ ((s.rgnS r).vfVoltFirst = true)) ∧
    (∃ (s : State) (r : Rgn) (volt freq : Nat), ((s.rgnS r).vfBusy = none) ∧ ((s.rgnS r).vfWait = some (volt, freq)) ∧ (tooSlow s r freq = false) ∧ (s.gf F.RGN_VF_VOLT (rgB r) < volt)) ∧
    (∃ (s : State) (cause : Fin 2), (s.hub.pllSpareUsed = false)) :=
  ⟨⟨State.reset, List.replicate 16 25100, 3, by decide +kernel⟩,
   ⟨State.reset.hopPush (hopLink 0) (mkItem State.reset settSrc 0 0 0 7 0), 0, 0, mkItem State.reset settSrc 0 0 0 7 0, [], by decide +kernel⟩,
   ⟨owned 3, .hla, 3, 0x501, by decide +kernel⟩,
   ⟨(owned 3).setRgn 3 { RgnS.reset with vfBusy := some (2, 2) }, .hla, 3, 0x501, by decide +kernel⟩,
   ⟨(owned 3).setRgn 3 { RgnS.reset with vfBusy := some (2, 2), vfVoltFirst := true }, 3, 2, 2, by decide +kernel⟩,
   ⟨(owned 3).setRgn 3 { RgnS.reset with vfWait := some (2, 2) }, 3, 2, 2, by decide +kernel⟩,
   ⟨State.reset, 0, by decide +kernel⟩⟩

theorem wit_AnalogueCells :
    (∃ (s : State) (a : Reader) (r : Rgn) (k : Fin 12) (n : Fin 8) (v : Word), (s.mayWrite a r = true) ∧ (cellMigrating s r k n = false) ∧ (cellWithin (s.merged R.AC_CELLn_CFG (acB r k) n v) (s.rd R.AC_CELLn_FILT (acB r k) n) (s.gf F.AC_CTRL_SC_DIV (acB r k)) = true)) ∧
    (∃ (s : State) (a : Reader) (r : Rgn) (k : Fin 12) (n : Fin 8) (v : Word), (s.mayWrite a r = true) ∧ (cellMigrating s r k n = false) ∧ (cellWithin (s.rd R.AC_CELLn_CFG (acB r k) n) (s.merged R.AC_CELLn_FILT (acB r k) n v) (s.gf F.AC_CTRL_SC_DIV (acB r k)) = true)) ∧
    (∃ (s : State) (a : Reader) (r : Rgn) (k : Fin 12) (n : Fin 8) (v : Word), (s.mayWrite a r = true) ∧ (cellMigrating s r k n = false) ∧ (missingLine r (routeWord s r k n v) = false) ∧ (secondDriver s r k n (routeWord s r k n v) = false)) ∧
    (∃ (s : State) (a : Reader) (r : Rgn) (k : Fin 12) (v : Word), (s.mayWrite a r = true) ∧ ((List.range 8).all (fun n => s.gf F.AC_CELLn_CFG_FUNC (acB r k) n != 5 || cellWithin (s.rd R.AC_CELLn_CFG (acB r k) n)
    (s.rd R.AC_CELLn_FILT (acB r k) n) (fOf (s.merged R.AC_CTRL (acB r k) 0 v) F.AC_CTRL_SC_DIV)) = true)) ∧
    (∃ (s : State) (r : Rgn) (k : Fin 12) (n : Fin 8), (cellOn s r k n = true)) ∧
    (∃ (s : State) (r : Rgn) (k : Fin 12) (n : Fin 8) (trig : Fin 32) (e : Levels), (takesTrigger s r k n trig = true)) ∧
    (∃ (s : State) (r : Rgn) (k : Fin 12) (n : Fin 8) (e : Levels), (cellOn s r k n = true) ∧ (clips (cellWants s e r k n) = true)) :=
  ⟨⟨owned 3, .hla, 3, 0, 0, 0x120, by decide +kernel⟩,
   ⟨owned 3, .hla, 3, 0, 0, 0x10100, by decide +kernel⟩,
   ⟨owned 3, .hla, 3, 0, 0, 0x90000, by decide +kernel⟩,
   ⟨owned 3, .hla, 3, 0, 0x10001, by decide +kernel⟩,
   ⟨State.reset.sf F.AC_CELLn_CFG_MODE (acB 3 0) 0 2, 3, 0, 0, by decide +kernel⟩,
   ⟨((State.reset.sf F.AC_CELLn_CFG_MODE (acB 3 0) 0 2).sf F.AC_CELLn_CFG_FUNC (acB 3 0) 0 6).sf F.AC_CELLn_AUX_HOLD_T (acB 3 0) 0 9, 3, 0, 0, 0, [(.aio 3 0, 1)], by decide +kernel⟩,
   ⟨State.reset.sf F.AC_CELLn_CFG_MODE (acB 3 0) 0 2, 3, 0, 0, [(.aio 3 0, 2)], by decide +kernel⟩⟩

theorem wit_ReferencesAndMigration :
    (∃ (s : State) (r : Rgn) (k : Fin 12) (diff : Int), ((s.rgnS r).refFault = false) ∧ (refRuns s = true) ∧ (60 < diff.natAbs)) ∧
    (∃ (s : State) (r : Rgn) (ball : Fin 40), (ball.val < 32)) ∧
    (∃ (s : State) (r : Rgn) (ball : Fin 40), (32 ≤ ball.val)) ∧
    (∃ (s : State) (a : Reader) (r : Rgn) (k : Fin 12) (n : Fin 8), (s.mayWrite a r = true) ∧ (s.gb F.AC_MIG_START (acB r k) = false) ∧ (s.gb F.AC_SPARE_STAT_FREE (acB r k) = true) ∧ (s.gf F.AC_MIG_STAT_STATE (acB r k) = 0) ∧ (s.gf F.AC_CELLn_CFG_MODE (acB r k) n ≠ 0)) ∧
    (∃ (s : State) (r : Rgn) (k : Fin 12) (ok : Bool) (trim meas : Nat), ((s.clu r k).paused = false) ∧ (s.gf F.AC_MIG_STAT_STATE (acB r k) = 1)) ∧
    (∃ (s : State) (r : Rgn) (k : Fin 12) (ok : Bool) (trim meas : Nat), ((s.clu r k).paused = false) ∧ ((s.gf F.AC_MIG_STAT_STATE (acB r k) = 2 ∧ (ok = false ∨ gainLimit < meas)) ∨
    (s.gf F.AC_MIG_STAT_STATE (acB r k) = 4 ∧ (ok = false ∨ offsetLimit < meas)))) ∧
    (∃ (s : State) (r : Rgn) (k : Fin 12) (ok : Bool) (trim meas : Nat), ((s.clu r k).paused = false) ∧ (s.gf F.AC_MIG_STAT_STATE (acB r k) = 3) ∧ (20000 < meas)) ∧
    (∃ (s : State) (r : Rgn) (k : Fin 12) (ok : Bool) (trim meas : Nat), ((s.clu r k).paused = false) ∧ (s.gf F.AC_MIG_STAT_STATE (acB r k) = 6) ∧ ((s.clu r k).forced = false) ∧ ((s.clu r k).migCell < 8)) :=
  ⟨⟨State.reset, 3, 0, -61, by decide +kernel⟩,
   ⟨State.reset, 3, 0, by decide +kernel⟩,
   ⟨State.reset, 3, 39, by decide +kernel⟩,
   ⟨(owned 3).sf F.AC_CELLn_CFG_MODE (acB 3 0) 0 2, .hla, 3, 0, 0, by decide +kernel⟩,
   ⟨State.reset.sf F.AC_MIG_STAT_STATE (acB 3 0) 0 1, 3, 0, false, 0, 0, by decide +kernel⟩,
   ⟨State.reset.sf F.AC_MIG_STAT_STATE (acB 3 0) 0 2, 3, 0, false, 0, 0, by decide +kernel⟩,
   ⟨State.reset.sf F.AC_MIG_STAT_STATE (acB 3 0) 0 3, 3, 0, false, 0, 20001, by decide +kernel⟩,
   ⟨State.reset.sf F.AC_MIG_STAT_STATE (acB 3 0) 0 6, 3, 0, false, 0, 0, by decide +kernel⟩⟩

theorem wit_ConverterGroups :
    (∃ (s : State) (a : Reader) (r : Rgn) (g : Fin 4) (v : Word), (s.mayWrite a r = true) ∧ (fOf v F.CG_CTRL_MODE = 1 ∨ fOf v F.CG_CTRL_MODE = 2) ∧ (fOf v F.CG_CTRL_CAL = 0) ∧ (s.gf F.CG_CTRL_MODE (cgB r g) = 0) ∧ (cgState s r g = 0) ∧ (s.gb F.CG_STAT_CAL_VALID (cgB r g) = true) ∧ (s.gb F.RGN_STAT_RESET (rgB r) = false)) ∧
    (∃ (s : State) (r : Rgn) (g : Fin 4), (cgState s r g = 1) ∧ (s.gf F.CG_CTRL_MODE (cgB r g) = 1)) ∧
    (∃ (s : State) (r : Rgn) (g : Fin 4), (cgState s r g = 1) ∧ (s.gf F.CG_CTRL_MODE (cgB r g) = 2) ∧ ((s.grp r g).unpair = false)) ∧
    (∃ (s : State) (a : Reader) (r : Rgn) (g : Fin 4), (s.mayWrite a r = true) ∧ (s.gb F.CG_CTRL_CAL (cgB r g) = false) ∧ (calAllowed s r g = true)) ∧
    (∃ (s : State) (r : Rgn) (g : Fin 4) (cals skews bws : List Word), (cgState s r g = 6) ∧ (s.gf F.CG_CAL_STAT_SLICE_FAIL (cgB r g) = 0)) ∧
    (∃ (s : State) (a : Reader) (r : Rgn) (g : Fin 4) (c : Nat), (s.mayWrite a r = true) ∧ (s.gf F.CG_SCAN_SMODE (cgB r g) = 3) ∧ (converting s r g = true) ∧ ((s.grp r g).pass = none) ∧ (lowChan (s.gf F.CG_MASK_MASK (cgB r g)) = some c)) ∧
    (∃ (s : State) (r : Rgn) (g : Fin 4), (s.gf F.CG_SCAN_SMODE (cgB r g) = 2) ∧ (converting s r g = true) ∧ ((s.grp r g).pass = none)) ∧
    (∃ (s : State) (r : Rgn) (g : Fin 4) (p : PassS), ((s.grp r g).pass = some p) ∧ (p.done = true) ∧ ((s.grp r g).remembered = false) ∧ (s.gf F.CG_SCAN_SMODE (cgB r g) ≠ 1)) ∧
    (∃ (s : State) (r : Rgn) (g : Fin 4) (p : PassS) (disc : Bool), ((s.grp r g).pass = some p) ∧ (p.done = false) ∧ (converting s r g = true)) :=
  ⟨⟨(owned 3).sb F.CG_STAT_CAL_VALID (cgB 3 0) 0 true, .hla, 3, 0, (0 : Word).setBits F.CG_CTRL_MODE.hi F.CG_CTRL_MODE.lo 2, by decide +kernel⟩,
   ⟨(grpIn 1).sf F.CG_CTRL_MODE (cgB 3 0) 0 1, 3, 0, by decide +kernel⟩,
   ⟨(grpIn 1).sf F.CG_CTRL_MODE (cgB 3 0) 0 2, 3, 0, by decide +kernel⟩,
   ⟨grpIn 3, .hla, 3, 0, by decide +kernel⟩,
   ⟨grpIn 6, 3, 0, [1, 2, 3, 4, 5], [], [], by decide +kernel⟩,
   ⟨((grpIn 3).sf F.CG_SCAN_SMODE (cgB 3 0) 0 3).sf F.CG_MASK_MASK (cgB 3 0) 0 6, .hla, 3, 0, 1, by decide +kernel⟩,
   ⟨(grpIn 3).sf F.CG_SCAN_SMODE (cgB 3 0) 0 2, 3, 0, by decide +kernel⟩,
   ⟨grpPass 3 ⟨1, 0, 0, true, false, false⟩, 3, 0, ⟨1, 0, 0, true, false, false⟩, by decide +kernel⟩,
   ⟨grpPass 3 ⟨1, 0, 0, false, false, false⟩, 3, 0, ⟨1, 0, 0, false, false, false⟩, false, by decide +kernel⟩⟩

theorem wit_ResultsAndReaders :
    (∃ (s : State) (r : Rgn) (g : Fin 4) (p : PassS) (xs : List Sample) (sub : Fin 40), ((s.grp r g).pass = some p) ∧ (p.done = false) ∧ (converting s r g = true) ∧ (xs.length = 2 ^ fOf p.cfg F.CG_CHc_CFG_AVG) ∧ ((s.gf F.CG_RES_MASK_MASK (cgB r g)).testBit p.chan = true)) ∧
    (∃ (s : State) (a : Reader) (r : Rgn) (g : Fin 4) (v : Word), (s.mayWrite a r = true) ∧ (converting s r g = true) ∧ ((s.grp r g).urg.length < 4)) ∧
    (∃ (s : State) (r : Rgn) (g k : Fin 4), (s.gb F.CG_URGk_CFG_EN (cgB r g) k = true) ∧ (converting s r g = true) ∧ ((s.grp r g).urg.length < 4)) ∧
    (∃ (s : State) (r : Rgn) (g : Fin 4) (chan : Nat) (rest : List Nat) (x : Sample) (sub : Fin 40), ((s.grp r g).urg = chan :: rest) ∧ (converting s r g = true) ∧ ((s.gf F.CG_RES_MASK_MASK (cgB r g)).testBit chan = true)) ∧
    (∃ (s : State) (a : Reader) (r : Rgn) (g : Fin 4), (reaches s a (cgB r g) = true)) ∧
    (∃ (s : State) (a : Reader) (r : Rgn) (g : Fin 4) (h : Word), (reaches s a (cgB r g) = true) ∧ (((s.grp r g).readers.get a.code).hold = some h)) :=
  ⟨⟨(grpPass 3 ⟨1, 0, 0, false, false, false⟩).sf F.CG_RES_MASK_MASK (cgB 3 0) 0 2, 3, 0, ⟨1, 0, 0, false, false, false⟩, [⟨[(.aio 3 0, 1)], 0, 0, 0, 0⟩], 0, by decide +kernel⟩,
   ⟨grpIn 3, .hla, 3, 0, 9, by decide +kernel⟩,
   ⟨(grpIn 3).sf F.CG_URGk_CFG_EN (cgB 3 0) 0 1, 3, 0, 0, by decide +kernel⟩,
   ⟨((grpIn 3).sf F.CG_RES_MASK_MASK (cgB 3 0) 0 2).setGrp 3 0 { GrpS.reset with urg := [1] }, 3, 0, 1, [], ⟨[(.aio 3 0, 1)], 0, 0, 0, 0⟩, 0, by decide +kernel⟩,
   ⟨State.reset, .hla, 3, 0, by decide +kernel⟩,
   ⟨State.reset.setGrp 3 0 { GrpS.reset with readers := GrpS.reset.readers.set 0 ⟨some 5, false, false, 0⟩ }, .hla, 3, 0, 5, by decide +kernel⟩⟩

theorem wit_ConverterIntegrity :
    (∃ (s : State) (r : Rgn) (g : Fin 4) (cal : Word) (dev : Nat), (s.gf F.CG_ROT_STAT_PHASE (cgB r g) = 1) ∧ (calFails cal dev = false) ∧ (rotPaused s r g = false) ∧ (s.gf F.CG_ROT_STAT_SVC (cgB r g) < 5)) ∧
    (∃ (s : State) (r : Rgn) (g : Fin 4) (diff : Nat), (s.gf F.CG_ROT_STAT_PHASE (cgB r g) = 2) ∧ (diff ≤ 64) ∧ (rotPaused s r g = false) ∧ (s.gf F.CG_ROT_STAT_SVC (cgB r g) < 5)) ∧
    (∃ (s : State) (r : Rgn) (g : Fin 4) (exc : Nat) (m : EstMove) (l : List EstMove), (cgState s r g = 3) ∧ (converting s r g = true) ∧ (usable s r g exc = true) ∧ ((posSlices s r g).all (fun x => decide (x < 5)) = true) ∧ ((posSlices s r g).Nodup)) ∧
    (∃ (s : State) (r : Rgn) (g : Fin 4) (exc : Nat) (moves : List EstMove), (converting s r g = true) ∧ (usable s r g exc = false)) ∧
    (∃ (s : State) (a : Reader) (r : Rgn) (g : Fin 4) (v : Word), (s.mayWrite a r = true) ∧ (s.gb F.CG_CTRL_LIVE (cgB r g) = false) ∧ (s.gf F.CG_ROT_STAT_PHASE (cgB r g) ≠ 3)) ∧
    (∃ (s : State) (r : Rgn) (g : Fin 4) (cal : Word) (dev diff : Nat), (cgState s r g = 2) ∧ (s.inTorpor r = false) ∧ (rotPaused s r g = false) ∧ (calFails cal dev = false) ∧ (diff ≤ 64) ∧ (working s r g ≠ [])) :=
  ⟨⟨(grpIn 3).sf F.CG_ROT_STAT_PHASE (cgB 3 0) 0 1, 3, 0, 0, 0, by decide +kernel⟩,
   ⟨((grpIn 3).sf F.CG_ROT_STAT_PHASE (cgB 3 0) 0 2).sf F.CG_ROT_STAT_POS (cgB 3 0) 0 0o3210, 3, 0, 0, by decide +kernel⟩,
   ⟨(grpIn 3).sf F.CG_ROT_STAT_POS (cgB 3 0) 0 0o3210, 3, 0, 0, ⟨160, 5, 0, 0, 320, 30⟩, [], by decide +kernel⟩,
   ⟨grpIn 3, 3, 0, 121, [], by decide +kernel⟩,
   ⟨grpIn 3, .hla, 3, 0, 0, by decide +kernel⟩,
   ⟨grpIn 2, 3, 0, 0, 0, 0, by decide +kernel⟩⟩

theorem wit_Comparators :
    (∃ (s : State) (r : Rgn) (k : Fin 12) (m : Fin 2) (e : Levels) (sub : Fin 40), (watching s r k m false = true) ∧ (rawOf (s.gf F.WC_CMPm_CFG_COND (acB r k) m) (newHalves s e r k m false) = true) ∧ ((s.cmp r k).blank.get m = 0)) ∧
    (∃ (s : State) (r : Rgn) (k : Fin 12) (m : Fin 2) (e : Levels), (watching s r k m false = true) ∧ (rawOf (s.gf F.WC_CMPm_CFG_COND (acB r k) m) (newHalves s e r k m false) = false) ∧ (s.gf F.WC_CMPm_CFG_LATCH (acB r k) m = 0)) ∧
    (∃ (s : State) (a : Reader) (r : Rgn) (k : Fin 12) (m : Fin 2), (s.mayWrite a r = true) ∧ ((s.gf F.WC_CMPm_CFG_LATCH (acB r k) m).testBit 0 = true) ∧ (((s.cmp r k).tgt.get m).raw = false)) ∧
    (∃ (s : State) (r : Rgn) (k : Fin 12) (m : Fin 2) (c : Fin 16), ((s.gf F.WC_CMPm_CFG_LATCH (acB r k) m).testBit 1 = true) ∧ (s.gf F.WC_CMPm_CFG_CLR_CH (acB r k) m = c.val) ∧ (((s.cmp r k).tgt.get m).raw = false)) ∧
    (∃ (s : State) (r : Rgn) (k : Fin 12) (m : Fin 2) (sub : Fin 40), ((s.cmp r k).blank.get m ≠ 0) ∧ ((s.cmp r k).blank.get m ≤ tickNow s + 3 * sub + 2) ∧ (((s.cmp r k).tgt.get m).raw = true)) ∧
    (∃ (s : State) (a : Reader) (r : Rgn) (k : Fin 12) (m : Fin 2) (v : Word), (s.mayWrite a r = true) ∧ (isTarget s r k m = false) ∧ (windowBad (wcCfgWord s r k m v) (s.rd R.WC_CMPm_THR (acB r k) m) = false) ∧ (fOf (wcCfgWord s r k m v) F.WC_CMPm_CFG_MODE ≠ 0 ∨ s.gf F.WC_CMPm_CFG_MODE (acB r k) m = 0 ∨ guards s (acB r k) m = false)) ∧
    (∃ (s : State) (a : Reader) (r : Rgn) (k : Fin 12) (m : Fin 2) (v : Word), (s.mayWrite a r = true) ∧ (isTarget s r k m = false) ∧ (windowBad (s.rd R.WC_CMPm_CFG (acB r k) m) (s.merged R.WC_CMPm_THR (acB r k) m v) = false)) ∧
    (∃ (s : State) (a : Reader) (r : Rgn) (k : Fin 12) (m : Fin 2) (trip : Bool) (v : Word), (s.mayWrite a r = true) ∧ (isTarget s r k m = false)) ∧
    (∃ (s : State) (a : Reader) (r : Rgn) (k : Fin 12) (m : Fin 2), (s.mayWrite a r = true) ∧ (s.gb F.WC_CHK_START (acB r k) = false) ∧ (chkRefusal s r k m = 0)) ∧
    (∃ (s : State) (a : Reader) (r : Rgn) (k : Fin 12) (m : Fin 2), (s.mayWrite a r = true) ∧ (s.gb F.WC_CHK_START (acB r k) = false) ∧ (chkRefusal s r k m = 0)) ∧
    (∃ (s : State) (r : Rgn) (k : Fin 12) (m : Nat), (s.gf F.WC_CTRL_CHK_PERIOD (acB r k) ≠ 0) ∧ (periodicTarget s r k = some m) ∧ (chkRefusal s r k m = 0)) ∧
    (∃ (s : State) (r : Rgn) (k : Fin 12) (d : Bool) (obs : List (Fin 4 × Fin 4)) (e : Levels), ((s.cmp r k).paused = false) ∧ (s.gf F.WC_CHK_STAT_STATE (acB r k) = 1)) ∧
    (∃ (s : State) (r : Rgn) (k : Fin 12) (d : Bool) (obs : List (Fin 4 × Fin 4)) (e : Levels), ((s.cmp r k).paused = false) ∧ (s.gf F.WC_CHK_STAT_STATE (acB r k) = 4) ∧ ((s.cmp r k).cmp < 2) ∧ (testFails s r k (s.cmp r k).cmp obs ≠ 0)) ∧
    (∃ (s : State) (r : Rgn) (k : Fin 12) (d : Bool) (obs : List (Fin 4 × Fin 4)) (e : Levels), ((s.cmp r k).paused = false) ∧ (s.gf F.WC_CHK_STAT_STATE (acB r k) = 7) ∧ ((s.cmp r k).sub = false) ∧ ((s.cmp r k).disagree = false)) :=
  ⟨⟨cmpIn 0 HalfS.reset 0, 3, 0, 0, [(.aio 3 0, 1)], 0, by decide +kernel⟩,
   ⟨cmpIn 0 ⟨1, true, true, true⟩ 0, 3, 0, 0, [(.aio 3 0, -1)], by decide +kernel⟩,
   ⟨cmpIn 1 ⟨0, false, true, true⟩ 0, .hla, 3, 0, 0, by decide +kernel⟩,
   ⟨cmpIn 2 ⟨0, false, true, true⟩ 0, 3, 0, 0, 0, by decide +kernel⟩,
   ⟨cmpIn 1 ⟨1, true, false, true⟩ 1, 3, 0, 0, 0, by decide +kernel⟩,
   ⟨cmpIn 1 HalfS.reset 0, .hla, 3, 0, 0, 0x300, by decide +kernel⟩,
   ⟨cmpIn 1 HalfS.reset 0, .hla, 3, 0, 0, 0x00010002, by decide +kernel⟩,
   ⟨cmpIn 1 ⟨0, false, true, true⟩ 0, .hla, 3, 0, 0, true, 1, by decide +kernel⟩,
   ⟨cmpIn 1 HalfS.reset 0, .hla, 3, 0, 0, by decide +kernel⟩,
   ⟨cmpIn 1 HalfS.reset 0, .hla, 3, 0, 0, by decide +kernel⟩,
   ⟨(cmpIn 1 HalfS.reset 0).sf F.WC_CTRL_CHK_PERIOD (acB 3 0) 0 5, 3, 0, 0, by decide +kernel⟩,
   ⟨(cmpIn 1 HalfS.reset 0).sf F.WC_CHK_STAT_STATE (acB 3 0) 0 1, 3, 0, false, [], [], by decide +kernel⟩,
   ⟨(cmpIn 1 HalfS.reset 0).sf F.WC_CHK_STAT_STATE (acB 3 0) 0 4, 3, 0, false, [(0, 0)], [], by decide +kernel⟩,
   ⟨(cmpIn 1 HalfS.reset 0).sf F.WC_CHK_STAT_STATE (acB 3 0) 0 7, 3, 0, false, [], [], by decide +kernel⟩⟩

theorem wit_PulseTiming :
    (∃ (s : State) (r : Rgn) (c : Fin 16) (sub : Fin 120), (enabled s r c = true ∧ (s.ch r c).everEn = true ∧ (s.ch r c).per ≠ 0) ∧ ((s.ch r c).next ≤ fineNow s sub) ∧ ((s.ch r c).run ≠ .off) ∧ ((s.ch r c).full = true) ∧ ((s.ch r c).at_ + 384 ≤ (s.ch r c).next) ∧ ((s.ch r c).relLat = false ∧ (s.ch r c).relRs = false ∧ (s.ch r c).lat = false ∧ (s.ch r c).rs = false) ∧ (respOf s r c false ≠ 1 ∧ respOf s r c true ≠ 1) ∧ (s.safeHold = false ∧ frozen s r = false)) ∧
    (∃ (s : State) (r : Rgn) (c : Fin 16) (u : Nat) (sub : Fin 120), ((s.ch r c).run = .switching) ∧ ((s.ch r c).wave = .high) ∧ ((s.ch r c).up = some u) ∧ (u + (s.ch r c).high ≤ fineNow s sub)) ∧
    (∃ (s : State) (r : Rgn) (c : Fin 16) (sub : Fin 120), ((s.ch r c).run = .switching) ∧ ((s.ch r c).high ≠ 0) ∧ ((s.ch r c).up = none) ∧ (riseAt s r c ≤ fineNow s sub)) ∧
    (∃ (s : State) (r : Rgn) (c : Fin 16) (sub : Fin 120), ((s.ch r c).run = .switching) ∧ ((s.ch r c).wave = .low) ∧ (s.gb F.PG_CHcc_CFG_LEVELS (pgB r) c = true) ∧ (s.gf F.PG_CHcc_LOWMAX_LOWMAX (pgB r) c ≠ 0) ∧ ((s.ch r c).fell + s.gf F.PG_CHcc_LOWMAX_LOWMAX (pgB r) c ≤ fineNow s sub)) ∧
    (∃ (s : State) (r g : Fin 16) (sub : Fin 120) (e : Nat), (s.gb F.PG_GRPg_CTRL_EN (pgB r) g = true) ∧ ((s.slot r g).first = some e) ∧ (e ≤ fineNow s sub)) ∧
    (∃ (s : State) (r g : Fin 16) (sub : Fin 120), (s.gb F.PG_GRPg_CTRL_EN (pgB r) g = true) ∧ ((s.slot r g).first = none) ∧ (s.gf F.PG_GRPg_APPLIED_PER (pgB r) g ≠ 0) ∧ ((s.slot r g).epoch + s.gf F.PG_GRPg_APPLIED_PER (pgB r) g ≤ fineNow s sub)) ∧
    (∃ (s : State) (r : Rgn) (c : Fin 16) (g : Fin 4) (sub : Fin 120), (enOf s r c = true ∧ (s.ch r c).everEn = true ∧ (s.ch r c).fired = false) ∧ (s.gf F.PG_CHcc_TRIG_TRIG (pgB r) c < perOf s r c) ∧ ((s.ch r c).start + s.gf F.PG_CHcc_TRIG_TRIG (pgB r) c ≤ fineNow s sub) ∧ (s.gf F.CG_SCAN_TRIG_SRC (cgB r g) = c.val ∧ s.gf F.CG_SCAN_SMODE (cgB r g) = 2) ∧ (converting s r g = true) ∧ ((s.grp r g).pass = none)) ∧
    (∃ (s : State) (a : Reader) (r : Rgn) (g : Fin 16) (v : Word), (s.mayWrite a r = true) ∧ (s.gb F.PG_GRPg_CTRL_EN (pgB r) g = false ∨ s.gf F.PG_GRPg_APPLIED_PER (pgB r) g = 0 ∨
    (fOf (s.merged R.PG_GRPg_PER (pgB r) g v) F.PG_GRPg_PER_PER ≤ 2 * s.gf F.PG_GRPg_APPLIED_PER (pgB r) g ∧
    s.gf F.PG_GRPg_APPLIED_PER (pgB r) g ≤ 2 * fOf (s.merged R.PG_GRPg_PER (pgB r) g v) F.PG_GRPg_PER_PER)) ∧ ((members s r g).all (fun m => decide (s.gf F.PG_CHcc_LIM_MIN_ON (pgB m.1) m.2 + s.gf F.PG_CHcc_LIM_MIN_OFF (pgB m.1) m.2 ≤
    fOf (s.merged R.PG_GRPg_PER (pgB r) g v) F.PG_GRPg_PER_PER)) = true)) ∧
    (∃ (s : State) (a : Reader) (r : Rgn) (c : Fin 16) (v : Word), (s.mayWrite a r = true) ∧ (substituting s r c = false)) ∧
    (∃ (s : State) (a : Reader) (r : Rgn) (c : Fin 16) (v : Word), (s.mayWrite a r = true) ∧ (substituting s r c = false) ∧ (s.gf F.PG_GRPg_PER_PER (pgB (grpOf s r c).1) (grpOf s r c).2 = 0 ∨
    fOf (s.merged R.PG_CHcc_LIM (pgB r) c v) F.PG_CHcc_LIM_MIN_ON + fOf (s.merged R.PG_CHcc_LIM (pgB r) c v) F.PG_CHcc_LIM_MIN_OFF ≤
    s.gf F.PG_GRPg_PER_PER (pgB (grpOf s r c).1) (grpOf s r c).2)) :=
  ⟨⟨{ chIn { ChS.reset with everEn := true, run := .waiting, full := true, per := 9600, next := 900 } with hub := { HubS.reset with base := 1000 } }, 3, 0, 0, by decide +kernel⟩,
   ⟨chIn { ChS.reset with run := .switching, wave := .high, up := some 0, high := 100 }, 3, 0, 0, 119, by decide +kernel⟩,
   ⟨chIn { ChS.reset with run := .switching, high := 100 }, 3, 0, 0, by decide +kernel⟩,
   ⟨((chIn { ChS.reset with run := .switching }).sb F.PG_CHcc_CFG_LEVELS (pgB 3) 0 true).sf F.PG_CHcc_LOWMAX_LOWMAX (pgB 3) 0 9, 3, 0, 10, by decide +kernel⟩,
   ⟨(chIn ChS.reset).setSlot 3 0 ⟨some 5, 0⟩, 3, 0, 7, 5, by decide +kernel⟩,
   ⟨{ chIn ChS.reset with hub := { HubS.reset with base := 5000 } }, 3, 0, 0, by decide +kernel⟩,
   ⟨((setCgState (chIn { ChS.reset with everEn := true }) 3 0 3).sf F.CG_SCAN_SMODE (cgB 3 0) 0 2).sf F.CG_MASK_MASK (cgB 3 0) 0 6, 3, 0, 0, 0, by decide +kernel⟩,
   ⟨owned 3, .hla, 3, 0, 5000, by decide +kernel⟩,
   ⟨owned 3, .hla, 3, 0, 5000, by decide +kernel⟩,
   ⟨owned 3, .hla, 3, 0, 5000, by decide +kernel⟩⟩

theorem wit_PulseControl :
    (∃ (s : State) (a : Reader) (r g : Fin 16), (s.mayWrite a r = true) ∧ (s.gb F.PG_GRPg_CTRL_EN (pgB r) g = false)) ∧
    (∃ (s : State) (a : Reader) (r g : Fin 16), (s.mayWrite a r = true)) ∧
    (∃ (s : State) (a : Reader) (r : Rgn) (c : Fin 16), (s.mayWrite a r = true) ∧ (substituting s r c = false)) ∧
    (∃ (s : State) (a : Reader) (r : Rgn) (c : Fin 16), (s.mayWrite a r = true) ∧ (substituting s r c = false)) ∧
    (∃ (s : State) (a : Reader) (r : Rgn) (c : Fin 16) (v : Word) (sub : Fin 120), (s.mayWrite a r = true) ∧ (s.gf F.PG_CHcc_CFG_DSRC (pgB r) c = 0)) ∧
    (∃ (s : State) (r : Rgn) (line : Fin 8) (c : Fin 16) (v : Word) (sub : Fin 120), (s.clk r = 0) ∧ (s.gf F.PG_CHcc_CFG_DSRC (pgB r) c = 2) ∧ (s.gf F.PG_CHcc_CFG_SRC_PORT (pgB r) c = line.val)) ∧
    (∃ (s : State) (r : Rgn) (c : Fin 16), (s.gf F.PG_CHcc_CFG_WDOG (pgB r) c ≠ 0) ∧ (s.gf F.PG_CHcc_CFG_WDOG (pgB r) c ≤ (s.ch r c).wdog) ∧ ((s.ch r c).latW = false)) ∧
    (∃ (s : State) (a : Reader) (r : Rgn) (c : Fin 16), (s.mayWrite a r = true) ∧ (substituting s r c = false) ∧ ((s.ch r c).lat = true) ∧ (((r.val, c.val) :: members s (grpOf s r c).1 (grpOf s r c).2).all (fun m => !(s.ch m.1 m.2).rs) = true) ∧ ((s.ch r c).latA = true → tripIn s r c false = false) ∧ ((s.ch r c).latB = true → tripIn s r c true = false)) ∧
    (∃ (s : State) (a : Reader) (r : Rgn) (c : Fin 16), (s.mayWrite a r = true) ∧ (s.gb F.PG_SUB_START (pgB r) = false) ∧ (s.gb F.PG_SPARE_STAT_FREE (pgB r) = true) ∧ (s.gf F.PG_SUB_STAT_STATE (pgB r) = 0) ∧ (enOf s r c = true)) ∧
    (∃ (s : State) (r : Rgn) (x y : Bool), (s.gf F.PG_SUB_STAT_STATE (pgB r) = 4) ∧ ((s.pgSub.get r).forced = false) ∧ ((s.pgSub.get r).ch < 16)) :=
  ⟨⟨owned 3, .hla, 3, 0, by decide +kernel⟩,
   ⟨owned 3, .hla, 3, 0, by decide +kernel⟩,
   ⟨owned 3, .hla, 3, 0, by decide +kernel⟩,
   ⟨owned 3, .hla, 3, 0, by decide +kernel⟩,
   ⟨owned 3, .hla, 3, 0, 0, 0, by decide +kernel⟩,
   ⟨(owned 3).sf F.PG_CHcc_CFG_DSRC (pgB 3) 0 2, 3, 0, 0, 0, 0, by decide +kernel⟩,
   ⟨(chIn { ChS.reset with wdog := 2 }).sf F.PG_CHcc_CFG_WDOG (pgB 3) 0 2, 3, 0, by decide +kernel⟩,
   ⟨chIn { ChS.reset with latW := true }, .hla, 3, 0, by decide +kernel⟩,
   ⟨chIn ChS.reset, .hla, 3, 0, by decide +kernel⟩,
   ⟨(chIn ChS.reset).sf F.PG_SUB_STAT_STATE (pgB 3) 0 4, 3, false, false, by decide +kernel⟩⟩

theorem wit_EngineMultiply :
    (∃ (s : State) (r : Rgn), (issues s r (.arith 1) = true)) ∧
    (∃ (s : State) (r : Rgn), (issues s r (.arith 2) = true)) ∧
    (∃ (s : State) (r : Rgn), (issues s r (.arith 3) = true)) ∧
    (∃ (s : State) (r : Rgn), (issues s r (.arith 4) = true)) ∧
    (∃ (s : State) (r : Rgn), (issues s r (.arith 5) = true)) ∧
    (∃ (s : State) (r : Rgn), (issues s r (.arith 6) = true)) ∧
    (∃ (s : State) (r : Rgn), (issues s r (.arith 7) = true)) ∧
    (∃ (s : State) (r : Rgn), (issues s r (.arith 8) = true)) ∧
    (∃ (s : State) (r : Rgn), (issues s r (.arith 9) = true)) ∧
    (∃ (s : State) (r : Rgn), (issues s r (.arith 0x27) = true)) :=
  ⟨⟨leRunning [par 1 0 0 1 0 0 0], 3, by decide +kernel⟩,
   ⟨leRunning [par 2 0 0 1 0 0 0], 3, by decide +kernel⟩,
   ⟨leRunning [par 3 0 0 1 0 0 0], 3, by decide +kernel⟩,
   ⟨leRunning [par 4 0 0 0 0 0 0], 3, by decide +kernel⟩,
   ⟨leRunning [par 5 0 0 0 0 0 0], 3, by decide +kernel⟩,
   ⟨leRunning [par 6 0 0 0 0 0 0], 3, by decide +kernel⟩,
   ⟨leRunning [par 7 0 0 0 0 0 0], 3, by decide +kernel⟩,
   ⟨leRunning [par 8 0 0 0 0 0 0], 3, by decide +kernel⟩,
   ⟨leRunning [par 9 0 0 1 0 0 0], 3, by decide +kernel⟩,
   ⟨leRunning [par 0x27 0 0 2 3 0 0], 3, by decide +kernel⟩⟩

theorem wit_EngineAccumulators :
    (∃ (s : State) (r : Rgn), (issues s r (.arith 0x10) = true)) ∧
    (∃ (s : State) (r : Rgn), (issues s r (.arith 0x11) = true)) ∧
    (∃ (s : State) (r : Rgn), (issues s r (.arith 0x12) = true)) ∧
    (∃ (s : State) (r : Rgn), (issues s r (.arith 0x13) = true)) ∧
    (∃ (s : State) (r : Rgn), (issues s r (.arith 0x14) = true)) ∧
    (∃ (s : State) (r : Rgn), (issues s r (.arith 0x16) = true)) ∧
    (∃ (s : State) (r : Rgn), (issues s r (.arith 0x17) = true)) ∧
    (∃ (s : State) (r : Rgn), (issues s r (.arith 0x18) = true)) ∧
    (∃ (s : State) (r : Rgn), (issues s r (.arith 0x19) = true)) ∧
    (∃ (s : State) (r : Rgn), (issues s r (.arith 0x1A) = true)) ∧
    (∃ (s : State) (r : Rgn), (issues s r (.arith 0x1B) = true)) ∧
    (∃ (s : State) (r : Rgn), (issues s r (.arith 0x1C) = true)) ∧
    (∃ (s : State) (r : Rgn), (issues s r (.arith 0x1E) = true)) ∧
    (∃ (s : State) (r : Rgn), (issues s r (.arith 0x1F) = true)) ∧
    (∃ (s : State) (r : Rgn), (issues s r (.arith 0x21) = true)) :=
  ⟨⟨leRunning [par 0x10 0 2 1 1 0 0], 3, by decide +kernel⟩,
   ⟨leRunning [par 0x11 0 2 1 1 0 0], 3, by decide +kernel⟩,
   ⟨leRunning [par 0x12 0 2 1 1 0 0], 3, by decide +kernel⟩,
   ⟨leRunning [par 0x13 0 2 1 1 0 0], 3, by decide +kernel⟩,
   ⟨leRunning [par 0x14 0 2 1 1 0 0], 3, by decide +kernel⟩,
   ⟨leRunning [par 0x16 0 2 1 1 0 0], 3, by decide +kernel⟩,
   ⟨leRunning [par 0x17 0 2 1 1 0 0], 3, by decide +kernel⟩,
   ⟨leRunning [par 0x18 0 2 1 1 0 0], 3, by decide +kernel⟩,
   ⟨leRunning [par 0x19 0 2 1 1 0 0], 3, by decide +kernel⟩,
   ⟨leRunning [par 0x1A 0 2 1 1 0 0], 3, by decide +kernel⟩,
   ⟨leRunning [par 0x1B 0 2 1 1 0 0], 3, by decide +kernel⟩,
   ⟨leRunning [par 0x1C 0 2 1 1 0 0], 3, by decide +kernel⟩,
   ⟨leRunning [par 0x1E 0 2 1 1 0 0], 3, by decide +kernel⟩,
   ⟨leRunning [par 0x1F 0 2 1 1 0 0], 3, by decide +kernel⟩,
   ⟨leRunning [par 0x21 0 2 1 1 0 0], 3, by decide +kernel⟩⟩

theorem wit_EngineData :
    (∃ (s : State) (r : Rgn), (issues s r (.arith 0x15) = true)) ∧
    (∃ (s : State) (r : Rgn), (issues s r (.arith 0x1D) = true)) ∧
    (∃ (s : State) (r : Rgn), (issues s r (.arith 0x22) = true)) ∧
    (∃ (s : State) (r : Rgn), (issues s r (.arith 0x23) = true)) ∧
    (∃ (s : State) (r : Rgn), (issues s r (.arith 0x24) = true)) ∧
    (∃ (s : State) (r : Rgn), (issues s r (.arith 0x25) = true)) ∧
    (∃ (s : State) (r : Rgn), (issues s r (.arith 0x26) = true)) ∧
    (∃ (s : State) (r : Rgn), (issues s r (.arith 0x20) = true)) ∧
    (∃ (s : State) (r : Rgn), (issues s r (.arith 0x28) = true)) ∧
    (∃ (s : State) (r : Rgn), (issues s r (.arith 0) = true) ∧ ((s.eng r).loopList = [])) :=
  ⟨⟨leRunning [par 0x15 0 2 1 3 0 0], 3, by decide +kernel⟩,
   ⟨leRunning [par 0x1D 0 2 1 3 0 0], 3, by decide +kernel⟩,
   ⟨leRunning [par 0x22 0 2 1 3 0 0], 3, by decide +kernel⟩,
   ⟨leRunning [par 0x23 0 2 1 3 0 0], 3, by decide +kernel⟩,
   ⟨leRunning [par 0x24 0 2 1 3 0 0], 3, by decide +kernel⟩,
   ⟨leRunning [par 0x25 0 2 1 3 0 0], 3, by decide +kernel⟩,
   ⟨leRunning [par 0x26 0 2 1 3 0 0], 3, by decide +kernel⟩,
   ⟨leRunning [par 0x20 0 2 1 1 0 0], 3, by decide +kernel⟩,
   ⟨leRunning [par 0x28 0 2 1 1 0 0], 3, by decide +kernel⟩,
   ⟨leRunning [0], 3, by decide +kernel⟩⟩

theorem wit_EngineMoves :
    (∃ (s : State) (r : Rgn), (issues s r (.move 1) = true)) ∧
    (∃ (s : State) (r : Rgn), (issues s r (.move 2) = true)) ∧
    (∃ (s : State) (r : Rgn), (issues s r (.move 3) = true)) ∧
    (∃ (s : State) (r : Rgn) (x : Xfer) (l : List Xfer), (issues s r (.move 4) = true) ∧ (((s.eng r).ports.get (slotAux s r)).buf = x :: l)) ∧
    (∃ (s : State) (r : Rgn), (issues s r (.move 5) = true) ∧ (slotTwin s r = false ∨ pf (atPc s r) 2 0 ≠ slotAux s r) ∧ (s.gf F.LE_OUTp_CFG_DEST (leB r) (slotAux s r) ≠ 3) ∧ (nameSlot s r / 2 ^ 3 % 32 < 31 ∨ slotReg s r < 31)) ∧
    (∃ (s : State) (r : Rgn), (issues s r (.move 6) = true) ∧ (slotTwin s r = false ∨ pf (atPc s r) 12 8 ≠ slotReg s r)) ∧
    (∃ (s : State) (r : Rgn), (issues s r (.move 7) = true) ∧ (pf (atPc s r) 15 13 = 0 ∨ nameY s r = true ∨ pf (atPc s r) 7 5 ≠ slotPtr s r) ∧ (slotMod s r ≠ 0)) ∧
    (∃ (s : State) (r : Rgn), (issues s r (.imm 0) = true)) ∧
    (∃ (s : State) (r : Rgn), (issues s r (.imm 1) = true)) ∧
    (∃ (s : State) (r : Rgn), (issues s r (.imm 2) = true)) ∧
    (∃ (s : State) (r : Rgn), (issues s r (.imm 3) = true)) ∧
    (∃ (s : State) (r : Rgn), (issues s r (.imm 4) = true)) ∧
    (∃ (s : State) (r : Rgn), (issues s r (.imm 5) = true)) ∧
    (∃ (s : State) (r : Rgn), (issues s r (.imm 6) = true) ∧ ((s.eng r).loopList = [])) :=
  ⟨⟨leRunning [par 0 0 0 0 0 0x2300 0], 3, by decide +kernel⟩,
   ⟨leRunning [par 0 0 0 0 0 0 0x4208], 3, by decide +kernel⟩,
   ⟨leRunning [par 0 0 0 0 0 0 0x6000], 3, by decide +kernel⟩,
   ⟨withProg ((owned 3).setEng 3 { engRun with ports := engRun.ports.set 2 ⟨[⟨5, 6⟩], none⟩ }) 3 [par 0 0 0 0 0 0x8402 0], 3, ⟨5, 6⟩, [], by decide +kernel⟩,
   ⟨leRunning [par 0 0 0 0 0 0xA20A 0], 3, by decide +kernel⟩,
   ⟨leRunning [par 0 0 0 0 0 0xC204 0], 3, by decide +kernel⟩,
   ⟨leRunning [par 0 0 0 0 0 0xE008 0], 3, by decide +kernel⟩,
   ⟨leRunning [immW 0 17 0x123456], 3, by decide +kernel⟩,
   ⟨leRunning [immW 1 7 0x1234], 3, by decide +kernel⟩,
   ⟨leRunning [immW 2 7 0x1234], 3, by decide +kernel⟩,
   ⟨leRunning [immW 3 7 0x1234], 3, by decide +kernel⟩,
   ⟨leRunning [immW 4 7 0x1234], 3, by decide +kernel⟩,
   ⟨leRunning [immW 5 0 0x123], 3, by decide +kernel⟩,
   ⟨leRunning [immW 6 0 9], 3, by decide +kernel⟩⟩

theorem wit_EngineControl :
    (∃ (s : State) (r : Rgn), (issues s r (.ctl 0) = true) ∧ ((s.eng r).loopList = [])) ∧
    (∃ (s : State) (r : Rgn), (issues s r (.ctl 1) = true)) ∧
    (∃ (s : State) (r : Rgn), (issues s r (.ctl 2) = true)) ∧
    (∃ (s : State) (r : Rgn) (a : Nat) (l : List Nat), (issues s r (.ctl 3) = true) ∧ ((s.eng r).rets = a :: l)) ∧
    (∃ (s : State) (r : Rgn), (issues s r (.ctl 4) = true)) ∧
    (∃ (s : State) (r : Rgn), (issues s r (.ctl 5) = true)) ∧
    (∃ (s : State) (r : Rgn) (n : Nat), (issues s r (.ctl 6) = true) ∧ (((s.eng r).dreg (pf (atPc s r) 28 24)).toNat % 65536 = n) ∧ (n ≠ 0)) ∧
    (∃ (s : State) (r : Rgn) (x : LoopE) (l : List LoopE), (issues s r (.ctl 7) = true) ∧ ((s.eng r).loopList = x :: l)) ∧
    (∃ (s : State) (r : Rgn) (n : Nat), (issues s r (.ctl 8) = true) ∧ (((s.eng r).ports.get (pf (atPc s r) 23 20)).buf = [])) ∧
    (∃ (s : State) (r : Rgn) (n : Nat) (x : Xfer) (l : List Xfer), (issues s r (.ctl 8) = true) ∧ (((s.eng r).ports.get (pf (atPc s r) 23 20)).buf = x :: l)) ∧
    (∃ (s : State) (r : Rgn) (n : Nat), (issues s r (.ctl 9) = true)) ∧
    (∃ (s : State) (r : Rgn) (g : Fin 4), (issues s r (.ctl 10) = true) ∧ (s.gf F.CG_SCAN_TRIG_SRC (cgB r g) = 0x10 + pf (atPc s r) 23 20 ∧ s.gf F.CG_SCAN_SMODE (cgB r g) = 2) ∧ (converting s r g = true) ∧ ((s.grp r g).pass = none)) ∧
    (∃ (s : State) (r : Rgn), (issues s r (.ctl 11) = true)) ∧
    (∃ (s : State) (r : Rgn), (issues s r (.ctl 12) = true)) ∧
    (∃ (s : State) (r : Rgn), (issues s r (.ctl 13) = true) ∧ ((s.eng r).loopList = [])) ∧
    (∃ (s : State) (r : Rgn), (issues s r (.ctl 14) = true)) ∧
    (∃ (s : State) (r : Rgn) (n : Nat), (issues s r (.ctl 15) = true) ∧ ((s.eng r).cwr.length < 4)) ∧
    (∃ (s : State) (r : Rgn) (n : Nat), (issues s r (.ctl 15) = true) ∧ (4 ≤ (s.eng r).cwr.length)) ∧
    (∃ (s : State) (r : Rgn) (off v n : Nat), ((s.eng r).mode = .cwr off v) ∧ (s.clk r = 0 ∧ (s.eng r).paused = false) ∧ ((s.eng r).cwr.length < 4) ∧ (s.gb F.LE_CTRL_RUN (leB r) = true ∧ s.gb F.LE_CTRL_STEP (leB r) = false)) ∧
    (∃ (s : State) (r : Rgn), (issues s r (.ctl 16) = true)) :=
  ⟨⟨leRunning [ctlW 0 0], 3, by decide +kernel⟩,
   ⟨leRunning [ctlW 1 77], 3, by decide +kernel⟩,
   ⟨leRunning [ctlW 2 77], 3, by decide +kernel⟩,
   ⟨withProg ((owned 3).setEng 3 { engRun with rets := [9] }) 3 [ctlW 3 0], 3, 9, [], by decide +kernel⟩,
   ⟨withProg ((owned 3).setEng 3 { engRun with handler := true, ret := 44 }) 3 [ctlW 4 0], 3, by decide +kernel⟩,
   ⟨leRunning [ctlW 5 (3 * 2 ^ 32 + 2)], 3, by decide +kernel⟩,
   ⟨leRunning [ctlW 6 2], 3, 3, by decide +kernel⟩,
   ⟨withProg ((owned 3).setEng 3 { engRun with loops := [⟨0, 5, none, false⟩] }) 3 [ctlW 7 0], 3, ⟨0, 5, none, false⟩, [], by decide +kernel⟩,
   ⟨leRunning [ctlW 8 0], 3, 0, by decide +kernel⟩,
   ⟨withProg ((owned 3).setEng 3 { engRun with ports := engRun.ports.set 2 ⟨[⟨5, 6⟩], none⟩ }) 3 [ctlW 8 (2 * 2 ^ 20 + 4 * 2 ^ 24)], 3, 0, ⟨5, 6⟩, [], by decide +kernel⟩,
   ⟨leRunning [ctlW 9 0], 3, 0, by decide +kernel⟩,
   ⟨(((setCgState (leRunning [ctlW 10 (3 * 2 ^ 20)]) 3 0 3).sf F.CG_SCAN_SMODE (cgB 3 0) 0 2).sf F.CG_MASK_MASK (cgB 3 0) 0 6).sf F.CG_SCAN_TRIG_SRC (cgB 3 0) 0 0x13, 3, 0, by decide +kernel⟩,
   ⟨leRunning [ctlW 11 0], 3, by decide +kernel⟩,
   ⟨leRunning [ctlW 12 0], 3, by decide +kernel⟩,
   ⟨leRunning [ctlW 13 0], 3, by decide +kernel⟩,
   ⟨leRunning [ctlW 14 0], 3, by decide +kernel⟩,
   ⟨leRunning [ctlW 15 (1 * 2 ^ 24)], 3, 0, by decide +kernel⟩,
   ⟨withProg ((owned 3).setEng 3 { engRun with cwr := [(4, 0), (8, 0), (12, 0), (16, 0)] }) 3 [ctlW 15 (1 * 2 ^ 24)], 3, 0, by decide +kernel⟩,
   ⟨((owned 3).setEng 3 { engRun with mode := .cwr 0xF0020 5 }).sb F.LE_CTRL_RUN (leB 3) 0 true, 3, 0xF0020, 5, 3, by decide +kernel⟩,
   ⟨leRunning [ctlW 16 (1 * 2 ^ 24)], 3, by decide +kernel⟩⟩

theorem wit_EngineEvents :
    (∃ (s : State) (r : Rgn) (a : Nat) (x : LoopE), ((s.eng r).atEnd = some a) ∧ (s.clk r = 0 ∧ (s.eng r).paused = false) ∧ ((s.eng r).loopList = [x])) ∧
    (∃ (s : State) (r : Rgn) (a : Nat) (x y : LoopE) (l : List LoopE), ((s.eng r).atEnd = some a) ∧ (s.clk r = 0 ∧ (s.eng r).paused = false) ∧ ((s.eng r).loopList = x :: y :: l) ∧ (y.last ≠ a)) ∧
    (∃ (s : State) (r : Rgn), (leReady s r = true) ∧ (leFaultCause s r ≠ 0)) ∧
    (∃ (s : State) (r : Rgn) (e : Fin 32), (s.clk r = 0)) ∧
    (∃ (s : State) (r : Rgn) (e : Fin 32), (s.clk r ≠ 0)) ∧
    (∃ (s : State) (r : Rgn) (n : Nat), (takesEvents s r = true) ∧ ((s.eng r).mode = .running) ∧ (s.gf F.LE_EVPEND_PEND (leB r) &&& s.gf F.LE_EVEN_EN (leB r) ≠ 0)) ∧
    (∃ (s : State) (r : Rgn), (s.gf F.LE_TIMER_PERIOD (leB r) ≠ 0) ∧ (s.clk r = 0)) ∧
    (∃ (s : State) (r : Rgn) (p : Fin 8) (w0 w1 : BitVec 24), (s.gb F.LE_INp_CFG_MODE (leB r) p = false) ∧ (((s.eng r).ports.get p).buf.length < 4)) ∧
    (∃ (s : State) (r : Rgn) (p : Fin 8) (q i : Nat) (x : Xfer) (l : List Xfer), (s.clk r = 0) ∧ ((s.eng r).outq.get p = x :: l) ∧ (s.gf F.LE_OUTp_CFG_DEST (leB r) p = 1) ∧ (s.gf F.LE_OUTp_CFG_RGN (leB r) p = q ∧ s.gf F.LE_OUTp_CFG_PORT (leB r) p = i ∧ i < 8) ∧ (s.gb F.LE_INp_CFG_MODE (leB q) i = false) ∧ (((s.eng q).ports.get i).buf.length < 4)) ∧
    (∃ (s : State) (r : Rgn), (leWaits s r .waitIn = true) ∧ (s.gf F.LE_WAIT_TMO_CYC (leB r) ≠ 0) ∧ (((s.eng r).ports.get (pf (atPc s r) 23 20)).buf = []) ∧ (s.gb F.LE_CTRL_STEP (leB r) = false)) ∧
    (∃ (s : State) (r : Rgn) (n off k : Nat), ((s.eng r).mode = .crd off k) ∧ (s.clk r = 0 ∧ (s.eng r).paused = false ∧ (s.eng r).cwr = []) ∧ (s.gb F.LE_CTRL_STEP (leB r) = false ∧ s.gb F.LE_CTRL_RUN (leB r) = true)) ∧
    (∃ (s : State) (r : Rgn) (n off k : Nat), ((s.eng r).mode = .crd off k) ∧ (s.clk r = 0 ∧ (s.eng r).paused = false ∧ (s.eng r).cwr = []) ∧ (s.gb F.LE_CTRL_RUN (leB r) = false)) :=
  ⟨⟨(owned 3).setEng 3 { engRun with atEnd := some 5, loops := [⟨2, 5, some 1, true⟩] }, 3, 5, ⟨2, 5, some 1, true⟩, by decide +kernel⟩,
   ⟨(owned 3).setEng 3 { engRun with atEnd := some 5, loops := [⟨2, 5, some 1, true⟩, ⟨1, 6, none, false⟩] }, 3, 5, ⟨2, 5, some 1, true⟩, ⟨1, 6, none, false⟩, [], by decide +kernel⟩,
   ⟨leRunning [ctlW 3 0], 3, by decide +kernel⟩,
   ⟨State.reset, 3, 0, by decide +kernel⟩,
   ⟨State.reset.setClk 3 1, 3, 0, by decide +kernel⟩,
   ⟨((leRunning [0]).sf F.LE_EVPEND_PEND (leB 3) 0 12).sf F.LE_EVEN_EN (leB 3) 0 8, 3, 0, by decide +kernel⟩,
   ⟨State.reset.sf F.LE_TIMER_PERIOD (leB 3) 0 12, 3, by decide +kernel⟩,
   ⟨State.reset, 3, 0, 0, 0, by decide +kernel⟩,
   ⟨((owned 3).setEng 3 { engRun with outq := engRun.outq.set 0 [⟨1, 2⟩] }).sf F.LE_OUTp_CFG_DEST (leB 3) 0 1, 3, 0, 0, 0, ⟨1, 2⟩, [], by decide +kernel⟩,
   ⟨(withProg ((owned 3).setEng 3 { engRun with mode := .waitIn }) 3 [ctlW 8 0]).sf F.LE_WAIT_TMO_CYC (leB 3) 0 5, 3, by decide +kernel⟩,
   ⟨((owned 3).setEng 3 { engRun with mode := .crd 0xF0004 2 }).sb F.LE_CTRL_RUN (leB 3) 0 true, 3, 0, 0xF0004, 2, by decide +kernel⟩,
   ⟨(owned 3).setEng 3 { engRun with mode := .crd 0xF0004 2 }, 3, 0, 0xF0004, 2, by decide +kernel⟩⟩

theorem wit_EngineAccess :
    (∃ (s : State) (a : Reader) (r : Rgn), (s.mayWrite a r = true) ∧ (s.gb F.LE_CTRL_STEP (leB r) = false ∧ s.gb F.LE_CTRL_ERST (leB r) = false) ∧ ((s.eng r).mode = .halted)) ∧
    (∃ (s : State) (a : Reader) (r : Rgn), (s.mayWrite a r = true) ∧ (s.gb F.LE_CTRL_STEP (leB r) = false ∧ s.gb F.LE_CTRL_ERST (leB r) = false) ∧ (s.gb F.LE_CTRL_LIVE (leB r) = false) ∧ ((s.eng r).mode = .running ∨ (s.eng r).mode = .waitIn ∨ (s.eng r).mode = .waitEv ∨ (s.eng r).mode = .halted)) ∧
    (∃ (s : State) (a : Reader) (r : Rgn) (off k : Nat), (s.mayWrite a r = true) ∧ (s.gb F.LE_CTRL_STEP (leB r) = false ∧ s.gb F.LE_CTRL_ERST (leB r) = false) ∧ (s.gb F.LE_CTRL_LIVE (leB r) = false) ∧ ((s.eng r).mode = .crd off k ∨ (s.eng r).mode = .cwr off k)) ∧
    (∃ (s : State) (a : Reader) (r : Rgn), (s.mayWrite a r = true) ∧ (s.gb F.LE_CTRL_LIVE (leB r) = false) ∧ ((s.eng r).mode = .halted)) ∧
    (∃ (s : State) (a : Reader) (r : Rgn), (s.mayWrite a r = true) ∧ (s.gb F.LE_CTRL_LIVE (leB r) = false ∨ (s.eng r).mode = .faulted)) ∧
    (∃ (s : State) (a : Reader) (r : Rgn) (n : Fin 8192) (v : DWord), (s.mayWrite a r = true) ∧ (leStopped s r = true)) ∧
    (∃ (s : State) (a : Reader) (r : Rgn) (y : Bool) (n : Fin 16384) (v : Word), (s.mayWrite a r = true)) ∧
    (∃ (s : State) (a : Reader) (r : Rgn) (y : Bool) (n : Fin 16384) (v : Word), (s.mayWrite a r = true) ∧ ((s.eng r).stored.contains (y, n.val) = true)) ∧
    (∃ (s : State) (a : Reader) (r : Rgn) (n : Fin 76) (v : DWord), (s.mayWrite a r = true) ∧ (leStopped s r = true) ∧ (n.val < 16)) ∧
    (∃ (s : State) (a : Reader) (r : Rgn) (v : DWord), (s.mayWrite a r = true) ∧ (leStopped s r = true)) ∧
    (∃ (s : State) (r : Rgn) (g : Fin 4) (n : Fin 3) (e : TapEntry) (l : List TapEntry) (q i : Nat), (s.clk r = 0 ∧ cgState s r g ≠ 6 ∧ cgState s r g ≠ 7) ∧ (((s.grp r g).taps.get n).buf = e :: l) ∧ (s.gf F.CG_TAPt_CFG_DEST (cgB r g) n = 0) ∧ (s.gf F.CG_TAPt_CFG_RGN (cgB r g) n = q ∧ s.gf F.CG_TAPt_CFG_PORT (cgB r g) n = i ∧ i < 8) ∧ (s.gb F.LE_INp_CFG_MODE (leB q) i = false) ∧ (((s.eng q).ports.get i).buf.length < 4)) ∧
    (∃ (s : State) (r : Rgn) (g : Fin 4) (n : Fin 3) (e : TapEntry) (l : List TapEntry) (q i : Nat), (s.clk r = 0 ∧ cgState s r g ≠ 6 ∧ cgState s r g ≠ 7) ∧ (((s.grp r g).taps.get n).buf = e :: l) ∧ (s.gf F.CG_TAPt_CFG_DEST (cgB r g) n = 1) ∧ (s.gf F.CG_TAPt_CFG_RGN (cgB r g) n = q ∧ s.gf F.CG_TAPt_CFG_PORT (cgB r g) n = i) ∧ ((streamPush (tapPop s r g n) q i 1 (e.result.setWidth 72)).isSome = true)) ∧
    (∃ (s : State) (r : Rgn) (p : Fin 8) (sub : Fin 120) (x : Xfer) (l : List Xfer) (q : Rgn) (c : Fin 16), (s.clk r = 0 ∧ (q = r ∨ s.clk q = 0)) ∧ ((s.eng r).outq.get p = x :: l) ∧ (s.gf F.LE_OUTp_CFG_DEST (leB r) p = 0) ∧ (Word.bits (x.w1.setWidth 32) 23 20 = q.val ∧ Word.bits (x.w1.setWidth 32) 19 16 = c.val ∧ dieOf q = dieOf r) ∧ (s.gf F.PG_CHcc_CFG_DSRC (pgB q) c = 1) ∧ (s.gf F.PG_CHcc_CFG_SRC_RGN (pgB q) c = r.val ∧ s.gf F.PG_CHcc_CFG_SRC_PORT (pgB q) c = p.val)) ∧
    (∃ (s : State) (a : Reader) (r : Rgn) (lane : Fin 4), (s.mayWrite a r = true) ∧ (s.gb F.LE_SUB_START (leB r) = false) ∧ (s.gb F.LE_SPARE_STAT_FREE (leB r) = true) ∧ (s.gf F.LE_SUB_STAT_STATE (leB r) = 0)) ∧
    (∃ (s : State) (r : Rgn), (s.gf F.LE_SUB_STAT_STATE (leB r) = 1) ∧ (pausing s r = false)) ∧
    (∃ (s : State) (r : Rgn), (s.gf F.LE_SUB_STAT_STATE (leB r) = 1)) ∧
    (∃ (s : State) (r : Rgn) (ok : Bool), (s.gf F.LE_SUB_STAT_STATE (leB r) = 4) ∧ ((s.eng r).forced = false)) ∧
    (∃ (s : State) (r : Rgn), (s.gf F.LE_SUB_STAT_STATE (leB r) = 2)) :=
  ⟨⟨owned 3, .hla, 3, by decide +kernel⟩,
   ⟨(leRunning [0]).sb F.LE_CTRL_RUN (leB 3) 0 true, .hla, 3, by decide +kernel⟩,
   ⟨((owned 3).setEng 3 { engRun with mode := .crd 0xF0004 2 }).sb F.LE_CTRL_RUN (leB 3) 0 true, .hla, 3, 0xF0004, 2, by decide +kernel⟩,
   ⟨owned 3, .hla, 3, by decide +kernel⟩,
   ⟨leRunning [0], .hla, 3, by decide +kernel⟩,
   ⟨owned 3, .hla, 3, 0, 0x123456789ABCDEF0, by decide +kernel⟩,
   ⟨owned 3, .hla, 3, false, 0, 0, by decide +kernel⟩,
   ⟨(owned 3).setEng 3 { engRun with stored := [(true, 7)] }, .hla, 3, true, 7, 0, by decide +kernel⟩,
   ⟨owned 3, .hla, 3, 0, 0, by decide +kernel⟩,
   ⟨owned 3, .hla, 3, 9, by decide +kernel⟩,
   ⟨State.reset.setGrp 3 0 { GrpS.reset with taps := GrpS.reset.taps.set 0 ⟨0, 0, [⟨5, 6, 7⟩]⟩ }, 3, 0, 0, ⟨5, 6, 7⟩, [], 0, 0, by decide +kernel⟩,
   ⟨((((((State.reset.setGrp 3 0 { GrpS.reset with taps := GrpS.reset.taps.set 0 ⟨0, 0, [⟨5, 6, 7⟩]⟩ }).sf F.CG_TAPt_CFG_DEST (cgB 3 0) 0 1).sf F.QC_CFG_EN (fabB 0) 0 1).sf F.QC_CFG_MODE (fabB 0) 0 1).sf F.QC_CFG_WIDTH (fabB 0) 0 3).sf F.QC_CFG_WSRC (fabB 0) 0 1), 3, 0, 0, ⟨5, 6, 7⟩, [], 0, 0, by decide +kernel⟩,
   ⟨(((owned 3).setEng 3 { engRun with outq := engRun.outq.set 0 [⟨0, 0x300000⟩] }).sf F.PG_CHcc_CFG_DSRC (pgB 3) 0 1).sf F.PG_CHcc_CFG_SRC_RGN (pgB 3) 0 3, 3, 0, 0, ⟨0, 0x300000⟩, [], 3, 0, by decide +kernel⟩,
   ⟨owned 3, .hla, 3, 0, by decide +kernel⟩,
   ⟨(owned 3).sf F.LE_SUB_STAT_STATE (leB 3) 0 1, 3, by decide +kernel⟩,
   ⟨(owned 3).sf F.LE_SUB_STAT_STATE (leB 3) 0 1, 3, by decide +kernel⟩,
   ⟨(owned 3).sf F.LE_SUB_STAT_STATE (leB 3) 0 4, 3, false, by decide +kernel⟩,
   ⟨(owned 3).sf F.LE_SUB_STAT_STATE (leB 3) 0 2, 3, by decide +kernel⟩⟩

theorem wit_FabricLines :
    (∃ (s : State) (d : Fin 2) (k : Fin 8), (resetSource s d k ≠ 0)) ∧
    (∃ (s : State) (d : Fin 2) (k : Fin 8), (resetSource s d k ≠ 0)) ∧
    (∃ (s : State) (a : Reader) (r : Rgn) (v : Word) (k : Fin 8) (c : Fin 96), (s.mayWrite a r = true) ∧ ((fOf v F.FAB_RST_PULSE).testBit k = true)) ∧
    (∃ (s : State) (r : Rgn) (code : Fin 64) (tr : Fin 24) (sub : Fin 40) (c : Fin 96) (j : Fin 32), (branchOpen s r tr = true) ∧ (clusterClock s r c (ffCode s r c j / 8 % 2) = some tr.val) ∧ (ffEnabled s r c j = true)) ∧
    (∃ (s : State) (r : Rgn) (line : Fin 8) (g : Fin 4), (s.clk r = 0) ∧ (s.gf F.CG_SCAN_TRIG_SRC (cgB r g) = 0x18 + line.val) ∧ (∀ k : Fin 4, s.gf F.CG_URGk_CFG_SRC (cgB r g) k ≠ 0x18 + line.val) ∧ (s.gf F.CG_SCAN_SMODE (cgB r g) = 2) ∧ (converting s r g = true) ∧ ((s.grp r g).pass = none)) ∧
    (∃ (s : State) (r : Rgn) (p : Fin 4) (payload : BitVec 128) (cls flow : Nat), (s.gb F.FAB_SPRp_EN (fabB r) p = true) ∧ (s.clk r = 0) ∧ (s.gf F.FAB_SPRp_CLASS (fabB r) p = cls ∧ cls ≠ 0) ∧ (s.gf F.FAB_SPRp_FLOW (fabB r) p = flow) ∧ (sourceDrop s cls flow = 0) ∧ (flowAccepted s flow = false)) ∧
    (∃ (s : State) (r : Rgn) (p : Fin 4) (payload : BitVec 128), (s.gb F.FAB_SPRp_EN (fabB r) p = true) ∧ (s.clk r = 0) ∧ (s.gf F.FAB_SPRp_CLASS (fabB r) p = 0) ∧ (s.spoor.slots.get (slotKey (srcRgn r (unitFabPort p)) (payloadGet payload 0 2) 0) = none)) ∧
    (∃ (s : State) (a : Reader) (r : Rgn) (n m : Fin 64) (v w : Word) (c d : Fin 4), (groupOf s r n = [n.val, m.val]) ∧ (groupStart s r n = true ∧ reaches s a (R.FAB_UREGn.addr (fabB r) n) = true) ∧ (uregWide s r n = false ∧ uregWide s r m = false) ∧ (∀ h : Fin 2, uregSegment s r n h = none ∧ uregSegment s r m h = none)) ∧
    (∃ (s : State) (a : Reader) (r : Rgn) (n m : Fin 64) (v w : Word) (c d : Fin 4), (groupOf s r n = [n.val, m.val]) ∧ (groupStart s r n = true ∧ reaches s a (R.FAB_UREGn.addr (fabB r) n) = true) ∧ (uregWide s r n = true ∧ uregWide s r m = true) ∧ (∀ h : Fin 2, uregSegment s r n h = none ∧ uregSegment s r m h = none)) ∧
    (∃ (s : State) (a : Reader) (r : Rgn) (n : Fin 64) (c d : Fin 96) (live : List (Word × Fin 4)), (groupStart s r n = true ∧ reaches s a (R.FAB_UREGn.addr (fabB r) n) = true) ∧ (uregWide s r n = false) ∧ (uregSegment s r n 0 = some c.val ∧ uregSegment s r n 1 = some d.val)) ∧
    (∃ (s : State) (a : Reader) (r : Rgn) (v : Word), (s.mayWrite a r = true) ∧ (s.gb F.FAB_CAP_CTRL_START (fabB r) = false)) ∧
    (∃ (s : State) (r : Rgn) (code : Fin 64) (sub : Fin 40), (s.gf F.FAB_CAP_STAT_STATE (fabB r) = 1 ∧ (s.fab r).capTrig = false)) ∧
    (∃ (s : State) (r : Rgn) (code : Fin 64) (tr : Fin 24) (sub : Fin 40), ((s.fab r).capTrig = true ∧ (s.fab r).capPend.testBit tr = true) ∧ (branchOpen s r tr = true)) ∧
    (∃ (s : State) (r : Rgn) (code : Fin 64) (tr : Fin 24) (sub : Fin 40), ((s.fab r).capTrig = true ∧ (s.fab r).capPend.testBit tr = true) ∧ (s.clk r ≠ 0)) ∧
    (∃ (s : State) (r : Rgn) (tr : Fin 24) (sub : Fin 40) (x : DWord), ((s.fab r).capTrig = true ∧ (s.fab r).capFirst = some x) ∧ (branchOpen s r tr = true) ∧ ((s.fab r).capPend = 2 ^ tr.val)) ∧
    (∃ (s : State) (r : Rgn) (sub : Fin 40), ((s.fab r).capPend ≠ 0)) ∧
    (∃ (s : State) (a : Reader) (r : Rgn), (s.mayWrite a r = true) ∧ (s.gb F.FAB_CAP_CTRL_START (fabB r) = true)) :=
  ⟨⟨{ State.reset with img := (State.reset.img.set (imgKey 0 0x50) 1).set (imgKey 0 0x1000) 5 }, 0, 0, by decide +kernel⟩,
   ⟨{ State.reset with img := State.reset.img.set (imgKey 0 0x50) 1 }, 0, 0, by decide +kernel⟩,
   ⟨owned 3, .hla, 3, 1, 0, 0, by decide +kernel⟩,
   ⟨{ State.reset with img := State.reset.img.set (imgKey 3 0x7000) 1 }, 3, 0, 0, 0, 0, 0, by decide +kernel⟩,
   ⟨((grpIn 3).sf F.CG_SCAN_SMODE (cgB 3 0) 0 2).sf F.CG_SCAN_TRIG_SRC (cgB 3 0) 0 0x18, 3, 0, 0, by decide +kernel⟩,
   ⟨(({ State.reset with spoor := { State.reset.spoor with started := true } } : State).sf F.FAB_SPRp_EN (fabB 3) 0 1).sf F.FAB_SPRp_CLASS (fabB 3) 0 2, 3, 0, 0, 2, 0, by decide +kernel⟩,
   ⟨State.reset.sf F.FAB_SPRp_EN (fabB 3) 0 1, 3, 0, 0x1234, by decide +kernel⟩,
   ⟨running.wr R.FAB_UGRP0 (fabB 3) 0 5, .hla, 3, 0, 1, 0, 0, 0, 0, by decide +kernel⟩,
   ⟨{ (running.wr R.FAB_UGRP0 (fabB 3) 0 5) with img := (State.reset.img.set (imgKey 3 0x240) 1).set (imgKey 3 0x241) 1 }, .hla, 3, 0, 1, 0xFFFFFFFF, 0, 3, 0, by decide +kernel⟩,
   ⟨{ (running.wr R.FAB_UGRP0 (fabB 3) 0 5) with img := (State.reset.img.set (imgKey 3 0x280) 1).set (imgKey 3 0x281) 2 }, .hla, 3, 0, 0, 1, [], by decide +kernel⟩,
   ⟨owned 3, .hla, 3, 0, by decide +kernel⟩,
   ⟨State.reset.sf F.FAB_CAP_STAT_STATE (fabB 3) 0 1, 3, 0, 0, by decide +kernel⟩,
   ⟨State.reset.setFab 3 { FabS.reset with capTrig := true, capPend := 1 }, 3, 0, 0, 0, by decide +kernel⟩,
   ⟨(State.reset.setFab 3 { FabS.reset with capTrig := true, capPend := 1 }).setClk 3 1, 3, 0, 0, 0, by decide +kernel⟩,
   ⟨State.reset.setFab 3 { FabS.reset with capTrig := true, capPend := 1, capFirst := some 77 }, 3, 0, 0, 77, by decide +kernel⟩,
   ⟨State.reset.setFab 3 { FabS.reset with capPend := 1 }, 3, 0, by decide +kernel⟩,
   ⟨(owned 3).sf F.FAB_CAP_CTRL_START (fabB 3) 0 1, .hla, 3, by decide +kernel⟩⟩

theorem wit_BlockMemories :
    (∃ (s : State) (r : Rgn) (b : Fin 16) (pB : Bool) (h : Shape) (a : Fin 4096) (v : BitVec 36) (m : WrMode), (blockParity s r b = false) ∧ (s.clk r = 0)) ∧
    (∃ (s : State) (r : Rgn) (b : Fin 16) (pB : Bool) (h : Shape) (a : Fin 4096) (v : BitVec 36) (m : WrMode), (s.clk r = 0)) ∧
    (∃ (s : State) (r : Rgn) (b : Fin 16) (h : Shape) (a : Fin 4096) (v : BitVec 36) (m : WrMode) (l : BmLast), (blockParity s r b = false) ∧ ((s.fab r).bmLast.get b = some l) ∧ (l.word = shapeWord h a ∧ l.portB = false) ∧ (s.clk r = 0)) ∧
    (∃ (s : State) (r : Rgn) (b : Fin 16) (pB : Bool) (a : Fin 4096) (v : BitVec 36) (m : WrMode) (i : Fin 4), (blockParity s r b = true) ∧ (s.clk r = 0)) ∧
    (∃ (s : State) (r : Rgn) (b : Fin 16) (pB : Bool) (h : Shape) (a : Fin 4096), (blockParity s r b = false) ∧ (s.clk r = 0)) ∧
    (∃ (s : State) (r : Rgn) (b : Fin 16) (pB : Bool) (h : Shape) (a : Fin 4096) (v : BitVec 36) (m : WrMode) (same : Bool), (s.clk r ≠ 0)) ∧
    (∃ (s : State) (r : Rgn) (b : Fin 16) (pB : Bool) (a : Fin 4096) (u : BitVec 36), (blockParity s r b = true) ∧ (∃ i : Fin 4, byteOdd (bmGet s r b (a.val % 1024) ^^^ u) i = true) ∧ ((s.fab r).rowErr.get (b * 32 + a.val % 1024 / 32) = 0) ∧ (s.clk r = 0)) ∧
    (∃ (s : State) (a : Reader) (r : Rgn), (reaches s a (fabB r) = true) ∧ (blockParity s r (s.gf F.FAB_BM_ADDR_BLK (fabB r)) = false)) ∧
    (∃ (s : State) (a : Reader) (r : Rgn) (v : BitVec 36), (s.mayWrite a r = true) ∧ (s.gf F.FAB_RELOC_STAT_STATE (fabB r) = 0) ∧ (blockParity s r (s.gf F.FAB_BM_ADDR_BLK (fabB r)) = false)) ∧
    (∃ (s : State) (a : Reader) (r : Rgn) (v : BitVec 36) (l : BmLast), (s.mayWrite a r = true) ∧ (s.gf F.FAB_RELOC_STAT_STATE (fabB r) = 0) ∧ ((s.fab r).bmLast.get (s.gf F.FAB_BM_ADDR_BLK (fabB r)) = some l) ∧ (l.word = s.gf F.FAB_BM_ADDR_WORD (fabB r))) :=
  ⟨⟨State.reset, 3, 0, false, .by9, 6, 0x155, .writeFirst, by decide +kernel⟩,
   ⟨State.reset, 3, 0, false, .by9, 6, 0x155, .writeFirst, by decide +kernel⟩,
   ⟨State.reset.setFab 3 { FabS.reset with bmLast := FabS.reset.bmLast.set 0 (some ⟨false, 1, 0x1FF, 5⟩) }, 3, 0, .by9, 4, 0x155, .noChange, ⟨false, 1, 0x1FF, 5⟩, by decide +kernel⟩,
   ⟨{ State.reset with img := State.reset.img.set (imgKey 3 0) 1 }, 3, 0, false, 4095, 0x123456789, .noChange, 0, by decide +kernel⟩,
   ⟨State.reset, 3, 0, false, .by18, 0, by decide +kernel⟩,
   ⟨State.reset.setClk 3 1, 3, 0, false, .by18, 0, 0, .noChange, false, by decide +kernel⟩,
   ⟨{ State.reset with img := State.reset.img.set (imgKey 3 0) 1 }, 3, 0, false, 0, 1, by decide +kernel⟩,
   ⟨running, .hla, 3, by decide +kernel⟩,
   ⟨owned 3, .hla, 3, 7, by decide +kernel⟩,
   ⟨(owned 3).setFab 3 { FabS.reset with bmLast := FabS.reset.bmLast.set 0 (some ⟨false, 0, 0x1FF, 5⟩) }, .hla, 3, 0, ⟨false, 0, 0x1FF, 5⟩, by decide +kernel⟩⟩

theorem wit_QueueControllers :
    (∃ (s : State) (r : Rgn) (q : Fin 16) (v : BitVec 72) (fin : Bool) (wc rc : Nat), (qcOn s r q = true ∧ s.clk r = 0) ∧ (s.gf F.QC_CFG_WSRC (fabB r) q = 0) ∧ (qcPacket s r q = false) ∧ (qcFull (qcPass s r q wc rc) r q = false)) ∧
    (∃ (s : State) (r : Rgn) (q : Fin 16) (v : BitVec 72) (fin : Bool) (wc rc : Nat), (qcOn s r q = true ∧ s.clk r = 0) ∧ (s.gf F.QC_CFG_WSRC (fabB r) q = 0) ∧ (qcPacket s r q = true) ∧ ((s.qc r q).dropping = false) ∧ (qcFull (qcPass s r q wc rc) r q = false)) ∧
    (∃ (s : State) (r : Rgn) (q : Fin 16) (v : BitVec 72) (fin : Bool) (wc rc : Nat), (qcOn s r q = true ∧ s.clk r = 0) ∧ (s.gf F.QC_CFG_WSRC (fabB r) q = 0) ∧ (qcFull (qcPass s r q wc rc) r q = true) ∧ ((s.qc r q).dropping = false)) ∧
    (∃ (s : State) (r q : Rgn) (p : Fin 8) (i : Fin 16) (wc rc : Nat) (x : Xfer) (l : List Xfer), ((s.eng r).outq.get p = x :: l) ∧ (s.clk r = 0 ∧ s.clk q = 0) ∧ (s.gf F.LE_OUTp_CFG_DEST (leB r) p = 2) ∧ (s.gf F.LE_OUTp_CFG_RGN (leB r) p = q.val ∧ s.gf F.LE_OUTp_CFG_PORT (leB r) p = i) ∧ (qcOn s q i = true ∧ qcPacket s q i = false ∧ qcFull (qcPass s q i wc rc) q i = false) ∧ (s.gf F.QC_CFG_WSRC (fabB q) i = 2 ∧ s.gf F.QC_CFG_WIDTH (fabB q) i = 3)) ∧
    (∃ (s : State) (r : Rgn) (q : Fin 16) (e : QEntry) (l : List QEntry) (wc rc : Nat) (u : BitVec 72), (qcOn s r q = true ∧ s.clk r = 0) ∧ (((s.qc r q).pass wc rc).q = e :: l) ∧ (e.age = 3) ∧ (s.gf F.QC_CFG_RSNK (fabB r) q = 0)) ∧
    (∃ (s : State) (r : Rgn) (q : Fin 16) (wc rc : Nat) (u : BitVec 72), (qcOn s r q = true ∧ s.clk r = 0) ∧ (((s.qc r q).pass wc rc).seen = [])) ∧
    (∃ (s : State) (a : Reader) (r : Rgn) (q : Fin 16) (e : QEntry) (l : List QEntry) (wc rc : Nat) (u : BitVec 72), (reaches s a (R.QC_DATA.addr (fabB r) q) = true) ∧ (qcOn s r q = true ∧ s.gf F.QC_CFG_WIDTH (fabB r) q = 3) ∧ (((s.qc r q).pass wc rc).q = e :: l) ∧ (e.age = 3)) ∧
    (∃ (s : State) (a : Reader) (r : Rgn) (q : Fin 16) (wc rc : Nat) (u : BitVec 72), (reaches s a (R.QC_DATA.addr (fabB r) q) = true) ∧ (qcOn s r q = true ∧ s.gf F.QC_CFG_WIDTH (fabB r) q = 3) ∧ ((s.qc r q).q = [])) ∧
    (∃ (s : State) (a : Reader) (r : Rgn) (q : Fin 16), (s.mayWrite a r = true) ∧ (s.gf F.FAB_RELOC_STAT_STATE (fabB r) = 0)) ∧
    (∃ (s : State) (r : Rgn) (q : Fin 16), (qcOn s r q = true ∧ qcPacket s r q = true ∧ s.clk r = 0) ∧ ((s.qc r q).part ≠ [])) :=
  ⟨⟨((owned 3).sf F.QC_CFG_EN (fabB 3) 0 1).sf F.QC_CFG_MODE (fabB 3) 0 1, 3, 0, 0x7FF, false, 0, 0, by decide +kernel⟩,
   ⟨((owned 3).sf F.QC_CFG_EN (fabB 3) 0 1).sf F.QC_CFG_MODE (fabB 3) 0 2, 3, 0, 0x7FF, false, 0, 0, by decide +kernel⟩,
   ⟨(((owned 3).sf F.QC_CFG_EN (fabB 3) 0 1).sf F.QC_CFG_MODE (fabB 3) 0 1).setQc 3 0 ⟨List.replicate 4096 ⟨0, false, 3⟩, [], false, 0, [], 0⟩, 3, 0, 0, false, 0, 0, by decide +kernel⟩,
   ⟨((((((owned 3).setEng 3 { engRun with outq := engRun.outq.set 0 [⟨1, 2⟩] }).sf F.LE_OUTp_CFG_DEST (leB 3) 0 2).sf F.QC_CFG_EN (fabB 0) 0 1).sf F.QC_CFG_MODE (fabB 0) 0 1).sf F.QC_CFG_WSRC (fabB 0) 0 2).sf F.QC_CFG_WIDTH (fabB 0) 0 3, 3, 0, 0, 0, 0, 0, ⟨1, 2⟩, [], by decide +kernel⟩,
   ⟨(((owned 3).sf F.QC_CFG_EN (fabB 3) 0 1).sf F.QC_CFG_MODE (fabB 3) 0 1).setQc 3 0 ⟨[⟨5, false, 1⟩], [], false, 0, [], 0⟩, 3, 0, ⟨5, false, 3⟩, [], 0, 2, 0, by decide +kernel⟩,
   ⟨(((owned 3).sf F.QC_CFG_EN (fabB 3) 0 1).sf F.QC_CFG_MODE (fabB 3) 0 1).setQc 3 0 ⟨[⟨5, false, 1⟩], [], false, 0, [], 0⟩, 3, 0, 0, 1, 0, by decide +kernel⟩,
   ⟨(((running.sf F.QC_CFG_EN (fabB 3) 0 1).sf F.QC_CFG_MODE (fabB 3) 0 1).sf F.QC_CFG_WIDTH (fabB 3) 0 3).setQc 3 0 ⟨[⟨5, false, 3⟩], [], false, 0, [], 0⟩, .hla, 3, 0, ⟨5, false, 3⟩, [], 0, 0, 0, by decide +kernel⟩,
   ⟨((running.sf F.QC_CFG_EN (fabB 3) 0 1).sf F.QC_CFG_MODE (fabB 3) 0 1).sf F.QC_CFG_WIDTH (fabB 3) 0 3, .hla, 3, 0, 0, 0, 0, by decide +kernel⟩,
   ⟨owned 3, .hla, 3, 0, by decide +kernel⟩,
   ⟨(((owned 3).sf F.QC_CFG_EN (fabB 3) 0 1).sf F.QC_CFG_MODE (fabB 3) 0 2).setQc 3 0 ⟨[], [⟨5, false, 0⟩], false, 0, [], 0⟩, 3, 0, by decide +kernel⟩⟩

theorem wit_Relocation :
    (∃ (s : State) (a : Reader) (r : Rgn) (c : Fin 96) (sp : Nat), (s.mayWrite a r = true) ∧ (s.gb F.FAB_RELOC_START (fabB r) = false ∧ s.gf F.FAB_RELOC_STAT_STATE (fabB r) = 0) ∧ (rlFree s r 0 = some sp) ∧ (relocHeld s r 0 c = true)) ∧
    (∃ (s : State) (a : Reader) (r : Rgn) (c : Fin 96), (s.mayWrite a r = true) ∧ (s.gb F.FAB_RELOC_START (fabB r) = false) ∧ (rlFree s r 0 = none)) ∧
    (∃ (s : State) (r : Rgn) (c : Fin 96) (sp : Nat), (s.gb F.FAB_CTRL_AUTO_RELOC (fabB r) = true) ∧ (s.gf F.FAB_RELOC_STAT_STATE (fabB r) = 0 ∧ s.gf F.RGN_STAT_OWNER (rgB r) ≠ 0) ∧ (rlFree s r 0 = some sp) ∧ (relocHeld s r 0 c = true)) ∧
    (∃ (s : State) (r : Rgn) (c : Fin 96), (s.gb F.FAB_CTRL_AUTO_RELOC (fabB r) = false)) ∧
    (∃ (s : State) (a : Reader) (r : Rgn) (b : Fin 16), (s.mayWrite a r = true) ∧ (s.gb F.FAB_RELOC_START (fabB r) = false ∧ s.gf F.FAB_RELOC_STAT_STATE (fabB r) = 0) ∧ (s.gb F.FAB_SPARE_STAT_BM_FREE (fabB r) = true) ∧ (relocHeld s r 1 b = true)) ∧
    (∃ (s : State) (r : Rgn) (raw : List (BitVec 1088)) (e : DigS) (ok : Bool), (s.gf F.FAB_RELOC_STAT_STATE (fabB r) = 1) ∧ ((s.fab r).rlKind = 0 ∧ (s.fab r).rlSpare < 4) ∧ (relocDigest s r (s.fab r).rlTarget = some e) ∧ (e.vol = false ∧ e.enc = false ∧ e.count = 26)) ∧
    (∃ (s : State) (r : Rgn) (ok : Bool), (s.gf F.FAB_RELOC_STAT_STATE (fabB r) = 1) ∧ ((s.fab r).rlKind = 0)) ∧
    (∃ (s : State) (r : Rgn) (ok : Bool), (s.gf F.FAB_RELOC_STAT_STATE (fabB r) = 1) ∧ ((s.fab r).rlKind = 1)) ∧
    (∃ (s : State) (r : Rgn) (ok : Bool), (s.gf F.FAB_RELOC_STAT_STATE (fabB r) = 3)) ∧
    (∃ (s : State) (r : Rgn) (ok : Bool), (s.gf F.FAB_RELOC_STAT_STATE (fabB r) = 4) ∧ ((s.fab r).rlSpare < 4)) ∧
    (∃ (s : State) (r : Rgn) (ok : Bool), (s.gf F.FAB_RELOC_STAT_STATE (fabB r) = 5) ∧ ((s.fab r).rlKind = 0 ∧ (s.fab r).rlSpare < 4 ∧ (s.fab r).rlTarget < 96)) ∧
    (∃ (s : State) (r : Rgn) (ok : Bool), (s.gf F.FAB_RELOC_STAT_STATE (fabB r) = 6) ∧ ((s.fab r).rlKind = 0 ∧ (s.fab r).rlForced = false)) :=
  ⟨⟨{ ((owned 3).sf F.FAB_SPARE_STAT_FREE (fabB 3) 0 15) with cfg := { CfgS.reset with relocs := CfgS.reset.relocs.set 384 (some 0) } }, .hla, 3, 0, 0, by decide +kernel⟩,
   ⟨(owned 3).sf F.FAB_SPARE_STAT_FREE (fabB 3) 0 0, .hla, 3, 0, by decide +kernel⟩,
   ⟨{ (((owned 3).sf F.FAB_SPARE_STAT_FREE (fabB 3) 0 15).sf F.FAB_CTRL_AUTO_RELOC (fabB 3) 0 1) with cfg := { CfgS.reset with relocs := CfgS.reset.relocs.set 384 (some 0) } }, 3, 0, 0, by decide +kernel⟩,
   ⟨State.reset.sf F.FAB_CTRL_AUTO_RELOC (fabB 3) 0 0, 3, 0, by decide +kernel⟩,
   ⟨{ ((owned 3).sf F.FAB_SPARE_STAT_BM_FREE (fabB 3) 0 1) with img := State.reset.img.set (imgKey 3 0x380) 1 }, .hla, 3, 0, by decide +kernel⟩,
   ⟨relocW, 3, relocRecs, relocDigW, false, by decide +kernel⟩,
   ⟨State.reset.sf F.FAB_RELOC_STAT_STATE (fabB 3) 0 1, 3, false, by decide +kernel⟩,
   ⟨(State.reset.sf F.FAB_RELOC_STAT_STATE (fabB 3) 0 1).setFab 3 { FabS.reset with rlKind := 1 }, 3, true, by decide +kernel⟩,
   ⟨State.reset.sf F.FAB_RELOC_STAT_STATE (fabB 3) 0 3, 3, false, by decide +kernel⟩,
   ⟨State.reset.sf F.FAB_RELOC_STAT_STATE (fabB 3) 0 4, 3, false, by decide +kernel⟩,
   ⟨State.reset.sf F.FAB_RELOC_STAT_STATE (fabB 3) 0 5, 3, false, by decide +kernel⟩,
   ⟨State.reset.sf F.FAB_RELOC_STAT_STATE (fabB 3) 0 6, 3, false, by decide +kernel⟩⟩

theorem wit_FullImages :
    (∃ (s : State) (puf : Bool) (led : Option (Fin 2)), (s.sett.phase = .powerUp ∧ s.sett.pwrStep = 3) ∧ (otpBootSrc s = 0)) ∧
    (∃ (s : State) (l : LoadS) (p : BitVec 128) (st : Bool) (h : BitVec 2048) (g : Bool) (base : Word), (s.cfg.load = some l) ∧ (l.hdr = none ∧ l.src = .flash g ∧ l.mode ≤ 2) ∧ ((if g then some l.base else pointerAddr p) = some base) ∧ (hdrFormat h = true ∧ hKind h = 1 ∧ hFrames h + hRelocs h ≠ 0) ∧ (l.mode = 2 → st = true)) ∧
    (∃ (s : State) (l : LoadS) (p : BitVec 128) (st : Bool) (h : BitVec 2048), (s.cfg.load = some l) ∧ (l.hdr = none ∧ l.src = .flash false) ∧ (pointerAddr p = none)) ∧
    (∃ (s : State) (l : LoadS) (p : BitVec 128) (st : Bool) (h : BitVec 2048), (s.cfg.load = some l) ∧ (l.hdr = none ∧ l.src = .flash true) ∧ (hb h 0 4 ≠ 0x474C_5854 ∨ (l.mode = 2 ∧ st = false)) ∧ (l.mode ≠ 0)) ∧
    (∃ (s : State) (l : LoadS) (h : BitVec 2048) (raw : BitVec 1088) (g : Bool), (s.cfg.load = some l) ∧ (l.hdr = some h ∧ l.src = .flash g) ∧ (s.gf F.CFG_STAT_STATE 0 = 2) ∧ (l.n + 1 < hFrames h)) ∧
    (∃ (s : State) (l : LoadS) (h : BitVec 2048) (raw : BitVec 1088) (g : Bool), (s.cfg.load = some l) ∧ (l.hdr = some h ∧ l.src = .flash g) ∧ (s.gf F.CFG_STAT_STATE 0 = 2) ∧ (l.n + 1 = hFrames h ∧ l.nr = hRelocs h) ∧ (hFrames h = 512 + 4240 * bitCount 16 (hMask h))) ∧
    (∃ (s : State) (l : LoadS) (g : Bool), (s.cfg.load = some l) ∧ (l.src = .flash g)) ∧
    (∃ (s : State) (l : LoadS) (h : BitVec 2048) (g : Bool) (tail : BitVec 896), (s.cfg.load = some l) ∧ (l.hdr = some h ∧ l.src = .flash g) ∧ (s.gf F.CFG_STAT_STATE 0 = 3)) ∧
    (∃ (s : State) (l : LoadS) (h : BitVec 2048) (upset : List (Word × BitVec 1024 × BitVec 12)), (s.cfg.load = some l) ∧ (l.hdr = some h) ∧ (s.gf F.CFG_STAT_STATE 0 = 4)) :=
  ⟨⟨{ State.reset with sett := { State.reset.sett with phase := .powerUp, pwrStep := 3, retLost := true } }, true, none, by decide +kernel⟩,
   ⟨loadingAt 1 (LoadS.start (.flash true) 0x100 1), LoadS.start (.flash true) 0x100 1, 0, false, hdrW 1 0 0 0 512 0, true, 0x100, by decide +kernel⟩,
   ⟨loadingAt 1 (LoadS.start (.flash false) 0 2), LoadS.start (.flash false) 0 2, 0, false, 0, by decide +kernel⟩,
   ⟨loadingAt 2 (LoadS.start (.flash true) 0x100 2), LoadS.start (.flash true) 0x100 2, 0, false, 0, by decide +kernel⟩,
   ⟨loadingAt 2 (loadW (hdrW 1 0 0 0 512 0)), loadW (hdrW 1 0 0 0 512 0), hdrW 1 0 0 0 512 0, recW 0x84000000 5, false, by decide +kernel⟩,
   ⟨loadingAt 2 { loadW (hdrW 1 0 0 0 512 0) with n := 511 }, { loadW (hdrW 1 0 0 0 512 0) with n := 511 }, hdrW 1 0 0 0 512 0, recW 0x84000000 5, false, by decide +kernel⟩,
   ⟨loadingAt 2 (LoadS.start (.flash false) 0 0), LoadS.start (.flash false) 0 0, false, by decide +kernel⟩,
   ⟨loadingAt 3 (loadW 0), loadW 0, 0, false, 0, by decide +kernel⟩,
   ⟨loadingAt 4 (loadW 0), loadW 0, 0, [], by decide +kernel⟩⟩

theorem wit_LoadRequests :
    (∃ (s : State) (a : Reader), (reaches s a R.CFG_PR_CMD.off = true) ∧ (imageRuns s = true) ∧ (s.cfg.pr = none) ∧ (s.gb F.CFG_PR_CMD_START 0 = false)) ∧
    (∃ (s : State) (a : Reader) (p : PrS), (reaches s a R.CFG_PR_CMD.off = true) ∧ (imageRuns s = true) ∧ (s.cfg.pr = some p) ∧ (s.gb F.CFG_PR_CMD_START 0 = false)) ∧
    (∃ (s : State) (a : Reader) (p : Fin 2), (reaches s a R.CFG_PR_CMD.off = true) ∧ (portOf a = some p) ∧ (imageRuns s = true) ∧ (s.cfg.pr = none) ∧ (s.gb F.CFG_PR_CMD_START 0 = false)) ∧
    (∃ (s : State) (a : Reader), (reaches s a R.CFG_PR_CMD.off = true) ∧ (portOf a = none) ∧ (imageRuns s = true) ∧ (s.cfg.pr = none) ∧ (s.gb F.CFG_PR_CMD_START 0 = false)) ∧
    (∃ (s : State) (a : Reader), (reaches s a R.CFG_PR_CMD.off = true) ∧ (imageRuns s = false ∧ awaitsHost s = true) ∧ (s.gb F.CFG_PR_CMD_START 0 = false)) ∧
    (∃ (s : State) (a : Reader), (reaches s a R.CFG_PR_CMD.off = false)) ∧
    (∃ (s : State) (a : Reader) (v : Word), (reaches s a R.CFG_FIFO.off = true) ∧ (s.cfg.fifo.length < 1024)) ∧
    (∃ (s : State) (a : Reader) (v : Word), (reaches s a R.CFG_FIFO.off = true) ∧ (¬ s.cfg.fifo.length < 1024)) ∧
    (∃ (s : State) (r : Rgn) (a : Word), (s.cfg.pr = none ∧ imageRuns s = true ∧ s.clk r = 0)) ∧
    (∃ (s : State) (r : Rgn) (q : Fin 16), (s.cfg.pr = none ∧ imageRuns s = true ∧ s.clk r = 0) ∧ (2 ≤ s.gf F.QC_CFG_WIDTH (fabB r) q)) ∧
    (∃ (s : State) (r : Rgn) (p : PrS), (s.cfg.pr = some p ∧ s.clk r = 0) ∧ (p.by_ = none ∧ p.port = r) ∧ (s.gf F.CFG_PR_STAT_STATE 0 = 1 ∨ s.gf F.CFG_PR_STAT_STATE 0 = 2)) ∧
    (∃ (s : State) (a : Reader) (p : Fin 2), (reaches s a R.SEC_FENCE_CMD.off = true) ∧ (portOf a = some p) ∧ (s.gb F.SEC_FENCE_CMD_START 0 = false) ∧ (s.cfg.pr = none ∧ imageRuns s = true)) :=
  ⟨⟨imageUp, .hla, by decide +kernel⟩,
   ⟨partAt 1 (prW (LoadS.start .fifo 0 0)), .hla, prW (LoadS.start .fifo 0 0), by decide +kernel⟩,
   ⟨imageUp, .hla, 0, by decide +kernel⟩,
   ⟨imageUp, .sb, by decide +kernel⟩,
   ⟨running.sf F.CFG_STAT_STATE 0 0 5, .hla, by decide +kernel⟩,
   ⟨State.reset, .le 3, by decide +kernel⟩,
   ⟨running, .hla, 5, by decide +kernel⟩,
   ⟨{ running with cfg := { CfgS.reset with fifo := List.replicate 1024 0 } }, .hla, 5, by decide +kernel⟩,
   ⟨imageUp, 3, 0, by decide +kernel⟩,
   ⟨imageUp.sf F.QC_CFG_WIDTH (fabB 3) 0 2, 3, 0, by decide +kernel⟩,
   ⟨partAt 1 ⟨LoadS.start (.flash false) 0 0, none, 3, 0, false, false⟩, 3, ⟨LoadS.start (.flash false) 0 0, none, 3, 0, false, false⟩, by decide +kernel⟩,
   ⟨imageUp, .hla, 0, by decide +kernel⟩⟩

theorem wit_PartialImages :
    (∃ (s : State) (p : PrS) (w : BitVec 128) (st : Bool) (h : BitVec 2048) (g : Bool), (s.cfg.load = none) ∧ (s.cfg.pr = some p) ∧ (p.load.hdr = none ∧ p.load.src = .flash g) ∧ (prHeaderCause s p h = 0)) ∧
    (∃ (s : State) (p : PrS) (w : BitVec 128) (st : Bool) (h : BitVec 2048) (g : Bool), (s.cfg.load = none) ∧ (s.cfg.pr = some p) ∧ (p.load.hdr = none ∧ p.load.src = .flash g ∧ p.by_.isSome = true) ∧ (prHeaderCause s p h ≠ 0 ∧ prHeaderCause s p h ≠ 2)) ∧
    (∃ (s : State) (p : PrS) (h : BitVec 2048) (raw : BitVec 1088) (g : Bool), (s.cfg.load = none) ∧ (s.cfg.pr = some p) ∧ (p.load.hdr = some h ∧ p.load.src = .flash g) ∧ (s.gf F.CFG_PR_STAT_STATE 0 = 1)) ∧
    (∃ (s : State) (p : PrS) (h : BitVec 2048), (s.cfg.pr = some p) ∧ (p.load.hdr = some h) ∧ (s.gf F.CFG_PR_STAT_STATE 0 = 1 ∧ p.load.complete h = true) ∧ (((covered p).getLast?.all fun x => fKind x.1 = 1 || fKind x.1 = 8 || fIndex x.1 + 1 = unitFrames x.1) = true)) ∧
    (∃ (s : State) (p : PrS) (h : BitVec 2048) (g : Bool) (tail : BitVec 896), (s.cfg.pr = some p) ∧ (p.load.hdr = some h ∧ p.load.src = .flash g) ∧ (s.gf F.CFG_PR_STAT_STATE 0 = 2)) ∧
    (∃ (s : State) (p : PrS) (a : Nat) (d : BitVec 1024), (s.cfg.pr = some p) ∧ (s.gf F.CFG_PR_STAT_STATE 0 = 3) ∧ (covered p = [(a, d)]) ∧ (coveredBusy s a = false)) ∧
    (∃ (s : State) (p : PrS) (upset : List (Word × BitVec 1024 × BitVec 12)), (s.cfg.pr = some p) ∧ (s.gf F.CFG_PR_STAT_STATE 0 = 4 ∨ s.gf F.CFG_PR_STAT_STATE 0 = 5)) ∧
    (∃ (s : State) (d : Fin 3) (u : BitVec 1024) (co : BitVec 12) (k : Word) (a : Nat) (f : FrameC), (s.gb F.CFG_CTRL_SCRUB_EN 0 = true ∧ imageRuns s = true) ∧ (scrubNext s d = some a) ∧ (s.cfg.frames.get a = some f)) ∧
    (∃ (s : State) (a : Nat) (l : List Nat) (f : FrameC) (b : Option (List (BitVec 1088))), (s.cfg.reloads = a :: l) ∧ (s.cfg.frames.get a = some f)) :=
  ⟨⟨partAt 1 (prW (LoadS.start (.flash false) 0 0)), prW (LoadS.start (.flash false) 0 0), 0, false, hdrW 2 0 0 8 24 0, false, by decide +kernel⟩,
   ⟨partAt 1 (prW (LoadS.start (.flash false) 0 0)), prW (LoadS.start (.flash false) 0 0), 0, false, hdrW 1 0 0 8 24 0, false, by decide +kernel⟩,
   ⟨partAt 1 (prW (loadW (hdrW 2 0 0 8 24 0))), prW (loadW (hdrW 2 0 0 8 24 0)), hdrW 2 0 0 8 24 0, recW 0x18000000 5, false, by decide +kernel⟩,
   ⟨partAt 1 (prW (loadW (hdrW 2 0 0 8 0 0))), prW (loadW (hdrW 2 0 0 8 0 0)), hdrW 2 0 0 8 0 0, by decide +kernel⟩,
   ⟨partAt 2 (prW (loadW (hdrW 2 0 0 8 0 0))), prW (loadW (hdrW 2 0 0 8 0 0)), hdrW 2 0 0 8 0 0, false, 0, by decide +kernel⟩,
   ⟨partAt 3 (prW { loadW 0 with recs := [(0x18000000, 5)] }), prW { loadW 0 with recs := [(0x18000000, 5)] }, 0x18000000, 5, by decide +kernel⟩,
   ⟨partAt 4 (prW (loadW 0)), prW (loadW 0), [], by decide +kernel⟩,
   ⟨{ imageUp.sf F.CFG_CTRL_SCRUB_EN 0 0 1 with cfg := { CfgS.reset with frames := CfgS.reset.frames.set 5 (some frame5) } }, 0, 4, 0, 0, 5, frame5, by decide +kernel⟩,
   ⟨{ imageUp with cfg := { CfgS.reset with reloads := [5], frames := CfgS.reset.frames.set 5 (some frame5) } }, 5, [], frame5, none, by decide +kernel⟩⟩

theorem wit_FusesAndFlash :
    (∃ (s : State) (a : Reader) (v : Fin 256), (reaches s a R.SEC_OTP_CMD.off = true ∧ a ≠ .jtag) ∧ (s.gb F.SEC_OTP_CMD_START 0 = false) ∧ (v.val ≤ 64 ∧ s.gf F.SEC_STAT_ROLLBACK 0 ≤ v.val ∧ v.val ≤ s.gf F.CFG_IMAGE_SVN 0)) ∧
    (∃ (s : State) (a : Reader) (v g : Fin 256), (reaches s a R.SEC_OTP_CMD.off = true ∧ a ≠ .jtag) ∧ (s.gb F.SEC_OTP_CMD_START 0 = false) ∧ (g.val ≠ 0x5A)) ∧
    (∃ (s : State) (a : Reader) (v : Fin 256) (i : Fin 4), (reaches s a R.SEC_OTP_CMD.off = true ∧ a ≠ .jtag) ∧ (s.gb F.SEC_OTP_CMD_START 0 = false) ∧ (i.val ≠ v.val % 4 ∧ (s.gf F.SEC_SLOTS_SLOTS 0 / 16 ^ i.val).testBit 0 = true ∧ (s.gf F.SEC_SLOTS_SLOTS 0 / 16 ^ i.val).testBit 3 = false)) ∧
    (∃ (s : State) (a : Reader), (reaches s a R.SEC_OTP_CMD.off = true ∧ a ≠ .jtag) ∧ (s.gb F.SEC_OTP_CMD_START 0 = false) ∧ (s.gb F.SEC_STAT_VTEST_DIS 0 = false)) ∧
    (∃ (s : State) (v : Nat) (g : Option RawImage), (s.gb F.SEC_OTP_CMD_START 0 = true) ∧ (s.cfg.otpCmd = (1, v))) ∧
    (∃ (s : State) (v : Nat) (g : Option RawImage), (s.gb F.SEC_OTP_CMD_START 0 = true) ∧ (s.cfg.otpCmd = (2, v))) ∧
    (∃ (s : State) (g : Option RawImage), (s.gb F.SEC_OTP_CMD_START 0 = true) ∧ (s.cfg.otpCmd.1 = 2 ∨ s.cfg.otpCmd.1 = 3)) ∧
    (∃ (s : State) (a : Reader) (n : Fin 64), (reaches s a R.CFG_FL_CMD.off = true) ∧ (s.gb F.CFG_FL_CMD_START 0 = false)) ∧
    (∃ (s : State) (a : Reader) (n : Fin 64), (reaches s a R.CFG_FL_CMD.off = true) ∧ (s.gb F.CFG_FL_CMD_START 0 = false) ∧ (touchesGolden s 1 n = false)) ∧
    (∃ (s : State) (a : Reader) (n : Fin 64), (reaches s a R.CFG_FL_CMD.off = true) ∧ (s.gb F.CFG_FL_CMD_START 0 = false) ∧ (touchesGolden s 1 n = true)) ∧
    (∃ (s : State) (a : Reader), (reaches s a R.CFG_FL_CMD.off = true) ∧ (s.gb F.CFG_FL_CMD_START 0 = false) ∧ (touchesGolden s 2 (s.gf F.CFG_FL_CMD_WORDS 0) = false)) ∧
    (∃ (s : State) (n : Nat) (l : List FlJob) (w : Word), (s.cfg.jobs = .host 0 n :: l)) ∧
    (∃ (s : State) (l : List FlJob), (s.cfg.jobs = .ledger :: l)) :=
  ⟨⟨running.sf F.CFG_IMAGE_SVN 0 0 5, .hla, 3, by decide +kernel⟩,
   ⟨running, .hla, 0, 0, by decide +kernel⟩,
   ⟨running.sf F.SEC_SLOTS_SLOTS 0 0 0x7777, .hla, 0, 1, by decide +kernel⟩,
   ⟨running, .hla, by decide +kernel⟩,
   ⟨{ State.reset.sf F.SEC_OTP_CMD_START 0 0 1 with cfg := { CfgS.reset with otpCmd := (1, 3) } }, 3, none, by decide +kernel⟩,
   ⟨{ State.reset.sf F.SEC_OTP_CMD_START 0 0 1 with cfg := { CfgS.reset with otpCmd := (2, 3) } }, 3, none, by decide +kernel⟩,
   ⟨{ State.reset.sf F.SEC_OTP_CMD_START 0 0 1 with cfg := { CfgS.reset with otpCmd := (2, 3) } }, none, by decide +kernel⟩,
   ⟨running, .hla, 0, by decide +kernel⟩,
   ⟨running, .hla, 0, by decide +kernel⟩,
   ⟨{ running with otp := State.reset.otp.set 0x2000004 5 }, .hla, 0, by decide +kernel⟩,
   ⟨running, .hla, by decide +kernel⟩,
   ⟨{ State.reset with cfg := { CfgS.reset with jobs := [.host 0 1] } }, 1, [], 5, by decide +kernel⟩,
   ⟨{ State.reset with cfg := { CfgS.reset with jobs := [.ledger] } }, [], by decide +kernel⟩⟩

theorem wit_SpoorNetwork :
    (∃ (s : State) (x : Src) (i : Item) (l : List Item), (s.spoor.srcQ.get x.key = i :: l) ∧ (i.conf = true ∧ flowAccepted s i.flow = true)) ∧
    (∃ (s : State) (x : Src) (i : Item) (l : List Item), (s.spoor.srcQ.get x.key = i :: l) ∧ (flowAccepted s i.flow = false ∧ i.cls ≠ 0)) ∧
    (∃ (s : State) (f : Fin 4096) (i : Item), (lateRecord s f = some i) ∧ (s.hub.base < i.emit + (s.flow i.flow).deadline * 16000)) ∧
    (∃ (s : State) (x : Src) (f : Fin 4096) (ns : Nat) (i : Item) (l : List Item), (s.spoor.srcQ.get x.key = i :: l) ∧ (i.flow = f.val ∧ i.conf = false) ∧ (flowAccepted s f = true) ∧ (s.spoor.taken.get (x.key * 4096 + f) - (s.flow f).rate * ns + 32000000 ≤ (s.flow f).burst * 32000000) ∧ (((queuedItems s).filter fun i => i.flow = f.val && i.conf).length < (s.flow f).q32)) ∧
    (∃ (s : State) (h : Fin 533) (n : Nat) (i : Item), (h.val ≠ 532) ∧ (s.spoor.hops.get h = [i]) ∧ (i.cls ≠ 0 ∧ i.conf = true ∧ i.slot = none) ∧ (onPath i.src h = true) ∧ (s.spoor.hopDrops.get (h * 65536 + i.src.key) = 0)) ∧
    (∃ (s : State) (n : Nat) (i : Item) (k : Nat) (x : Slot), (s.spoor.hops.get hopHub = [i]) ∧ (i.cls = 0 ∧ i.slot = some k) ∧ (s.spoor.slots.get k = some x) ∧ (postPort s ≠ 0) ∧ ((s.post i.flow).walk.isSome = true ∨ (cached s i.flow).isSome = true)) ∧
    (∃ (s : State) (x : Src) (c : Fin 65536) (d : BitVec 80), (mayRaise x c = true) ∧ (alarmType x c ≠ 3 ∧ c.val ≠ 0x121) ∧ (s.spoor.slots.get (slotKey x c 0) = none)) ∧
    (∃ (s : State) (x : Src) (c : Fin 65536) (d : BitVec 80) (y : Slot), (mayRaise x c = true) ∧ (alarmType x c ≠ 3 ∧ c.val ≠ 0x121) ∧ (s.spoor.slots.get (slotKey x c 0) = some y)) ∧
    (∃ (s : State) (f : Fin 4096) (i : Item), (lateRecord s f = some i) ∧ (missCause i ≠ 0) ∧ (flowAccepted s f = true) ∧ (i.emit + (s.flow i.flow).deadline * 16000 ≤ s.hub.base)) :=
  ⟨⟨withSrc (flowAt .accepted) (srcRgn 3 unitFab) [itemW true], srcRgn 3 unitFab, itemW true, [], by decide +kernel⟩,
   ⟨withSrc (flowAt .bestEffort) (srcRgn 3 unitFab) [itemW false], srcRgn 3 unitFab, itemW false, [], by decide +kernel⟩,
   ⟨withHop (flowAt .accepted) hopPost [{ itemW true with why := 4 }], 5, { itemW true with why := 4 }, by decide +kernel⟩,
   ⟨withSrc (flowAt .accepted) (srcRgn 3 unitFab) [itemW false], srcRgn 3 unitFab, 5, 0, itemW false, [], by decide +kernel⟩,
   ⟨withHop (flowAt .accepted) (hopRegion 3) [itemW true], 515, 0, itemW true, by decide +kernel⟩,
   ⟨((flowAt .accepted).raise (srcHub 1) 0x111 5).setPost 0 { PostS.reset with walk := some ⟨.root, 0, 0, 0, false, false⟩ }, 0, { mkItem ((flowAt .accepted)) (srcHub 1) 0 0 0 7 0 with slot := some (slotKey (srcHub 1) 0x111 0) }, slotKey (srcHub 1) 0x111 0, ⟨srcHub 1, 0, 0x111, 5, 0, 0, 0⟩, by decide +kernel⟩,
   ⟨State.reset, srcRgn 3 unitFab, 0x60, 5, by decide +kernel⟩,
   ⟨State.reset.raise (srcRgn 3 unitFab) 0x60 7, srcRgn 3 unitFab, 0x60, 5, ⟨srcRgn 3 unitFab, 0, 0x60, 7, 0, 0, 0⟩, by decide +kernel⟩,
   ⟨{ withHop (flowAt .accepted) hopPost [{ itemW true with why := 4 }] with hub := { HubS.reset with base := 1600000 } }, 5, { itemW true with why := 4 }, by decide +kernel⟩⟩

theorem wit_FlowsAndAdmission :
    (∃ (s : State) (f : Fin 4096) (x : FlowS), (s.gb F.SPR_CTRL_LOCK 0 = false ∧ s.gb F.SPR_CMD_START 0 = false) ∧ (x = { FlowS.reset with d0 := s.rd R.SPR_DESC0 0, d1 := s.rd R.SPR_DESC1 0, d2 := s.rd R.SPR_DESC2 0 }) ∧ (f.val ≠ 0 ∧ checkDesc x (s.gb F.SPR_DESC0_GUAR 0) = 0) ∧ ((s.flow f).st = .closed) ∧ (s.gb F.SPR_DESC0_GUAR 0 = true → postPort s ≠ 0 ∧ checkSums s x = 0) ∧ ((s.post f).uncov = 0)) ∧
    (∃ (s : State) (f : Fin 4096) (x : FlowS), (s.gb F.SPR_CTRL_LOCK 0 = false ∧ s.gb F.SPR_CMD_START 0 = false) ∧ (x = { FlowS.reset with d0 := s.rd R.SPR_DESC0 0, d1 := s.rd R.SPR_DESC1 0, d2 := s.rd R.SPR_DESC2 0 }) ∧ (f.val ≠ 0 ∧ checkDesc x (s.gb F.SPR_DESC0_GUAR 0) ≠ 0)) ∧
    (∃ (s : State) (f : Fin 4096), (s.gb F.SPR_CTRL_LOCK 0 = false ∧ s.gb F.SPR_CMD_START 0 = false) ∧ (f.val ≠ 0 ∧ (s.flow f).st ≠ .closed) ∧ (suspended s f = false)) ∧
    (∃ (s : State) (f : Fin 4096), (s.gb F.SPR_CTRL_LOCK 0 = false ∧ s.gb F.SPR_CMD_START 0 = false) ∧ (f.val ≠ 0)) ∧
    (∃ (s : State) (f : Fin 4096), (s.gb F.SPR_CTRL_LOCK 0 = false ∧ s.gb F.SPR_CMD_START 0 = false) ∧ (f.val ≠ 0) ∧ ((s.flow f).st = .bestEffort ∨ (s.flow f).st = .demoted) ∧ (checkDesc (s.flow f) true = 0) ∧ (postPort s ≠ 0 ∧ checkSums s (s.flow f) = 0)) ∧
    (∃ (s : State) (mbs : Nat), (postPort s ≠ 0) ∧ (stalledFor s (postPort s - 1) 160000 = true)) ∧
    (∃ (s : State) (port : Bool), (s.spoor.started = true)) ∧
    (∃ (s : State), (s.spoor.started = false) ∧ (postPort s ≠ 0)) ∧
    (∃ (s : State) (f : Nat) (d0 d1 d2 : Word), (s.spoor.started = false) ∧ (postPort s ≠ 0) ∧ (s.spoor.imgFlows = [(f, d0, d1, d2)]) ∧ (f ≠ 0 ∧ (s.flow f).st = .closed ∧ fOf d0 F.SPR_DESC0_GUAR = 0)) :=
  ⟨⟨(((flowAt .closed).wr R.SPR_DESC0 0 0 0x480003E8).wr R.SPR_DESC1 0 0 0x40000).wr R.SPR_DESC2 0 0 100, 6, flowW .closed, by decide +kernel⟩,
   ⟨flowAt .closed, 6, FlowS.reset, by decide +kernel⟩,
   ⟨flowAt .accepted, 5, by decide +kernel⟩,
   ⟨flowAt .accepted, 5, by decide +kernel⟩,
   ⟨flowAt .demoted, 5, by decide +kernel⟩,
   ⟨{ flowAt .accepted with hub := { HubS.reset with base := 160000 }, pmap := { (flowAt .accepted).pmap with stallAt := PmapS.reset.stallAt.set 0 1, waiting := PmapS.reset.waiting.set 0 [⟨5, false, .posted, 0, 0, 0, [itemW true]⟩] } }, 3000, by decide +kernel⟩,
   ⟨flowAt .accepted, false, by decide +kernel⟩,
   ⟨State.reset.sf F.PMAP_STAT_PORT 0 0 1, by decide +kernel⟩,
   ⟨{ State.reset with spoor := { SpoorS.reset with imgFlows := [(5, 0, 1, 2)] } }.sf F.PMAP_STAT_PORT 0 0 1, 5, 0, 1, 2, by decide +kernel⟩⟩

theorem wit_PostingMap :
    (∃ (s : State) (f : Fin 4096) (w : WalkS) (e : DWord), ((s.post f).walk = some w) ∧ (w.stage = .root) ∧ (e.getLsbD 0 = true ∧ e.getLsbD 1 = false ∧ e.toNat / 4 % 512 = 0) ∧ (fenceHit s (postPort s - 1) (e.toNat / 2048 * 2048 + 32 * (f.val % 64)) 32 = false)) ∧
    (∃ (s : State) (f : Fin 4096) (w : WalkS) (ws : List DWord), ((s.post f).walk = some w) ∧ (w.stage = .leaf) ∧ (leafCheck s f (postPort s - 1) (leafOf ws) = 0)) ∧
    (∃ (s : State) (f : Fin 4096) (w : WalkS) (ws : List DWord), ((s.post f).walk = some w) ∧ (w.stage = .leaf) ∧ (leafCheck s f (postPort s - 1) (leafOf ws) ≠ 0) ∧ (f.val = 0 ∨ ((s.flow f).st ≠ .closed ∧ (s.post f).holdDue = false ∧ (s.flow f).hold ≠ 0))) ∧
    (∃ (s : State) (f : Fin 4096) (w : WalkS), ((s.post f).walk = some w) ∧ (w.stage ≠ .queued ∧ postPort s ≠ 0) ∧ (f.val = 0 ∨ ((s.flow f).st ≠ .closed ∧ (s.post f).holdDue = false ∧ (s.flow f).hold ≠ 0)) ∧ (w.issued + accessLimit ≤ s.hub.base)) ∧
    (∃ (s : State) (f : Fin 4096) (c : CacheE) (e : DWord), (s.pmap.cache.find? (fun c => c.flow = f.val) = some c) ∧ (postPort s ≠ 0 ∧ (s.post f).walk = none ∧ (s.post f).susp = none) ∧ (c.fill * 8 + 7 * ageLimit s ≤ s.hub.base * 8 ∧ c.fill * 8 + 6 * ageLimit s ≤ c.used * 8) ∧ (rootEntry s f = some e) ∧ (e.getLsbD 1 = false ∧ fenceHit s (postPort s - 1) (e.toNat / 2048 * 2048 + 32 * (f.val % 64)) 32 = false)) ∧
    (∃ (s : State) (f : Fin 4096), (s.gb F.PMAP_CMD_START 0 = false ∧ s.pmap.failback = false)) ∧
    (∃ (s : State) (f : Fin 4096), (s.gb F.PMAP_CMD_START 0 = false ∧ s.pmap.failback = false)) ∧
    (∃ (s : State), (s.gb F.PMAP_CMD_START 0 = false ∧ s.pmap.failback = false)) ∧
    (∃ (s : State) (bad : Bool) (n : Nat), (s.pmap.inv = some (bad, n)) ∧ (s.gb F.PMAP_CMD_START 0 = true) ∧ ((s.pmap.flows.cells.any fun c => match c.2.walk with | some w => w.inv | none => false) = false) ∧ (postPort s ≠ 0 → (s.pmap.waiting.get (postPort s - 1)).isEmpty = true ∧ (isCxl s (postPort s - 1) = true → (s.pmap.gone.get (postPort s - 1)).isEmpty = true) ∧ oldUncovered s = false)) ∧
    (∃ (s : State) (p : Fin 2) (page : DWord) (n j : Nat), (j < n)) ∧
    (∃ (s : State) (f : Fin 4096) (u : SuspS), ((s.post f).susp = some u) ∧ (f.val ≠ 0 ∧ (s.post f).walk = none) ∧ (u.since + (s.flow f).hold * 16000000 ≤ s.hub.base)) ∧
    (∃ (s : State) (p : Fin 2), (reaches s (if p.val = 0 then .hla else .hlb) R.PMAP_CMD_STAT.off = true)) :=
  ⟨⟨walking .root, 5, ⟨.root, 0, 0, 0, false, false⟩, 0x801, by decide +kernel⟩,
   ⟨walking .leaf, 5, ⟨.leaf, 0, 0, 0, false, false⟩, [0x10381, 0x20000, 0x30000, 0], by decide +kernel⟩,
   ⟨walking .leaf, 5, ⟨.leaf, 0, 0, 0, false, false⟩, [0x10380, 0x20000, 0x30000, 0], by decide +kernel⟩,
   ⟨{ walking .leaf with hub := { HubS.reset with base := 800000 } }, 5, ⟨.leaf, 0, 0, 0, false, false⟩, by decide +kernel⟩,
   ⟨{ posting with hub := { posting.hub with base := 15000000 }, pmap := { posting.pmap with cache := [⟨5, leafW, 0, 14000000⟩], roots := posting.pmap.roots.set 0 (some (0x801, 14000000)) } }, 5, ⟨5, leafW, 0, 14000000⟩, 0x801, by decide +kernel⟩,
   ⟨{ posting with pmap := { posting.pmap with cache := [⟨5, leafW, 0, 0⟩] } }, 5, by decide +kernel⟩,
   ⟨{ posting with pmap := { posting.pmap with cache := [⟨5, leafW, 0, 0⟩] } }, 5, by decide +kernel⟩,
   ⟨{ posting with pmap := { posting.pmap with cache := [⟨5, leafW, 0, 0⟩] } }, by decide +kernel⟩,
   ⟨{ posting.sf F.PMAP_CMD_START 0 0 1 with pmap := { posting.pmap with inv := some (true, 3) } }, true, 3, by decide +kernel⟩,
   ⟨{ posting with pmap := { posting.pmap with trans := posting.pmap.trans.set 1 (some ⟨0, true, true⟩) } }, 0, 0, 3, 1, by decide +kernel⟩,
   ⟨{ posting.setPost 5 { PostS.reset with susp := some ⟨6, 0⟩ } with hub := { HubS.reset with base := 144000000 } }, 5, ⟨6, 0⟩, by decide +kernel⟩,
   ⟨running, 0, by decide +kernel⟩⟩

theorem wit_PostingWrites :
    (∃ (s : State) (i : Item) (l : Leaf) (n : Nat), (postPort s ≠ 0 ∧ canPost s (postPort s - 1) = true ∧ isCxl s (postPort s - 1) = false ∧ s.pmap.failback = false) ∧ (s.spoor.hops.get hopPost = [i]) ∧ (s.spoor.hopDrops.get (hopPost * 65536 + i.src.key) = 0) ∧ (postable s i = true) ∧ (postEntry s i.flow = some l) ∧ (l.ats = false ∧ fenceHit s (postPort s - 1) (l.base + 32 * ((s.post i.flow).count.toNat % 2 ^ l.logSize)) 32 = false) ∧ (s.pmap.waiting.get (postPort s - 1) = [] ∧ s.pmap.credits.get (postPort s - 1) ≠ 0) ∧ (l.base + 32 * 2 ^ l.logSize ≤ 2 ^ 64)) ∧
    (∃ (s : State) (f : Fin 4096) (l : Leaf), (postPort s ≠ 0 ∧ isCxl s (postPort s - 1) = false) ∧ ((s.post f).entry = some l) ∧ ((s.post f).uncov ≠ 0 ∧ (s.post f).susp = none ∧ (s.post f).trans = none) ∧ (s.pmap.waiting.get (postPort s - 1) = [] ∧ s.pmap.credits.get (postPort s - 1) ≠ 0) ∧ (16 ≤ (s.post f).uncov ∨ (s.post f).uncovAt + 16000 ≤ s.hub.base ∨ ((s.spoor.hops.get hopPost).any fun i => i.flow = f.val) = false) ∧ (l.ats = false ∧ fenceHit s (postPort s - 1) l.wp 8 = false)) ∧
    (∃ (s : State) (f : Fin 4096) (l : Leaf), ((s.post f).intDue = true ∧ postPort s ≠ 0) ∧ ((s.post f).entry = some l) ∧ (((s.post f).lastInt.all fun v => decide (v + l.intMod * 16000 ≤ s.hub.base)) = true)) ∧
    (∃ (s : State) (f : Fin 4096) (l : Leaf), (postPort s ≠ 0 ∧ s.pmap.failback = false) ∧ (postEntry s f = some l) ∧ (ringFull s f l = true) ∧ ((s.post f).rpBusy = false ∧ (s.post f).susp = none ∧ (s.post f).trans = none) ∧ (((s.post f).rpAt.all fun t => decide (t + 16000 ≤ s.hub.base)) = true) ∧ (l.ats = false ∧ fenceHit s (postPort s - 1) l.rp 8 = false)) ∧
    (∃ (s : State) (f : Fin 4096) (v : DWord), (postPort s ≠ 0) ∧ ((s.post f).rpBusy = true)) ∧
    (∃ (s : State) (f : Fin 4096) (page : DWord) (r w : Bool) (b : Bool) (p : DWord), (postPort s ≠ 0) ∧ ((s.post f).trans = some (p, b)) ∧ ((if b then w else r) = true) ∧ ((s.post f).walk = none)) ∧
    (∃ (s : State) (f : Fin 4096) (w : Write) (l : List Write), (postPort s ≠ 0 ∧ isCxl s (postPort s - 1) = true ∧ s.pmap.failback = false) ∧ (s.pmap.gone.get (postPort s - 1) = w :: l) ∧ (w.flow = f.val ∧ w.wp = false)) ∧
    (∃ (s : State) (p : Fin 2) (n : Nat), (s.pmap.waiting.get p = [])) ∧
    (∃ (s : State) (p : Fin 2), (isCxl s p = true)) ∧
    (∃ (s : State), (s.gb F.PMAP_CMD_START 0 = false ∧ s.pmap.failback = false) ∧ (postPort s = 1 ∨ postPort s = 2) ∧ (canPost s (1 - (postPort s - 1)) = true)) ∧
    (∃ (s : State), (s.gb F.PMAP_CMD_START 0 = false ∧ s.pmap.failback = false) ∧ (postPort s = 0 ∨ canPost s (1 - (postPort s - 1)) = false)) ∧
    (∃ (s : State) (k : Fin 5), (postPort s = 1 ∨ postPort s = 2) ∧ (triggerHolds s (postPort s - 1) k = true ∧ s.pmap.waitCmd = none) ∧ (canPost s (1 - (postPort s - 1)) = true)) ∧
    (∃ (s : State), (s.gb F.PMAP_CMD_START 0 = false ∧ s.pmap.failback = false) ∧ (canPost s (s.gf F.PMAP_CTRL_PRIMARY 0) = true) ∧ (postPort s ≠ 0 ∧ postPort s ≠ s.gf F.PMAP_CTRL_PRIMARY 0 + 1) ∧ (isCxl s (postPort s - 1) = false)) ∧
    (∃ (s : State), (s.gb F.PMAP_CMD_START 0 = false ∧ s.pmap.failback = false) ∧ (canPost s (s.gf F.PMAP_CTRL_PRIMARY 0) = true) ∧ (postPort s = s.gf F.PMAP_CTRL_PRIMARY 0 + 1)) ∧
    (∃ (s : State), (s.gb F.PMAP_CTRL_FAILBACK 0 = true ∧ s.pmap.failback = false) ∧ (canPost s (s.gf F.PMAP_CTRL_PRIMARY 0) = true) ∧ (postPort s ≠ 0 ∧ postPort s ≠ s.gf F.PMAP_CTRL_PRIMARY 0 + 1) ∧ (isCxl s (postPort s - 1) = false)) ∧
    (∃ (s : State), (postPort s ≠ 0 ∧ isCxl s (postPort s - 1) = false) ∧ (s.pmap.failback = true ∧ s.pmap.waitCmd = none)) ∧
    (∃ (s : State), (postPort s ≠ 0 ∧ s.pmap.waitCmd = none) ∧ (canPost s (postPort s - 1) = false ∧ canPost s (1 - (postPort s - 1)) = false)) :=
  ⟨⟨{ withHop posting hopPost [itemW true] with pmap := { posting.pmap with cache := [⟨5, leafW, 0, 0⟩], credits := posting.pmap.credits.set 0 3 } }, itemW true, leafW, 0, by decide +kernel⟩,
   ⟨{ posting.setPost 5 { PostS.reset with entry := some leafW, uncov := 2, count := 9 } with pmap := { (posting.setPost 5 { PostS.reset with entry := some leafW, uncov := 2, count := 9 }).pmap with credits := posting.pmap.credits.set 0 3 } }, 5, leafW, by decide +kernel⟩,
   ⟨posting.setPost 5 { PostS.reset with entry := some leafW, intDue := true }, 5, leafW, by decide +kernel⟩,
   ⟨{ posting with pmap := { posting.pmap with cache := [⟨0, leafW, 0, 0⟩] } }, 0, leafW, by decide +kernel⟩,
   ⟨posting.setPost 5 { PostS.reset with rpBusy := true }, 5, 9, by decide +kernel⟩,
   ⟨posting.setPost 5 { PostS.reset with trans := some (4096, true) }, 5, 8192, true, true, true, 4096, by decide +kernel⟩,
   ⟨{ posting.sf F.HOST_p_STAT_MODE 0 0 2 with pmap := { posting.pmap with gone := posting.pmap.gone.set 0 [⟨5, false, .woWrInv, 0, 0, 0, [itemW true]⟩] } }, 5, ⟨5, false, .woWrInv, 0, 0, 0, [itemW true]⟩, [], by decide +kernel⟩,
   ⟨posting, 0, 4, by decide +kernel⟩,
   ⟨State.reset.sf F.HOST_p_STAT_MODE 0 0 2, 0, by decide +kernel⟩,
   ⟨portUp posting 1, by decide +kernel⟩,
   ⟨posting, by decide +kernel⟩,
   ⟨(portUp posting 1).sf F.HOST_p_STAT_MODE 0 0 0, 1, by decide +kernel⟩,
   ⟨(portUp posting 1).sf F.PMAP_STAT_PORT 0 0 2, by decide +kernel⟩,
   ⟨posting, by decide +kernel⟩,
   ⟨((portUp posting 1).sf F.PMAP_STAT_PORT 0 0 2).sf F.PMAP_CTRL_FAILBACK 0 0 1, by decide +kernel⟩,
   ⟨{ (portUp posting 1).sf F.PMAP_STAT_PORT 0 0 2 with pmap := { posting.pmap with failback := true } }, by decide +kernel⟩,
   ⟨posting.sf F.HOST_p_STAT_MODE 0 0 0, by decide +kernel⟩⟩

theorem wit_HerdLinks :
    (∃ (s : State) (p : Fin 6), (herdRuns s = true) ∧ ((s.gf F.HERD_CTRL_PORT_EN 0).testBit p = true) ∧ ((isRoot s && decide (p.val < 2)) = false ∧ hpState s p = 0)) ∧
    (∃ (s : State) (p : Fin 6), (2 ≤ p.val) ∧ (hpState s p = 2) ∧ (uplink s = none)) ∧
    (∃ (s : State) (p : Fin 6) (h : Hdr) (id depth root : Nat) (anc : List Nat), (inOrder s p h = true) ∧ (p.val < 2 ∧ root < 16384) ∧ (candidate s ⟨id, depth, root, anc⟩ = true) ∧ (uplink s = none ∧ s.herd.move = none ∧ s.herd.retry = false) ∧ ((preferredUplink s p ⟨id, depth, root, anc⟩).1 = p.val)) ∧
    (∃ (s : State) (p : Fin 6) (h : Hdr) (id depth root : Nat) (anc : List Nat), (inOrder s p h = true) ∧ (p.val < 2) ∧ (candidate s ⟨id, depth, root, anc⟩ = false) ∧ (uplink s ≠ some p.val)) ∧
    (∃ (s : State) (p : Fin 6) (h : Hdr) (b : BitVec 256), (inOrder s p h = true) ∧ (2 ≤ p.val ∧ ownRoot s = true)) ∧
    (∃ (s : State) (p : Fin 6) (h : Hdr), (hpState s p ≠ 0) ∧ ((s.hport p).queue = []) ∧ (((s.hport p).replay.filter fun f => 2048 ≤ (h.ack.val + 4096 - f.1) % 4096) ≠ []) ∧ ((s.hport p).resent < 4)) ∧
    (∃ (s : State) (p : Fin 6) (h : Hdr), (hpState s p ≠ 0) ∧ ((s.hport p).queue = [])) ∧
    (∃ (s : State) (p : Fin 6), (hpState s p ≠ 0)) ∧
    (∃ (s : State) (p : Fin 6), (hpState s p ≠ 0)) ∧
    (∃ (s : State) (p : Fin 6), ((s.hport p).crcSec > 100)) ∧
    (∃ (s : State) (p : Fin 6), (hpState s p ≠ 0) ∧ (p.val < 2 ∧ uplink s = some p.val) ∧ (s.gb F.HERD_STAT_STANDBY 0 = true ∧ hpState s (1 - p.val) ≠ 0)) ∧
    (∃ (s : State) (p : Fin 6), (hpState s p ≠ 0) ∧ (p.val < 2 ∧ uplink s = some p.val ∧ s.gb F.HERD_STAT_STANDBY 0 = false)) ∧
    (∃ (s : State) (q : Nat), (s.herd.move = some (q, false)) ∧ (hpState s q ≠ 0)) :=
  ⟨⟨herdAt 2 0, 3, by decide +kernel⟩,
   ⟨herdRoot 3 2, 3, by decide +kernel⟩,
   ⟨herdAt 0 1, 0, hdr0, 9, 2, 5, [5], by decide +kernel⟩,
   ⟨herdAt 0 1, 0, hdr0, 9, 2, 5, [7], by decide +kernel⟩,
   ⟨herdRoot 3 2, 3, hdr0, 0, by decide +kernel⟩,
   ⟨(herdAt 3 2).setHport 3 { HPortS.reset with replay := [(0, ⟨.dreq, 0⟩)] }, 3, ⟨0, 4095, 0, 0, 0⟩, by decide +kernel⟩,
   ⟨herdAt 3 2, 3, ⟨0, 0, 3, 20, 9⟩, by decide +kernel⟩,
   ⟨herdAt 3 2, 3, by decide +kernel⟩,
   ⟨herdAt 3 2, 3, by decide +kernel⟩,
   ⟨(herdAt 3 2).setHport 3 { HPortS.reset with crcSec := 101 }, 3, by decide +kernel⟩,
   ⟨((herdLeaf 0).setHpState 1 2).sf F.HERD_STAT_STANDBY 0 0 1, 0, by decide +kernel⟩,
   ⟨herdLeaf 0, 0, by decide +kernel⟩,
   ⟨{ herdAt 1 2 with herd := { HerdS.reset with move := some (1, false) } }, 1, by decide +kernel⟩⟩

theorem wit_HerdMembership :
    (∃ (s : State) (p : Fin 6) (h : Hdr) (node level parent root depth size : Nat) (ids : List Nat), (inOrder s p h = true) ∧ (2 ≤ p.val ∧ ownRoot s = true) ∧ (size ≤ (joinIds s node ids).length) ∧ (joinedBefore s node parent (joinIds s node ids) = false) ∧ (judgeJoin s level root depth size (joinIds s node ids) = (0, 0))) ∧
    (∃ (s : State) (p : Fin 6) (h : Hdr) (node level parent root depth size : Nat) (ids : List Nat) (c o : Nat), (inOrder s p h = true) ∧ (2 ≤ p.val ∧ ownRoot s = true) ∧ (size ≤ (joinIds s node ids).length) ∧ (joinedBefore s node parent (joinIds s node ids) = false) ∧ (judgeJoin s level root depth size (joinIds s node ids) = (c, o) ∧ c ≠ 0)) ∧
    (∃ (s : State) (p : Fin 6) (h : Hdr) (ofs : Nat), (inOrder s p h = true) ∧ (p.val < 2 ∧ uplink s = some p.val)) ∧
    (∃ (s : State) (p : Fin 6) (h : Hdr) (c : Fin 5) (ofs : Nat), (inOrder s p h = true) ∧ (p.val < 2 ∧ uplink s = some p.val ∧ c.val ≠ 0)) ∧
    (∃ (s : State) (p : Fin 6) (h : Hdr) (id parent : Nat) (x : NodeS), (inOrder s p h = true) ∧ (2 ≤ p.val ∧ ownRoot s = true) ∧ (s.herd.table.find? (fun x => x.id = id) = some x) ∧ (x.parent = parent ∧ s.herd.leaves.contains (id, parent) = false)) ∧
    (∃ (s : State) (id : Nat), ((s.herd.leaves.any fun l => l.1 = id) = true)) ∧
    (∃ (s : State) (p : Fin 6) (h : Hdr) (id depth : Nat), (inOrder s p h = true) ∧ (2 ≤ p.val ∧ ownRoot s = true ∧ uplink s = none) ∧ (ownDepth s ≤ 6 ∧ ownDepth s + 1 + depth ≤ 7)) ∧
    (∃ (s : State) (p : Fin 6) (h : Hdr), (inOrder s p h = true) ∧ (p.val < 2 ∧ moveOn s p = true)) ∧
    (∃ (s : State) (p : Fin 6) (h : Hdr) (c : Fin 3), (inOrder s p h = true) ∧ (p.val < 2 ∧ moveOn s p = true ∧ c.val ≠ 0)) ∧
    (∃ (s : State), (s.herd.retry = true)) ∧
    (∃ (s : State), (s.herd.holding = true)) :=
  ⟨⟨herdRoot 3 2, 3, hdr0, 9, 1, 7, 0, 0, 1, [9], by decide +kernel⟩,
   ⟨herdRoot 3 2, 3, hdr0, 7, 1, 7, 0, 0, 1, [7], 1, 7, by decide +kernel⟩,
   ⟨herdLeaf 0, 0, hdr0, 0, by decide +kernel⟩,
   ⟨herdLeaf 0, 0, hdr0, 2, 0, by decide +kernel⟩,
   ⟨{ herdRoot 3 2 with herd := { HerdS.reset with id := 7, table := [⟨9, 7, 1, 3, true, some 7⟩] } }, 3, hdr0, 9, 7, ⟨9, 7, 1, 3, true, some 7⟩, by decide +kernel⟩,
   ⟨{ herdRoot 3 2 with herd := { HerdS.reset with id := 7, table := [⟨9, 7, 1, 3, true, some 7⟩, ⟨10, 9, 2, 3, true, some 9⟩], leaves := [(9, 7)] } }, 9, by decide +kernel⟩,
   ⟨{ herdRoot 3 2 with herd := { HerdS.reset with id := 7, table := [⟨9, 8, 1, 2, true, some 8⟩] } }, 3, hdr0, 9, 0, by decide +kernel⟩,
   ⟨{ herdAt 1 2 with herd := { HerdS.reset with move := some (1, false) } }, 1, hdr0, by decide +kernel⟩,
   ⟨{ herdAt 1 2 with herd := { HerdS.reset with move := some (1, false) } }, 1, hdr0, 1, by decide +kernel⟩,
   ⟨{ herdAt 1 3 with herd := { HerdS.reset with retry := true } }, by decide +kernel⟩,
   ⟨{ herdAt 1 3 with herd := { HerdS.reset with holding := true } }, by decide +kernel⟩⟩

theorem wit_HerdTimeAndCaps :
    (∃ (s : State) (p : Fin 6), (2 ≤ p.val) ∧ (hpState s p = 2)) ∧
    (∃ (s : State) (p : Fin 6) (h : Hdr) (t1 : DWord) (sub : Fin 40) (turn : Nat), (inOrder s p h = true) ∧ (p.val < 2) ∧ (uplink s ≠ some p.val ∨ -1000000 ≤ (s.hport p).ofs)) ∧
    (∃ (s : State) (p : Fin 6) (h : Hdr) (t1 : DWord) (sub : Fin 40) (turn : Nat), (inOrder s p h = true) ∧ (p.val < 2) ∧ (uplink s = some p.val ∧ (s.hport p).ofs < -1000000)) ∧
    (∃ (s : State) (p : Fin 6) (h : Hdr) (sub : Fin 40), (inOrder s p h = true) ∧ (2 ≤ p.val)) ∧
    (∃ (s : State) (p : Fin 6) (h : Hdr) (t1 t2 t3 t4 : DWord) (filt : Int), (inOrder s p h = true) ∧ ((s.hport p).ex = some (t1, t2, t3))) ∧
    (∃ (s : State) (v : DWord), (isRoot s = true ∧ s.now.toNat ≤ v.toNat)) ∧
    (∃ (s : State) (v : DWord), (isRoot s = false ∨ v.toNat < s.now.toNat)) ∧
    (∃ (s : State) (p : Fin 6) (h : Hdr) (w c : Word), (inOrder s p h = true) ∧ (uplink s = some p.val)) ∧
    (∃ (s : State) (p : Fin 6) (h : Hdr) (d f : Word), (inOrder s p h = true) ∧ (2 ≤ p.val)) ∧
    (∃ (s : State) (r : Rgn) (b : Nat), (herdSpan s = true ∧ atCapCycle s = true) ∧ ((if isRoot s then s.gf F.HERD_CAP_ROOT_W 0 else s.herd.budget) = b ∧ b < 0xFFFF_FFFF) ∧ (s.gf F.HERD_DEM_SRC_GOV 0 = 2 ^ r.val ∧ s.gf F.HERD_DEM_SRC_FAB 0 = 0) ∧ (∀ p : Fin 6, (s.hport p).child = none)) :=
  ⟨⟨herdRoot 3 2, 3, by decide +kernel⟩,
   ⟨herdLeaf 0, 0, hdr0, 0, 0, 0, by decide +kernel⟩,
   ⟨(herdLeaf 0).setHport 0 { HPortS.reset with ofs := -2000000 }, 0, hdr0, 0, 0, 0, by decide +kernel⟩,
   ⟨herdRoot 3 2, 3, hdr0, 0, by decide +kernel⟩,
   ⟨(herdLeaf 0).setHport 0 { HPortS.reset with ex := some (1, 20, 30) }, 0, hdr0, 1, 20, 30, 35, 0, by decide +kernel⟩,
   ⟨herdRoot 3 2, 99, by decide +kernel⟩,
   ⟨herdAt 3 2, 99, by decide +kernel⟩,
   ⟨herdLeaf 0, 0, hdr0, 500, 0, by decide +kernel⟩,
   ⟨herdRoot 3 2, 3, hdr0, 500, 20, by decide +kernel⟩,
   ⟨((herdAt 0 0).sf F.HERD_DEM_SRC_GOV 0 0 8).sf F.HERD_DEMr_DEMAND 0 3 70 |> (fun s => { s with herd := { s.herd with budget := 50 } }), 3, 50, by decide +kernel⟩⟩

theorem wit_HostLinks :
    (∃ (s : State) (p : Fin 2) (n : Nat), (n < 1024)) ∧
    (∃ (s : State) (p : Fin 2), (s.linkUp p = true)) ∧
    (∃ (s : State) (p : Fin 2), (s.linkUp p = true)) ∧
    (∃ (s : State) (p : Fin 2), (s.linkUp p = true)) ∧
    (∃ (s : State) (p : Fin 2), (s.linkUp p = true)) ∧
    (∃ (s : State) (p : Fin 2) (cxl : Bool) (rate : Fin 5) (width : Fin 3) (rev : Bool) (pol : Fin 16), (mayTrain s p = true) ∧ (withinLimits s p rate width = true)) ∧
    (∃ (s : State) (a : Reader) (p : Fin 2), (reaches s a R.HOST_p_CTRL.off = true)) ∧
    (∃ (s : State) (p : Fin 2), (s.linkUp p = true)) ∧
    (∃ (s : State) (p : Fin 2) (bme cache ats : Bool), (s.linkUp p = true)) ∧
    (∃ (s : State) (p : Fin 2) (n : Fin 4096), (s.linkUp p = true ∧ s.gb F.HOST_p_STAT_D3HOT 0 p = false) ∧ (n.val < 256)) ∧
    (∃ (s : State) (p : Fin 2) (n : Fin 4096) (v : Word), (s.linkUp p = true ∧ s.gb F.HOST_p_STAT_D3HOT 0 p = false) ∧ (n.val < 256)) :=
  ⟨⟨linked 0, 0, 0, by decide +kernel⟩,
   ⟨linked 0, 0, by decide +kernel⟩,
   ⟨linked 0, 0, by decide +kernel⟩,
   ⟨linked 0, 0, by decide +kernel⟩,
   ⟨linked 0, 0, by decide +kernel⟩,
   ⟨running.sf F.HOST_p_CTRL_MAX_RATE 0 0 4, 0, true, 4, 0, false, 0, by decide +kernel⟩,
   ⟨running, .hla, 0, by decide +kernel⟩,
   ⟨linked 0, 0, by decide +kernel⟩,
   ⟨linked 0, 0, false, false, false, by decide +kernel⟩,
   ⟨linked 0, 0, 0, by decide +kernel⟩,
   ⟨linked 0, 0, 3, 0, by decide +kernel⟩⟩

theorem wit_SidebandCommands :
    (∃ (s : State) (ev : Fin 16), (hubOn s = true) ∧ (ev.val % 2 = 1)) ∧
    (∃ (s : State) (ev : Fin 16), (hubOn s = true) ∧ (ev.val % 2 = 1)) ∧
    (∃ (s : State), (hubOn s = true)) ∧
    (∃ (s : State) (da : Fin 128), (hubOn s = true) ∧ (s.gb F.HOST_SB_STAT_DA_VALID 0 = false)) ∧
    (∃ (s : State) (sa da : Fin 128), (hubOn s = true) ∧ (s.gb F.HOST_SB_STAT_DA_VALID 0 = false ∧ s.gf F.HOST_SB_CFG_SA 0 = sa)) ∧
    (∃ (s : State) (sa da : Fin 128), (hubOn s = true) ∧ (s.gb F.HOST_SB_STAT_DA_VALID 0 = true ∨ s.gf F.HOST_SB_CFG_SA 0 ≠ sa)) ∧
    (∃ (s : State) (da : Fin 128), (hubOn s = true) ∧ (s.gb F.HOST_SB_STAT_DA_VALID 0 = true)) ∧
    (∃ (s : State), (hubOn s = true)) ∧
    (∃ (s : State), (hubOn s = true)) ∧
    (∃ (s : State), (hubOn s = true)) ∧
    (∃ (s : State), (hubOn s = true)) ∧
    (∃ (s : State) (n : Fin 65536), (hubOn s = true)) ∧
    (∃ (s : State) (n : Fin 65536), (hubOn s = true)) ∧
    (∃ (s : State), (hubOn s = true)) ∧
    (∃ (s : State), (hubOn s = true)) ∧
    (∃ (s : State) (act : Fin 256), (hubOn s = true) ∧ (act.val ≠ 0)) ∧
    (∃ (s : State), (hubOn s = true)) :=
  ⟨⟨running, 1, by decide +kernel⟩,
   ⟨running, 1, by decide +kernel⟩,
   ⟨running.sf F.HOST_SB_STAT_DA_VALID 0 0 1, by decide +kernel⟩,
   ⟨running, 9, by decide +kernel⟩,
   ⟨running.sf F.HOST_SB_CFG_SA 0 0 5, 5, 9, by decide +kernel⟩,
   ⟨running.sf F.HOST_SB_CFG_SA 0 0 5, 6, 9, by decide +kernel⟩,
   ⟨running.sf F.HOST_SB_STAT_DA_VALID 0 0 1, 9, by decide +kernel⟩,
   ⟨running, by decide +kernel⟩,
   ⟨running, by decide +kernel⟩,
   ⟨running, by decide +kernel⟩,
   ⟨running, by decide +kernel⟩,
   ⟨running, 9, by decide +kernel⟩,
   ⟨running, 9, by decide +kernel⟩,
   ⟨running, by decide +kernel⟩,
   ⟨running, by decide +kernel⟩,
   ⟨running, 1, by decide +kernel⟩,
   ⟨running, by decide +kernel⟩⟩

theorem wit_TapAndPins :
    (∃ (s : State), (tapOn s = true)) ∧
    (∃ (s : State), (tapOn s = true)) ∧
    (∃ (s : State) (b : Nat) (v : Bool), (tapOn s = true)) ∧
    (∃ (s : State), (tapOn s = true)) ∧
    (∃ (s : State), (tapOn s = true)) ∧
    (∃ (s : State), (tapOn s = true)) ∧
    (∃ (s : State), (tapOn s = true)) ∧
    (∃ (s : State), (tapOn s = true)) ∧
    (∃ (s : State) (dev : BitVec 128), (tapOn s = true ∧ vtestAllowed s = true) ∧ (dev.toNat = deviceId s)) ∧
    (∃ (s : State) (dev : BitVec 128) (sig : Bool), (tapOn s = true ∧ s.gb F.SEC_STAT_VTEST_DIS 0 = true)) ∧
    (∃ (s : State), (s.sett.vtestBusy = true) ∧ (vtestAllowed s = true)) ∧
    (∃ (s : State) (a : Reader) (i : Fin 192) (v : Word), (reaches s a R.PIN_Pxn_CFG.off = true) ∧ (s.gf F.PIN_Pxn_CFG_OWNER 0 i ≠ 2) ∧ (fOf (s.merged R.PIN_Pxn_CFG 0 i v) F.PIN_Pxn_CFG_FUNC_EN &&& pinAllowed i = fOf (s.merged R.PIN_Pxn_CFG 0 i v) F.PIN_Pxn_CFG_FUNC_EN)) ∧
    (∃ (s : State) (a : Reader) (i : Fin 192) (arg : Bool) (v : Word), (reaches s a R.PIN_Pxn_CFG.off = true) ∧ (s.gf F.PIN_Pxn_CFG_OWNER 0 i = 2)) ∧
    (∃ (s : State) (i : Fin 192) (sub : Fin 40) (k : Nat), (s.gf F.PIN_Pxn_ARG_LINE 0 i = k) ∧ (pinFunc s i 3 = true ∧ inputPin s 3 k = some i.val) ∧ (s.gb F.PIN_Pxn_CFG_INV 0 i = false ∧ s.host.ball.get i = 0) ∧ (s.gb F.PIN_EVTk_CFG_EN 0 k = true ∧ s.gf F.PIN_EVTk_CFG_EDGE 0 k % 2 = 1)) ∧
    (∃ (s : State) (a : Reader) (k : Fin 16), (reaches s a R.PIN_EVTk_CFG.off = true) ∧ (lineLevel s k = false) ∧ (s.gb F.PIN_EVTk_CFG_EN 0 k = true ∧ s.gf F.PIN_EVTk_CFG_EDGE 0 k = 1)) :=
  ⟨⟨running, by decide +kernel⟩,
   ⟨running, by decide +kernel⟩,
   ⟨running, 5, true, by decide +kernel⟩,
   ⟨running, by decide +kernel⟩,
   ⟨running, by decide +kernel⟩,
   ⟨running, by decide +kernel⟩,
   ⟨running, by decide +kernel⟩,
   ⟨running, by decide +kernel⟩,
   ⟨running.sf F.SEC_STAT_CONSENT 0 0 1, 0, by decide +kernel⟩,
   ⟨running.sf F.SEC_STAT_VTEST_DIS 0 0 1, 0, false, by decide +kernel⟩,
   ⟨{ running.sf F.SEC_STAT_CONSENT 0 0 1 with sett := { running.sett with vtestBusy := true } }, by decide +kernel⟩,
   ⟨running, .hla, 0, 0x40004, by decide +kernel⟩,
   ⟨running.sf F.PIN_Pxn_CFG_OWNER 0 0 2, .hla, 0, false, 0, by decide +kernel⟩,
   ⟨(((running.sf F.PIN_Pxn_CFG_FUNC_EN 0 5 8).sf F.PIN_Pxn_CFG_OWNER 0 5 1).sf F.PIN_EVTk_CFG_EN 0 0 1).sf F.PIN_EVTk_CFG_EDGE 0 0 1, 5, 0, 0, by decide +kernel⟩,
   ⟨(running.sf F.PIN_EVTk_CFG_EN 0 0 1).sf F.PIN_EVTk_CFG_EDGE 0 0 1, .hla, 0, by decide +kernel⟩⟩

theorem wit_SettCommands :
    (∃ (s : State), (settFree s = true) ∧ (modeCode s = 5 ∨ modeCode s = 6 ∨ modeCode s = 8)) ∧
    (∃ (s : State), (settFree s = true) ∧ (modeCode s ≠ 5 ∧ modeCode s ≠ 6 ∧ modeCode s ≠ 8)) ∧
    (∃ (s : State), (settFree s = true)) ∧
    (∃ (s : State) (arg : Fin 65536) (r : Rgn), (settFree s = true ∧ hubOn s = true) ∧ (arg.val.testBit r = true)) ∧
    (∃ (s : State) (arg : Fin 65536), (settFree s = true ∧ hubOn s = false)) ∧
    (∃ (s : State) (arg : Fin 65536) (r : Rgn), (settFree s = true ∧ packageRuns s = true) ∧ (arg.val.testBit r = true)) ∧
    (∃ (s : State) (r : Rgn), ((s.rgnS r).torporWait = true) ∧ (∀ q : Rgn, (s.rgnS q).torporWait = true → allPaused s q = true)) ∧
    (∃ (s : State) (arg : Fin 65536) (r : Rgn), (settFree s = true) ∧ (arg.val.testBit r = true) ∧ ((s.rgnS r).frzPin = false ∧ (s.rgnS r).torPin = false)) ∧
    (∃ (s : State) (arg : Fin 65536), (settFree s = true) ∧ (arg.val ≠ 0 ∧ ∀ r : Rgn, arg.val.testBit r = true → s.inTorpor r = true)) ∧
    (∃ (s : State) (arg : Fin 65536) (r : Rgn), (settFree s = true) ∧ (arg.val.testBit r = true ∧ s.inTorpor r = false)) ∧
    (∃ (s : State), (settFree s = true)) ∧
    (∃ (s : State) (r : Rgn), (s.sett.rdoMask.testBit r = true)) ∧
    (∃ (s : State), (settFree s = true ∧ s.safePhase = true)) ∧
    (∃ (s : State), (settFree s = true ∧ s.safeHold = true) ∧ (s.sett.safeCond = 0)) ∧
    (∃ (s : State), (settFree s = true) ∧ (s.sett.safeCond ≠ 0)) ∧
    (∃ (s : State), (s.sett.brownOut = false ∧ s.safeHold = true) ∧ (s.sett.safeCond = 0 ∧ s.ownB F.SETT_CTRL_SAFE_AUTO = true ∧ safeDwelt s = true)) ∧
    (∃ (s : State) (guard : Fin 256), (settFree s = true) ∧ (guard.val ≠ 0x5A)) ∧
    (∃ (s : State) (p : Fin 2) (q : Fin 6), (settFree s = true ∧ packageRuns s = true) ∧ (anyLive s = false ∧ s.cfg.pr = none) ∧ (∀ r : Rgn, torporAsked s r = false)) ∧
    (∃ (s : State), (settFree s = true ∧ packageRuns s = true) ∧ (anyLive s = true) ∧ (∀ r : Rgn, torporAsked s r = false)) ∧
    (∃ (s : State), (s.sett.dormantReq = true) ∧ (s.sett.wakePend = none)) ∧
    (∃ (s : State) (guard : Fin 256), (settFree s = true) ∧ (guard.val ≠ 0x5A)) ∧
    (∃ (s : State), (settFree s = true ∧ hubOn s = true)) ∧
    (∃ (s : State) (guard : Fin 256) (arg : Fin 65536), (settFree s = true) ∧ (guard.val ≠ 0x5A)) ∧
    (∃ (s : State) (arg : Fin 65536) (r : Rgn) (g : Fin 4), (settFree s = true ∧ hubOn s = true) ∧ (∀ q : Rgn, arg.val.testBit q = true → torporAsked s q = false) ∧ (arg.val.testBit r = true ∧ (s.rgnS r).configured = true)) ∧
    (∃ (s : State), (settFree s = true ∧ s.gb F.SEC_STAT_PUF_OK 0 = true)) ∧
    (∃ (s : State), (settFree s = true ∧ s.gb F.SEC_STAT_PUF_OK 0 = false)) ∧
    (∃ (s : State) (digest : BitVec 384) (sig : BitVec 768), (s.sett.exporting = true)) ∧
    (∃ (s : State), (settFree s = true) ∧ (s.sett.mirror = none ∧ modeCode s ≠ 2 ∧ modeCode s ≠ 3 ∧ modeCode s ≠ 0xC)) ∧
    (∃ (s : State), (settFree s = true) ∧ (s.sett.mirror.isSome = true)) :=
  ⟨⟨running, by decide +kernel⟩,
   ⟨asleep, by decide +kernel⟩,
   ⟨sett fun x => { x with doze := true }, by decide +kernel⟩,
   ⟨running, 8, 3, by decide +kernel⟩,
   ⟨asleep, 8, by decide +kernel⟩,
   ⟨running, 8, 3, by decide +kernel⟩,
   ⟨running.setRgn 3 { RgnS.reset with torCmd := true, torporWait := true }, 3, by decide +kernel⟩,
   ⟨running.setRgn 3 { RgnS.reset with torCmd := true, torporWait := true }, 8, 3, by decide +kernel⟩,
   ⟨running.sb F.RGN_STAT_TORPOR (rgB 3) 0 true, 8, by decide +kernel⟩,
   ⟨running, 8, 3, by decide +kernel⟩,
   ⟨State.reset, by decide +kernel⟩,
   ⟨sett (fun x => { x with rdoMask := 8 }), 3, by decide +kernel⟩,
   ⟨running, by decide +kernel⟩,
   ⟨sett fun x => { x with safe := true, safeLatch := 128 }, by decide +kernel⟩,
   ⟨sett fun x => { x with safe := true, safeCond := 1 }, by decide +kernel⟩,
   ⟨{ (sett fun x => { x with safe := true, safeLatch := 128 }).setOwn F.SETT_CTRL_SAFE_AUTO 0 1 with hub := { HubS.reset with base := 10 ^ 12 } }, by decide +kernel⟩,
   ⟨running, 0, by decide +kernel⟩,
   ⟨running, 0, 0, by decide +kernel⟩,
   ⟨running.sb F.LE_CTRL_LIVE (leB 3) 0 true, by decide +kernel⟩,
   ⟨sett fun x => { x with dormantReq := true }, by decide +kernel⟩,
   ⟨running, 0, by decide +kernel⟩,
   ⟨running, by decide +kernel⟩,
   ⟨running, 0, 0, by decide +kernel⟩,
   ⟨cfgd running, 8, 3, 0, by decide +kernel⟩,
   ⟨running.sb F.SEC_STAT_PUF_OK 0 0 true, by decide +kernel⟩,
   ⟨running, by decide +kernel⟩,
   ⟨sett (fun x => { x with exporting := true }), 5, 6, by decide +kernel⟩,
   ⟨running, by decide +kernel⟩,
   ⟨sett fun x => { x with mirror := some false }, by decide +kernel⟩⟩

theorem wit_PowerAndResets :
    (∃ (s : State), (s.sett.phase = .off)) ∧
    (∃ (s : State), (s.sett.brownOut = true ∧ s.sett.retLost = true)) ∧
    (∃ (s : State) (k : Fin 4), (s.sett.phase = .powerUp ∧ s.sett.pwrStep < 3)) ∧
    (∃ (s : State), (s.sett.phase = .powerUp ∧ s.sett.pwrStep = 2)) ∧
    (∃ (s : State), (hubOn s = true ∧ s.hub.timeOn = false)) ∧
    (∃ (s : State) (r : Rgn) (badRows : List (Fin 16 × Fin 16 × Fin 32)), (s.sett.phase = .calibrating) ∧ (∀ q : Rgn, (s.rgnS q).configured = true → calibrated s q = true) ∧ ((s.rgnS r).configured = true)) ∧
    (∃ (s : State) (r : Rgn), (packageRuns s = true ∨ hubOn s = true ∧ s.ownB F.SETT_CTRL_PIN_CLK = false) ∧ ((s.own F.SETT_CTRL_PIN_SCOPE).testBit r = true)) ∧
    (∃ (s : State) (r : Rgn), ((s.rgnS r).frzCmd = false ∧ (s.rgnS r).torCmd = false)) ∧
    (∃ (s : State), (hubOn s = true)) ∧
    (∃ (s : State), (hubOn s = true)) ∧
    (∃ (s : State) (a : Reader) (r : Rgn) (g : Fin 4), (s.mayWrite a r = true) ∧ (torporAsked s r = false ∧ (s.rgnS r).configured = true)) ∧
    (∃ (s : State) (a : Reader) (r : Rgn), (s.mayWrite a r = true) ∧ (torporAsked s r = true)) ∧
    (∃ (s : State) (r : Rgn) (badRows : List (Fin 16 × Fin 32)), (s.sett.phase = .running ∧ s.gb F.RGN_STAT_RESET (rgB r) = true) ∧ (calibrated s r = true)) ∧
    (∃ (s : State) (code : Fin 5), (hubOn s = true ∧ s.sett.vendor = false)) ∧
    (∃ (s : State), (hubOn s = true) ∧ (s.sett.supplyBad ≠ 0)) ∧
    (∃ (s : State), (s.sett.phase ≠ .dormant)) ∧
    (∃ (s : State) (below : Bool), (∀ c ∈ s.img.cells, c.1 < 0x10_0000 ∨ 0x100_0000 ≤ c.1)) ∧
    (∃ (s : State), (s.sett.phase ≠ .off ∧ s.sett.brownOut = true)) ∧
    (∃ (s : State), (hubOn s = true ∧ s.sett.vendor = false)) ∧
    (∃ (s : State) (i : Fin 192), (s.sett.phase = .running ∧ s.sett.dormantReq = false) ∧ (pinKL i = true ∧ inputPin s 6 (inputKey s i 6) = some i.val ∧ ballIn s i = true) ∧ (s.ownB F.SETT_WAKE_DOZE_EXIT = true)) :=
  ⟨⟨sett fun x => { x with phase := .off }, by decide +kernel⟩,
   ⟨sett fun x => { x with brownOut := true, retLost := true }, by decide +kernel⟩,
   ⟨(sett fun x => { x with phase := .powerUp, pwrStep := 0 }).setOwn F.SETT_PWRk_EN 0 1, 0, by decide +kernel⟩,
   ⟨sett fun x => { x with phase := .powerUp, pwrStep := 2, porstLow := true }, by decide +kernel⟩,
   ⟨running, by decide +kernel⟩,
   ⟨cfgd (sett fun x => { x with phase := .calibrating }), 3, [], by decide +kernel⟩,
   ⟨(running.setOwn F.SETT_CTRL_PIN_SCOPE 0 8).setOwn F.SETT_CTRL_PIN_CLK 0 1, 3, by decide +kernel⟩,
   ⟨running.setRgn 3 { RgnS.reset with torPin := true }, 3, by decide +kernel⟩,
   ⟨sett fun x => { x with vendor := true }, by decide +kernel⟩,
   ⟨running, by decide +kernel⟩,
   ⟨cfgd (owned 3), .hla, 3, 0, by decide +kernel⟩,
   ⟨(owned 3).setRgn 3 { RgnS.reset with torCmd := true }, .hla, 3, by decide +kernel⟩,
   ⟨running.sb F.RGN_STAT_RESET (rgB 3) 0 true, 3, [], by decide +kernel⟩,
   ⟨running, 2, by decide +kernel⟩,
   ⟨sett fun x => { x with supplyBad := 2 }, by decide +kernel⟩,
   ⟨sett fun x => { x with supplyBad := 2, safeCond := 8 }, by decide +kernel⟩,
   ⟨running.setOwn F.SETT_WAKE_TIME_RTC 0 9, false, by decide +kernel⟩,
   ⟨sett fun x => { x with brownOut := true }, by decide +kernel⟩,
   ⟨running, by decide +kernel⟩,
   ⟨(fun s => { s with host := { s.host with ball := s.host.ball.set 165 1 } }) (((sett fun x => { x with doze := true }).sf F.PIN_Pxn_CFG_FUNC_EN 0 165 64).sf F.PIN_Pxn_CFG_OWNER 0 165 1 |> (fun s => s.setOwn F.SETT_WAKE_DOZE_EXIT 0 1)), 165, by decide +kernel⟩⟩

theorem wit_EnergyWearAndMirror :
    (∃ (s : State) (n : Fin 128), (s.sett.brownOut = false ∧ s.ownB F.SETT_ACCn_CFG_CLR n = false)) ∧
    (∃ (s : State) (n : Fin 128), (s.sett.brownOut = false ∧ s.ownB F.SETT_ACCn_CFG_CLR n = true)) ∧
    (∃ (s : State) (n : Fin 128) (f : Nat), (s.sett.brownOut = false ∧ s.ownB F.SETT_ACC_CTRL_TEL_EN 0 = true) ∧ (∀ m : Fin 128, s.ownB F.SETT_ACCn_CFG_EN m = decide (m = n)) ∧ (s.own F.SETT_ACC_CTRL_FLOW 0 = f) ∧ (sourceDrop s 2 f = 0 ∧ flowAccepted s f = false)) ∧
    (∃ (s : State) (a : Reader) (n : Fin 128), (reaches s a R.SETT_ACCn_C0.off = true) ∧ (s.ownB F.SETT_ACC_STAT_ENERGY_VALID 0 = true) ∧ (s.sett.folds.get n = ⟨none, false⟩)) ∧
    (∃ (s : State) (r : Rgn) (blk : Fin 64) (index : Nat) (unit : Fin 128), (blk.val < 22 ∧ s.sett.brownOut = false)) ∧
    (∃ (s : State) (r : Rgn) (blk : Fin 64) (index : Nat) (unit : Fin 128), (12 ≤ blk.val ∧ blk.val < 16 ∧ s.sett.brownOut = false) ∧ (s.sett.wear.get (wearKey r blk) < 80 ∧ 80 ≤ index ∧ s.sett.wearAt.get (wearKey r blk) = 0)) ∧
    (∃ (s : State) (months : Fin 65536), (s.sett.brownOut = false)) ∧
    (∃ (s : State), (hubOn s = true ∧ s.sett.brownOut = false) ∧ (s.sett.mirror = none)) ∧
    (∃ (s : State), (degraded s = true ∧ s.sett.brownOut = false)) ∧
    (∃ (s : State) (row col : Nat) (word : Fin 2097152), (s.sett.rowErr.get row + 1 < 3)) ∧
    (∃ (s : State) (row col : Nat) (word : Fin 2097152), (3 ≤ s.sett.rowErr.get row + 1) ∧ (s.sett.retired.get (2 * row) = 0 ∧ s.own F.SETT_SPAREk_FREE 8 ≠ 0)) ∧
    (∃ (s : State) (row col : Nat) (word : Fin 2097152), (s.sett.retired.get (2 * row) = 0 ∧ s.own F.SETT_SPAREk_FREE 8 = 0)) ∧
    (∃ (s : State), (s.sett.brownOut = false) ∧ (s.sett.writes = [])) ∧
    (∃ (s : State) (a : Nat) (v : Word) (l : List (Nat × Word)), (s.sett.brownOut = false) ∧ (s.sett.writes = (a, v) :: l) ∧ (a ≠ R.SETT_CMD.addr 0 0 ∧ a ≠ R.SETT_THR.addr 0 0 ∧ (a < R.SETT_PWRk.addr 0 0 ∨ R.SETT_PWRk.addr 0 3 < a))) ∧
    (∃ (s : State) (v : Word) (l : List (Nat × Word)), (s.sett.brownOut = false) ∧ (s.sett.writes = (R.SETT_CMD.addr 0 0, v) :: l) ∧ (v.bit 31 = true ∧ s.ownB F.SETT_CMD_START = true)) :=
  ⟨⟨(fun s => { s with sett := { s.sett with sums := s.sett.sums.set 5 7 } }) (running.setOwnW R.SETT_ACCn_C0 5 9), 5, by decide +kernel⟩,
   ⟨(running.setOwnW R.SETT_ACCn_C0 5 9).setOwn F.SETT_ACCn_CFG_CLR 5 1, 5, by decide +kernel⟩,
   ⟨((flowAt .bestEffort).setOwn F.SETT_ACC_CTRL_TEL_EN 0 1).setOwn F.SETT_ACC_CTRL_FLOW 0 5 |> (fun s => s.setOwn F.SETT_ACCn_CFG_EN 9 1), 9, 5, by decide +kernel⟩,
   ⟨(running.setOwn F.SETT_ACC_STAT_ENERGY_VALID 0 1).setOwnW R.SETT_ACCn_C1 5 9, .hla, 5, by decide +kernel⟩,
   ⟨running, 3, 13, 81, 0, by decide +kernel⟩,
   ⟨running, 3, 13, 81, 0, by decide +kernel⟩,
   ⟨running, 9, by decide +kernel⟩,
   ⟨running, by decide +kernel⟩,
   ⟨running.setOwn F.SETT_DEGR_COND 0 1, by decide +kernel⟩,
   ⟨State.reset, 5, 0, 0, by decide +kernel⟩,
   ⟨(fun s => { s with sett := { s.sett with rowErr := s.sett.rowErr.set 5 2 } }) (running.setOwn F.SETT_SPAREk_FREE 8 4), 5, 0, 0, by decide +kernel⟩,
   ⟨running.setOwn F.SETT_SPAREk_FREE 8 0, 0, 0, 0, by decide +kernel⟩,
   ⟨running, by decide +kernel⟩,
   ⟨(sett fun x => { x with writes := [(0x10001C, 77)] }), 0x10001C, 77, [], by decide +kernel⟩,
   ⟨(sett fun x => { x with writes := [(R.SETT_CMD.addr 0 0, 0x80000000)] }).setOwn F.SETT_CMD_START 0 1, 0x80000000, [], by decide +kernel⟩⟩

theorem wit_DemandRegisters :
    (∃ (s : State) (a : Reader) (r : Rgn) (v : Word), (reaches s a R.HERD_DEMr.off = true) ∧ (s.gf F.RGN_STAT_OWNER (rgB r) = 1 ∧ (s.gf F.HERD_DEM_SRC_FAB 0).testBit r = false)) ∧
    (∃ (s : State) (a : Reader) (r : Rgn) (v : Word), (reaches s a R.HERD_DEMr.off = true) ∧ (s.gf F.RGN_STAT_OWNER (rgB r) ≠ 1 ∨ (s.gf F.HERD_DEM_SRC_FAB 0).testBit r = true)) :=
  ⟨⟨owned 3, .hla, 3, 77, by decide +kernel⟩,
   ⟨State.reset, .hla, 3, 77, by decide +kernel⟩⟩

theorem wit_WakesFromDormant :
    (∃ (s : State), (s.sett.phase = .dormant ∧ s.sett.dormantReq = false)) ∧
    (∃ (s : State), (s.sett.phase = .dormant ∧ s.sett.dormantReq = false) ∧ (s.ownB F.SETT_WAKE_SUPPLY_EN = true)) ∧
    (∃ (s : State), (s.sett.phase = .dormant ∧ s.sett.dormantReq = false) ∧ (s.ownB F.SETT_WAKE_TIMER_EN = true ∧ s.rtc.lo = s.ownW R.SETT_WAKE_TIME)) ∧
    (∃ (s : State) (i : Fin 192), (s.sett.phase = .dormant ∧ s.sett.dormantReq = false) ∧ (pinKL i = true ∧ inputPin s 6 (inputKey s i 6) = some i.val ∧ ballIn s i = true)) :=
  ⟨⟨asleep, by decide +kernel⟩,
   ⟨asleep.setOwn F.SETT_WAKE_SUPPLY_EN 0 1, by decide +kernel⟩,
   ⟨asleep.setOwn F.SETT_WAKE_TIMER_EN 0 1, by decide +kernel⟩,
   ⟨(fun s => { s with host := { s.host with ball := s.host.ball.set 165 1 } }) ((asleep.sf F.PIN_Pxn_CFG_FUNC_EN 0 165 64).sf F.PIN_Pxn_CFG_OWNER 0 165 1), 165, by decide +kernel⟩⟩

theorem wit_ReadsWithEvents :
    ∃ (s : State) (a : Reader) (n : WNum) (ev : Word) (k : Blk) (b m : Nat) (row : RegRow), (reaches s a (4 * n) = true) ∧ (4 * n.val < 0x14_0000 ∨ 0x18_0000 ≤ 4 * n.val) ∧ (halfAt (4 * n) = 0) ∧ (rowAt (4 * n) = some (k, b, row, m)) ∧ (accMask .rc row.fields ≠ 0) :=
  ⟨State.reset, .hla, 0x4FC004, 0x10001, .rgn, rgB 3, 0, ((rowAt 0x13F0010).getD (.hub, 0, ⟨0, 0, 0, 0, []⟩, 0)).2.2.1, by decide +kernel⟩

theorem wit_AppliedDuty :
    ∃ (s : State) (r : Rgn) (c : Fin 16) (sub : Fin 120) (on mn mo : Nat), (enabled s r c = true ∧ (s.ch r c).run ≠ .off ∧ (s.ch r c).everEn = true ∧ (s.ch r c).per ≠ 0) ∧ ((s.ch r c).full = true ∧ (s.ch r c).next ≤ fineNow s sub ∧ (s.ch r c).at_ + 384 ≤ (s.ch r c).next) ∧ ((s.ch r c).relLat = false ∧ (s.ch r c).relRs = false ∧ (s.ch r c).lat = false ∧ (s.ch r c).rs = false) ∧ (respOf s r c false ≠ 1 ∧ respOf s r c true ≠ 1) ∧ (s.safeHold = false ∧ frozen s r = false) ∧ (s.gf F.PG_CHcc_DUTY_ON (pgB r) c = on ∧ s.gf F.PG_CHcc_LIM_MIN_ON (pgB r) c = mn ∧ s.gf F.PG_CHcc_LIM_MIN_OFF (pgB r) c = mo) ∧ (mn + mo ≤ perOf s r c) :=
  ⟨{ (chIn { ChS.reset with everEn := true, run := .waiting, full := true, per := 9600, next := 900 }).sf F.PG_CHcc_DUTY_ON (pgB 3) 0 50 with hub := { HubS.reset with base := 1000 } }, 3, 0, 0, 50, 0, 0, by decide +kernel⟩

theorem wit_VendorTestUnlock :
    (∃ (s : State) (dev : BitVec 128) (sig : Bool), (s.sett.vtestBusy = false)) ∧
    (∃ (s : State), (s.sett.vendor = false)) :=
  ⟨⟨running, 0, false, by decide +kernel⟩,
   ⟨running, by decide +kernel⟩⟩

theorem wit_FrameAccessAndClocks :
    (∃ (i : Instr) (s : State), (scope i s).chapter = 0 ∨ (scope i s).chapter = 1) := ⟨.safeNAssert, State.reset, by decide +kernel⟩

theorem wit_FrameAnalogueAndConversion :
    (∃ (i : Instr) (s : State), (scope i s).chapter = 2 ∨ (scope i s).chapter = 3 ∨ (scope i s).chapter = 4 ∨ (scope i s).chapter = 5) := ⟨.refFaultClear 0, State.reset, by decide +kernel⟩

theorem wit_FramePulses :
    (∃ (i : Instr) (s : State), (scope i s).chapter = 6) := ⟨.pgTrigger 0 0 0, State.reset, by decide +kernel⟩

theorem wit_FrameEngines :
    (∃ (i : Instr) (s : State), (scope i s).chapter = 7) := ⟨.nop 0, State.reset, by decide +kernel⟩

theorem wit_FrameFabricAndConfiguration :
    (∃ (i : Instr) (s : State), (scope i s).chapter = 8 ∨ (scope i s).chapter = 9) := ⟨.queueFlush .hla 0 0, State.reset, by decide +kernel⟩

theorem wit_FrameRecordsAndPosting :
    (∃ (i : Instr) (s : State), (scope i s).chapter = 10 ∨ (scope i s).chapter = 11) := ⟨.admissionStart, State.reset, by decide +kernel⟩

theorem wit_FrameHerdAndHost :
    (∃ (i : Instr) (s : State), (scope i s).chapter = 12 ∨ (scope i s).chapter = 13) := ⟨.capCycle, State.reset, by decide +kernel⟩

theorem wit_FrameModes :
    (∃ (i : Instr) (s : State), (scope i s).chapter = 14) := ⟨.active, State.reset, by decide +kernel⟩

/-! ### WellFormed: each check refuses an ill-formed command -/

theorem test_wf_temp_sample : (Instr.tempSample [25000]).wf = false := by decide
theorem test_wf_calibration_passed : (Instr.calibrationDone 0 0 32 [0, 0, 0, 0, 0] [0, 0, 0, 0, 0] [0, 0, 0, 0, 0]).wf = false := by decide
theorem test_wf_calibration_slices : (Instr.calibrationDone 0 0 31 [0, 0, 0, 0] [0, 0, 0, 0, 0] [0, 0, 0, 0, 0]).wf = false := by decide
theorem test_wf_estimator_positions : (Instr.estimatorBlock 0 0 0 []).wf = false := by decide
theorem test_wf_batch_empty : (Instr.batchDone 0 0 [] 0).wf = false := by decide
theorem test_wf_bar0_read_range : (Instr.bar0Read 0 33554428 8).wf = false := by decide +kernel
theorem test_wf_bar0_write_range : (Instr.bar0Write 0 33554431 [some 1, some 2]).wf = false := by decide +kernel
theorem test_wf_beacon_depth : (Instr.beacon 0 ⟨0, 0, 0, 0, 0⟩ 1 8 1 []).wf = false := by decide
theorem test_wf_join_id : (Instr.join 0 ⟨0, 0, 0, 0, 0⟩ 16384 1 0 0 1 1 []).wf = false := by decide
theorem test_wf_join_resp_offset : (Instr.joinResp 0 ⟨0, 0, 0, 0, 0⟩ 1 0 16385).wf = false := by decide
theorem test_wf_leave_id : (Instr.leave 0 ⟨0, 0, 0, 0, 0⟩ 16384 0).wf = false := by decide
theorem test_wf_move_parent : (Instr.move 0 ⟨0, 0, 0, 0, 0⟩ 1 1 (some 16384)).wf = false := by decide
theorem test_wf_leave_hold_id : (Instr.leaveHoldExpire 16384).wf = false := by decide
theorem test_wf_flash_words : (Instr.flashCommandDone true (List.replicate 65 0)).wf = false := by decide

/-! ### Values that the spec's rules give -/

/-- The state after a step that answers one, else reset. -/
def stateAfter (o : Host.Outcome State Fault Refusal) : State := match o with | .next t => t | _ => State.reset

/-- R250: 2^-24 is added, so the tie 2^22 rounds up, and −2^22 rounds to 0. -/
theorem test_round_tie : round23 4194304 = 8388608 ∧ round23 4194303 = 0 ∧ round23 (-4194304) = 0 := by decide +kernel

/-- R248: −1.0 × −1.0 gives 1 − 2^−46 with S = 1, and exactly +1.0 with S = 0. -/
theorem test_minus_one_squared :
    storeAcc true accTop (2 ^ 46) = (0x3FFFFFFFFFFF, true) ∧ storeAcc false accTop (2 ^ 46) = (0x400000000000, false) := by
  decide +kernel

/-- The check value of CRC-32C over four bytes of zero (RFC 3720, B.4 gives the polynomial). -/
theorem test_crc32c_zeros : ~~~crcWord 0xFFFFFFFF 0 = 0x48674BC7#32 := by decide +kernel

/-- The check value of the CRC-8 of SMBus over the digits 1 to 9. -/
theorem test_pec : pecOf [0x31, 0x32, 0x33, 0x34, 0x35, 0x36, 0x37, 0x38, 0x39] = 0xF4#8 := by decide +kernel

/-- R20: a low half written alone changes nothing; the high half then writes both. -/
theorem test_low_half_waits : (stateAfter (execWriteLowHalf .hla 65540 0x5000 State.reset)).rd64 R.PMAP_ROOT_A 0 0 = 0 := by
  decide +kernel
theorem test_high_half_writes :
    (stateAfter (execWriteHighHalf .hla 65541 0x12 (stateAfter (execWriteLowHalf .hla 65540 0x5000 State.reset)))).rd64
      R.PMAP_ROOT_A 0 0 = 0x12_0000_5000 := by decide +kernel

/-- R200, R13: 4,799 fine steps are no listed period, and the field keeps its value; 4,800 are. -/
theorem test_period_unlisted :
    (stateAfter (execPgGrpPerWrite .hla 3 0 4799 ((owned 3).sf F.PG_GRPg_PER_PER (pgB 3) 0 9600))).gf F.PG_GRPg_PER_PER (pgB 3) 0 =
      9600 := by decide +kernel
theorem test_period_listed :
    (stateAfter (execPgGrpPerWrite .hla 3 0 4800 (owned 3))).gf F.PG_GRPg_PER_PER (pgB 3) 0 = 4800 := by decide +kernel

/-- R14: a bit set in the cycle in which it is cleared ends set; one not set again ends clear (R10). -/
theorem test_set_beats_clear :
    (stateAfter (execRegisterWrite .hla 98306 3 1 (State.reset.wr R.HERD_EVT 0 0 3))).rd R.HERD_EVT 0 0 = 1 := by decide +kernel

/-- R35: a reading midway between two multiples of 0.25 °C is rounded upward. -/
theorem test_midway_temperature : quarterDegrees 125 = 1 ∧ quarterDegrees (-125) = 0 ∧ quarterDegrees 124 = 0 := by decide

/-- R552, its example: AIO07_12 is ball BF5 and PGO09_11 is ball H38. -/
theorem test_balls : (aioBall 7 12).name = "BF5" ∧ (pgoPos 9 11).name = "H38" := by decide +kernel

/-- R42: 0.65 V allows 200 MHz and no more; 0.80 V allows 600 MHz. -/
theorem test_frequency_limit :
    (stateAfter (execVfRequest .hla 3 5 (owned 3))).gb F.RGN_EVT_VF_REJ (rgB 3) 0 = true := by decide +kernel
theorem test_frequency_limits : maxMhz 4 = 200 ∧ maxMhz 5 = 400 ∧ maxMhz 14 = 500 ∧ maxMhz 15 = 600 := by decide

/-- R461: a read of more than 128 bytes is not performed. -/
theorem test_read_too_long :
    (stateAfter (execBar0Read 0 0 129 (State.reset.sf F.HOST_p_STAT_MODE 0 0 2))).gb F.HOST_p_EVT_BAD_SIZE 0 0 = true := by
  decide +kernel

/-- R50: SAFE_N low enters Safe hold. -/
theorem test_safe_n : (State.reset.safeAssert 0 true false).safeHold = true := by decide +kernel

/-- R466: no dynamic address is held after reset. -/
theorem test_no_dynamic_address : State.reset.gb F.HOST_SB_STAT_DA_VALID 0 = false := by decide +kernel

/-- No row of the table has bits, so no word spells a command. -/
theorem test_no_word_spells (n w : Nat) : Sys2Proof.decodeTableWord n w = none := rfl

/-- R54, R434: with nothing waiting the timebase counts a tick; Herd Time is not running after reset. -/
theorem test_idle : step State.reset = .next { State.reset with hub := { HubS.reset with base := 40 } } := by rfl

end
end

/-! ## What a command that ends by `after` leaves, and register files read by name -/

namespace Sys2Proof.Machine

/-! ### Register files read and written by register and field -/

/-- The word of a register in the register files. -/
def Regs.word (x : Regs) (r : Reg) (b n : Nat) : Word := (x.tab r.blk).get (r.addr b n)

/-- The register files with a register's word replaced. -/
def Regs.setWord (x : Regs) (r : Reg) (b n : Nat) (v : Word) : Regs := x.put r.blk ((x.tab r.blk).set (r.addr b n) v)

/-- A field of a register in the register files. -/
def Regs.fld (x : Regs) (f : Fld) (b n : Nat) : Nat := (x.word f.reg b n).bits f.hi f.lo

/-- The register files with a field replaced. -/
def Regs.setFld (x : Regs) (f : Fld) (b n v : Nat) : Regs := x.setWord f.reg b n ((x.word f.reg b n).setBits f.hi f.lo v)

theorem rd_eq_word (s : State) (r : Reg) (b n : Nat) : s.rd r b n = s.regs.word r b n := rfl
theorem gf_eq_fld (s : State) (f : Fld) (b n : Nat) : s.gf f b n = s.regs.fld f b n := rfl
theorem gb_eq_fld (s : State) (f : Fld) (b n : Nat) : s.gb f b n = (s.regs.fld f b n != 0) := rfl

@[simp] theorem wr_regs (s : State) (r : Reg) (b n : Nat) (v : Word) : (s.wr r b n v).regs = s.regs.setWord r b n v := rfl
@[simp] theorem sf_regs (s : State) (f : Fld) (b n v : Nat) : (s.sf f b n v).regs = s.regs.setFld f b n v := rfl
@[simp] theorem sb_regs (s : State) (f : Fld) (b n : Nat) (v : Bool) :
    (s.sb f b n v).regs = s.regs.setFld f b n (if v then 1 else 0) := rfl
@[simp] theorem orf_regs (s : State) (f : Fld) (b n i : Nat) :
    (s.orf f b n i).regs = s.regs.setFld f b n (s.regs.fld f b n ||| 2 ^ i) := rfl
@[simp] theorem bump_regs (s : State) (f : Fld) (b n : Nat) :
    (s.bump f b n).regs = s.regs.setFld f b n (satInc (f.hi + 1 - f.lo) (s.regs.fld f b n)) := rfl
@[simp] theorem count_regs (s : State) (f : Fld) (b n : Nat) :
    (s.count f b n).regs = s.regs.setFld f b n (s.regs.fld f b n + 1) := rfl

@[simp] theorem Regs.word_setWord_self (x : Regs) (r : Reg) (b n : Nat) (v : Word) : (x.setWord r b n v).word r b n = v := by
  simp [Regs.word, Regs.setWord]

theorem Regs.word_setWord_ne (x : Regs) {q r : Reg} {b n c m : Nat} (v : Word)
    (h : q.blk ≠ r.blk ∨ q.addr c m ≠ r.addr b n) : (x.setWord r b n v).word q c m = x.word q c m := by
  simp only [Regs.word, Regs.setWord]
  by_cases hb : q.blk = r.blk
  · rw [hb, Regs.tab_put_self, Tab.get_set_ne _ _ (h.resolve_left (absurd hb))]
  · rw [Regs.tab_put_ne _ _ hb]

/-- A write of a register of one kind of block leaves those of the other kinds. -/
theorem Regs.word_setWord_blk (x : Regs) (q r : Reg) (b n c m : Nat) (v : Word) (h : q.blk ≠ r.blk) :
    (x.setWord r b n v).word q c m = x.word q c m := word_setWord_ne x v (Or.inl h)

/-- A write leaves the other registers of its block that bear the same number. -/
theorem Regs.word_setWord_off (x : Regs) (q r : Reg) (b n : Nat) (v : Word) (h : q.off ≠ r.off ∧ q.stride = r.stride) :
    (x.setWord r b n v).word q b n = x.word q b n := by
  refine word_setWord_ne x v (Or.inr ?_)
  simp only [Reg.addr, h.2]
  omega

/-- A field written reads back, cut to its width. -/
theorem Regs.fld_setFld_self (x : Regs) (f : Fld) (b n v : Nat) (h : f.hi < 32) :
    (x.setFld f b n v).fld f b n = v % 2 ^ (f.hi + 1 - f.lo) := by
  simp only [Regs.fld, Regs.setFld, word_setWord_self]
  exact Word.bits_setBits_self _ _ _ _ h

/-- A flag written reads back. -/
theorem Regs.flag_setFld_self (x : Regs) (f : Fld) (b n : Nat) (v : Bool) (h : f.hi < 32 ∧ f.lo ≤ f.hi) :
    ((x.setFld f b n (if v then 1 else 0)).fld f b n != 0) = v := by
  rw [fld_setFld_self x f b n _ h.1]
  cases v
  · simp
  · have : 1 < 2 ^ (f.hi + 1 - f.lo) := Nat.one_lt_two_pow (by omega)
    simp [Nat.mod_eq_of_lt this]

/-- A field written leaves the other fields of its register. -/
theorem Regs.fld_setFld_reg (x : Regs) (f g : Fld) (b n v : Nat)
    (h : g.reg = f.reg ∧ (f.hi < g.lo ∨ g.hi < f.lo) ∧ g.hi < 32) : (x.setFld f b n v).fld g b n = x.fld g b n := by
  obtain ⟨hr, hd, h32⟩ := h
  simp only [Regs.fld, Regs.setFld, hr, word_setWord_self]
  exact Word.bits_setBits_ne _ _ _ _ _ _ hd h32

theorem Regs.fld_setFld_ne (x : Regs) {f g : Fld} {b n c m : Nat} (v : Nat)
    (h : g.reg.blk ≠ f.reg.blk ∨ g.reg.addr c m ≠ f.reg.addr b n) : (x.setFld f b n v).fld g c m = x.fld g c m := by
  simp only [Regs.fld, Regs.setFld, word_setWord_ne x _ h]

theorem Regs.fld_setFld_blk (x : Regs) (f g : Fld) (b n c m v : Nat) (h : g.reg.blk ≠ f.reg.blk) :
    (x.setFld f b n v).fld g c m = x.fld g c m := fld_setFld_ne x v (Or.inl h)

theorem Regs.fld_setFld_off (x : Regs) (f g : Fld) (b n v : Nat)
    (h : g.reg.off ≠ f.reg.off ∧ g.reg.stride = f.reg.stride) : (x.setFld f b n v).fld g b n = x.fld g b n := by
  simp only [Regs.fld, Regs.setFld, word_setWord_off x _ _ b n _ h]

theorem Regs.word_setFld_blk (x : Regs) (f : Fld) (q : Reg) (b n c m v : Nat) (h : q.blk ≠ f.reg.blk) :
    (x.setFld f b n v).word q c m = x.word q c m := word_setWord_blk x _ _ b n c m _ h

theorem Regs.word_setFld_off (x : Regs) (f : Fld) (q : Reg) (b n v : Nat) (h : q.off ≠ f.reg.off ∧ q.stride = f.reg.stride) :
    (x.setFld f b n v).word q b n = x.word q b n := word_setWord_off x _ _ b n _ h

/-! ### The end of a command -/

/-- What a command with effect `t` leaves of a state `s`. -/
def State.ending (s t : State) : State := { t.settle with pending := s.pending, otp := s.otp }

/-- To show what a command leaves, show it of its ending. -/
theorem ends_of_ending {s t : State} {p : State → Prop} (h : p (s.ending t)) : Ends (s.after t) p := ⟨_, rfl, h⟩

section
variable (s t : State)

@[simp] theorem ending_regs : (s.ending t).regs = t.regs := settle_regs t
@[simp] theorem ending_hub : (s.ending t).hub = t.hub := settle_hub t
@[simp] theorem ending_rgn : (s.ending t).rgn = t.rgn := settle_rgn t
@[simp] theorem ending_conv : (s.ending t).conv = t.conv := settle_conv t
@[simp] theorem ending_engines : (s.ending t).engines = t.engines := settle_engines t
@[simp] theorem ending_fabs : (s.ending t).fabs = t.fabs := settle_fabs t
@[simp] theorem ending_cfg : (s.ending t).cfg = t.cfg := settle_cfg t
@[simp] theorem ending_spoor : (s.ending t).spoor = t.spoor := settle_spoor t
@[simp] theorem ending_pmap : (s.ending t).pmap = t.pmap := settle_pmap t
@[simp] theorem ending_herd : (s.ending t).herd = t.herd := settle_herd t
@[simp] theorem ending_sett : (s.ending t).sett = t.sett := settle_sett t
@[simp] theorem ending_img : (s.ending t).img = t.img := settle_img t
@[simp] theorem ending_otp : (s.ending t).otp = s.otp := rfl
@[simp] theorem ending_hold : (s.ending t).hold = t.hold := settle_hold t
@[simp] theorem ending_stage : (s.ending t).stage = t.stage := settle_stage t
@[simp] theorem ending_resp : (s.ending t).resp = t.resp := settle_resp t
@[simp] theorem ending_host_sb : (s.ending t).host.sb = t.host.sb := settle_host_sb t
@[simp] theorem ending_host_ports : (s.ending t).host.ports = t.host.ports := settle_host_ports t

@[simp] theorem ending_gf (f : Fld) (b n : Nat) : (s.ending t).gf f b n = t.gf f b n := gf_congr (ending_regs s t) f b n
@[simp] theorem ending_gb (f : Fld) (b n : Nat) : (s.ending t).gb f b n = t.gb f b n := gb_congr (ending_regs s t) f b n
@[simp] theorem ending_rd (r : Reg) (b n : Nat) : (s.ending t).rd r b n = t.rd r b n := rd_congr (ending_regs s t) r b n

end

/-- What leaves the part has left it. -/
theorem mem_emit_out (s : State) (e : Emit) : e ∈ (s.emit e).out := List.mem_cons_self

/-- An MSI-X vector keeps what has left the part. -/
theorem mem_msix_out {s : State} {e : Emit} (p v : Nat) (h : e ∈ s.out) : e ∈ (s.msix p v).out := by
  unfold State.msix
  split
  · exact h
  · split
    · exact List.mem_cons_of_mem _ h
    · exact h

/-- The signals of R465 keep what has left the part. -/
theorem mem_settle_out {s : State} {e : Emit} (h : e ∈ s.out) : e ∈ s.settle.out := by
  have pass : ∀ (c : Bool) (p v : Nat) (t : State), e ∈ t.out → e ∈ (if c then t.msix p v else t).out := by
    intro c p v t ht
    cases c
    · exact ht
    · exact mem_msix_out p v ht
  have h3 := pass (s.gb F.HUB_IRQ_CFG_EN_B 0) 1 (s.gf F.HUB_IRQ_CFG_VEC_B 0) _
    (pass (s.gb F.HUB_IRQ_CFG_EN_A 0) 0 (s.gf F.HUB_IRQ_CFG_VEC_A 0) s.noted h)
  unfold State.settle
  simp only
  split
  · exact h
  · split
    · exact List.mem_cons_of_mem _ h3
    · exact h3

/-- What has left the part before the signals of R465 has left it. -/
theorem mem_ending_out {s t : State} {e : Emit} (h : e ∈ t.out) : e ∈ (s.ending t).out := mem_settle_out h

end Sys2Proof.Machine

namespace Sys2Proof.Machine

/-! ### Words of the map and their rows -/

theorem mapped_word (n : WNum) : mapped (4 * n.val) = true := by
  simp only [mapped, Bool.and_eq_true, decide_eq_true_eq]
  omega

theorem findRow_mem {off : Nat} {l : List RegRow} {p : RegRow × Nat} (h : findRow off l = some p) : p.1 ∈ l := by
  induction l with
  | nil => exact absurd h (by simp [findRow])
  | cons r l ih =>
    simp only [findRow] at h
    by_cases hr : r.off ≤ off ∧ (if r.stride = 0 then off = r.off
        else (off - r.off) % r.stride = 0 ∧ (off - r.off) / r.stride < r.count)
    · rw [if_pos hr] at h
      obtain rfl := Option.some.inj h
      exact List.mem_cons_self
    · rw [if_neg hr] at h
      exact List.mem_cons_of_mem _ (ih h)

/-- The row at an address is one of its block's kind. -/
theorem rowAt_mem {a : Nat} {k : Blk} {b n : Nat} {row : RegRow} (h : rowAt a = some (k, b, row, n)) :
    row ∈ rowsOf k ∧ place a = some (k, b) := by
  unfold rowAt at h
  split at h
  · rename_i k' b' hp
    obtain ⟨p, hf, he⟩ := Option.map_eq_some_iff.1 h
    cases he
    exact ⟨findRow_mem hf, hp⟩
  · exact absurd h (by simp)

/-- Below the region blocks stand the Hub's and the Sett's registers alone. -/
theorem place_hub {a : Nat} {k : Blk} {b : Nat} (ha : a < 0x100_0000) (h : place a = some (k, b)) :
    k ≠ .ac ∧ k ≠ .cg ∧ k ≠ .pg ∧ k ≠ .le ∧ k ≠ .fab ∧ k ≠ .rgn := by
  unfold place at h
  split at h
  · simp only [Option.some.injEq, Prod.mk.injEq] at h
    obtain ⟨rfl, -⟩ := h
    split <;> decide
  · split at h
    · cases h; decide
    · exact absurd h (by simp)

theorem rowAt_hub {a : Nat} {k : Blk} {b n : Nat} {row : RegRow} (ha : a < 0x100_0000)
    (h : rowAt a = some (k, b, row, n)) : k ≠ .ac ∧ k ≠ .cg ∧ k ≠ .pg ∧ k ≠ .le ∧ k ≠ .fab ∧ k ≠ .rgn :=
  place_hub ha (rowAt_mem h).2

theorem sharedAt_hub {a : Nat} (ha : a < 0x100_0000) : sharedAt a = a := if_neg fun h => absurd h.1 (by omega)

/-- A word that is half of a 64-bit register or RC has a row, so it lies in no memory. -/
theorem readWord_of_half {s : State} {a : Reader} {addr : Nat} {ev : Word} (hm : mapped addr = true)
    (hl : addr < 0x14_0000 ∨ 0x15_0000 ≤ addr) :
    readWord s a addr ev = match halfAt addr with
      | 1 => readLow s a addr
      | 2 => readHigh s a addr
      | _ => match rowAt addr with
        | some (k, _, row, n) => readRow s a addr ev k row.off n
        | none => (viewWord s a addr, s) := by
  have h0 : (!mapped addr || decide (0x14_0000 ≤ addr ∧ addr < 0x15_0000)) = false := by
    simp only [hm, Bool.not_true, Bool.false_or, decide_eq_false_iff_not]
    omega
  simp only [readWord, h0]
  rfl

/-! ### What a read leaves of the sideband target -/

theorem rowRepair_host (s : State) (r : Rgn) (b row : Nat) : (rowRepair s r b row).host = s.host := by
  unfold rowRepair
  extract_lets f n x s1
  by_cases h : n = 0
  · simp -implicitDefEqProofs [h]
  · simp -implicitDefEqProofs [h, s1]

theorem parityError_host (s : State) (r : Rgn) (b w port : Nat) : (parityError s r b w port).host = s.host := by
  unfold parityError
  extract_lets f row s1 x n s2
  have h2 : s2.host = s.host := by simp -implicitDefEqProofs [s2, s1]
  by_cases h : n = 3
  · rw [if_pos h, rowRepair_host, h2]
  · rw [if_neg h, h2]

theorem entryCheck_host (s : State) (r : Rgn) (q port : Nat) : (entryCheck s r q port).host = s.host := by
  unfold entryCheck
  split
  · rfl
  · extract_lets m
    split
    · exact parityError_host _ _ _ _ _
    · rfl

theorem qcTake_host (s : State) (r q : Nat) : (qcTake s r q).host = s.host := by
  unfold qcTake
  simp only
  split <;> rfl

theorem qcPop_host (s : State) (r : Rgn) (q : Nat) : (qcPop s r q).2.host = s.host := by
  unfold qcPop
  extract_lets f
  split
  · rfl
  · split
    · simp -implicitDefEqProofs
    · exact (qcTake_host _ _ _).trans (entryCheck_host _ _ _ _)

theorem copyRead_host (s : State) (r : Rgn) (same : Bool) : (copyRead s r same).2.host = s.host := by
  unfold copyRead
  simp only
  split
  · exact parityError_host _ _ _ _ _
  · rfl

theorem resultHigh_host (s : State) (a : Reader) (r g : Nat) : (resultHigh s a r g).2.host = s.host := by
  unfold resultHigh
  simp only
  split <;> rfl

theorem readLow_host (s : State) (a : Reader) (addr : Nat) : (readLow s a addr).2.host = s.host := by
  unfold readLow
  simp only
  split
  · split
    · rfl
    · split
      · exact qcPop_host _ _ _
      · split
        · exact copyRead_host _ _ _
        · rfl
  · rfl

theorem readHigh_host (s : State) (a : Reader) (addr : Nat) : (readHigh s a addr).2.host = s.host := by
  unfold readHigh
  extract_lets isResult
  cases isResult
  · simp only [Bool.false_eq_true, if_false]
    split <;> rfl
  · exact resultHigh_host _ _ _ _

theorem readClears_host (s : State) (addr : Nat) (ev : Word) : (readClears s addr ev).host = s.host := by
  unfold readClears
  split
  · simp only
    split <;> rfl
  · rfl

theorem accHeld_host (s : State) (a : Reader) (n w : Nat) : (accHeld s a n w).1.host = s.host := by
  unfold accHeld
  simp only
  split <;> rfl

theorem uregRead_host (s : State) (a : Reader) (r n : Nat) : (uregRead s a r n).2.host = s.host := by
  unfold uregRead
  simp only
  split <;> rfl

theorem readRow_host (s : State) (a : Reader) (addr : Nat) (ev : Word) (k : Blk) (o n : Nat) :
    (readRow s a addr ev k o n).2.host = s.host := by
  unfold readRow
  split
  · exact uregRead_host _ _ _ _
  · split
    · rfl
    · split
      · exact accHeld_host _ _ _ _
      · split
        · exact accHeld_host _ _ _ _
        · exact readClears_host _ _ _

/-- No read touches the host interfaces: their ports, the sideband target, the TAP, the balls. -/
theorem readWord_host (s : State) (a : Reader) (addr : Nat) (ev : Word) : (readWord s a addr ev).2.host = s.host := by
  unfold readWord
  split
  · rfl
  · split
    · exact readLow_host _ _ _
    · exact readHigh_host _ _ _
    · split
      · exact readRow_host _ _ _ _ _ _ _
      · rfl

end Sys2Proof.Machine

namespace Sys2Proof.Machine

/-! ### Reads answered to a path -/

/-- A read by a path that reaches the word. -/
theorem readTo_of_reaches {s : State} {a : Reader} {addr : Nat} (ev : Word) (h : reaches s a addr = true) :
    readTo s a addr ev = (readWord s a addr ev).2.answer a ((readWord s a addr ev).1.setWidth 64) := if_pos h

@[simp] theorem answer_resp (s : State) (a : Reader) (v : DWord) : (s.answer a v).resp.get a.code = some v :=
  Tab.get_set_self _ _ _

/-- The rows that a read serves in a way of their own have no RC field. -/
theorem row_with_own_read_has_no_rc :
    (∀ row ∈ rowsOf .fab, row.off = R.FAB_UREGn.off → accMask .rc row.fields = 0) ∧
    (∀ row ∈ rowsOf .sett, row.off = R.SETT_ACCn_C0.off ∨ row.off = R.SETT_ACCn_C1.off ∨ row.off = R.SETT_ACCn_C2.off →
      accMask .rc row.fields = 0) := by
  decide +kernel

/-- A read of a register with RC fields answers its word and clears them but for the events of the same cycle. -/
theorem readRow_of_rc {s : State} {a : Reader} {addr : Nat} {ev : Word} {k : Blk} {row : RegRow} (n : Nat)
    (hrow : row ∈ rowsOf k) (hrc : accMask .rc row.fields ≠ 0) :
    readRow s a addr ev k row.off n = (viewWord s a addr, readClears s addr ev) := by
  obtain ⟨hfab, hsett⟩ := row_with_own_read_has_no_rc
  have h1 : ¬(k = .fab ∧ row.off = R.FAB_UREGn.off) := fun ⟨hk, ho⟩ => hrc (hfab row (hk ▸ hrow) ho)
  have h2 : ¬(k = .sett ∧ row.off = R.SETT_ACCn_C0.off) := fun ⟨hk, ho⟩ => hrc (hsett row (hk ▸ hrow) (.inl ho))
  have h3 : ¬(k = .sett ∧ row.off = R.SETT_ACCn_C1.off) := fun ⟨hk, ho⟩ => hrc (hsett row (hk ▸ hrow) (.inr (.inl ho)))
  have h4 : ¬(k = .sett ∧ row.off = R.SETT_ACCn_C2.off) := fun ⟨hk, ho⟩ => hrc (hsett row (hk ▸ hrow) (.inr (.inr ho)))
  rw [readRow, if_neg h1, if_neg h2, if_neg h3, if_neg h4]

/-- The RC fields after a read are the events of its cycle. -/
theorem afterRead_rc (fs : List FldRow) (ev w : Word) : afterRead fs ev w &&& accMask .rc fs = ev &&& accMask .rc fs := by
  ext i hi
  simp only [afterRead, BitVec.getElem_and, BitVec.getElem_or, BitVec.getElem_not]
  cases (accMask .rc fs)[i] <;> simp

/-- The word of a register after a read with RC fields. -/
theorem readClears_word {s : State} {addr : Nat} {ev : Word} {k : Blk} {b m : Nat} {row : RegRow}
    (h : rowAt addr = some (k, b, row, m)) :
    ((readClears s addr ev).regs.tab k).get addr = afterRead row.fields ev ((s.regs.tab k).get addr) := by
  simp only [readClears, h]
  split <;> simp

theorem readWord_of_rc {s : State} {a : Reader} {addr : Nat} {ev : Word} {k : Blk} {b m : Nat} {row : RegRow}
    (hm : mapped addr = true) (hl : addr < 0x14_0000 ∨ 0x15_0000 ≤ addr) (hh : halfAt addr = 0)
    (hr : rowAt addr = some (k, b, row, m)) (hrc : accMask .rc row.fields ≠ 0) :
    readWord s a addr ev = (viewWord s a addr, readClears s addr ev) := by
  rw [readWord_of_half hm hl]
  simp only [hh, hr]
  exact readRow_of_rc m (rowAt_mem hr).1 hrc

/-! ### Halves of a 64-bit register below the region blocks -/

theorem readLow_hub {s : State} {a : Reader} {addr : Nat} (ha : addr < 0x100_0000) :
    readLow s a addr = (viewWord s a addr, holdHigh s a addr (viewWord s a (addr + 4))) := by
  simp only [readLow]
  split
  · rename_i k b row n hr
    obtain ⟨-, hcg, -, -, hfab, -⟩ := rowAt_hub ha hr
    simp [hcg, hfab]
  · rfl

theorem readHigh_of_held {s : State} {a : Reader} {addr : Nat} {v : Word} (ha : addr < 0x100_0000)
    (hv : s.hold.get (accKey a addr) = some v) :
    readHigh s a addr = (v, { s with hold := s.hold.set (accKey a addr) none }) := by
  unfold readHigh
  cases hr : rowAt addr with
  | none => simp [hv]
  | some p =>
    obtain ⟨k, b, row, n⟩ := p
    obtain ⟨-, hcg, -⟩ := rowAt_hub ha hr
    simp [hv, hcg]

/-- A word that is a half has a row, and so lies in none of the memories below the region blocks. -/
theorem not_memory_of_half {addr : Nat} (ha : addr < 0x100_0000) (hh : halfAt addr ≠ 0) :
    addr < 0x14_0000 ∨ 0x15_0000 ≤ addr := by
  by_contra hc
  have hp : place addr = none := by
    rw [place, if_neg (by omega), if_pos ha, if_neg (by omega)]
  refine hh ?_
  have h1 : ¬ 0x100_0000 ≤ addr := by omega
  simp [halfAt, h1, rowAt, hp]

theorem readWord_low_hub {s : State} {a : Reader} {addr : Nat} {ev : Word} (hm : mapped addr = true) (ha : addr < 0x100_0000)
    (hh : halfAt addr = 1) :
    readWord s a addr ev = (viewWord s a addr, holdHigh s a addr (viewWord s a (addr + 4))) := by
  rw [readWord_of_half hm (not_memory_of_half ha (by omega))]
  simp only [hh, readLow_hub ha]

theorem readWord_high_held {s : State} {a : Reader} {addr : Nat} {ev v : Word} (hm : mapped addr = true)
    (ha : addr < 0x100_0000) (hh : halfAt addr = 2) (hv : s.hold.get (accKey a addr) = some v) :
    readWord s a addr ev = (v, { s with hold := s.hold.set (accKey a addr) none }) := by
  rw [readWord_of_half hm (not_memory_of_half ha (by omega))]
  simp only [hh, readHigh_of_held ha hv]

/-- Settles O49: a register with RC fields is read by its row alone, which answers the word and clears the fields. -/
theorem readsWithEvents : Obligations.ReadsWithEvents := by
  unfold Obligations.ReadsWithEvents
  intro s a n ev k b m row hreach hmem hhalf hrow hrc
  have hread := readWord_of_rc (s := s) (a := a) (ev := ev) (mapped_word n) (by omega) hhalf hrow hrc
  apply ends_of_ending
  rw [readTo_of_reaches ev hreach, hread]
  refine ⟨by simp, ?_⟩
  rw [ending_regs]
  exact (congrArg (· &&& _) (readClears_word hrow)).trans (afterRead_rc _ _ _)

end Sys2Proof.Machine

namespace Sys2Proof.Machine

/-! ### Where a write of a word goes -/

theorem writeWord_of_row {s : State} {a : Reader} {addr : Nat} {v hw : Word} {k : Blk} {b m : Nat} {row : RegRow}
    (hm : mapped addr = true) (hl : addr < 0x14_0000 ∨ 0x18_0000 ≤ addr) (hh : halfAt addr = 0) (he : isLeWord addr = false)
    (hr : rowAt addr = some (k, b, row, m)) : writeWord s a addr v hw = writeRow s a addr v hw k row m := by
  have h1 : ¬(0x14_0000 ≤ addr ∧ addr < 0x18_0000) := by omega
  simp [writeWord, hm, h1, hh, he, hr]

/-- The registers of HUB_: where they stand, and that none has a rule of its own. -/
theorem rows_hub_facts : ∀ row ∈ rowsOf .hub, row.off < 0x1_0000 ∧ row.half = 0 := by decide +kernel

theorem writeHub_plain {s : State} {a : Reader} {o n : Nat} {v : Word} {f : State → State} (h : o < 0x1_0000) :
    writeHub s a o n v f = f s := by
  have hne : ∀ q : Nat, 0x1_0000 ≤ q → o ≠ q := fun q hq => by omega
  unfold writeHub
  simp (disch := decide) only [hne, or_false, if_false]

theorem place_hub_lt {a b : Nat} (h : place a = some (.hub, b)) : a < 0x1_0000 := by
  unfold place at h
  split at h
  · simp only [Option.some.injEq, Prod.mk.injEq] at h
    obtain ⟨h, -⟩ := h
    split at h <;> first | omega | exact absurd h (by decide)
  · split at h
    · split at h <;> simp at h
    · extract_lets o base at h
      repeat' split at h
      all_goals simp at h

/-- W1C bits set in the cycle of a write, over what the write left. -/
theorem rowEvents_word {s : State} {addr : Nat} {k : Blk} {row : RegRow} {hw : Word}
    (ha : addr < 0x100_0000) (hk : k ≠ .ac) :
    ((rowEvents s addr k row hw).regs.tab k).get addr = withEvents row.fields hw ((s.regs.tab k).get addr) := by
  unfold rowEvents
  simp only [hk, false_and, false_or]
  split
  · rename_i h
    simp [withEvents, h]
  · simp only [sharedAt_hub ha]
    split <;> simp

theorem rowWrite_word {s : State} {addr : Nat} {k : Blk} {fs : List FldRow} {v : Word} (ha : sharedAt addr = addr) :
    ((rowWrite s addr k fs v).regs.tab k).get addr = mergeFields (s.locked k addr) fs ((s.regs.tab k).get addr) v := by
  simp [rowWrite, ha]

theorem rowWrite_engines (s : State) (addr : Nat) (k : Blk) (fs : List FldRow) (v : Word) :
    (rowWrite s addr k fs v).engines = s.engines := rfl

/-- A write of a HUB_ register replaces it field by field and keeps the events of the same cycle. -/
theorem writeWord_hub {s : State} {a : Reader} {addr : Nat} {v hw : Word} {b m : Nat} {row : RegRow}
    (hm : mapped addr = true) (hr : rowAt addr = some (.hub, b, row, m)) :
    ((writeWord s a addr v hw).regs.tab .hub).get addr =
      withEvents row.fields hw (mergeFields false row.fields ((s.regs.tab .hub).get addr) v) := by
  obtain ⟨hmem, hplace⟩ := rowAt_mem hr
  obtain ⟨hoff, hhalf⟩ := rows_hub_facts row hmem
  have ha : addr < 0x1_0000 := place_hub_lt hplace
  have h0 : ¬ 0x100_0000 ≤ addr := by omega
  have hh : halfAt addr = 0 := by simp [halfAt, h0, hr, hhalf]
  have he : isLeWord addr = false := by simp [isLeWord, h0]
  rw [writeWord_of_row hm (by omega) hh he hr, writeRow, rowEvents_word (by omega) (by decide)]
  simp only [writeRowTo, writeHub_plain hoff]
  rw [rowWrite_word (sharedAt_hub (by omega))]
  rfl

/-! ### RGN_RDO_ADDR, a region register without a rule of its own -/

/-- The row of RGN_RDO_ADDR. -/
def rdoAddrRow : RegRow := ⟨0x20, 0x0, 1, 0, [⟨11, 0, .rw, [], false⟩]⟩

theorem rdoAddr_place : ∀ r : Rgn,
    let addr := R.RGN_RDO_ADDR.addr (rgB r) 0
    rowAt addr = some (.rgn, rgB r, rdoAddrRow, 0) ∧ mapped addr = true ∧ halfAt addr = 0 ∧ isLeWord addr = false ∧
      sharedAt addr = addr ∧ rgnAt addr = r ∧ 0x100_0000 ≤ addr := by
  decide +kernel

/-- A write of RGN_RDO_ADDR is made by the region's owner, field by field. -/
theorem writeWord_rdoAddr (s : State) (a : Reader) (r : Rgn) (v hw : Word) :
    writeWord s a (R.RGN_RDO_ADDR.addr (rgB r) 0) v hw =
      s.asOwner a r.val fun s => rowWrite s (R.RGN_RDO_ADDR.addr (rgB r) 0) .rgn rdoAddrRow.fields v := by
  obtain ⟨hrow, hmap, hhalf, hle, -, hrgn, hge⟩ := rdoAddr_place r
  have hw1c : hw &&& accMask .w1c rdoAddrRow.fields = 0 := by
    have : accMask .w1c rdoAddrRow.fields = 0 := by decide
    simp [this]
  rw [writeWord_of_row hmap (by omega) hhalf hle hrow, writeRow, rowEvents, if_pos (Or.inr hw1c)]
  simp only [writeRowTo, hrgn]
  rfl

@[simp] theorem started_regs (s t : State) (r : Nat) : (s.started t r).regs = t.regs := by
  unfold State.started
  split <;> rfl

@[simp] theorem started_engines (s t : State) (r : Nat) : (s.started t r).engines = t.engines := by
  unfold State.started
  split <;> rfl

theorem rowWrite_rdoAddr (s : State) (r : Rgn) (v : Word) :
    (rowWrite s (R.RGN_RDO_ADDR.addr (rgB r) 0) .rgn rdoAddrRow.fields v).gf F.RGN_RDO_ADDR_WORD (rgB r) = v.bits 11 0 := by
  obtain ⟨-, -, -, -, hsh, -, -⟩ := rdoAddr_place r
  have h := rowWrite_word (s := s) (k := .rgn) (fs := rdoAddrRow.fields) (v := v) hsh
  have hf : (rowWrite s (R.RGN_RDO_ADDR.addr (rgB r) 0) .rgn rdoAddrRow.fields v).gf F.RGN_RDO_ADDR_WORD (rgB r) =
      (mergeFields (s.locked .rgn (R.RGN_RDO_ADDR.addr (rgB r) 0)) rdoAddrRow.fields (s.rd R.RGN_RDO_ADDR (rgB r)) v).bits 11 0 :=
    congrArg (Word.bits · 11 0) h
  rw [hf]
  have hm : ∀ l w, mergeFields l rdoAddrRow.fields w v = w.setBits 11 0 (v.bits 11 0) := fun _ _ => rfl
  rw [hm, Word.bits_setBits_self _ _ _ _ (by omega)]
  exact Nat.mod_eq_of_lt (Word.bits_lt v 11 0)

/-- The owner's write sets WORD and leaves the engines. -/
theorem writeWord_rdoAddr_owner {s : State} {a : Reader} {r : Rgn} (v hw : Word) (h : s.mayWrite a r = true) :
    (writeWord s a (R.RGN_RDO_ADDR.addr (rgB r) 0) v hw).gf F.RGN_RDO_ADDR_WORD (rgB r) = v.bits 11 0 ∧
    (writeWord s a (R.RGN_RDO_ADDR.addr (rgB r) 0) v hw).engines = s.engines := by
  rw [writeWord_rdoAddr, State.asOwner, if_pos h]
  have hg := gf_congr (started_regs s (rowWrite s (R.RGN_RDO_ADDR.addr (rgB r) 0) .rgn rdoAddrRow.fields v) r)
    F.RGN_RDO_ADDR_WORD (rgB r) 0
  refine ⟨hg.trans (rowWrite_rdoAddr s r v), ?_⟩
  rw [started_engines, rowWrite_engines]

/-- A path that reaches a word of a region's block reaches the block. -/
theorem reaches_rgnBase {s : State} {a : Reader} {r : Rgn} (h : reaches s a (R.RGN_RDO_ADDR.addr (rgB r) 0) = true) :
    reaches s a (rgnBase r) = true := by
  have inner : ∀ q : Rgn, rgnBase q ≤ R.RGN_RDO_ADDR.addr (rgB r) 0 ∧ R.RGN_RDO_ADDR.addr (rgB r) 0 < rgnBase q + 0x10_0000 →
      rgnBase q ≤ rgnBase r ∧ rgnBase r < rgnBase q + 0x10_0000 := by
    intro q
    simp only [R.RGN_RDO_ADDR, Reg.addr, rgB, rgnBase]
    omega
  unfold reaches at h ⊢
  cases a with
  | le q => exact decide_eq_true (inner q (of_decide_eq_true h))
  | fab q => exact decide_eq_true (inner q (of_decide_eq_true h))
  | hla | hlb | sb | jtag => simpa using h

/-- A write refused for want of ownership leaves every register but RGN_REJ and RGN_EVT. -/
theorem ownerReject_spec (s : State) (r : Nat) :
    (s.ownerReject r).rd R.RGN_RDO_ADDR (rgB r) = s.rd R.RGN_RDO_ADDR (rgB r) ∧
    (s.ownerReject r).gf F.RGN_REJ_COUNT (rgB r) = satInc 16 (s.gf F.RGN_REJ_COUNT (rgB r)) ∧
    (s.ownerReject r).gb F.RGN_EVT_WR_REJ (rgB r) = true := by
  have hsat : ∀ n, satInc 16 n % 2 ^ 16 = satInc 16 n := fun n => by simp only [satInc]; split <;> omega
  refine ⟨?_, ?_, ?_⟩
  · simp (disch := decide) only [State.ownerReject, rd_eq_word, bump_regs, sb_regs, Regs.word_setFld_off]
  · simp (disch := decide) only [State.ownerReject, gf_eq_fld, bump_regs, sb_regs, Regs.fld_setFld_off, Regs.fld_setFld_self]
    exact hsat _
  · simp (disch := decide) only [State.ownerReject, gb_eq_fld, bump_regs, sb_regs, Regs.fld_setFld_off, Regs.fld_setFld_self]
    rfl

/-- Settles O8: HUB_ registers and RGN_RDO_ADDR have no rule of their own; the latter takes a write from its owner alone. -/
theorem fieldAccess : Obligations.FieldAccess := by
  unfold Obligations.FieldAccess
  refine ⟨?_, ?_, ?_⟩
  · intro s a n v hw b m row hreach hrow
    apply ends_of_ending
    rw [ending_regs, writeFrom, if_pos hreach]
    exact writeWord_hub (mapped_word n) hrow
  · intro s a r n v hw hn hreach hown
    apply ends_of_ending
    rw [ending_gf, writeFrom, if_pos hreach, hn]
    exact (writeWord_rdoAddr_owner v hw hown).1
  · intro s a r n v hw hn hreach hown
    apply ends_of_ending
    rw [hn] at hreach
    rw [ending_gf, ending_gb, ending_rd, hn, writeFrom, if_pos hreach, writeWord_rdoAddr, State.asOwner, if_neg (by simp [hown]),
      State.byPath, if_pos (reaches_rgnBase hreach)]
    exact ownerReject_spec s r

end Sys2Proof.Machine

namespace Sys2Proof.Machine

/-! ### 64-bit registers of the Hub window (R19, R20) -/

/-- A write of a low half is staged for the writer. -/
theorem writeWord_low_hub {s : State} {a : Reader} {addr : Nat} {v hw : Word} (hm : mapped addr = true)
    (ha : addr < 0x100_0000) (hh : halfAt addr = 1) (hw64 : wideWritable addr = true) :
    writeWord s a addr v hw = { s with stage := s.stage.set (accKey a (addr + 4)) (some v) } := by
  have hp : ¬(0x14_0000 ≤ addr ∧ addr < 0x18_0000) := by
    intro hc
    refine absurd hh ?_
    have h1 : ¬ 0x100_0000 ≤ addr := by omega
    have hpl : place addr = none := by rw [place, if_neg (by omega), if_pos ha, if_neg (by omega)]
    simp [halfAt, h1, rowAt, hpl]
  simp [writeWord, hm, hp, hh, stageLow, hw64, byOwner, ha]

theorem setBits_all (w v : Word) : w.setBits 31 0 (v.bits 31 0) = v := by
  apply BitVec.eq_of_getLsbD_eq
  intro i hi
  rw [Word.setBits_getLsbD _ _ _ _ _ hi, if_pos (by omega), Word.bits_testBit]
  simp [hi]

theorem lo_ofHalves (lo hi : Word) : (DWord.ofHalves lo hi).lo = lo := by
  apply BitVec.eq_of_getLsbD_eq
  intro i hi32
  simp only [DWord.lo, DWord.ofHalves, BitVec.getLsbD_setWidth, BitVec.getLsbD_append]
  simp [hi32]

theorem hi_ofHalves (lo hi : Word) : (DWord.ofHalves lo hi).hi = hi := by
  apply BitVec.eq_of_getLsbD_eq
  intro i hi32
  simp only [DWord.hi, DWord.ofHalves, BitVec.getLsbD_setWidth, BitVec.getLsbD_ushiftRight, BitVec.getLsbD_append]
  simp [hi32, show ¬ 32 + i < 32 by omega]

/-- The rows of CFG_HOST_ADDR's halves. -/
def hostAddrRow (off half : Nat) : RegRow := ⟨off, 0x0, 1, half, [⟨31, 0, .rw, [], false⟩]⟩

theorem hostAddr_rows : rowAt 0x10028 = some (.cfg, 0, hostAddrRow 0x10028 1, 0) ∧
    rowAt 0x1002C = some (.cfg, 0, hostAddrRow 0x1002C 2, 0) ∧ halfAt 0x1002C = 2 ∧ wideWritable 0x10028 = true := by
  decide +kernel

theorem rowWrite_hostAddr (s : State) (addr off half : Nat) (v : Word) (ha : addr < 0x100_0000) :
    rowWrite s addr .cfg (hostAddrRow off half).fields v =
      { s with regs := { s.regs with cfg := s.regs.cfg.set addr v } } := by
  have hm : ∀ l w, mergeFields l (hostAddrRow off half).fields w v = v := fun _ w => setBits_all w v
  simp only [rowWrite, sharedAt_hub ha, hm]
  rfl

/-- A write of the high half of CFG_HOST_ADDR replaces all 64 bits with the staged low half. -/
theorem writeWord_hostAddr_high {s : State} {a : Reader} {lo : Word} (v hw : Word)
    (hst : s.stage.get (accKey a 0x1002C) = some lo) :
    writeWord s a 0x1002C v hw = { s with
      stage := s.stage.set (accKey a 0x1002C) none,
      regs := { s.regs with cfg := (s.regs.cfg.set 0x10028 lo).set 0x1002C v } } := by
  obtain ⟨hlo, hhi, hhalf, hwide⟩ := hostAddr_rows
  have hwr : ∀ u : State, wideWrite u a 0x10028 (DWord.ofHalves lo v) =
      { u with regs := { u.regs with cfg := (u.regs.cfg.set 0x10028 lo).set 0x1002C v } } := by
    intro u
    have hne : (0x10028 : Nat) ≠ R.PMAP_ROOT_A.off ∧ (0x10028 : Nat) ≠ R.PMAP_ROOT_B.off ∧ (0x10028 : Nat) ≠ R.HERD_TSET.off := by
      decide
    simp only [wideWrite, hne.1, hne.2.1, hne.2.2, if_false, wideRow, hlo, hhi, lo_ofHalves, hi_ofHalves]
    rw [rowWrite_hostAddr _ _ _ _ _ (by decide), rowWrite_hostAddr _ _ _ _ _ (by decide)]
    rfl
  have hmap : mapped 0x1002C = true := by decide
  simp only [writeWord, hmap, hhalf, writeHigh, Nat.reduceSub, hwide, hst, if_true, hwr]
  rfl

/-! ### HUB_IRQ_EN, a register at which every outer path is shown -/

theorem irqEn_row : rowAt 8 = some (.hub, 0, (rows_hub.getD 2 ⟨0, 0, 0, 0, []⟩), 0) ∧
    fieldsOf R.HUB_IRQ_EN 0 = (rows_hub.getD 2 ⟨0, 0, 0, 0, []⟩).fields := by
  decide +kernel

/-- A write at address 8 is a plain write of HUB_IRQ_EN. -/
theorem writeWord_irqEn (s : State) (a : Reader) (v : Word) : writeWord s a 8 v 0 = s.plainWrite R.HUB_IRQ_EN 0 0 v := by
  obtain ⟨hrow, hfields⟩ := irqEn_row
  have hh : halfAt 8 = 0 ∧ isLeWord 8 = false := by decide +kernel
  have hev : (0 : Word) &&& accMask .w1c (rows_hub.getD 2 ⟨0, 0, 0, 0, []⟩).fields = 0 := by decide
  rw [writeWord_of_row (by decide) (by decide) hh.1 hh.2 hrow, writeRow, rowEvents, if_pos (Or.inr hev)]
  simp only [writeRowTo]
  rw [writeHub_plain (by decide), rowWrite, sharedAt_hub (by decide), State.plainWrite, State.merged, hfields]
  rfl

@[simp] theorem plainWrite_rd_self (s : State) (r : Reg) (b n : Nat) (v : Word) :
    (s.plainWrite r b n v).rd r b n = s.merged r b n v := rd_wr_self _ _ _ _ _

theorem readWord_irqEn (s : State) (a : Reader) :
    readWord s a 8 0 = (viewWord s a 8, readClears s 8 0) := by
  obtain ⟨hrow, -⟩ := irqEn_row
  have hh : halfAt 8 = 0 := by decide +kernel
  rw [readWord_of_half (by decide) (by decide)]
  simp only [hh, hrow, readRow]
  rfl

/-! ### The sideband target (R467 to R469) -/

/-- A transaction is taken while the Hub runs and no PEC byte is asked for; it abandons the result not yet read. -/
theorem sbCommand_taken {s : State} {pec : Bool} {f : State → State} (hon : hubOn s = true)
    (hpec : s.gb F.HOST_SB_CFG_PEC 0 = false) :
    sbCommand s pec f = s.after (f (s.setSb { s.host.sb with result := none })) := by
  simp [sbCommand, hon, hpec]

/-- A taken WRITE at address 8 is a plain write of HUB_IRQ_EN, and reports status 0. -/
theorem execWrite_irqEn {s : State} {v : Word} {pec : Bool} (hon : hubOn s = true) (hpec : s.gb F.HOST_SB_CFG_PEC 0 = false) :
    execWrite 8 v pec s =
      s.after (sbResult ((s.setSb { s.host.sb with result := none, addr := 8 }).plainWrite R.HUB_IRQ_EN 0 0 v) false 0 0) := by
  have h8 : ¬ (8 : Word).toNat % 4 ≠ 0 := by decide
  rw [execWrite, sbCommand_taken hon hpec, if_neg h8]
  exact congrArg (fun t => s.after (sbResult t false 0 0)) (writeWord_irqEn _ .sb v)

/-- An aligned read answers the word and makes its address the last one. -/
theorem sbRead_aligned {s : State} {addr : Word} (h : addr.toNat % 4 = 0) :
    (sbRead s addr).host.sb = { s.host.sb with
      addr := addr, result := some (true, 0, (readWord (s.setSb { s.host.sb with addr := addr }) .sb addr.toNat 0).1) } := by
  have hsb : ∀ u : State, ∀ w, (sbResult u true 0 w).host.sb = { u.host.sb with result := some (true, 0, w) } := fun _ _ => rfl
  simp only [sbRead, h, ne_eq, not_true, if_false]
  rw [hsb, readWord_host]
  rfl

/-! ### BAR0 (R456, R460) -/

theorem execBar0Read_word {s : State} {p : Fin 2} (hup : s.linkUp p = true) (hd : s.gb F.HOST_p_STAT_D3HOT 0 p = false) :
    execBar0Read p 8 4 s = s.after ((readWord s (portReader p) 8 0).2.emit
      (.completion p 0 (wordBytes (readWord s (portReader p) 8 0).1))) := by
  simp only [execBar0Read, hup, hd]
  rfl

theorem execBar0Write_word {s : State} {p : Fin 2} (b0 b1 b2 b3 : BitVec 8) (hup : s.linkUp p = true)
    (hd : s.gb F.HOST_p_STAT_D3HOT 0 p = false) :
    execBar0Write p 8 [some b0, some b1, some b2, some b3] s =
      s.after (writeWord s (portReader p) 8 (b3 ++ b2 ++ b1 ++ b0) 0) := by
  have hfull : ¬((8 : Fin 33554432).val % 4 ≠ 0 ∨ [some b0, some b1, some b2, some b3].length % 4 ≠ 0 ∨
      [some b0, some b1, some b2, some b3] = [] ∨ ([some b0, some b1, some b2, some b3].any (·.isNone)) = true) := by
    simp
  have hlen : ¬ 128 < [some b0, some b1, some b2, some b3].length := by simp
  have hon : ¬((!s.linkUp p || s.gb F.HOST_p_STAT_D3HOT 0 p) = true) := by simp [hup, hd]
  rw [execBar0Write, if_neg hon, if_neg hlen, if_neg hfull]
  simp [toWords, List.range_succ]

/-! ### JTAG (R470) -/

/-- The TAP's data register takes an outcome. -/
def State.setTapDr (s : State) (d : BitVec 66) : State :=
  { s with host := { s.host with jtag := { s.host.jtag with dr := d } } }

/-- A scan of REGACC with OP 2 writes its word at its address, after what Capture-DR took has left. -/
theorem execRegacc_write {s : State} (v : Word) (htap : tapOn s = true) (hon : hubOn s = true) :
    execRegacc (BitVec.ofNat 66 (2 ^ 65 + 8 * 2 ^ 32 + v.toNat)) s =
      s.after ((writeWord ((tapLoad s .regacc).emit (.jtag s.host.jtag.dr)) .jtag 8 v 0).setTapDr 0) := by
  have hv : v.toNat < 2 ^ 32 := v.isLt
  have hdr : (BitVec.ofNat 66 (2 ^ 65 + 8 * 2 ^ 32 + v.toNat)).toNat = 2 ^ 65 + 8 * 2 ^ 32 + v.toNat := by
    rw [BitVec.toNat_ofNat]
    exact Nat.mod_eq_of_lt (by omega)
  have hop : (2 ^ 65 + 8 * 2 ^ 32 + v.toNat) / 2 ^ 64 = 2 := by omega
  have haddr : (2 ^ 65 + 8 * 2 ^ 32 + v.toNat) / 2 ^ 32 % 2 ^ 32 = 8 := by omega
  have hdata : (BitVec.ofNat 66 (2 ^ 65 + 8 * 2 ^ 32 + v.toNat)).setWidth 32 = v := by
    apply BitVec.eq_of_toNat_eq
    rw [BitVec.toNat_setWidth, hdr]
    omega
  simp only [execRegacc, hdr, hop, haddr, hdata, htap, hon]
  rfl

theorem tapLoad_regs (s : State) (i : TapInstr) : (tapLoad s i).regs = s.regs := by
  unfold tapLoad
  split <;> rfl

/-- What a write would leave in a HUB_ register depends on the register map alone. -/
theorem merged_irqEn_congr {s t : State} (h : t.regs = s.regs) (v : Word) :
    t.merged R.HUB_IRQ_EN 0 0 v = s.merged R.HUB_IRQ_EN 0 0 v := by
  simp only [State.merged, rd_congr h, R.HUB_IRQ_EN, State.locked]

/-! ### A region's engine and fabric at RGN_RDO_ADDR (R246, R294) -/

theorem rdoAddr_eq (r : Rgn) : rgnBase r.val + 0xF_0020 = R.RGN_RDO_ADDR.addr (rgB r) 0 := by
  simp only [Reg.addr, R.RGN_RDO_ADDR, rgB]

theorem reaches_own_rdoAddr (s : State) (r : Rgn) :
    reaches s (.le r) (R.RGN_RDO_ADDR.addr (rgB r) 0) = true ∧ reaches s (.fab r) (R.RGN_RDO_ADDR.addr (rgB r) 0) = true := by
  rw [← rdoAddr_eq]
  constructor <;> exact decide_eq_true (by omega)

theorem execCwrComplete_rdoAddr {s : State} {r : Rgn} {v : Word} {l : List (Nat × Word)}
    (h : (s.eng r).cwr = (0xF_0020, v) :: l) :
    execCwrComplete r s = s.after (writeWord (s.setEng r { s.eng r with cwr := l }) (.le r)
      (R.RGN_RDO_ADDR.addr (rgB r) 0) v 0) := by
  unfold execCwrComplete
  simp only [h, rdoAddr_eq]
  rw [writeFrom, if_pos (reaches_own_rdoAddr _ r).1]

theorem execRegionRegisterPort_rdoAddr {s : State} {r : Rgn} {v : Word} (h : s.clk r = 0) :
    execRegionRegisterPort r 0x3C008 (some v) s =
      s.after ((writeWord s (.fab r) (R.RGN_RDO_ADDR.addr (rgB r) 0) v 0).emit (.portAck r)) := by
  have haddr : rgnBase r.val + 4 * (0x3C008 : Fin 262144).val = R.RGN_RDO_ADDR.addr (rgB r) 0 := rdoAddr_eq r
  unfold execRegionRegisterPort
  simp only [haddr, h, ne_eq, not_true, if_false]
  rw [writeFrom, if_pos (reaches_own_rdoAddr s r).2]

/-! ### The clauses of R18 to R20, path by path -/

theorem readLowHalf_ends {s : State} {a : Reader} {n : WNum} (hreach : reaches s a (4 * n) = true) (hhalf : halfAt (4 * n) = 1)
    (haddr : 4 * n.val < 0x100_0000) :
    Ends (execReadLowHalf a n s) fun t => t.resp.get a.code = some ((viewWord s a (4 * n)).setWidth 64) ∧
      t.hold.get (accKey a (4 * n + 4)) = some (viewWord s a (4 * n + 4)) := by
  apply ends_of_ending
  rw [readTo_of_reaches 0 hreach, readWord_low_hub (mapped_word n) haddr hhalf, ending_resp, ending_hold]
  exact ⟨answer_resp _ _ _, Tab.get_set_self _ _ _⟩

theorem readHighHalf_ends {s : State} {a : Reader} {n : WNum} {v : Word} (hreach : reaches s a (4 * n) = true)
    (hhalf : halfAt (4 * n) = 2) (haddr : 4 * n.val < 0x100_0000) (hheld : s.hold.get (accKey a (4 * n)) = some v) :
    Ends (execReadHighHalf a n s) fun t => t.resp.get a.code = some (v.setWidth 64) ∧ t.hold.get (accKey a (4 * n)) = none := by
  apply ends_of_ending
  rw [readTo_of_reaches 0 hreach, readWord_high_held (mapped_word n) haddr hhalf hheld, ending_resp, ending_hold]
  exact ⟨answer_resp _ _ _, Tab.get_set_self _ _ _⟩

theorem writeLowHalf_ends {s : State} {a : Reader} {n : WNum} (v : Word) (hreach : reaches s a (4 * n) = true)
    (hhalf : halfAt (4 * n) = 1) (haddr : 4 * n.val < 0x100_0000) (hwide : wideWritable (4 * n) = true) :
    Ends (execWriteLowHalf a n v s) fun t => t.stage.get (accKey a (4 * n + 4)) = some v ∧ t.regs = s.regs := by
  apply ends_of_ending
  rw [writeFrom, if_pos hreach, writeWord_low_hub (mapped_word n) haddr hhalf hwide, ending_stage, ending_regs]
  exact ⟨Tab.get_set_self _ _ _, rfl⟩

theorem writeHighHalf_hostAddr_ends {s : State} {a : Reader} {lo : Word} (v : Word) (hreach : reaches s a 0x1002C = true)
    (hstaged : s.stage.get (accKey a 0x1002C) = some lo) :
    Ends (execWriteHighHalf a 0x400B v s) fun t =>
      t.rd64 R.CFG_HOST_ADDR 0 = DWord.ofHalves lo v ∧ t.stage.get (accKey a 0x1002C) = none := by
  apply ends_of_ending
  have hn : 4 * (0x400B : WNum).val = 0x1002C := rfl
  rw [hn, writeFrom, if_pos hreach, writeWord_hostAddr_high v 0 hstaged, ending_stage]
  refine ⟨?_, Tab.get_set_self _ _ _⟩
  simp only [State.rd64, ending_regs]
  exact congrArg₂ DWord.ofHalves ((Tab.get_set_ne _ _ (by decide)).trans (Tab.get_set_self _ _ _)) (Tab.get_set_self _ _ _)

theorem sbRead_ends {s : State} {addr : Word} {pec : Bool} (hon : hubOn s = true) (hpec : s.gb F.HOST_SB_CFG_PEC 0 = false)
    (halign : addr.toNat % 4 = 0) :
    Ends (execRead addr pec s) fun t => t.host.sb.result =
      some (true, 0, (readWord (s.setSb { s.host.sb with result := none, addr := addr }) .sb addr.toNat 0).1) ∧
      t.host.sb.addr = addr := by
  rw [execRead, sbCommand_taken hon hpec]
  apply ends_of_ending
  rw [ending_host_sb, sbRead_aligned halign]
  exact ⟨rfl, rfl⟩

theorem sbWrite_ends {s : State} (v : Word) {pec : Bool} (hon : hubOn s = true) (hpec : s.gb F.HOST_SB_CFG_PEC 0 = false) :
    Ends (execWrite 8 v pec s) fun t => t.host.sb.result = some (false, 0, 0) ∧ t.rd R.HUB_IRQ_EN 0 = s.merged R.HUB_IRQ_EN 0 0 v := by
  rw [execWrite_irqEn hon hpec]
  apply ends_of_ending
  rw [ending_host_sb, ending_rd]
  exact ⟨rfl, plainWrite_rd_self _ _ _ _ _⟩

theorem sbReadNext_ends {s : State} {pec : Bool} (hon : hubOn s = true) (hpec : s.gb F.HOST_SB_CFG_PEC 0 = false)
    (halign : s.host.sb.addr.toNat % 4 = 0) :
    Ends (execReadNext pec s) fun t => t.host.sb.addr = s.host.sb.addr + 4 := by
  rw [execReadNext, sbCommand_taken hon hpec]
  apply ends_of_ending
  have h4 : (s.host.sb.addr + 4).toNat % 4 = 0 := by
    rw [BitVec.toNat_add]
    have : (4 : Word).toNat = 4 := rfl
    omega
  rw [ending_host_sb]
  exact congrArg SbS.addr (sbRead_aligned h4)

theorem statusRead_ends {s : State} (hon : hubOn s = true) (hres : s.host.sb.result = none)
    (hpec : s.gb F.HOST_SB_CFG_PEC 0 = false) : Ends (execStatusRead s) fun t => Emit.sideband [0, 0, 0, 0, 4] ∈ t.out := by
  apply ends_of_ending
  apply mem_ending_out
  simp only [hon, hres, hpec]
  exact List.mem_cons_self

theorem regacc_ends {s : State} (v : Word) (htap : tapOn s = true) (hon : hubOn s = true) :
    Ends (execRegacc (BitVec.ofNat 66 (2 ^ 65 + 8 * 2 ^ 32 + v.toNat)) s) fun t =>
      t.rd R.HUB_IRQ_EN 0 = s.merged R.HUB_IRQ_EN 0 0 v ∧ Emit.jtag s.host.jtag.dr ∈ t.out := by
  rw [execRegacc_write v htap hon, writeWord_irqEn]
  apply ends_of_ending
  refine ⟨?_, mem_ending_out List.mem_cons_self⟩
  rw [ending_rd, ← merged_irqEn_congr (tapLoad_regs s .regacc) v]
  exact plainWrite_rd_self _ _ _ _ _

theorem bar0Read_ends {s : State} {p : Fin 2} (hup : s.linkUp p = true) (hd : s.gb F.HOST_p_STAT_D3HOT 0 p = false) :
    Ends (execBar0Read p 8 4 s) fun t => Emit.completion p 0 (wordBytes (viewWord s (portReader p) 8)) ∈ t.out := by
  rw [execBar0Read_word hup hd, readWord_irqEn]
  apply ends_of_ending
  exact mem_ending_out (mem_emit_out _ _)

theorem bar0Write_ends {s : State} {p : Fin 2} (b0 b1 b2 b3 : BitVec 8) (hup : s.linkUp p = true)
    (hd : s.gb F.HOST_p_STAT_D3HOT 0 p = false) :
    Ends (execBar0Write p 8 [some b0, some b1, some b2, some b3] s) fun t =>
      t.rd R.HUB_IRQ_EN 0 = s.merged R.HUB_IRQ_EN 0 0 (b3 ++ b2 ++ b1 ++ b0) := by
  rw [execBar0Write_word b0 b1 b2 b3 hup hd, writeWord_irqEn]
  apply ends_of_ending
  rw [ending_rd, plainWrite_rd_self]

theorem cwrComplete_ends {s : State} {r : Rgn} {v : Word} {l : List (Nat × Word)} (hcwr : (s.eng r).cwr = (0xF_0020, v) :: l)
    (hown : s.mayWrite (.le r) r = true) :
    Ends (execCwrComplete r s) fun t => (t.eng r).cwr = l ∧ t.gf F.RGN_RDO_ADDR_WORD (rgB r) = v.bits 11 0 := by
  rw [execCwrComplete_rdoAddr hcwr]
  apply ends_of_ending
  have hown' : (s.setEng r { s.eng r with cwr := l }).mayWrite (.le r) r = true := hown
  obtain ⟨hword, heng⟩ := writeWord_rdoAddr_owner v 0 hown'
  rw [ending_gf, hword, State.eng, ending_engines, heng]
  exact ⟨congrArg EngS.cwr (Tab.get_set_self _ _ _), rfl⟩

theorem regionRegisterPort_ends {s : State} {r : Rgn} (v : Word) (hclk : s.clk r = 0) (hown : s.mayWrite (.fab r) r = true) :
    Ends (execRegionRegisterPort r 0x3C008 (some v) s) fun t =>
      t.gf F.RGN_RDO_ADDR_WORD (rgB r) = v.bits 11 0 ∧ Emit.portAck r ∈ t.out := by
  rw [execRegionRegisterPort_rdoAddr hclk]
  apply ends_of_ending
  refine ⟨?_, mem_ending_out (mem_emit_out _ _)⟩
  rw [ending_gf, gf_congr (emit_regs _ _)]
  exact (writeWord_rdoAddr_owner v 0 hown).1

/-- Settles O7: each half by its rule of R19 or R20, each path by the word of the map that it reads or writes. -/
theorem registerHalves : Obligations.RegisterHalves := by
  unfold Obligations.RegisterHalves
  exact ⟨fun _ _ _ => readLowHalf_ends, fun _ _ _ _ => readHighHalf_ends, fun _ _ _ v => writeLowHalf_ends v,
    fun _ _ _ v => writeHighHalf_hostAddr_ends v, fun _ _ _ => sbRead_ends, fun _ v _ => sbWrite_ends v,
    fun _ _ => sbReadNext_ends, fun _ => statusRead_ends,
    fun _ _ v htap hon hdr => hdr ▸ regacc_ends v htap hon, fun _ _ => bar0Read_ends,
    fun _ _ b0 b1 b2 b3 => bar0Write_ends b0 b1 b2 b3, fun _ _ _ _ => cwrComplete_ends,
    fun _ _ v => regionRegisterPort_ends v⟩

end Sys2Proof.Machine

/-! ## Every well-formed command answers a next state; what a reset leaves -/

namespace Sys2Proof.Machine

theorem next_ite {p : Prop} [Decidable p] {x y : Host.Outcome State Fault Refusal} (hx : ∃ t, x = .next t)
    (hy : ∃ t, y = .next t) : ∃ t, (if p then x else y) = .next t := by
  split <;> assumption

theorem afterFuses_next (s t : State) : ∃ u, s.afterFuses t = .next u := ⟨_, rfl⟩

/-- TEMP_SAMPLE with one reading for each region answers a next state. -/
theorem execTempSample_next {l : List Int} (s : State) (h : l.length = 16) : ∃ t, execTempSample l s = .next t :=
  ⟨_, if_pos h⟩

theorem execWaitin_next (r : Rgn) (n : Nat) (s : State) : ∃ t, execWaitin r n s = .next t :=
  next_ite (after_next _ _) ⟨_, rfl⟩

theorem execWait_next (r : Rgn) (n : Nat) (s : State) : ∃ t, execWait r n s = .next t :=
  next_ite (after_next _ _) ⟨_, rfl⟩

theorem execCwr_next (r : Rgn) (n : Nat) (s : State) : ∃ t, execCwr r n s = .next t := by
  unfold execCwr
  cases (s.eng r.val).mode <;> exact ⟨_, rfl⟩

theorem execOtpCommandDone_next (g : Option RawImage) (fuse : Bool) (s : State) :
    ∃ t, execOtpCommandDone g fuse s = .next t :=
  next_ite (after_next _ _) (next_ite (after_next _ _) (next_ite (after_next _ _) (afterFuses_next _ _)))

/-- Every command ends by `after` or, where it blows a fuse, by `afterFuses`; TEMP_SAMPLE alone needs its operand's range. -/
theorem exec_next_of_wf (i : Instr) (s : State) (h : i.wf = true) : ∃ t, exec i s = .next t := by
  cases i
  case tempSample l => exact execTempSample_next s (of_decide_eq_true h)
  case waitin r n => exact execWaitin_next r n s
  case wait r n => exact execWait_next r n s
  case cwr r n => exact execCwr_next r n s
  case otpCommandDone g f => exact execOtpCommandDone_next g f s
  all_goals exact ⟨_, rfl⟩

/-- Settles O6: by cases on the command. -/
theorem everyCommandCompletes : Obligations.EveryCommandCompletes := exec_next_of_wf

/-- At reset every logical unit of a region is served by the physical unit of its own number. -/
theorem reset_units_serve_themselves :
    (∀ (r : Rgn) (c : Fin 16), State.reset.gf F.PG_CHcc_STAT_PHYS (pgB r) c = c) ∧
    (∀ (r : Rgn) (k : Fin 12) (n : Fin 8), State.reset.gf F.AC_CELLn_STAT_PHYS (acB r k) n = n) := by
  decide +kernel

/-- The registers of the Hub and the Sett whose summaries give a reset value other than 0, and the mode. -/
theorem reset_registers :
    State.reset.gf F.SETT_MODE_MODE 0 = 2 ∧ modeCode State.reset = 2 ∧ State.reset.rd R.PMAP_AGE_LIMIT 0 = 0x3E8 ∧
    State.reset.rd R.PMAP_FO_CFG 0 = 0x64 ∧ State.reset.rd R.HERD_CAP_ROOT 0 = 0xFFFF_FFFF ∧
    State.reset.rd R.CFG_FIFO_STAT 0 = 0x400 ∧ State.reset.gf F.CFG_STAT_STATE 0 = 0 ∧
    State.reset.gb F.CFG_STAT_CFG_DONE 0 = false := by
  decide +kernel

theorem reset_no_owner : ∀ r : Rgn, State.reset.gf F.RGN_STAT_OWNER (rgB r) = 0 := by decide +kernel

theorem fusesKept_refl (s : State) : FusesKept s s := ⟨le_rfl, le_rfl, Nat.or_self _, fun _ _ _ => rfl⟩

/-- Settles O2: `State.reset` evaluated, register by register. -/
theorem resetState : Obligations.ResetState := by
  unfold Obligations.ResetState
  obtain ⟨hmode, hcode, hage, hfo, hcap, hfifo, hstate, hdone⟩ := reset_registers
  obtain ⟨hpg, hac⟩ := reset_units_serve_themselves
  exact ⟨rfl, rfl, hmode, hcode, rfl, rfl, hage, hfo, hcap, hfifo, hstate, hdone, fun r c => ⟨hpg r c, rfl⟩, hac,
    fun _ => ⟨rfl, rfl, rfl, rfl, rfl⟩, fun r => ⟨rfl, reset_no_owner r⟩, ⟨0, rfl⟩, fusesKept_refl _⟩

end Sys2Proof.Machine

/-! ## The link layer of a Herd port: what sending and receiving frames leave -/

namespace Sys2Proof.Machine

/-! ### Herd ports -/

@[simp] theorem hport_setHport_self (s : State) (p : Nat) (x : HPortS) : (s.setHport p x).hport p = x :=
  Tab.get_set_self _ _ _

theorem hport_setHport_ne (s : State) {p q : Nat} (x : HPortS) (h : q ≠ p) : (s.setHport p x).hport q = s.hport q :=
  Tab.get_set_ne _ _ h

theorem hport_setHport (s : State) (p q : Nat) (x : HPortS) : (s.setHport p x).hport q = if q = p then x else s.hport q :=
  Tab.get_set _ _ _ _

/-- What a port holds beside its link: the exchange in progress, the last offset, the child's report. -/
def HPortS.report (x : HPortS) : Option (DWord × DWord × DWord) × Int × Option (Nat × Nat × Nat) := (x.ex, x.ofs, x.child)

/-- Only the link layer of Herd ports and what has left the part differ. -/
structure LinkOnly (s t : State) : Prop where
  rest : ∃ ports out, t = { s with herd := { s.herd with ports := ports }, out := out }
  report : ∀ q, (t.hport q).report = (s.hport q).report

theorem LinkOnly.refl (s : State) : LinkOnly s s := ⟨⟨_, _, rfl⟩, fun _ => rfl⟩

theorem LinkOnly.trans {s t u : State} (h : LinkOnly s t) (g : LinkOnly t u) : LinkOnly s u := by
  obtain ⟨_, _, h1⟩ := h.rest
  obtain ⟨ports, out, g1⟩ := g.rest
  refine ⟨⟨ports, out, ?_⟩, fun q => (g.report q).trans (h.report q)⟩
  rw [g1, h1]

section
variable {s t : State} (h : LinkOnly s t)
include h

theorem LinkOnly.regs : t.regs = s.regs := by obtain ⟨_, _, h⟩ := h.rest; rw [h]
theorem LinkOnly.hub : t.hub = s.hub := by obtain ⟨_, _, h⟩ := h.rest; rw [h]
theorem LinkOnly.now : t.now = s.now := by rw [State.now, h.hub]; rfl
theorem LinkOnly.stamp (sub : Fin 40) : t.stamp sub = s.stamp sub := by rw [State.stamp, h.hub]; rfl
theorem LinkOnly.uplink : uplink t = uplink s := by
  have hg := gf_congr h.regs F.HERD_STAT_ACTIVE 0 0
  simp only [Machine.uplink, hg]
theorem LinkOnly.hpState (p : Nat) : hpState t p = hpState s p := gf_congr h.regs _ _ _
theorem LinkOnly.budget : t.herd.budget = s.herd.budget := by obtain ⟨_, _, h⟩ := h.rest; rw [h]
theorem LinkOnly.cycle : t.herd.cycle = s.herd.cycle := by obtain ⟨_, _, h⟩ := h.rest; rw [h]
theorem LinkOnly.ex (q : Nat) : (t.hport q).ex = (s.hport q).ex := congrArg (·.1) (h.report q)
theorem LinkOnly.ofs (q : Nat) : (t.hport q).ofs = (s.hport q).ofs := congrArg (·.2.1) (h.report q)
theorem LinkOnly.child (q : Nat) : (t.hport q).child = (s.hport q).child := congrArg (·.2.2) (h.report q)

end

theorem linkOnly_setHport {s : State} {p : Nat} {x : HPortS} (h : x.report = (s.hport p).report) : LinkOnly s (s.setHport p x) := by
  refine ⟨⟨_, _, rfl⟩, fun q => ?_⟩
  rw [hport_setHport]
  split
  · rename_i hq
    rw [hq, h]
  · rfl

theorem linkOnly_emit (s : State) (e : Emit) : LinkOnly s (s.emit e) := ⟨⟨_, _, rfl⟩, fun _ => rfl⟩

theorem linkOnly_sendNow (s : State) (p : Nat) (b : Body) : LinkOnly s (s.sendNow p b) :=
  LinkOnly.trans (linkOnly_setHport (by rfl)) (linkOnly_emit _ _)

theorem linkOnly_creditBack (s : State) (f : Frame) : LinkOnly s (s.creditBack f) := by
  unfold State.creditBack
  split
  · exact LinkOnly.refl s
  · exact linkOnly_setHport (by split <;> rfl)

theorem linkOnly_creditHeld (s : State) (f : Frame) : LinkOnly s (s.creditHeld f) := by
  unfold State.creditHeld
  split
  · exact LinkOnly.refl s
  · exact linkOnly_setHport (by split <;> rfl)

/-- One frame that leaves as credit comes. -/
def State.drainOne (s : State) (p : Nat) (f : Frame) (left : List (Nat × Nat)) : State :=
  ((s.setHport p { s.hport p with queue := (s.hport p).queue.erase f, wrr := left }).sendNow p f.body).creditBack f

theorem drainPort_succ (p n : Nat) (s : State) : drainPort p (n + 1) s =
    match nextFrame s p with | some (f, left) => drainPort p n (s.drainOne p f left) | none => s := rfl

theorem linkOnly_drainOne (s : State) (p : Nat) (f : Frame) (left : List (Nat × Nat)) : LinkOnly s (s.drainOne p f left) :=
  ((linkOnly_setHport (by rfl)).trans (linkOnly_sendNow _ p f.body)).trans (linkOnly_creditBack _ f)

theorem linkOnly_drainPort (p n : Nat) (s : State) : LinkOnly s (drainPort p n s) := by
  induction n generalizing s with
  | zero => exact LinkOnly.refl s
  | succ n ih =>
    rw [drainPort_succ]
    split
    · exact (linkOnly_drainOne s p _ _).trans (ih _)
    · exact LinkOnly.refl s

theorem linkOnly_sendFrame (s : State) (p : Nat) (b : Body) (inp : Nat) : LinkOnly s (s.sendFrame p b inp) := by
  unfold State.sendFrame
  split
  · exact LinkOnly.refl s
  · exact ((linkOnly_setHport (by rfl)).trans (linkOnly_creditHeld _ _)).trans (linkOnly_drainPort _ _ _)

theorem linkOnly_takeHeader (s : State) (p : Nat) (h : Hdr) : LinkOnly s (s.takeHeader p h) :=
  (linkOnly_setHport (by rfl)).trans (linkOnly_drainPort _ _ _)

/-! ### A frame handed to a port stays handed (R428, R429) -/

/-- A frame that a port numbers and keeps for replay, and whose body does not change as it leaves at time `now`. -/
def Kept (now : DWord) (b : Body) : Prop := b.kind ≠ 0 ∧ b.kind ≠ 0xD ∧ stampSync b now = b

theorem handed_iff {s : State} {p : Nat} {b : Body} : handed s p b = true ↔ ∃ f ∈ unacked (s.hport p), f.body = b := by
  simp [handed]

/-- A port of which no queue or replay buffer changes. -/
theorem handed_setHport {s : State} {p q : Nat} {x : HPortS} {b : Body}
    (hx : ∀ f ∈ unacked (s.hport p), f.body = b → ∃ g ∈ unacked x, g.body = b) (h : handed s q b = true) :
    handed (s.setHport p x) q b = true := by
  obtain ⟨f, hf, hb⟩ := handed_iff.1 h
  refine handed_iff.2 ?_
  rw [hport_setHport]
  split
  · rename_i hq
    exact hx f (hq ▸ hf) hb
  · exact ⟨f, hf, hb⟩

theorem unacked_congr {x y : HPortS} (hr : y.replay = x.replay) (hq : y.queue = x.queue) : unacked y = unacked x := by
  rw [unacked, unacked, hr, hq]

theorem handed_setHport_same {s : State} {p q : Nat} {x : HPortS} {b : Body} (hr : x.replay = (s.hport p).replay)
    (hq : x.queue = (s.hport p).queue) (h : handed s q b = true) : handed (s.setHport p x) q b = true :=
  handed_setHport (fun f hf hb => ⟨f, (unacked_congr hr hq).symm ▸ hf, hb⟩) h

/-- A frame that leaves takes none from the queue or the replay buffer. -/
theorem handed_sendNow {s : State} {p q : Nat} {b c : Body} (h : handed s q b = true) : handed (s.sendNow p c) q b = true := by
  refine handed_setHport (s := s) ?_ h
  intro f hf hb
  refine ⟨f, ?_, hb⟩
  simp only [unacked, List.mem_append, List.mem_map] at hf ⊢
  refine hf.imp (fun ⟨g, hg, hgf⟩ => ⟨g, ?_, hgf⟩) id
  split
  · exact List.mem_append_left _ hg
  · exact hg

/-- A frame that is kept is handed once it leaves. -/
theorem handed_sendNow_self {s : State} {p : Nat} {b : Body} (hb : Kept s.now b) : handed (s.sendNow p b) p b = true := by
  obtain ⟨h0, hD, hst⟩ := hb
  refine handed_iff.2 ⟨⟨b, 0⟩, ?_, rfl⟩
  have hx : (s.sendNow p b).hport p = _ := hport_setHport_self s p _
  rw [hx]
  simp [unacked, hst, h0, hD]

theorem handed_creditBack {s : State} {q : Nat} {b : Body} (f : Frame) (h : handed s q b = true) :
    handed (s.creditBack f) q b = true := by
  unfold State.creditBack
  split
  · exact h
  · exact handed_setHport_same (by split <;> rfl) (by split <;> rfl) h

theorem handed_creditHeld {s : State} {q : Nat} {b : Body} (f : Frame) (h : handed s q b = true) :
    handed (s.creditHeld f) q b = true := by
  unfold State.creditHeld
  split
  · exact h
  · exact handed_setHport_same (by split <;> rfl) (by split <;> rfl) h

theorem handed_drainOne {s : State} {p q : Nat} {b : Body} {f : Frame} {left : List (Nat × Nat)} (hb : Kept s.now b)
    (h : handed s q b = true) : handed (s.drainOne p f left) q b = true := by
  refine handed_creditBack f ?_
  by_cases hf : f.body = b ∧ q = p
  · obtain ⟨rfl, rfl⟩ := hf
    exact handed_sendNow_self hb
  · refine handed_sendNow ?_
    obtain ⟨g, hg, hgb⟩ := handed_iff.1 h
    refine handed_iff.2 ?_
    rw [hport_setHport]
    split
    · rename_i hq
      have hne : g ≠ f := fun e => hf ⟨e ▸ hgb, hq⟩
      refine ⟨g, ?_, hgb⟩
      simp only [unacked, List.mem_append] at hg ⊢
      rw [hq] at hg
      exact hg.imp id (List.mem_erase_of_ne hne).2
    · exact ⟨g, hg, hgb⟩

theorem handed_drainPort {s : State} {p q n : Nat} {b : Body} (hb : Kept s.now b) (h : handed s q b = true) :
    handed (drainPort p n s) q b = true := by
  induction n generalizing s with
  | zero => exact h
  | succ n ih =>
    rw [drainPort_succ]
    split
    · exact ih ((linkOnly_drainOne s p _ _).now ▸ hb) (handed_drainOne hb h)
    · exact h

/-- Frames handed before stay handed. -/
theorem handed_sendFrame_of_handed {s : State} {p q inp : Nat} {b c : Body} (hb : Kept s.now b) (h : handed s q b = true) :
    handed (s.sendFrame p c inp) q b = true := by
  unfold State.sendFrame
  split
  · exact h
  · have hnow : ((s.setHport p { s.hport p with queue := (s.hport p).queue ++ [⟨c, inp⟩] }).creditHeld ⟨c, inp⟩).now = s.now :=
      ((linkOnly_setHport (by rfl)).trans (linkOnly_creditHeld _ _)).now
    refine handed_drainPort (hnow ▸ hb) (handed_creditHeld _ (handed_setHport ?_ h))
    intro f hf hfb
    refine ⟨f, ?_, hfb⟩
    simp only [unacked, List.mem_append] at hf ⊢
    exact hf.imp id Or.inl

/-- A frame handed to a port that is not down. -/
theorem handed_sendFrame {s : State} {p inp : Nat} {b : Body} (hp : hpState s p ≠ 0) (hb : Kept s.now b) :
    handed (s.sendFrame p b inp) p b = true := by
  rw [State.sendFrame, if_neg hp]
  have hnow : ((s.setHport p { s.hport p with queue := (s.hport p).queue ++ [⟨b, inp⟩] }).creditHeld ⟨b, inp⟩).now = s.now :=
    ((linkOnly_setHport (by rfl)).trans (linkOnly_creditHeld _ _)).now
  refine handed_drainPort (hnow ▸ hb) (handed_creditHeld _ (handed_iff.2 ⟨⟨b, inp⟩, ?_, rfl⟩))
  rw [hport_setHport_self]
  simp [unacked]

/-! ### A frame that arrives in order (R428) -/

/-- The state on which a frame that arrives in order acts. -/
def State.arrived (s : State) (p : Nat) (h : Hdr) (alarm : Bool) : State :=
  let s1 := s.takeHeader p h
  let x := s1.hport p
  s1.setHport p { x with seqRx := (x.seqRx + 1) % 4096, naked := false,
                         retA := if alarm then x.retA + 1 else x.retA,
                         retC := if alarm then x.retC else x.retC + 1 }

theorem linkOnly_arrived (s : State) (p : Nat) (h : Hdr) (alarm : Bool) : LinkOnly s (s.arrived p h alarm) :=
  (linkOnly_takeHeader s p h).trans (linkOnly_setHport (by rfl))

/-- A frame in order acts, and is acknowledged. -/
theorem recv_of_inOrder {s : State} {p : Nat} {h : Hdr} {alarm : Bool} {f : State → State} (hin : inOrder s p h = true) :
    s.recv p h alarm f = (f (s.arrived p h alarm)).sendNow p .credit := by
  simp only [inOrder, Bool.and_eq_true, decide_eq_true_eq] at hin
  rw [State.recv, if_neg hin.1, if_neg (fun hne => hne hin.2)]
  rfl

theorem hpState_arrived_ne {s : State} {p : Nat} {h : Hdr} {alarm : Bool} (hin : inOrder s p h = true) :
    hpState (s.arrived p h alarm) p ≠ 0 := by
  rw [(linkOnly_arrived s p h alarm).hpState]
  simp only [inOrder, Bool.and_eq_true, decide_eq_true_eq] at hin
  exact hin.1

end Sys2Proof.Machine

/-! ## Herd Time and power caps (R435 to R440) -/

namespace Sys2Proof.Machine

/-! ### Frames of Herd Time -/

theorem kept_sync (now : DWord) : Kept now (.sync now) := ⟨by simp [Body.kind], by simp [Body.kind], rfl⟩
theorem kept_dreq (now : DWord) : Kept now .dreq := ⟨by decide, by decide, rfl⟩
theorem kept_dresp (now t : DWord) : Kept now (.dresp t) := ⟨by simp [Body.kind], by simp [Body.kind], rfl⟩

/-- A SYNC on a DN port that is up. -/
def State.syncAt (s : State) (p : Nat) : State := if hpState s p = 2 then s.sendFrame p (.sync s.now) else s

theorem linkOnly_syncAt (s : State) (p : Nat) : LinkOnly s (s.syncAt p) := by
  unfold State.syncAt
  split
  · exact linkOnly_sendFrame _ _ _ _
  · exact LinkOnly.refl s

theorem handed_syncAt {s : State} {p q : Nat} {b : Body} (hb : Kept s.now b) (h : handed s q b = true) :
    handed (s.syncAt p) q b = true := by
  unfold State.syncAt
  split
  · exact handed_sendFrame_of_handed hb h
  · exact h

/-- A port that is up and among those served is handed its SYNC, which the others leave there. -/
theorem handed_syncAt_foldl {l : List Nat} {p : Nat} {now : DWord} (hp : p ∈ l) {s : State} (hs : hpState s p = 2)
    (hn : s.now = now) : handed (l.foldl State.syncAt s) p (.sync now) = true := by
  have keep : ∀ (l : List Nat) (s : State), s.now = now → handed s p (.sync now) = true →
      handed (l.foldl State.syncAt s) p (.sync now) = true := by
    intro l
    induction l with
    | nil => exact fun _ _ h => h
    | cons q l ih =>
      intro s hn h
      exact ih _ ((linkOnly_syncAt s q).now.trans hn) (handed_syncAt (hn ▸ kept_sync now) h)
  induction l generalizing s with
  | nil => exact absurd hp List.not_mem_nil
  | cons q l ih =>
    by_cases hq : p = q
    · subst hq
      refine keep l _ ((linkOnly_syncAt s p).now.trans hn) ?_
      rw [State.syncAt, if_pos hs, hn]
      exact handed_sendFrame (by omega) (hn ▸ kept_sync now)
    · exact ih ((List.mem_cons.1 hp).resolve_left hq) (((linkOnly_syncAt s q).hpState p).trans hs)
        ((linkOnly_syncAt s q).now.trans hn)

theorem syncTimer_ends {s : State} {p : Fin 6} (hp : 2 ≤ p.val) (hup : hpState s p = 2) :
    Ends (execSyncTimer s) fun t => handed t p (.sync s.now) = true := by
  apply ends_of_ending
  have hmem : p.val ∈ [2, 3, 4, 5] := by simp; omega
  have h := handed_syncAt_foldl hmem hup rfl
  rw [handed, State.hport, ending_herd]
  exact h


/-! ### What the answers to received frames leave -/

theorem handed_ending {s t : State} {p : Nat} {b : Body} : handed (s.ending t) p b = handed t p b := by
  rw [handed, handed, State.hport, ending_herd]; rfl

theorem hport_ending (s t : State) (p : Nat) : (s.ending t).hport p = t.hport p := by
  rw [State.hport, ending_herd]; rfl

/-- A node that steps forward, or not, before it answers a SYNC (R437). -/
def State.syncStep (s : State) (p : Nat) : State :=
  if uplink s = some p ∧ (s.hport p).ofs < -1000000 then
    (s.timeStep ((s.hport p).ofs.natAbs * 2 / 125)).setHport p { s.hport p with ofs := 0 } else s

/-- The answer to a SYNC. -/
def State.syncAnswer (s : State) (p : Nat) (t1 : DWord) (sub : Fin 40) (turn : Nat) : State :=
  ((s.syncStep p).setHport p { (s.syncStep p).hport p with
    ex := some (t1, (s.syncStep p).stamp sub, (s.syncStep p).stamp sub + BitVec.ofNat 64 turn) }).sendFrame p .dreq

theorem execSync_eq {s : State} {p : Fin 6} {h : Hdr} {t1 : DWord} {sub : Fin 40} {turn : Nat} (hin : inOrder s p h = true)
    (hp : p.val < 2) : execSync p h t1 sub turn s =
      s.after (((s.arrived p h false).syncAnswer p t1 sub turn).sendNow p .credit) := by
  rw [execSync, recv_of_inOrder hin, if_pos hp]
  rfl

theorem sync_ends {s : State} {p : Fin 6} {h : Hdr} (t1 : DWord) (sub : Fin 40) (turn : Nat) (hin : inOrder s p h = true)
    (hp : p.val < 2) (hno : uplink s ≠ some p.val ∨ -1000000 ≤ (s.hport p).ofs) :
    Ends (execSync p h t1 sub turn s) fun t =>
      (t.hport p).ex = some (t1, s.stamp sub, s.stamp sub + BitVec.ofNat 64 turn) ∧ handed t p .dreq = true ∧
        t.hub.time = s.hub.time := by
  rw [execSync_eq hin hp]
  apply ends_of_ending
  have ha := linkOnly_arrived s p h false
  have hstep : (s.arrived p h false).syncStep p = s.arrived p h false := by
    rw [State.syncStep, ha.uplink, ha.ofs, if_neg]
    exact fun hc => hno.elim (fun hu => hu hc.1) (fun ho => absurd hc.2 (by omega))
  rw [State.syncAnswer, hstep, hport_ending, handed_ending, ending_hub]
  generalize hx : (s.arrived p h false).setHport p _ = u
  have hsend : LinkOnly u ((u.sendFrame p .dreq).sendNow p .credit) :=
    (linkOnly_sendFrame _ _ _ _).trans (linkOnly_sendNow _ _ _)
  have hu : u.regs = s.regs := by rw [← hx]; exact ha.regs
  have hhub : u.hub = s.hub := by rw [← hx]; exact ha.hub
  refine ⟨?_, ?_, ?_⟩
  · rw [hsend.ex, ← hx, hport_setHport_self, ha.stamp]
  · have hup : hpState u p ≠ 0 := by
      have := hpState_arrived_ne (alarm := false) hin
      rwa [hpState, gf_congr (hu.trans ha.regs.symm)]
    exact handed_sendNow (handed_sendFrame hup (kept_dreq _))
  · rw [hsend.hub, hhub]

theorem syncStep_of_late {s : State} {p : Nat} (h : uplink s = some p ∧ (s.hport p).ofs < -1000000) :
    (s.syncStep p).hub.time = s.hub.time + BitVec.ofNat 64 ((s.hport p).ofs.natAbs * 2 / 125) ∧
      (s.syncStep p).gb F.HERD_EVT_TIME_STEP 0 = true := by
  rw [State.syncStep, if_pos h]
  generalize (s.hport p).ofs.natAbs * 2 / 125 = counts
  have hhub : (s.timeStep counts).hub.time = s.hub.time + BitVec.ofNat 64 counts := by rw [State.timeStep, raise_hub]; rfl
  have hev : (s.timeStep counts).gb F.HERD_EVT_TIME_STEP 0 = true := by
    rw [State.timeStep, gb_congr (raise_regs _ _ _ _)]
    exact Regs.flag_setFld_self _ _ _ _ true (by decide)
  exact ⟨hhub, hev⟩

theorem sync_late_ends {s : State} {p : Fin 6} {h : Hdr} (t1 : DWord) (sub : Fin 40) (turn : Nat)
    (hin : inOrder s p h = true) (hp : p.val < 2) (hlate : uplink s = some p.val ∧ (s.hport p).ofs < -1000000) :
    Ends (execSync p h t1 sub turn s) fun t =>
      t.hub.time = s.hub.time + BitVec.ofNat 64 ((s.hport p).ofs.natAbs * 2 / 125) ∧ t.gb F.HERD_EVT_TIME_STEP 0 = true := by
  rw [execSync_eq hin hp]
  apply ends_of_ending
  have ha := linkOnly_arrived s p h false
  rw [ending_hub, ending_gb, State.syncAnswer]
  generalize hx : ((s.arrived p h false).syncStep p).setHport p _ = u
  have hsend : LinkOnly u ((u.sendFrame p .dreq).sendNow p .credit) :=
    (linkOnly_sendFrame _ _ _ _).trans (linkOnly_sendNow _ _ _)
  have hstep := syncStep_of_late (s := s.arrived p h false) (p := p) (by rwa [ha.uplink, ha.ofs])
  rw [ha.hub, ha.ofs] at hstep
  rw [hsend.hub, gb_congr hsend.regs, ← hx]
  exact hstep

theorem dreq_ends {s : State} {p : Fin 6} {h : Hdr} (sub : Fin 40) (hin : inOrder s p h = true) (hp : 2 ≤ p.val) :
    Ends (execDreq p h sub s) fun t => handed t p (.dresp (s.stamp sub)) = true := by
  rw [execDreq, recv_of_inOrder hin, if_neg (by omega), (linkOnly_arrived s p h false).stamp]
  apply ends_of_ending
  rw [handed_ending]
  exact handed_sendNow (handed_sendFrame (hpState_arrived_ne hin) (kept_dresp _ _))

/-! ### The offset of an exchange (R435, R436) -/

/-- The offset that an exchange gives. -/
def offsetOf (s : State) (p : Nat) (t1 t2 t3 t4 : DWord) : Int :=
  (125 * ((t2 - t1).toInt - (t4 - t3).toInt) - 2 * signedOf 16 (s.gf F.HERD_Pp_ASYM_PS 0 p)) / 4

/-- A port that has its exchange's offset. -/
def State.measured (s : State) (p : Nat) (ofs filt : Int) : State :=
  (s.setHport p { s.hport p with ex := none, ofs := ofs }).sb F.HERD_Pp_STAT_PSYNC 0 p (decide (filt.natAbs ≤ 500))

/-- A change of a register below the ports' registers leaves PSYNC. -/
theorem psync_of_low {x : Regs} {f : Fld} {n v p : Nat} (h : f.reg.blk = .herd ∧ f.reg.off < 0x60100 ∧ n * f.reg.stride = 0) :
    (x.setFld f 0 n v).fld F.HERD_Pp_STAT_PSYNC 0 p = x.fld F.HERD_Pp_STAT_PSYNC 0 p := by
  refine Regs.fld_setFld_ne x v (Or.inr ?_)
  obtain ⟨_, hoff, hn⟩ := h
  simp only [Reg.addr, hn, F.HERD_Pp_STAT_PSYNC, R.HERD_Pp_STAT]
  omega

/-- What a port has measured: its exchange, its offset and PSYNC. -/
structure MeasureKept (p : Nat) (s t : State) : Prop where
  ex : (t.hport p).ex = (s.hport p).ex
  ofs : (t.hport p).ofs = (s.hport p).ofs
  psync : t.gb F.HERD_Pp_STAT_PSYNC 0 p = s.gb F.HERD_Pp_STAT_PSYNC 0 p

theorem MeasureKept.refl (p : Nat) (s : State) : MeasureKept p s s := ⟨rfl, rfl, rfl⟩

theorem MeasureKept.trans {p : Nat} {s t u : State} (h : MeasureKept p s t) (g : MeasureKept p t u) : MeasureKept p s u :=
  ⟨g.ex.trans h.ex, g.ofs.trans h.ofs, g.psync.trans h.psync⟩

theorem LinkOnly.measureKept {s t : State} (h : LinkOnly s t) (p : Nat) : MeasureKept p s t :=
  ⟨h.ex p, h.ofs p, gb_congr h.regs _ _ _⟩

theorem measureKept_sf {s : State} {f : Fld} {n v p : Nat}
    (h : f.reg.blk = .herd ∧ f.reg.off < 0x60100 ∧ n * f.reg.stride = 0) : MeasureKept p s (s.sf f 0 n v) := by
  refine ⟨rfl, rfl, ?_⟩
  simp only [gb_eq_fld, sf_regs, psync_of_low h]

theorem measureKept_steer (s : State) (p : Nat) (k : Int) :
    MeasureKept p s { s.free.2 with herd := { s.free.2.herd with steer := k } } := ⟨rfl, rfl, rfl⟩

theorem measureKept_raise (s : State) (p : Nat) (x : Src) (c : Nat) (d : BitVec 80) : MeasureKept p s (s.raise x c d) :=
  ⟨by rw [State.hport, raise_herd]; rfl, by rw [State.hport, raise_herd]; rfl, gb_congr (raise_regs _ _ _ _) _ _ _⟩

theorem measureKept_setHport {s : State} {p : Nat} {x : HPortS} (h : x.report = (s.hport p).report) :
    MeasureKept p s (s.setHport p x) := (linkOnly_setHport h).measureKept p

theorem measureKept_syncState (s : State) (p : Nat) (filt : Int) : MeasureKept p s (s.syncState p filt) := by
  unfold State.syncState
  extract_lets x good bad s1
  have h1 : MeasureKept p s s1 := measureKept_setHport (by rfl)
  split
  · exact ((h1.trans (measureKept_sf (by decide))).trans (measureKept_sf (by decide))).trans (measureKept_raise _ _ _ _ _)
  · split
    · exact h1.trans (measureKept_sf (by decide))
    · exact h1

theorem measured_spec (s : State) (p : Nat) (ofs filt : Int) : ((s.measured p ofs filt).hport p).ofs = ofs ∧
    ((s.measured p ofs filt).hport p).ex = none ∧
      (s.measured p ofs filt).gb F.HERD_Pp_STAT_PSYNC 0 p = decide (filt.natAbs ≤ 500) := by
  have hp : (s.measured p ofs filt).hport p = _ := hport_setHport_self _ _ _
  rw [hp]
  exact ⟨rfl, rfl, Regs.flag_setFld_self _ _ _ _ _ (by decide)⟩

/-- What a port's measure is at its active parent: HERD_OFS, the steering and the SYNC state follow it (R436, R437). -/
def State.followed (s : State) (p : Nat) (ofs : Int) (delay : Nat) (filt : Int) : State :=
  let s2 := (s.sf F.HERD_OFS_OFS 0 0 (codeOf 16 (clampInt (-32768) 32767 (filt / 10)))).sf F.HERD_OFS_DELAY 0 0 delay
  State.syncState { s2.free.2 with herd := { s2.free.2.herd with steer := slew ofs s2.free.1.toNat } } p filt

theorem measureKept_followed (s : State) (p : Nat) (ofs : Int) (delay : Nat) (filt : Int) :
    MeasureKept p s (s.followed p ofs delay filt) := by
  unfold State.followed
  extract_lets s2
  have h2 : MeasureKept p s s2 := (measureKept_sf (by decide)).trans (measureKept_sf (by decide))
  exact (h2.trans (measureKept_steer s2 p _)).trans (measureKept_syncState _ _ _)

theorem offsetOf_congr {s u : State} (h : u.regs = s.regs) (p : Nat) (t1 t2 t3 t4 : DWord) :
    offsetOf u p t1 t2 t3 t4 = offsetOf s p t1 t2 t3 t4 := by rw [offsetOf, offsetOf, gf_congr h]

/-- A DRESP, of a port whose exchange has its three times. -/
def State.drespAt (s : State) (p : Nat) (t1 t2 t3 t4 : DWord) (filt : Int) : State :=
  if uplink s = some p then
    (s.measured p (offsetOf s p t1 t2 t3 t4) filt).followed p (offsetOf s p t1 t2 t3 t4)
      (min 65535 (((t2 - t1).toInt + (t4 - t3).toInt) / 2).toNat) filt
  else s.measured p (offsetOf s p t1 t2 t3 t4) filt

theorem execDresp_eq (s : State) (p : Fin 6) (h : Hdr) (t4 : DWord) (filt : Int) : execDresp p h t4 filt s =
    s.after (s.recv p.val h false fun s => match (s.hport p).ex with
      | some (t1, t2, t3) => s.drespAt p t1 t2 t3 t4 filt
      | none => s) := by
  unfold execDresp State.drespAt State.followed State.measured offsetOf
  rfl

theorem dresp_ends {s : State} {p : Fin 6} {h : Hdr} {t1 t2 t3 : DWord} (t4 : DWord) (filt : Int)
    (hin : inOrder s p h = true) (hex : (s.hport p).ex = some (t1, t2, t3)) :
    Ends (execDresp p h t4 filt s) fun t => (t.hport p).ofs = offsetOf s p t1 t2 t3 t4 ∧ (t.hport p).ex = none ∧
      t.gb F.HERD_Pp_STAT_PSYNC 0 p = decide (filt.natAbs ≤ 500) := by
  have ha := linkOnly_arrived s p h false
  rw [execDresp_eq, recv_of_inOrder hin, ha.ex, hex]
  apply ends_of_ending
  rw [hport_ending, ending_gb, ← offsetOf_congr ha.regs]
  generalize s.arrived p h false = u
  have hu : MeasureKept p (u.measured p (offsetOf u p t1 t2 t3 t4) filt) ((u.drespAt p t1 t2 t3 t4 filt).sendNow p .credit) := by
    refine MeasureKept.trans ?_ ((linkOnly_sendNow _ p .credit).measureKept p)
    unfold State.drespAt
    split
    · exact measureKept_followed _ _ _ _ _
    · exact MeasureKept.refl _ _
  rw [hu.ofs, hu.ex, hu.psync]
  exact measured_spec _ _ _ _

/-! ### HERD_TSET (R437) -/

theorem ofHalves_lo_hi (v : DWord) : DWord.ofHalves v.lo v.hi = v := by
  apply BitVec.eq_of_getLsbD_eq
  intro i hi
  simp only [DWord.lo, DWord.hi, DWord.ofHalves, BitVec.getLsbD_append, BitVec.getLsbD_setWidth, BitVec.getLsbD_ushiftRight]
  split
  · rename_i h
    simp [h]
  · simp [show i - 32 < 32 by omega, show 32 + (i - 32) = i by omega]

theorem rd64_wr64_self (s : State) (r : Reg) (b n : Nat) (v : DWord) : (s.wr64 r b n v).rd64 r b n = v := by
  have hlo : ((s.wr64 r b n v).regs.tab r.blk).get (r.addr b n) = v.lo := by
    simp [State.wr64, Tab.get_set_ne]
  have hhi : ((s.wr64 r b n v).regs.tab r.blk).get (r.addr b n + 4) = v.hi := by
    simp [State.wr64]
  rw [State.rd64, hlo, hhi]
  exact ofHalves_lo_hi v

theorem herdTset_ends {s : State} {v : DWord} (h : isRoot s = true ∧ s.now.toNat ≤ v.toNat) :
    Ends (execHerdTset v s) fun t => t.herd.tset = some v ∧ t.rd64 R.HERD_TSET 0 = v := by
  rw [execHerdTset, herdTset, if_pos (by simpa using h)]
  apply ends_of_ending
  refine ⟨by rw [ending_herd], ?_⟩
  rw [State.rd64, ending_regs]
  exact rd64_wr64_self s _ _ _ _

theorem herdTset_refused_ends {s : State} {v : DWord} (h : isRoot s = false ∨ v.toNat < s.now.toNat) :
    Ends (execHerdTset v s) fun t => t.gb F.HERD_EVT_REJECT 0 = true ∧ t.herd.tset = s.herd.tset := by
  have hno : ¬ (isRoot s && decide (s.now.toNat ≤ v.toNat)) = true := by
    simp only [Bool.and_eq_true, decide_eq_true_eq]
    rintro ⟨hr, hv⟩
    exact h.elim (fun hf => by simp [hf] at hr) (by omega)
  rw [execHerdTset, herdTset, if_neg hno]
  apply ends_of_ending
  rw [ending_gb, ending_herd]
  exact ⟨Regs.flag_setFld_self _ _ _ _ true (by decide), rfl⟩

/-! ### Caps (R438) -/

theorem cap_ends {s : State} {p : Fin 6} {h : Hdr} (w c : Word) (hin : inOrder s p h = true) (hup : uplink s = some p.val) :
    Ends (execCap p h w c s) fun t => t.herd.budget = w.toNat ∧ t.herd.cycle = c.toNat := by
  rw [execCap, recv_of_inOrder hin, (linkOnly_arrived s p h false).uplink, if_pos hup]
  apply ends_of_ending
  rw [ending_herd]
  exact ⟨(linkOnly_sendNow _ _ _).budget, (linkOnly_sendNow _ _ _).cycle⟩

theorem demand_ends {s : State} {p : Fin 6} {h : Hdr} (d f : Word) (hin : inOrder s p h = true) (hp : 2 ≤ p.val) :
    Ends (execDemand p h d f s) fun t => (t.hport p).child = some (d.toNat, f.toNat, 0) := by
  rw [execDemand, recv_of_inOrder hin, if_neg (by omega)]
  apply ends_of_ending
  rw [hport_ending, (linkOnly_sendNow _ _ _).child, hport_setHport_self]

end Sys2Proof.Machine

/-! ## A power-cap cycle with one item (R438) -/

namespace Sys2Proof.Machine

/-! ### The caps of the regions -/

/-- An event that becomes pending changes LE_EVPEND alone. -/
theorem eventPend_fld (s : State) (r n : Nat) {f : Fld} (b m : Nat) (h : f.reg.blk ≠ .le) :
    (s.eventPend r n).regs.fld f b m = s.regs.fld f b m := by
  unfold State.eventPend
  split
  · exact Regs.fld_setFld_blk _ _ _ _ _ _ _ _ h
  · rfl

theorem writeCap_same (s : State) {r v : Nat} (hv : v < 2 ^ 24) : (writeCap s r v).gf F.RGN_CAP_CAP (rgB r) = v := by
  unfold writeCap
  split
  · assumption
  · rw [gf_eq_fld, eventPend_fld _ _ _ _ _ (by decide), sf_regs, Regs.fld_setFld_self _ _ _ _ _ (by decide)]
    exact Nat.mod_eq_of_lt hv

theorem rgB_inj {q r : Nat} (h : q ≠ r) : rgB q ≠ rgB r := by
  simp only [rgB, rgnBase]
  omega

theorem writeCap_ne (s : State) {q r : Nat} (v : Nat) (h : q ≠ r) :
    (writeCap s r v).gf F.RGN_CAP_CAP (rgB q) = s.gf F.RGN_CAP_CAP (rgB q) := by
  unfold writeCap
  split
  · rfl
  · rw [gf_eq_fld, eventPend_fld _ _ _ _ _ (by decide), sf_regs]
    refine Regs.fld_setFld_ne _ _ (Or.inr ?_)
    have := rgB_inj h
    simp only [Reg.addr]
    omega

theorem writeCap_fld (s : State) (r v : Nat) {f : Fld} (b m : Nat) (h : f.reg.blk ≠ .le ∧ f.reg.blk ≠ .rgn) :
    (writeCap s r v).regs.fld f b m = s.regs.fld f b m := by
  unfold writeCap
  split
  · rfl
  · rw [eventPend_fld _ _ _ _ _ h.1]
    exact Regs.fld_setFld_blk _ _ _ _ _ _ _ _ h.2

/-- The caps written one by one are there at the end. -/
theorem foldl_writeCap {val : Nat → Nat} (hv : ∀ r, val r < 2 ^ 24) (l : List Nat) (q : Nat) (s : State) :
    (l.foldl (fun s r => writeCap s r (val r)) s).gf F.RGN_CAP_CAP (rgB q) =
      if q ∈ l then val q else s.gf F.RGN_CAP_CAP (rgB q) := by
  induction l generalizing s with
  | nil => rfl
  | cons r l ih =>
    rw [List.foldl_cons, ih]
    by_cases hl : q ∈ l
    · simp [hl]
    · by_cases hq : q = r
      · subst hq
        simp [hl, writeCap_same s (hv q)]
      · simp [hl, hq, writeCap_ne s _ hq]

theorem foldl_writeCap_fld {val : Nat → Nat} {f : Fld} (h : f.reg.blk ≠ .le ∧ f.reg.blk ≠ .rgn) (l : List Nat) (b m : Nat)
    (s : State) : (l.foldl (fun s r => writeCap s r (val r)) s).regs.fld f b m = s.regs.fld f b m := by
  induction l generalizing s with
  | nil => rfl
  | cons r l ih => rw [List.foldl_cons, ih, writeCap_fld _ _ _ _ _ h]

/-! ### What a cycle sends and counts -/

theorem sendUp_regs (s : State) (b : Body) (inp : Nat) : (s.sendUp b inp).regs = s.regs := by
  unfold State.sendUp
  split
  · exact (linkOnly_sendFrame _ _ _ _).regs
  · split
    · exact (linkOnly_creditHeld _ _).regs
    · rfl

theorem watts_regs (s : State) (w : Nat) : (s.watts w).1.regs = s.regs := by
  unfold State.watts
  split <;> rfl

theorem foldl_regs {α : Type} {f : State → α → State} (h : ∀ s x, (f s x).regs = s.regs) (l : List α) (s : State) :
    (l.foldl f s).regs = s.regs := by
  induction l generalizing s with
  | nil => rfl
  | cons x l ih => rw [List.foldl_cons, ih, h]

/-- Where no region takes its demand from its fabric, the demands stay. -/
theorem takeDemands_none {s : State} (h : s.gf F.HERD_DEM_SRC_FAB 0 = 0) : takeDemands s = s := by
  have keep : ∀ l : List Nat, l.foldl (fun s r =>
      if (s.gf F.HERD_DEM_SRC_FAB 0).testBit r then s.wr R.HERD_DEMr 0 r (s.rd R.FAB_UREGn (fabB r) 63) else s) s = s := by
    intro l
    induction l with
    | nil => rfl
    | cons r l ih => rw [List.foldl_cons, if_neg (by simp [h]), ih]
  exact keep _

/-! ### The share of a sole item -/

theorem filter_testBit_two_pow (r : Fin 16) : ((List.range 16).filter fun i => (2 ^ r.val).testBit i) = [r.val] := by
  revert r
  decide

/-- The sole item of a cycle that governs region r alone and has no children. -/
theorem capItems_sole {s : State} {r : Rgn} (hg : s.gf F.HERD_DEM_SRC_GOV 0 = 2 ^ r.val)
    (hc : ∀ p : Fin 6, (s.hport p).child = none) :
    capItems s = [(r.val, max (s.gf F.HERD_DEMr_FLOOR 0 r) (s.gf F.HERD_DEMr_DEMAND 0 r), s.gf F.HERD_DEMr_FLOOR 0 r)] := by
  have h2 := hc 2
  have h3 := hc 3
  have h4 := hc 4
  have h5 := hc 5
  simp only [capItems, hg, filter_testBit_two_pow]
  simp_all

/-- A sole item takes the whole budget, whatever its demand and floor. -/
theorem roundShares_sole (r b d f : Nat) (hf : f ≤ d) :
    roundShares 100 [(r, (capShare b d f 1 d f).1, (capShare b d f 1 d f).2)] = [(r, 100 * b)] := by
  have hshare : (capShare b d f 1 d f).1 * 100 / (capShare b d f 1 d f).2 = 100 * b := by
    unfold capShare
    split
    · split
      · simp [Nat.mul_comm]
      · rw [Nat.mul_right_comm, Nat.mul_div_cancel _ (by omega), Nat.mul_comm]
    · split
      · have hnum : f * (d - f) + (b - f) * (d - f) = b * (d - f) := by rw [← Nat.add_mul]; congr 1; omega
        rw [hnum, Nat.mul_right_comm, Nat.mul_div_cancel _ (by omega), Nat.mul_comm]
      · rw [Nat.mul_comm f b, Nat.mul_right_comm, Nat.mul_div_cancel _ (by omega), Nat.mul_comm]
  simp [roundShares, hshare]

/-- The cap that a cycle gives a region. -/
def capOf (rgns : List (Nat × Nat)) (noCap : Prop) [Decidable noCap] (r : Nat) : Nat :=
  match rgns.find? fun c => c.1 = r with
  | some c => if noCap then 0xFF_FFFF else min c.2 0xFF_FFFE
  | none => 0xFF_FFFF

theorem capOf_lt (rgns : List (Nat × Nat)) (noCap : Prop) [Decidable noCap] (r : Nat) : capOf rgns noCap r < 2 ^ 24 := by
  unfold capOf
  split
  · split <;> omega
  · omega

/-- What the end of a cycle leaves of the caps. -/
theorem capCycle_spec {s : State} {r : Rgn} {b : Nat} (hb : (if isRoot s then s.gf F.HERD_CAP_ROOT_W 0 else s.herd.budget) = b)
    (hlt : b < 0xFFFF_FFFF) (hg : s.gf F.HERD_DEM_SRC_GOV 0 = 2 ^ r.val) (hfab : s.gf F.HERD_DEM_SRC_FAB 0 = 0)
    (hc : ∀ p : Fin 6, (s.hport p).child = none) :
    (capCycle s).gf F.HERD_CAP_W 0 = b ∧ ∀ q : Rgn, (capCycle s).gf F.RGN_CAP_CAP (rgB q) = capOf [(r.val, 100 * b)] False q := by
  unfold capCycle
  extract_lets s0 b' items n td tf noCap share kids rgns s1 s2 d f s3 s4 s5
  have h0 : s0 = s := takeDemands_none hfab
  have hitems : items = _ := (congrArg capItems h0).trans (capItems_sole hg hc)
  have hbb : b' = b := hb
  have hno : ¬ noCap := by simp only [noCap, hbb]; omega
  have hrgns : rgns = [(r.val, 100 * b)] := by
    simp only [rgns, share, n, td, tf, hitems, hbb]
    simpa using roundShares_sole r b _ _ (Nat.le_max_left _ _)
  have h3 : s3.regs = ((s.sf F.HERD_CAP_W 0 0 b).wr R.HERD_DEMAND 0 0 d.2).regs := by
    have hf : f.1.regs = s1.regs := by
      rw [watts_regs, watts_regs]
      exact foldl_regs (fun _ _ => (linkOnly_sendFrame _ _ _ _).regs) _ _
    have h1 : s1 = s.sf F.HERD_CAP_W 0 0 b := by rw [← hbb, ← h0]
    rw [sendUp_regs, wr_regs, wr_regs, hf, h1]
  have h5 : s5.regs = s4.regs := foldl_regs (fun _ _ => by rfl) _ _
  have h4 : ∀ q : Rgn, s4.gf F.RGN_CAP_CAP (rgB q) = capOf rgns noCap q := fun q => by
    have := foldl_writeCap (fun i => capOf_lt rgns noCap i) (List.range 16) q s3
    rwa [if_pos (List.mem_range.2 q.isLt)] at this
  have h4w : s4.regs.fld F.HERD_CAP_W 0 0 = b := by
    have hf := foldl_writeCap_fld (val := capOf rgns noCap) (f := F.HERD_CAP_W) (by decide) (List.range 16) 0 0 s3
    refine hf.trans ?_
    rw [h3, wr_regs, sf_regs]
    simp (disch := decide) only [Regs.fld, Regs.word_setWord_off, Regs.setFld, Regs.word_setWord_self]
    rw [Word.bits_setBits_self _ _ _ _ (by decide)]
    exact Nat.mod_eq_of_lt (by simp only [F.HERD_CAP_W]; omega)
  have hcap : ∀ q : Rgn, s5.gf F.RGN_CAP_CAP (rgB q) = capOf [(r.val, 100 * b)] False q := fun q => by
    rw [gf_congr h5, h4 q, hrgns]
    simp [capOf, hno]
  split
  · refine ⟨?_, fun q => ?_⟩
    · rw [gf_congr (raise_regs _ _ _ _), gf_eq_fld, sb_regs, Regs.fld_setFld_off _ _ _ _ _ _ (by decide), h5, h4w]
    · rw [gf_congr (raise_regs _ _ _ _), gf_eq_fld, sb_regs, Regs.fld_setFld_blk _ _ _ _ _ _ _ _ (by decide), ← gf_eq_fld,
        hcap q]
  · exact ⟨by rw [gf_eq_fld, h5, h4w], hcap⟩

theorem capCycle_ends {s : State} {r : Rgn} {b : Nat} (hon : herdSpan s = true ∧ atCapCycle s = true)
    (hb : (if isRoot s then s.gf F.HERD_CAP_ROOT_W 0 else s.herd.budget) = b ∧ b < 0xFFFF_FFFF)
    (hsrc : s.gf F.HERD_DEM_SRC_GOV 0 = 2 ^ r.val ∧ s.gf F.HERD_DEM_SRC_FAB 0 = 0)
    (hc : ∀ p : Fin 6, (s.hport p).child = none) :
    Ends (execCapCycle s) fun t => t.gf F.HERD_CAP_W 0 = b ∧ t.gf F.RGN_CAP_CAP (rgB r) = min (100 * b) 0xFF_FFFE ∧
      ∀ q : Rgn, q ≠ r → t.gf F.RGN_CAP_CAP (rgB q) = 0xFF_FFFF := by
  rw [execCapCycle, if_pos (by simp [hon])]
  apply ends_of_ending
  obtain ⟨hw, hcap⟩ := capCycle_spec hb.1 hb.2 hsrc.1 hsrc.2 hc
  refine ⟨by rw [ending_gf, hw], by rw [ending_gf, hcap]; simp [capOf], fun q hq => ?_⟩
  have hne : ¬ r.val = q.val := fun h => hq (Fin.ext h.symm)
  rw [ending_gf, hcap]
  simp [capOf, hne]

/-- Settles O40: each clause is the lemma about its command. -/
theorem herdTimeAndCaps : Obligations.HerdTimeAndCaps :=
  ⟨fun _ _ hp hup => syncTimer_ends hp hup,
   fun _ _ _ t1 sub turn hin hp hno => sync_ends t1 sub turn hin hp hno,
   fun _ _ _ t1 sub turn hin hp hlate => sync_late_ends t1 sub turn hin hp hlate,
   fun _ _ _ sub hin hp => dreq_ends sub hin hp,
   fun _ _ _ _ _ _ t4 filt hin hex => dresp_ends t4 filt hin hex,
   fun _ _ h => herdTset_ends h,
   fun _ _ h => herdTset_refused_ends h,
   fun _ _ _ w c hin hup => cap_ends w c hin hup,
   fun _ _ _ d f hin hp => demand_ends d f hin hp,
   fun _ _ _ hon hb hsrc hc => capCycle_ends hon hb hsrc hc⟩

end Sys2Proof.Machine

/-! ## Requests for images and the configuration FIFO (R333 to R349) -/

namespace Sys2Proof.Machine

/-! ### The status of a partial load -/

theorem prResult_regs (s : State) (r c : Nat) : (prResult s r c).regs =
    (s.regs.setFld F.CFG_PR_STAT_RESULT 0 0 r).setFld F.CFG_PR_STAT_CAUSE 0 0 c := rfl

theorem prResult_spec (s : State) {r c : Nat} (hr : r < 4) (hc : c < 32) :
    (prResult s r c).gf F.CFG_PR_STAT_RESULT 0 = r ∧ (prResult s r c).gf F.CFG_PR_STAT_CAUSE 0 = c := by
  simp only [gf_eq_fld, prResult_regs]
  refine ⟨?_, ?_⟩
  · rw [Regs.fld_setFld_reg _ _ _ _ _ _ (by decide), Regs.fld_setFld_self _ _ _ _ _ (by decide)]
    exact Nat.mod_eq_of_lt hr
  · rw [Regs.fld_setFld_self _ _ _ _ _ (by decide)]
    exact Nat.mod_eq_of_lt hc

/-- A request that is refused shows its cause and stages nothing. -/
theorem cfgRefuse_spec (s : State) {c : Nat} (hc : c < 32) : (cfgRefuse s c).gf F.CFG_PR_STAT_RESULT 0 = 3 ∧
    (cfgRefuse s c).gf F.CFG_PR_STAT_CAUSE 0 = c ∧ (cfgRefuse s c).gb F.CFG_EVT_REJECT 0 = true := by
  obtain ⟨h3, hcause⟩ := prResult_spec s (r := 3) (by decide) hc
  rw [gf_eq_fld] at h3 hcause
  simp only [cfgRefuse, gf_eq_fld, gb_eq_fld, sb_regs]
  refine ⟨?_, ?_, Regs.flag_setFld_self _ _ _ _ true (by decide)⟩
  · rw [Regs.fld_setFld_off _ _ _ _ _ _ (by decide), h3]
  · rw [Regs.fld_setFld_off _ _ _ _ _ _ (by decide), hcause]

theorem cfgRefuse_cfg (s : State) (c : Nat) : (cfgRefuse s c).cfg = s.cfg := rfl

/-- A partial load that begins is staging, with no result. -/
theorem prBegin_spec (s : State) (p : PrS) : (prBegin s p).cfg.pr = some p ∧ (prBegin s p).gf F.CFG_PR_STAT_STATE 0 = 1 ∧
    (prBegin s p).gf F.CFG_PR_STAT_RESULT 0 = 0 := by
  have hregs : (prBegin s p).regs = (prResult s 0 0).regs.setFld F.CFG_PR_STAT_STATE 0 0 1 := rfl
  refine ⟨rfl, ?_, ?_⟩
  · rw [gf_eq_fld, hregs, Regs.fld_setFld_self _ _ _ _ _ (by decide)]
    rfl
  · rw [gf_eq_fld, hregs, Regs.fld_setFld_reg _ _ _ _ _ _ (by decide)]
    exact (prResult_spec s (by decide) (by decide)).1

theorem prBegin_fld (s : State) (p : PrS) {f : Fld} (b n : Nat)
    (h : f.reg.blk ≠ .cfg ∨ f.reg.addr b n ≠ R.CFG_PR_STAT.addr 0 0) : (prBegin s p).regs.fld f b n = s.regs.fld f b n := by
  have hregs : (prBegin s p).regs = ((s.regs.setFld F.CFG_PR_STAT_RESULT 0 0 0).setFld F.CFG_PR_STAT_CAUSE 0 0 0).setFld
    F.CFG_PR_STAT_STATE 0 0 1 := rfl
  rw [hregs, Regs.fld_setFld_ne _ _ h, Regs.fld_setFld_ne _ _ h, Regs.fld_setFld_ne _ _ h]

/-! ### CFG_PR_CMD (R16) -/

/-- The state in which a load from the source begins: the source stands in CFG_PR_CMD. -/
def State.sourced (s : State) (src : Nat) : State := s.sf F.CFG_PR_CMD_SRC 0 0 src

theorem sourced_rd (s : State) (src : Nat) {r : Reg} (h : r.blk ≠ .cfg ∨ r.addr 0 0 ≠ R.CFG_PR_CMD.addr 0 0) :
    (s.sourced src).rd r 0 = s.rd r 0 := by
  rw [rd_eq_word, State.sourced, sf_regs]
  exact Regs.word_setWord_ne _ _ h

theorem sourced_gf (s : State) (src : Nat) {f : Fld} (h : f.reg.blk ≠ .cfg ∨ f.reg.addr 0 0 ≠ R.CFG_PR_CMD.addr 0 0) :
    (s.sourced src).gf f 0 = s.gf f 0 := by rw [State.gf, State.gf, sourced_rd s src h]

theorem sourced_imageRuns (s : State) (src : Nat) : imageRuns (s.sourced src) = imageRuns s := by
  rw [imageRuns, imageRuns, State.gb, State.gb, sourced_gf s src (by decide)]

theorem sourced_awaitsHost (s : State) (src : Nat) : awaitsHost (s.sourced src) = awaitsHost s := by
  simp only [awaitsHost, sourced_gf s src (f := F.CFG_STAT_STATE) (by decide)]
  rfl

/-- A START written to CFG_PR_CMD with a source begins that load, with the source in the register. -/
theorem prCmdBy_eq {s : State} {a : Reader} {v : Word} {src : Nat} (hr : reaches s a R.CFG_PR_CMD.off = true)
    (hst : s.gb F.CFG_PR_CMD_START 0 = false) (hv : fOf v F.CFG_PR_CMD_SRC = src ∧ src < 3 ∧ fOf v F.CFG_PR_CMD_START ≠ 0) :
    prCmdBy s a v = cfgLoad (s.sourced src) a src := by
  obtain ⟨hsrc, hlt, hstart⟩ := hv
  have hback : (s.sf F.CFG_PR_CMD_SRC 0 0 src).gf F.CFG_PR_CMD_SRC 0 = src := by
    rw [gf_eq_fld, sf_regs, Regs.fld_setFld_self _ _ _ _ _ (by decide)]
    exact Nat.mod_eq_of_lt (Nat.lt_trans hlt (by decide))
  have hno : ¬ (fOf v F.CFG_PR_CMD_START = 0 ∨ s.gb F.CFG_PR_CMD_START 0 = true) := by simp [hstart, hst]
  rw [prCmdBy, State.byPath, if_pos hr, prCmdWrite, hsrc, if_neg hno, if_neg (show ¬ src = 3 by omega), hback]
  rfl

/-- The running image's part of a request: the START bit, and the load that begins. -/
theorem startBit_prBegin (s : State) (p : PrS) : (prBegin (s.sb F.CFG_PR_CMD_START 0 0 true) p).gb F.CFG_PR_CMD_START 0 = true := by
  rw [gb_eq_fld, prBegin_fld _ _ _ _ (by decide), sb_regs]
  exact Regs.flag_setFld_self _ _ _ _ true (by decide)

section
variable {s : State} {a : Reader}

/-- While an image runs and no load does, a request from flash stages a partial image. -/
theorem cfgLoad_flash (hrun : imageRuns s = true) (hpr : s.cfg.pr = none) : cfgLoad s a 0 =
    (prBegin (s.sb F.CFG_PR_CMD_START 0 0 true)
      ⟨LoadS.start (.flash false) (s.rd R.CFG_PR_ADDR 0) 0, some a, 0, 0, false, false⟩).emit (.flash 0 (s.rd R.CFG_PR_ADDR 0) []) := by
  unfold cfgLoad
  rw [if_pos hrun, hpr]
  rfl

theorem cfgLoad_host {p : Fin 2} (hp : portOf a = some p) (hrun : imageRuns s = true) (hpr : s.cfg.pr = none) : cfgLoad s a 1 =
    (prBegin (s.sb F.CFG_PR_CMD_START 0 0 true)
      ⟨LoadS.start (.host p) 0 0, some a, 0, s.gf F.CFG_LEN_LEN 0, false, false⟩).emit
        (.dmaRead (s.rd64 R.CFG_HOST_ADDR 0) (s.gf F.CFG_LEN_LEN 0)) := by
  unfold cfgLoad
  rw [if_pos hrun, hpr, hp]
  rfl

theorem cfgLoad_noPort (hp : portOf a = none) (hrun : imageRuns s = true) (hpr : s.cfg.pr = none) :
    cfgLoad s a 1 = cfgRefuse s 0x14 := by
  unfold cfgLoad
  rw [if_pos hrun, hpr, hp]
  rfl

theorem cfgLoad_busy {p : PrS} {src : Nat} (hrun : imageRuns s = true) (hpr : s.cfg.pr = some p) :
    cfgLoad s a src = cfgRefuse s 0x10 := by
  unfold cfgLoad
  rw [if_pos hrun, hpr]
  rfl

/-- Before an image runs, a request from the FIFO begins the one attempt at a full image. -/
theorem cfgLoad_fifo (hrun : imageRuns s = false) (haw : awaitsHost s = true) : cfgLoad s a 2 =
    hostLoad ((s.sb F.CFG_PR_CMD_START 0 0 true).setCfg { s.cfg with fifo := [] }) .fifo 4 := by
  unfold cfgLoad
  rw [if_neg (by simp [hrun]), if_pos haw]
  rfl

end

end Sys2Proof.Machine

/-! ## What each request for an image leaves (R333 to R349) -/

namespace Sys2Proof.Machine

theorem sourced_rd64 (s : State) (src : Nat) : (s.sourced src).rd64 R.CFG_HOST_ADDR 0 = s.rd64 R.CFG_HOST_ADDR 0 := by
  have hlo : (s.sourced src).rd R.CFG_HOST_ADDR 0 = s.rd R.CFG_HOST_ADDR 0 := sourced_rd s src (by decide)
  have hhi : (s.sourced src).rd ⟨.cfg, 0x1002C, 0⟩ 0 = s.rd ⟨.cfg, 0x1002C, 0⟩ 0 := sourced_rd s src (by decide)
  exact congrArg₂ DWord.ofHalves hlo hhi

section
variable {s : State} {a : Reader}

theorem cfgLoadFlash_ends (hr : reaches s a R.CFG_PR_CMD.off = true) (hrun : imageRuns s = true)
    (hpr : s.cfg.pr = none) (hst : s.gb F.CFG_PR_CMD_START 0 = false) :
    Ends (execCfgLoadFlash a s) fun t => t.gb F.CFG_PR_CMD_START 0 = true ∧ t.gf F.CFG_PR_STAT_STATE 0 = 1 ∧
      t.gf F.CFG_PR_STAT_RESULT 0 = 0 ∧
      t.cfg.pr = some ⟨LoadS.start (.flash false) (s.rd R.CFG_PR_ADDR 0) 0, some a, 0, 0, false, false⟩ ∧
      .flash 0 (s.rd R.CFG_PR_ADDR 0) [] ∈ t.out := by
  rw [execCfgLoadFlash, prCmdBy_eq (v := 1) (src := 0) hr hst (by decide),
    cfgLoad_flash ((sourced_imageRuns s 0).trans hrun) hpr, sourced_rd s 0 (by decide)]
  apply ends_of_ending
  generalize (⟨LoadS.start (.flash false) (s.rd R.CFG_PR_ADDR 0) 0, some a, 0, 0, false, false⟩ : PrS) = p
  obtain ⟨h1, h2, h3⟩ := prBegin_spec ((s.sourced 0).sb F.CFG_PR_CMD_START 0 0 true) p
  rw [ending_gb, ending_gf, ending_gf, ending_cfg, gb_congr (emit_regs _ _), gf_congr (emit_regs _ _), gf_congr (emit_regs _ _),
    emit_cfg]
  exact ⟨startBit_prBegin _ _, h2, h3, h1, mem_ending_out (mem_emit_out _ _)⟩

theorem cfgLoadFlash_busy_ends {p : PrS} (hr : reaches s a R.CFG_PR_CMD.off = true) (hrun : imageRuns s = true)
    (hpr : s.cfg.pr = some p) (hst : s.gb F.CFG_PR_CMD_START 0 = false) :
    Ends (execCfgLoadFlash a s) fun t => t.gf F.CFG_PR_STAT_RESULT 0 = 3 ∧ t.gf F.CFG_PR_STAT_CAUSE 0 = 0x10 ∧
      t.gb F.CFG_EVT_REJECT 0 = true ∧ t.cfg.pr = some p := by
  rw [execCfgLoadFlash, prCmdBy_eq (v := 1) (src := 0) hr hst (by decide),
    cfgLoad_busy ((sourced_imageRuns s 0).trans hrun) (p := p) hpr]
  apply ends_of_ending
  obtain ⟨h1, h2, h3⟩ := cfgRefuse_spec (s.sourced 0) (c := 0x10) (by decide)
  rw [ending_gb, ending_gf, ending_gf, ending_cfg]
  exact ⟨h1, h2, h3, hpr⟩

theorem cfgLoadHostDma_ends {p : Fin 2} (hr : reaches s a R.CFG_PR_CMD.off = true) (hp : portOf a = some p)
    (hrun : imageRuns s = true) (hpr : s.cfg.pr = none) (hst : s.gb F.CFG_PR_CMD_START 0 = false) :
    Ends (execCfgLoadHostDma a s) fun t =>
      t.cfg.pr = some ⟨LoadS.start (.host p) 0 0, some a, 0, s.gf F.CFG_LEN_LEN 0, false, false⟩ ∧
        .dmaRead (s.rd64 R.CFG_HOST_ADDR 0) (s.gf F.CFG_LEN_LEN 0) ∈ t.out := by
  rw [execCfgLoadHostDma, prCmdBy_eq (v := 0x1_0001) (src := 1) hr hst (by decide),
    cfgLoad_host hp ((sourced_imageRuns s 1).trans hrun) hpr, sourced_gf s 1 (by decide), sourced_rd64]
  apply ends_of_ending
  rw [ending_cfg, emit_cfg]
  exact ⟨(prBegin_spec _ _).1, mem_ending_out (mem_emit_out _ _)⟩

theorem cfgLoadHostDma_noPort_ends (hr : reaches s a R.CFG_PR_CMD.off = true) (hp : portOf a = none)
    (hrun : imageRuns s = true) (hpr : s.cfg.pr = none) (hst : s.gb F.CFG_PR_CMD_START 0 = false) :
    Ends (execCfgLoadHostDma a s) fun t => t.gf F.CFG_PR_STAT_RESULT 0 = 3 ∧ t.gf F.CFG_PR_STAT_CAUSE 0 = 0x14 ∧
      t.cfg.pr = none := by
  rw [execCfgLoadHostDma, prCmdBy_eq (v := 0x1_0001) (src := 1) hr hst (by decide),
    cfgLoad_noPort hp ((sourced_imageRuns s 1).trans hrun) hpr]
  apply ends_of_ending
  obtain ⟨h1, h2, _⟩ := cfgRefuse_spec (s.sourced 1) (c := 0x14) (by decide)
  rw [ending_gf, ending_gf, ending_cfg]
  exact ⟨h1, h2, hpr⟩

/-- A full load from the host or the FIFO shows its source. -/
theorem hostLoad_spec (s : State) (src : ImgSrc) {k : Nat} (hk : k < 16) :
    (hostLoad s src k).cfg.load = some (LoadS.start src 0 0) ∧ (hostLoad s src k).cfg.fifo = s.cfg.fifo ∧
      (hostLoad s src k).gf F.CFG_STAT_STATE 0 = 2 ∧ (hostLoad s src k).gf F.CFG_STAT_SOURCE 0 = k := by
  have hregs : (hostLoad s src k).regs = (((s.regs.setFld F.CFG_STAT_STATE 0 0 2).setFld F.CFG_STAT_SOURCE 0 0 k).setFld
    F.CFG_STAT_ATTEMPT 0 0 1).setFld F.CFG_STAT_CFG_ERR 0 0 0 := rfl
  refine ⟨rfl, rfl, ?_, ?_⟩
  · rw [gf_eq_fld, hregs]
    simp (disch := decide) only [Regs.fld_setFld_reg]
    rw [Regs.fld_setFld_self _ _ _ _ _ (by decide)]
    rfl
  · rw [gf_eq_fld, hregs]
    simp (disch := decide) only [Regs.fld_setFld_reg]
    rw [Regs.fld_setFld_self _ _ _ _ _ (by decide)]
    exact Nat.mod_eq_of_lt hk

theorem cfgLoadFifo_ends (hr : reaches s a R.CFG_PR_CMD.off = true) (hw : imageRuns s = false ∧ awaitsHost s = true)
    (hst : s.gb F.CFG_PR_CMD_START 0 = false) :
    Ends (execCfgLoadFifo a s) fun t => t.cfg.load = some (LoadS.start .fifo 0 0) ∧ t.cfg.fifo = [] ∧
      t.gf F.CFG_STAT_STATE 0 = 2 ∧ t.gf F.CFG_STAT_SOURCE 0 = 4 := by
  rw [execCfgLoadFifo, prCmdBy_eq (v := 0x2_0001) (src := 2) hr hst (by decide),
    cfgLoad_fifo ((sourced_imageRuns s 2).trans hw.1) ((sourced_awaitsHost s 2).trans hw.2)]
  apply ends_of_ending
  obtain ⟨h1, h2, h3, h4⟩ := hostLoad_spec
    (((s.sourced 2).sb F.CFG_PR_CMD_START 0 0 true).setCfg { (s.sourced 2).cfg with fifo := [] }) .fifo (k := 4) (by decide)
  rw [ending_gf, ending_gf, ending_cfg]
  exact ⟨h1, h2, h3, h4⟩

theorem cfgLoadFifo_unreached_ends (hr : reaches s a R.CFG_PR_CMD.off = false) :
    Ends (execCfgLoadFifo a s) fun t => t.cfg = s.cfg ∧ t.regs = s.regs := by
  rw [execCfgLoadFifo, prCmdBy, State.byPath, if_neg (by simp [hr])]
  apply ends_of_ending
  exact ⟨ending_cfg s s, ending_regs s s⟩

/-! ### The FIFO (R334) -/

theorem cfgFifoWrite_ends {v : Word} (hr : reaches s a R.CFG_FIFO.off = true) (hroom : s.cfg.fifo.length < 1024) :
    Ends (execCfgFifoWrite a v s) fun t => t.cfg.fifo = s.cfg.fifo ++ [v] := by
  rw [execCfgFifoWrite, State.byPath, if_pos hr, fifoWrite, if_pos hroom]
  apply ends_of_ending
  rw [ending_cfg]
  rfl

end

/-- CFG_FIFO_STAT.OVF is untouched: every register that differs has another address. -/
def OvfKept (s t : State) : Prop := t.gb F.CFG_FIFO_STAT_OVF 0 = s.gb F.CFG_FIFO_STAT_OVF 0

theorem OvfKept.sf {s t : State} {f : Fld} {v : Nat} (h : OvfKept s t)
    (hf : f.reg.blk ≠ .cfg ∨ f.reg.off ≠ F.CFG_FIFO_STAT_OVF.reg.off ∧ f.reg.stride = 0) : OvfKept s (t.sf f 0 0 v) := by
  refine Eq.trans ?_ h
  simp only [gb_eq_fld, sf_regs]
  rw [Regs.fld_setFld_ne]
  refine hf.imp Ne.symm fun ho => ?_
  simp only [Reg.addr, ho.2]
  have := ho.1.symm
  simpa using this

theorem OvfKept.regs {s t u : State} (h : OvfKept s t) (hr : u.regs = t.regs) : OvfKept s u := (gb_congr hr _ _ _).trans h

theorem log_regs (s : State) (x : Src) (c : Nat) (d : BitVec 80) : (s.log x c d).regs = s.regs := by
  obtain ⟨_, h⟩ := log_eq s x c d
  rw [h]

theorem OvfKept.refl (s : State) : OvfKept s s := rfl

theorem ovfKept_beginAttempt {s t : State} (h : OvfKept s t) (n : Nat) : OvfKept s (beginAttempt t n) := by
  unfold beginAttempt
  extract_lets golden cfg s1
  have h1 : OvfKept s s1 :=
    (((h.sf (f := F.CFG_STAT_STATE) (by decide)).sf (f := F.CFG_STAT_SOURCE) (by decide)).sf (f := F.CFG_STAT_ATTEMPT)
      (by decide)).regs (setCfg_regs _ _)
  exact h1.regs (emit_regs _ _)

theorem ovfKept_failAttempt {s t : State} (h : OvfKept s t) (c : Nat) (auth : Bool) : OvfKept s (failAttempt t c auth) := by
  unfold failAttempt
  extract_lets n flash verifying cfg s1 s2 sett s3
  have h1 : OvfKept s s1 := (h.sf (f := F.CFG_STAT_CAUSE) (by decide)).regs (setCfg_regs _ _)
  have h2 : OvfKept s s2 := by
    cases auth
    · exact h1.regs (log_regs _ _ _ _)
    · exact (h1.sf (f := F.SEC_EVT_AUTH_FAIL) (by decide)).regs (log_regs _ _ _ _)
  have h3 : OvfKept s s3 := by
    dsimp only [s3]
    split
    · exact h2.regs (logMode_regs _)
    · exact h2
  split
  · exact ovfKept_beginAttempt h3 _
  · exact (((h3.sf (f := F.CFG_STAT_STATE) (by decide)).sf (f := F.CFG_STAT_CFG_ERR) (by decide)).sf
      (f := F.CFG_PR_CMD_START) (by decide)).sf (f := F.CFG_STAT_SOURCE) (by decide)

theorem ovfKept_prLeave {s t : State} (h : OvfKept s t) (r c : Nat) : OvfKept s (prLeave t r c) := by
  unfold prLeave
  split
  · exact h
  · rename_i p _
    have h1 : OvfKept s (((prResult t r c).sf F.CFG_PR_STAT_STATE 0 0 0).setCfg { t.cfg with pr := none }) :=
      (((h.sf (f := F.CFG_PR_STAT_RESULT) (by decide)).sf (f := F.CFG_PR_STAT_CAUSE) (by decide)).sf (f := F.CFG_PR_STAT_STATE)
        (by decide)).regs (setCfg_regs _ _)
    split
    · exact h1.regs (emit_regs _ _)
    · exact h1.sf (f := F.SEC_FENCE_CMD_START) (by decide)
    · exact h1.sf (f := F.CFG_PR_CMD_START) (by decide)

theorem ovfKept_prFail {s t : State} (h : OvfKept s t) (c : Nat) (auth : Bool) : OvfKept s (prFail t c auth) := by
  unfold prFail
  extract_lets s1
  have h1 : OvfKept s s1 := (ovfKept_prLeave h _ _).sf (f := F.CFG_EVT_PR_FAIL) (by decide)
  split
  · exact h1.sf (f := F.SEC_EVT_AUTH_FAIL) (by decide)
  · exact h1

/-- A full FIFO flags the overflow, whatever load fails for it. -/
theorem fifoWrite_overflow {s : State} (v : Word) (hfull : ¬ s.cfg.fifo.length < 1024) :
    (fifoWrite s v).gb F.CFG_FIFO_STAT_OVF 0 = true := by
  unfold fifoWrite
  rw [if_neg hfull]
  extract_lets s1
  have hs1 : s1.gb F.CFG_FIFO_STAT_OVF 0 = true := Regs.flag_setFld_self _ _ _ _ true (by decide)
  have keep : ∀ t : State, OvfKept s1 t → t.gb F.CFG_FIFO_STAT_OVF 0 = true := fun t ht => Eq.trans ht hs1
  split
  · split
    · exact keep _ (ovfKept_failAttempt (OvfKept.refl s1) _ _)
    · exact hs1
  · split
    · exact keep _ (ovfKept_prFail (OvfKept.refl s1) _ _)
    · exact hs1
  · exact hs1

theorem cfgFifoWrite_full_ends {s : State} {a : Reader} {v : Word} (hr : reaches s a R.CFG_FIFO.off = true)
    (hfull : ¬ s.cfg.fifo.length < 1024) :
    Ends (execCfgFifoWrite a v s) fun t => t.gb F.CFG_FIFO_STAT_OVF 0 = true := by
  rw [execCfgFifoWrite, State.byPath, if_pos hr]
  apply ends_of_ending
  rw [ending_gb]
  exact fifoWrite_overflow v hfull

/-! ### The configuration ports and the fenced command (R346, R349) -/

section
variable {s : State} {r : Rgn}

theorem portLoad_eq (src : ImgSrc) (base : Word) (hpr : s.cfg.pr = none) (hrun : imageRuns s = true) :
    portLoad s r src base = prBegin s ⟨LoadS.start src base 0, none, r, 0, false, false⟩ := by
  rw [portLoad, if_neg (by simp [hpr, hrun])]

theorem portLoadFlash_ends {a : Word} (h : s.cfg.pr = none ∧ imageRuns s = true ∧ s.clk r = 0) :
    Ends (execPortLoadFlash r a s) fun t =>
      t.cfg.pr = some ⟨LoadS.start (.flash false) a 0, none, r, 0, false, false⟩ ∧ t.gf F.CFG_PR_STAT_STATE 0 = 1 ∧
        .flash 0 a [] ∈ t.out := by
  obtain ⟨hpr, hrun, hclk⟩ := h
  rw [execPortLoadFlash, if_neg (by simp [hclk]), if_pos (by simp [hpr, hrun]), portLoad_eq _ _ hpr hrun]
  apply ends_of_ending
  generalize (⟨LoadS.start (.flash false) a 0, none, r, 0, false, false⟩ : PrS) = p
  obtain ⟨h1, h2, _⟩ := prBegin_spec s p
  rw [ending_gf, ending_cfg, gf_congr (emit_regs _ _), emit_cfg]
  exact ⟨h1, h2, mem_ending_out (mem_emit_out _ _)⟩

theorem portLoadQueue_ends {q : Fin 16} (h : s.cfg.pr = none ∧ imageRuns s = true ∧ s.clk r = 0)
    (hw : 2 ≤ s.gf F.QC_CFG_WIDTH (fabB r) q) :
    Ends (execPortLoadQueue r q s) fun t =>
      t.cfg.pr = some ⟨LoadS.start (.queue r q) 0 0, none, r, 0, false, false⟩ ∧ t.gf F.CFG_PR_STAT_STATE 0 = 1 := by
  obtain ⟨hpr, hrun, hclk⟩ := h
  rw [execPortLoadQueue, if_neg (by omega), portLoad_eq _ _ hpr hrun]
  apply ends_of_ending
  generalize (⟨LoadS.start (.queue r q) 0 0, none, r, 0, false, false⟩ : PrS) = p
  obtain ⟨h1, h2, _⟩ := prBegin_spec s p
  rw [ending_gf, ending_cfg]
  exact ⟨h1, h2⟩

/-- The load of a configuration port that leaves. -/
theorem prLeave_port {p : PrS} (hpr : s.cfg.pr = some p) (hby : p.by_ = none) (res c : Nat) :
    (prLeave s res c).cfg.pr = none ∧ (prLeave s res c).gf F.CFG_PR_STAT_STATE 0 = 0 := by
  have hl : prLeave s res c = (((prResult s res c).sf F.CFG_PR_STAT_STATE 0 0 0).setCfg { s.cfg with pr := none }).emit
      (.cfgPort p.port.val res c) := by
    unfold prLeave
    rw [hpr]
    dsimp only
    rw [hby]
  rw [hl, emit_cfg, gf_congr (emit_regs _ _)]
  refine ⟨rfl, ?_⟩
  rw [gf_eq_fld]
  exact Regs.fld_setFld_self _ _ _ _ _ (by decide)

theorem portAbort_ends {p : PrS} (h : s.cfg.pr = some p ∧ s.clk r = 0) (hp : p.by_ = none ∧ p.port = r)
    (hst : s.gf F.CFG_PR_STAT_STATE 0 = 1 ∨ s.gf F.CFG_PR_STAT_STATE 0 = 2) :
    Ends (execPortAbort r s) fun t => t.cfg.pr = none ∧ t.gf F.CFG_PR_STAT_STATE 0 = 0 := by
  obtain ⟨hpr, hclk⟩ := h
  obtain ⟨hby, hport⟩ := hp
  have hcond : (decide (s.clk r.val = 0) && p.by_.isNone && decide (p.port = r) &&
      decide (s.gf F.CFG_PR_STAT_STATE 0 ≤ 2)) = true := by
    have h2 : s.gf F.CFG_PR_STAT_STATE 0 ≤ 2 := by omega
    simp [hclk, hby, hport, h2]
  have hexec : execPortAbort r s = s.after (prLeave s 3 0) := by
    unfold execPortAbort
    rw [hpr]
    dsimp only
    rw [if_pos hcond]
  rw [hexec]
  apply ends_of_ending
  rw [ending_cfg, ending_gf]
  exact prLeave_port hpr hby 3 0

theorem fencedLoad_ends {a : Reader} {p : Fin 2} (hr : reaches s a R.SEC_FENCE_CMD.off = true) (hp : portOf a = some p)
    (hst : s.gb F.SEC_FENCE_CMD_START 0 = false) (h : s.cfg.pr = none ∧ imageRuns s = true) :
    Ends (execFencedLoad a s) fun t => t.gb F.SEC_FENCE_CMD_START 0 = true ∧
      t.cfg.pr = some ⟨LoadS.start (.secure p) 0 0, some a, 0, s.gf F.SEC_FENCE_LEN_LEN 0, false, false⟩ ∧
        .dmaRead (s.rd64 R.SEC_FENCE_ADDR 0) (s.gf F.SEC_FENCE_LEN_LEN 0) ∈ t.out := by
  obtain ⟨hpr, hrun⟩ := h
  have hwrite : fenceWrite s a 1 = (prBegin (s.sb F.SEC_FENCE_CMD_START 0 0 true)
      ⟨LoadS.start (.secure p) 0 0, some a, 0, s.gf F.SEC_FENCE_LEN_LEN 0, false, false⟩).emit
        (.dmaRead (s.rd64 R.SEC_FENCE_ADDR 0) (s.gf F.SEC_FENCE_LEN_LEN 0)) := by
    have h1 : ¬ (fOf 1 F.SEC_FENCE_CMD_START = 0 ∨ s.gb F.SEC_FENCE_CMD_START 0 = true) := by
      rw [hst]
      decide
    unfold fenceWrite
    rw [if_neg h1, hp]
    dsimp only
    rw [if_neg (by simp [hpr, hrun])]
  rw [execFencedLoad, State.byPath, if_pos hr, hwrite]
  apply ends_of_ending
  generalize (⟨LoadS.start (.secure p) 0 0, some a, 0, s.gf F.SEC_FENCE_LEN_LEN 0, false, false⟩ : PrS) = x
  rw [ending_gb, ending_cfg, gb_congr (emit_regs _ _), emit_cfg]
  refine ⟨?_, (prBegin_spec _ _).1, mem_ending_out (mem_emit_out _ _)⟩
  rw [gb_eq_fld, prBegin_fld _ _ _ _ (by decide), sb_regs]
  exact Regs.flag_setFld_self _ _ _ _ true (by decide)

end

/-- Settles O31: each clause is the lemma about its request. -/
theorem loadRequests : Obligations.LoadRequests :=
  ⟨fun _ _ hr hrun hpr hst => cfgLoadFlash_ends hr hrun hpr hst,
   fun _ _ _ hr hrun hpr hst => cfgLoadFlash_busy_ends hr hrun hpr hst,
   fun _ _ _ hr hp hrun hpr hst => cfgLoadHostDma_ends hr hp hrun hpr hst,
   fun _ _ hr hp hrun hpr hst => cfgLoadHostDma_noPort_ends hr hp hrun hpr hst,
   fun _ _ hr hw hst => cfgLoadFifo_ends hr hw hst,
   fun _ _ hr => cfgLoadFifo_unreached_ends hr,
   fun _ _ _ hr hroom => cfgFifoWrite_ends hr hroom,
   fun _ _ _ hr hfull => cfgFifoWrite_full_ends hr hfull,
   fun _ _ _ h => portLoadFlash_ends h,
   fun _ _ _ h hw => portLoadQueue_ends h hw,
   fun _ _ _ h hp hst => portAbort_ends h hp hst,
   fun _ _ _ hr hp hst h => fencedLoad_ends hr hp hst h⟩

end Sys2Proof.Machine

/-! ## OTP commands (R326, R327, R351, R529) -/

namespace Sys2Proof.Machine

/-! ### SEC_OTP_CMD and SEC_OTP_STAT -/

theorem otpResult_regs (s : State) (r c : Nat) : (otpResult s r c).regs =
    (s.regs.setFld F.SEC_OTP_STAT_RESULT 0 0 r).setFld F.SEC_OTP_STAT_CAUSE 0 0 c := rfl

theorem otpResult_fld (s : State) (r c : Nat) {f : Fld} (h : f.reg.off ≠ R.SEC_OTP_STAT.off ∧ f.reg.stride = 0) :
    (otpResult s r c).regs.fld f 0 0 = s.regs.fld f 0 0 := by
  rw [otpResult_regs, Regs.fld_setFld_off _ _ _ _ _ _ h, Regs.fld_setFld_off _ _ _ _ _ _ h]

theorem otpResult_spec (s : State) {r c : Nat} (hr : r < 4) (hc : c < 16) :
    (otpResult s r c).gf F.SEC_OTP_STAT_RESULT 0 = r ∧ (otpResult s r c).gf F.SEC_OTP_STAT_CAUSE 0 = c := by
  simp only [gf_eq_fld, otpResult_regs]
  refine ⟨?_, ?_⟩
  · rw [Regs.fld_setFld_reg _ _ _ _ _ _ (by decide), Regs.fld_setFld_self _ _ _ _ _ (by decide)]
    exact Nat.mod_eq_of_lt hr
  · rw [Regs.fld_setFld_self _ _ _ _ _ (by decide)]
    exact Nat.mod_eq_of_lt hc

/-- The OP, VALUE and GUARD of a command stand in SEC_OTP_CMD. -/
def State.otpLoaded (s : State) (op value guard : Nat) : State :=
  ((s.sf F.SEC_OTP_CMD_OP 0 0 op).sf F.SEC_OTP_CMD_VALUE 0 0 value).sf F.SEC_OTP_CMD_GUARD 0 0 guard

theorem otpLoaded_fld (s : State) (op value guard : Nat) {f : Fld}
    (h : f.reg.off ≠ R.SEC_OTP_CMD.off ∧ f.reg.stride = 0 ∨ f = F.SEC_OTP_CMD_START) :
    (s.otpLoaded op value guard).regs.fld f 0 0 = s.regs.fld f 0 0 := by
  simp only [State.otpLoaded, sf_regs]
  rcases h with h | rfl
  · rw [Regs.fld_setFld_off _ _ _ _ _ _ h, Regs.fld_setFld_off _ _ _ _ _ _ h, Regs.fld_setFld_off _ _ _ _ _ _ h]
  · rw [Regs.fld_setFld_reg _ _ _ _ _ _ (by decide), Regs.fld_setFld_reg _ _ _ _ _ _ (by decide),
      Regs.fld_setFld_reg _ _ _ _ _ _ (by decide)]

theorem otpLoaded_op (s : State) {op : Nat} (value guard : Nat) (h : op < 16) :
    (s.otpLoaded op value guard).gf F.SEC_OTP_CMD_OP 0 = op := by
  rw [gf_eq_fld, State.otpLoaded, sf_regs, sf_regs, sf_regs, Regs.fld_setFld_reg _ _ _ _ _ _ (by decide),
    Regs.fld_setFld_reg _ _ _ _ _ _ (by decide), Regs.fld_setFld_self _ _ _ _ _ (by decide)]
  exact Nat.mod_eq_of_lt h

/-- The fields of the word of a command. -/
theorem otpWord32_fields {op value guard : Nat} (ho : op < 16) (hv : value < 256) (hg : guard < 256) :
    fOf (otpWord32 op value guard) F.SEC_OTP_CMD_OP = op ∧ fOf (otpWord32 op value guard) F.SEC_OTP_CMD_VALUE = value ∧
      fOf (otpWord32 op value guard) F.SEC_OTP_CMD_GUARD = guard ∧ fOf (otpWord32 op value guard) F.SEC_OTP_CMD_START = 1 := by
  simp only [fOf, otpWord32, Word.bits, F.SEC_OTP_CMD_OP, F.SEC_OTP_CMD_VALUE, F.SEC_OTP_CMD_GUARD, F.SEC_OTP_CMD_START,
    BitVec.toNat_ofNat]
  omega

/-- A command that starts: its OP and VALUE are recorded, and a rollback reads the golden image. -/
def State.otpStarted (s : State) (op value : Nat) : State :=
  let s2 := otpResult ((s.sb F.SEC_OTP_CMD_START 0 0 true).setCfg { s.cfg with otpCmd := (op, value) }) 0 0
  if op = 1 then s2.emit (.flash 0 (otpGoldenAddr s) []) else s2

/-- What a command asks of the state is not in SEC_OTP_CMD. -/
theorem otpCause_otpLoaded (s : State) (op v g : Nat) (a : Reader) (o value guard : Nat) :
    otpCause (s.otpLoaded op v g) a o value guard = otpCause s a o value guard := by
  have keep : ∀ f : Fld, f.reg.off ≠ R.SEC_OTP_CMD.off ∧ f.reg.stride = 0 → (s.otpLoaded op v g).gf f 0 = s.gf f 0 :=
    fun _ h => otpLoaded_fld s op v g (Or.inl h)
  have hdis : (s.otpLoaded op v g).gb F.SEC_STAT_VTEST_DIS 0 = s.gb F.SEC_STAT_VTEST_DIS 0 :=
    congrArg (· != 0) (keep F.SEC_STAT_VTEST_DIS (by decide))
  unfold otpCause
  rw [keep F.SEC_SLOTS_SLOTS (by decide), keep F.SEC_STAT_ROLLBACK (by decide), keep F.CFG_IMAGE_SVN (by decide), hdis]

/-- What a command that starts leaves. -/
theorem otpStarted_spec (s : State) (op value : Nat) : (s.otpStarted op value).gb F.SEC_OTP_CMD_START 0 = true ∧
    (s.otpStarted op value).cfg.otpCmd = (op, value) := by
  have hpre : (otpResult ((s.sb F.SEC_OTP_CMD_START 0 0 true).setCfg { s.cfg with otpCmd := (op, value) }) 0 0).gb
      F.SEC_OTP_CMD_START 0 = true := by
    rw [gb_eq_fld, otpResult_fld _ _ _ (by decide), setCfg_regs, sb_regs]
    exact Regs.flag_setFld_self _ _ _ _ true (by decide)
  unfold State.otpStarted
  extract_lets cfg s2
  split
  · rw [gb_congr (emit_regs _ _), emit_cfg]
    exact ⟨hpre, rfl⟩
  · exact ⟨hpre, rfl⟩

theorem otpStarted_rollback (s : State) (value : Nat) : .flash 0 (otpGoldenAddr s) [] ∈ (s.otpStarted 1 value).out :=
  mem_emit_out _ _

section
variable {s : State} {a : Reader} {op value guard : Nat}

/-- A command written while none runs is judged: refused with its cause, or started. -/
theorem otpWrite_eq (ha : a ≠ .jtag) (hst : s.gb F.SEC_OTP_CMD_START 0 = false) (ho : 1 ≤ op ∧ op ≤ 3) (hv : value < 256)
    (hg : guard < 256) : otpWrite s a (otpWord32 op value guard) =
      if otpCause (s.otpLoaded op value guard) a op value guard ≠ 0 then
        (otpResult (s.otpLoaded op value guard) 3 (otpCause (s.otpLoaded op value guard) a op value guard)).sb F.SEC_EVT_REJECT 0 0 true
      else (s.otpLoaded op value guard).otpStarted op value := by
  obtain ⟨h1, h2, h3, h4⟩ := otpWord32_fields (show op < 16 by omega) hv hg
  have hop := otpLoaded_op s value guard (show op < 16 by omega)
  have hno : ¬ (1 = 0 ∨ s.gb F.SEC_OTP_CMD_START 0 = true ∨ op = 0) := by simp [hst]; omega
  unfold otpWrite
  extract_lets op' s1 c op2 cfg s2
  have hs1 : s1 = s.otpLoaded op value guard := by
    simp only [s1, op', h1, h2, h3, if_pos ho]
    rfl
  have hop1 : op2 = op := (congrArg (fun u => State.gf u F.SEC_OTP_CMD_OP 0) hs1).trans hop
  have hc : c = otpCause (s.otpLoaded op value guard) a op value guard := by
    simp only [c, hs1, hop, h2, h3]
  have hgo : ¬ (fOf (otpWord32 op value guard) F.SEC_OTP_CMD_START = 0 ∨ s.gb F.SEC_OTP_CMD_START 0 = true ∨
      s1.gf F.SEC_OTP_CMD_OP 0 = 0) := by
    rw [hs1, hop, h4, hst]
    simp
    omega
  have hs2 : (if op2 = 1 then s2.emit (.flash 0 (otpGoldenAddr s) []) else s2) = (s.otpLoaded op value guard).otpStarted op value := by
    simp only [s2, hs1, hop1, h2]
    rfl
  rw [if_neg ha, if_neg hgo, hs2, hc, hs1]

/-- A command that is not refused starts, and shows it. -/
theorem otpBy_ends (hr : reaches s a R.SEC_OTP_CMD.off = true ∧ a ≠ .jtag) (hst : s.gb F.SEC_OTP_CMD_START 0 = false)
    (ho : 1 ≤ op ∧ op ≤ 3) (hv : value < 256) (hc : otpCause s a op value 0x5A = 0) :
    Ends (s.after (s.byPath a R.SEC_OTP_CMD.off (otpWrite s a (otpWord32 op value 0x5A)))) fun t =>
      t.gb F.SEC_OTP_CMD_START 0 = true ∧ t.cfg.otpCmd = (op, value) ∧ t.otp = s.otp ∧
        (op = 1 → .flash 0 (otpGoldenAddr s) [] ∈ t.out) := by
  rw [State.byPath, if_pos hr.1, otpWrite_eq hr.2 hst ho hv (by decide), otpCause_otpLoaded, hc, if_neg (by simp)]
  apply ends_of_ending
  obtain ⟨h1, h2⟩ := otpStarted_spec (s.otpLoaded op value 0x5A) op value
  rw [ending_gb, ending_cfg, ending_otp]
  refine ⟨h1, h2, rfl, ?_⟩
  rintro rfl
  exact mem_ending_out (otpStarted_rollback (s.otpLoaded 1 value 0x5A) value)

theorem commitRollback_ends {v : Fin 256} (hr : reaches s a R.SEC_OTP_CMD.off = true ∧ a ≠ .jtag)
    (hst : s.gb F.SEC_OTP_CMD_START 0 = false)
    (hv : v.val ≤ 64 ∧ s.gf F.SEC_STAT_ROLLBACK 0 ≤ v.val ∧ v.val ≤ s.gf F.CFG_IMAGE_SVN 0) :
    Ends (execCommitRollback a v 0x5A s) fun t => t.gb F.SEC_OTP_CMD_START 0 = true ∧ t.cfg.otpCmd = (1, v.val) ∧
      t.otp = s.otp ∧ .flash 0 (otpGoldenAddr s) [] ∈ t.out := by
  have hc : otpCause s a 1 v 0x5A = 0 := by
    unfold otpCause
    simp [hr.2]
    omega
  obtain ⟨t, ht, h1, h2, h3, h4⟩ := otpBy_ends hr hst (by decide) v.isLt hc
  exact ⟨t, ht, h1, h2, h3, h4 rfl⟩

theorem commitRollback_guard_ends {v g : Fin 256} (hr : reaches s a R.SEC_OTP_CMD.off = true ∧ a ≠ .jtag)
    (hst : s.gb F.SEC_OTP_CMD_START 0 = false) (hg : g.val ≠ 0x5A) :
    Ends (execCommitRollback a v g s) fun t => t.gb F.SEC_OTP_CMD_START 0 = false ∧ t.gf F.SEC_OTP_STAT_RESULT 0 = 3 ∧
      t.gf F.SEC_OTP_STAT_CAUSE 0 = 1 ∧ t.gb F.SEC_EVT_REJECT 0 = true := by
  have hc : otpCause s a 1 v g = 1 := by
    unfold otpCause
    rw [if_neg hr.2, if_pos hg]
  rw [execCommitRollback, State.byPath, if_pos hr.1, otpWrite_eq hr.2 hst (by decide) v.isLt g.isLt, otpCause_otpLoaded, hc,
    if_pos (by decide)]
  apply ends_of_ending
  generalize hu : s.otpLoaded 1 v g = u
  have hstu : u.regs.fld F.SEC_OTP_CMD_START 0 0 = s.regs.fld F.SEC_OTP_CMD_START 0 0 := by
    rw [← hu]
    exact otpLoaded_fld _ _ _ _ (Or.inr rfl)
  obtain ⟨h3, h1⟩ := otpResult_spec u (r := 3) (c := 1) (by decide) (by decide)
  rw [gf_eq_fld] at h3 h1
  rw [ending_gb, ending_gb, ending_gf, ending_gf]
  simp only [gb_eq_fld, gf_eq_fld, sb_regs]
  refine ⟨?_, ?_, ?_, Regs.flag_setFld_self _ _ _ _ true (by decide)⟩
  · rw [Regs.fld_setFld_off _ _ _ _ _ _ (by decide), otpResult_fld _ _ _ (by decide), hstu]
    exact hst
  · rw [Regs.fld_setFld_off _ _ _ _ _ _ (by decide), h3]
  · rw [Regs.fld_setFld_off _ _ _ _ _ _ (by decide), h1]

theorem revokeSlot_ends {v : Fin 256} {i : Fin 4} (hr : reaches s a R.SEC_OTP_CMD.off = true ∧ a ≠ .jtag)
    (hst : s.gb F.SEC_OTP_CMD_START 0 = false)
    (hi : i.val ≠ v.val % 4 ∧ (s.gf F.SEC_SLOTS_SLOTS 0 / 16 ^ i.val).testBit 0 = true ∧
      (s.gf F.SEC_SLOTS_SLOTS 0 / 16 ^ i.val).testBit 3 = false) :
    Ends (execRevokeSlot a v 0x5A s) fun t => t.gb F.SEC_OTP_CMD_START 0 = true ∧ t.cfg.otpCmd = (2, v.val) := by
  have hc : otpCause s a 2 v 0x5A = 0 := by
    unfold otpCause
    rw [if_neg hr.2, if_neg (by decide)]
    refine if_pos (List.any_eq_true.2 ⟨i.val, ?_, ?_⟩)
    · have := i.isLt
      simp only [List.mem_cons, List.not_mem_nil, or_false]
      omega
    · simp only [Bool.and_eq_true, bne_iff_ne, Bool.not_eq_true']
      exact ⟨⟨hi.1, hi.2.1⟩, hi.2.2⟩
  obtain ⟨t, ht, h1, h2, _⟩ := otpBy_ends hr hst (by decide) v.isLt hc
  exact ⟨t, ht, h1, h2⟩

theorem blowConsent_ends (hr : reaches s a R.SEC_OTP_CMD.off = true ∧ a ≠ .jtag) (hst : s.gb F.SEC_OTP_CMD_START 0 = false)
    (hv : s.gb F.SEC_STAT_VTEST_DIS 0 = false) :
    Ends (execBlowConsent a 0x5A s) fun t => t.gb F.SEC_OTP_CMD_START 0 = true ∧ t.cfg.otpCmd.1 = 3 := by
  have hc : otpCause s a 3 0 0x5A = 0 := by
    unfold otpCause
    rw [if_neg hr.2, if_neg (by decide)]
    simp [hv]
  obtain ⟨t, ht, h1, h2, _⟩ := otpBy_ends hr hst (by decide) (by decide) hc
  exact ⟨t, ht, h1, congrArg (·.1) h2⟩

end

/-! ### The end of a command -/

theorem ends_afterFuses {s t : State} {p : State → Prop} (h : p { t.settle with pending := s.pending }) :
    Ends (s.afterFuses t) p := ⟨_, rfl, h⟩

/-- A field of OTP and the register that shows it, blown, agree. -/
theorem blow_spec (s : State) {f : Fld} (change : Nat → Nat) (h32 : f.hi < 32)
    (hlt : change (fOf (s.otp.get (f.reg.addr 0 0)) f) < 2 ^ (f.hi + 1 - f.lo)) :
    (blow s f change).gf f 0 = change (fOf (s.otp.get (f.reg.addr 0 0)) f) ∧
      fOf ((blow s f change).otp.get (f.reg.addr 0 0)) f = change (fOf (s.otp.get (f.reg.addr 0 0)) f) := by
  refine ⟨?_, ?_⟩
  · rw [gf_eq_fld]
    exact (Regs.fld_setFld_self _ _ _ _ _ h32).trans (Nat.mod_eq_of_lt hlt)
  · have hotp : (blow s f change).otp.get (f.reg.addr 0 0) =
        (s.otp.get (f.reg.addr 0 0)).setBits f.hi f.lo (change (fOf (s.otp.get (f.reg.addr 0 0)) f)) := Tab.get_set_self _ _ _
    rw [hotp, fOf, Word.bits_setBits_self _ _ _ _ h32]
    exact Nat.mod_eq_of_lt hlt

/-- The golden image read anew passes its checks and is no older than the value. -/
def goldenPasses (s : State) (g : Option RawImage) (v : Nat) : Bool :=
  g.any fun x => decide (imageCause s x = 0 ∧ v ≤ hSvn x.hdr)

/-- A command whose fuses have been blown and verified. -/
def State.otpDone (s : State) (op v : Nat) : State :=
  (otpResult (otpBlow (s.sb F.SEC_OTP_CMD_START 0 0 false) op v) 1 0).sb F.SEC_EVT_OTP_DONE 0 0 true

theorem execOtpCommandDone_eq {s : State} {op v : Nat} (g : Option RawImage) (fuse : Bool)
    (hst : s.gb F.SEC_OTP_CMD_START 0 = true) (hcmd : s.cfg.otpCmd = (op, v)) : execOtpCommandDone g fuse s =
      if op = 1 ∧ goldenPasses s g v = false then
        s.after ((otpResult (s.sb F.SEC_OTP_CMD_START 0 0 false) 3 3).sb F.SEC_EVT_REJECT 0 0 true)
      else if !fuse then s.after (otpResult (s.sb F.SEC_OTP_CMD_START 0 0 false) 3 7)
      else s.afterFuses (s.otpDone op v) := by
  have hop : s.cfg.otpCmd.1 = op := congrArg (·.1) hcmd
  have hv : s.cfg.otpCmd.2 = v := congrArg (·.2) hcmd
  unfold execOtpCommandDone
  extract_lets op' v' ok s1
  have hok : ok = goldenPasses s g v := by
    simp only [ok, v', hv, goldenPasses]
    cases g <;> simp
  rw [if_neg (by simp [hst]), hok]
  simp only [op', v', hop, hv]
  rfl

theorem otpDone_fld (s : State) (op v : Nat) {f : Fld}
    (h : f.reg.off ≠ R.SEC_OTP_STAT.off ∧ f.reg.off ≠ R.SEC_EVT.off ∧ f.reg.stride = 0) :
    (s.otpDone op v).regs.fld f 0 0 = (otpBlow (s.sb F.SEC_OTP_CMD_START 0 0 false) op v).regs.fld f 0 0 := by
  obtain ⟨h1, h2, h3⟩ := h
  rw [State.otpDone, sb_regs, Regs.fld_setFld_off _ _ _ _ _ _ ⟨h2, h3⟩, otpResult_fld _ _ _ ⟨h1, h3⟩]

theorem otpBlow_start (s : State) (op v : Nat) :
    (otpBlow (s.sb F.SEC_OTP_CMD_START 0 0 false) op v).gb F.SEC_OTP_CMD_START 0 = false := by
  have keep : ∀ (f : Fld) (change : Nat → Nat),
      F.SEC_OTP_CMD_START.reg.off ≠ f.reg.off ∧ F.SEC_OTP_CMD_START.reg.stride = f.reg.stride →
      (blow (s.sb F.SEC_OTP_CMD_START 0 0 false) f change).gb F.SEC_OTP_CMD_START 0 = false := by
    intro f change h
    have hregs : (blow (s.sb F.SEC_OTP_CMD_START 0 0 false) f change).regs =
      (s.sb F.SEC_OTP_CMD_START 0 0 false).regs.setFld f 0 0 (change (fOf (s.otp.get (f.reg.addr 0 0)) f)) := rfl
    rw [gb_eq_fld, hregs, Regs.fld_setFld_off _ _ _ _ _ _ h, sb_regs]
    exact Regs.flag_setFld_self _ _ _ _ false (by decide)
  unfold otpBlow
  split
  · exact keep F.SEC_STAT_ROLLBACK _ (by decide)
  · exact keep F.SEC_SLOTS_SLOTS _ (by decide)
  · exact keep F.SEC_STAT_CONSENT _ (by decide)

theorem otpDone_spec (s : State) (op v : Nat) : (s.otpDone op v).gb F.SEC_OTP_CMD_START 0 = false ∧
    (s.otpDone op v).gf F.SEC_OTP_STAT_RESULT 0 = 1 ∧ (s.otpDone op v).gb F.SEC_EVT_OTP_DONE 0 = true := by
  refine ⟨?_, ?_, Regs.flag_setFld_self _ _ _ _ true (by decide)⟩
  · rw [gb_eq_fld, otpDone_fld s op v (by decide)]
    exact otpBlow_start s op v
  · rw [gf_eq_fld, State.otpDone, sb_regs, Regs.fld_setFld_off _ _ _ _ _ _ (by decide)]
    exact (otpResult_spec _ (by decide) (by decide)).1

section
variable {s : State} {v : Nat} {g : Option RawImage}

theorem otpDone_rollback (s : State) (v : Nat) :
    (s.otpDone 1 v).gf F.SEC_STAT_ROLLBACK 0 = max (fOf (s.otp.get (R.SEC_STAT.addr 0 0)) F.SEC_STAT_ROLLBACK) (min v 64) ∧
    fOf ((s.otpDone 1 v).otp.get (R.SEC_STAT.addr 0 0)) F.SEC_STAT_ROLLBACK =
      max (fOf (s.otp.get (R.SEC_STAT.addr 0 0)) F.SEC_STAT_ROLLBACK) (min v 64) := by
  have hlt : max (fOf (s.otp.get (R.SEC_STAT.addr 0 0)) F.SEC_STAT_ROLLBACK) (min v 64) < 2 ^ 7 := by
    have : fOf (s.otp.get (R.SEC_STAT.addr 0 0)) F.SEC_STAT_ROLLBACK < 2 ^ 7 := Word.bits_lt _ 6 0
    omega
  obtain ⟨h1, h2⟩ := blow_spec (s.sb F.SEC_OTP_CMD_START 0 0 false) (f := F.SEC_STAT_ROLLBACK) (fun n => max n (min v 64))
    (by decide) hlt
  refine ⟨?_, h2⟩
  rw [gf_eq_fld, otpDone_fld s 1 v (by decide)]
  exact h1

theorem otpDone_slots (s : State) (v : Nat) : (s.otpDone 2 v).gf F.SEC_SLOTS_SLOTS 0 =
    fOf (s.otp.get (R.SEC_SLOTS.addr 0 0)) F.SEC_SLOTS_SLOTS ||| 8 * 16 ^ (v % 4) := by
  have hslot : 8 * 16 ^ (v % 4) < 2 ^ 16 := by
    have : v % 4 < 4 := Nat.mod_lt _ (by decide)
    interval_cases v % 4 <;> decide
  have hlt : fOf (s.otp.get (R.SEC_SLOTS.addr 0 0)) F.SEC_SLOTS_SLOTS ||| 8 * 16 ^ (v % 4) < 2 ^ 16 :=
    Nat.or_lt_two_pow (Word.bits_lt _ 15 0) hslot
  obtain ⟨h1, _⟩ := blow_spec (s.sb F.SEC_OTP_CMD_START 0 0 false) (f := F.SEC_SLOTS_SLOTS) (fun n => n ||| 8 * 16 ^ (v % 4))
    (by decide) hlt
  rw [gf_eq_fld, otpDone_fld s 2 v (by decide)]
  exact h1

theorem otpCommandDone_rollback_ends (hst : s.gb F.SEC_OTP_CMD_START 0 = true) (hcmd : s.cfg.otpCmd = (1, v)) :
    Ends (execOtpCommandDone g true s) fun t => t.gb F.SEC_OTP_CMD_START 0 = false ∧
      if goldenPasses s g v = true then
        t.gf F.SEC_STAT_ROLLBACK 0 = max (fOf (s.otp.get (R.SEC_STAT.addr 0 0)) F.SEC_STAT_ROLLBACK) (min v 64) ∧
        fOf (t.otp.get (R.SEC_STAT.addr 0 0)) F.SEC_STAT_ROLLBACK = t.gf F.SEC_STAT_ROLLBACK 0 ∧
        t.gf F.SEC_OTP_STAT_RESULT 0 = 1 ∧ t.gb F.SEC_EVT_OTP_DONE 0 = true
      else t.gf F.SEC_OTP_STAT_RESULT 0 = 3 ∧ t.gf F.SEC_OTP_STAT_CAUSE 0 = 3 ∧ t.otp = s.otp := by
  rw [execOtpCommandDone_eq g true hst hcmd]
  cases hg : goldenPasses s g v
  case true =>
    rw [if_neg (by simp), if_neg (by simp)]
    apply ends_afterFuses
    obtain ⟨h1, h2, h3⟩ := otpDone_spec s 1 v
    obtain ⟨h4, h5⟩ := otpDone_rollback s v
    have hr : ({ (s.otpDone 1 v).settle with pending := s.pending } : State).regs = (s.otpDone 1 v).regs := settle_regs _
    have ho : ({ (s.otpDone 1 v).settle with pending := s.pending } : State).otp = (s.otpDone 1 v).otp := settle_otp _
    rw [if_pos rfl, gb_congr hr, gf_congr hr, gf_congr hr, gb_congr hr, ho, h5, h4]
    exact ⟨h1, rfl, rfl, h2, h3⟩
  case false =>
    rw [if_pos (by simp)]
    apply ends_of_ending
    obtain ⟨h3, h4⟩ := otpResult_spec (s.sb F.SEC_OTP_CMD_START 0 0 false) (r := 3) (c := 3) (by decide) (by decide)
    rw [gf_eq_fld] at h3 h4
    rw [if_neg (by simp), ending_gb, ending_gf, ending_gf, ending_otp]
    simp only [gb_eq_fld, gf_eq_fld, sb_regs]
    refine ⟨?_, ?_, ?_, trivial⟩
    · rw [Regs.fld_setFld_off _ _ _ _ _ _ (by decide), otpResult_fld _ _ _ (by decide), sb_regs]
      exact Regs.flag_setFld_self _ _ _ _ false (by decide)
    · rw [Regs.fld_setFld_off _ _ _ _ _ _ (by decide), h3]
    · rw [Regs.fld_setFld_off _ _ _ _ _ _ (by decide), h4]

theorem otpCommandDone_slots_ends (hst : s.gb F.SEC_OTP_CMD_START 0 = true) (hcmd : s.cfg.otpCmd = (2, v)) :
    Ends (execOtpCommandDone g true s) fun t =>
      t.gf F.SEC_SLOTS_SLOTS 0 = fOf (s.otp.get (R.SEC_SLOTS.addr 0 0)) F.SEC_SLOTS_SLOTS ||| 8 * 16 ^ (v % 4) := by
  rw [execOtpCommandDone_eq g true hst hcmd, if_neg (by simp), if_neg (by simp)]
  apply ends_afterFuses
  have hr : ({ (s.otpDone 2 v).settle with pending := s.pending } : State).regs = (s.otpDone 2 v).regs := settle_regs _
  rw [gf_congr hr]
  exact otpDone_slots s v

theorem otpCommandDone_unverified_ends (hst : s.gb F.SEC_OTP_CMD_START 0 = true)
    (hop : s.cfg.otpCmd.1 = 2 ∨ s.cfg.otpCmd.1 = 3) :
    Ends (execOtpCommandDone g false s) fun t => t.otp = s.otp ∧ t.gf F.SEC_OTP_STAT_RESULT 0 = 3 ∧
      t.gf F.SEC_OTP_STAT_CAUSE 0 = 7 ∧ t.gb F.SEC_OTP_CMD_START 0 = false := by
  have hne : ¬ s.cfg.otpCmd.1 = 1 := by omega
  rw [execOtpCommandDone_eq g false hst (Prod.mk.eta).symm, if_neg (fun h => hne h.1), if_pos (by decide)]
  apply ends_of_ending
  obtain ⟨h3, h7⟩ := otpResult_spec (s.sb F.SEC_OTP_CMD_START 0 0 false) (r := 3) (c := 7) (by decide) (by decide)
  rw [ending_gb, ending_gf, ending_gf, ending_otp]
  refine ⟨rfl, h3, h7, ?_⟩
  rw [gb_eq_fld, otpResult_fld _ _ _ (by decide), sb_regs]
  exact Regs.flag_setFld_self _ _ _ _ false (by decide)

end

end Sys2Proof.Machine

/-! ## Host access to flash, and the ledger's write (R345, R350, R521) -/

namespace Sys2Proof.Machine

/-! ### CFG_FL_CMD -/

theorem Regs.word_setFld_ne (x : Regs) {f : Fld} {q : Reg} {b n c m : Nat} (v : Nat)
    (h : q.blk ≠ f.reg.blk ∨ q.addr c m ≠ f.reg.addr b n) : (x.setFld f b n v).word q c m = x.word q c m := word_setWord_ne x _ h

/-- The OP and WORDS of a command stand in CFG_FL_CMD. -/
def State.flLoaded (s : State) (op words : Nat) : State := (s.sf F.CFG_FL_CMD_OP 0 0 op).sf F.CFG_FL_CMD_WORDS 0 0 words

theorem flLoaded_word (s : State) (op words : Nat) {r : Reg} {n : Nat} (h : r.blk = .cfg ∧ r.addr 0 n ≠ R.CFG_FL_CMD.addr 0 0) :
    (s.flLoaded op words).rd r 0 n = s.rd r 0 n := by
  simp only [rd_eq_word, State.flLoaded, sf_regs]
  rw [Regs.word_setFld_ne _ _ (Or.inr h.2), Regs.word_setFld_ne _ _ (Or.inr h.2)]

theorem flLoaded_spec (s : State) {op words : Nat} (ho : op < 4) (hw : words < 64) :
    (s.flLoaded op words).gf F.CFG_FL_CMD_OP 0 = op ∧ (s.flLoaded op words).gf F.CFG_FL_CMD_WORDS 0 = words := by
  simp only [gf_eq_fld, State.flLoaded, sf_regs]
  refine ⟨?_, ?_⟩
  · rw [Regs.fld_setFld_reg _ _ _ _ _ _ (by decide), Regs.fld_setFld_self _ _ _ _ _ (by decide)]
    exact Nat.mod_eq_of_lt ho
  · rw [Regs.fld_setFld_self _ _ _ _ _ (by decide)]
    exact Nat.mod_eq_of_lt hw

theorem touchesGolden_flLoaded (s : State) (o w op words : Nat) : touchesGolden (s.flLoaded o w) op words = touchesGolden s op words := by
  have hrd := flLoaded_word s o w (r := R.CFG_FL_ADDR) (n := 0) (by decide)
  have hcs : (s.flLoaded o w).gb F.CFG_FL_ADDR_CS 0 = s.gb F.CFG_FL_ADDR_CS 0 := congrArg (fun x : Word => x.bits 31 31 != 0) hrd
  have haddr : (s.flLoaded o w).gf F.CFG_FL_ADDR_ADDR 0 = s.gf F.CFG_FL_ADDR_ADDR 0 := congrArg (fun x : Word => x.bits 30 0) hrd
  unfold touchesGolden
  rw [hcs, haddr]
  rfl

theorem flResult_regs (s : State) (r c : Nat) : (flResult s r c).regs =
    (s.regs.setFld F.CFG_FL_CMD_RESULT 0 0 r).setFld F.CFG_FL_CMD_CAUSE 0 0 c := rfl

theorem flResult_spec (s : State) {r c : Nat} (hr : r < 4) (hc : c < 16) :
    (flResult s r c).gf F.CFG_FL_CMD_RESULT 0 = r ∧ (flResult s r c).gf F.CFG_FL_CMD_CAUSE 0 = c := by
  simp only [gf_eq_fld, flResult_regs]
  refine ⟨?_, ?_⟩
  · rw [Regs.fld_setFld_reg _ _ _ _ _ _ (by decide), Regs.fld_setFld_self _ _ _ _ _ (by decide)]
    exact Nat.mod_eq_of_lt hr
  · rw [Regs.fld_setFld_self _ _ _ _ _ (by decide)]
    exact Nat.mod_eq_of_lt hc

theorem flResult_start (s : State) (r c : Nat) : (flResult s r c).gb F.CFG_FL_CMD_START 0 = s.gb F.CFG_FL_CMD_START 0 := by
  simp only [gb_eq_fld, flResult_regs]
  rw [Regs.fld_setFld_reg _ _ _ _ _ _ (by decide), Regs.fld_setFld_reg _ _ _ _ _ _ (by decide)]

/-- The word of a flash command. -/
def flWord (op words : Nat) : Word := BitVec.ofNat 32 (2 ^ 31 + op * 2 ^ 16 + words)

theorem flWord_fields {op words : Nat} (ho : op < 3) (hw : words < 64) : fOf (flWord op words) F.CFG_FL_CMD_OP = op ∧
    fOf (flWord op words) F.CFG_FL_CMD_WORDS = words ∧ fOf (flWord op words) F.CFG_FL_CMD_START = 1 := by
  simp only [fOf, flWord, Word.bits, F.CFG_FL_CMD_OP, F.CFG_FL_CMD_WORDS, F.CFG_FL_CMD_START, BitVec.toNat_ofNat]
  omega

/-- A command that starts is queued, and leaves for the flash with its words. -/
def State.flStarted (s : State) (op words : Nat) (addr : Word) : State :=
  ((flResult (s.sb F.CFG_FL_CMD_START 0 0 true) 0 0).setCfg { s.cfg with jobs := s.cfg.jobs ++ [.host op words] }).emit
    (.flash op addr (if op = 1 then (List.range (words + 1)).map fun i => s.rd R.CFG_FL_BUF 0 i else []))

section
variable {s : State} {a : Reader} {op words : Nat}

theorem flWrite_eq (hst : s.gb F.CFG_FL_CMD_START 0 = false) (ho : op < 3) (hw : words < 64) : flWrite s (flWord op words) =
    if touchesGolden s op words then (flResult (s.flLoaded op words) 3 1).sb F.CFG_EVT_REJECT 0 0 true
    else (s.flLoaded op words).flStarted op words (s.rd R.CFG_FL_ADDR 0) := by
  obtain ⟨h1, h2, h3⟩ := flWord_fields ho hw
  obtain ⟨hop, hwords⟩ := flLoaded_spec s (show op < 4 by omega) hw
  unfold flWrite
  extract_lets op' s1 o n ws cfg s2
  have hs1 : s1 = s.flLoaded op words := by
    simp only [s1, op', h1, h2, if_neg (show ¬ op = 3 by omega)]
    rfl
  have ho1 : o = op := (congrArg (fun u => State.gf u F.CFG_FL_CMD_OP 0) hs1).trans hop
  have hn : n = words := (congrArg (fun u => State.gf u F.CFG_FL_CMD_WORDS 0) hs1).trans hwords
  have hgo : ¬ (fOf (flWord op words) F.CFG_FL_CMD_START = 0 ∨ s.gb F.CFG_FL_CMD_START 0 = true) := by rw [h3, hst]; simp
  have hs2 : s2.emit (.flash o (s.rd R.CFG_FL_ADDR 0) ws) = (s.flLoaded op words).flStarted op words (s.rd R.CFG_FL_ADDR 0) := by
    simp only [s2, ws, hs1, ho1, hn]
    rfl
  rw [if_neg hgo, hs2, ho1, hn, hs1, touchesGolden_flLoaded]

/-- A command that does not touch the golden range starts. -/
theorem flBy_ends (hr : reaches s a R.CFG_FL_CMD.off = true) (hst : s.gb F.CFG_FL_CMD_START 0 = false) (ho : op < 3)
    (hw : words < 64) (hg : touchesGolden s op words = false) :
    Ends (s.after (s.byPath a R.CFG_FL_CMD.off (flWrite s (flWord op words)))) fun t =>
      t.gb F.CFG_FL_CMD_START 0 = true ∧ t.cfg.jobs = s.cfg.jobs ++ [.host op words] ∧
        .flash op (s.rd R.CFG_FL_ADDR 0) (if op = 1 then (List.range (words + 1)).map fun i => s.rd R.CFG_FL_BUF 0 i else []) ∈ t.out := by
  rw [State.byPath, if_pos hr, flWrite_eq hst ho hw, hg, if_neg (by simp)]
  apply ends_of_ending
  have hbuf : ∀ i, (s.flLoaded op words).rd R.CFG_FL_BUF 0 i = s.rd R.CFG_FL_BUF 0 i := fun i =>
    flLoaded_word s op words ⟨rfl, by simp only [Reg.addr, R.CFG_FL_BUF, R.CFG_FL_CMD]; omega⟩
  rw [State.flStarted]
  simp only [hbuf]
  generalize hu : s.flLoaded op words = u
  have hj : u.cfg.jobs = s.cfg.jobs := by rw [← hu]; rfl
  rw [ending_gb, ending_cfg, gb_congr (emit_regs _ _), emit_cfg, gb_congr (setCfg_regs _ _), flResult_start, ← hj]
  exact ⟨Regs.flag_setFld_self _ _ _ _ true (by decide), rfl, mem_ending_out (mem_emit_out _ _)⟩

theorem flashRead_ends {n : Fin 64} (hr : reaches s a R.CFG_FL_CMD.off = true) (hst : s.gb F.CFG_FL_CMD_START 0 = false) :
    Ends (execFlashRead a n s) fun t => t.gb F.CFG_FL_CMD_START 0 = true ∧ t.cfg.jobs = s.cfg.jobs ++ [.host 0 n] ∧
      .flash 0 (s.rd R.CFG_FL_ADDR 0) [] ∈ t.out :=
  flBy_ends (op := 0) hr hst (by decide) n.isLt rfl

theorem flashProgram_ends {n : Fin 64} (hr : reaches s a R.CFG_FL_CMD.off = true) (hst : s.gb F.CFG_FL_CMD_START 0 = false)
    (hg : touchesGolden s 1 n = false) :
    Ends (execFlashProgram a n s) fun t => t.cfg.jobs = s.cfg.jobs ++ [.host 1 n] ∧
      .flash 1 (s.rd R.CFG_FL_ADDR 0) ((List.range (n.val + 1)).map fun i => s.rd R.CFG_FL_BUF 0 i) ∈ t.out := by
  obtain ⟨t, ht, _, h2, h3⟩ := flBy_ends (op := 1) hr hst (by decide) n.isLt hg
  exact ⟨t, ht, h2, h3⟩

theorem flashErase_ends (hr : reaches s a R.CFG_FL_CMD.off = true) (hst : s.gb F.CFG_FL_CMD_START 0 = false)
    (hg : touchesGolden s 2 (s.gf F.CFG_FL_CMD_WORDS 0) = false) :
    Ends (execFlashErase a s) fun t => t.cfg.jobs = s.cfg.jobs ++ [.host 2 (s.gf F.CFG_FL_CMD_WORDS 0)] ∧
      t.gb F.CFG_FL_CMD_START 0 = true := by
  obtain ⟨t, ht, h1, h2, _⟩ := flBy_ends (op := 2) hr hst (by decide) (Word.bits_lt _ 5 0) hg
  exact ⟨t, ht, h2, h1⟩

theorem flashProgram_golden_ends {n : Fin 64} (hr : reaches s a R.CFG_FL_CMD.off = true)
    (hst : s.gb F.CFG_FL_CMD_START 0 = false) (hg : touchesGolden s 1 n = true) :
    Ends (execFlashProgram a n s) fun t => t.gf F.CFG_FL_CMD_RESULT 0 = 3 ∧ t.gf F.CFG_FL_CMD_CAUSE 0 = 1 ∧
      t.cfg.jobs = s.cfg.jobs := by
  have heq : flWrite s (flWord 1 n) = (flResult (s.flLoaded 1 n) 3 1).sb F.CFG_EVT_REJECT 0 0 true := by
    rw [flWrite_eq hst (by decide) n.isLt, hg, if_pos rfl]
  have hexec : execFlashProgram a n s = s.after ((flResult (s.flLoaded 1 n) 3 1).sb F.CFG_EVT_REJECT 0 0 true) := by
    rw [← heq, execFlashProgram, State.byPath, if_pos hr]
    rfl
  rw [hexec]
  apply ends_of_ending
  obtain ⟨h1, h2⟩ := flResult_spec (s.flLoaded 1 n) (r := 3) (c := 1) (by decide) (by decide)
  rw [gf_eq_fld] at h1 h2
  rw [ending_gf, ending_gf, ending_cfg]
  simp only [gf_eq_fld, sb_regs]
  refine ⟨?_, ?_, rfl⟩
  · rw [Regs.fld_setFld_off _ _ _ _ _ _ (by decide), h1]
  · rw [Regs.fld_setFld_off _ _ _ _ _ _ (by decide), h2]

/-! ### The end of a flash command -/

/-- A read of one word leaves it in the first word of CFG_FL_BUF. -/
theorem execFlashCommandDone_read {n : Nat} {l : List FlJob} {w : Word} (hj : s.cfg.jobs = .host 0 n :: l) :
    execFlashCommandDone true [w] s = s.after (flResult
      (((s.setCfg { s.cfg with jobs := l }).sb F.CFG_FL_CMD_START 0 0 false).wr R.CFG_FL_BUF 0 0 w) 1 0) := by
  have hone : (List.range 64).zip ([w].take (n + 1)) = [(0, w)] := by simp [List.range_succ_eq_map]
  unfold execFlashCommandDone
  rw [hj]
  dsimp only
  rw [hone]
  rfl

theorem flashCommandDone_read_ends {n : Nat} {l : List FlJob} {w : Word} (hj : s.cfg.jobs = .host 0 n :: l) :
    Ends (execFlashCommandDone true [w] s) fun t => t.rd R.CFG_FL_BUF 0 = w ∧ t.gf F.CFG_FL_CMD_RESULT 0 = 1 ∧
      t.gb F.CFG_FL_CMD_START 0 = false ∧ t.cfg.jobs = l := by
  rw [execFlashCommandDone_read hj]
  apply ends_of_ending
  generalize hu : (s.setCfg { s.cfg with jobs := l }).sb F.CFG_FL_CMD_START 0 0 false = u
  have hstart : u.gb F.CFG_FL_CMD_START 0 = false := by
    rw [← hu]
    exact Regs.flag_setFld_self _ _ _ _ false (by decide)
  have hjobs : u.cfg.jobs = l := by rw [← hu]; rfl
  rw [ending_rd, ending_gf, ending_gb, ending_cfg, flResult_start]
  refine ⟨?_, (flResult_spec _ (by decide) (by decide)).1, ?_, hjobs⟩
  · rw [rd_eq_word, flResult_regs, Regs.word_setFld_ne _ _ (Or.inr (by decide)), Regs.word_setFld_ne _ _ (Or.inr (by decide)),
      wr_regs, Regs.word_setWord_self]
  · rw [← hstart]
    simp only [gb_eq_fld, wr_regs, Regs.fld]
    rw [Regs.word_setWord_ne _ _ (Or.inr (by decide))]

theorem flashCommandDone_ledger_ends {l : List FlJob} (hj : s.cfg.jobs = .ledger :: l) :
    Ends (execFlashCommandDone true [] s) fun t => t.sett.copies.get s.sett.sector = some (ledgerOf s) ∧
      t.sett.dirty = false ∧ t.cfg.jobs = l := by
  have hexec : execFlashCommandDone true [] s = s.after (ledgerWritten (s.setCfg { s.cfg with jobs := l }) true) := by
    unfold execFlashCommandDone
    rw [hj]
  have hw : (ledgerWritten (s.setCfg { s.cfg with jobs := l }) true).cfg.jobs = l ∧
      (ledgerWritten (s.setCfg { s.cfg with jobs := l }) true).sett.copies =
        s.sett.copies.set s.sett.sector (some (ledgerOf s)) ∧
      (ledgerWritten (s.setCfg { s.cfg with jobs := l }) true).sett.dirty = false := by
    unfold ledgerWritten
    extract_lets sync x s1
    split <;> exact ⟨rfl, rfl, rfl⟩
  obtain ⟨h1, h2, h3⟩ := hw
  rw [hexec]
  apply ends_of_ending
  rw [ending_sett, ending_cfg, h1, h2, h3]
  exact ⟨Tab.get_set_self _ _ _, rfl, rfl⟩

end

/-- Settles O33: each clause is the lemma about its command. -/
theorem fusesAndFlash : Obligations.FusesAndFlash :=
  ⟨fun _ _ _ hr hst hv => commitRollback_ends hr hst hv,
   fun _ _ _ _ hr hst hg => commitRollback_guard_ends hr hst hg,
   fun _ _ _ _ hr hst hi => revokeSlot_ends hr hst hi,
   fun _ _ hr hst hv => blowConsent_ends hr hst hv,
   fun _ _ _ hst hcmd => otpCommandDone_rollback_ends hst hcmd,
   fun _ _ _ hst hcmd => otpCommandDone_slots_ends hst hcmd,
   fun _ _ hst hop => otpCommandDone_unverified_ends hst hop,
   fun _ _ _ hr hst => flashRead_ends hr hst,
   fun _ _ _ hr hst hg => flashProgram_ends hr hst hg,
   fun _ _ _ hr hst hg => flashProgram_golden_ends hr hst hg,
   fun _ _ hr hst hg => flashErase_ends hr hst hg,
   fun _ _ _ _ hj => flashCommandDone_read_ends hj,
   fun _ _ hj => flashCommandDone_ledger_ends hj⟩

end Sys2Proof.Machine

/-! ## What posting leaves of the posting port, a failback and the command that waits -/

namespace Sys2Proof.Machine

/-- PMAP_STAT.PORT, a failback that runs and the command that waits for it are as they were. -/
structure PortKept (s t : State) : Prop where
  port : postPort t = postPort s
  wait : t.pmap.waitCmd = s.pmap.waitCmd
  back : t.pmap.failback = s.pmap.failback

theorem PortKept.refl (s : State) : PortKept s s := ⟨rfl, rfl, rfl⟩

theorem PortKept.trans {s t u : State} (h : PortKept s t) (g : PortKept t u) : PortKept s u :=
  ⟨g.port.trans h.port, g.wait.trans h.wait, g.back.trans h.back⟩

/-- What changes no register, and neither of the two in the posting engine. -/
theorem portKept_of_regs {s t : State} (hr : t.regs = s.regs) (hw : t.pmap.waitCmd = s.pmap.waitCmd)
    (hb : t.pmap.failback = s.pmap.failback) : PortKept s t := ⟨gf_congr hr _ _ _, hw, hb⟩

/-- A step after a change of neither. -/
theorem PortKept.after {s t u : State} (g : PortKept t u) (hr : t.regs = s.regs) (hw : t.pmap.waitCmd = s.pmap.waitCmd)
    (hb : t.pmap.failback = s.pmap.failback) : PortKept s u := (portKept_of_regs hr hw hb).trans g

theorem portKept_ite {s t u : State} {c : Prop} [Decidable c] (h : PortKept s t) (g : PortKept s u) :
    PortKept s (if c then t else u) := by
  split
  · exact h
  · exact g

theorem portKept_foldl {α : Type} {f : State → α → State} (h : ∀ s x, PortKept s (f s x)) (l : List α) (s : State) :
    PortKept s (l.foldl f s) := by
  induction l generalizing s with
  | nil => exact PortKept.refl s
  | cons x l ih => exact (h s x).trans (ih _)

/-! ### Registers -/

theorem portKept_wr (s : State) {r : Reg} {b n : Nat} (v : Word) (h : r.blk ≠ .pmap ∨ r.addr b n ≠ 0x40004) :
    PortKept s (s.wr r b n v) := by
  refine ⟨?_, rfl, rfl⟩
  simp only [postPort, gf_eq_fld, wr_regs, Regs.fld]
  rw [Regs.word_setWord_ne]
  exact h.imp Ne.symm Ne.symm

theorem portKept_sf (s : State) {f : Fld} {b n : Nat} (v : Nat) (h : f.reg.blk ≠ .pmap ∨ f.reg.addr b n ≠ 0x40004) :
    PortKept s (s.sf f b n v) := portKept_wr s _ h

/-- A field of PMAP_STAT other than PORT. -/
theorem portKept_stat (s : State) {f : Fld} (v : Nat) (h : F.PMAP_STAT_PORT.reg = f.reg ∧
    (f.hi < F.PMAP_STAT_PORT.lo ∨ F.PMAP_STAT_PORT.hi < f.lo) ∧ F.PMAP_STAT_PORT.hi < 32) : PortKept s (s.sf f 0 0 v) := by
  refine ⟨?_, rfl, rfl⟩
  simp only [postPort, gf_eq_fld, sf_regs]
  exact Regs.fld_setFld_reg _ _ _ _ _ _ h

theorem portKept_raise (s : State) (x : Src) (c : Nat) (d : BitVec 80) : PortKept s (s.raise x c d) :=
  portKept_of_regs (raise_regs _ _ _ _) (congrArg PmapS.waitCmd (raise_pmap _ _ _ _)) (congrArg PmapS.failback (raise_pmap _ _ _ _))

theorem portKept_raiseT (s : State) (x : Src) (ty c f : Nat) (d : BitVec 80) : PortKept s (s.raiseT x ty c f d) := by
  obtain ⟨_, _, h⟩ := raiseT_eq s x ty c f d
  rw [h]
  exact ⟨rfl, rfl, rfl⟩

theorem portKept_emit (s : State) (e : Emit) : PortKept s (s.emit e) := portKept_of_regs (emit_regs _ _) rfl rfl

theorem portKept_msix (s : State) (p v : Nat) : PortKept s (s.msix p v) := by
  obtain ⟨_, _, h⟩ := msix_eq s p v
  rw [h]
  exact ⟨rfl, rfl, rfl⟩

/-! ### Flows and records -/

theorem portKept_setFlow (s : State) (f : Nat) (x : FlowS) : PortKept s (s.setFlow f x) := ⟨rfl, rfl, rfl⟩
theorem portKept_setPost (s : State) (f : Nat) (x : PostS) : PortKept s (s.setPost f x) := ⟨rfl, rfl, rfl⟩
theorem portKept_mapItems (s : State) (g : Item → Item) : PortKept s (s.mapItems g) := ⟨rfl, rfl, rfl⟩
theorem portKept_unconform (s : State) (f : Nat) : PortKept s (s.unconform f) := ⟨rfl, rfl, rfl⟩

theorem portKept_syncFlows (s : State) : PortKept s s.syncFlows := by
  unfold State.syncFlows
  extract_lets n h s1 s2 s3
  exact ((((((portKept_sf s (f := F.SPR_STAT_ACCEPTED) _ (by decide)).trans
    (portKept_sf _ (f := F.SPR_USE_POOL_Q) _ (by decide))).trans (portKept_sf _ (f := F.SPR_USE_DIE0_RATE) _ (by decide))).trans
    (portKept_sf _ (f := F.SPR_USE_DIE1_RATE) _ (by decide))).trans (portKept_sf _ (f := F.SPR_USE_HOST_RATE) _ (by decide))).trans
    (portKept_sf _ (f := F.SPR_CAP_C) _ (by decide))).trans (portKept_sf _ (f := F.SPR_CAP_LIMIT) _ (by decide))

theorem portKept_releaseClosing (s : State) : PortKept s s.releaseClosing :=
  (portKept_syncFlows _).after (by rfl) (by rfl) (by rfl)

theorem portKept_noteDrop (s : State) (h : Nat) (x : Src) : PortKept s (s.noteDrop h x) := ⟨rfl, rfl, rfl⟩
theorem portKept_countDrop (s : State) (f : Nat) : PortKept s (s.countDrop f) := portKept_setFlow _ _ _

theorem portKept_countLoss (s : State) (c f : Nat) : PortKept s (s.countLoss c f) := by
  unfold State.countLoss
  extract_lets s1
  have h1 : PortKept s s1 := by
    dsimp only [s1]
    split
    · exact (portKept_sf s (f := F.SPR_LOSS_TRACE_COUNT) _ (by decide)).trans (portKept_sf _ (f := F.SPR_EVT_TRACE_DROP) _ (by decide))
    · exact (portKept_sf s (f := F.SPR_LOSS_BE_COUNT) _ (by decide)).trans (portKept_sf _ (f := F.SPR_EVT_BE_DROP) _ (by decide))
  split
  · exact h1
  · exact h1.trans (portKept_countDrop _ _)

theorem portKept_dropAt (s : State) (h : Nat) (i : Item) : PortKept s (s.dropAt h i) :=
  (portKept_countLoss _ _ _).trans (portKept_noteDrop _ _ _)

theorem portKept_dropWaiting (s : State) (f : Nat) : PortKept s (s.dropWaiting f) := by
  refine portKept_foldl (fun s c => ?_) _ s
  exact (portKept_foldl (fun s i => (portKept_countDrop s f).trans (portKept_noteDrop _ _ _)) _ s).trans
    (portKept_of_regs (by rfl) rfl rfl)

theorem portKept_discardPassing (s : State) (f : Nat) : PortKept s (discardPassing s f) := by
  refine portKept_foldl (fun s c => ?_) _ s
  exact (portKept_foldl (fun s i => portKept_dropAt s c.1 i) _ s).trans (portKept_of_regs (by rfl) rfl rfl)

theorem portKept_discardHeld (s : State) (f k : Nat) : PortKept s (s.discardHeld f k).1 :=
  (portKept_foldl (fun s (i : Item) => portKept_countLoss s i.cls i.flow) _ s).trans (portKept_of_regs (by rfl) rfl rfl)

theorem portKept_setSusp (s : State) (f : Nat) (x : Option SuspS) : PortKept s (s.setSusp f x) := by
  unfold State.setSusp
  extract_lets pm s1 n
  refine PortKept.trans (t := s1) (portKept_of_regs (by rfl) rfl rfl) ?_
  refine (portKept_wr s1 _ (Or.inr ?_)).trans (portKept_stat _ _ (by decide))
  simp only [Reg.addr, R.PMAP_SUSPw]
  omega

theorem portKept_setCache (s : State) (l : List CacheE) : PortKept s (s.setCache l) :=
  (portKept_of_regs (s := s) (t := { s with pmap := { s.pmap with cache := l } }) rfl rfl rfl).trans
    (portKept_stat _ _ (by decide))

theorem portKept_noteStall (s : State) (p : Nat) : PortKept s (noteStall s p) := by
  unfold noteStall
  extract_lets at_ now
  split
  · exact PortKept.refl s
  · exact ⟨rfl, rfl, rfl⟩

/-! ### Faults (R404 to R407) -/

theorem portKept_breakFlow (s : State) (f c : Nat) : PortKept s (breakFlow s f c) := by
  unfold breakFlow
  extract_lets d fl s1 s2
  have hd : PortKept s d.1 := ((portKept_dropWaiting s f).trans (portKept_discardPassing _ f)).trans (portKept_discardHeld _ f 0)
  have h1 : PortKept d.1 s1 := (portKept_unconform _ f).trans (portKept_setFlow _ _ _)
  have h2 : PortKept s1 s2 := ((portKept_setSusp s1 f none).trans (portKept_syncFlows _)).trans
    (portKept_sf _ (f := F.PMAP_EVT_BROKEN) _ (by decide))
  exact ((hd.trans h1).trans h2).trans ((portKept_setPost _ _ _).trans (portKept_raise _ _ _ _))

theorem portKept_wr64 (s : State) {r : Reg} {b n : Nat} (v : DWord)
    (h : r.blk ≠ .pmap ∨ (r.addr b n ≠ 0x40004 ∧ r.addr b n + 4 ≠ 0x40004)) : PortKept s (s.wr64 r b n v) := by
  refine ⟨?_, rfl, rfl⟩
  have htab : (s.wr64 r b n v).regs.word R.PMAP_STAT 0 0 = s.regs.word R.PMAP_STAT 0 0 := by
    simp only [State.wr64, Regs.word]
    by_cases hb : R.PMAP_STAT.blk = r.blk
    · have ⟨h1, h2⟩ := h.resolve_left fun hne => hne hb.symm
      rw [show R.PMAP_STAT.addr 0 0 = 0x40004 from rfl, hb, Regs.tab_put_self, Tab.get_set_ne _ _ (Ne.symm h2),
        Tab.get_set_ne _ _ (Ne.symm h1)]
    · rw [Regs.tab_put_ne _ _ hb]
  exact congrArg (fun w : Word => w.bits 1 0) htab

theorem portKept_faultRecord (s : State) (f c a addr : Nat) : PortKept s (faultRecord s f c a addr) := by
  unfold faultRecord
  extract_lets p s1
  have h1 : PortKept s s1 := ((portKept_sf s (f := F.PMAP_FLT_INFO_CAUSE) _ (by decide)).trans
    (portKept_sf _ (f := F.PMAP_FLT_INFO_PORT) _ (by decide))).trans (portKept_sf _ (f := F.PMAP_FLT_INFO_ACCESS) _ (by decide))
  exact ((h1.trans (portKept_sf _ (f := F.PMAP_FLT_INFO_FLOW) _ (by decide))).trans (portKept_wr64 _ _ (by decide))).trans
    (portKept_wr _ (r := R.PMAP_FLT_TIME) _ (by decide))

theorem portKept_withdraw (s : State) (f : Nat) : PortKept s (withdraw s f) := by
  unfold withdraw
  split
  · exact PortKept.refl s
  · exact (portKept_noteStall _ _).after (by rfl) (by rfl) (by rfl)

theorem portKept_faultSuspend (s : State) (f c : Nat) : PortKept s (faultSuspend s f c) := by
  unfold faultSuspend
  extract_lets s0 x pm s1 s2 s3
  have h0 : PortKept s s0 := portKept_withdraw s f
  have h2 : PortKept s0 s2 := (portKept_setPost s1 f _).after (by rfl) (by rfl) (by rfl)
  exact ((h0.trans h2).trans (portKept_setCache _ _)).trans (portKept_setSusp _ _ _)

theorem portKept_mapFault (s : State) (f c a addr : Nat) : PortKept s (mapFault s f c a addr) := by
  unfold mapFault
  extract_lets p s1 mark s2
  have h1 : PortKept s s1 := (portKept_faultRecord s f c a addr).trans (portKept_faultSuspend _ _ _)
  have h2 : PortKept s s2 := ((h1.trans (portKept_mapItems _ _)).trans (portKept_sf _ (f := F.PMAP_EVT_FAULT) _ (by decide))).trans
    (portKept_raise _ _ _ _)
  split
  · exact ((h2.trans (portKept_discardHeld _ _ _)).trans (portKept_setSusp _ _ _)).trans (portKept_releaseClosing _)
  · split
    · exact h2.trans (portKept_breakFlow _ _ _)
    · exact h2

/-! ### Walks and writes -/

theorem portKept_askTrans (s : State) (p f a : Nat) (w : Bool) : PortKept s (s.askTrans p f a w) :=
  (portKept_setPost _ _ _).trans (portKept_emit _ _)

theorem portKept_issueRead (s : State) (f : Nat) (w : WalkS) (root ats : Bool) (addr : Nat) :
    PortKept s (issueRead s f w root ats addr) := by
  unfold issueRead
  extract_lets p
  generalize xlat s p ats addr false = x
  cases x with
  | fault => exact portKept_mapFault _ _ _ _ _
  | wait => exact (portKept_setPost _ _ _).trans (portKept_askTrans _ _ _ _ _)
  | addr a => exact portKept_ite (portKept_mapFault _ _ _ _ _) ((portKept_setPost _ _ _).trans (portKept_emit _ _))

theorem portKept_walkRead (s : State) (f : Nat) (w : WalkS) : PortKept s (walkRead s f w) := by
  unfold walkRead
  split <;> exact portKept_issueRead _ _ _ _ _ _

theorem portKept_startWalk (s : State) (f : Nat) (r i : Bool) : PortKept s (startWalk s f r i) := by
  unfold startWalk
  split
  · exact PortKept.refl s
  · extract_lets w x s1
    have h1 : PortKept s s1 := (portKept_sf s (f := F.PMAP_WALKS_COUNT) _ (by decide)).trans (portKept_setPost _ _ _)
    split
    · exact h1
    · exact h1.trans (portKept_walkRead _ _ _)

theorem portKept_deliver (s : State) (w : Write) : PortKept s (deliver s w) := by
  refine (portKept_foldl (fun s i => ?_) _ s).trans (portKept_releaseClosing _)
  split
  · exact portKept_sf s (f := F.SPR_ALARM_CNT_COUNT) _ (by decide)
  · exact portKept_ite (PortKept.refl s) (portKept_setFlow _ _ _)

theorem portKept_flowInterrupt (s : State) (f p : Nat) : PortKept s (flowInterrupt s f p) := by
  unfold flowInterrupt
  extract_lets x
  split
  · exact portKept_ite (portKept_ite ((portKept_setPost _ _ _).trans (portKept_msix _ _ _)) (portKept_setPost _ _ _))
      (PortKept.refl s)
  · exact PortKept.refl s

theorem portKept_sendWrite (s : State) (p : Nat) (w : Write) : PortKept s (sendWrite s p w) := by
  unfold sendWrite
  extract_lets w1 pm s1 s2 s3
  have h2 : PortKept s s2 := (portKept_emit s1 _).after (by rfl) (by rfl) (by rfl)
  have h3 : PortKept s s3 := portKept_ite (h2.trans (portKept_deliver _ _)) h2
  split
  · exact h3.trans (portKept_flowInterrupt _ _ _)
  · exact h3

theorem portKept_drainWrites (p n : Nat) (s : State) : PortKept s (drainWrites p n s) := by
  induction n generalizing s with
  | zero => exact portKept_noteStall s p
  | succ n ih =>
    unfold drainWrites
    split
    · exact portKept_noteStall s p
    · split
      · exact portKept_noteStall s p
      · split
        · exact (portKept_mapFault _ _ _ _ _).trans (ih _)
        · exact ((portKept_sendWrite _ _ _).after (by rfl) (by rfl) (by rfl)).trans (ih _)

theorem portKept_pushWrite (s : State) (p : Nat) (w : Write) : PortKept s (pushWrite s p w) := by
  unfold pushWrite
  extract_lets pm s1
  have h1 : PortKept s s1 := portKept_of_regs (by rfl) rfl rfl
  exact PortKept.trans (portKept_ite (h1.trans (portKept_mapItems _ _)) h1) (portKept_drainWrites _ _ _)

theorem portKept_writeWp (s : State) (f : Nat) : PortKept s (writeWp s f) := by
  unfold writeWp
  extract_lets p x
  split
  · exact PortKept.refl s
  · split
    · exact portKept_mapFault _ _ _ _ _
    · exact portKept_askTrans _ _ _ _ _
    · split
      · exact portKept_mapFault _ _ _ _ _
      · exact (portKept_setPost _ _ _).trans (portKept_pushWrite _ _ _)

/-! ### Re-runs (R382, R383) -/

theorem portKept_demote (s : State) (f k : Nat) : PortKept s (demote s f k) := by
  unfold demote
  extract_lets fl s1
  have h1 : PortKept s s1 := (portKept_unconform s f).trans (portKept_setFlow _ _ _)
  split
  · exact h1.trans (portKept_discardHeld _ _ _)
  · exact h1

theorem portKept_demoteLoop (k n : Nat) (s : State) (m : Nat) : PortKept s (demoteLoop k n s m).1 := by
  induction n generalizing s m with
  | zero => exact PortKept.refl s
  | succ n ih =>
    unfold demoteLoop
    split
    · exact PortKept.refl s
    · split
      · exact (portKept_demote _ _ _).trans (ih _ _)
      · exact PortKept.refl s

theorem portKept_rerun (s : State) (k : Nat) : PortKept s (rerun s k) := by
  unfold rerun
  extract_lets d s1
  have h1 : PortKept s s1 := (portKept_demoteLoop _ _ _ _).trans (portKept_syncFlows _)
  split
  · exact h1
  · exact (h1.trans (portKept_sf _ (f := F.SPR_EVT_SHED) _ (by decide))).trans (portKept_raiseT _ _ _ _ _ _)

theorem portKept_rerunPort (s : State) (k : Nat) : PortKept s (rerunPort s k) :=
  (portKept_rerun _ _).after (by rfl) (by rfl) (by rfl)

end Sys2Proof.Machine

/-! ## Moves of posting between the ports (R415 to R419) -/

namespace Sys2Proof.Machine

/-! ### Alarms, PMAP_STAT.PORT and PMAP_CMD_STAT -/

/-- An alarm that is raised holds its slot. -/
theorem raise_slot (s : State) (x : Src) (c : Nat) (d : BitVec 80) :
    ((s.raise x c d).spoor.slots.get (slotKey x c 0)).isSome = true := by
  unfold State.raise State.raiseT
  extract_lets k s0 spoor sl item i
  split
  · exact Option.isSome_iff_exists.2 ⟨_, Tab.get_set_self s0.spoor.slots k _⟩
  · exact Option.isSome_iff_exists.2 ⟨_, Tab.get_set_self s0.spoor.slots k (some sl)⟩

theorem portKept_sb (s : State) {f : Fld} {b n : Nat} (v : Bool) (h : f.reg.blk ≠ .pmap ∨ f.reg.addr b n ≠ 0x40004) :
    PortKept s (s.sb f b n v) := portKept_sf s _ h

theorem setPort_port (s : State) {k : Nat} (h : k < 4) : postPort (s.setPort k) = k := by
  simp only [postPort, gf_eq_fld, State.setPort, sb_regs, sf_regs]
  rw [Regs.fld_setFld_blk _ _ _ _ _ _ _ _ (by decide), Regs.fld_setFld_reg _ _ _ _ _ _ (by decide),
    Regs.fld_setFld_self _ _ _ _ _ (by decide)]
  exact Nat.mod_eq_of_lt h

/-- The registers at the end of a command. -/
theorem pmapEnd_regs (s : State) (r c w : Nat) : (s.pmapEnd r c w).regs =
    ((((s.regs.setFld F.PMAP_CMD_STAT_RESULT 0 0 r).setFld F.PMAP_CMD_STAT_CAUSE 0 0 c).setFld F.PMAP_CMD_STAT_WALKED 0 0 w).setFld
      (if r = 3 then F.PMAP_EVT_REJECT else F.PMAP_EVT_INV_DONE) 0 0 1).setFld F.PMAP_CMD_START 0 0 0 := by
  unfold State.pmapEnd
  split <;> rfl

/-- What the end of a command leaves, but for PMAP_CMD_STAT, the event and START. -/
theorem pmapEnd_fld (s : State) (r c w : Nat) {f : Fld} (b n : Nat)
    (h : f.reg.blk ≠ .pmap ∨ (f.reg.addr b n ≠ 0x40024 ∧ f.reg.addr b n ≠ 0x40008 ∧ f.reg.addr b n ≠ 0x40020)) :
    (s.pmapEnd r c w).regs.fld f b n = s.regs.fld f b n := by
  have hs : f.reg.blk ≠ .pmap ∨ f.reg.addr b n ≠ 0x40024 := h.imp id (·.1)
  have he : f.reg.blk ≠ .pmap ∨ f.reg.addr b n ≠ 0x40008 := h.imp id (·.2.1)
  have hc : f.reg.blk ≠ .pmap ∨ f.reg.addr b n ≠ 0x40020 := h.imp id (·.2.2)
  rw [pmapEnd_regs]
  split
  · rw [Regs.fld_setFld_ne _ _ hc, Regs.fld_setFld_ne _ _ he, Regs.fld_setFld_ne _ _ hs, Regs.fld_setFld_ne _ _ hs,
      Regs.fld_setFld_ne _ _ hs]
  · rw [Regs.fld_setFld_ne _ _ hc, Regs.fld_setFld_ne _ _ he, Regs.fld_setFld_ne _ _ hs, Regs.fld_setFld_ne _ _ hs,
      Regs.fld_setFld_ne _ _ hs]

/-- The end of a command: its RESULT and CAUSE, and START 0. -/
theorem pmapEnd_spec (s : State) {r c : Nat} (w : Nat) (hr : r < 4) (hc : c < 16) :
    (s.pmapEnd r c w).gf F.PMAP_CMD_STAT_RESULT 0 = r ∧ (s.pmapEnd r c w).gf F.PMAP_CMD_STAT_CAUSE 0 = c ∧
      (s.pmapEnd r c w).gb F.PMAP_CMD_START 0 = false := by
  have hout : ∀ (x : Regs) (e : Fld) (f : Fld), f.reg.off ≠ e.reg.off ∧ f.reg.stride = e.reg.stride →
      f.reg.off ≠ F.PMAP_CMD_START.reg.off ∧ f.reg.stride = F.PMAP_CMD_START.reg.stride →
      ((x.setFld e 0 0 1).setFld F.PMAP_CMD_START 0 0 0).fld f 0 0 = x.fld f 0 0 := fun x e f he hst => by
    rw [Regs.fld_setFld_off _ _ _ _ _ _ hst, Regs.fld_setFld_off _ _ _ _ _ _ he]
  have hev : ∀ f : Fld, f.reg.off ≠ 0x40008 ∧ f.reg.stride = 0 →
      f.reg.off ≠ (if r = 3 then F.PMAP_EVT_REJECT else F.PMAP_EVT_INV_DONE).reg.off ∧
        f.reg.stride = (if r = 3 then F.PMAP_EVT_REJECT else F.PMAP_EVT_INV_DONE).reg.stride := fun f hf => by
    split <;> exact hf
  simp only [gf_eq_fld, gb_eq_fld, pmapEnd_regs]
  refine ⟨?_, ?_, Regs.flag_setFld_self _ _ _ _ false (by decide)⟩
  · rw [hout _ _ _ (hev _ (by decide)) (by decide), Regs.fld_setFld_reg _ _ _ _ _ _ (by decide),
      Regs.fld_setFld_reg _ _ _ _ _ _ (by decide), Regs.fld_setFld_self _ _ _ _ _ (by decide)]
    exact Nat.mod_eq_of_lt hr
  · rw [hout _ _ _ (hev _ (by decide)) (by decide), Regs.fld_setFld_reg _ _ _ _ _ _ (by decide),
      Regs.fld_setFld_self _ _ _ _ _ (by decide)]
    exact Nat.mod_eq_of_lt hc

theorem pmapEnd_reject (s : State) (c w : Nat) : (s.pmapEnd 3 c w).gb F.PMAP_EVT_REJECT 0 = true := by
  rw [gb_eq_fld, pmapEnd_regs, if_pos rfl, Regs.fld_setFld_off _ _ _ _ _ _ (by decide)]
  exact Regs.flag_setFld_self _ _ _ _ true (by decide)

/-- Another event stays as the command ends well. -/
theorem pmapEnd_event (s : State) {r : Nat} (c w : Nat) (hr : r ≠ 3) {f : Fld} (h : f.reg = F.PMAP_EVT_INV_DONE.reg ∧
    (F.PMAP_EVT_INV_DONE.hi < f.lo ∨ f.hi < F.PMAP_EVT_INV_DONE.lo) ∧ f.hi < 32) :
    (s.pmapEnd r c w).gb f 0 = s.gb f 0 := by
  have hoff : ∀ g : Fld, g.reg = R.PMAP_CMD_STAT ∨ g.reg = R.PMAP_CMD → f.reg.off ≠ g.reg.off ∧ f.reg.stride = g.reg.stride := by
    rintro g (hg | hg) <;> rw [h.1, hg] <;> decide
  simp only [gb_eq_fld, pmapEnd_regs, if_neg hr]
  rw [Regs.fld_setFld_off _ _ _ _ _ _ (hoff _ (Or.inr rfl)), Regs.fld_setFld_reg _ _ _ _ _ _ h,
    Regs.fld_setFld_off _ _ _ _ _ _ (hoff _ (Or.inl rfl)), Regs.fld_setFld_off _ _ _ _ _ _ (hoff _ (Or.inl rfl)),
    Regs.fld_setFld_off _ _ _ _ _ _ (hoff _ (Or.inl rfl))]

theorem portKept_pmapEnd (s : State) (r c w : Nat) : PortKept s (s.pmapEnd r c w) := by
  unfold State.pmapEnd
  extract_lets s1 s2
  have h1 : PortKept s s1 := ((portKept_sf s (f := F.PMAP_CMD_STAT_RESULT) _ (by decide)).trans
    (portKept_sf _ (f := F.PMAP_CMD_STAT_CAUSE) _ (by decide))).trans (portKept_sf _ (f := F.PMAP_CMD_STAT_WALKED) _ (by decide))
  have h2 : PortKept s s2 := portKept_ite (h1.trans (portKept_sf _ (f := F.PMAP_EVT_REJECT) _ (by decide)))
    (h1.trans (portKept_sf _ (f := F.PMAP_EVT_INV_DONE) _ (by decide)))
  exact h2.trans (portKept_sf _ (f := F.PMAP_CMD_START) _ (by decide))

theorem pmapEnd_spoor (s : State) (r c w : Nat) : (s.pmapEnd r c w).spoor = s.spoor := by
  unfold State.pmapEnd
  split <;> rfl

theorem pmapEnd_out (s : State) (r c w : Nat) : (s.pmapEnd r c w).out = s.out := by
  unfold State.pmapEnd
  split <;> rfl

/-! ### Posting moves to the other port (R416) -/

/-- Walks that begin one by one, as an invalidation runs or not. -/
theorem portKept_startWalks (l : List Nat) (s : State) :
    PortKept s (l.foldl (fun s f => startWalk s f false s.pmap.inv.isSome) s) :=
  portKept_foldl (fun s f => portKept_startWalk s f false _) l s

/-- What a move of posting to a port leaves. -/
theorem failoverTo_spec (s : State) {o : Nat} (k : Nat) (ho : o + 1 < 4) : postPort (failoverTo s o k) = o + 1 ∧
    (failoverTo s o k).pmap.waitCmd = s.pmap.waitCmd ∧ (failoverTo s o k).gb F.PMAP_EVT_FAILOVER 0 = true ∧
      ((failoverTo s o k).spoor.slots.get (slotKey postingSrc 0x132 0)).isSome = true := by
  unfold failoverTo
  extract_lets p again pm s1 s2 s3 l s4 s5
  have h2 : postPort s2 = o + 1 := setPort_port _ ho
  have h3 : PortKept s2 s3 := portKept_rerunPort s2 2
  have h4 : PortKept s3 s4 := portKept_startWalks l s3
  have hd : PortKept s4 s5 := portKept_drainWrites o _ s4
  have h5 : PortKept s2 (noteStall s5 p) := ((h3.trans h4).trans hd).trans (portKept_noteStall s5 p)
  generalize noteStall s5 p = u at h5 ⊢
  have h6 : PortKept s2 (u.sb F.PMAP_EVT_FAILOVER 0 0 true) := h5.trans (portKept_sb u true (by decide))
  have h7 := h6.trans (portKept_raise _ postingSrc 0x132 (detailOf [(2, 1, k), (3, 1, o + 1), (4, 4, again.length)]))
  refine ⟨h7.port.trans h2, h7.wait, ?_, raise_slot _ _ _ _⟩
  rw [gb_congr (raise_regs _ _ _ _)]
  exact Regs.flag_setFld_self _ _ _ _ true (by decide)

theorem runWaiting_none {s : State} (h : s.pmap.waitCmd = none) : runWaiting s = s := by rw [runWaiting, h]

theorem postingFailover_ends {s : State} {k : Fin 5} (hp : postPort s = 1 ∨ postPort s = 2)
    (ht : triggerHolds s (postPort s - 1) k = true ∧ s.pmap.waitCmd = none)
    (hc : canPost s (1 - (postPort s - 1)) = true) :
    Ends (execPostingFailover k s) fun t => postPort t = 3 - postPort s ∧ t.gb F.PMAP_EVT_FAILOVER 0 = true := by
  have hgo : ¬ (postPort s = 0 ∨ triggerHolds s (postPort s - 1) k.val = false ∨ canPost s (1 - (postPort s - 1)) = false) := by
    rw [ht.1, hc]
    simp
    omega
  obtain ⟨h1, h2, h3, _⟩ := failoverTo_spec s (o := 1 - (postPort s - 1)) k (by omega)
  unfold execPostingFailover
  extract_lets p
  rw [if_neg hgo, runWaiting_none (h2.trans ht.2)]
  apply ends_of_ending
  rw [postPort, ending_gf, ending_gb]
  exact ⟨h1.trans (by omega), h3⟩

/-! ### PMAP_CMD (R16, R398) -/

/-- A command that has started: it stands in PMAP_CMD. -/
def State.pmapStarted (s : State) (op : Nat) : State :=
  ((s.sf F.PMAP_CMD_OP 0 0 op).sf F.PMAP_CMD_FLOW 0 0 0).sb F.PMAP_CMD_START 0 0 true

theorem pmapStarted_fld (s : State) (op : Nat) {f : Fld} {b n : Nat} (h : f.reg.blk ≠ .pmap ∨ f.reg.addr b n ≠ 0x40020) :
    (s.pmapStarted op).gf f b n = s.gf f b n := by
  simp only [gf_eq_fld, State.pmapStarted, sb_regs, sf_regs]
  rw [Regs.fld_setFld_ne _ _ h, Regs.fld_setFld_ne _ _ h, Regs.fld_setFld_ne _ _ h]

theorem pmapStarted_canPost (s : State) (op p : Nat) : canPost (s.pmapStarted op) p = canPost s p := by
  have keep : ∀ (f : Fld) (n : Nat), f.reg.blk = .host → (s.pmapStarted op).gf f 0 n = s.gf f 0 n := fun f n h =>
    pmapStarted_fld s op (Or.inl (by rw [h]; decide))
  have keep0 : ∀ f : Fld, f.reg.addr 0 0 ≠ 0x40020 → (s.pmapStarted op).gf f 0 = s.gf f 0 := fun f h =>
    pmapStarted_fld s op (Or.inr h)
  simp only [canPost, isCxl, State.linkUp, State.gb, keep F.HOST_p_STAT_MODE p rfl, keep F.HOST_p_STAT_BME p rfl,
    keep F.HOST_p_STAT_D3HOT p rfl, keep F.HOST_p_STAT_CACHE_EN p rfl, keep0 F.PMAP_CTRL_EN_A (by decide),
    keep0 F.PMAP_CTRL_EN_B (by decide), keep0 F.PMAP_ROOT_A_V (by decide), keep0 F.PMAP_ROOT_B_V (by decide)]

theorem pmapStarted_port (s : State) (op : Nat) : postPort (s.pmapStarted op) = postPort s :=
  pmapStarted_fld s op (f := F.PMAP_STAT_PORT) (Or.inr (by decide))

theorem pmapStarted_primary (s : State) (op : Nat) : (s.pmapStarted op).gf F.PMAP_CTRL_PRIMARY 0 = s.gf F.PMAP_CTRL_PRIMARY 0 :=
  pmapStarted_fld s op (Or.inr (by decide))

theorem pmapStarted_isCxl (s : State) (op p : Nat) : isCxl (s.pmapStarted op) p = isCxl s p := by
  rw [isCxl, isCxl, pmapStarted_fld s op (Or.inl (by decide))]

/-- A command of no flow written while none runs, and no failback, is carried out. -/
theorem pmapCmdWrite_eq {s : State} {op : Nat} (ho : 1 ≤ op ∧ op ≤ 5)
    (h : s.gb F.PMAP_CMD_START 0 = false ∧ s.pmap.failback = false) :
    pmapCmdWrite s (pmapCmdWord op 0) = pmapCommand (s.pmapStarted op) op 0 := by
  obtain ⟨hst, hfb⟩ := h
  have hw : fOf (pmapCmdWord op 0) F.PMAP_CMD_OP = op ∧ fOf (pmapCmdWord op 0) F.PMAP_CMD_FLOW = 0 ∧
      fOf (pmapCmdWord op 0) F.PMAP_CMD_START = 1 ∧ listed [(1, 5)] op = true := by
    obtain ⟨h1, h5⟩ := ho
    interval_cases op <;> decide
  obtain ⟨h1, h2, h3, h4⟩ := hw
  unfold pmapCmdWrite
  extract_lets op' f s1 s2
  have hop : op' = op := by simp only [op', h1, if_pos h4]
  have hs2 : s2 = s.pmapStarted op := by
    simp only [s2, s1, hop, f, h2]
    rfl
  rw [if_pos ⟨h3, hst⟩, if_neg (by omega), hfb, if_neg (by simp), hs2, hop]
  exact congrArg (pmapCommand _ op) h2

end Sys2Proof.Machine

/-! ## The commands FAILOVER and FAILBACK, and what ends a failback (R415 to R419) -/

namespace Sys2Proof.Machine

/-! ### FAILOVER (R415) -/

section
variable {s : State}

theorem failover_ends (h : s.gb F.PMAP_CMD_START 0 = false ∧ s.pmap.failback = false) (hp : postPort s = 1 ∨ postPort s = 2)
    (hc : canPost s (1 - (postPort s - 1)) = true) :
    Ends (execFailover s) fun t => postPort t = 3 - postPort s ∧ t.gf F.PMAP_CMD_STAT_RESULT 0 = 1 ∧
      t.gb F.PMAP_EVT_FAILOVER 0 = true ∧ t.gb F.PMAP_CMD_START 0 = false ∧
        (t.spoor.slots.get (slotKey postingSrc 0x132 0)).isSome = true := by
  have hcmd : pmapCommand (s.pmapStarted 4) 4 0 = (failoverTo (s.pmapStarted 4) (1 - (postPort s - 1)) 5).pmapEnd 1 0 0 := by
    unfold pmapCommand
    rw [pmapStarted_port, pmapStarted_canPost, hc]
    exact if_neg (by simp; omega)
  rw [execFailover, pmapCmdWrite_eq (by decide) h, hcmd]
  apply ends_of_ending
  obtain ⟨h1, _, h3, h4⟩ := failoverTo_spec (s.pmapStarted 4) (o := 1 - (postPort s - 1)) 5 (by omega)
  generalize failoverTo (s.pmapStarted 4) (1 - (postPort s - 1)) 5 = u at *
  obtain ⟨hres, _, hst⟩ := pmapEnd_spec u (r := 1) (c := 0) 0 (by decide) (by decide)
  rw [postPort, ending_gf, ending_gf, ending_gb, ending_gb, ending_spoor, pmapEnd_spoor]
  refine ⟨(portKept_pmapEnd u 1 0 0).port.trans (h1.trans (by omega)), hres, ?_, hst, h4⟩
  rw [pmapEnd_event u 0 0 (by decide) (by decide), h3]

theorem failover_refused_ends (h : s.gb F.PMAP_CMD_START 0 = false ∧ s.pmap.failback = false)
    (hc : postPort s = 0 ∨ canPost s (1 - (postPort s - 1)) = false) :
    Ends (execFailover s) fun t => t.gf F.PMAP_CMD_STAT_RESULT 0 = 3 ∧ t.gf F.PMAP_CMD_STAT_CAUSE 0 = 1 ∧
      t.gb F.PMAP_EVT_REJECT 0 = true ∧ postPort t = postPort s := by
  have hcmd : pmapCommand (s.pmapStarted 4) 4 0 = (s.pmapStarted 4).pmapEnd 3 1 0 := by
    unfold pmapCommand
    rw [pmapStarted_port, pmapStarted_canPost]
    exact if_pos hc
  rw [execFailover, pmapCmdWrite_eq (by decide) h, hcmd]
  apply ends_of_ending
  obtain ⟨hres, hcause, _⟩ := pmapEnd_spec (s.pmapStarted 4) (r := 3) (c := 1) 0 (by decide) (by decide)
  rw [ending_gf, ending_gf, ending_gb, postPort, ending_gf]
  exact ⟨hres, hcause, pmapEnd_reject _ _ _, (portKept_pmapEnd _ _ _ _).port.trans (pmapStarted_port s 4)⟩

/-! ### FAILBACK (R417) -/

/-- In PCIe mode a failback that begins runs, and the zero-length read has left. -/
theorem failbackStart_spec (hx : isCxl s (postPort s - 1) = false) : (failbackStart s).pmap.failback = true ∧
    .zeroRead (postPort s - 1) ∈ (failbackStart s).out := by
  unfold failbackStart
  extract_lets p pm s1
  rw [if_pos (by simpa using hx)]
  refine ⟨?_, mem_emit_out _ _⟩
  rw [emit_pmap]
  exact (portKept_foldl portKept_writeWp (uncovered s1) s1).back

theorem failback_cmd (h : s.gb F.PMAP_CMD_START 0 = false ∧ s.pmap.failback = false)
    (hc : canPost s (s.gf F.PMAP_CTRL_PRIMARY 0) = true) : pmapCmdWrite s (pmapCmdWord 5 0) =
      if postPort s = s.gf F.PMAP_CTRL_PRIMARY 0 + 1 then (s.pmapStarted 5).pmapEnd 3 2 0
      else if postPort s = 0 then (choosePort (s.pmapStarted 5)).pmapEnd 1 0 0
      else (failbackStart (s.pmapStarted 5)).pmapEnd 1 0 0 := by
  rw [pmapCmdWrite_eq (by decide) h]
  unfold pmapCommand
  extract_lets o
  have ho : o = s.gf F.PMAP_CTRL_PRIMARY 0 := pmapStarted_primary s 5
  rw [ho, pmapStarted_port]
  exact if_neg (by rw [pmapStarted_canPost, hc]; simp)

theorem failback_ends (h : s.gb F.PMAP_CMD_START 0 = false ∧ s.pmap.failback = false)
    (hc : canPost s (s.gf F.PMAP_CTRL_PRIMARY 0) = true)
    (hp : postPort s ≠ 0 ∧ postPort s ≠ s.gf F.PMAP_CTRL_PRIMARY 0 + 1) (hx : isCxl s (postPort s - 1) = false) :
    Ends (execFailback s) fun t => t.pmap.failback = true ∧ .zeroRead (postPort s - 1) ∈ t.out ∧
      t.gf F.PMAP_CMD_STAT_RESULT 0 = 1 := by
  rw [execFailback, failback_cmd h hc, if_neg hp.2, if_neg hp.1]
  apply ends_of_ending
  obtain ⟨h1, h2⟩ := failbackStart_spec (s := s.pmapStarted 5) (by rwa [pmapStarted_port, pmapStarted_isCxl])
  rw [pmapStarted_port] at h2
  generalize failbackStart (s.pmapStarted 5) = u at *
  rw [ending_pmap, ending_gf]
  refine ⟨(portKept_pmapEnd u 1 0 0).back.trans h1, mem_ending_out ?_, (pmapEnd_spec u 0 (by decide) (by decide)).1⟩
  rwa [pmapEnd_out]

theorem failback_there_ends (h : s.gb F.PMAP_CMD_START 0 = false ∧ s.pmap.failback = false)
    (hc : canPost s (s.gf F.PMAP_CTRL_PRIMARY 0) = true) (hp : postPort s = s.gf F.PMAP_CTRL_PRIMARY 0 + 1) :
    Ends (execFailback s) fun t => t.gf F.PMAP_CMD_STAT_RESULT 0 = 3 ∧ t.gf F.PMAP_CMD_STAT_CAUSE 0 = 2 ∧
      t.pmap.failback = false := by
  rw [execFailback, failback_cmd h hc, if_pos hp]
  apply ends_of_ending
  obtain ⟨hres, hcause, _⟩ := pmapEnd_spec (s.pmapStarted 5) (r := 3) (c := 2) 0 (by decide) (by decide)
  rw [ending_gf, ending_gf, ending_pmap]
  exact ⟨hres, hcause, (portKept_pmapEnd _ _ _ _).back.trans h.2⟩

theorem autoFailback_ends (h : s.gb F.PMAP_CTRL_FAILBACK 0 = true ∧ s.pmap.failback = false)
    (hc : canPost s (s.gf F.PMAP_CTRL_PRIMARY 0) = true)
    (hp : postPort s ≠ 0 ∧ postPort s ≠ s.gf F.PMAP_CTRL_PRIMARY 0 + 1) (hx : isCxl s (postPort s - 1) = false) :
    Ends (execAutoFailback s) fun t => t.pmap.failback = true ∧ .zeroRead (postPort s - 1) ∈ t.out := by
  unfold execAutoFailback
  extract_lets o
  rw [if_pos (by simp [o, h, hc, hp])]
  apply ends_of_ending
  obtain ⟨h1, h2⟩ := failbackStart_spec hx
  rw [ending_pmap]
  exact ⟨h1, mem_ending_out h2⟩

/-- A failback that ends leaves posting on the primary port. -/
theorem failbackEnd_spec (s : State) : postPort (failbackEnd s) = s.gf F.PMAP_CTRL_PRIMARY 0 + 1 ∧
    (failbackEnd s).pmap.waitCmd = s.pmap.waitCmd ∧ (failbackEnd s).pmap.failback = false ∧
      (failbackEnd s).gb F.PMAP_EVT_FAILBACK 0 = true := by
  unfold failbackEnd
  extract_lets o pm s1 s2 l
  have hlt : o + 1 < 4 := by
    have : o < 2 ^ 1 := Word.bits_lt _ 8 8
    omega
  have hport : postPort ((s1.setCache []).setPort (o + 1)) = o + 1 := setPort_port _ hlt
  have h2 : PortKept ((s1.setCache []).setPort (o + 1)) s2 := portKept_rerunPort _ 2
  have h4 := h2.trans (portKept_startWalks l s2)
  generalize l.foldl (fun s f => startWalk s f false s.pmap.inv.isSome) s2 = u at *
  have h6 := (h4.trans (portKept_sb u (f := F.PMAP_EVT_FAILBACK) (b := 0) (n := 0) true (by decide))).trans
    (portKept_raise _ postingSrc 0x133 (detailOf [(2, 1, o + 1)]))
  refine ⟨h6.port.trans hport, h6.wait, h6.back, ?_⟩
  rw [gb_congr (raise_regs _ _ _ _)]
  exact Regs.flag_setFld_self _ _ _ _ true (by decide)

theorem zeroCompletion_ends (h : postPort s ≠ 0 ∧ isCxl s (postPort s - 1) = false)
    (hf : s.pmap.failback = true ∧ s.pmap.waitCmd = none) :
    Ends (execReadCompletion .zero s) fun t => t.pmap.failback = false ∧ postPort t = s.gf F.PMAP_CTRL_PRIMARY 0 + 1 ∧
      t.gb F.PMAP_EVT_FAILBACK 0 = true := by
  obtain ⟨h1, h2, h3, h4⟩ := failbackEnd_spec s
  unfold execReadCompletion
  extract_lets p
  have hgo : (s.pmap.failback && !isCxl s p) = true := by simp [p, h.2, hf.1]
  rw [if_neg h.1, if_pos hgo, failbackFinish, runWaiting_none (h2.trans hf.2)]
  apply ends_of_ending
  rw [ending_pmap, postPort, ending_gf, ending_gb]
  exact ⟨h3, h1, h4⟩

/-! ### No port can post (R418) -/

end

theorem syncFlows_pmap (s : State) : s.syncFlows.pmap = s.pmap := rfl

theorem countLoss_pmap (s : State) (c f : Nat) : (s.countLoss c f).pmap = s.pmap := by
  unfold State.countLoss
  split <;> split <;> rfl

theorem discardHeld_pmap (s : State) (f k : Nat) : (s.discardHeld f k).1.pmap = s.pmap := by
  have keep : ∀ (l : List Item) (s : State), (l.foldl (fun s (i : Item) => s.countLoss i.cls i.flow) s).pmap = s.pmap := by
    intro l
    induction l with
    | nil => exact fun _ => rfl
    | cons i l ih => exact fun s => (ih _).trans (countLoss_pmap s _ _)
  exact keep _ s

theorem demote_cache (s : State) (f k : Nat) : (demote s f k).pmap.cache = s.pmap.cache := by
  unfold demote
  extract_lets fl s1
  split
  · rw [discardHeld_pmap]
    rfl
  · rfl

theorem demoteLoop_cache (k n : Nat) (s : State) (m : Nat) : (demoteLoop k n s m).1.pmap.cache = s.pmap.cache := by
  induction n generalizing s m with
  | zero => rfl
  | succ n ih =>
    unfold demoteLoop
    split
    · rfl
    · split
      · rw [ih, demote_cache]
      · rfl

theorem rerun_cache (s : State) (k : Nat) : (rerun s k).pmap.cache = s.pmap.cache := by
  unfold rerun
  extract_lets d s1
  have h1 : s1.pmap.cache = s.pmap.cache := (congrArg PmapS.cache (syncFlows_pmap d.1)).trans (demoteLoop_cache k _ s 0)
  split
  · exact h1
  · obtain ⟨_, _, h⟩ := raiseT_eq (s1.sb F.SPR_EVT_SHED 0 0 true) admission 5 0x120 0
      (detailOf [(2, 2, d.2), (4, 1, k), (5, 1, lowestPrio s1), (8, 4, 7 * s1.spoor.c16 / 160)])
    rw [h]
    exact h1

/-- A re-run leaves the map cache. -/
theorem rerunPort_cache (s : State) (k : Nat) : (rerunPort s k).pmap.cache = s.pmap.cache := rerun_cache _ k

theorem noPort_ends {s : State} (hp : postPort s ≠ 0 ∧ s.pmap.waitCmd = none)
    (hc : canPost s (postPort s - 1) = false ∧ canPost s (1 - (postPort s - 1)) = false) :
    Ends (execNoPort s) fun t => postPort t = 0 ∧ t.pmap.cache = [] ∧ t.gb F.PMAP_EVT_NOPORT 0 = true ∧
      (t.spoor.slots.get (slotKey postingSrc 0x134 0)).isSome = true := by
  unfold execNoPort
  extract_lets p pm s1
  have hgo : ¬ (postPort s = 0 ∨ canPost s p = true ∨ canPost s (1 - p) = true) := by simp [p, hp, hc]
  rw [if_neg hgo]
  have hw : ((noteStall s1 p).setCache []).pmap.waitCmd = none := ((portKept_noteStall s1 p).wait).trans hp.2
  have h1 : postPort (((noteStall s1 p).setCache []).setPort 0) = 0 := setPort_port _ (by decide)
  have hcache : (rerunPort (((noteStall s1 p).setCache []).setPort 0) 2).pmap.cache = [] := rerunPort_cache _ 2
  have h2 := portKept_rerunPort (((noteStall s1 p).setCache []).setPort 0) 2
  generalize rerunPort (((noteStall s1 p).setCache []).setPort 0) 2 = u at *
  have h4 := (h2.trans (portKept_sb u (f := F.PMAP_EVT_NOPORT) (b := 0) (n := 0) true (by decide))).trans
    (portKept_raise _ postingSrc 0x134 (detailOf []))
  rw [runWaiting_none (h4.wait.trans hw)]
  apply ends_of_ending
  rw [postPort, ending_gf, ending_pmap, ending_gb, ending_spoor, raise_pmap, gb_congr (raise_regs _ _ _ _)]
  exact ⟨h4.port.trans h1, hcache, Regs.flag_setFld_self _ _ _ _ true (by decide), raise_slot _ _ _ _⟩

end Sys2Proof.Machine

/-! ## Writes that leave a port with credit (R410 to R412) -/

namespace Sys2Proof.Machine

/-! ### What a write leaves -/

/-- Only the flows and the Spoor's registers of them may differ, and nothing has been taken back that had left the part. -/
structure WriteKept (s t : State) : Prop where
  regs : ∀ b, b ≠ .spr → t.regs.tab b = s.regs.tab b
  hops : t.spoor.hops = s.spoor.hops
  count : ∀ f, (t.post f).count = (s.post f).count
  uncov : ∀ f, (t.post f).uncov = (s.post f).uncov
  out : ∀ e, e ∈ s.out → e ∈ t.out

theorem WriteKept.refl (s : State) : WriteKept s s :=
  ⟨fun _ _ => rfl, rfl, fun _ => rfl, fun _ => rfl, fun _ h => h⟩

theorem WriteKept.trans {s t u : State} (h : WriteKept s t) (g : WriteKept t u) : WriteKept s u :=
  ⟨fun b hb => (g.regs b hb).trans (h.regs b hb), g.hops.trans h.hops, fun f => (g.count f).trans (h.count f),
   fun f => (g.uncov f).trans (h.uncov f), fun e he => g.out e (h.out e he)⟩

theorem WriteKept.gf {s t : State} (h : WriteKept s t) {f : Fld} (b n : Nat) (hf : f.reg.blk ≠ .spr) : t.gf f b n = s.gf f b n := by
  rw [State.gf, State.gf, State.rd, State.rd, h.regs _ hf]

theorem writeKept_foldl {α : Type} {f : State → α → State} (h : ∀ s x, WriteKept s (f s x)) (l : List α) (s : State) :
    WriteKept s (l.foldl f s) := by
  induction l generalizing s with
  | nil => exact WriteKept.refl s
  | cons x l ih => exact (h s x).trans (ih _)

theorem writeKept_sf (s : State) {f : Fld} {b n : Nat} (v : Nat) (h : f.reg.blk = .spr) : WriteKept s (s.sf f b n v) :=
  ⟨fun c hc => Regs.tab_put_ne _ _ (by rwa [h]), rfl, fun _ => rfl, fun _ => rfl, fun _ he => he⟩

theorem writeKept_setFlow (s : State) (f : Nat) (x : FlowS) : WriteKept s (s.setFlow f x) :=
  ⟨fun _ _ => rfl, rfl, fun _ => rfl, fun _ => rfl, fun _ he => he⟩

theorem writeKept_syncFlows (s : State) : WriteKept s s.syncFlows := by
  unfold State.syncFlows
  extract_lets n h s1 s2 s3
  exact ((((((writeKept_sf s (f := F.SPR_STAT_ACCEPTED) _ rfl).trans (writeKept_sf _ (f := F.SPR_USE_POOL_Q) _ rfl)).trans
    (writeKept_sf _ (f := F.SPR_USE_DIE0_RATE) _ rfl)).trans (writeKept_sf _ (f := F.SPR_USE_DIE1_RATE) _ rfl)).trans
    (writeKept_sf _ (f := F.SPR_USE_HOST_RATE) _ rfl)).trans (writeKept_sf _ (f := F.SPR_CAP_C) _ rfl)).trans
    (writeKept_sf _ (f := F.SPR_CAP_LIMIT) _ rfl)

theorem writeKept_releaseClosing (s : State) : WriteKept s s.releaseClosing := by
  unfold State.releaseClosing
  extract_lets q release sp
  refine WriteKept.trans ?_ (writeKept_syncFlows _)
  exact ⟨fun _ _ => rfl, rfl, fun _ => rfl, fun _ => rfl, fun _ he => he⟩

theorem writeKept_deliver (s : State) (w : Write) : WriteKept s (deliver s w) := by
  refine (writeKept_foldl (fun s i => ?_) _ s).trans (writeKept_releaseClosing _)
  split
  · exact writeKept_sf s (f := F.SPR_ALARM_CNT_COUNT) _ rfl
  · extract_lets x
    split
    · exact WriteKept.refl s
    · exact writeKept_setFlow _ _ _

theorem writeKept_msix (s : State) (p v : Nat) : WriteKept s (s.msix p v) := by
  obtain ⟨_, _, h⟩ := msix_eq s p v
  refine ⟨fun b _ => by rw [h], by rw [h], fun f => by rw [h]; rfl, fun f => by rw [h]; rfl, fun e he => mem_msix_out p v he⟩

theorem post_setPost (s : State) (f g : Nat) (x : PostS) : (s.setPost f x).post g = if g = f then x else s.post g :=
  Tab.get_set _ _ _ _

theorem writeKept_setPost {s : State} {f : Nat} {x : PostS} (hc : x.count = (s.post f).count) (hu : x.uncov = (s.post f).uncov) :
    WriteKept s (s.setPost f x) := by
  refine ⟨fun _ _ => rfl, rfl, fun g => ?_, fun g => ?_, fun _ he => he⟩
  · rw [post_setPost]
    split
    · rename_i hg
      rw [hc, hg]
    · rfl
  · rw [post_setPost]
    split
    · rename_i hg
      rw [hu, hg]
    · rfl

theorem writeKept_ite {s t u : State} {c : Prop} [Decidable c] (h : WriteKept s t) (g : WriteKept s u) :
    WriteKept s (if c then t else u) := by
  split
  · exact h
  · exact g

theorem writeKept_flowInterrupt (s : State) (f p : Nat) : WriteKept s (flowInterrupt s f p) := by
  unfold flowInterrupt
  extract_lets x
  split
  · exact writeKept_ite (writeKept_ite ((writeKept_setPost (by rfl) (by rfl)).trans (writeKept_msix _ _ _))
      (writeKept_setPost (by rfl) (by rfl))) (WriteKept.refl s)
  · exact WriteKept.refl s

theorem writeKept_noteStall (s : State) (p : Nat) : WriteKept s (noteStall s p) := by
  unfold noteStall
  extract_lets at_ now
  exact writeKept_ite (WriteKept.refl s) ⟨fun _ _ => rfl, rfl, fun _ => rfl, fun _ => rfl, fun _ he => he⟩

/-- A write that leaves for the first time has left the part. -/
theorem sendWrite_spec (s : State) (p : Nat) (w : Write) : WriteKept s (sendWrite s p w) ∧
    .hostWrite p w.op w.wp w.addr w.data ∈ (sendWrite s p w).out := by
  unfold sendWrite
  extract_lets w1 pm s1 s2 s3
  have h1 : WriteKept s s1 := ⟨fun _ _ => rfl, rfl, fun _ => rfl, fun _ => rfl, fun _ he => he⟩
  have h2 : WriteKept s s2 := h1.trans
    ⟨fun _ _ => by rw [emit_regs], by rw [emit_spoor], fun _ => rfl, fun _ => rfl, fun _ he => List.mem_cons_of_mem _ he⟩
  have h3 : WriteKept s2 s3 := writeKept_ite (writeKept_deliver _ _) (WriteKept.refl s2)
  have h4 : WriteKept s3 (if w.wp && !isCxl s p then flowInterrupt s3 w.flow p else s3) :=
    writeKept_ite (writeKept_flowInterrupt _ _ _) (WriteKept.refl s3)
  exact ⟨(h2.trans h3).trans h4, h4.out _ (h3.out _ (mem_emit_out _ _))⟩

/-! ### A write handed to a port with credit and no write waiting -/

/-- A fence window is hit by its two registers alone. -/
theorem fenceHit_congr {s t : State} (hb : ∀ w, t.rd64 R.PMAP_FENCEw_BASE 0 w = s.rd64 R.PMAP_FENCEw_BASE 0 w)
    (hl : ∀ w, t.rd64 R.PMAP_FENCEw_LIMIT 0 w = s.rd64 R.PMAP_FENCEw_LIMIT 0 w) (p a n : Nat) :
    fenceHit t p a n = fenceHit s p a n := by
  unfold fenceHit
  refine congrArg (List.any (List.range 16)) (funext fun w => ?_)
  rw [hb, hl]

theorem rd64_congr {s t : State} (h : t.regs = s.regs) (r : Reg) (b n : Nat) : t.rd64 r b n = s.rd64 r b n := by
  rw [State.rd64, State.rd64, h]

/-- The write leaves at once, and nothing but the flows' counts follows it. -/
theorem pushWrite_spec {s : State} {p : Nat} {w : Write} (hw : s.pmap.waiting.get p = []) (hc : s.pmap.credits.get p ≠ 0)
    (hf : fenceHit s p w.addr.toNat w.bytes = false) :
    WriteKept s (pushWrite s p w) ∧ .hostWrite p w.op w.wp w.addr w.data ∈ (pushWrite s p w).out := by
  unfold pushWrite
  extract_lets pm s1
  rw [if_neg hc, hw]
  have hs1 : s1.pmap.waiting.get p = [w] := by
    have : s1.pmap.waiting.get p = s.pmap.waiting.get p ++ [w] := Tab.get_set_self _ _ _
    rw [this, hw]
    rfl
  have hdrain : drainWrites p (([] : List Write).length + 1) s1 =
      noteStall (sendWrite { s1 with pmap := { s1.pmap with waiting := s1.pmap.waiting.set p [] } } p w) p := by
    rw [List.length_nil, drainWrites, if_neg hc, hs1]
    have hfence : fenceHit s1 p w.addr.toNat w.bytes = false := 
      (fenceHit_congr (fun _ => rd64_congr (by rfl) _ _ _) (fun _ => rd64_congr (by rfl) _ _ _) _ _ _).trans hf
    dsimp only
    rw [hfence, if_neg (by simp)]
    rfl
  rw [hdrain]
  have h1 : WriteKept s { s1 with pmap := { s1.pmap with waiting := s1.pmap.waiting.set p [] } } :=
    ⟨fun _ _ => rfl, rfl, fun _ => rfl, fun _ => rfl, fun _ he => he⟩
  generalize { s1 with pmap := { s1.pmap with waiting := s1.pmap.waiting.set p [] } } = u at *
  obtain ⟨h2, h3⟩ := sendWrite_spec u p w
  exact ⟨(h1.trans h2).trans (writeKept_noteStall _ _), (writeKept_noteStall _ _).out _ h3⟩

end Sys2Proof.Machine

/-! ## Records, write pointers and answers on the link (R397, R410 to R414) -/

namespace Sys2Proof.Machine

theorem post_ending (s t : State) (f : Nat) : (s.ending t).post f = t.post f := by
  rw [State.post, ending_pmap]
  rfl

theorem post_emit (s : State) (e : Emit) (f : Nat) : (s.emit e).post f = s.post f := rfl

theorem post_setPost_self (s : State) (f : Nat) (x : PostS) : (s.setPost f x).post f = x := Tab.get_set_self _ _ _

/-! ### Write pointers (R411, R412) -/

theorem Leaf.wp_toNat (l : Leaf) : (BitVec.ofNat 64 l.wp).toNat = l.wp := by
  have h := l.w1.isLt
  rw [BitVec.toNat_ofNat]
  exact Nat.mod_eq_of_lt (by simp only [Leaf.wp]; omega)

section
variable {s : State} {f : Nat} {l : Leaf}

/-- The write of a flow's write pointer. -/
def wpWriteOf (s : State) (f : Nat) (l : Leaf) : Write :=
  ⟨f, true, .posted, BitVec.ofNat 64 l.wp, (s.post f).count.setWidth 512, 0, []⟩

/-- In PCIe mode a write pointer that touches no window is handed to the port. -/
theorem writeWp_eq (he : (s.post f).entry = some l) (hx : isCxl s (postPort s - 1) = false)
    (hf : l.ats = false ∧ fenceHit s (postPort s - 1) l.wp 8 = false) :
    writeWp s f = pushWrite (s.setPost f { s.post f with uncov := 0 }) (postPort s - 1) (wpWriteOf s f l) := by
  unfold writeWp
  extract_lets p x
  have hxl : xlat s p l.ats l.wp true = .addr l.wp := by rw [xlat, hf.1]; rfl
  have hp : fenceHit s p l.wp 8 = false := hf.2
  have hcx : isCxl s p = false := hx
  rw [show x.entry = some l from he]
  dsimp only
  rw [hxl]
  dsimp only
  rw [hp, hcx]
  rfl

theorem unsettled_none {p : Nat} (hw : s.pmap.waiting.get p = []) (hx : isCxl s p = false) : unsettled s p f = false := by
  rw [unsettled, hw, hx]
  rfl

/-- A flow's write pointer leaves, and covers what was written. -/
theorem writeWp_spec (he : (s.post f).entry = some l) (hx : isCxl s (postPort s - 1) = false)
    (hw : s.pmap.waiting.get (postPort s - 1) = [] ∧ s.pmap.credits.get (postPort s - 1) ≠ 0)
    (hf : l.ats = false ∧ fenceHit s (postPort s - 1) l.wp 8 = false) :
    ((writeWp s f).post f).uncov = 0 ∧
      .hostWrite (postPort s - 1) .posted true (BitVec.ofNat 64 l.wp) ((s.post f).count.setWidth 512) ∈ (writeWp s f).out ∧
      ∀ b, b ≠ .spr → (writeWp s f).regs.tab b = s.regs.tab b := by
  rw [writeWp_eq he hx hf]
  have hfence : fenceHit (s.setPost f { s.post f with uncov := 0 }) (postPort s - 1) (wpWriteOf s f l).addr.toNat
      (wpWriteOf s f l).bytes = false := by
    refine (fenceHit_congr (fun _ => rfl) (fun _ => rfl) _ _ _).trans ?_
    rw [show (wpWriteOf s f l).addr.toNat = l.wp from l.wp_toNat]
    exact hf.2
  obtain ⟨hk, hout⟩ := pushWrite_spec (s := s.setPost f { s.post f with uncov := 0 }) hw.1 hw.2 hfence
  refine ⟨?_, hout, hk.regs⟩
  rw [hk.uncov, post_setPost, if_pos rfl]

theorem failbackCheck_pcie (h : isCxl s (postPort s - 1) = false) : failbackCheck s = s := by
  rw [failbackCheck, h]
  simp

theorem wpWrite_ends {s : State} {f : Fin 4096} {l : Leaf} (hp : postPort s ≠ 0 ∧ isCxl s (postPort s - 1) = false)
    (he : (s.post f).entry = some l) (hx : (s.post f).uncov ≠ 0 ∧ (s.post f).susp = none ∧ (s.post f).trans = none)
    (hw : s.pmap.waiting.get (postPort s - 1) = [] ∧ s.pmap.credits.get (postPort s - 1) ≠ 0)
    (hdue : 16 ≤ (s.post f).uncov ∨ (s.post f).uncovAt + 16000 ≤ s.hub.base ∨
      ((s.spoor.hops.get hopPost).any fun i => i.flow = f.val) = false)
    (hf : l.ats = false ∧ fenceHit s (postPort s - 1) l.wp 8 = false) :
    Ends (execWpWrite f s) fun t => (t.post f).uncov = 0 ∧
      .hostWrite (postPort s - 1) .posted true (BitVec.ofNat 64 l.wp) ((s.post f).count.setWidth 512) ∈ t.out := by
  obtain ⟨hu, hout, hregs⟩ := writeWp_spec he hp.2 hw hf
  have hport : postPort (writeWp s f) = postPort s := by
    rw [postPort, postPort, State.gf, State.gf, State.rd, State.rd, hregs _ (by decide)]
  have hcxl : isCxl (writeWp s f) (postPort (writeWp s f) - 1) = false := by
    rw [hport, isCxl, State.gf, State.rd, hregs _ (by decide)]
    exact hp.2
  unfold execWpWrite
  extract_lets g x more
  have hstop : ¬ (postPort s = 0 ∨ x.uncov = 0 ∨ x.susp.isSome = true ∨ x.trans.isSome = true ∨
      unsettled s (postPort s - 1) g = true) := by
    rw [unsettled_none hw.1 hp.2, show x.susp = none from hx.2.1, show x.trans = none from hx.2.2]
    simp
    exact ⟨hp.1, hx.1⟩
  have hgo : (!more || decide (16 ≤ x.uncov) || decide (x.uncovAt + 16000 ≤ s.hub.base)) = true := by
    simp only [Bool.or_eq_true, Bool.not_eq_true', decide_eq_true_eq]
    rcases hdue with h | h | h
    · exact Or.inl (Or.inr h)
    · exact Or.inr h
    · exact Or.inl (Or.inl h)
  rw [if_neg hstop, if_pos hgo, failbackCheck_pcie hcxl]
  apply ends_of_ending
  refine ⟨?_, mem_ending_out hout⟩
  rw [post_ending]
  exact hu

end

/-! ### Interrupts and RP reads (R413, R414) -/

section
variable {s : State} {f : Fin 4096} {l : Leaf}

theorem post_msix (s : State) (p v g : Nat) : (s.msix p v).post g = s.post g := by
  obtain ⟨_, _, h⟩ := msix_eq s p v
  rw [h]
  rfl

theorem intModExpire_ends (hd : (s.post f).intDue = true ∧ postPort s ≠ 0) (he : (s.post f).entry = some l)
    (ht : ((s.post f).lastInt.all fun v => decide (v + l.intMod * 16000 ≤ s.hub.base)) = true) :
    Ends (execIntModExpire f s) fun t => (t.post f).intDue = false ∧ (t.post f).lastInt = some s.hub.base := by
  have hexec : execIntModExpire f s = s.after
      ((s.setPost f { s.post f with intDue := false, lastInt := some s.hub.base }).msix (postPort s - 1) l.vector) := by
    unfold execIntModExpire
    extract_lets x due
    have hdue : due = true := by
      simp only [due, x, he]
      cases hl : (s.post f).lastInt with
      | none => rfl
      | some v => simpa [hl] using ht
    rw [hdue, if_pos (by simp [x, hd]), show x.entry = some l from he]
  rw [hexec]
  apply ends_of_ending
  rw [post_ending]
  rw [post_msix, post_setPost_self]
  exact ⟨rfl, rfl⟩

theorem rpRead_ends (hp : postPort s ≠ 0 ∧ s.pmap.failback = false) (he : postEntry s f = some l) (hfull : ringFull s f l = true)
    (hx : (s.post f).rpBusy = false ∧ (s.post f).susp = none ∧ (s.post f).trans = none)
    (ht : ((s.post f).rpAt.all fun t => decide (t + 16000 ≤ s.hub.base)) = true)
    (hf : l.ats = false ∧ fenceHit s (postPort s - 1) l.rp 8 = false) :
    Ends (execRpRead f s) fun t => (t.post f).rpBusy = true ∧ (t.post f).rpAt = some s.hub.base ∧
      .rpRead (postPort s - 1) (BitVec.ofNat 64 l.rp) ∈ t.out := by
  have hexec : execRpRead f s = s.after ((s.setPost f { s.post f with rpBusy := true, rpAt := some s.hub.base }).emit
      (.rpRead (postPort s - 1) (BitVec.ofNat 64 l.rp))) := by
    unfold execRpRead
    extract_lets g p x soon
    rw [show postEntry s g = some l from he]
    dsimp -zeta only
    have hsoon : soon = false := by
      simp only [soon, x, g]
      cases hr : (s.post f).rpAt with
      | none => rfl
      | some v => simpa [hr] using ht
    have hstop : ¬ (postPort s = 0 ∨ s.pmap.failback = true ∨ ringFull s g l = false ∨ x.rpBusy = true ∨ x.susp.isSome = true ∨
        x.trans.isSome = true ∨ soon = true) := by
      rw [hsoon, hp.2, show ringFull s g l = true from hfull, show x.rpBusy = false from hx.1, show x.susp = none from hx.2.1,
        show x.trans = none from hx.2.2]
      simpa using hp.1
    have hxl : xlat s p l.ats l.rp false = .addr l.rp := by rw [xlat, hf.1]; rfl
    rw [if_neg hstop, hxl]
    dsimp only
    rw [show fenceHit s p l.rp 8 = false from hf.2]
    rfl
  rw [hexec]
  apply ends_of_ending
  rw [post_ending, post_emit]
  rw [post_setPost_self]
  exact ⟨rfl, rfl, mem_ending_out (mem_emit_out _ _)⟩

/-! ### Answers (R397, R404, R411, R413) -/

theorem rpCompletion_ends {v : DWord} (hp : postPort s ≠ 0) (hb : (s.post f).rpBusy = true) :
    Ends (execReadCompletion (.rp f v) s) fun t => (t.post f).rp = some v ∧ (t.post f).rpBusy = false := by
  unfold execReadCompletion
  extract_lets p
  rw [if_neg hp]
  dsimp -zeta only
  extract_lets x
  rw [if_pos hb]
  apply ends_of_ending
  rw [post_ending]
  rw [post_setPost_self]
  exact ⟨rfl, rfl⟩

/-- A translation that is kept is there. -/
theorem keepTrans_get (s : State) (p : Nat) (page target : DWord) (r w : Bool) :
    (s.keepTrans p page target r w).pmap.trans.get (p * 2 ^ 52 + page.toNat / 4096) = some ⟨target, r, w⟩ :=
  Tab.get_set_self _ _ _

theorem transCompletion_ends {page p : DWord} {r w b : Bool} (hp : postPort s ≠ 0) (ht : (s.post f).trans = some (p, b))
    (hr : (if b then w else r) = true) (hw : (s.post f).walk = none) :
    Ends (execReadCompletion (.trans f page r w) s) fun t =>
      t.pmap.trans.get ((postPort s - 1) * 2 ^ 52 + p.toNat / 4096) = some ⟨page, r, w⟩ ∧ (t.post f).trans = none := by
  unfold execReadCompletion
  extract_lets q
  rw [if_neg hp]
  dsimp -zeta only
  extract_lets x
  rw [show x.trans = some (p, b) from ht]
  dsimp -zeta only
  rw [if_pos hr]
  extract_lets s1
  rw [show x.walk = none from hw]
  apply ends_of_ending
  rw [ending_pmap, post_ending, post_setPost_self]
  exact ⟨keepTrans_get s _ p page r w, rfl⟩

theorem finishAts_kept (s : State) (p : Nat) : (finishAts s p).pmap.gone = s.pmap.gone ∧
    (finishAts s p).pmap.credits = s.pmap.credits ∧ (finishAts s p).pmap.failback = s.pmap.failback := by
  unfold finishAts
  split <;> exact ⟨rfl, rfl, rfl⟩

theorem failbackCheck_idle (h : s.pmap.failback = false) : failbackCheck s = s := by
  rw [failbackCheck, h]
  simp

theorem goReceived_ends {w : Write} {l : List Write}
    (hp : postPort s ≠ 0 ∧ isCxl s (postPort s - 1) = true ∧ s.pmap.failback = false)
    (hg : s.pmap.gone.get (postPort s - 1) = w :: l) (hw : w.flow = f.val ∧ w.wp = false) :
    Ends (execGoReceived f false s) fun t => t.pmap.gone.get (postPort s - 1) = l := by
  obtain ⟨hp0, hx, hfb⟩ := hp
  unfold execGoReceived
  extract_lets g p
  have hfind : (s.pmap.gone.get p).find? (fun v => v.flow = g) = some w := by
    rw [show s.pmap.gone.get p = w :: l from hg]
    simp [g, hw.1]
  rw [if_neg (by rw [show isCxl s p = true from hx]; simp [hp0]), hfind]
  dsimp -zeta only
  extract_lets s1 s2 s5
  have hs2 : s2 = s1 := by
    simp only [s2, hw.2]
    rfl
  have hs5 : s5.pmap.gone.get p = l := by
    have h1 : s1.pmap.gone.get p = (s.pmap.gone.get p).erase w := Tab.get_set_self _ _ _
    rw [show s5.pmap.gone = s2.pmap.gone from (finishAts_kept s2 p).1, hs2, h1, show s.pmap.gone.get p = w :: l from hg,
      List.erase_cons_head]
  have hback : s5.pmap.failback = false := by
    rw [show s5.pmap.failback = s2.pmap.failback from (finishAts_kept s2 p).2.2, hs2]
    exact hfb
  rw [failbackCheck_idle hback]
  apply ends_of_ending
  rw [ending_pmap]
  exact hs5

theorem noteStall_credits (s : State) (p : Nat) : (noteStall s p).pmap.credits = s.pmap.credits := by
  unfold noteStall
  extract_lets at_ now
  split <;> rfl

theorem flowControlCredit_ends {p : Fin 2} {n : Nat} (hw : s.pmap.waiting.get p = []) :
    Ends (execFlowControlCredit p n s) fun t => t.pmap.credits.get p = s.pmap.credits.get p + n := by
  unfold execFlowControlCredit
  extract_lets pm s1 s2
  have h2 : s2.pmap.credits.get p = s.pmap.credits.get p + n := by
    have h1 : s1.pmap.credits.get p = s.pmap.credits.get p + n := Tab.get_set_self _ _ _
    dsimp only [s2]
    split
    · exact h1
    · exact h1
  apply ends_of_ending
  rw [ending_pmap]
  split
  · rw [(finishAts_kept _ _).2.1, hw]
    exact (congrArg (Tab.get · p.val) (noteStall_credits s2 p)).trans h2
  · exact h2

theorem snoop_ends {p : Fin 2} (h : isCxl s p = true) : Ends (execSnoop p s) fun t => .snoopResponse p ∈ t.out := by
  rw [execSnoop, if_pos h]
  apply ends_of_ending
  exact mem_ending_out (mem_emit_out _ _)

end

end Sys2Proof.Machine

/-! ## A record that the posting queue serves (R360 to R362, R410) -/

namespace Sys2Proof.Machine

/-! ### The arbiter of a hop that holds one record -/

theorem mem_of_tabFind {α : Type} {k : Nat} {v : α} {l : List (Nat × α)} (h : tabFind k l = some v) : (k, v) ∈ l := by
  induction l with
  | nil => exact absurd h (by simp [tabFind])
  | cons c l ih =>
    rw [tabFind] at h
    split at h
    · rename_i hk
      obtain rfl := Option.some.inj h
      rw [← hk]
      exact List.mem_cons_self
    · exact List.mem_cons_of_mem _ (ih h)

/-- A value that is not the default of its key stands in a table's cells. -/
theorem Tab.mem_cells {α : Type} {d : Nat → α} {t : Tab α d} {k : Nat} {v : α} (h : t.get k = v) (hv : v ≠ d k) :
    (k, v) ∈ t.cells := by
  cases hf : tabFind k t.cells with
  | none =>
    rw [Tab.get, hf] at h
    exact absurd h.symm hv
  | some w =>
    rw [Tab.get, hf] at h
    exact mem_of_tabFind (hf.trans (congrArg some h))

theorem rankOf_mem (s : State) (h : Nat) (i : Item) : rankOf s h i ∈ [1, 2, 3, 4, 5] := by
  unfold rankOf
  split_ifs <;> decide

/-- One input has its turn in every round, if a source behind it has a record. -/
theorem wrrPick_sole (left : List (Nat × Nat)) {n w : Nat} (hw : 0 < w) : ∃ l, wrrPick left [(n, w)] = some (n, l) := by
  unfold wrrPick
  extract_lets live round
  have hround : ∀ c ∈ round, c.1 = n := by
    intro c hc
    dsimp only [round] at hc
    split at hc
    · rw [(List.mem_filter.1 hc).1 |> List.mem_singleton.1]
    · have := (List.mem_filter.1 hc).2
      simp only [Bool.and_eq_true, List.any_cons, List.any_nil, Bool.or_false, decide_eq_true_eq] at this
      exact this.2.symm
  have hne : round ≠ [] := by
    dsimp only [round]
    split
    · simp [hw]
    · rename_i hl
      simpa using hl
  cases hr : round with
  | nil => exact absurd hr hne
  | cons c l =>
    rw [← hround c (by simp [hr])]
    exact ⟨_, rfl⟩

/-- The source of a record that waits at a hop from the Hub funnel on is behind its input. -/
theorem sourcesBehind_pos {s : State} {h : Nat} {i : Item} (hh : hopHub ≤ h) (hi : s.spoor.hops.get h = [i]) :
    0 < sourcesBehind s h (rankOf s h i) (inputOf h i.src) := by
  have hcell : (h, [i]) ∈ s.spoor.hops.cells := Tab.mem_cells hi (by simp)
  refine List.length_pos_of_mem (a := i.src.key) (List.mem_dedup.2 (List.mem_map.2 ⟨i, List.mem_filter.2 ⟨?_, ?_⟩, rfl⟩))
  · refine List.mem_flatten.2 ⟨[i], List.mem_map.2 ⟨(h, [i]), List.mem_filter.2 ⟨hcell, ?_⟩, rfl⟩, List.mem_singleton.2 rfl⟩
    simp
  · simp [onPath, hh]

theorem bestEffortFirst_sole (h : Nat) (i : Item) : bestEffortFirst h [i] = [i] := by
  unfold bestEffortFirst
  by_cases hc : i.cls = 1 <;> simp [hc]

/-- The arbiter of a hop from the Hub funnel on that holds one record which can leave serves it. -/
theorem arbitrate_sole {s : State} {h : Nat} {i : Item} {ok : Item → Bool} (hh : hopHub ≤ h) (hi : s.spoor.hops.get h = [i])
    (hok : ok i = true) : ∃ k left, arbitrate s h ok = some (i, k, left) := by
  have hpos := sourcesBehind_pos hh hi
  have hmem := rankOf_mem s h i
  obtain ⟨r, hr⟩ : ∃ r, rankOf s h i = r := ⟨_, rfl⟩
  rw [hr] at hpos hmem
  have hfind : ([1, 2, 3, 4, 5].find? fun k => [i].any fun j => decide (rankOf s h j = k)) = some r := by
    simp only [List.any_cons, List.any_nil, Bool.or_false, hr]
    simp only [List.mem_cons, List.not_mem_nil, or_false] at hmem
    rcases hmem with rfl | rfl | rfl | rfl | rfl <;> rfl
  have hl : ([i].filter ok) = [i] := by simp [hok]
  have hmine : ([i].filter fun j => decide (rankOf s h j = r)) = [i] := by simp [hr]
  unfold arbitrate
  rw [hi, hl]
  dsimp only
  rw [hfind]
  dsimp only
  rw [hmine, bestEffortFirst_sole, ite_self]
  split
  · exact ⟨r, [], rfl⟩
  · obtain ⟨left, hw⟩ := wrrPick_sole (s.spoor.wrr.get (h * 8 + r)) hpos (n := inputOf h i.src)
    refine ⟨r, left, ?_⟩
    simp [hw]

/-! ### A record written into its ring (R410) -/

/-- Only the map cache and PMAP_STAT.CACHED differ. -/
structure CacheOnly (s t : State) : Prop where
  waiting : t.pmap.waiting = s.pmap.waiting
  credits : t.pmap.credits = s.pmap.credits
  flows : t.pmap.flows = s.pmap.flows
  spoor : t.spoor = s.spoor
  fence : ∀ p a n, fenceHit t p a n = fenceHit s p a n

theorem setCache_rd64 (s : State) (c : List CacheE) {r : Reg} {n : Nat} (h : 0x40004 < r.addr 0 n) :
    (s.setCache c).rd64 r 0 n = s.rd64 r 0 n := by
  have hword : ∀ k, 0x40004 < k → ((s.setCache c).regs.tab r.blk).get k = (s.regs.tab r.blk).get k := by
    intro k hk
    have hregs : (s.setCache c).regs = s.regs.setFld F.PMAP_STAT_CACHED 0 0 c.length := rfl
    rw [hregs, Regs.setFld, Regs.setWord]
    by_cases hb : r.blk = F.PMAP_STAT_CACHED.reg.blk
    · rw [hb, Regs.tab_put_self, Tab.get_set_ne]
      simp only [Reg.addr, F.PMAP_STAT_CACHED, R.PMAP_STAT]
      omega
    · rw [Regs.tab_put_ne _ _ hb]
  rw [State.rd64, State.rd64, hword _ h, hword _ (by omega)]

theorem cacheOnly_touch (s : State) (f : Nat) : CacheOnly s (touch s f) := by
  unfold touch
  split
  · refine ⟨rfl, rfl, rfl, rfl, fun p a n => fenceHit_congr (fun w => ?_) (fun w => ?_) p a n⟩
    · exact setCache_rd64 s _ (by simp only [Reg.addr, R.PMAP_FENCEw_BASE]; omega)
    · exact setCache_rd64 s _ (by simp only [Reg.addr, R.PMAP_FENCEw_LIMIT]; omega)
  · exact ⟨rfl, rfl, rfl, rfl, fun _ _ _ => rfl⟩

/-- The address of a flow's next record in its ring. -/
def ringAddr (s : State) (f : Nat) (l : Leaf) : Nat := l.base + 32 * ((s.post f).count.toNat % 2 ^ l.logSize)

theorem ringAddr_lt {s : State} {f : Nat} {l : Leaf} (h : l.base + 32 * 2 ^ l.logSize ≤ 2 ^ 64) : ringAddr s f l < 2 ^ 64 := by
  have : (s.post f).count.toNat % 2 ^ l.logSize < 2 ^ l.logSize := Nat.mod_lt _ (Nat.two_pow_pos _)
  rw [ringAddr]
  omega

/-- The write of a record. -/
def recordWriteOf (s : State) (i : Item) (l : Leaf) : Write :=
  ⟨i.flow, false, .posted, BitVec.ofNat 64 (ringAddr s i.flow l), ((0 : BitVec 512) <<< 256) ||| (recordBits s i).setWidth 512, 0, [i]⟩

/-- The state in which the write of a sole record is handed to the port. -/
def State.recordTaken (s : State) (i : Item) (l : Leaf) : State :=
  ({ s with spoor := { s.spoor with hops := s.spoor.hops.set hopPost (([i].erase i)) } }).setPost i.flow
    { s.post i.flow with count := (s.post i.flow).count + BitVec.ofNat 64 1, uncov := (s.post i.flow).uncov + 1,
                         uncovAt := if (s.post i.flow).uncov = 0 then s.hub.base else (s.post i.flow).uncovAt, entry := some l }

section
variable {s : State} {i : Item} {l : Leaf}

/-- In PCIe mode the sole record of the posting queue goes to its place in the ring. -/
theorem writeRecord_eq (hx : isCxl s (postPort s - 1) = false) (hq : s.spoor.hops.get hopPost = [i])
    (hf : l.ats = false ∧ fenceHit s (postPort s - 1) (ringAddr s i.flow l) 32 = false) :
    writeRecord s i l = pushWrite (touch (s.recordTaken i l) i.flow) (postPort s - 1) (recordWriteOf s i l) := by
  unfold writeRecord
  extract_lets f p x addr q second room items data rest sp s1 s2
  have hxl : xlat s p l.ats addr true = .addr addr := by rw [xlat, hf.1]; rfl
  have hcx : isCxl s p = false := hx
  have hitems : items = [i] := by
    have hsecond : second = none := by simp [second, hcx]
    simp only [items, hsecond]
  have hdata : data = ((0 : BitVec 512) <<< 256) ||| (recordBits s i).setWidth 512 := by
    simp only [data, hitems, List.foldr_cons, List.foldr_nil]
  have hrest : rest = [i].erase i := by
    simp only [rest, hitems, hq]
    rfl
  have hs2 : s2 = s.recordTaken i l := by
    simp only [s2, s1, hitems, hrest]
    rfl
  rw [hxl]
  dsimp -zeta only
  have hfence : ¬ fenceHit s p addr (32 * items.length) = true := by
    rw [hitems]
    exact Bool.eq_false_iff.1 hf.2
  rw [if_neg hfence, hcx, hdata, hs2, hitems]
  rfl

/-- The record leaves the queue for its place in the ring, and its flow's count goes on. -/
theorem writeRecord_spec (hx : isCxl s (postPort s - 1) = false) (hq : s.spoor.hops.get hopPost = [i])
    (hf : l.ats = false ∧ fenceHit s (postPort s - 1) (ringAddr s i.flow l) 32 = false)
    (hw : s.pmap.waiting.get (postPort s - 1) = [] ∧ s.pmap.credits.get (postPort s - 1) ≠ 0)
    (hb : l.base + 32 * 2 ^ l.logSize ≤ 2 ^ 64) :
    ((writeRecord s i l).post i.flow).count = (s.post i.flow).count + 1 ∧
      (writeRecord s i l).spoor.hops.get hopPost = [] ∧
      .hostWrite (postPort s - 1) .posted false (BitVec.ofNat 64 (ringAddr s i.flow l)) ((recordBits s i).setWidth 512) ∈
        (writeRecord s i l).out := by
  have hc := cacheOnly_touch (s.recordTaken i l) i.flow
  have haddr : (recordWriteOf s i l).addr.toNat = ringAddr s i.flow l := by
    rw [recordWriteOf, BitVec.toNat_ofNat]
    exact Nat.mod_eq_of_lt (ringAddr_lt hb)
  have hfence : fenceHit (touch (s.recordTaken i l) i.flow) (postPort s - 1) (recordWriteOf s i l).addr.toNat
      (recordWriteOf s i l).bytes = false := by
    rw [hc.fence, haddr]
    exact (fenceHit_congr (fun _ => rfl) (fun _ => rfl) _ _ _).trans hf.2
  obtain ⟨hk, hout⟩ := pushWrite_spec (s := touch (s.recordTaken i l) i.flow) (p := postPort s - 1) (w := recordWriteOf s i l)
    (by rw [hc.waiting]; exact hw.1) (by rw [hc.credits]; exact hw.2) hfence
  rw [writeRecord_eq hx hq hf]
  refine ⟨?_, ?_, ?_⟩
  · rw [hk.count, State.post, hc.flows]
    exact congrArg PostS.count (post_setPost_self _ _ _)
  · rw [hk.hops, hc.spoor]
    refine (Tab.get_set_self _ _ _).trans ?_
    simp
  · have hzero : (recordWriteOf s i l).data = (recordBits s i).setWidth 512 := by simp [recordWriteOf]
    rw [hzero] at hout
    exact hout

/-! ### POST_RECORD -/

theorem leaveHop_sole {h k : Nat} {left : List (Nat × Nat)} (hq : s.spoor.hops.get h = [i])
    (hd : s.spoor.hopDrops.get (h * 65536 + i.src.key) = 0) :
    (leaveHop s h i k left).2 = i ∧ (leaveHop s h i k left).1.spoor.hops.get h = [] := by
  unfold leaveHop
  extract_lets key take
  have htake : take = 0 := by simp only [take, key, hd, Nat.min_zero]
  refine ⟨?_, ?_⟩
  · rw [htake]
    rfl
  · refine (Tab.get_set_self _ _ _).trans ?_
    rw [hq]
    simp

/-- The posting queue as its arbiter has served a record: the record is at its head, for its ring. -/
def State.served (s : State) (i : Item) (k : Nat) (left : List (Nat × Nat)) : State :=
  let a := leaveHop s hopPost i k left
  { a.1 with spoor := { a.1.spoor with hops := a.1.spoor.hops.set hopPost (a.2 :: a.1.spoor.hops.get hopPost) } }

theorem served_hops {k : Nat} {left : List (Nat × Nat)} (hq : s.spoor.hops.get hopPost = [i])
    (hd : s.spoor.hopDrops.get (hopPost * 65536 + i.src.key) = 0) : (s.served i k left).spoor.hops.get hopPost = [i] := by
  obtain ⟨h2, h1⟩ := leaveHop_sole (k := k) (left := left) hq hd
  refine (Tab.get_set_self _ _ _).trans ?_
  rw [h2, h1]

theorem postNext_eq (hp : postPort s ≠ 0 ∧ canPost s (postPort s - 1) = true ∧ s.pmap.failback = false)
    (hq : s.spoor.hops.get hopPost = [i]) (hd : s.spoor.hopDrops.get (hopPost * 65536 + i.src.key) = 0)
    (hpost : postable s i = true) (he : postEntry s i.flow = some l) :
    ∃ k left, postNext s = writeRecord (s.served i k left) i l := by
  obtain ⟨hp0, hcan, hfb⟩ := hp
  obtain ⟨k, left, harb⟩ := arbitrate_sole (h := hopPost) (ok := postable s) (by decide) hq hpost
  have h2 := (leaveHop_sole (k := k) (left := left) hq hd).1
  refine ⟨k, left, ?_⟩
  unfold postNext
  rw [if_neg (by simp [hp0, hcan, hfb]), harb]
  dsimp -zeta only
  rw [he]
  exact congrArg (fun j => writeRecord (s.served i k left) j l) h2

theorem postNext_spec (hp : postPort s ≠ 0 ∧ canPost s (postPort s - 1) = true ∧ isCxl s (postPort s - 1) = false ∧
      s.pmap.failback = false) (hq : s.spoor.hops.get hopPost = [i])
    (hd : s.spoor.hopDrops.get (hopPost * 65536 + i.src.key) = 0) (hpost : postable s i = true)
    (he : postEntry s i.flow = some l) (hf : l.ats = false ∧ fenceHit s (postPort s - 1) (ringAddr s i.flow l) 32 = false)
    (hw : s.pmap.waiting.get (postPort s - 1) = [] ∧ s.pmap.credits.get (postPort s - 1) ≠ 0)
    (hb : l.base + 32 * 2 ^ l.logSize ≤ 2 ^ 64) :
    ((postNext s).post i.flow).count = (s.post i.flow).count + 1 ∧ (postNext s).spoor.hops.get hopPost = [] ∧
      .hostWrite (postPort s - 1) .posted false (BitVec.ofNat 64 (ringAddr s i.flow l)) ((recordBits s i).setWidth 512) ∈
        (postNext s).out := by
  obtain ⟨k, left, heq⟩ := postNext_eq ⟨hp.1, hp.2.1, hp.2.2.2⟩ hq hd hpost he
  rw [heq]
  exact writeRecord_spec (s := s.served i k left) hp.2.2.1 (served_hops hq hd) hf hw hb

theorem postRecord_ends {n : Nat}
    (hp : postPort s ≠ 0 ∧ canPost s (postPort s - 1) = true ∧ isCxl s (postPort s - 1) = false ∧ s.pmap.failback = false)
    (hq : s.spoor.hops.get hopPost = [i]) (hd : s.spoor.hopDrops.get (hopPost * 65536 + i.src.key) = 0)
    (hpost : postable s i = true) (he : postEntry s i.flow = some l)
    (hf : l.ats = false ∧ fenceHit s (postPort s - 1) (ringAddr s i.flow l) 32 = false)
    (hw : s.pmap.waiting.get (postPort s - 1) = [] ∧ s.pmap.credits.get (postPort s - 1) ≠ 0)
    (hb : l.base + 32 * 2 ^ l.logSize ≤ 2 ^ 64) :
    Ends (execPostRecord n s) fun t => (t.post i.flow).count = (s.post i.flow).count + 1 ∧ t.spoor.hops.get hopPost = [] ∧
      .hostWrite (postPort s - 1) .posted false (BitVec.ofNat 64 (ringAddr s i.flow l)) ((recordBits s i).setWidth 512) ∈ t.out := by
  obtain ⟨g1, g2, g3⟩ := postNext_spec (s := s.gainReserve hopPost n) hp hq hd hpost he hf hw hb
  rw [execPostRecord]
  apply ends_of_ending
  rw [post_ending, ending_spoor]
  exact ⟨g1, g2, mem_ending_out g3⟩

end

/-- Settles O37: each clause is the lemma about its command. -/
theorem postingWrites : Obligations.PostingWrites :=
  ⟨fun _ _ _ _ hp hq hd hpost he hf hw hb => postRecord_ends hp hq hd hpost he hf hw hb,
   fun _ _ _ hp he hx hw hdue hf => wpWrite_ends hp he hx hw hdue hf,
   fun _ _ _ hd he ht => intModExpire_ends hd he ht,
   fun _ _ _ hp he hfull hx ht hf => rpRead_ends hp he hfull hx ht hf,
   fun _ _ _ hp hb => rpCompletion_ends hp hb,
   fun _ _ _ _ _ _ _ hp ht hr hw => transCompletion_ends hp ht hr hw,
   fun _ _ _ _ hp hg hw => goReceived_ends hp hg hw,
   fun _ _ _ hw => flowControlCredit_ends hw,
   fun _ _ h => snoop_ends h,
   fun _ h hp hc => failover_ends h hp hc,
   fun _ h hc => failover_refused_ends h hc,
   fun _ _ hp ht hc => postingFailover_ends hp ht hc,
   fun _ h hc hp hx => failback_ends h hc hp hx,
   fun _ h hc hp => failback_there_ends h hc hp,
   fun _ h hc hp hx => autoFailback_ends h hc hp hx,
   fun _ h hf => zeroCompletion_ends h hf,
   fun _ hp hc => noPort_ends hp hc⟩

end Sys2Proof.Machine

/-! ## The Sett's own registers, and a command of SETT_CMD that starts (R16, R68, R492, R507) -/

namespace Sys2Proof.Machine

/-! ### One rule for each access to the Sett's own registers -/

theorem ownW_setOwnW_self (s : State) (r : Reg) (n : Nat) (v : Word) : (s.setOwnW r n v).ownW r n = v := Tab.get_set_self _ _ _

theorem ownW_setOwnW_ne (s : State) {q r : Reg} {m n : Nat} (v : Word) (h : q.addr 0 m ≠ r.addr 0 n) :
    (s.setOwnW r n v).ownW q m = s.ownW q m := Tab.get_set_ne _ _ h

theorem ownW_setOwn_ne (s : State) {f : Fld} {q : Reg} {m n : Nat} (v : Nat) (h : q.addr 0 m ≠ f.reg.addr 0 n) :
    (s.setOwn f n v).ownW q m = s.ownW q m := ownW_setOwnW_ne s _ h

theorem own_congr {s t : State} {f : Fld} {n : Nat} (h : t.ownW f.reg n = s.ownW f.reg n) : t.own f n = s.own f n := by
  rw [State.own, State.own, h]

/-- A field written reads back, cut to its width. -/
theorem own_setOwn_self (s : State) (f : Fld) (n v : Nat) (h : f.hi < 32) :
    (s.setOwn f n v).own f n = v % 2 ^ (f.hi + 1 - f.lo) := by
  rw [State.own, State.setOwn, ownW_setOwnW_self]
  exact Word.bits_setBits_self _ _ _ _ h

/-- A field written leaves the other fields of its register. -/
theorem own_setOwn_reg (s : State) (f g : Fld) (n v : Nat)
    (h : g.reg = f.reg ∧ (f.hi < g.lo ∨ g.hi < f.lo) ∧ g.hi < 32) : (s.setOwn f n v).own g n = s.own g n := by
  obtain ⟨hr, hd, hh⟩ := h
  rw [State.own, State.own, State.setOwn, hr, ownW_setOwnW_self]
  exact Word.bits_setBits_ne _ _ _ _ _ _ hd hh

/-- A field written leaves the fields of every other register. -/
theorem own_setOwn_ne (s : State) {f g : Fld} {m n : Nat} (v : Nat) (h : g.reg.addr 0 m ≠ f.reg.addr 0 n) :
    (s.setOwn f n v).own g m = s.own g m := own_congr (ownW_setOwn_ne s v h)

/-- A flag set reads 1. -/
theorem ownB_setOwn_one (s : State) (f : Fld) (n : Nat) (h : f.hi < 32 ∧ f.hi = f.lo) : (s.setOwn f n 1).ownB f n = true := by
  obtain ⟨hh, he⟩ := h
  rw [State.ownB, own_setOwn_self s f n 1 hh, he, Nat.add_sub_cancel_left]
  rfl

section
variable (s t : State)

theorem ending_ownW (r : Reg) (n : Nat) : (s.ending t).ownW r n = t.ownW r n := by
  rw [State.ownW, State.ownW, ending_sett]
theorem ending_own (f : Fld) (n : Nat) : (s.ending t).own f n = t.own f n := own_congr (ending_ownW s t f.reg n)
theorem ending_ownB (f : Fld) (n : Nat) : (s.ending t).ownB f n = t.ownB f n := by
  rw [State.ownB, State.ownB, ending_own]
theorem ending_settResult : settResult (s.ending t) = settResult t := by
  simp only [settResult, ending_own, ending_ownB]
end

/-! ### The outcome of a command -/

theorem settEnd_regs (s : State) (r c : Nat) : (settEnd s r c).regs = s.regs := rfl
theorem settDone_regs (s : State) : (settDone s).regs = s.regs := settEnd_regs s 1 0
theorem settDone_rgn (s : State) : (settDone s).rgn = s.rgn := rfl
theorem settRefuse_regs (s : State) (c : Nat) : (settRefuse s c).regs = s.regs := settEnd_regs s 3 c

theorem setOwn_part (s : State) (f : Fld) (n v : Nat) {α : Type} (g : SettS → α) (hg : ∀ x o, g { x with own := o } = g x) :
    g (s.setOwn f n v).sett = g s.sett := hg _ _

/-- The end of a command changes nothing else that the Sett holds. -/
theorem settEnd_part (s : State) (r c : Nat) {α : Type} (g : SettS → α) (hg : ∀ x o, g { x with own := o } = g x) :
    g (settEnd s r c).sett = g s.sett := (hg _ _).trans ((hg _ _).trans (hg _ _))

/-- Nor does an event noted just before it. -/
theorem settDone_setOwn_part (s : State) (f : Fld) (n v : Nat) {α : Type} (g : SettS → α)
    (hg : ∀ x o, g { x with own := o } = g x) : g (settDone (s.setOwn f n v)).sett = g s.sett :=
  (settEnd_part (s.setOwn f n v) 1 0 g hg).trans (setOwn_part s f n v g hg)

theorem settRefuse_part (s : State) (c : Nat) {α : Type} (g : SettS → α) (hg : ∀ x o, g { x with own := o } = g x) :
    g (settRefuse s c).sett = g s.sett := (hg _ _).trans (settEnd_part s 3 c g hg)

theorem settResult_settEnd (s : State) {r c : Nat} (hr : r < 4) (hc : c < 16) : settResult (settEnd s r c) = (false, r, c) := by
  unfold settResult settEnd
  have h1 : (((s.setOwn F.SETT_CMD_START 0 0).setOwn F.SETT_CMD_STAT_RESULT 0 r).setOwn F.SETT_CMD_STAT_CAUSE 0 c).own
      F.SETT_CMD_START 0 = 0 := by
    rw [own_setOwn_ne _ _ (by decide), own_setOwn_ne _ _ (by decide), own_setOwn_self _ _ _ _ (by decide)]; rfl
  have h2 : (((s.setOwn F.SETT_CMD_START 0 0).setOwn F.SETT_CMD_STAT_RESULT 0 r).setOwn F.SETT_CMD_STAT_CAUSE 0 c).own
      F.SETT_CMD_STAT_RESULT 0 = r := by
    rw [own_setOwn_reg _ _ _ _ _ (by decide), own_setOwn_self _ _ _ _ (by decide)]; exact Nat.mod_eq_of_lt hr
  have h3 : (((s.setOwn F.SETT_CMD_START 0 0).setOwn F.SETT_CMD_STAT_RESULT 0 r).setOwn F.SETT_CMD_STAT_CAUSE 0 c).own
      F.SETT_CMD_STAT_CAUSE 0 = c := by
    rw [own_setOwn_self _ _ _ _ (by decide)]; exact Nat.mod_eq_of_lt hc
  rw [State.ownB, h1, h2, h3]; rfl

theorem settResult_settDone (s : State) : settResult (settDone s) = (false, 1, 0) :=
  settResult_settEnd s (by decide) (by decide)

/-- Registers other than SETT_CMD and SETT_CMD_STAT stand as before the end of a command. -/
theorem settEnd_ownW (s : State) (r c : Nat) {q : Reg} {m : Nat} (h : q.addr 0 m ≠ 0x100004 ∧ q.addr 0 m ≠ 0x100008) :
    (settEnd s r c).ownW q m = s.ownW q m := by
  obtain ⟨h1, h2⟩ := h
  rw [settEnd, ownW_setOwn_ne _ _ h2, ownW_setOwn_ne _ _ h2, ownW_setOwn_ne _ _ h1]

theorem settDone_ownB (s : State) {f : Fld} {m : Nat} (h : f.reg.addr 0 m ≠ 0x100004 ∧ f.reg.addr 0 m ≠ 0x100008) :
    (settDone s).ownB f m = s.ownB f m := by
  rw [State.ownB, State.ownB, settDone, own_congr (settEnd_ownW s 1 0 h)]

theorem settResult_congr {s t : State} (hc : t.ownW R.SETT_CMD 0 = s.ownW R.SETT_CMD 0)
    (hs : t.ownW R.SETT_CMD_STAT 0 = s.ownW R.SETT_CMD_STAT 0) : settResult t = settResult s := by
  have h1 : t.own F.SETT_CMD_START 0 = s.own F.SETT_CMD_START 0 := own_congr hc
  have h2 : t.own F.SETT_CMD_STAT_RESULT 0 = s.own F.SETT_CMD_STAT_RESULT 0 := own_congr hs
  have h3 : t.own F.SETT_CMD_STAT_CAUSE 0 = s.own F.SETT_CMD_STAT_CAUSE 0 := own_congr hs
  rw [settResult, settResult, State.ownB, State.ownB, h1, h2, h3]

theorem settResult_of_own {s t : State} (h : t.sett.own = s.sett.own) : settResult t = settResult s :=
  settResult_congr (by rw [State.ownW, State.ownW, h]) (by rw [State.ownW, State.ownW, h])

theorem settResult_settRefuse (s : State) {c : Nat} (hc : c < 16) : settResult (settRefuse s c) = (false, 3, c) := by
  rw [settRefuse, settResult_congr (ownW_setOwn_ne _ _ (by decide)) (ownW_setOwn_ne _ _ (by decide))]
  exact settResult_settEnd s (by decide) hc

theorem settRefuse_reject (s : State) (c : Nat) : (settRefuse s c).ownB F.SETT_EVT_REJECT 0 = true :=
  ownB_setOwn_one _ _ _ (by decide)

/-! ### A command that the Sett takes -/

/-- SETT_CMD holds the command, START with it, and SETT_CMD_STAT reads 0. -/
def State.cmdTaken (s : State) (op guard arg : Nat) : State :=
  ((s.setOwnW R.SETT_CMD 0 (settWord op guard arg)).setOwn F.SETT_CMD_STAT_RESULT 0 0).setOwn F.SETT_CMD_STAT_CAUSE 0 0

section
variable (s : State) (op guard arg : Nat)

theorem cmdTaken_regs : (s.cmdTaken op guard arg).regs = s.regs := by
  rw [State.cmdTaken, setOwn_regs, setOwn_regs, setOwnW_regs]
theorem cmdTaken_rgn : (s.cmdTaken op guard arg).rgn = s.rgn := by
  rw [State.cmdTaken, setOwn_rgn, setOwn_rgn, setOwnW_rgn]
theorem cmdTaken_cfg : (s.cmdTaken op guard arg).cfg = s.cfg := by
  rw [State.cmdTaken, setOwn_cfg, setOwn_cfg, setOwnW_cfg]

/-- The command changes nothing that the Sett holds but those registers. -/
theorem cmdTaken_part {α : Type} (g : SettS → α) (hg : ∀ x o, g { x with own := o } = g x) :
    g (s.cmdTaken op guard arg).sett = g s.sett := by
  rw [State.cmdTaken]
  exact (hg _ _).trans ((hg _ _).trans (hg _ _))

theorem cmdTaken_ownW {q : Reg} {m : Nat} (h : q.addr 0 m ≠ 0x100004 ∧ q.addr 0 m ≠ 0x100008) :
    (s.cmdTaken op guard arg).ownW q m = s.ownW q m := by
  obtain ⟨h1, h2⟩ := h
  rw [State.cmdTaken, ownW_setOwn_ne _ _ h2, ownW_setOwn_ne _ _ h2, ownW_setOwnW_ne _ _ h1]

theorem cmdTaken_own {f : Fld} {m : Nat} (h : f.reg.addr 0 m ≠ 0x100004 ∧ f.reg.addr 0 m ≠ 0x100008) :
    (s.cmdTaken op guard arg).own f m = s.own f m := own_congr (cmdTaken_ownW s op guard arg h)

theorem settWord_start {op guard arg : Nat} (h : op < 16 ∧ guard < 256 ∧ arg < 65536) :
    (settWord op guard arg).bits 31 31 = 1 := by
  obtain ⟨ho, hg, ha⟩ := h
  simp only [settWord, Word.bits, BitVec.toNat_ofNat]
  omega

theorem settResult_cmdTaken {op guard arg : Nat} (h : op < 16 ∧ guard < 256 ∧ arg < 65536) :
    settResult (s.cmdTaken op guard arg) = (true, 0, 0) := by
  have h1 : (s.cmdTaken op guard arg).own F.SETT_CMD_START 0 = 1 := by
    rw [State.cmdTaken, own_setOwn_ne _ _ (by decide), own_setOwn_ne _ _ (by decide), State.own]
    exact (congrArg (fun w : Word => w.bits 31 31) (ownW_setOwnW_self s R.SETT_CMD 0 _)).trans (settWord_start h)
  have h2 : (s.cmdTaken op guard arg).own F.SETT_CMD_STAT_RESULT 0 = 0 := by
    rw [State.cmdTaken, own_setOwn_reg _ _ _ _ _ (by decide), own_setOwn_self _ _ _ _ (by decide)]; rfl
  have h3 : (s.cmdTaken op guard arg).own F.SETT_CMD_STAT_CAUSE 0 = 0 := by
    rw [State.cmdTaken, own_setOwn_self _ _ _ _ (by decide)]; rfl
  rw [settResult, State.ownB, h1, h2, h3]; rfl

theorem hubOn_cmdTaken : hubOn (s.cmdTaken op guard arg) = hubOn s := by
  unfold hubOn
  rw [show (s.cmdTaken op guard arg).sett.phase = s.sett.phase from cmdTaken_part s op guard arg (·.phase) fun _ _ => rfl]

theorem packageRuns_cmdTaken : packageRuns (s.cmdTaken op guard arg) = packageRuns s := by
  unfold packageRuns
  rw [show (s.cmdTaken op guard arg).sett.phase = s.sett.phase from cmdTaken_part s op guard arg (·.phase) fun _ _ => rfl,
    show (s.cmdTaken op guard arg).sett.vendor = s.sett.vendor from cmdTaken_part s op guard arg (·.vendor) fun _ _ => rfl]

theorem rgnS_cmdTaken (r : Nat) : (s.cmdTaken op guard arg).rgnS r = s.rgnS r := by
  rw [State.rgnS, State.rgnS, cmdTaken_rgn]

theorem modeCode_cmdTaken : modeCode (s.cmdTaken op guard arg) = modeCode s := by
  have hd : degraded (s.cmdTaken op guard arg) = degraded s := by
    rw [degraded, degraded, cmdTaken_own s op guard arg (by decide)]
  have hp : (s.cmdTaken op guard arg).sett.phase = s.sett.phase := cmdTaken_part s op guard arg (·.phase) fun _ _ => rfl
  have hv : (s.cmdTaken op guard arg).sett.vendor = s.sett.vendor := cmdTaken_part s op guard arg (·.vendor) fun _ _ => rfl
  have hz : (s.cmdTaken op guard arg).sett.doze = s.sett.doze := cmdTaken_part s op guard arg (·.doze) fun _ _ => rfl
  have hm : (s.cmdTaken op guard arg).sett.rdoMask = s.sett.rdoMask := cmdTaken_part s op guard arg (·.rdoMask) fun _ _ => rfl
  have hs : (s.cmdTaken op guard arg).safeHold = s.safeHold := cmdTaken_part s op guard arg (·.safe) fun _ _ => rfl
  have ht : someTorpor (s.cmdTaken op guard arg) = someTorpor s := by
    simp only [someTorpor, State.inTorpor, gb_congr (cmdTaken_regs s op guard arg)]
  have hr : reconfiguring (s.cmdTaken op guard arg) = reconfiguring s := by
    simp only [reconfiguring, cmdTaken_cfg]
  simp only [modeCode, hd, hp, hv, hz, hm, hs, ht, hr]

theorem settRun_free {s : State} (op guard arg : Nat) (h : settFree s = true) :
    settRun s op guard arg = settCommand (s.cmdTaken op guard arg) op guard arg := by
  have hb : (s.sett.brownOut || s.ownB F.SETT_CMD_START) = false := by
    unfold settFree at h
    cases hb : s.sett.brownOut <;> cases hs : s.ownB F.SETT_CMD_START <;> simp [hb, hs] at h ⊢
  exact if_neg (by rw [hb]; decide)

/-- What a command that the Sett takes leaves is what `settCommand` makes of it. -/
theorem ends_settRun {s : State} {op guard arg : Nat} {p : State → Prop} (hf : settFree s = true)
    (h : p (s.ending (settCommand (s.cmdTaken op guard arg) op guard arg))) : Ends (s.after (settRun s op guard arg)) p := by
  rw [settRun_free op guard arg hf]
  exact ends_of_ending h
end

end Sys2Proof.Machine

/-! ## What the units of the regions change beside their own registers and tables: nothing -/

namespace Sys2Proof.Machine

/-- The registers and tables of the analogue clusters, converter groups and pulse generators, and the registers of the Loop
Engines and fabrics. -/
def unitScope : Scope :=
  ⟨0, [.ana none, .conv none, .comp none, .pwm none, .pgSub none], [.file .ac, .file .cg, .file .pg, .file .le, .file .fab]⟩

theorem unit_word {k : Blk} (a : Nat) (h : k = .ac ∨ k = .cg ∨ k = .pg ∨ k = .le ∨ k = .fab) : unitScope.word k a := by
  obtain rfl | rfl | rfl | rfl | rfl := h <;> exact Scope.word_file a (by decide)

theorem unit_wr (s : State) {r : Reg} (b n : Nat) (v : Word)
    (h : r.blk = .ac ∨ r.blk = .cg ∨ r.blk = .pg ∨ r.blk = .le ∨ r.blk = .fab) : Within unitScope s (s.wr r b n v) :=
  within_wr s r b n v (by rintro hs; rw [hs] at h; exact absurd h (by decide)) (unit_word _ h)

theorem unit_sf (s : State) {f : Fld} (b n v : Nat)
    (h : f.reg.blk = .ac ∨ f.reg.blk = .cg ∨ f.reg.blk = .pg ∨ f.reg.blk = .le ∨ f.reg.blk = .fab) :
    Within unitScope s (s.sf f b n v) := unit_wr s b n _ h

theorem unit_sb (s : State) {f : Fld} (b n : Nat) (v : Bool)
    (h : f.reg.blk = .ac ∨ f.reg.blk = .cg ∨ f.reg.blk = .pg ∨ f.reg.blk = .le ∨ f.reg.blk = .fab) :
    Within unitScope s (s.sb f b n v) := unit_sf s b n _ h

theorem unit_setGrp (s : State) (r g : Nat) (x : GrpS) : Within unitScope s (s.setGrp r g x) :=
  within_setGrp s r g x (Or.inl (by decide))
theorem unit_setClu (s : State) (r k : Nat) (x : CluS) : Within unitScope s (s.setClu r k x) :=
  within_setClu s r k x (Or.inl (by decide))
theorem unit_setCmp (s : State) (r k : Nat) (x : CmpS) : Within unitScope s (s.setCmp r k x) :=
  within_setCmp s r k x (Or.inl (by decide))
theorem unit_setCh (s : State) (r c : Nat) (x : ChS) : Within unitScope s (s.setCh r c x) :=
  within_setCh s r c x (Or.inl (by decide))

/-! ### Converter groups -/

section
variable (s : State) (r g : Nat)

theorem unit_setCgState (v : Nat) : Within unitScope s (setCgState s r g v) := unit_sf s _ _ _ (by decide)
theorem unit_rotStop : Within unitScope s (rotStop s r g) := unit_sf s _ _ _ (by decide)
theorem unit_restartBatch : Within unitScope s (restartBatch s r g) := unit_setGrp s r g _

theorem unit_kickScan : Within unitScope s (kickScan s r g) :=
  Within.ite (fun _ => unit_setGrp s r g _) fun _ => Within.refl _ s

theorem unit_makeStale : Within unitScope s (makeStale s r g) := (unit_setGrp s r g _).trans (unit_sb _ _ _ _ (by decide))

theorem unit_rotResume : Within unitScope s (rotResume s r g) :=
  Within.ite (fun _ => unit_sf s _ _ _ (by decide)) fun _ => Within.refl _ s

theorem unit_startWindow : Within unitScope s (startWindow s r g) := by
  unfold startWindow
  extract_lets b fresh s1
  have h1 : Within unitScope s s1 :=
    Within.ite (fun _ => (unit_sf s _ _ _ (by decide)).trans (unit_sf _ _ _ _ (by decide))) fun _ => Within.refl _ s
  refine Within.ite (fun _ => Within.refl _ s) fun _ => h1.trans (Within.ite (fun _ => ?_) fun _ => ?_)
  · exact (unit_setGrp s1 r g _).trans (unit_sf _ _ _ _ (by decide))
  · exact (unit_setGrp s1 r g _).trans (unit_sf _ _ _ _ (by decide))

theorem unit_toLowPower : Within unitScope s (toLowPower s r g) :=
  (((unit_restartBatch s r g).trans (unit_rotStop _ r g)).trans (unit_setCgState _ r g 2)).trans (unit_kickScan _ r g)

theorem unit_toFullRate : Within unitScope s (toFullRate s r g) := by
  have h1 : Within unitScope s (setCgState (restartBatch s r g) r g 3) :=
    (unit_restartBatch s r g).trans (unit_setCgState _ r g 3)
  have h2 : Within unitScope s (if cgState s r g = 2 then makeStale (setCgState (restartBatch s r g) r g 3) r g
      else setCgState (restartBatch s r g) r g 3) := Within.ite (fun _ => h1.trans (unit_makeStale _ r g)) fun _ => h1
  exact (h2.trans (unit_startWindow _ r g)).trans (unit_kickScan _ r g)

theorem unit_dozeGroup : Within unitScope s (dozeGroup s r g) :=
  Within.ite (fun _ => (unit_setGrp s r g _).trans (unit_toLowPower _ r g)) fun _ => Within.refl _ s

theorem unit_undozeGroup : Within unitScope s (undozeGroup s r g) :=
  Within.ite (fun _ => (unit_setGrp s r g _).trans (Within.ite (fun _ => unit_toFullRate _ r g) fun _ => Within.refl _ _))
    fun _ => Within.refl _ s
end

/-! ### Balls, channels and substitutions -/

/-- What an edge of a ball reaches: the cells that it triggers, the blanking windows that it opens, the periods of a
substitution that it mars. No register changes. -/
def edgeScope : Scope := ⟨0, [.ana none, .comp none, .pgSub none], []⟩

theorem Within.unit_of_edge {s t : State} (h : Within edgeScope s t) : Within unitScope s t :=
  h.mono (by decide) (by decide)

theorem edge_setClu (s : State) (r k : Nat) (x : CluS) : Within edgeScope s (s.setClu r k x) :=
  within_setClu s r k x (Or.inl (by decide))
theorem edge_setCmp (s : State) (r k : Nat) (x : CmpS) : Within edgeScope s (s.setCmp r k x) :=
  within_setCmp s r k x (Or.inl (by decide))

theorem edge_shEdge (s : State) (e : Option Levels) (r trig : Nat) : Within edgeScope s (shEdge s e r trig) :=
  Within.foldl (fun t _ => edge_setClu t _ _ _) _ s

theorem edge_ballEdges (s : State) (r c t : Nat) (was : Lvl) : Within edgeScope s (ballEdges s r c t was) := by
  unfold ballEdges
  exact Within.ite (fun _ => (edge_shEdge s none r c).trans (Within.foldl (fun t _ => edge_setCmp t _ _ _) _ _)) fun _ =>
    Within.ite (fun _ => edge_shEdge s none r _) fun _ => Within.refl _ s

theorem edge_follow (l : List (Nat × Nat)) (s t : State) : Within edgeScope t (follow l s t) :=
  Within.foldl (fun t _ => edge_ballEdges t _ _ _ _) l t

theorem edge_mar (s : State) (r c : Nat) : Within edgeScope s (mar s r c) := by
  refine Within.ite (fun _ => ?_) fun _ => Within.refl _ s
  exact { Within.refl edgeScope s with pgSub := set_part s.pgSub _ _ _ (Or.inl (by decide)) }

theorem edge_marAll (l : List (Nat × Nat)) (s : State) : Within edgeScope s (l.foldl (fun t m => mar t m.1 m.2) s) :=
  Within.foldl (fun t _ => edge_mar t _ _) l s

theorem edge_tripFollow (l : List (Nat × Nat)) (s t : State) : Within edgeScope t (tripFollow l s t) :=
  (edge_follow l s t).trans (edge_marAll l _)

theorem edge_safeFollow (s t : State) : Within edgeScope t (safeFollow s t) :=
  Within.ite (fun _ => Within.refl _ t) fun _ => Within.foldl (fun t _ => (edge_follow _ s t).trans (edge_marAll _ _)) _ t

theorem unit_safeFollow (s t : State) : Within unitScope t (safeFollow s t) := (edge_safeFollow s t).unit_of_edge

theorem unit_freezeFollow (s t : State) (r : Nat) : Within unitScope t (freezeFollow s t r) :=
  Within.unit_of_edge (Within.ite (fun _ => Within.refl _ t) fun _ => (edge_follow _ s t).trans (edge_marAll _ _))

theorem unit_awaitDuty (s : State) (r c : Nat) : Within unitScope s (awaitDuty s r c) :=
  (unit_setCh s r c _).trans (unit_wr _ _ _ _ (by decide))

theorem unit_pgSafeEnd (s : State) : Within unitScope s (pgSafeEnd s) :=
  Within.foldl (fun s _ => Within.foldl (fun s _ => Within.ite (fun _ => Within.refl _ s) fun _ => unit_awaitDuty s _ _) _ s) _ s

theorem unit_pgSubResume (s : State) (r : Nat) : Within unitScope s (pgSubResume s r) :=
  Within.ite (fun _ => unit_sf s _ _ _ (by decide)) fun _ => Within.refl _ s

theorem unit_laneResume (s : State) (r : Nat) : Within unitScope s (laneResume s r) :=
  Within.ite (fun _ => unit_sf s _ _ _ (by decide)) fun _ => Within.refl _ s

theorem unit_rlResumeAt (s : State) (r : Nat) : Within unitScope s (rlResumeAt s r) :=
  Within.ite (fun _ => unit_sf s _ _ _ (by decide)) fun _ => Within.refl _ s

/-! ### What such a change leaves -/

theorem unit_no_word {k : Blk} (a : Nat) (h : k = .sett ∨ k = .rgn) : ¬ unitScope.word k a := by
  rintro ⟨x, hx, hc⟩
  simp only [unitScope, List.mem_cons, List.not_mem_nil, or_false] at hx
  obtain rfl | rfl | rfl | rfl | rfl := hx
  all_goals
    obtain rfl : k = _ := hc
    exact absurd h (by decide)

section
variable {s t : State} (h : Within unitScope s t)
include h

theorem Within.unit_power : t.sett.powerPart = s.sett.powerPart := h.power.resolve_right (by decide)
theorem Within.unit_safe : t.sett.safePart = s.sett.safePart := h.safeHold.resolve_right (by decide)
theorem Within.unit_rgn (r : Nat) : t.rgnS r = s.rgnS r :=
  (h.rgn r).resolve_right (by rintro (hk | hk) <;> simp [unitScope] at hk)

theorem Within.unit_ownW (r : Reg) (n : Nat) : t.ownW r n = s.ownW r n :=
  (h.own _).resolve_right (unit_no_word _ (Or.inl rfl))

theorem Within.unit_rgnWord (a : Nat) : t.regs.rgn.get a = s.regs.rgn.get a :=
  (h.regs .rgn a (by decide)).resolve_right (unit_no_word _ (Or.inr rfl))

/-- The registers of region control read as before. -/
theorem Within.unit_gf {f : Fld} (hf : f.reg.blk = .rgn) (b n : Nat) : t.gf f b n = s.gf f b n := by
  rw [State.gf, State.gf, State.rd, State.rd, hf]
  exact congrArg (fun w : Word => w.bits f.hi f.lo) (h.unit_rgnWord _)

theorem Within.unit_gb {f : Fld} (hf : f.reg.blk = .rgn) (b n : Nat) : t.gb f b n = s.gb f b n := by
  rw [State.gb, State.gb, h.unit_gf hf]
end

end Sys2Proof.Machine

/-! ## Freeze, Torpor and Readout of the regions of a mask (R503 to R506) -/

namespace Sys2Proof.Machine

/-! ### A command that acts on each region of a mask -/

theorem mem_regionsOf {mask : Nat} {r : Nat} : r ∈ regionsOf mask ↔ r < 16 ∧ mask.testBit r = true := by
  simp [regionsOf]

theorem regionsOf_nodup (mask : Nat) : (regionsOf mask).Nodup := List.nodup_range.filter _

/-- What the step of one region makes true of it stays so where the steps of the others leave it alone. -/
theorem foldl_region {f : State → Nat → State} {l : List Nat} {r : Nat} {pre post : State → Prop} {s : State}
    (hn : l.Nodup) (hr : r ∈ l) (hpre : ∀ s q, q ∈ l → q ≠ r → pre s → pre (f s q)) (hat : ∀ s, pre s → post (f s r))
    (hpost : ∀ s q, q ∈ l → q ≠ r → post s → post (f s q)) (h : pre s) : post (l.foldl f s) := by
  induction l generalizing s with
  | nil => exact absurd hr (List.not_mem_nil)
  | cons q l ih =>
    obtain ⟨hq, hl⟩ := List.nodup_cons.1 hn
    by_cases hqr : q = r
    · subst hqr
      have hstay : ∀ (m : List Nat) (t : State), (∀ p ∈ m, p ∈ l) → post t → post (m.foldl f t) := by
        intro m
        induction m with
        | nil => exact fun t _ ht => ht
        | cons p m ihm =>
          intro t hm ht
          have hp : p ∈ l := hm p List.mem_cons_self
          exact ihm _ (fun x hx => hm x (List.mem_cons_of_mem _ hx))
            (hpost t p (List.mem_cons_of_mem _ hp) (fun he => hq (he ▸ hp)) ht)
      exact hstay l _ (fun _ hp => hp) (hat s h)
    · exact ih hl ((List.mem_cons.1 hr).resolve_left fun he => hqr he.symm)
        (fun s p hp => hpre s p (List.mem_cons_of_mem _ hp)) (fun s p hp => hpost s p (List.mem_cons_of_mem _ hp))
        (hpre s q List.mem_cons_self hqr h)

/-! ### What the commands of a region change -/

/-- The units of the regions; of one region RGN_STAT, and what region control, the engine and the fabric hold. -/
def regionScope (q : Nat) : Scope :=
  ⟨0, unitScope.places ++ [.rgn (some q), .engines (some q), .fabs (some q)], unitScope.spots ++ [.one R.RGN_STAT (rgB q) 0]⟩

theorem Within.region {s t : State} (h : Within unitScope s t) (q : Nat) : Within (regionScope q) s t :=
  h.mono (fun _ hp => List.mem_append_left _ hp) fun _ hx => List.mem_append_left _ hx

theorem region_setRgn (s : State) (q : Nat) (x : RgnS) : Within (regionScope q) s (s.setRgn q x) :=
  within_setRgn s q x (Or.inr (by simp [regionScope]))
theorem region_setEng (s : State) (q : Nat) (x : EngS) : Within (regionScope q) s (s.setEng q x) :=
  within_setEng s q x (Or.inr (by simp [regionScope]))
theorem region_setFab (s : State) (q : Nat) (x : FabS) : Within (regionScope q) s (s.setFab q x) :=
  within_setFab s q x (Or.inr (by simp [regionScope]))

theorem region_stat (s : State) (q : Nat) {f : Fld} (v : Nat) (h : f.reg = R.RGN_STAT) :
    Within (regionScope q) s (s.sf f (rgB q) 0 v) :=
  within_sf s f _ 0 v (by rw [h]; decide) (by rw [h]; exact Scope.word_one (by simp [regionScope]))
theorem region_flag (s : State) (q : Nat) {f : Fld} (v : Bool) (h : f.reg = R.RGN_STAT) :
    Within (regionScope q) s (s.sb f (rgB q) 0 v) := region_stat s q _ h

section
variable (s : State) (q : Nat) (pin : Bool)

theorem region_syncFrozen : Within (regionScope q) s (syncFrozen s q) :=
  ((region_flag s q _ rfl).trans ((unit_freezeFollow _ _ _).region q)).trans ((unit_pgSubResume _ _).region q)

theorem region_freezeRegion : Within (regionScope q) s (freezeRegion pin s q) :=
  (region_setRgn s q _).trans (region_syncFrozen _ q)

theorem unit_endRegulation : Within unitScope s (endRegulation s q) :=
  (unit_sb s _ _ _ (by decide)).trans
    (Within.foldl (fun s _ => (unit_sb s _ _ _ (by decide)).trans (unit_setGrp _ _ _ _)) _ _)

theorem region_torporRegion : Within (regionScope q) s (torporRegion pin s q) := by
  unfold torporRegion
  extract_lets x was s1
  have h1 : Within (regionScope q) s s1 := region_setRgn s q _
  have h2 : Within (regionScope q) s (if was then s1 else endRegulation s1 q) :=
    Within.ite (fun _ => h1) fun _ => h1.trans ((unit_endRegulation s1 q).region q)
  exact h2.trans (region_syncFrozen _ q)

theorem region_holdRegion : Within (regionScope q) s (holdRegion s q) :=
  (((region_setRgn s q _).trans (region_stat _ q _ rfl)).trans (region_flag _ q _ rfl)).trans (region_setEng _ q _)

theorem region_restartClock : Within (regionScope q) s (restartClock s q) := by
  unfold restartClock
  refine Within.ite (fun _ => ?_) fun _ => Within.refl _ s
  extract_lets x s1 s2
  have h1 : Within (regionScope q) s s1 := (region_stat s q _ rfl).trans (region_setRgn _ q _)
  have h2 : Within (regionScope q) s1 s2 := (unit_sf s1 _ _ _ (by decide)).region q
  refine (h1.trans h2).trans ?_
  refine Within.foldl (fun t g => ?_) _ _
  refine Within.ite (fun _ => Within.ite (fun _ => ?_) fun _ => ?_) fun _ => Within.refl _ t
  · exact ((unit_makeStale t q g).trans (unit_startWindow _ q g)).region q
  · exact (unit_makeStale t q g).region q

theorem region_torporEnd : Within (regionScope q) s (torporEnd s q) := by
  unfold torporEnd
  extract_lets x s1 s2 s3
  have h1 : Within (regionScope q) s s1 :=
    ((region_setRgn s q _).trans (region_flag _ q _ rfl)).trans (region_restartClock _ q)
  have h2 : Within (regionScope q) s1 s2 :=
    (Within.foldl (fun t _ => (unit_setClu t _ _ _).trans (unit_setCmp _ _ _ _)) _ s1).region q
  have h3 : Within (regionScope q) s2 s3 :=
    (Within.foldl (fun t _ => (unit_setGrp t _ _ _).trans (unit_rotResume _ _ _)) _ s2).region q
  exact (((h1.trans h2).trans h3).trans (region_setEng s3 q _)).trans
    (((unit_laneResume _ q).trans (unit_rlResumeAt _ q)).region q)

theorem region_thawRegion : Within (regionScope q) s (thawRegion pin s q) := by
  unfold thawRegion
  extract_lets x y s1
  have h1 : Within (regionScope q) s s1 := region_setRgn s q _
  have h2 : Within (regionScope q) s (if torporAsked s q && !torporAsked s1 q then torporEnd s1 q else s1) :=
    Within.ite (fun _ => h1.trans (region_torporEnd s1 q)) fun _ => h1
  exact h2.trans (region_syncFrozen _ q)
end

/-! ### What the step of another region leaves -/

theorem rgB_ne {q r : Nat} (h : q ≠ r) : R.RGN_STAT.addr (rgB r) 0 ≠ R.RGN_STAT.addr (rgB q) 0 := by
  simp only [Reg.addr, R.RGN_STAT, rgB, rgnBase]
  omega

section
variable {s t : State} {q r : Nat} (h : Within (regionScope q) s t) (hq : q ≠ r)
include h hq

theorem Within.region_rgn : t.rgnS r = s.rgnS r := by
  refine (h.rgn r).resolve_right ?_
  rintro (hk | hk) <;> simp [regionScope, unitScope, hq.symm] at hk
theorem Within.region_eng : t.eng r = s.eng r := by
  refine (h.engines r).resolve_right ?_
  rintro (hk | hk) <;> simp [regionScope, unitScope, hq.symm] at hk
theorem Within.region_fab : t.fab r = s.fab r := by
  refine (h.fabs r).resolve_right ?_
  rintro (hk | hk) <;> simp [regionScope, unitScope, hq.symm] at hk

theorem Within.region_gf {f : Fld} (hf : f.reg = R.RGN_STAT) : t.gf f (rgB r) 0 = s.gf f (rgB r) 0 := by
  rw [State.gf, State.gf, State.rd, State.rd, hf]
  refine congrArg (fun w : Word => w.bits f.hi f.lo) ((h.regs .rgn _ (by decide)).resolve_right ?_)
  rintro ⟨x, hx, hc⟩
  obtain hx | hx := List.mem_append.1 hx
  · exact unit_no_word _ (Or.inr rfl) ⟨x, hx, hc⟩
  · obtain rfl := List.mem_singleton.1 hx
    obtain ⟨-, ha⟩ := hc
    simp only [Reg.words, show R.RGN_STAT ∉ wideRegs by decide, if_false, List.mem_singleton] at ha
    exact rgB_ne hq ha

theorem Within.region_gb {f : Fld} (hf : f.reg = R.RGN_STAT) : t.gb f (rgB r) 0 = s.gb f (rgB r) 0 := by
  rw [State.gb, State.gb, h.region_gf hq hf]
end

end Sys2Proof.Machine

/-! ## FREEZE, TORPOR, THAW and READOUT (R503 to R506) -/

namespace Sys2Proof.Machine

/-! ### What the step of a region makes of it -/

theorem rgnS_setRgn_self (s : State) (r : Nat) (x : RgnS) : (s.setRgn r x).rgnS r = x := Tab.get_set_self _ _ _

theorem rgnS_congr {s t : State} (h : t.rgn = s.rgn) (r : Nat) : t.rgnS r = s.rgnS r := by rw [State.rgnS, State.rgnS, h]

/-- What has frozen a region, and what has asked for its Torpor: SETT_CMD and FREEZE_N. -/
def RgnS.asks (x : RgnS) : Bool × Bool × Bool × Bool := (x.frzCmd, x.frzPin, x.torCmd, x.torPin)

/-- RGN_STAT.FROZEN shows what freezes the region. -/
theorem syncFrozen_spec {s : State} {r : Nat} {a b c d : Bool} (h : (s.rgnS r).asks = (a, b, c, d)) :
    (syncFrozen s r).gb F.RGN_STAT_FROZEN (rgB r) 0 = (a || b || c || d) ∧ (syncFrozen s r).rgnS r = s.rgnS r := by
  simp only [RgnS.asks, Prod.mk.injEq] at h
  obtain ⟨rfl, rfl, rfl, rfl⟩ := h
  unfold syncFrozen
  extract_lets x
  constructor
  · rw [(unit_pgSubResume _ r).unit_gb rfl, (unit_freezeFollow _ _ r).unit_gb rfl]
    exact gb_sb_self _ _ _ _ _ (by decide) (by decide)
  · rw [(unit_pgSubResume _ r).unit_rgn, (unit_freezeFollow _ _ r).unit_rgn]
    exact rgnS_congr (sb_rgn s _ _ _ _) r

theorem freezeRegion_frozen (s : State) (r : Nat) : (freezeRegion false s r).gb F.RGN_STAT_FROZEN (rgB r) 0 = true := by
  unfold freezeRegion
  extract_lets x
  rw [(syncFrozen_spec (congrArg RgnS.asks (rgnS_setRgn_self s r _))).1]
  simp

theorem torporRegion_spec (s : State) (r : Nat) : (torporRegion false s r).gb F.RGN_STAT_FROZEN (rgB r) 0 = true ∧
    torporAsked (torporRegion false s r) r = true := by
  unfold torporRegion
  extract_lets x was s1
  have h1 : (if was then s1 else endRegulation s1 r).rgnS r = s1.rgnS r := by
    split
    · rfl
    · exact (unit_endRegulation s1 r).unit_rgn r
  obtain ⟨hfz, hrg⟩ := syncFrozen_spec (congrArg RgnS.asks (h1.trans (rgnS_setRgn_self s r _)))
  rw [h1.trans (rgnS_setRgn_self s r _)] at hrg
  refine ⟨hfz.trans (by simp), ?_⟩
  rw [torporAsked, hrg]
  simp

theorem restartClock_asks (s : State) (r : Nat) : ((restartClock s r).rgnS r).asks = (s.rgnS r).asks := by
  unfold restartClock
  split
  · extract_lets x s1 s2
    have hw : ∀ t : State, ((([0, 1, 2, 3].foldl (fun s g =>
        let st := cgState s r g
        if st = 3 ∨ st = 4 ∨ st = 5 then
          (if s.gf F.CG_ROT_STAT_PHASE (cgB r g) = 0 then startWindow (makeStale s r g) r g else makeStale s r g)
        else s) t).rgnS r)) = t.rgnS r := by
      intro t
      refine Within.unit_rgn (Within.foldl (fun t g => ?_) _ t) r
      exact Within.ite (fun _ => Within.ite (fun _ => (unit_makeStale t r g).trans (unit_startWindow _ r g))
        fun _ => unit_makeStale t r g) fun _ => Within.refl _ t
    rw [hw]
    rw [show s2.rgnS r = s1.rgnS r from rgnS_congr (sf_rgn s1 _ _ _ _) r, rgnS_setRgn_self]
    rfl
  · rfl

theorem torporEnd_asks (s : State) (r : Nat) : ((torporEnd s r).rgnS r).asks = (s.rgnS r).asks := by
  unfold torporEnd
  extract_lets src s1 s2 s3
  have h2 : s2.rgnS r = s1.rgnS r :=
    Within.unit_rgn (Within.foldl (fun t _ => (unit_setClu t _ _ _).trans (unit_setCmp _ _ _ _)) _ s1) r
  have h3 : s3.rgnS r = s2.rgnS r :=
    Within.unit_rgn (Within.foldl (fun t _ => (unit_setGrp t _ _ _).trans (unit_rotResume _ _ _)) _ s2) r
  rw [((unit_laneResume _ r).trans (unit_rlResumeAt _ r)).unit_rgn r]
  rw [rgnS_congr (setEng_rgn s3 r _) r, h3, h2, restartClock_asks, rgnS_congr (sb_rgn _ _ _ _ _) r, rgnS_setRgn_self]
  rfl

theorem thawRegion_spec {s : State} {r : Nat} (h : (s.rgnS r).frzPin = false ∧ (s.rgnS r).torPin = false) :
    (thawRegion false s r).gb F.RGN_STAT_FROZEN (rgB r) 0 = false ∧ torporAsked (thawRegion false s r) r = false := by
  obtain ⟨hf, ht⟩ := h
  unfold thawRegion
  extract_lets x y s1
  have h1 : (s1.rgnS r).asks = (false, false, false, false) := by
    rw [show s1.rgnS r = y from rgnS_setRgn_self s r y]
    simp [y, x, RgnS.asks, hf, ht]
  have h2 : ((if torporAsked s r && !torporAsked s1 r then torporEnd s1 r else s1).rgnS r).asks = (false, false, false, false) := by
    split
    · rw [torporEnd_asks, h1]
    · exact h1
  obtain ⟨hfz, hrg⟩ := syncFrozen_spec h2
  refine ⟨hfz, ?_⟩
  simp only [RgnS.asks, Prod.mk.injEq] at h2
  obtain ⟨-, -, hc, hp⟩ := h2
  rw [torporAsked, hrg, hc, hp]
  rfl

/-! ### FREEZE, TORPOR and THAW -/

section
variable {s : State} {arg : Fin 65536} {r : Rgn}

theorem freeze_ends (hf : settFree s = true ∧ hubOn s = true) (hr : arg.val.testBit r = true) :
    Ends (execFreeze arg s) fun t => t.gb F.RGN_STAT_FROZEN (rgB r) 0 = true ∧ settResult t = (false, 1, 0) := by
  obtain ⟨hf, hon⟩ := hf
  have hc : settCommand (s.cmdTaken 3 0 arg.val) 3 0 arg.val =
      settDone ((regionsOf arg.val).foldl (freezeRegion false) (s.cmdTaken 3 0 arg.val)) :=
    if_pos ((hubOn_cmdTaken s 3 0 arg.val).trans hon)
  refine ends_settRun hf ⟨?_, ?_⟩
  · rw [ending_gb, hc, gb_congr (settDone_regs _)]
    exact foldl_region (pre := fun _ => True) (post := fun t => t.gb F.RGN_STAT_FROZEN (rgB r) 0 = true)
      (regionsOf_nodup _) (mem_regionsOf.2 ⟨r.isLt, hr⟩) (fun _ _ _ _ _ => trivial) (fun t _ => freezeRegion_frozen t r)
      (fun t q _ hq h => ((region_freezeRegion t q false).region_gb hq rfl).trans h) trivial
  · rw [ending_settResult, hc, settResult_settDone]

theorem freeze_refused_ends (hf : settFree s = true ∧ hubOn s = false) :
    Ends (execFreeze arg s) fun t => settResult t = (false, 3, 2) ∧ t.regs.rgn = s.regs.rgn := by
  obtain ⟨hf, hon⟩ := hf
  have hc : settCommand (s.cmdTaken 3 0 arg.val) 3 0 arg.val = settRefuse (s.cmdTaken 3 0 arg.val) 2 :=
    if_neg (by rw [hubOn_cmdTaken, hon]; decide)
  refine ends_settRun hf ⟨?_, ?_⟩
  · rw [ending_settResult, hc, settResult_settRefuse _ (by decide)]
  · rw [ending_regs, hc, settRefuse_regs, cmdTaken_regs]

theorem torpor_ends (hf : settFree s = true ∧ packageRuns s = true) (hr : arg.val.testBit r = true) :
    Ends (execTorpor arg s) fun t => t.gb F.RGN_STAT_FROZEN (rgB r) 0 = true ∧ torporAsked t r = true ∧
      settResult t = (false, 1, 0) := by
  obtain ⟨hf, hon⟩ := hf
  have hc : settCommand (s.cmdTaken 4 0 arg.val) 4 0 arg.val =
      settDone ((regionsOf arg.val).foldl (torporRegion false) (s.cmdTaken 4 0 arg.val)) :=
    if_pos ((packageRuns_cmdTaken s 4 0 arg.val).trans hon)
  have hfold := foldl_region (s := s.cmdTaken 4 0 arg.val) (f := torporRegion false) (pre := fun _ => True)
    (post := fun t => t.gb F.RGN_STAT_FROZEN (rgB r) 0 = true ∧ torporAsked t r = true)
    (regionsOf_nodup arg.val) (mem_regionsOf.2 ⟨r.isLt, hr⟩) (fun _ _ _ _ _ => trivial) (fun t _ => torporRegion_spec t r)
    (fun t q _ hq h => ⟨((region_torporRegion t q false).region_gb hq rfl).trans h.1, by
      rw [torporAsked, (region_torporRegion t q false).region_rgn hq]; exact h.2⟩) trivial
  obtain ⟨hfz, hask⟩ := hfold
  refine ends_settRun hf ⟨?_, ?_, ?_⟩
  · rw [ending_gb, hc, gb_congr (settDone_regs _), hfz]
  · rw [torporAsked, State.rgnS, ending_rgn, hc]; exact hask
  · rw [ending_settResult, hc, settResult_settDone]

theorem thaw_ends (hf : settFree s = true) (hr : arg.val.testBit r = true)
    (hpin : (s.rgnS r).frzPin = false ∧ (s.rgnS r).torPin = false) :
    Ends (execThaw arg s) fun t => t.gb F.RGN_STAT_FROZEN (rgB r) 0 = false ∧ torporAsked t r = false ∧
      settResult t = (false, 1, 0) := by
  have hc : settCommand (s.cmdTaken 5 0 arg.val) 5 0 arg.val =
      settDone ((regionsOf arg.val).foldl (thawRegion false) (s.cmdTaken 5 0 arg.val)) := rfl
  have hfold := foldl_region (s := s.cmdTaken 5 0 arg.val) (f := thawRegion false)
    (pre := fun t => (t.rgnS r).frzPin = false ∧ (t.rgnS r).torPin = false)
    (post := fun t => t.gb F.RGN_STAT_FROZEN (rgB r) 0 = false ∧ torporAsked t r = false)
    (regionsOf_nodup arg.val) (mem_regionsOf.2 ⟨r.isLt, hr⟩)
    (fun t q _ hq h => by rw [(region_thawRegion t q false).region_rgn hq]; exact h)
    (fun t h => thawRegion_spec h)
    (fun t q _ hq h => ⟨((region_thawRegion t q false).region_gb hq rfl).trans h.1, by
      rw [torporAsked, (region_thawRegion t q false).region_rgn hq]; exact h.2⟩)
    (by rw [rgnS_cmdTaken]; exact hpin)
  obtain ⟨hfz, hask⟩ := hfold
  refine ends_settRun hf ⟨?_, ?_, ?_⟩
  · rw [ending_gb, hc, gb_congr (settDone_regs _), hfz]
  · rw [torporAsked, State.rgnS, ending_rgn, hc]; exact hask
  · rw [ending_settResult, hc, settResult_settDone]

/-! ### The clocks of the regions that enter Torpor stop -/

theorem holdRegion_spec (s : State) (r : Nat) : (holdRegion s r).clk r = 3 ∧
    (holdRegion s r).gb F.RGN_STAT_TORPOR (rgB r) 0 = true ∧ ((holdRegion s r).eng r).paused = true ∧
    ((holdRegion s r).rgnS r).torporWait = false := by
  unfold holdRegion
  extract_lets src s1
  refine ⟨?_, ?_, ?_, ?_⟩
  · rw [State.clk, gf_congr (setEng_regs _ r _), State.sb,
      gf_sf_same_reg _ F.RGN_STAT_TORPOR F.RGN_STAT_CLK _ _ _ rfl (by decide) (by decide)]
    exact gf_sf_self _ _ _ _ _ (by decide)
  · rw [gb_congr (setEng_regs _ r _)]
    exact gb_sb_self _ _ _ _ _ (by decide) (by decide)
  · exact congrArg EngS.paused (Tab.get_set_self _ r _)
  · rw [rgnS_congr (setEng_rgn _ r _) r, rgnS_congr (sb_rgn s1 _ _ _ _) r,
      show s1.rgnS r = _ from (rgnS_congr (sf_rgn _ _ _ _ _) r).trans (rgnS_setRgn_self s r _)]

theorem torporClockStop_ends (hw : (s.rgnS r).torporWait = true)
    (hp : ∀ q : Rgn, (s.rgnS q).torporWait = true → allPaused s q = true) :
    Ends (execTorporClockStop s) fun t => t.clk r = 3 ∧ t.gb F.RGN_STAT_TORPOR (rgB r) 0 = true ∧ (t.eng r).paused = true ∧
      (t.rgnS r).torporWait = false := by
  have hall : ((List.range 16).filter fun r => (s.rgnS r).torporWait).all (allPaused s) = true := by
    rw [List.all_eq_true]
    intro q hq
    obtain ⟨hlt, hwq⟩ := List.mem_filter.1 hq
    exact hp ⟨q, List.mem_range.1 hlt⟩ hwq
  have hfold := foldl_region (s := s) (f := holdRegion) (l := (List.range 16).filter fun r => (s.rgnS r).torporWait) (r := r)
    (pre := fun _ => True) (post := fun t => t.clk r = 3 ∧ t.gb F.RGN_STAT_TORPOR (rgB r) 0 = true ∧ (t.eng r).paused = true ∧
      (t.rgnS r).torporWait = false)
    (List.nodup_range.filter _) (List.mem_filter.2 ⟨List.mem_range.2 r.isLt, hw⟩) (fun _ _ _ _ _ => trivial)
    (fun t _ => holdRegion_spec t r)
    (fun t q _ hq h => by
      have hwi := region_holdRegion t q
      rw [State.clk, hwi.region_gf hq rfl, hwi.region_gb hq rfl, hwi.region_eng hq, hwi.region_rgn hq]
      exact h) trivial
  apply ends_of_ending
  rw [if_pos hall]
  simpa only [State.clk, ending_gf, ending_gb, State.eng, ending_engines, State.rgnS, ending_rgn] using hfold

end

end Sys2Proof.Machine

/-! ## READOUT, DOZE, SAFE and their ends (R491, R500 to R502, R506) -/

namespace Sys2Proof.Machine

/-! ### READOUT -/

section
variable {s : State} {arg : Fin 65536} {r : Rgn}

theorem foldl_sb_sett (f : Fld) (b : Nat → Nat) (v : Bool) (l : List Nat) (s : State) :
    (l.foldl (fun s r => s.sb f (b r) 0 v) s).sett = s.sett := by
  induction l generalizing s with
  | nil => rfl
  | cons q l ih => exact (ih _).trans (sb_sett s f _ _ _)

/-- A READOUT that starts: the mask is kept and the command runs on. -/
theorem readoutStart_spec (u : State) (m : Nat) (l : List Nat) :
    (l.foldl (fun (s : State) r => s.sb F.RGN_STAT_RDO (rgB r) 0 true) { u with sett := { u.sett with rdoMask := m } }).sett.rdoMask = m ∧
    settResult (l.foldl (fun (s : State) r => s.sb F.RGN_STAT_RDO (rgB r) 0 true) { u with sett := { u.sett with rdoMask := m } }) =
      settResult u :=
  ⟨by rw [foldl_sb_sett], settResult_of_own (by rw [foldl_sb_sett])⟩

theorem rdoMask_cmdTaken (s : State) (op guard arg : Nat) : (s.cmdTaken op guard arg).sett.rdoMask = s.sett.rdoMask :=
  cmdTaken_part s op guard arg (·.rdoMask) fun _ _ => rfl

theorem inTorpor_cmdTaken (s : State) (op guard arg r : Nat) : (s.cmdTaken op guard arg).inTorpor r = s.inTorpor r :=
  gb_congr (cmdTaken_regs s op guard arg) _ _ _

theorem readout_ends (hf : settFree s = true) (ha : arg.val ≠ 0 ∧ ∀ r : Rgn, arg.val.testBit r = true → s.inTorpor r = true) :
    Ends (execReadout arg s) fun t => t.sett.rdoMask = arg.val ∧ settResult t = (true, 0, 0) := by
  obtain ⟨h0, ht⟩ := ha
  have hany : ((regionsOf arg.val).any fun r => !(s.cmdTaken 6 0 arg.val).inTorpor r) = false := by
    rw [List.any_eq_false]
    intro q hq
    obtain ⟨hlt, hb⟩ := mem_regionsOf.1 hq
    rw [inTorpor_cmdTaken, ht ⟨q, hlt⟩ hb]
    decide
  have hc : settCommand (s.cmdTaken 6 0 arg.val) 6 0 arg.val = (regionsOf arg.val).foldl
      (fun s r => s.sb F.RGN_STAT_RDO (rgB r) 0 true)
      { s.cmdTaken 6 0 arg.val with sett := { (s.cmdTaken 6 0 arg.val).sett with rdoMask := arg.val } } :=
    (if_neg h0).trans (if_neg (by rw [hany]; decide))
  obtain ⟨hm, hr⟩ := readoutStart_spec (s.cmdTaken 6 0 arg.val) arg.val (regionsOf arg.val)
  refine ends_settRun hf ⟨?_, ?_⟩
  · rw [ending_sett, hc, hm]
  · rw [ending_settResult, hc, hr]
    exact settResult_cmdTaken s ⟨by decide, by decide, arg.isLt⟩

theorem readout_refused_ends (hf : settFree s = true) (ha : arg.val.testBit r = true ∧ s.inTorpor r = false) :
    Ends (execReadout arg s) fun t => t.sett.rdoMask = s.sett.rdoMask ∧ settResult t = (false, 3, 6) := by
  obtain ⟨hb, ht⟩ := ha
  have h0 : arg.val ≠ 0 := by
    intro h
    rw [h, Nat.zero_testBit] at hb
    exact absurd hb (by decide)
  have hany : ((regionsOf arg.val).any fun r => !(s.cmdTaken 6 0 arg.val).inTorpor r) = true :=
    List.any_eq_true.2 ⟨r, mem_regionsOf.2 ⟨r.isLt, hb⟩, by rw [inTorpor_cmdTaken, ht]; rfl⟩
  have hc : settCommand (s.cmdTaken 6 0 arg.val) 6 0 arg.val = settRefuse (s.cmdTaken 6 0 arg.val) 6 :=
    (if_neg h0).trans (if_pos hany)
  refine ends_settRun hf ⟨?_, ?_⟩
  · rw [ending_sett, hc]
    exact (settRefuse_part _ 6 (·.rdoMask) fun _ _ => rfl).trans (rdoMask_cmdTaken s _ _ _)
  · rw [ending_settResult, hc, settResult_settRefuse _ (by decide)]

theorem readout_empty_ends (hf : settFree s = true) :
    Ends (execReadout 0 s) fun t => t.sett.rdoMask = s.sett.rdoMask ∧ settResult t = (false, 1, 0) ∧
      t.ownB F.SETT_EVT_RDO_DONE 0 = true := by
  have hc : ∀ u : State, settCommand u 6 0 0 = settDone (u.setOwn F.SETT_EVT_RDO_DONE 0 1) := fun u => by
    show cmdReadout u 0 = _
    exact if_pos rfl
  refine ends_settRun (arg := 0) hf ⟨?_, ?_, ?_⟩
  · rw [ending_sett, hc]
    rw [settDone_setOwn_part _ _ 0 1 (·.rdoMask) fun _ _ => rfl, rdoMask_cmdTaken]
  · rw [ending_settResult, hc, settResult_settDone]
  · rw [ending_ownB, hc, settDone_ownB _ (by decide), ownB_setOwn_one _ _ _ (by decide)]
end

/-! ### The end of a READOUT -/

/-- Nothing but the count of free values. -/
def freeScope : Scope := ⟨0, [], []⟩

theorem foldl_fst {α β : Type} {f : State × β → α → State × β} {c : Scope} (h : ∀ x a, Within c x.1 (f x a).1)
    (l : List α) (x : State × β) : Within c x.1 (l.foldl f x).1 := by
  induction l generalizing x with
  | nil => exact Within.refl c _
  | cons a l ih => exact (h x a).trans (ih _)

theorem within_rdoGroup (s : State) (g : Nat) : Within freeScope s (rdoGroup s g).1 :=
  foldl_fst (x := (s, [])) (fun x _ => within_free x.1) _

/-- The words that the groups of a region put into its readout buffer take free values alone. -/
theorem within_rdoGroups (l : List Nat) (x : State × List (Nat × Word)) : Within freeScope x.1
    (l.foldl (fun x g => let y := rdoGroup x.1 g; (y.1, y.2 ++ x.2)) x).1 :=
  foldl_fst (f := fun x g => let y := rdoGroup x.1 g; (y.1, y.2 ++ x.2)) (fun x g => within_rdoGroup x.1 g) l x

theorem fab_setFab_self (s : State) (r : Nat) (x : FabS) : (s.setFab r x).fab r = x := Tab.get_set_self _ _ _

theorem fab_congr {s t : State} (h : t.fabs = s.fabs) (r : Nat) : t.fab r = s.fab r := by rw [State.fab, State.fab, h]

theorem rdoRegion_spec (s : State) (r : Nat) : Within (regionScope r) s (rdoRegion s r) ∧
    (rdoRegion s r).gb F.RGN_STAT_RDO (rgB r) 0 = false ∧ ((rdoRegion s r).fab r).capLatch = (s.fab r).ff ∧
    ((rdoRegion s r).fab r).capCarry = (s.fab r).pend ∧ ((rdoRegion s r).fab r).capBm = (s.fab r).bmOut := by
  unfold rdoRegion
  extract_lets fixed all src s1 x
  have h0 : Within freeScope s all.1 := within_rdoGroups [0, 1, 2, 3] (s, fixed)
  have hx : x = s.fab r := by
    have hf := (h0.fabs r).resolve_right (by rintro (hk | hk) <;> exact absurd hk (by simp [freeScope]))
    exact (fab_congr (setRgn_fabs _ _ _) r).trans hf
  have h1 : Within (regionScope r) s s1 :=
    (h0.mono (fun _ hp => absurd hp (List.not_mem_nil)) fun _ hp => absurd hp (List.not_mem_nil)).trans (region_setRgn _ r _)
  have hfab : ∀ y : FabS, ((s1.setFab r y).sb F.RGN_STAT_RDO (rgB r) 0 false).fab r = y := fun y =>
    (fab_congr (sb_fabs _ _ _ _ _) r).trans (fab_setFab_self s1 r y)
  refine ⟨(h1.trans (region_setFab s1 r _)).trans (region_flag _ r _ rfl), gb_sb_self _ _ _ _ _ (by decide) (by decide), ?_, ?_, ?_⟩
  · rw [hfab, ← hx]
  · rw [hfab, ← hx]
  · rw [hfab, ← hx]

theorem readoutEnded_regs (u : State) :
    (settDone (({ u with sett := { u.sett with rdoMask := 0 } }).setOwn F.SETT_EVT_RDO_DONE 0 1)).regs = u.regs := by
  rw [settDone_regs, setOwn_regs]

theorem readoutEnded_fabs (u : State) :
    (settDone (({ u with sett := { u.sett with rdoMask := 0 } }).setOwn F.SETT_EVT_RDO_DONE 0 1)).fabs = u.fabs := by
  rw [settDone, settEnd, setOwn_fabs, setOwn_fabs, setOwn_fabs, setOwn_fabs]

theorem readoutDone_ends {s : State} {r : Rgn} (hm : s.sett.rdoMask.testBit r = true) :
    Ends (execReadoutDone s) fun t => t.sett.rdoMask = 0 ∧ settResult t = (false, 1, 0) ∧ t.ownB F.SETT_EVT_RDO_DONE 0 = true ∧
      t.gb F.RGN_STAT_RDO (rgB r) 0 = false ∧ (t.fab r).capLatch = (s.fab r).ff ∧ (t.fab r).capCarry = (s.fab r).pend ∧
      (t.fab r).capBm = (s.fab r).bmOut := by
  have h0 : s.sett.rdoMask ≠ 0 := by
    intro h
    rw [h, Nat.zero_testBit] at hm
    exact absurd hm (by decide)
  have hfold := foldl_region (s := s) (f := rdoRegion) (pre := fun t => t.fab r = s.fab r)
    (post := fun t => t.gb F.RGN_STAT_RDO (rgB r) 0 = false ∧ (t.fab r).capLatch = (s.fab r).ff ∧
      (t.fab r).capCarry = (s.fab r).pend ∧ (t.fab r).capBm = (s.fab r).bmOut)
    (regionsOf_nodup s.sett.rdoMask) (mem_regionsOf.2 ⟨r.isLt, hm⟩)
    (fun t q _ hq h => ((rdoRegion_spec t q).1.region_fab hq).trans h)
    (fun t h => by rw [← h]; exact (rdoRegion_spec t r).2)
    (fun t q _ hq h => by
      have hw := (rdoRegion_spec t q).1
      rw [hw.region_gb hq rfl, hw.region_fab hq]
      exact h) rfl
  apply ends_of_ending
  rw [if_neg h0]
  generalize (regionsOf s.sett.rdoMask).foldl rdoRegion s = u at hfold
  refine ⟨?_, ?_, ?_, ?_⟩
  · rw [ending_sett, settDone_setOwn_part _ _ 0 1 (·.rdoMask) fun _ _ => rfl]
  · rw [ending_settResult, settResult_settDone]
  · rw [ending_ownB, settDone_ownB _ (by decide), ownB_setOwn_one _ _ _ (by decide)]
  · rw [ending_gb, gb_congr (readoutEnded_regs u), fab_congr ((ending_fabs s _).trans (readoutEnded_fabs u))]
    exact hfold

/-! ### DOZE and ACTIVE -/

theorem doze_of_power {s t : State} (h : t.sett.powerPart = s.sett.powerPart) : t.sett.doze = s.sett.doze := by
  simp only [SettS.powerPart, Prod.mk.injEq] at h
  obtain ⟨-, -, -, -, -, hd, -⟩ := h
  exact hd

theorem dozeOn_doze (s : State) : (dozeOn s).sett.doze = true := by
  unfold dozeOn
  rw [doze_of_power (Within.unit_power (Within.foldl (fun t _ => unit_dozeGroup t _ _) allGroups _))]

theorem dozeOff_doze (s : State) : (dozeOff s).sett.doze = false := by
  unfold dozeOff
  rw [doze_of_power (Within.unit_power (Within.foldl (fun t _ => unit_undozeGroup t _ _) allGroups _))]

section
variable {s : State}

theorem doze_ends (hf : settFree s = true) (hm : modeCode s = 5 ∨ modeCode s = 6 ∨ modeCode s = 8) :
    Ends (execDoze s) fun t => t.sett.doze = true ∧ settResult t = (false, 1, 0) := by
  have hc : settCommand (s.cmdTaken 1 0 0) 1 0 0 = settDone (dozeOn (s.cmdTaken 1 0 0)) :=
    if_pos (by rw [modeCode_cmdTaken]; exact hm.imp id Or.symm)
  refine ends_settRun hf ⟨?_, ?_⟩
  · rw [ending_sett, hc]
    exact (settEnd_part _ 1 0 (·.doze) fun _ _ => rfl).trans (dozeOn_doze _)
  · rw [ending_settResult, hc, settResult_settDone]

theorem doze_refused_ends (hf : settFree s = true) (hm : modeCode s ≠ 5 ∧ modeCode s ≠ 6 ∧ modeCode s ≠ 8) :
    Ends (execDoze s) fun t => t.sett.doze = s.sett.doze ∧ settResult t = (false, 3, 2) ∧ t.ownB F.SETT_EVT_REJECT 0 = true := by
  obtain ⟨h5, h6, h8⟩ := hm
  have hc : settCommand (s.cmdTaken 1 0 0) 1 0 0 = settRefuse (s.cmdTaken 1 0 0) 2 :=
    if_neg (by rw [modeCode_cmdTaken]; exact fun h => h.elim h5 fun h => h.elim h8 h6)
  refine ends_settRun hf ⟨?_, ?_, ?_⟩
  · rw [ending_sett, hc]
    exact (settRefuse_part _ 2 (·.doze) fun _ _ => rfl).trans (cmdTaken_part s 1 0 0 (·.doze) fun _ _ => rfl)
  · rw [ending_settResult, hc, settResult_settRefuse _ (by decide)]
  · rw [ending_ownB, hc, settRefuse_reject]

theorem active_ends (hf : settFree s = true) :
    Ends (execActive s) fun t => t.sett.doze = false ∧ settResult t = (false, 1, 0) := by
  have hc : settCommand (s.cmdTaken 2 0 0) 2 0 0 = settDone (dozeOff (s.cmdTaken 2 0 0)) := rfl
  refine ends_settRun hf ⟨?_, ?_⟩
  · rw [ending_sett, hc]
    exact (settEnd_part _ 1 0 (·.doze) fun _ _ => rfl).trans (dozeOff_doze _)
  · rw [ending_settResult, hc, settResult_settDone]
end

/-! ### Safe hold: SAFE, SAFE_EXIT and the automatic exit -/

/-- An alarm, and its log entry with the count of free values (R377, R512). -/
def alarmScope : Scope := ⟨0, alarmP, [logS]⟩

theorem alarm_raise (s : State) (x : Src) (c : Nat) (d : BitVec 80) : Within alarmScope s (s.raise x c d) :=
  within_raise s x c d (fun _ h => h) (by decide)

theorem alarm_logMode (s : State) : Within alarmScope s s.logMode :=
  ((within_free s).trans (within_free _)).trans (within_log _ _ _ _ (by decide) (by decide))

section
variable {s t : State} (h : Within alarmScope s t)
include h

theorem Within.alarm_safe : t.sett.safePart = s.sett.safePart := h.safeHold.resolve_right (by decide)
theorem Within.alarm_power : t.sett.powerPart = s.sett.powerPart := h.power.resolve_right (by decide)

/-- The Sett's own registers but the log's count read as before. -/
theorem Within.alarm_ownW {r : Reg} {n : Nat} (hr : r.addr 0 n ≠ 0x100050) : t.ownW r n = s.ownW r n := by
  refine (h.own _).resolve_right ?_
  rintro ⟨x, hx, hc⟩
  obtain rfl := List.mem_singleton.1 hx
  obtain ⟨-, ha⟩ := hc
  simp only [Reg.words, show R.SETT_LOG_WP ∉ wideRegs by decide, if_false, List.mem_singleton] at ha
  exact hr ha
end

theorem safe_of_part {s t : State} (h : t.sett.safePart = s.sett.safePart) :
    t.safeHold = s.safeHold ∧ t.sett.safeLatch = s.sett.safeLatch := by
  simp only [SettS.safePart, Prod.mk.injEq] at h
  obtain ⟨hs, -, -, hl, -⟩ := h
  exact ⟨hs, hl⟩

theorem safeEnter_spec (s : State) : s.safeEnter.safeHold = s.safeHold ∧
    s.safeEnter.own F.SETT_SAFE_NOW 0 = s.own F.SETT_SAFE_NOW 0 := by
  unfold State.safeEnter
  refine ⟨(safe_of_part (alarm_raise _ _ _ _).alarm_safe).1, ?_⟩
  rw [own_congr ((alarm_raise _ _ _ _).alarm_ownW (by decide)), own_setOwn_ne _ _ (by decide), own_setOwn_reg _ _ _ _ _ (by decide)]

/-- A source that asserts where Safe hold may be entered leaves it entered, its bit shown. -/
theorem safeEval_spec {s : State} (hp : s.safePhase = true) (hn : s.safeNow ≠ 0) :
    s.safeEval.safeHold = true ∧ s.safeEval.own F.SETT_SAFE_NOW 0 = s.safeNow % 256 := by
  unfold State.safeEval
  extract_lets s1
  have hown : s1.own F.SETT_SAFE_NOW 0 = s.safeNow % 256 := own_setOwn_self _ _ _ _ (by decide)
  cases hs : s.sett.safe with
  | true =>
    rw [if_neg (by rw [show s1.sett.safe = true from hs]; simp)]
    exact ⟨hs, hown⟩
  | false =>
    have hc : (s1.safePhase && !s1.sett.safe && s1.safeNow != 0) = true := by
      rw [show s1.safePhase = true from hp, show s1.sett.safe = false from hs, show s1.safeNow = s.safeNow from rfl]
      simpa using hn
    rw [if_pos hc]
    obtain ⟨h1, h2⟩ := safeEnter_spec { s1 with sett := { s1.sett with safe := true } }
    exact ⟨h1, h2.trans hown⟩

theorem safeAssert_latched_spec {s : State} {bit : Nat} (hb : bit < 8) (hp : s.safePhase = true) :
    (s.safeAssert bit false true).safeHold = true ∧ ((s.safeAssert bit false true).own F.SETT_SAFE_NOW 0).testBit bit = true := by
  unfold State.safeAssert
  extract_lets src s1
  have hbit : s1.safeNow.testBit bit = true := by
    have hl : s1.sett.safeLatch = s.sett.safeLatch ||| 2 ^ bit := if_pos (by rw [hp]; decide)
    rw [State.safeNow, hl]
    simp [Nat.testBit_or, Nat.testBit_two_pow_self]
  have hn : s1.safeNow ≠ 0 := by
    intro h
    rw [h, Nat.zero_testBit] at hbit
    exact absurd hbit (by decide)
  obtain ⟨h1, h2⟩ := safeEval_spec (s := s1) hp hn
  refine ⟨h1, ?_⟩
  rw [h2, show (256 : Nat) = 2 ^ 8 from rfl, Nat.testBit_mod_two_pow, hbit, decide_eq_true hb]
  rfl

theorem safeEnd_spec (s : State) (how : Nat) : (safeEnd s how).safeHold = false ∧ (safeEnd s how).sett.safeLatch = 0 := by
  unfold safeEnd
  extract_lets src s1
  obtain ⟨h1, l1⟩ := safe_of_part
    (alarm_raise (safeFollow s (pgSafeEnd (s1.setOwn F.SETT_SAFE_NOW 0 s1.safeNow))) settSrc 0x165 (detailOf [(2, 1, how)])).alarm_safe
  obtain ⟨h2, l2⟩ := safe_of_part ((unit_pgSafeEnd (s1.setOwn F.SETT_SAFE_NOW 0 s1.safeNow)).trans (unit_safeFollow s _)).unit_safe
  exact ⟨h1.trans h2, l1.trans l2⟩

section
variable {s : State}

theorem safe_ends (hf : settFree s = true ∧ s.safePhase = true) :
    Ends (execSafe s) fun t => t.safeHold = true ∧ (t.own F.SETT_SAFE_NOW 0).testBit 7 = true ∧ settResult t = (false, 1, 0) := by
  obtain ⟨hf, hp⟩ := hf
  have hc : settCommand (s.cmdTaken 7 0 0) 7 0 0 = settDone (safeOn (s.cmdTaken 7 0 0) 7 false true) := rfl
  have hp' : (s.cmdTaken 7 0 0).safePhase = true := by
    rw [← hp, State.safePhase, State.safePhase,
      show (s.cmdTaken 7 0 0).sett.phase = s.sett.phase from cmdTaken_part s 7 0 0 (·.phase) fun _ _ => rfl,
      show (s.cmdTaken 7 0 0).sett.vendor = s.sett.vendor from cmdTaken_part s 7 0 0 (·.vendor) fun _ _ => rfl]
  obtain ⟨hs, hb⟩ := safeAssert_latched_spec (bit := 7) (by decide) hp'
  have hu := unit_safeFollow (s.cmdTaken 7 0 0) ((s.cmdTaken 7 0 0).safeAssert 7 false true)
  refine ends_settRun hf ⟨?_, ?_, ?_⟩
  · rw [State.safeHold, ending_sett, hc]
    exact (settEnd_part _ 1 0 (·.safe) fun _ _ => rfl).trans ((safe_of_part hu.unit_safe).1.trans hs)
  · rw [ending_own, hc, settDone, own_congr (settEnd_ownW _ 1 0 (by decide)), safeOn, own_congr (hu.unit_ownW _ _), hb]
  · rw [ending_settResult, hc, settResult_settDone]

theorem safeCond_cmdTaken (s : State) (op guard arg : Nat) : (s.cmdTaken op guard arg).sett.safeCond = s.sett.safeCond :=
  cmdTaken_part s op guard arg (·.safeCond) fun _ _ => rfl

theorem safeHold_cmdTaken (s : State) (op guard arg : Nat) : (s.cmdTaken op guard arg).safeHold = s.safeHold :=
  cmdTaken_part s op guard arg (·.safe) fun _ _ => rfl

theorem safeExit_ends (hf : settFree s = true ∧ s.safeHold = true) (hcond : s.sett.safeCond = 0) :
    Ends (execSafeExit s) fun t => t.safeHold = false ∧ t.sett.safeLatch = 0 ∧ settResult t = (false, 1, 0) := by
  obtain ⟨hf, hs⟩ := hf
  have hc : settCommand (s.cmdTaken 8 0 0) 8 0 0 = settDone (safeEnd (s.cmdTaken 8 0 0) 1) :=
    (if_neg (by rw [safeCond_cmdTaken, hcond]; decide)).trans
      (congrArg settDone (if_pos ((safeHold_cmdTaken s 8 0 0).trans hs)))
  obtain ⟨he, hl⟩ := safeEnd_spec (s.cmdTaken 8 0 0) 1
  refine ends_settRun hf ⟨?_, ?_, ?_⟩
  · rw [State.safeHold, ending_sett, hc]
    exact (settEnd_part _ 1 0 (·.safe) fun _ _ => rfl).trans he
  · rw [ending_sett, hc]
    exact (settEnd_part _ 1 0 (·.safeLatch) fun _ _ => rfl).trans hl
  · rw [ending_settResult, hc, settResult_settDone]

theorem safeExit_refused_ends (hf : settFree s = true) (hcond : s.sett.safeCond ≠ 0) :
    Ends (execSafeExit s) fun t => t.safeHold = s.safeHold ∧ settResult t = (false, 3, 5) ∧ t.ownB F.SETT_EVT_REJECT 0 = true := by
  have hc : settCommand (s.cmdTaken 8 0 0) 8 0 0 = settRefuse (s.cmdTaken 8 0 0) 5 :=
    if_pos (by rw [safeCond_cmdTaken]; exact hcond)
  refine ends_settRun hf ⟨?_, ?_, ?_⟩
  · rw [State.safeHold, ending_sett, hc]
    exact (settRefuse_part _ 5 (·.safe) fun _ _ => rfl).trans (safeHold_cmdTaken s 8 0 0)
  · rw [ending_settResult, hc, settResult_settRefuse _ (by decide)]
  · rw [ending_ownB, hc, settRefuse_reject]

theorem safeAutoExit_ends (h : s.sett.brownOut = false ∧ s.safeHold = true)
    (hd : s.sett.safeCond = 0 ∧ s.ownB F.SETT_CTRL_SAFE_AUTO = true ∧ safeDwelt s = true) :
    Ends (execSafeAutoExit s) fun t => t.safeHold = false ∧ t.sett.safeLatch = 0 := by
  obtain ⟨hb, hs⟩ := h
  obtain ⟨hcond, hauto, hdw⟩ := hd
  apply ends_of_ending
  rw [if_pos ⟨hs, hcond, hauto, hb, hdw⟩, State.safeHold, ending_sett]
  exact safeEnd_spec s 2
end

end Sys2Proof.Machine

/-! ## DORMANT, RESET, EXPORT and LEDGER_SYNC (R496, R498, R507, R522, R528) -/

namespace Sys2Proof.Machine

/-! ### A wrong guard -/

section
variable {s : State} {guard : Fin 256} {arg : Fin 65536}

theorem dormant_guard_ends (hf : settFree s = true) (hg : guard.val ≠ 0x5A) :
    Ends (execDormant guard s) fun t => t.sett.dormantReq = s.sett.dormantReq ∧ settResult t = (false, 3, 1) := by
  have hc : ∀ u : State, settCommand u 9 guard.val 0 = settRefuse u 1 := fun u => by
    show cmdDormant u guard.val = _
    exact if_pos hg
  refine ends_settRun hf ⟨?_, ?_⟩
  · rw [ending_sett, hc]
    exact (settRefuse_part _ 1 (·.dormantReq) fun _ _ => rfl).trans (cmdTaken_part s _ _ _ (·.dormantReq) fun _ _ => rfl)
  · rw [ending_settResult, hc, settResult_settRefuse _ (by decide)]

theorem reset_guard_ends (hf : settFree s = true) (hg : guard.val ≠ 0x5A) :
    Ends (execReset guard s) fun t => t.sett.phase = s.sett.phase ∧ settResult t = (false, 3, 1) := by
  have hc : ∀ u : State, settCommand u 0xA guard.val 0 = settRefuse u 1 := fun u => by
    show cmdReset u guard.val = _
    exact if_pos hg
  refine ends_settRun hf ⟨?_, ?_⟩
  · rw [ending_sett, hc]
    exact (settRefuse_part _ 1 (·.phase) fun _ _ => rfl).trans (cmdTaken_part s _ _ _ (·.phase) fun _ _ => rfl)
  · rw [ending_settResult, hc, settResult_settRefuse _ (by decide)]

theorem rgnReset_guard_ends (hf : settFree s = true) (hg : guard.val ≠ 0x5A) :
    Ends (execRgnReset guard arg s) fun t => settResult t = (false, 3, 1) ∧ t.regs.rgn = s.regs.rgn := by
  have hc : ∀ u : State, settCommand u 0xB guard.val arg.val = settRefuse u 1 := fun u => by
    show cmdRgnReset u guard.val arg.val = _
    exact if_pos hg
  refine ends_settRun hf ⟨?_, ?_⟩
  · rw [ending_settResult, hc, settResult_settRefuse _ (by decide)]
  · rw [ending_regs, hc, settRefuse_regs, cmdTaken_regs]
end

/-! ### DORMANT -/

theorem torporAsked_cmdTaken (s : State) (op guard arg r : Nat) : torporAsked (s.cmdTaken op guard arg) r = torporAsked s r := by
  rw [torporAsked, torporAsked, rgnS_cmdTaken]

theorem anyLive_cmdTaken (s : State) (op guard arg : Nat) : anyLive (s.cmdTaken op guard arg) = anyLive s := by
  simp only [anyLive, gb_congr (cmdTaken_regs s op guard arg)]

theorem any_torporAsked {s : State} (h : ∀ r : Rgn, torporAsked s r = false) : (List.range 16).any (torporAsked s) = false := by
  rw [List.any_eq_false]
  intro q hq
  rw [h ⟨q, List.mem_range.1 hq⟩]
  decide

/-- A port that goes down reads down; the other Herd ports, the host ports and the Sett stand. -/
theorem portDown_spec (s : State) (p : Nat) : hpState (s.portDown p) p = 0 ∧
    (∀ q, q ≠ p → hpState (s.portDown p) q = hpState s q) ∧
    (∀ (f : Fld) (b n : Nat), f.reg.blk = .host → (s.portDown p).gf f b n = s.gf f b n) ∧ (s.portDown p).sett = s.sett := by
  have hregs : (s.portDown p).regs = ((s.setHpState p 0).wr R.HERD_Pp_STAT 0 p 0).regs := rfl
  refine ⟨?_, fun q hq => ?_, fun f b n hf => ?_, rfl⟩
  · rw [hpState, gf_congr hregs, State.gf]
    exact congrArg (fun w : Word => w.bits 31 30) (rd_wr_self (s.setHpState p 0) R.HERD_Pp_STAT 0 p 0)
  · have hne : F.HERD_Pp_STAT_STATE.reg.addr 0 q ≠ F.HERD_Pp_STAT_STATE.reg.addr 0 p := by
      simp only [Reg.addr, F.HERD_Pp_STAT_STATE, R.HERD_Pp_STAT]
      omega
    have hup : F.HERD_Pp_STAT_STATE.reg.addr 0 q ≠ F.HERD_STAT_PORTS_UP.reg.addr 0 0 := by
      simp only [Reg.addr, F.HERD_Pp_STAT_STATE, F.HERD_STAT_PORTS_UP, R.HERD_Pp_STAT, R.HERD_STAT]
      omega
    rw [hpState, hpState, gf_congr hregs]
    refine (congrArg (fun w : Word => w.bits 31 30) (rd_wr_ne (s.setHpState p 0) (r := R.HERD_Pp_STAT) 0 (Or.inr hne))).trans ?_
    refine (gf_sf_ne _ F.HERD_STAT_PORTS_UP F.HERD_Pp_STAT_STATE 0 0 _ 0 q (Or.inr hup)).trans ?_
    exact gf_sf_ne s F.HERD_Pp_STAT_STATE F.HERD_Pp_STAT_STATE 0 p _ 0 q (Or.inr hne)
  · have hb : f.reg.blk ≠ .herd := by rw [hf]; decide
    rw [gf_congr hregs, State.gf, rd_wr_ne _ _ (Or.inl hb)]
    exact (gf_sf_ne _ F.HERD_STAT_PORTS_UP f 0 0 _ b n (Or.inl hb)).trans (gf_sf_ne s F.HERD_Pp_STAT_STATE f 0 p _ b n (Or.inl hb))

theorem portsOff_spec (s : State) : (∀ q : Fin 6, hpState (portsOff s) q = 0) ∧
    (∀ (f : Fld) (b n : Nat), f.reg.blk = .host → (portsOff s).gf f b n = s.gf f b n) ∧ (portsOff s).sett = s.sett := by
  have hkeep : ∀ (l : List Nat) (t : State), (∀ (f : Fld) (b n : Nat), f.reg.blk = .host →
      (l.foldl (fun s p => s.portDown p) t).gf f b n = t.gf f b n) ∧ (l.foldl (fun s p => s.portDown p) t).sett = t.sett := by
    intro l
    induction l with
    | nil => exact fun t => ⟨fun _ _ _ _ => rfl, rfl⟩
    | cons p l ih =>
      intro t
      obtain ⟨-, -, hg, hs⟩ := portDown_spec t p
      exact ⟨fun f b n hf => ((ih _).1 f b n hf).trans (hg f b n hf), (ih _).2.trans hs⟩
  refine ⟨fun q => ?_, hkeep _ s⟩
  exact foldl_region (f := fun s p => s.portDown p) (pre := fun _ => True) (post := fun t => hpState t q = 0)
    List.nodup_range (List.mem_range.2 q.isLt) (fun _ _ _ _ _ => trivial) (fun t _ => (portDown_spec t q).1)
    (fun t p _ hp h => ((portDown_spec t p).2.1 q (Ne.symm hp)).trans h) trivial

theorem linkUp_iff (s : State) (p : Nat) : s.linkUp p = (s.gf F.HOST_p_STAT_MODE 0 p != 0) := rfl

/-- HOST_p_STAT with its state fields at 0 shows no link. -/
theorem linkOff_mode (s : State) (p : Nat) :
    (s.wr R.HOST_p_STAT 0 p ((s.rd R.HOST_p_STAT 0 p).setBits 31 20 0)).gf F.HOST_p_STAT_MODE 0 p = 0 := by
  refine (congrArg (fun w : Word => w.bits 31 30) (rd_wr_self s R.HOST_p_STAT 0 p _)).trans ?_
  apply Nat.eq_of_testBit_eq
  intro i
  rw [Word.bits_testBit, Nat.zero_testBit]
  by_cases hi : i < 31 + 1 - 30
  · rw [Word.setBits_getLsbD _ _ _ _ _ (by omega), if_pos (by omega), Nat.zero_testBit, Bool.and_false]
  · rw [decide_eq_false hi, Bool.false_and]

theorem linksOff_spec (s : State) : (∀ p : Fin 2, (linksOff s).linkUp p = false) ∧
    (∀ q : Fin 6, hpState (linksOff s) q = 0) ∧ (linksOff s).sett = s.sett := by
  unfold linksOff
  extract_lets s1 src s2
  obtain ⟨hq, hg, hs⟩ := portsOff_spec s2
  refine ⟨fun p => ?_, hq, hs⟩
  have h1 : s1.gf F.HOST_p_STAT_MODE 0 p = 0 := by
    refine foldl_region (l := [0, 1]) (f := fun s p => s.wr R.HOST_p_STAT 0 p ((s.rd R.HOST_p_STAT 0 p).setBits 31 20 0))
      (pre := fun _ => True) (post := fun t => t.gf F.HOST_p_STAT_MODE 0 p = 0) (by decide) (by fin_cases p <;> decide)
      (fun _ _ _ _ _ => trivial) (fun t _ => linkOff_mode t p) (fun t q _ hne h => ?_) trivial
    refine (congrArg (fun w : Word => w.bits 31 30) (rd_wr_ne t _ (Or.inr ?_))).trans h
    simp only [Reg.addr, F.HOST_p_STAT_MODE, R.HOST_p_STAT]
    omega
  rw [linkUp_iff, hg F.HOST_p_STAT_MODE 0 p rfl, show s2.gf F.HOST_p_STAT_MODE 0 p = s1.gf F.HOST_p_STAT_MODE 0 p from rfl, h1]
  rfl

section
variable {s : State}

theorem dormant_ends {p : Fin 2} {q : Fin 6} (hf : settFree s = true ∧ packageRuns s = true)
    (hl : anyLive s = false ∧ s.cfg.pr = none) (ht : ∀ r : Rgn, torporAsked s r = false) :
    Ends (execDormant 0x5A s) fun t => t.sett.dormantReq = true ∧ settResult t = (true, 0, 0) ∧ t.linkUp p = false ∧
      hpState t q = 0 := by
  obtain ⟨hf, hrun⟩ := hf
  obtain ⟨hlive, hpr⟩ := hl
  have hc : settCommand (s.cmdTaken 9 0x5A 0) 9 0x5A 0 =
      linksOff { s.cmdTaken 9 0x5A 0 with sett := { (s.cmdTaken 9 0x5A 0).sett with dormantReq := true } } := by
    show cmdDormant (s.cmdTaken 9 0x5A 0) 0x5A = _
    have ht' := any_torporAsked fun r : Rgn => (torporAsked_cmdTaken s 9 0x5A 0 r).trans (ht r)
    rw [cmdDormant, if_neg (by decide), if_neg (by rw [packageRuns_cmdTaken, hrun, ht']; decide),
      if_neg (by rw [anyLive_cmdTaken, hlive]; decide), if_neg (by rw [cmdTaken_cfg, hpr]; decide)]
  obtain ⟨hp, hq, hs⟩ := linksOff_spec
    { s.cmdTaken 9 0x5A 0 with sett := { (s.cmdTaken 9 0x5A 0).sett with dormantReq := true } }
  refine ends_settRun (guard := 0x5A) hf ⟨?_, ?_, ?_, ?_⟩
  · rw [ending_sett, hc, hs]
  · rw [ending_settResult, hc, settResult_of_own (s := s.cmdTaken 9 0x5A 0) (by rw [hs])]
    exact settResult_cmdTaken s (by decide)
  · rw [linkUp_iff, ending_gf, ← linkUp_iff, hc, hp]
  · rw [hpState, ending_gf, hc]
    exact hq q

theorem dormant_live_ends (hf : settFree s = true ∧ packageRuns s = true) (hlive : anyLive s = true)
    (ht : ∀ r : Rgn, torporAsked s r = false) :
    Ends (execDormant 0x5A s) fun t => t.sett.dormantReq = s.sett.dormantReq ∧ settResult t = (false, 3, 3) := by
  obtain ⟨hf, hrun⟩ := hf
  have hc : settCommand (s.cmdTaken 9 0x5A 0) 9 0x5A 0 = settRefuse (s.cmdTaken 9 0x5A 0) 3 := by
    show cmdDormant (s.cmdTaken 9 0x5A 0) 0x5A = _
    have ht' := any_torporAsked fun r : Rgn => (torporAsked_cmdTaken s 9 0x5A 0 r).trans (ht r)
    rw [cmdDormant, if_neg (by decide), if_neg (by rw [packageRuns_cmdTaken, hrun, ht']; decide),
      if_pos (by rw [anyLive_cmdTaken, hlive])]
  refine ends_settRun (guard := 0x5A) hf ⟨?_, ?_⟩
  · rw [ending_sett, hc]
    exact (settRefuse_part _ 3 (·.dormantReq) fun _ _ => rfl).trans (cmdTaken_part s _ _ _ (·.dormantReq) fun _ _ => rfl)
  · rw [ending_settResult, hc, settResult_settRefuse _ (by decide)]

/-! ### EXPORT and LEDGER_SYNC -/

/-- An EXPORT that starts runs on. -/
theorem exportStart_result (u : State) : settResult { u with sett := { u.sett with exporting := true } } = settResult u :=
  settResult_of_own rfl

theorem export_ends (hf : settFree s = true ∧ s.gb F.SEC_STAT_PUF_OK 0 = true) :
    Ends (execExport s) fun t => t.sett.exporting = true ∧ settResult t = (true, 0, 0) := by
  obtain ⟨hf, hk⟩ := hf
  have hc : settCommand (s.cmdTaken 0xC 0 0) 0xC 0 0 =
      { s.cmdTaken 0xC 0 0 with sett := { (s.cmdTaken 0xC 0 0).sett with exporting := true } } := by
    show cmdExport (s.cmdTaken 0xC 0 0) = _
    exact if_pos ((gb_congr (cmdTaken_regs s _ _ _) _ _ _).trans hk)
  refine ends_settRun hf ⟨?_, ?_⟩
  · rw [ending_sett, hc]
  · rw [ending_settResult, hc, exportStart_result]
    exact settResult_cmdTaken s (by decide)

theorem export_refused_ends (hf : settFree s = true ∧ s.gb F.SEC_STAT_PUF_OK 0 = false) :
    Ends (execExport s) fun t => t.sett.exporting = s.sett.exporting ∧ settResult t = (false, 3, 2) := by
  obtain ⟨hf, hk⟩ := hf
  have hc : settCommand (s.cmdTaken 0xC 0 0) 0xC 0 0 = settRefuse (s.cmdTaken 0xC 0 0) 2 := by
    show cmdExport (s.cmdTaken 0xC 0 0) = _
    exact if_neg (by rw [gb_congr (cmdTaken_regs s _ _ _), hk]; decide)
  refine ends_settRun hf ⟨?_, ?_⟩
  · rw [ending_sett, hc]
    exact (settRefuse_part _ 2 (·.exporting) fun _ _ => rfl).trans (cmdTaken_part s _ _ _ (·.exporting) fun _ _ => rfl)
  · rw [ending_settResult, hc, settResult_settRefuse _ (by decide)]

theorem mirror_cmdTaken (s : State) (op guard arg : Nat) : (s.cmdTaken op guard arg).sett.mirror = s.sett.mirror :=
  cmdTaken_part s op guard arg (·.mirror) fun _ _ => rfl

/-- A write of the ledger that starts waits in the queue of flash commands. -/
theorem ledgerWrite_spec (u : State) (sync : Bool) : (ledgerWrite u sync).sett.mirror = some sync ∧
    (ledgerWrite u sync).cfg.jobs = u.cfg.jobs ++ [FlJob.ledger] ∧ settResult (ledgerWrite u sync) = settResult u :=
  ⟨rfl, rfl, settResult_of_own rfl⟩

theorem ledgerSync_ends (hf : settFree s = true)
    (hm : s.sett.mirror = none ∧ modeCode s ≠ 2 ∧ modeCode s ≠ 3 ∧ modeCode s ≠ 0xC) :
    Ends (execLedgerSync s) fun t => t.sett.mirror = some true ∧ t.cfg.jobs = s.cfg.jobs ++ [FlJob.ledger] ∧
      settResult t = (true, 0, 0) := by
  obtain ⟨hmir, h2, h3, hC⟩ := hm
  have hc : settCommand (s.cmdTaken 0xD 0 0) 0xD 0 0 = ledgerWrite (s.cmdTaken 0xD 0 0) true := by
    show cmdLedgerSync (s.cmdTaken 0xD 0 0) = _
    rw [cmdLedgerSync, if_neg (by rw [mirror_cmdTaken, hmir]; decide),
      if_neg (by rw [modeCode_cmdTaken]; exact fun h => h.elim h2 fun h => h.elim h3 hC)]
  obtain ⟨h1, hj, hr⟩ := ledgerWrite_spec (s.cmdTaken 0xD 0 0) true
  refine ends_settRun hf ⟨?_, ?_, ?_⟩
  · rw [ending_sett, hc, h1]
  · rw [ending_cfg, hc, hj, cmdTaken_cfg]
  · rw [ending_settResult, hc, hr, settResult_cmdTaken s (by decide)]

theorem ledgerSync_refused_ends (hf : settFree s = true) (hm : s.sett.mirror.isSome = true) :
    Ends (execLedgerSync s) fun t => t.cfg.jobs = s.cfg.jobs ∧ settResult t = (false, 3, 4) := by
  have hc : settCommand (s.cmdTaken 0xD 0 0) 0xD 0 0 = settRefuse (s.cmdTaken 0xD 0 0) 4 := by
    show cmdLedgerSync (s.cmdTaken 0xD 0 0) = _
    exact if_pos (by rw [mirror_cmdTaken]; exact hm)
  refine ends_settRun hf ⟨?_, ?_⟩
  · rw [ending_cfg, hc, settRefuse, setOwn_cfg, settEnd, setOwn_cfg, setOwn_cfg, setOwn_cfg, cmdTaken_cfg]
  · rw [ending_settResult, hc, settResult_settRefuse _ (by decide)]
end

/-! ### The end of an EXPORT -/

/-- Entries put into a table leave every other key. -/
theorem Tab.get_setAll_of_not_mem {α : Type} [DecidableEq α] {d : Nat → α} {l : List (Nat × α)} {k : Nat} (t : Tab α d)
    (h : k ∉ l.map (·.1)) : (t.setAll l).get k = t.get k := by
  induction l generalizing t with
  | nil => rfl
  | cons c l ih =>
    obtain ⟨hc, hl⟩ := not_or.1 (List.mem_cons.not.1 h)
    exact (ih (t.set c.1 c.2) hl).trans (Tab.get_set_ne _ _ hc)

/-- Of entries put at keys that differ, each reads back. -/
theorem Tab.get_setAll_mem {α : Type} [DecidableEq α] {d : Nat → α} {l : List (Nat × α)} {t : Tab α d} {k : Nat} {v : α}
    (hn : (l.map (·.1)).Nodup) (h : (k, v) ∈ l) : (t.setAll l).get k = v := by
  induction l generalizing t with
  | nil => exact absurd h (List.not_mem_nil)
  | cons c l ih =>
    obtain ⟨hc, hl⟩ := List.nodup_cons.1 hn
    obtain rfl | h := List.mem_cons.1 h
    · exact (Tab.get_setAll_of_not_mem (t.set k v) hc).trans (Tab.get_set_self t k v)
    · exact ih hl h

/-- Of the words of the retention image's header, the one of a place stands at its address. -/
theorem header_word {t : WordTab} {ws : List Word} {i : Nat} {v : Word} (hl : 44 ≤ ws.length)
    (hi : i < 44) (hv : ws[i]? = some v) :
    (t.setAll (((List.range 44).zip ws).map fun (p : Nat × Word) => (0x17_F000 + 4 * p.1, p.2))).get (0x17_F000 + 4 * i) = v := by
  refine Tab.get_setAll_mem ?_ (List.mem_map.2 ⟨(i, v), ?_, rfl⟩)
  · rw [List.map_map]
    have hk : ((List.range 44).zip ws).map ((fun x : Nat × Word => x.1) ∘ fun p => (0x17_F000 + 4 * p.1, p.2)) =
        (((List.range 44).zip ws).map Prod.fst).map fun n => 0x17_F000 + 4 * n := by
      rw [List.map_map]; rfl
    rw [hk, List.map_fst_zip (by rw [List.length_range]; exact hl)]
    exact List.nodup_range.map fun a b (h : 0x17_F000 + 4 * a = 0x17_F000 + 4 * b) => by omega
  · exact List.mem_of_getElem? (List.getElem?_zip_eq_some.2 ⟨by simp [hi], hv⟩)

theorem exportDone_ends {s : State} {digest : BitVec 384} {sig : BitVec 768} (he : s.sett.exporting = true) :
    Ends (execExportDone digest sig s) fun t => t.sett.exporting = false ∧ settResult t = (false, 1, 0) ∧
      t.ownB F.SETT_EVT_EXPORT_DONE 0 = true ∧ t.sett.ret.get 0x17_F000 = 0x4558_5052 ∧
      t.sett.ret.get 0x17_F004 = s.rd R.SEC_DEVIDi 0 0 ∧ t.sett.ret.get 0x17_F01C = s.ownW R.SETT_LOG_WP 0 := by
  apply ends_of_ending
  rw [if_pos he]
  extract_lets ws src s1
  have hl : 44 ≤ ws.length := by simp [ws, fieldWords]
  refine ⟨?_, ?_, ?_, ?_, ?_, ?_⟩
  · rw [ending_sett, settDone_setOwn_part _ _ 0 1 (·.exporting) fun _ _ => rfl]
  · rw [ending_settResult, settResult_settDone]
  · rw [ending_ownB, settDone_ownB _ (by decide), ownB_setOwn_one _ _ _ (by decide)]
  · rw [ending_sett, settDone_setOwn_part _ _ 0 1 (·.ret) fun _ _ => rfl]
    exact header_word (i := 0) hl (by decide) rfl
  · rw [ending_sett, settDone_setOwn_part _ _ 0 1 (·.ret) fun _ _ => rfl]
    exact header_word (i := 1) hl (by decide) rfl
  · rw [ending_sett, settDone_setOwn_part _ _ 0 1 (·.ret) fun _ _ => rfl]
    exact header_word (i := 7) hl (by decide) rfl

end Sys2Proof.Machine

/-! ## The end of a power-down, and the package reset (R496, R498, R507) -/

namespace Sys2Proof.Machine

/-- What each step of a fold leaves, the fold leaves. -/
theorem foldl_kept {α β : Type} (g : State → β) {f : State → α → State} (h : ∀ s x, g (f s x) = g s) (l : List α) (s : State) :
    g (l.foldl f s) = g s := by
  induction l generalizing s with
  | nil => rfl
  | cons x l ih => exact (ih _).trans (h s x)

/-! ### Herd Time stops at a reset of the dies -/

theorem safeRelease_hub (s : State) (b : Nat) : (s.safeRelease b).hub = s.hub := by rw [State.safeRelease, setOwn_hub]
theorem showInjected_hub (s : State) (r : Nat) : (showInjected s r).hub = s.hub := by rw [showInjected, sf_hub, sf_hub]
theorem resetFile_hub (s : State) (b : Blk) (lo hi : Nat) : (resetFile s b lo hi).hub = s.hub := rfl

theorem safeFollow_hub (s t : State) : (safeFollow s t).hub = t.hub := (unit_safeFollow s t).hub.resolve_right (by decide)

theorem syncSafeIn_hub (s : State) : (syncSafeIn s).hub = s.hub := by
  unfold syncSafeIn
  extract_lets is
  split_ifs
  · rfl
  · exact (safeFollow_hub _ _).trans (safeAssert_hub s 1 true false)
  · exact safeRelease_hub s 1

theorem dieRegs_hub (s : State) : (dieRegs s).hub = s.hub :=
  foldl_kept State.hub (fun t b => resetFile_hub t b 0 0x200_0000) dieBlks { s with img := .empty }

theorem sumsLost_hub (s : State) : (sumsLost s).hub = s.hub := by
  unfold sumsLost
  extract_lets n f
  split_ifs
  · rfl
  · exact raise_hub _ _ _ _

theorem dieHidden_timeOn (s : State) : (dieHidden s).hub.timeOn = false := rfl

/-- The levels of PERST_N and the injection detectors show again after the registers have been reset. -/
theorem shownAgain_hub (s : State) (l m : List Nat) :
    (l.foldl showInjected (m.foldl (fun s p => s.sb F.HOST_p_STAT_PERST 0 p (s.host.ports.get p).perst) s)).hub = s.hub :=
  (foldl_kept State.hub showInjected_hub l _).trans
    (foldl_kept State.hub (fun t p => sb_hub t F.HOST_p_STAT_PERST 0 p (t.host.ports.get p).perst) m s)

theorem sumsKept_hub (s : State) (n : Nat) (x : SettS) : (if n = 0 then s else sumsLost { s with sett := x }).hub = s.hub := by
  split
  · rfl
  · exact sumsLost_hub _

theorem diesReset_timeOn (s : State) : (diesReset s).hub.timeOn = false := by
  unfold diesReset
  extract_lets n t src s0 s1 s2 s3 s4 s5
  have h5 : s5 = syncSafeIn s4 := rfl
  have h3 : s3 = dieRegs (s2.setOwn F.SETT_SAFE_NOW 0 s2.safeNow) := rfl
  have h2 : s2 = dieHidden ((List.range 16).foldl hiddenReset s1) := rfl
  have h4 : s4 = (List.range 16).foldl showInjected
    ([0, 1].foldl (fun s p => s.sb F.HOST_p_STAT_PERST 0 p (s.host.ports.get p).perst) s3) := rfl
  clear_value s5 s4 s3 s2
  rw [sumsKept_hub s5 n, h5, syncSafeIn_hub, h4, shownAgain_hub, h3, dieRegs_hub, setOwn_hub, h2, dieHidden_timeOn]

/-! ### RESET -/

theorem packageReset_spec {s : State} (h : hubOn s = true) : (packageReset s).sett.phase = .powerUp ∧
    (packageReset s).sett.pwrStep = (if s.sett.porstLow then 2 else 3) ∧ (packageReset s).hub.timeOn = false := by
  have he : packageReset s = (diesReset s).setPhase .powerUp (if s.sett.porstLow then 2 else 3) := by
    unfold hubOn at h
    unfold packageReset
    split
    · next hp => rw [hp] at h; exact absurd h (by decide)
    · next hp => rw [hp] at h; exact absurd h (by decide)
    · rfl
  rw [he]
  exact ⟨rfl, rfl, diesReset_timeOn s⟩

theorem reset_ends {s : State} (hf : settFree s = true ∧ hubOn s = true) :
    Ends (execReset 0x5A s) fun t => t.sett.phase = .powerUp ∧ t.sett.pwrStep = (if s.sett.porstLow then 2 else 3) ∧
      t.hub.timeOn = false := by
  obtain ⟨hf, hon⟩ := hf
  have hc : ∀ u : State, settCommand u 0xA 0x5A 0 = packageReset (settDone u) := fun u => by
    show cmdReset u 0x5A = _
    exact if_neg (by decide)
  have hlow : (settDone (s.cmdTaken 0xA 0x5A 0)).sett.porstLow = s.sett.porstLow :=
    (settEnd_part _ 1 0 (·.porstLow) fun _ _ => rfl).trans (cmdTaken_part s _ _ _ (·.porstLow) fun _ _ => rfl)
  have hphase : (settDone (s.cmdTaken 0xA 0x5A 0)).sett.phase = s.sett.phase :=
    (settEnd_part _ 1 0 (·.phase) fun _ _ => rfl).trans (cmdTaken_part s _ _ _ (·.phase) fun _ _ => rfl)
  have hon' : hubOn (settDone (s.cmdTaken 0xA 0x5A 0)) = true := by
    unfold hubOn at hon ⊢
    rw [hphase]
    exact hon
  obtain ⟨hp, hst, ht⟩ := packageReset_spec hon'
  refine ends_settRun (guard := 0x5A) hf ⟨?_, ?_, ?_⟩
  · rw [ending_sett, hc, hp]
  · rw [ending_sett, hc, hst, hlow]
  · rw [ending_hub, hc, ht]

/-! ### DORMANT_COMPLETE -/

theorem phase_of_power {s t : State} (h : t.sett.powerPart = s.sett.powerPart) :
    t.sett.phase = s.sett.phase ∧ t.sett.dormantReq = s.sett.dormantReq := by
  simp only [SettS.powerPart, Prod.mk.injEq] at h
  obtain ⟨⟨hp, -⟩, hd, -⟩ := h
  exact ⟨hp, hd⟩

theorem enterDormant_spec (s : State) : (enterDormant s).sett.phase = .dormant ∧ (enterDormant s).sett.dormantReq = false ∧
    (enterDormant s).own F.SETT_CMD_START 0 = 0 ∧ (enterDormant s).hub.timeOn = false := by
  unfold enterDormant
  extract_lets s0 src1 s1 src2
  generalize hu : ({ s1 with sett := { s1.sett with dormantReq := false, supplyBad := 0 } } : State) = u
  have hup : u.sett.phase = .dormant := by subst hu; rfl
  have hud : u.sett.dormantReq = false := by subst hu; rfl
  have hut : u.hub.timeOn = false := by subst hu; exact diesReset_timeOn s
  have hlog := alarm_logMode (u.setOwn F.SETT_CMD_START 0 0)
  obtain ⟨hp, hd⟩ := phase_of_power hlog.alarm_power
  refine ⟨hp.trans hup, hd.trans hud, ?_, ?_⟩
  · rw [own_congr (hlog.alarm_ownW (by decide)), own_setOwn_self _ _ _ _ (by decide)]
    rfl
  · rw [logMode_hub, setOwn_hub]
    exact hut

theorem drivePwr_spec (s : State) (k : Nat) (on : Bool) : (drivePwr s k on).sett = s.sett ∧ (drivePwr s k on).hub = s.hub := by
  unfold drivePwr
  split
  · exact ⟨wr_sett s _ _ _ _, wr_hub s _ _ _ _⟩
  · exact ⟨rfl, rfl⟩

theorem dormantComplete_ends {s : State} (hd : s.sett.dormantReq = true) (hw : s.sett.wakePend = none) :
    Ends (execDormantComplete s) fun t => t.sett.phase = .dormant ∧ t.sett.dormantReq = false ∧
      t.ownB F.SETT_CMD_START 0 = false ∧ t.own F.SETT_CMD_STAT_RESULT 0 = 1 ∧ t.hub.timeOn = false := by
  apply ends_of_ending
  rw [if_pos hd, hw]
  extract_lets s1 s2
  obtain ⟨hp, hq, hst, ht⟩ := enterDormant_spec (mirrorRest (foldRest s))
  have hs2 : s2.sett = s1.sett := foldl_kept State.sett (fun t k => (drivePwr_spec t k false).1) [3, 2, 1, 0] s1
  have hh2 : s2.hub = s1.hub := foldl_kept State.hub (fun t k => (drivePwr_spec t k false).2) [3, 2, 1, 0] s1
  have hown : ∀ r n, s2.ownW r n = s1.ownW r n := fun r n => by rw [State.ownW, State.ownW, hs2]
  show (s.ending s2).sett.phase = .dormant ∧ (s.ending s2).sett.dormantReq = false ∧ (s.ending s2).ownB F.SETT_CMD_START 0 = false ∧
    (s.ending s2).own F.SETT_CMD_STAT_RESULT 0 = 1 ∧ (s.ending s2).hub.timeOn = false
  rw [ending_sett, ending_hub, ending_ownB, ending_own, hs2, hh2, State.ownB, own_congr (hown _ _), own_congr (hown _ _)]
  refine ⟨?_, ?_, ?_, ?_, ?_⟩
  · exact (setOwn_part _ _ 0 1 (·.phase) fun _ _ => rfl).trans hp
  · exact (setOwn_part _ _ 0 1 (·.dormantReq) fun _ _ => rfl).trans hq
  · rw [show s1.own F.SETT_CMD_START 0 = _ from own_setOwn_ne _ _ (by decide), hst]
    rfl
  · exact own_setOwn_self _ F.SETT_CMD_STAT_RESULT 0 1 (by decide)
  · exact (congrArg HubS.timeOn (setOwn_hub _ _ _ _)).trans ht

end Sys2Proof.Machine

/-! ## What the reset of a region changes (R498) -/

namespace Sys2Proof.Machine

/-- The registers of region `q` and of the units that share its procedures and trip lines; of region control what it holds for
`q`; what the Sett, the records and the access paths hold. -/
def restartScope (q : Nat) : Scope :=
  ⟨0, [.rgn (some q), .ana none, .conv none, .comp none, .pwm none, .slots none, .pgSub none, .engines none, .lemem none,
      .fabs none, .frames, .alarms, .records, .flows none, .admission, .retention, .settWrites, .power, .safeHold, .energy,
      .wear, .held, .staged],
    [.region q, .file .ac, .file .pg, .file .le, .file .fab, .file .spr, .file .sett]⟩

/-! ### Registers -/

theorem restart_word {q : Nat} {k : Blk} (a : Nat)
    (h : k = .ac ∨ k = .pg ∨ k = .le ∨ k = .fab ∨ k = .spr) : (restartScope q).word k a := by
  obtain rfl | rfl | rfl | rfl | rfl := h <;> exact Scope.word_file a (by simp [restartScope])

theorem restart_region_word {q : Nat} (k : Blk) {a : Nat} (h : rgnBase q ≤ a ∧ a < rgnBase q + 0x10_0000) :
    (restartScope q).word k a := ⟨.region q, by simp [restartScope], h⟩

section
variable (q : Nat) (s : State)

theorem restart_wr {r : Reg} (b n : Nat) (v : Word)
    (h : r.blk = .ac ∨ r.blk = .pg ∨ r.blk = .le ∨ r.blk = .fab ∨ r.blk = .spr) : Within (restartScope q) s (s.wr r b n v) :=
  within_wr s r b n v (by rintro hs; rw [hs] at h; exact absurd h (by decide)) (restart_word _ h)

theorem restart_sf {f : Fld} (b n v : Nat)
    (h : f.reg.blk = .ac ∨ f.reg.blk = .pg ∨ f.reg.blk = .le ∨ f.reg.blk = .fab ∨ f.reg.blk = .spr) :
    Within (restartScope q) s (s.sf f b n v) := restart_wr q s b n _ h

theorem restart_sb {f : Fld} (b n : Nat) (v : Bool)
    (h : f.reg.blk = .ac ∨ f.reg.blk = .pg ∨ f.reg.blk = .le ∨ f.reg.blk = .fab ∨ f.reg.blk = .spr) :
    Within (restartScope q) s (s.sb f b n v) := restart_sf q s b n _ h

/-- A register of the region's own block of region control. -/
theorem restart_rgnWr {r : Reg} (v : Word) (h : r.blk = .rgn ∧ r.off < 0x1_0000) : Within (restartScope q) s (s.wr r (rgB q) 0 v) := by
  obtain ⟨hb, ho⟩ := h
  refine within_wr s r _ 0 v (by rw [hb]; decide) (restart_region_word _ ?_)
  simp only [Reg.addr, rgB]
  omega

theorem restart_rgnSb {f : Fld} (v : Bool) (h : f.reg.blk = .rgn ∧ f.reg.off < 0x1_0000) :
    Within (restartScope q) s (s.sb f (rgB q) 0 v) := restart_rgnWr q s _ h

/-- A register of a converter group of the region. -/
theorem restart_cgWr {r : Reg} {g : Nat} (v : Word) (h : r.blk = .cg ∧ r.off < 0x1000) (hg : g < 4) :
    Within (restartScope q) s (s.wr r (cgB q g) 0 v) := by
  obtain ⟨hb, ho⟩ := h
  refine within_wr s r _ 0 v (by rw [hb]; decide) (restart_region_word _ ?_)
  simp only [Reg.addr, cgB]
  omega

end

/-! ### The parts of the state that the scope names -/

/-- Two states that differ in nothing but tables of units, configuration memory, records, the Sett and what access paths
hold. -/
structure OutsideKept (s t : State) : Prop where
  regs : t.regs = s.regs := by exact rfl
  hub : t.hub = s.hub := by exact rfl
  rgn : t.rgn = s.rgn := by exact rfl
  cfg : t.cfg.loadPart = s.cfg.loadPart ∧ t.cfg.partPart = s.cfg.partPart ∧ t.cfg.jobPart = s.cfg.jobPart :=
    by exact ⟨rfl, rfl, rfl⟩
  pmap : t.pmap = s.pmap := by exact rfl
  herd : t.herd = s.herd := by exact rfl
  host : t.host = s.host := by exact rfl
  img : t.img = s.img := by exact rfl
  otp : t.otp = s.otp := by exact rfl
  resp : t.resp = s.resp := by exact rfl
  pending : t.pending = s.pending := by exact rfl

theorem restart_key {q : Nat} {p : Option Nat → Place} (h : p none ∈ (restartScope q).places) (k : Nat) :
    (restartScope q).key p k := Or.inl h

theorem restart_outside (q : Nat) {s t : State} (h : OutsideKept s t) : Within (restartScope q) s t where
  regs k a _ := Or.inl (by rw [h.regs])
  own a := Or.inr ⟨.file .sett, by simp [restartScope], rfl⟩
  mirror := Or.inl (by rw [h.regs])
  hub := Or.inl h.hub
  rgn k := Or.inl (by rw [h.rgn])
  ana k := Or.inr (restart_key (by simp [restartScope]) k)
  conv k := Or.inr (restart_key (by simp [restartScope]) k)
  comp k := Or.inr (restart_key (by simp [restartScope]) k)
  pwm k := Or.inr (restart_key (by simp [restartScope]) k)
  slots k := Or.inr (restart_key (by simp [restartScope]) k)
  pgSub k := Or.inr (restart_key (by simp [restartScope]) k)
  engines k := Or.inr (restart_key (by simp [restartScope]) k)
  lemem k := Or.inr (restart_key (by simp [restartScope]) k)
  fabs k := Or.inr (restart_key (by simp [restartScope]) k)
  loading := Or.inl h.cfg.1
  partLoad := Or.inl h.cfg.2.1
  frames := Or.inr (by simp [restartScope])
  jobs := Or.inl h.cfg.2.2
  alarms := Or.inr (by simp [restartScope])
  records := Or.inr (by simp [restartScope])
  flows k := Or.inr (restart_key (by simp [restartScope]) k)
  admission := Or.inr (by simp [restartScope])
  delivery := Or.inl (by rw [h.pmap])
  hostWrites := Or.inl (by rw [h.pmap])
  postings k := Or.inl (by rw [h.pmap])
  herdPort k := Or.inl (by rw [h.herd])
  herdNode := Or.inl (by rw [h.herd])
  hostPort k := Or.inl (by rw [h.host])
  msix := Or.inl (by rw [h.host])
  sideband := Or.inl (by rw [h.host])
  tap := Or.inl (by rw [h.host])
  balls := Or.inl (by rw [h.host])
  retention := Or.inr (by simp [restartScope])
  settWrites := Or.inr (by simp [restartScope])
  power := Or.inr (by simp [restartScope])
  safeHold := Or.inr (by simp [restartScope])
  energy := Or.inr (by simp [restartScope])
  wear := Or.inr (by simp [restartScope])
  img := Or.inl h.img
  otp := Or.inl h.otp
  held := Or.inr (by simp [restartScope])
  staged := Or.inr (by simp [restartScope])
  answers := Or.inl h.resp
  pending := h.pending

section
variable (q : Nat) (s : State)

theorem restart_sett {s t : State} {y : SettS} {z : SpoorS} (q : Nat) (h : t = { s with sett := y, spoor := z }) :
    Within (restartScope q) s t := by
  subst h
  exact restart_outside q {}

theorem restart_raise (x : Src) (c : Nat) (d : BitVec 80) : Within (restartScope q) s (s.raise x c d) := by
  obtain ⟨y, z, h⟩ := raise_eq s x c d
  exact restart_sett q h

theorem restart_useSpare (k r b c : Nat) : Within (restartScope q) s (s.useSpare k r b c) := by
  obtain ⟨y, z, n, h⟩ := useSpare_eq s k r b c
  rw [h]
  exact restart_outside q {}

theorem Within.restart_of_edge {s t : State} (h : Within edgeScope s t) (q : Nat) : Within (restartScope q) s t :=
  h.mono (fun p hp => by
      simp only [edgeScope, List.mem_cons, List.not_mem_nil, or_false] at hp
      obtain rfl | rfl | rfl := hp <;> simp [restartScope])
    fun _ hx => absurd hx (List.not_mem_nil)

theorem restart_safeOn (bit : Nat) (l m : Bool) : Within (restartScope q) s (safeOn s bit l m) := by
  obtain ⟨y, z, h⟩ := safeAssert_eq s bit l m
  exact (restart_sett q h).trans ((edge_safeFollow s _).restart_of_edge q)

theorem restart_syncSafe : Within (restartScope q) s (syncSafe s) :=
  Within.ite (fun _ => restart_safeOn q s 2 true true) fun _ =>
    Within.ite (fun _ => restart_sett q rfl) fun _ => Within.refl _ s

/-! ### The units of the region -/

theorem restart_migEnd (r k : Nat) : Within (restartScope q) s (migEnd s r k) :=
  (restart_sf q s _ _ _ (by decide)).trans (restart_sb q _ _ _ _ (by decide))

theorem restart_migRegionReset (r k : Nat) : Within (restartScope q) s (migRegionReset s r k) := by
  unfold migRegionReset
  refine Within.ite (fun _ => Within.refl _ s) fun _ => Within.ite (fun _ => ?_) fun _ => ?_
  · exact ((restart_sf q s _ _ _ (by decide)).trans (restart_sf q _ _ _ _ (by decide))).trans (restart_migEnd q _ r k)
  · exact (((restart_sf q s _ _ _ (by decide)).trans (restart_sb q _ _ _ _ (by decide))).trans
      (restart_useSpare q _ _ _ _ _)).trans (restart_migEnd q _ r k)

theorem restart_setGrp (r g : Nat) (x : GrpS) : Within (restartScope q) s (s.setGrp r g x) := restart_outside q {}

theorem restart_setCmp (r k : Nat) (x : CmpS) : Within (restartScope q) s (s.setCmp r k x) :=
  restart_outside q {}

theorem restart_chkEnd (r k : Nat) : Within (restartScope q) s (chkEnd s r k) :=
  (((restart_sf q s _ _ _ (by decide)).trans (restart_sf q _ _ _ _ (by decide))).trans (restart_sb q _ _ _ _ (by decide))).trans
    (restart_setCmp q _ r k _)

theorem restart_wcRegionReset (r : Nat) : Within (restartScope q) s (wcRegionReset s r) := by
  unfold wcRegionReset
  extract_lets s1
  have h1 : Within (restartScope q) s s1 := Within.foldl (fun t k => Within.ite
    (fun _ => ((restart_sf q t _ _ _ (by decide)).trans (restart_sf q _ _ _ _ (by decide))).trans (restart_chkEnd q _ r k))
    fun _ => Within.refl _ t) _ s
  exact h1.trans (restart_outside q {})

theorem restart_pgSubEnd (r : Nat) : Within (restartScope q) s (pgSubEnd s r) :=
  (restart_sf q s _ _ _ (by decide)).trans (restart_sb q _ _ _ _ (by decide))

theorem restart_pgMap (r c cause : Nat) : Within (restartScope q) s (pgMap s r c cause) :=
  ((restart_sf q s _ _ _ (by decide)).trans (restart_sb q _ _ _ _ (by decide))).trans (restart_useSpare q _ _ _ _ _)

theorem restart_pgRegionReset (r : Nat) : Within (restartScope q) s (pgRegionReset s r) := by
  have h1 : Within (restartScope q) s (pgSubReset s r) := by
    unfold pgSubReset
    refine Within.ite (fun _ => Within.refl _ s) fun _ => Within.ite (fun _ => ?_) fun _ => ?_
    · exact ((restart_sf q s _ _ _ (by decide)).trans (restart_sf q _ _ _ _ (by decide))).trans (restart_pgSubEnd q _ r)
    · exact (restart_pgMap q s _ _ _).trans (restart_pgSubEnd q _ r)
  exact h1.trans (restart_outside q {})

theorem restart_laneEnd (r : Nat) : Within (restartScope q) s (laneEnd s r) :=
  (restart_sf q s _ _ _ (by decide)).trans (restart_sb q _ _ _ _ (by decide))

theorem restart_leRegionReset (r : Nat) : Within (restartScope q) s (leRegionReset s r) := by
  have h1 : Within (restartScope q) s (laneReset s r) := by
    unfold laneReset
    refine Within.ite (fun _ => Within.refl _ s) fun _ => Within.ite (fun _ => ?_) fun _ => Within.ite (fun _ => ?_) fun _ => ?_
    · exact ((restart_sf q s _ _ _ (by decide)).trans (restart_sf q _ _ _ _ (by decide))).trans (restart_laneEnd q _ r)
    · exact (((restart_sf q s _ _ _ (by decide)).trans (restart_sb q _ _ _ _ (by decide))).trans
        (restart_useSpare q _ _ _ _ _)).trans (restart_laneEnd q _ r)
    · exact restart_laneEnd q s r
  exact h1.trans (restart_outside q {})

theorem restart_rlEnd (r : Nat) : Within (restartScope q) s (rlEnd s r) :=
  (restart_sf q s _ _ _ (by decide)).trans (restart_sb q _ _ _ _ (by decide))

theorem restart_dropSpare (r sp : Nat) : Within (restartScope q) s (dropSpare s r sp) :=
  restart_outside q {}

theorem restart_rlMap (r : Nat) : Within (restartScope q) s (rlMap s r) := by
  unfold rlMap
  extract_lets f x s1
  have h1 : Within (restartScope q) s s1 := Within.foldl (fun t _ => Within.ite
    (fun _ => (restart_sb q t _ _ _ (by decide)).trans (restart_dropSpare q _ _ _)) fun _ => Within.refl _ t) _ s
  refine Within.ite (fun _ => ?_) fun _ => ?_
  · exact (restart_sf q s _ _ _ (by decide)).trans (restart_sb q _ _ _ _ (by decide))
  · exact ((h1.trans (restart_sb q s1 _ _ _ (by decide))).trans (restart_sf q _ _ _ _ (by decide))).trans
      (restart_sf q _ _ _ _ (by decide))

theorem restart_rlReset (r : Nat) : Within (restartScope q) s (rlReset s r) := by
  unfold rlReset
  extract_lets st before
  refine Within.ite (fun _ => Within.refl _ s) fun _ => Within.ite (fun _ => ?_) fun _ => ?_
  · have h1 : Within (restartScope q) s (if (s.fab r).rlKind = 1 then s else dropSpare s r (s.fab r).rlSpare) :=
      Within.ite (fun _ => Within.refl _ s) fun _ => restart_dropSpare q s _ _
    exact ((h1.trans (restart_sf q _ _ _ _ (by decide))).trans (restart_sf q _ _ _ _ (by decide))).trans (restart_rlEnd q _ r)
  · have h1 : Within (restartScope q) s (if st = 5 then rlMap s r else s) :=
      Within.ite (fun _ => restart_rlMap q s r) fun _ => Within.refl _ s
    exact (h1.trans (restart_useSpare q _ _ _ _ _)).trans (restart_rlEnd q _ r)

theorem restart_fabRegionReset (r : Nat) : Within (restartScope q) s (fabRegionReset s r) := by
  unfold fabRegionReset
  extract_lets s1 x words lo
  exact (restart_rlReset q s r).trans (restart_outside q {})

theorem restart_dropAt (h : Nat) (i : Item) : Within (restartScope q) s (s.dropAt h i) := by
  have hl : Within (restartScope q) s (s.countLoss i.cls i.flow) := by
    unfold State.countLoss
    extract_lets s1
    have h1 : Within (restartScope q) s s1 := Within.ite
      (fun _ => (restart_sf q s _ _ _ (by decide)).trans (restart_sb q _ _ _ _ (by decide)))
      fun _ => (restart_sf q s _ _ _ (by decide)).trans (restart_sb q _ _ _ _ (by decide))
    exact Within.ite (fun _ => h1) fun _ => h1.trans (restart_sett q rfl)
  exact hl.trans (restart_sett q rfl)

theorem restart_spoorRegionReset (r : Nat) : Within (restartScope q) s (spoorRegionReset s r) := by
  unfold spoorRegionReset
  extract_lets drop s1 waiting s2
  have h1 : Within (restartScope q) s s1 := Within.foldl (fun t h =>
    (Within.foldl (fun t i => restart_dropAt q t h i) _ t).trans (restart_sett q rfl)) _ s
  have h2 : Within (restartScope q) s1 s2 := Within.foldl (fun t i => restart_dropAt q t _ i) _ s1
  exact (h1.trans h2).trans (restart_sett q rfl)

theorem restart_hiddenReset (r : Nat) : Within (restartScope q) s (hiddenReset s r) := by
  unfold hiddenReset
  extract_lets s1 s2 s3
  have h1 : Within (restartScope q) s s1 := Within.foldl (fun t k => restart_migRegionReset q t r k) _ s
  have h2 : Within (restartScope q) s1 s2 := (restart_wcRegionReset q s1 r).trans (Within.foldl (fun t g => restart_setGrp q t r g _) _ _)
  have h3 : Within (restartScope q) s2 s3 := (((restart_pgRegionReset q s2 r).trans (restart_leRegionReset q _ r)).trans
    (restart_fabRegionReset q _ r)).trans (restart_spoorRegionReset q _ r)
  have h4 : ∀ u : State, Within (restartScope q) u { u with ana := u.ana.keep fun k => k / 12 != r } := fun _ => restart_outside q {}
  exact ((h1.trans h2).trans h3).trans (h4 s3)

/-! ### The trip inputs -/

theorem restart_setCh (r c : Nat) (x : ChS) : Within (restartScope q) s (s.setCh r c x) :=
  restart_outside q {}

theorem restart_enterCbc (r c : Nat) (b : Bool) : Within (restartScope q) s (enterCbc s r c b) :=
  Within.ite (fun _ => Within.refl _ s) fun _ =>
    ((restart_setCh q s r c _).trans (restart_sf q _ _ _ _ (by decide))).trans (restart_sb q _ _ _ _ (by decide))

theorem restart_enterLatch (r : Rgn) (c : Fin 16) (b : Bool) : Within (restartScope q) s (enterLatch s r c b) :=
  (((restart_setCh q s r c _).trans (restart_sf q _ _ _ _ (by decide))).trans (restart_sb q _ _ _ _ (by decide))).trans
    (restart_raise q _ _ _ _)

theorem restart_enterRail (r : Rgn) (c : Fin 16) (b : Bool) : Within (restartScope q) s (enterRail s r c b) :=
  ((Within.foldl (fun t _ => restart_setCh q t _ _ _) _ s).trans (restart_sb q _ _ _ _ (by decide))).trans (restart_raise q _ _ _ _)

theorem restart_tripEnter (r : Rgn) (c : Fin 16) (b : Bool) : Within (restartScope q) s (tripEnter s r c b) := by
  refine Within.ite (fun _ => ?_) fun _ => Within.refl _ s
  split
  · exact (restart_enterCbc q s r c b).trans ((edge_tripFollow _ s _).restart_of_edge q)
  · exact (restart_enterLatch q s r c b).trans ((edge_tripFollow _ s _).restart_of_edge q)
  · exact (restart_enterRail q s r c b).trans ((edge_tripFollow _ s _).restart_of_edge q)
  · exact Within.refl _ s

theorem restart_refreshTrip (r : Rgn) (c : Fin 16) (b : Bool) : Within (restartScope q) s (refreshTrip s r c b) := by
  unfold refreshTrip
  extract_lets f now was s1
  have h1 : Within (restartScope q) s s1 := restart_sb q s _ _ _ (by cases b <;> decide)
  exact Within.ite (fun _ => h1.trans (restart_tripEnter q s1 r c b)) fun _ => h1

theorem restart_resyncTrips (r : Nat) : Within (restartScope q) s (resyncTrips s r) :=
  (Within.foldl (fun t _ => Within.foldl (fun t _ => (restart_refreshTrip q t _ _ _).trans (restart_refreshTrip q _ _ _ _)) _ t)
    _ s).trans (restart_syncSafe q _)
end

end Sys2Proof.Machine

/-! ## RGN_RESET (R494, R498) -/

namespace Sys2Proof.Machine

/-! ### The registers of a region at their reset values -/

/-- The addresses with OTP fields of a region's registers lie in its block. -/
theorem otpKeys_region (s : State) (q : Nat) : ∀ a ∈ otpKeys s (rgnBase q) (rgnBase q + 0x10_0000),
    rgnBase q ≤ a ∧ a < rgnBase q + 0x10_0000 := by
  intro a ha
  unfold otpKeys at ha
  extract_lets l ana trims at ha
  have hl : ∀ b ∈ l, rgnBase q ≤ b ∧ b < rgnBase q + 0x10_0000 := fun b hb => by
    simpa using (List.mem_filter.1 hb).2
  have htrim : ∀ n ∈ trims, n < 0x1000 := by decide
  obtain ha | ha := List.mem_append.1 ha
  · exact hl a (List.mem_filter.1 ha).1
  · obtain ⟨ms, hms, ham⟩ := List.mem_flatten.1 ha
    obtain ⟨w, hw, rfl⟩ := List.mem_map.1 hms
    obtain ⟨n, hn, rfl⟩ := List.mem_map.1 ham
    obtain ⟨b, hb, rfl⟩ := List.mem_map.1 (List.mem_dedup.1 hw)
    obtain ⟨hlo, hhi⟩ := hl b (List.mem_filter.1 hb).1
    have hn' := htrim n hn
    simp only [rgnBase] at hlo hhi ⊢
    omega

/-- The reset values of a range of addresses leave every word outside it. -/
theorem resetFile_word (s : State) (b k : Blk) {q a : Nat} (h : ¬(rgnBase q ≤ a ∧ a < rgnBase q + 0x10_0000)) :
    ((resetFile s b (rgnBase q) (rgnBase q + 0x10_0000)).regs.tab k).get a = (s.regs.tab k).get a := by
  unfold resetFile
  extract_lets t within keys
  have hkeys : a ∉ keys := by
    intro hk
    obtain hk | hk := List.mem_append.1 hk
    · exact h (by simpa [within] using (List.mem_filter.1 hk).2)
    · exact h (otpKeys_region s q a hk)
  have hout : within a = false := by
    simp only [within, Bool.and_eq_false_iff, decide_eq_false_iff_not]
    omega
  by_cases hkb : k = b
  · subst hkb
    rw [Regs.tab_put_self, Tab.get_setAll_of_not_mem _ (by rw [List.map_map]; simpa using hkeys), Tab.get_keep,
      if_pos (by rw [hout]; rfl)]
  · rw [Regs.tab_put_ne _ _ hkb]

section
variable (q : Nat) (s : State)

theorem restart_resetFile (b : Blk) (hb : b ≠ .sett) :
    Within (restartScope q) s (resetFile s b (rgnBase q) (rgnBase q + 0x10_0000)) := by
  refine within_regs s _ (fun k a _ => ?_) (Or.inl ?_)
  · by_cases h : rgnBase q ≤ a ∧ a < rgnBase q + 0x10_0000
    · exact Or.inr (restart_region_word k h)
    · exact Or.inl (resetFile_word s b k h)
  · exact congrArg (fun t => t) (Regs.tab_put_ne s.regs _ (show Blk.sett ≠ b from fun h => hb h.symm))

/-- Each step of a fold over the members of a list. -/
theorem Within.foldl_mem {α : Type} {c : Scope} {f : State → α → State} {l : List α} (h : ∀ s, ∀ x ∈ l, Within c s (f s x))
    (s : State) : Within c s (l.foldl f s) := by
  induction l generalizing s with
  | nil => exact Within.refl c s
  | cons x l ih =>
    exact (h s x List.mem_cons_self).trans (ih (fun t y hy => h t y (List.mem_cons_of_mem _ hy)) _)

theorem restart_regionFiles : Within (restartScope q) s (regionFiles s q) :=
  Within.foldl_mem (fun t b hb => restart_resetFile q t b (by rintro rfl; exact absurd hb (by decide))) s

/-! ### The steps of the reset -/

theorem runningStatus_blk (r : Nat) : ∀ p ∈ runningStatus s r,
    p.1.blk = .ac ∨ p.1.blk = .pg ∨ p.1.blk = .le ∨ p.1.blk = .fab ∨ p.1.blk = .spr := by
  unfold runningStatus
  extract_lets busy
  have hbusy : ∀ (f : Fld) (b : Nat), ∀ p ∈ busy f b, p.1 = f.reg := fun f b p hp => by
    simp only [busy] at hp
    split at hp
    · exact absurd hp (List.not_mem_nil)
    · rw [List.mem_singleton.1 hp]
  intro p hp
  simp only [List.mem_append, List.mem_flatten, List.mem_map] at hp
  obtain (((⟨l, ⟨k, -, rfl⟩, hp⟩ | hp) | hp) | hp) := hp
  · obtain hp | hp := List.mem_append.1 hp
    · rw [hbusy _ _ p hp]; decide
    · rw [hbusy _ _ p hp]; decide
  · rw [hbusy _ _ p hp]; decide
  · rw [hbusy _ _ p hp]; decide
  · rw [hbusy _ _ p hp]; decide

theorem restart_setRgn (x : RgnS) : Within (restartScope q) s (s.setRgn q x) :=
  within_setRgn s q x (Or.inr (by simp [restartScope]))

theorem restart_showInjected : Within (restartScope q) s (showInjected s q) :=
  (restart_sf q s _ _ _ (by decide)).trans (restart_sf q _ _ _ _ (by decide))

theorem restart_setRefFault (on : Bool) : Within (restartScope q) s (setRefFault s q on) :=
  Within.foldl (fun t _ => restart_sb q t _ _ _ (by decide)) _ s

theorem restart_dropHeld (lo hi : Nat) : Within (restartScope q) s (dropHeld s lo hi) := restart_outside q {}
theorem restart_startPc : Within (restartScope q) s (startPc s q) := restart_outside q {}

theorem restart_regionResetAll : Within (restartScope q) s (regionResetAll s q) := by
  unfold regionResetAll
  extract_lets keep was temp s1 s2 s3 s4 s5
  have h1 : Within (restartScope q) s s1 := ((restart_rgnSb q s true (by decide)).trans (restart_hiddenReset q _ q)).trans
    (restart_setRgn q _ _)
  have h2 : Within (restartScope q) s1 s2 := (restart_regionFiles q s1).trans (restart_dropHeld q _ _ _)
  have h3 : Within (restartScope q) s2 s3 :=
    Within.foldl_mem (fun t p hp => restart_wr q t p.2 0 _ (runningStatus_blk s q p hp)) s2
  have h4 : Within (restartScope q) s3 s4 := (restart_rgnWr q s3 _ (by decide)).trans (restart_rgnSb q _ _ (by decide))
  have h5 : Within (restartScope q) s4 s5 := by
    have hf : Within (restartScope q) s4 (if was.refFault then setRefFault s4 q true else s4) :=
      Within.ite (fun _ => restart_setRefFault q s4 true) fun _ => Within.refl _ s4
    exact hf.trans (restart_showInjected q _)
  have h6 : Within (restartScope q) s5 (resyncTrips (startPc s5 q) q) := (restart_startPc q s5).trans (restart_resyncTrips q _ q)
  exact (((((h1.trans h2).trans h3).trans h4).trans h5).trans h6).trans (restart_rgnSb q _ true (by decide))

theorem restart_beginCal {g : Nat} (hg : g < 4) : Within (restartScope q) s (beginCal s q g) :=
  ((restart_cgWr q s _ (by decide) hg).trans (restart_cgWr q _ _ (by decide) hg)).trans (restart_setGrp q _ q g _)

theorem restart_startRegionCal : Within (restartScope q) s (startRegionCal s q) := by
  unfold startRegionCal
  extract_lets src s1
  exact (restart_setRgn q s _).trans (Within.foldl_mem (fun t _ hg => restart_beginCal q t (List.mem_range.1 hg)) s1)

theorem restart_regionRestart : Within (restartScope q) s (regionRestart s q) := by
  have h1 := restart_regionResetAll q s
  exact Within.ite (fun _ => h1.trans (restart_startRegionCal q _)) fun _ => h1.trans (restart_rgnSb q _ false (by decide))
end

/-! ### What the reset of another region leaves -/

section
variable {s t : State} {q r : Nat} (h : Within (restartScope q) s t) (hq : q ≠ r)
include h hq

theorem Within.restart_rgn : t.rgnS r = s.rgnS r := by
  refine (h.rgn r).resolve_right ?_
  rintro (hk | hk) <;> simp [restartScope, hq.symm] at hk

theorem Within.restart_other {k : Blk} {a : Nat} (hk : k = .rgn ∨ k = .cg) (ha : rgnBase r ≤ a ∧ a < rgnBase r + 0x10_0000) :
    (t.regs.tab k).get a = (s.regs.tab k).get a := by
  refine (h.regs k a (by rintro rfl; exact absurd hk (by decide))).resolve_right ?_
  rintro ⟨x, hx, hc⟩
  simp only [restartScope, List.mem_cons, List.not_mem_nil, or_false] at hx
  obtain rfl | hx := hx
  · obtain ⟨hlo, hhi⟩ := hc
    simp only [rgnBase] at ha hlo hhi
    omega
  · obtain rfl | rfl | rfl | rfl | rfl | rfl := hx
    all_goals
      obtain rfl : k = _ := hc
      exact absurd hk (by decide)

theorem Within.restart_gb {f : Fld} (hf : f.reg = R.RGN_STAT) : t.gb f (rgB r) 0 = s.gb f (rgB r) 0 := by
  have hw := h.restart_other hq (a := R.RGN_STAT.addr (rgB r) 0) (Or.inl rfl) (by simp only [Reg.addr, R.RGN_STAT, rgB]; omega)
  rw [State.gb, State.gb, State.gf, State.gf, State.rd, State.rd, hf]
  exact congrArg (fun w : Word => w.bits f.hi f.lo != 0) hw

theorem Within.restart_cgState {g : Nat} (hg : g < 4) : cgState t r g = cgState s r g := by
  have hw := h.restart_other hq (a := R.CG_STAT.addr (cgB r g) 0) (Or.inr rfl) (by simp only [Reg.addr, R.CG_STAT, cgB]; omega)
  exact congrArg (fun w : Word => w.bits 2 0) hw
end

/-! ### The region that is reset -/

theorem unit_beginCal (s : State) (r g : Nat) : Within unitScope s (beginCal s r g) :=
  ((unit_sb s _ _ _ (by decide)).trans (unit_setCgState _ r g 6)).trans (unit_setGrp _ r g _)

theorem beginCal_state (s : State) (r g : Nat) : cgState (beginCal s r g) r g = 6 := by
  rw [cgState, beginCal, gf_congr (setGrp_regs _ r g _)]
  exact gf_sf_self _ F.CG_STAT_STATE _ _ _ (by decide)

theorem beginCal_other (s : State) {r g h : Nat} (hg : h ≠ g) : cgState (beginCal s r h) r g = cgState s r g := by
  rw [cgState, beginCal, gf_congr (setGrp_regs _ r h _)]
  refine (gf_sf_ne _ F.CG_STAT_STATE F.CG_STAT_STATE _ _ _ _ _ (Or.inr ?_)).trans
    (gf_sf_ne s F.CG_CTRL_CAL F.CG_STAT_STATE _ _ _ _ _ (Or.inr ?_))
  · simp only [Reg.addr, F.CG_STAT_STATE, R.CG_STAT, cgB]
    omega
  · simp only [Reg.addr, F.CG_STAT_STATE, F.CG_CTRL_CAL, R.CG_STAT, R.CG_CTRL, cgB]
    omega

theorem startRegionCal_spec (s : State) (r : Nat) :
    (startRegionCal s r).gb F.RGN_STAT_RESET (rgB r) 0 = s.gb F.RGN_STAT_RESET (rgB r) 0 ∧
    ∀ g < 4, cgState (startRegionCal s r) r g = 6 := by
  unfold startRegionCal
  extract_lets src s1
  refine ⟨?_, fun g hg => ?_⟩
  · rw [Within.unit_gb (Within.foldl (fun t g => unit_beginCal t r g) _ s1) rfl]
    exact gb_congr (setRgn_regs s r _) _ _ _
  · exact foldl_region (f := fun t g => beginCal t r g) (pre := fun _ => True) (post := fun t => cgState t r g = 6)
      List.nodup_range (List.mem_range.2 hg) (fun _ _ _ _ _ => trivial) (fun t _ => beginCal_state t r g)
      (fun t p _ hp h => (beginCal_other t hp).trans h) trivial

theorem regionRestart_spec {s : State} {r : Nat} (h : (s.rgnS r).configured = true) :
    (regionRestart s r).gb F.RGN_STAT_RESET (rgB r) 0 = true ∧ ∀ g < 4, cgState (regionRestart s r) r g = 6 := by
  have he : regionRestart s r = startRegionCal (regionResetAll s r) r := if_pos h
  obtain ⟨hr, hc⟩ := startRegionCal_spec (regionResetAll s r) r
  rw [he]
  refine ⟨hr.trans ?_, hc⟩
  unfold regionResetAll
  exact gb_sb_self _ F.RGN_STAT_RESET _ _ true (by decide) (by decide)

theorem rgnReset_ends {s : State} {arg : Fin 65536} {r : Rgn} {g : Fin 4} (hf : settFree s = true ∧ hubOn s = true)
    (ht : ∀ q : Rgn, arg.val.testBit q = true → torporAsked s q = false)
    (hr : arg.val.testBit r = true ∧ (s.rgnS r).configured = true) :
    Ends (execRgnReset 0x5A arg s) fun t => t.gb F.RGN_STAT_RESET (rgB r) 0 = true ∧ cgState t r g = 6 ∧
      settResult t = (false, 1, 0) := by
  obtain ⟨hf, hon⟩ := hf
  obtain ⟨hb, hconf⟩ := hr
  have h0 : arg.val ≠ 0 := by
    intro h
    rw [h, Nat.zero_testBit] at hb
    exact absurd hb (by decide)
  have hany : (regionsOf arg.val).any (torporAsked (s.cmdTaken 0xB 0x5A arg.val)) = false := by
    rw [List.any_eq_false]
    intro q hq
    obtain ⟨hlt, hbq⟩ := mem_regionsOf.1 hq
    rw [torporAsked_cmdTaken, ht ⟨q, hlt⟩ hbq]
    decide
  have hc : settCommand (s.cmdTaken 0xB 0x5A arg.val) 0xB 0x5A arg.val =
      settDone (raiseRgnReset ((regionsOf arg.val).foldl regionRestart (s.cmdTaken 0xB 0x5A arg.val)) arg.val 2) := by
    show cmdRgnReset (s.cmdTaken 0xB 0x5A arg.val) 0x5A arg.val = _
    rw [cmdRgnReset, if_neg (by decide), if_neg (by rw [hubOn_cmdTaken, hon, hany]; decide)]
    exact congrArg settDone (if_neg h0)
  have hfold := foldl_region (s := s.cmdTaken 0xB 0x5A arg.val) (f := regionRestart)
    (pre := fun t => (t.rgnS r).configured = true)
    (post := fun t => t.gb F.RGN_STAT_RESET (rgB r) 0 = true ∧ ∀ g < 4, cgState t r g = 6)
    (regionsOf_nodup arg.val) (mem_regionsOf.2 ⟨r.isLt, hb⟩)
    (fun t q _ hq h => by rw [(restart_regionRestart q t).restart_rgn hq]; exact h)
    (fun t h => regionRestart_spec h)
    (fun t q _ hq h => ⟨((restart_regionRestart q t).restart_gb hq rfl).trans h.1, fun g hg =>
      ((restart_regionRestart q t).restart_cgState hq hg).trans (h.2 g hg)⟩)
    (by rw [rgnS_cmdTaken]; exact hconf)
  obtain ⟨hreset, hcal⟩ := hfold
  have hregs : ∀ u : State, (settDone (raiseRgnReset u arg.val 2)).regs = u.regs := fun u => by
    rw [settDone_regs, raiseRgnReset, raise_regs]
  refine ends_settRun (guard := 0x5A) hf ⟨?_, ?_, ?_⟩
  · rw [ending_gb, hc, gb_congr (hregs _), hreset]
  · rw [cgState, ending_gf, hc, gf_congr (hregs _)]
    exact hcal g g.isLt
  · rw [ending_settResult, hc, settResult_settDone]

end Sys2Proof.Machine

/-! ## SETT_CMD -/

namespace Sys2Proof.Machine

/-- Settles O44: each command, and the end of those that run on, by the lemma of its own about what it leaves. -/
theorem settCommands : Obligations.SettCommands :=
  ⟨fun _ hf hm => doze_ends hf hm,
   fun _ hf hm => doze_refused_ends hf hm,
   fun _ hf => active_ends hf,
   fun _ _ _ hf hr => freeze_ends hf hr,
   fun _ _ hf => freeze_refused_ends hf,
   fun _ _ _ hf hr => torpor_ends hf hr,
   fun _ _ hw hp => torporClockStop_ends hw hp,
   fun _ _ _ hf hr hpin => thaw_ends hf hr hpin,
   fun _ _ hf ha => readout_ends hf ha,
   fun _ _ _ hf ha => readout_refused_ends hf ha,
   fun _ hf => readout_empty_ends hf,
   fun _ _ hm => readoutDone_ends hm,
   fun _ hf => safe_ends hf,
   fun _ hf hcond => safeExit_ends hf hcond,
   fun _ hf hcond => safeExit_refused_ends hf hcond,
   fun _ h hd => safeAutoExit_ends h hd,
   fun _ _ hf hg => dormant_guard_ends hf hg,
   fun _ _ _ hf hl ht => dormant_ends hf hl ht,
   fun _ hf hl ht => dormant_live_ends hf hl ht,
   fun _ hd hw => dormantComplete_ends hd hw,
   fun _ _ hf hg => reset_guard_ends hf hg,
   fun _ hf => reset_ends hf,
   fun _ _ _ hf hg => rgnReset_guard_ends hf hg,
   fun _ _ _ _ hf ht hr => rgnReset_ends hf ht hr,
   fun _ hf => export_ends hf,
   fun _ hf => export_refused_ends hf,
   fun _ _ _ he => exportDone_ends he,
   fun _ hf hm => ledgerSync_ends hf hm,
   fun _ hf hm => ledgerSync_refused_ends hf hm⟩

end Sys2Proof.Machine

/-! ## A step, and the tick of the 400 MHz clock (R54, R199, R437) -/

namespace Sys2Proof.Machine

/-- With no steering asked for, Herd Time counts at its own rate. -/
theorem rate_of_steer {s : State} (h : s.herd.steer = 0) : rate s = 0 := by
  unfold rate
  split
  · rfl
  · exact h

/-- At that rate, with no HERD_TSET value waiting, a tick is 40 counts and leaves no part of a count. -/
theorem herdCount_unsteered {s : State} (hon : s.hub.timeOn = true) (ht : s.herd.tset = none) (hs : rate s = 0)
    (hf : s.hub.frac < 100000000) : herdCount s = { s with hub := { s.hub with time := s.hub.time + 40 } } := by
  have hacc : s.hub.frac + (40 * (100000000 + rate s)).toNat = s.hub.frac + 4000000000 := by
    rw [hs]
    rfl
  have hq : (s.hub.frac + 4000000000) / 100000000 = 40 := by omega
  have hr : (s.hub.frac + 4000000000) % 100000000 = s.hub.frac := by omega
  have htime : BitVec.ofNat 64 (s.hub.time.toNat + 40) = s.hub.time + 40 := by
    apply BitVec.eq_of_toNat_eq
    simp
  rw [herdCount, if_pos hon, ht]
  simp only [hacc, hq, hr, htime]

theorem herdCount_stopped {s : State} (h : s.hub.timeOn = false) : herdCount s = s := if_neg (by simp [h])

/-- Settles O1: the definition of a step, and what a tick counts. -/
theorem stepTakesTheFront : Obligations.StepTakesTheFront := by
  unfold Obligations.StepTakesTheFront
  refine ⟨fun c l s h => ?_, fun s h => ?_, fun s hon ht hs hf => ?_, fun s hoff => ?_⟩
  · rw [step, h]
  · rw [step, h]
  · have h := herdCount_unsteered (s := { s with hub := { s.hub with base := s.hub.base + 40 } }) hon ht (rate_of_steer hs) hf
    rw [herdTick, h]
    exact ⟨rfl, rfl, rfl⟩
  · exact herdCount_stopped hoff

end Sys2Proof.Machine

/-! ## What a write of a register makes of its bits (R10, R11) -/

namespace Sys2Proof.Machine

theorem word_mask_and (w : Word) (hi lo i : Nat) : (w &&& Word.mask hi lo).getLsbD i =
    (w.getLsbD i && decide (lo ≤ i ∧ i ≤ hi)) := by
  rw [BitVec.getLsbD_and, Word.mask_getLsbD]
  by_cases h : i < 32
  · congr 1
    by_cases hl : lo ≤ i <;> by_cases hh : i ≤ hi <;> simp [h, hl, hh] <;> omega
  · rw [BitVec.getLsbD_of_ge _ _ (by omega)]
    simp

/-- A field's write leaves the bits apart from it. -/
theorem fieldWrite_apart (locked : Bool) (v w : Word) {f : FldRow} {i : Nat} (hi : i < 32) (h : i < f.lo ∨ f.hi < i) :
    (fieldWrite locked v w f).getLsbD i = w.getLsbD i := by
  have hset : (w.setBits f.hi f.lo (v.bits f.hi f.lo)).getLsbD i = w.getLsbD i := by
    rw [Word.setBits_getLsbD _ _ _ _ _ hi, if_neg (by omega)]
  have hmask : decide (f.lo ≤ i ∧ i ≤ f.hi) = false := decide_eq_false (by omega)
  unfold fieldWrite
  extract_lets x
  split
  · split
    · exact hset
    · rfl
  · split
    · exact hset
    · rfl
  · rw [BitVec.getLsbD_and, BitVec.getLsbD_not, word_mask_and, hmask]
    simp [hi]
  · rw [BitVec.getLsbD_or, word_mask_and, hmask]
    simp
  all_goals rfl

theorem mergeFields_apart (locked : Bool) (v : Word) {fs : List FldRow} {i : Nat} (hi : i < 32)
    (h : ∀ f ∈ fs, i < f.lo ∨ f.hi < i) (w : Word) : (mergeFields locked fs w v).getLsbD i = w.getLsbD i := by
  induction fs generalizing w with
  | nil => rfl
  | cons f fs ih =>
    exact (ih (fun g hg => h g (List.mem_cons_of_mem _ hg)) _).trans (fieldWrite_apart locked v w hi (h f List.mem_cons_self))

/-- A bit of a one-bit RW field, among fields apart from it, takes the bit written. -/
theorem mergeFields_rw {locked : Bool} {v w : Word} {as bs : List FldRow} {i : Nat} {img : Bool} (hi : i < 32)
    (h : ∀ f ∈ as ++ bs, i < f.lo ∨ f.hi < i) :
    (mergeFields locked (as ++ ⟨i, i, .rw, [], img⟩ :: bs) w v).getLsbD i = v.getLsbD i := by
  rw [mergeFields, List.foldl_append, List.foldl_cons]
  rw [show ∀ u, List.foldl (fieldWrite locked v) u bs = mergeFields locked bs u v from fun _ => rfl,
    mergeFields_apart locked v hi (fun f hf => h f (List.mem_append_right _ hf))]
  show ((as.foldl (fieldWrite locked v) w).setBits i i (v.bits i i)).getLsbD i = v.getLsbD i
  rw [Word.setBits_getLsbD _ _ _ _ _ hi, if_pos (by omega), Word.bits_testBit]
  simp

/-- A bit of a one-bit W1S field, among fields apart from it, is set by a 1 and stays with a 0. -/
theorem mergeFields_w1s {locked : Bool} {v w : Word} {as bs : List FldRow} {i : Nat} {img : Bool} (hi : i < 32)
    (h : ∀ f ∈ as ++ bs, i < f.lo ∨ f.hi < i) :
    (mergeFields locked (as ++ ⟨i, i, .w1s, [], img⟩ :: bs) w v).getLsbD i = (w.getLsbD i || v.getLsbD i) := by
  rw [mergeFields, List.foldl_append, List.foldl_cons]
  rw [show ∀ u, List.foldl (fieldWrite locked v) u bs = mergeFields locked bs u v from fun _ => rfl,
    mergeFields_apart locked v hi (fun f hf => h f (List.mem_append_right _ hf))]
  show (as.foldl (fieldWrite locked v) w ||| (v &&& Word.mask i i)).getLsbD i = _
  rw [BitVec.getLsbD_or, word_mask_and, show as.foldl (fieldWrite locked v) w = mergeFields locked as w v from rfl,
    mergeFields_apart locked v hi (fun f hf => h f (List.mem_append_left _ hf))]
  simp

/-- A one-bit field is a bit of its word. -/
theorem bits_ne_zero (w : Word) (i : Nat) : (w.bits i i != 0) = w.getLsbD i := by
  have h := Word.bits_testBit w i i 0
  have hlt := Word.bits_lt w i i
  rw [show i + 1 - i = 1 by omega] at hlt
  obtain hb | hb : w.bits i i = 0 ∨ w.bits i i = 1 := by omega
  · rw [hb] at h ⊢
    simpa using h
  · rw [hb] at h ⊢
    simpa using h

theorem fOf_eq_bit (v : Word) {f : Fld} (h : f.hi = f.lo) : fOf v f = (v.getLsbD f.lo).toNat := by
  have hb := bits_ne_zero v f.lo
  have hlt := Word.bits_lt v f.lo f.lo
  rw [show f.lo + 1 - f.lo = 1 by omega] at hlt
  rw [fOf, h, ← hb]
  obtain h0 | h1 : v.bits f.lo f.lo = 0 ∨ v.bits f.lo f.lo = 1 := by omega
  · rw [h0]; rfl
  · rw [h1]; rfl

theorem gb_eq_bit (s : State) {f : Fld} (b n : Nat) (h : f.hi = f.lo) : s.gb f b n = (s.rd f.reg b n).getLsbD f.lo := by
  rw [State.gb, State.gf, h, bits_ne_zero]

/-- What a write field by field leaves of a one-bit RW field. -/
theorem written_rw (s : State) {f : Fld} {b n : Nat} {v : Word} {as bs : List FldRow} {img : Bool} (hf : f.hi = f.lo ∧ f.lo < 32)
    (hrow : fieldsOf f.reg n = as ++ ⟨f.lo, f.lo, .rw, [], img⟩ :: bs) (h : ∀ g ∈ as ++ bs, f.lo < g.lo ∨ g.hi < f.lo) :
    (s.plainWrite f.reg b n v).gb f b n = v.getLsbD f.lo := by
  rw [gb_eq_bit _ _ _ hf.1, plainWrite_rd_self, State.merged, hrow, mergeFields_rw hf.2 h]

/-- What it leaves of a one-bit W1S field. -/
theorem written_w1s (s : State) {f : Fld} {b n : Nat} {v : Word} {as bs : List FldRow} {img : Bool} (hf : f.hi = f.lo ∧ f.lo < 32)
    (hrow : fieldsOf f.reg n = as ++ ⟨f.lo, f.lo, .w1s, [], img⟩ :: bs) (h : ∀ g ∈ as ++ bs, f.lo < g.lo ∨ g.hi < f.lo) :
    (s.plainWrite f.reg b n v).gb f b n = (s.gb f b n || v.getLsbD f.lo) := by
  rw [gb_eq_bit _ _ _ hf.1, gb_eq_bit _ _ _ hf.1, plainWrite_rd_self, State.merged, hrow, mergeFields_w1s hf.2 h]

end Sys2Proof.Machine

/-! ## The fast clocks of the regions (R58 to R65, R260) -/

namespace Sys2Proof.Machine

/-! ### What a stop or a restart of the clock makes of the converter groups -/

/-- The converter groups: their registers, and what they hold beside them. -/
def groupScope : Scope := ⟨0, [.conv none], [.file .cg]⟩

theorem group_sf (s : State) {f : Fld} (b n v : Nat) (h : f.reg.blk = .cg) : Within groupScope s (s.sf f b n v) :=
  within_sf s f b n v (by rw [h]; decide) (by rw [h]; exact Scope.word_file _ (by decide))
theorem group_sb (s : State) {f : Fld} (b n : Nat) (v : Bool) (h : f.reg.blk = .cg) : Within groupScope s (s.sb f b n v) :=
  group_sf s b n _ h
theorem group_wr (s : State) {r : Reg} (b n : Nat) (v : Word) (h : r.blk = .cg) : Within groupScope s (s.wr r b n v) :=
  within_wr s r b n v (by rw [h]; decide) (by rw [h]; exact Scope.word_file _ (by decide))
theorem group_setGrp (s : State) (r g : Nat) (x : GrpS) : Within groupScope s (s.setGrp r g x) :=
  within_setGrp s r g x (Or.inl (by decide))

section
variable (s : State) (r g : Nat)

theorem group_startWindow : Within groupScope s (startWindow s r g) := by
  unfold startWindow
  extract_lets b fresh s1
  have h1 : Within groupScope s s1 :=
    Within.ite (fun _ => (group_sf s _ _ _ rfl).trans (group_sf _ _ _ _ rfl)) fun _ => Within.refl _ s
  exact Within.ite (fun _ => Within.refl _ s) fun _ => h1.trans (Within.ite
    (fun _ => (group_setGrp s1 r g _).trans (group_sf _ _ _ _ rfl)) fun _ => (group_setGrp s1 r g _).trans (group_sf _ _ _ _ rfl))

theorem group_cgClockRestart : Within groupScope s (cgClockRestart s r g) :=
  Within.ite (fun _ => ((group_setGrp s r g _).trans (group_sb _ _ _ _ rfl)).trans (group_startWindow _ r g))
    fun _ => Within.refl _ s

theorem group_restoreWords : Within groupScope s (restoreWords s r g) := by
  unfold restoreWords
  split
  · exact ((group_wr s _ _ _ rfl).trans (group_wr _ _ _ _ rfl)).trans (group_setGrp _ r g _)
  · exact Within.refl _ s

theorem group_cgClockStop : Within groupScope s (cgClockStop s r g) :=
  (group_restoreWords s r g).trans (group_sf _ _ _ _ rfl)
end

section
variable {s t : State} (h : Within groupScope s t)
include h

theorem Within.group_gf {f : Fld} (hf : f.reg.blk ≠ .cg ∧ f.reg.blk ≠ .sett) (b n : Nat) : t.gf f b n = s.gf f b n := by
  obtain ⟨hcg, hsett⟩ := hf
  refine congrArg (fun w : Word => w.bits f.hi f.lo) ((h.regs f.reg.blk _ hsett).resolve_right ?_)
  rintro ⟨x, hx, hc⟩
  obtain rfl := List.mem_singleton.1 hx
  exact hcg hc

theorem Within.group_rgn (r : Nat) : t.rgnS r = s.rgnS r :=
  (h.rgn r).resolve_right (by rintro (hk | hk) <;> simp [groupScope] at hk)
end

/-! ### RGN_STAT.CLK -/

theorem clk_congr {s t : State} (h : t.regs = s.regs) (r : Nat) : t.clk r = s.clk r := gf_congr h _ _ _
theorem clk_setRgn (s : State) (r q : Nat) (x : RgnS) : (s.setRgn q x).clk r = s.clk r := clk_congr (setRgn_regs s q x) r
theorem ending_clk (s t : State) (r : Nat) : (s.ending t).clk r = t.clk r := clk_congr (ending_regs s t) r
theorem ending_rgnS (s t : State) (r : Nat) : (s.ending t).rgnS r = t.rgnS r := rgnS_congr (ending_rgn s t) r
theorem clk_setClk (s : State) (r : Nat) {c : Nat} (h : c < 4) : (s.setClk r c).clk r = c :=
  (gf_sf_self s F.RGN_STAT_CLK _ _ _ (by decide)).trans (Nat.mod_eq_of_lt h)

/-! ### A clock that starts, and one that is gated -/

/-- A clock that runs again: its state, the end of its start, and the events captured meanwhile. -/
theorem clockRun_spec (s : State) (r : Nat) : (clockRun s r).clk r = 0 ∧ ((clockRun s r).rgnS r).synthOn = false ∧
    (clockRun s r).gf F.LE_EVPEND_PEND (leB r) = (s.gf F.LE_EVPEND_PEND (leB r) ||| (s.rgnS r).evCap) % 2 ^ 32 := by
  unfold clockRun
  extract_lets x s1 s2
  have hw : Within groupScope s2 ((List.range 4).foldl (fun s g => cgClockRestart s r g) s2) :=
    Within.foldl (fun t g => group_cgClockRestart t r g) _ s2
  refine ⟨?_, ?_, ?_⟩
  · refine (hw.group_gf (by decide) _ _).trans ((gf_sf_ne s1 F.LE_EVPEND_PEND F.RGN_STAT_CLK _ _ _ _ _ (Or.inl (by decide))).trans ?_)
    exact (clk_setRgn _ r r _).trans (clk_setClk s r (by decide))
  · rw [hw.group_rgn, rgnS_congr (sf_rgn s1 _ _ _ _), rgnS_setRgn_self]
  · rw [hw.group_gf (by decide), gf_sf_self s1 _ _ _ _ (by decide), gf_congr (setRgn_regs _ r _)]
    rw [show (s.setClk r 0).gf F.LE_EVPEND_PEND (leB r) = s.gf F.LE_EVPEND_PEND (leB r) from
      gf_sf_ne s F.RGN_STAT_CLK F.LE_EVPEND_PEND _ _ _ _ _ (Or.inl (by decide))]
    rfl

theorem clockStart_gated {s : State} {r : Nat} (h : s.clk r = 1) : clockStart s r = clockRun s r := if_pos h
theorem clockStart_cold {s : State} {r : Nat} (h : s.clk r = 2) :
    clockStart s r = s.setRgn r { s.rgnS r with synthOn := true } := by rw [clockStart, if_neg (by omega), if_pos h]

section
variable {s : State} {r : Rgn}

theorem clockStart_gated_ends (hc : s.clk r = 1) (h : hasReason s r = true ∨ (s.rgnS r).synthOn = true) :
    Ends (execClockStart r s) fun t => t.clk r = 0 := by
  apply ends_of_ending
  rw [if_pos (by simpa using h), clockStart_gated hc, ending_clk]
  exact (clockRun_spec s r).1

theorem clockStart_cold_ends (hc : s.clk r = 2) (h : hasReason s r = true ∨ (s.rgnS r).synthOn = true) :
    Ends (execClockStart r s) fun t => (t.rgnS r).synthOn = true := by
  apply ends_of_ending
  rw [if_pos (by simpa using h), clockStart_cold hc, ending_rgnS, rgnS_setRgn_self]

theorem clockStart_idle_ends (h : hasReason s r = false ∧ (s.rgnS r).synthOn = false) :
    Ends (execClockStart r s) fun t => t.clk r = s.clk r ∧ t.rgnS r = s.rgnS r := by
  apply ends_of_ending
  rw [if_neg (by simpa using h), ending_clk, ending_rgnS]
  exact ⟨rfl, rfl⟩

theorem clockGate_ends (hc : s.clk r = 0) (h : hasReason s r = false) : Ends (execClockGate r s) fun t => t.clk r = 1 := by
  apply ends_of_ending
  rw [if_pos ⟨hc, h⟩, ending_clk]
  have hw : Within groupScope (s.setClk r 1) ((List.range 4).foldl (fun s g => cgClockStop s r g) (s.setClk r 1)) :=
    Within.foldl (fun t g => group_cgClockStop t r g) _ _
  exact (hw.group_gf (by decide) _ _).trans (clk_setClk s r (by decide))

theorem clockCold_ends (hc : s.clk r = 1) (hs : (s.rgnS r).synthOn = false) (ht : s.gf F.RGN_CTRL_COLD_T (rgB r) ≠ 0) :
    Ends (execClockCold r s) fun t => t.clk r = 2 := by
  apply ends_of_ending
  rw [if_pos ⟨hc, hs, ht⟩, ending_clk, clk_setClk s r (by decide)]

theorem synthLock_ends (hs : (s.rgnS r).synthOn = true) (hc : s.clk r = 2) :
    Ends (execSynthLock r s) fun t => t.clk r = 0 ∧ (t.rgnS r).synthOn = false := by
  apply ends_of_ending
  rw [if_pos ⟨hs, Or.inr hc⟩, ending_clk, ending_rgnS]
  exact ⟨(clockRun_spec s r).1, (clockRun_spec s r).2.1⟩

/-- A wake request of a Gated clock is captured as event 31 (R64, R260). -/
theorem wake_gated {s : State} {r : Nat} (h : s.clk r = 1) : (s.wake r).regs = s.regs ∧
    ((s.wake r).rgnS r).evCap = (s.rgnS r).evCap ||| 2 ^ 31 := by
  rw [State.wake, if_neg (by omega), State.eventPend, if_neg (by rw [clk_setRgn]; omega), rgnS_setRgn_self, rgnS_setRgn_self]
  exact ⟨rfl, rfl⟩

theorem regionWake_ends (hc : s.clk r = 1) :
    Ends (execRegionWake r s) fun t => t.clk r = 0 ∧ (t.gf F.LE_EVPEND_PEND (leB r)).testBit 31 = true := by
  apply ends_of_ending
  obtain ⟨hregs, hcap⟩ := wake_gated hc
  have hw : (s.wake r).clk r = 1 := (clk_congr hregs r).trans hc
  obtain ⟨hclk, -, hev⟩ := clockRun_spec (s.wake r) r
  rw [clockStart_gated hw, ending_clk, ending_gf, hev]
  refine ⟨hclk, ?_⟩
  rw [hcap, Nat.testBit_mod_two_pow, Nat.testBit_or, Nat.testBit_or, Nat.testBit_two_pow_self]
  simp
end

/-! ### A write of LE_CTRL that runs a Halted engine starts the clock (R65, R272) -/

/-- The fields of LE_CTRL above STEP and RUN. -/
def leCtrlHigh : List FldRow := [⟨31, 31, .w1s, [], false⟩, ⟨9, 9, .rw, [], false⟩, ⟨8, 8, .rw, [], true⟩, ⟨4, 4, .rw, [], true⟩]

/-- A write of LE_CTRL leaves RUN as written, and STEP set if it was set or is written so. -/
theorem leCtrl_written (s : State) (b : Nat) (v : Word) :
    (s.plainWrite R.LE_CTRL b 0 v).gb F.LE_CTRL_RUN b = v.getLsbD 0 ∧
    (s.plainWrite R.LE_CTRL b 0 v).gb F.LE_CTRL_STEP b = (s.gb F.LE_CTRL_STEP b || v.getLsbD 1) :=
  ⟨written_rw (f := F.LE_CTRL_RUN) s (as := leCtrlHigh ++ [⟨2, 2, .w1s, [], false⟩, ⟨1, 1, .w1s, [], false⟩]) (bs := [])
    (img := true) (by decide) (by decide +kernel) (by decide),
   written_w1s (f := F.LE_CTRL_STEP) s (as := leCtrlHigh ++ [⟨2, 2, .w1s, [], false⟩]) (bs := [⟨0, 0, .rw, [], true⟩])
    (img := false) (by decide) (by decide +kernel) (by decide)⟩

theorem hasWork_of_running {s : State} {r : Nat} (h : (s.eng r).mode = .running) : hasWork s r = true := by
  have hb : engineBusy s r = true := by
    simp [engineBusy, h]
  rw [hasWork, hb]
  simp

/-- A write that gives a block of a region with a stopped clock work asks for the clock's start. -/
theorem started_asks {s t : State} {r : Nat} (hc : t.clk r = 1 ∨ t.clk r = 2) (hs : hasWork s r = false)
    (ht : hasWork t r = true) : ((s.started t r).rgnS r).synthOn = true := by
  rw [State.started, if_pos ⟨hc, hs, ht⟩, rgnS_setRgn_self]

/-- A Halted engine whose RUN reads 1 runs. -/
theorem leRun_running {s : State} {r : Nat} (hrun : s.gb F.LE_CTRL_RUN (leB r) = true) (hm : (s.eng r).mode = .halted) :
    ((leRun s r).eng r).mode = .running := by
  rw [leRun, if_pos hrun, if_pos hm]
  exact congrArg EngS.mode (Tab.get_set_self _ r _)

theorem leRun_regs {s : State} {r : Nat} (hrun : s.gb F.LE_CTRL_RUN (leB r) = true) : (leRun s r).regs = s.regs := by
  rw [leRun, if_pos hrun]
  split
  · exact setEng_regs s r _
  · rfl

/-- LE_CTRL with RUN written 1, STEP and ERST 0. -/
def runWord (w : Word) : Word := w.setBits 2 0 1

theorem runWord_bit (w : Word) {i : Nat} (h : i < 3) : (runWord w).getLsbD i = decide (i = 0) := by
  rw [runWord, Word.setBits_getLsbD _ _ _ _ _ (by omega), if_pos (by omega), Nat.sub_zero, show (1 : Nat) = 2 ^ 0 from rfl,
    Nat.testBit_two_pow]
  exact decide_eq_decide.2 eq_comm

/-- The owner's write of RUN to a Halted engine runs it. -/
theorem leCtrlWrite_run {s : State} {a : Reader} {r : Nat} (hm : s.mayWrite a r = true)
    (hstep : s.gb F.LE_CTRL_STEP (leB r) = false) : leCtrlWrite s a r (runWord (s.rd R.LE_CTRL (leB r))) =
      s.started ((leRun (s.plainWrite R.LE_CTRL (leB r) 0 (runWord (s.rd R.LE_CTRL (leB r)))) r).sb F.LE_CTRL_STEP (leB r) 0 false) r := by
  generalize hv : runWord (s.rd R.LE_CTRL (leB r)) = v
  have hbit : ∀ f : Fld, f.hi = f.lo → f.lo < 3 → fOf v f = if f.lo = 0 then 1 else 0 := fun f hf h3 => by
    rw [fOf_eq_bit v hf, ← hv, runWord_bit _ h3]
    split <;> simp_all
  have hrun : fOf v F.LE_CTRL_RUN = 1 := hbit _ (by decide) (by decide)
  have hst : fOf v F.LE_CTRL_STEP = 0 := hbit _ (by decide) (by decide)
  have herst : fOf v F.LE_CTRL_ERST = 0 := hbit _ (by decide) (by decide)
  have hs1 : (s.plainWrite R.LE_CTRL (leB r) 0 v).gb F.LE_CTRL_STEP (leB r) = false := by
    rw [(leCtrl_written s (leB r) v).2, hstep, ← hv, runWord_bit _ (by decide)]
    rfl
  rw [leCtrlWrite, State.asOwner, if_pos hm]
  simp [hrun, hst, herst, hs1]

theorem leRun_ends {s : State} {a : Reader} {r : Rgn} (hm : s.mayWrite a r = true) (hc : s.clk r = 1 ∨ s.clk r = 2)
    (hi : hasWork s r = false ∧ (s.eng r).mode = .halted)
    (h0 : s.gb F.LE_CTRL_STEP (leB r) = false ∧ s.gb F.LE_CTRL_ERST (leB r) = false) :
    Ends (execLeRun a r s) fun t => (t.rgnS r).synthOn = true := by
  obtain ⟨hw, hmode⟩ := hi
  apply ends_of_ending
  rw [ending_rgnS]
  refine (congrArg (fun t : State => (t.rgnS r).synthOn) (leCtrlWrite_run hm h0.1)).trans ?_
  generalize hu : s.plainWrite R.LE_CTRL (leB r) 0 (runWord (s.rd R.LE_CTRL (leB r))) = u
  have hrun : u.gb F.LE_CTRL_RUN (leB r) = true := by
    rw [← hu, (leCtrl_written s (leB r) _).1, runWord_bit _ (by decide)]
    rfl
  have huclk : u.clk r = s.clk r := by
    rw [← hu]
    exact congrArg (fun w : Word => w.bits 17 16) (rd_wr_ne s _ (Or.inl (by decide)))
  have hueng : u.engines = s.engines := by rw [← hu]; exact wr_engines s _ _ _ _
  have hmode' : (u.eng r).mode = .halted := by rw [State.eng, hueng]; exact hmode
  refine started_asks ?_ hw (hasWork_of_running ?_)
  · have h1 : ((leRun u r).sb F.LE_CTRL_STEP (leB r) 0 false).clk r = u.clk r :=
      (gf_sf_ne _ F.LE_CTRL_STEP F.RGN_STAT_CLK _ _ _ _ _ (Or.inl (by decide))).trans (clk_congr (leRun_regs hrun) r)
    rw [h1, huclk]
    exact hc
  · rw [State.eng, sb_engines]
    exact leRun_running hrun hmode'

/-- Settles O9: what a start, a stop and a restart of the clock leave, and what a write that gives work asks for. -/
theorem clocks : Obligations.Clocks :=
  ⟨fun _ _ hc h => clockStart_gated_ends hc h,
   fun _ _ hc h => clockStart_cold_ends hc h,
   fun _ _ h => clockStart_idle_ends h,
   fun _ _ _ hm hc hi h0 => leRun_ends hm hc hi h0,
   fun _ _ hc h => clockGate_ends hc h,
   fun _ _ hc hs ht => clockCold_ends hc hs ht,
   fun _ _ hc => regionWake_ends hc,
   fun _ _ hs hc => synthLock_ends hs hc⟩

end Sys2Proof.Machine

/-! ## What Degraded and the use of a spare leave (R520, R523, R525 to R527) -/

namespace Sys2Proof.Machine

/-! ### The parts of the Sett that they change -/

/-- An alarm with its log entry, REPLACE_N and the ledger, SETT_DEGR and SETT_EVT. -/
def wornScope : Scope := ⟨0, .wear :: alarmP, logS :: degrS⟩

/-- With them, the count of the free spares. -/
def spareScope : Scope := ⟨0, .wear :: alarmP, .inBlock R.SETT_SPAREk 0 :: logS :: degrS⟩

theorem Within.worn_of_alarm {s t : State} (h : Within alarmScope s t) : Within wornScope s t := h.mono (by decide) (by decide)
theorem Within.spare_of_worn {s t : State} (h : Within wornScope s t) : Within spareScope s t := h.mono (by decide) (by decide)

theorem worn_setDegr (s : State) {f : Fld} (v : Nat) (h : f.reg = R.SETT_DEGR ∨ f.reg = R.SETT_EVT) :
    Within wornScope s (s.setOwn f 0 v) := by
  refine within_setOwn s f 0 v ?_
  obtain h | h := h <;> rw [h]
  · exact Scope.word_one (r := R.SETT_DEGR) (by decide)
  · exact Scope.word_one (r := R.SETT_EVT) (by decide)

/-- The registers of R525 after its conditions have been evaluated. -/
def State.degrShown (s : State) : State := (s.setOwn F.SETT_DEGR_COND 0 s.degrCond).setOwn F.SETT_DEGR_KINDS_LOW 0 s.kindsLow

theorem worn_degrShown (s : State) : Within wornScope s s.degrShown :=
  (worn_setDegr s _ (Or.inl rfl)).trans (worn_setDegr _ _ (Or.inl rfl))

/-- What REPLACE_N and the ledger change, nothing else. -/
theorem worn_wear (s : State) (y : Bool) : Within wornScope s { s with sett := { s.sett with replaceN := y } } :=
  { Within.refl wornScope s with wear := Or.inr (by decide) }

/-- An evaluation of R525 shows its conditions, and raises REPLACE where Degraded begins. -/
theorem evalDegraded_cases (s : State) :
    s.evalDegraded = State.raiseReplace { (s.degrShown.setOwn F.SETT_EVT_DEGRADED 0 1).logMode with
        sett := { (s.degrShown.setOwn F.SETT_EVT_DEGRADED 0 1).logMode.sett with replaceN := true } } ∨
    s.evalDegraded = { s.degrShown.logMode with sett := { s.degrShown.logMode.sett with replaceN := false } } ∨
    s.evalDegraded = s.degrShown := by
  unfold State.evalDegraded
  extract_lets was s1 is s2 s3
  split_ifs
  · exact Or.inl rfl
  · exact Or.inr (Or.inl rfl)
  · exact Or.inr (Or.inr rfl)

theorem worn_evalDegraded (s : State) : Within wornScope s s.evalDegraded := by
  obtain h | h | h := evalDegraded_cases s <;> rw [h]
  · exact ((((worn_degrShown s).trans (worn_setDegr _ _ (Or.inr rfl))).trans (alarm_logMode _).worn_of_alarm).trans
      (worn_wear _ true)).trans (alarm_raise _ _ _ _).worn_of_alarm
  · exact ((worn_degrShown s).trans (alarm_logMode _).worn_of_alarm).trans (worn_wear _ false)
  · exact worn_degrShown s

theorem worn_dirty (s : State) : Within wornScope s { s with sett := { s.sett with dirty := true } } :=
  { Within.refl wornScope s with wear := Or.inr (by decide) }

theorem worn_degrPerm (s : State) : Within wornScope s { s with sett := { s.sett with degrPerm := true } } :=
  { Within.refl wornScope s with wear := Or.inr (by decide) }

theorem worn_ledgerChanged (s : State) : Within wornScope s s.ledgerChanged := (worn_dirty s).trans (worn_evalDegraded _)

theorem worn_failPermanent (s : State) : Within wornScope s s.failPermanent := (worn_degrPerm s).trans (worn_evalDegraded _)

theorem spare_useSpare (s : State) (k r b c : Nat) : Within spareScope s (s.useSpare k r b c) := by
  have h1 : Within spareScope s (s.setOwn F.SETT_SPAREk_FREE k (s.own F.SETT_SPAREk_FREE k - 1)) :=
    within_setOwn s _ k _ (Scope.word_inBlock (r := R.SETT_SPAREk) k (by decide))
  exact (h1.trans (alarm_raise _ _ _ _).worn_of_alarm.spare_of_worn).trans (worn_ledgerChanged _).spare_of_worn

theorem Within.spare_power {s t : State} (h : Within spareScope s t) : t.sett.powerPart = s.sett.powerPart :=
  h.power.resolve_right (by decide)

/-! ### The ledger's data that they keep -/

/-- The wear indices and histogram, the errors and retirements of hub memory, and what has failed for good. -/
def SettS.lasting (x : SettS) : Bool × NatTab × NatTab × NatTab × NatTab × NatTab :=
  (x.degrPerm, x.wear, x.wearAt, x.hist, x.rowErr, x.retired)

theorem lasting_of_wear {x y : SettS} (h : y.wearPart = x.wearPart) : y.lasting = x.lasting := by
  simp only [SettS.wearPart, Prod.mk.injEq] at h
  obtain ⟨⟨-, hp, -⟩, hw, ha, hh, he, -, hr⟩ := h
  rw [SettS.lasting, SettS.lasting, hp, hw, ha, hh, he, hr]

theorem Within.alarm_lasting {s t : State} (h : Within alarmScope s t) : t.sett.lasting = s.sett.lasting :=
  lasting_of_wear (h.wear.resolve_right (by decide))

theorem evalDegraded_lasting (s : State) : s.evalDegraded.sett.lasting = s.sett.lasting := by
  obtain h | h | h := evalDegraded_cases s <;> rw [h]
  · exact (alarm_raise _ _ _ _).alarm_lasting.trans (alarm_logMode (s.degrShown.setOwn F.SETT_EVT_DEGRADED 0 1)).alarm_lasting
  · exact (alarm_logMode s.degrShown).alarm_lasting
  · rfl

theorem ledgerChanged_lasting (s : State) : s.ledgerChanged.sett.lasting = s.sett.lasting := evalDegraded_lasting _

theorem useSpare_lasting (s : State) (k r b c : Nat) : (s.useSpare k r b c).sett.lasting = s.sett.lasting :=
  (ledgerChanged_lasting _).trans (alarm_raise (s.setOwn F.SETT_SPAREk_FREE k (s.own F.SETT_SPAREk_FREE k - 1)) settSrc 0x166
    (detailOf [(2, 1, k), (3, 1, r), (4, 1, b), (5, 1, c), (6, 2, s.own F.SETT_SPAREk_FREE k - 1)])).alarm_lasting

/-! ### SETT_DEGR.COND -/

/-- The conditions of R525 are bits that do not meet. -/
theorem degrCond_spec (s : State) : s.degrCond < 16 ∧ s.degrCond.testBit 0 = s.sett.degrPerm ∧
    s.degrCond.testBit 2 = decide (s.own F.SETT_LIFE_MONTHS < s.own F.SETT_THR_LIFE) := by
  have key : ∀ p q l f : Bool, (if p then 1 else 0) + (if q then 2 else 0) + (if l then 4 else 0) + (if f then 8 else 0) < 16 ∧
      ((if p then 1 else 0) + (if q then 2 else 0) + (if l then 4 else 0) + (if f then 8 else 0)).testBit 0 = p ∧
      ((if p then 1 else 0) + (if q then 2 else 0) + (if l then 4 else 0) + (if f then 8 else 0)).testBit 2 = l := by decide
  have h := key s.sett.degrPerm (decide (s.kindsLow ≠ 0)) (decide (s.own F.SETT_LIFE_MONTHS < s.own F.SETT_THR_LIFE))
    (decide (s.own F.SETT_SPAREk_FREE 10 = 0 ∨ s.own F.SETT_SPAREk_FREE 11 = 0))
  rw [State.degrCond]
  simpa only [decide_eq_true_eq] using h

theorem degrShown_cond (s : State) : s.degrShown.own F.SETT_DEGR_COND = s.degrCond := by
  rw [State.degrShown, own_setOwn_reg _ _ _ _ _ (by decide), own_setOwn_self _ _ _ _ (by decide)]
  exact Nat.mod_eq_of_lt (degrCond_spec s).1

theorem evalDegraded_cond (s : State) : s.evalDegraded.own F.SETT_DEGR_COND = s.degrCond := by
  obtain h | h | h := evalDegraded_cases s <;> rw [h]
  · have hl := (alarm_logMode (s.degrShown.setOwn F.SETT_EVT_DEGRADED 0 1)).alarm_ownW (r := R.SETT_DEGR) (n := 0) (by decide)
    rw [State.raiseReplace, own_congr ((alarm_raise _ _ _ _).alarm_ownW (by decide))]
    exact (own_congr hl).trans ((own_setOwn_ne _ _ (by decide)).trans (degrShown_cond s))
  · exact (own_congr ((alarm_logMode s.degrShown).alarm_ownW (by decide))).trans (degrShown_cond s)
  · exact degrShown_cond s

end Sys2Proof.Machine

/-! ## Time, temperature, voltage and oscillators (R35 to R57, R87, R500) -/

namespace Sys2Proof.Machine

/-! ### Herd Time copies and the die-to-die link -/

theorem rgnS_setRgn_ne (s : State) {q r : Nat} (h : r ≠ q) (x : RgnS) : (s.setRgn q x).rgnS r = s.rgnS r := Tab.get_set_ne _ _ h

theorem herdTimeRefresh_ends (s : State) (r : Rgn) : Ends (execHerdTimeRefresh s) fun t => (t.rgnS r).timeOfs = 0 := by
  apply ends_of_ending
  rw [ending_rgnS]
  refine foldl_region (pre := fun _ => True) (post := fun t => (t.rgnS r).timeOfs = 0) List.nodup_range
    (List.mem_range.2 r.isLt) (fun _ _ _ _ _ => trivial) (fun t _ => ?_) (fun t q _ hq h => ?_) trivial
  · rw [rgnS_setRgn_self]
  · rw [rgnS_setRgn_ne _ hq.symm]
    exact h

theorem dieLinkReplay_ends {s : State} {d : Fin 2} {ns : Nat} {x : Item} {l : List Item} (h : s.spoor.hops.get (hopLink d) = x :: l) :
    Ends (execDieLinkReplay d ns s) fun t => t.spoor.hops.get (hopLink d) = { x with linkNs := x.linkNs + min 20 ns } :: l := by
  apply ends_of_ending
  simp only [h]
  rw [ending_spoor]
  exact Tab.get_set_self _ _ _

/-! ### Temperature -/

theorem group_skewTrack (s : State) (r g : Nat) (temp : Int) : Within groupScope s (skewTrack s r g temp) := by
  unfold skewTrack
  extract_lets b x dt one s1
  refine Within.ite (fun _ => ?_) fun _ => Within.refl _ s
  exact (Within.foldl (fun t i => (group_sf t _ _ _ rfl).trans (group_setGrp _ r g _)) _ s).trans (group_setGrp s1 r g _)

theorem group_calSample (s : State) (r g : Nat) (t : Int) : Within groupScope s (calSample s r g t) :=
  Within.ite (fun _ => group_setGrp s r g _) fun _ => Within.refl _ s

/-- A source of Safe hold changes no register of a region's block RGN. -/
theorem safeOn_rgn_gf (s : State) (bit : Nat) (l m : Bool) {f : Fld} (hf : f.reg.blk = .rgn) (b n : Nat) :
    (safeOn s bit l m).gf f b n = s.gf f b n :=
  ((unit_safeFollow s (s.safeAssert bit l m)).unit_gf hf b n).trans (gf_congr (safeAssert_regs s bit l m) f b n)

/-- A sample gives its region the code of its temperature, and leaves RGN_TEMP of the others. -/
theorem sampleRegion_temp (s : State) (q r : Nat) (x : Int) : (sampleRegion s q x).gf F.RGN_TEMP_TEMP (rgB r) =
    if r = q then codeOf 16 x else s.gf F.RGN_TEMP_TEMP (rgB r) := by
  unfold sampleRegion
  extract_lets h src y s1 s2
  have hs2 : s2.gf F.RGN_TEMP_TEMP (rgB r) = s1.gf F.RGN_TEMP_TEMP (rgB r) :=
    Within.group_gf (Within.foldl (fun t g => (group_skewTrack t q g x).trans (group_calSample _ q g x)) _ s1) (by decide) _ _
  have hs1 : s1.gf F.RGN_TEMP_TEMP (rgB r) = if r = q then codeOf 16 x else s.gf F.RGN_TEMP_TEMP (rgB r) := by
    rw [gf_congr (setRgn_regs _ q y)]
    split_ifs with hr
    · have hlt : codeOf 16 x < 2 ^ 16 := by
        unfold codeOf
        omega
      rw [hr, gf_sf_self s _ _ _ _ (by decide)]
      exact Nat.mod_eq_of_lt hlt
    · refine gf_sf_ne s _ _ _ _ _ _ _ (Or.inr ?_)
      simp only [Reg.addr, rgB, rgnBase]
      omega
  have hall : (if h.1 then safeOn s2 5 true true else s2).gf F.RGN_TEMP_TEMP (rgB r) = s2.gf F.RGN_TEMP_TEMP (rgB r) := by
    split
    · exact safeOn_rgn_gf s2 5 true true rfl _ _
    · rfl
  rw [hall, hs2, hs1]

/-- The registers RGN_STAT and RGN_EVT are no region's RGN_TEMP. -/
theorem temp_sb (s : State) {f : Fld} (q r : Nat) (v : Bool) (h : f.reg = R.RGN_STAT ∨ f.reg = R.RGN_EVT) :
    (s.sb f (rgB q) 0 v).gf F.RGN_TEMP_TEMP (rgB r) = s.gf F.RGN_TEMP_TEMP (rgB r) := by
  refine gf_sf_ne s _ _ _ _ _ _ _ (Or.inr ?_)
  obtain h | h := h <;> rw [h] <;> simp only [Reg.addr, rgB, rgnBase, F.RGN_TEMP_TEMP, R.RGN_TEMP, R.RGN_STAT, R.RGN_EVT] <;> omega

theorem spreadBegins_temp (s : State) (t : Nat → Int) (p : Rgn × Rgn) (r : Nat) :
    (spreadBegins s t p).gf F.RGN_TEMP_TEMP (rgB r) = s.gf F.RGN_TEMP_TEMP (rgB r) := by
  rw [spreadBegins, gf_congr (raise_regs _ _ _ _), temp_sb _ _ _ _ (Or.inr rfl), temp_sb _ _ _ _ (Or.inr rfl)]

theorem checkSpread_temp (s : State) (old new : Nat → Int) (r : Nat) :
    (checkSpread s old new).gf F.RGN_TEMP_TEMP (rgB r) = s.gf F.RGN_TEMP_TEMP (rgB r) := by
  unfold checkSpread
  extract_lets bad s1
  have h1 : s1.gf F.RGN_TEMP_TEMP (rgB r) = s.gf F.RGN_TEMP_TEMP (rgB r) :=
    foldl_kept (State.gf · F.RGN_TEMP_TEMP (rgB r)) (fun t q => temp_sb t q r _ (Or.inl rfl)) _ s
  exact (foldl_kept (State.gf · F.RGN_TEMP_TEMP (rgB r)) (fun t p => spreadBegins_temp t new p r) _ s1).trans h1

theorem tempSample_ends {s : State} {l : List Int} (r : Rgn) (hl : l.length = 16) :
    Ends (execTempSample l s) fun t => t.gf F.RGN_TEMP_TEMP (rgB r) = codeOf 16 (quarterDegrees (l.getD r 0)) := by
  unfold execTempSample
  rw [if_pos hl]
  extract_lets ts new s1 s2
  apply ends_of_ending
  have hnew : new r = quarterDegrees (l.getD r 0) := List.getD_map (f := quarterDegrees) (d := 0) ..
  have h1 : s1.gf F.RGN_TEMP_TEMP (rgB r) = codeOf 16 (new r) := by
    refine foldl_region (pre := fun _ => True) (post := fun t => t.gf F.RGN_TEMP_TEMP (rgB r) = codeOf 16 (new r))
      List.nodup_range (List.mem_range.2 r.isLt) (fun _ _ _ _ _ => trivial) (fun t _ => ?_) (fun t q _ hq h => ?_) trivial
    · rw [sampleRegion_temp, if_pos rfl]
    · rw [sampleRegion_temp, if_neg hq.symm, h]
  have h2 : s2.gf F.RGN_TEMP_TEMP (rgB r) = s1.gf F.RGN_TEMP_TEMP (rgB r) := checkSpread_temp s1 _ _ r
  rw [ending_gf, ← hnew, ← h1, ← h2]
  split
  · exact gf_congr (setOwn_regs _ _ _ _) _ _ _
  · rfl

/-! ### The end of a reference trim -/

theorem unit_powerCluster (s : State) (b : Nat) : Within unitScope s (powerCluster s b) := by
  unfold powerCluster
  extract_lets s1
  exact (Within.foldl (fun t n => unit_sb t _ _ _ (Or.inl rfl)) _ s).trans
    (Within.foldl (fun t m => unit_sb t _ _ _ (Or.inl rfl)) _ s1)

theorem refTrimDone_ends (s : State) (r : Rgn) :
    Ends (execRefTrimDone r s) fun t => (t.rgnS r).trimming = false ∧ (t.rgnS r).trimTemp = tempOf s r := by
  apply ends_of_ending
  rw [ending_rgnS, trimmed, (Within.foldl (fun t k => unit_powerCluster t (acB r k)) _ _).unit_rgn r, rgnS_setRgn_self]
  exact ⟨rfl, rfl⟩

/-! ### Voltage and frequency -/

/-- A write that gives a region work changes, beside what it writes, only whether its synthesiser starts. -/
theorem started_rgnS (s t : State) (r : Nat) : ((s.started t r).rgnS r).vfBusy = (t.rgnS r).vfBusy ∧
    ((s.started t r).rgnS r).vfWait = (t.rgnS r).vfWait := by
  unfold State.started
  split
  · rw [rgnS_setRgn_self]
    exact ⟨rfl, rfl⟩
  · exact ⟨rfl, rfl⟩

/-- A request that is not refused. -/
theorem vfWrite_allowed {s : State} {a : Reader} {r : Nat} {v : Word} (hm : s.mayWrite a r = true) (hf : fOf v F.RGN_VF_FREQ ≤ 20)
    (hb : vfBad s r (fOf v F.RGN_VF_VOLT) (fOf v F.RGN_VF_FREQ) = false) : vfWrite s a r v = s.started
      (if (s.rgnS r).vfBusy.isSome then s.setRgn r { s.rgnS r with vfWait := some (fOf v F.RGN_VF_VOLT, fOf v F.RGN_VF_FREQ) }
        else vfStart s r (fOf v F.RGN_VF_VOLT) (fOf v F.RGN_VF_FREQ)) r := by
  rw [vfWrite, State.asOwner, if_pos hm]
  simp only [if_pos hf, hb, Bool.false_eq_true, if_false]

/-- A request that raises the voltage keeps RGN_VF until the change ends. -/
theorem vfStart_up {s : State} {r volt : Nat} (freq : Nat) (h : s.gf F.RGN_VF_VOLT (rgB r) < volt) : vfStart s r volt freq =
    s.setRgn r { s.rgnS r with vfBusy := some (volt, freq), vfVoltFirst := true, vfWait := none } := if_pos h

theorem vfRequest_ends {s : State} {a : Reader} {r : Rgn} {v : Word} (hm : s.mayWrite a r = true) (hf : fOf v F.RGN_VF_FREQ ≤ 20)
    (hb : vfBad s r (fOf v F.RGN_VF_VOLT) (fOf v F.RGN_VF_FREQ) = false) (hbusy : (s.rgnS r).vfBusy = none)
    (hup : s.gf F.RGN_VF_VOLT (rgB r) < fOf v F.RGN_VF_VOLT) :
    Ends (execVfRequest a r v s) fun t => (t.rgnS r).vfBusy = some (fOf v F.RGN_VF_VOLT, fOf v F.RGN_VF_FREQ) ∧
      t.rd R.RGN_VF (rgB r) = s.rd R.RGN_VF (rgB r) := by
  apply ends_of_ending
  rw [vfWrite_allowed hm hf hb, hbusy, Option.isSome_none, if_neg (by decide), vfStart_up _ hup, ending_rgnS, ending_rd,
    (started_rgnS s _ r).1, rgnS_setRgn_self]
  exact ⟨rfl, (rd_congr (started_regs s _ r) _ _ _).trans (rd_congr (setRgn_regs s r _) _ _ _)⟩

theorem vfRequest_waits_ends {s : State} {a : Reader} {r : Rgn} {v : Word} (hm : s.mayWrite a r = true)
    (hf : fOf v F.RGN_VF_FREQ ≤ 20) (hb : vfBad s r (fOf v F.RGN_VF_VOLT) (fOf v F.RGN_VF_FREQ) = false)
    (hbusy : (s.rgnS r).vfBusy.isSome = true) :
    Ends (execVfRequest a r v s) fun t => (t.rgnS r).vfWait = some (fOf v F.RGN_VF_VOLT, fOf v F.RGN_VF_FREQ) := by
  apply ends_of_ending
  rw [vfWrite_allowed hm hf hb, if_pos hbusy, ending_rgnS, (started_rgnS s _ r).2, rgnS_setRgn_self]

/-- The check before a waiting request starts leaves RGN_VF and the change that runs. -/
theorem vfRecheck_keeps (s : State) (r : Nat) : ((vfRecheck s r).rgnS r).vfBusy = (s.rgnS r).vfBusy ∧
    (vfRecheck s r).rd R.RGN_VF (rgB r) = s.rd R.RGN_VF (rgB r) := by
  unfold vfRecheck
  split
  · split
    · refine ⟨?_, ?_⟩
      · rw [rgnS_congr (sb_rgn _ _ _ _ _), rgnS_setRgn_self]
      · exact rd_wr_ne _ _ (Or.inr (by simp [Reg.addr, R.RGN_VF, F.RGN_EVT_VF_REJ, R.RGN_EVT]))
    · exact ⟨rfl, rfl⟩
  · exact ⟨rfl, rfl⟩

theorem vfChangeEnd_ends {s : State} {r : Rgn} {volt freq : Nat} (hb : (s.rgnS r).vfBusy = some (volt, freq))
    (hv : (s.rgnS r).vfVoltFirst = true) : Ends (execVfChangeEnd r s) fun t => t.gf F.RGN_VF_VOLT (rgB r) = volt % 16 ∧
      t.gf F.RGN_VF_FREQ (rgB r) = freq % 32 ∧ (t.rgnS r).vfBusy = none := by
  unfold execVfChangeEnd
  extract_lets x
  apply ends_of_ending
  rw [show x.vfBusy = some (volt, freq) from hb]
  simp only [show x.vfVoltFirst = true from hv, if_true]
  generalize hu : State.setRgn _ r _ = u
  obtain ⟨hbusy, hvf⟩ := vfRecheck_keeps u r
  have hregs : u.regs = ((s.sf F.RGN_VF_VOLT (rgB r) 0 volt).sf F.RGN_VF_FREQ (rgB r) 0 freq).regs := by rw [← hu, setRgn_regs]
  rw [ending_rgnS, ending_gf, ending_gf, hbusy, ← hu, rgnS_setRgn_self, hu]
  refine ⟨?_, ?_, rfl⟩
  · rw [State.gf, show F.RGN_VF_VOLT.reg = R.RGN_VF from rfl, hvf]
    refine (gf_congr hregs F.RGN_VF_VOLT (rgB r) 0).trans ?_
    rw [gf_sf_same_reg _ F.RGN_VF_FREQ F.RGN_VF_VOLT _ _ _ rfl (by decide) (by decide), gf_sf_self _ _ _ _ _ (by decide)]
    rfl
  · rw [State.gf, show F.RGN_VF_FREQ.reg = R.RGN_VF from rfl, hvf]
    refine (gf_congr hregs F.RGN_VF_FREQ (rgB r) 0).trans ?_
    rw [gf_sf_self _ _ _ _ _ (by decide)]
    rfl

theorem vfWaitingStart_ends {s : State} {r : Rgn} {volt freq : Nat} (hb : (s.rgnS r).vfBusy = none)
    (hw : (s.rgnS r).vfWait = some (volt, freq)) (hs : tooSlow s r freq = false) (hup : s.gf F.RGN_VF_VOLT (rgB r) < volt) :
    Ends (execVfWaitingStart r s) fun t => (t.rgnS r).vfBusy = some (volt, freq) ∧ (t.rgnS r).vfWait = none := by
  apply ends_of_ending
  have hcheck : vfRecheck s r = s := by
    rw [vfRecheck, hw]
    simp [hs]
  simp only [hb, hcheck, hw, Option.isSome_none, Bool.false_eq_true, if_false]
  rw [vfStart_up _ hup, ending_rgnS, rgnS_setRgn_self]
  exact ⟨rfl, rfl⟩

/-! ### The Safe request ball -/

theorem clearBit_testBit (m bit : Nat) : (clearBit m bit).testBit bit = false := by
  unfold clearBit
  split
  · next h =>
    have hm : m = 2 ^ bit + (m - 2 ^ bit) := (Nat.add_sub_cancel' (Nat.ge_two_pow_of_testBit h)).symm
    rw [hm, Nat.testBit_two_pow_add_eq] at h
    simpa using h
  · next h => simpa using h

/-- What asserts Safe hold, and what the Safe request ball shows. -/
theorem sources_of_safe {s t : State} (h : t.sett.safePart = s.sett.safePart) :
    t.sett.safeCond = s.sett.safeCond ∧ t.sett.safeNLow = s.sett.safeNLow := by
  simp only [SettS.safePart, Prod.mk.injEq] at h
  obtain ⟨-, -, hc, -, hn⟩ := h
  exact ⟨hc, hn⟩

theorem safeEnter_sources (s : State) : s.safeEnter.sett.safeCond = s.sett.safeCond ∧ s.safeEnter.sett.safeNLow = s.sett.safeNLow := by
  unfold State.safeEnter
  exact sources_of_safe (alarm_raise _ _ _ _).alarm_safe

/-- Safe hold begins with its sources as they assert. -/
theorem safeEval_sources (s : State) : s.safeEval.sett.safeCond = s.sett.safeCond ∧ s.safeEval.sett.safeNLow = s.sett.safeNLow := by
  unfold State.safeEval
  extract_lets s1
  split
  · exact safeEnter_sources { s1 with sett := { s1.sett with safe := true } }
  · exact ⟨rfl, rfl⟩

theorem safeAssert_sources (s : State) (b : Nat) (l m : Bool) : (s.safeAssert b l m).sett.safeCond =
    (if l then s.sett.safeCond ||| 2 ^ b else s.sett.safeCond) ∧ (s.safeAssert b l m).sett.safeNLow = s.sett.safeNLow :=
  safeEval_sources _

/-- A source of Safe hold that asserts shows among the sources, and the balls that follow leave what the Safe request ball shows. -/
theorem safeOn_sources (s : State) (b : Nat) (l m : Bool) : (safeOn s b l m).sett.safeCond =
    (if l then s.sett.safeCond ||| 2 ^ b else s.sett.safeCond) ∧ (safeOn s b l m).sett.safeNLow = s.sett.safeNLow := by
  obtain ⟨hc, hn⟩ := sources_of_safe (unit_safeFollow s (s.safeAssert b l m)).unit_safe
  obtain ⟨hc', hn'⟩ := safeAssert_sources s b l m
  exact ⟨hc.trans hc', hn.trans hn'⟩

theorem safeNAssert_ends (s : State) :
    Ends (execSafeNAssert s) fun t => t.sett.safeNLow = true ∧ t.sett.safeCond.testBit 0 = true := by
  apply ends_of_ending
  obtain ⟨hc, hn⟩ := safeOn_sources { s with sett := { s.sett with safeNLow := true } } 0 true false
  rw [ending_sett, hc, hn, if_pos rfl, Nat.testBit_or, Nat.testBit_two_pow_self, Bool.or_true]
  exact ⟨rfl, rfl⟩

theorem safeNRelease_ends (s : State) :
    Ends (execSafeNRelease s) fun t => t.sett.safeNLow = false ∧ t.sett.safeCond.testBit 0 = false := by
  apply ends_of_ending
  rw [ending_sett]
  exact ⟨rfl, clearBit_testBit s.sett.safeCond 0⟩

/-! ### The timebase's oscillators and the Sett's -/

theorem pllSwitch_ends {s : State} (cause : Fin 2) (h : s.hub.pllSpareUsed = false) :
    Ends (execPllSwitch cause s) fun t => t.hub.pll = 1 - s.hub.pll ∧ t.hub.pllSpareUsed = true := by
  apply ends_of_ending
  simp only [h, Bool.false_eq_true, if_false]
  rw [ending_hub, useSpare_hub]
  exact ⟨rfl, rfl⟩

theorem refclkLoss_ends (s : State) : Ends (execRefclkLoss s) fun t => t.hub.refclkLost = true := by
  apply ends_of_ending
  rw [ending_hub, raise_hub]

theorem rcOsc_of_power {x y : SettS} (h : y.powerPart = x.powerPart) : y.rcOsc = x.rcOsc := by
  simp only [SettS.powerPart, Prod.mk.injEq] at h
  obtain ⟨⟨-, -, -, -, -, -, -, hr⟩, -⟩ := h
  exact hr

theorem xtalFail_ends (s : State) : Ends (execXtalFail s) fun t => t.sett.rcOsc = true := by
  apply ends_of_ending
  rw [ending_sett]
  split
  · assumption
  · extract_lets src s1
    exact rcOsc_of_power ((spare_useSpare _ 11 0 0 0).spare_power.trans (alarm_raise (s1.setOwn F.SETT_EVT_XTAL 0 1) _ _ _).alarm_power)

/-- Settles O10: what the commands of Herd Time, the temperatures, voltage and frequency and the oscillators leave. -/
theorem timeAndSupply : Obligations.TimeAndSupply :=
  ⟨herdTimeRefresh_ends,
   fun _ _ r hl => tempSample_ends r hl,
   refTrimDone_ends,
   fun _ _ _ _ _ h => dieLinkReplay_ends h,
   fun _ _ _ _ hm hf hb hbusy hup => vfRequest_ends hm hf hb hbusy hup,
   fun _ _ _ _ hm hf hb hbusy => vfRequest_waits_ends hm hf hb hbusy,
   fun _ _ _ _ hb hv => vfChangeEnd_ends hb hv,
   fun _ _ _ _ hb hw hs hup => vfWaitingStart_ends hb hw hs hup,
   safeNAssert_ends,
   safeNRelease_ends,
   fun _ cause h => pllSwitch_ends cause h,
   refclkLoss_ends,
   xtalFail_ends⟩

end Sys2Proof.Machine

/-! ## The energy accumulators (R515 to R518) -/

namespace Sys2Proof.Machine

/-! ### A step of a fold in progress -/

/-- The cells C1 and C2 of an accumulator (R516). -/
def carryCell (a : Nat) : Prop := 0x101000 ≤ a ∧ (a % 16 = 4 ∨ a % 16 = 8)

/-- What the steps 2 and 3 of folds change: cells C1 and C2, and the steps still to come. -/
def Carries (s t : State) : Prop :=
  (∃ o f, t = { s with sett := { s.sett with own := o, folds := f } }) ∧ ∀ a, ¬ carryCell a → t.sett.own.get a = s.sett.own.get a

theorem Carries.refl (s : State) : Carries s s := ⟨⟨s.sett.own, s.sett.folds, rfl⟩, fun _ _ => rfl⟩

theorem Carries.trans {s t u : State} (h : Carries s t) (k : Carries t u) : Carries s u := by
  obtain ⟨⟨o, f, rfl⟩, ho⟩ := h
  obtain ⟨⟨o', f', rfl⟩, ho'⟩ := k
  exact ⟨⟨o', f', rfl⟩, fun a ha => (ho' a ha).trans (ho a ha)⟩

theorem carries_cell (s : State) {r : Reg} {n : Nat} (v : Word) (x : FoldS) (h : carryCell (r.addr 0 n)) :
    Carries s ((s.setOwnW r n v).setFold n x) :=
  ⟨⟨_, _, rfl⟩, fun _ ha => Tab.get_set_ne _ _ fun e => ha (e ▸ h)⟩

theorem carryCell_c1 (n : Nat) : carryCell (R.SETT_ACCn_C1.addr 0 n) := by
  simp only [carryCell, Reg.addr, R.SETT_ACCn_C1]
  omega
theorem carryCell_c2 (n : Nat) : carryCell (R.SETT_ACCn_C2.addr 0 n) := by
  simp only [carryCell, Reg.addr, R.SETT_ACCn_C2]
  omega

theorem carries_foldNext (s : State) (n : Nat) : Carries s (foldNext s n) := by
  unfold foldNext
  extract_lets x
  split
  · exact carries_cell s _ _ (carryCell_c1 n)
  · split
    · exact carries_cell s _ _ (carryCell_c2 n)
    · exact Carries.refl s

theorem carries_foldStep (s : State) : Carries s (foldStep s) := by
  unfold foldStep
  exact List.foldlRecOn (motive := Carries s) _ _ (Carries.refl s) fun t h n _ => h.trans (carries_foldNext t n)

theorem carries_foldFinish (s : State) : Carries s (foldFinish s) := (carries_foldStep s).trans (carries_foldStep _)

section
variable {s t : State} (h : Carries s t)
include h

theorem Carries.ownW {r : Reg} {n : Nat} (hr : ¬ carryCell (r.addr 0 n)) : t.ownW r n = s.ownW r n := h.2 _ hr

theorem Carries.sums : t.sett.sums = s.sett.sums := by
  obtain ⟨⟨o, f, rfl⟩, -⟩ := h
  rfl
end

theorem not_carryCell_c0 (n : Nat) : ¬ carryCell (R.SETT_ACCn_C0.addr 0 n) := by
  simp only [carryCell, Reg.addr, R.SETT_ACCn_C0]
  omega
theorem not_carryCell_cfg (n : Nat) : ¬ carryCell (R.SETT_ACCn_CFG.addr 0 n) := by
  simp only [carryCell, Reg.addr, R.SETT_ACCn_CFG]
  omega

/-! ### Step 1 of a fold -/

/-- An accumulator: its pending sum and its four words. -/
structure AccView where
  sum : Nat
  c0 : Word
  c1 : Word
  c2 : Word
  cfg : Word

/-- What step 1 reads of an accumulator and changes in it. -/
def State.acc (s : State) (n : Nat) : AccView :=
  ⟨s.sett.sums.get n, s.ownW R.SETT_ACCn_C0 n, s.ownW R.SETT_ACCn_C1 n, s.ownW R.SETT_ACCn_C2 n, s.ownW R.SETT_ACCn_CFG n⟩

/-- Words of two accumulators do not meet. -/
theorem acc_addr_ne {q n : Nat} (h : n ≠ q) {f g : Reg} (hf : f ∈ [R.SETT_ACCn_C0, R.SETT_ACCn_C1, R.SETT_ACCn_C2, R.SETT_ACCn_CFG])
    (hg : g ∈ [R.SETT_ACCn_C0, R.SETT_ACCn_C1, R.SETT_ACCn_C2, R.SETT_ACCn_CFG]) : f.addr 0 n ≠ g.addr 0 q := by
  have off : ∀ r ∈ [R.SETT_ACCn_C0, R.SETT_ACCn_C1, R.SETT_ACCn_C2, R.SETT_ACCn_CFG],
      r.stride = 16 ∧ 0x101000 ≤ r.off ∧ r.off < 0x101010 := by decide
  obtain ⟨hfs, hfl, hfu⟩ := off f hf
  obtain ⟨hgs, hgl, hgu⟩ := off g hg
  rw [Reg.addr, Reg.addr, hfs, hgs]
  omega

theorem acc_setOwnW_ne (s : State) {q n : Nat} (h : n ≠ q) {r : Reg} (v : Word)
    (hr : r ∈ [R.SETT_ACCn_C0, R.SETT_ACCn_C1, R.SETT_ACCn_C2, R.SETT_ACCn_CFG]) : (s.setOwnW r q v).acc n = s.acc n := by
  have hw : ∀ g ∈ [R.SETT_ACCn_C0, R.SETT_ACCn_C1, R.SETT_ACCn_C2, R.SETT_ACCn_CFG], (s.setOwnW r q v).ownW g n = s.ownW g n :=
    fun g hg => ownW_setOwnW_ne s v (acc_addr_ne h hg hr)
  simp only [State.acc, hw _ List.mem_cons_self, hw R.SETT_ACCn_C1 (by decide), hw R.SETT_ACCn_C2 (by decide),
    hw R.SETT_ACCn_CFG (by decide)]
  rfl

theorem setFold_acc (s : State) (q n : Nat) (x : FoldS) : (s.setFold q x).acc n = s.acc n := rfl
theorem setFold_ownW (s : State) (q n : Nat) (x : FoldS) (r : Reg) : (s.setFold q x).ownW r n = s.ownW r n := rfl
theorem setFold_ownB (s : State) (q n : Nat) (x : FoldS) (f : Fld) : (s.setFold q x).ownB f n = s.ownB f n := rfl

/-- Step 1 of an accumulator leaves the others. -/
theorem foldFirst_ne (s : State) {q n : Nat} (h : n ≠ q) : (foldFirst s q).acc n = s.acc n := by
  unfold foldFirst
  extract_lets sum src s1 c add
  have h1 : s1.acc n = s.acc n := by
    rw [State.acc, show s1.sett.sums.get n = s.sett.sums.get n from Tab.get_set_ne _ _ h]
    rfl
  split
  · rw [setFold_acc, State.setOwn, acc_setOwnW_ne _ h (r := F.SETT_ACCn_CFG_CLR.reg) _ (by decide), acc_setOwnW_ne _ h _ (by decide), acc_setOwnW_ne _ h _ (by decide), acc_setOwnW_ne _ h _ (by decide), h1]
  · rw [setFold_acc, acc_setOwnW_ne _ h _ (by decide), h1]

/-- Step 1 without CLR adds the pending sum to C0. -/
theorem foldFirst_add {s : State} {n : Nat} (h : s.ownB F.SETT_ACCn_CFG_CLR n = false) :
    (foldFirst s n).ownW R.SETT_ACCn_C0 n = s.ownW R.SETT_ACCn_C0 n + BitVec.ofNat 32 (s.sett.sums.get n) ∧
      (foldFirst s n).sett.sums.get n = 0 := by
  unfold foldFirst
  extract_lets sum src s1 c add
  rw [if_neg (by simp [h]), setFold_ownW]
  refine ⟨(ownW_setOwnW_self s1 R.SETT_ACCn_C0 n _).trans ?_, Tab.get_set_self _ _ _⟩
  apply BitVec.eq_of_toNat_eq
  simp [c, sum]

/-- Step 1 with CLR zeroes the accumulator and clears CLR. -/
theorem foldFirst_clear {s : State} {n : Nat} (h : s.ownB F.SETT_ACCn_CFG_CLR n = true) :
    (foldFirst s n).ownW R.SETT_ACCn_C0 n = 0 ∧ (foldFirst s n).ownW R.SETT_ACCn_C1 n = 0 ∧
      (foldFirst s n).ownW R.SETT_ACCn_C2 n = 0 ∧ (foldFirst s n).ownB F.SETT_ACCn_CFG_CLR n = false := by
  unfold foldFirst
  extract_lets sum src s1 c add
  rw [if_pos h, setFold_ownW, setFold_ownW, setFold_ownW, setFold_ownB]
  generalize hu : s1.setOwnW R.SETT_ACCn_C0 n 0 = u
  have h0 : u.ownW R.SETT_ACCn_C0 n = 0 := by rw [← hu, ownW_setOwnW_self]
  have ne : ∀ f g : Reg, f.stride = g.stride → f.off ≠ g.off → f.addr 0 n ≠ g.addr 0 n := by
    intro f g hs ho
    rw [Reg.addr, Reg.addr, hs]
    omega
  have h01 : R.SETT_ACCn_C0.addr 0 n ≠ R.SETT_ACCn_C1.addr 0 n := ne _ _ rfl (by decide)
  have h02 : R.SETT_ACCn_C0.addr 0 n ≠ R.SETT_ACCn_C2.addr 0 n := ne _ _ rfl (by decide)
  have h12 : R.SETT_ACCn_C1.addr 0 n ≠ R.SETT_ACCn_C2.addr 0 n := ne _ _ rfl (by decide)
  have hcfg : ∀ q : Reg, q.stride = 16 → q.off ≠ 0x10100c → ∀ t : State,
      (t.setOwn F.SETT_ACCn_CFG_CLR n 0).ownW q n = t.ownW q n :=
    fun q hs ho t => ownW_setOwn_ne t 0 (ne q R.SETT_ACCn_CFG hs ho)
  refine ⟨?_, ?_, ?_, ?_⟩
  · rw [hcfg _ rfl (by decide), ownW_setOwnW_ne _ _ h02, ownW_setOwnW_ne _ _ h01, h0]
  · rw [hcfg _ rfl (by decide), ownW_setOwnW_ne _ _ h12, ownW_setOwnW_self]
  · rw [hcfg _ rfl (by decide), ownW_setOwnW_self]
  · have hc := own_setOwn_self ((u.setOwnW R.SETT_ACCn_C1 n 0).setOwnW R.SETT_ACCn_C2 n 0) F.SETT_ACCn_CFG_CLR n 0 (by decide)
    exact congrArg (· != 0) hc

/-! ### A fold -/

section
variable {s : State} {n : Fin 128}

/-- The state in which an accumulator's step 1 begins: the last fold's steps have been made. -/
theorem foldFinish_acc (s : State) (n : Nat) : (foldFinish s).sett.sums.get n = s.sett.sums.get n ∧
    (foldFinish s).ownW R.SETT_ACCn_C0 n = s.ownW R.SETT_ACCn_C0 n ∧
    (foldFinish s).ownB F.SETT_ACCn_CFG_CLR n = s.ownB F.SETT_ACCn_CFG_CLR n := by
  have h := carries_foldFinish s
  refine ⟨by rw [h.sums], h.ownW (not_carryCell_c0 n), ?_⟩
  rw [State.ownB, State.ownB, own_congr (f := F.SETT_ACCn_CFG_CLR) (h.ownW (not_carryCell_cfg n))]

theorem mem_foldKeys : n.val ∈ foldKeys s ↔ s.sett.sums.get n ≠ 0 ∨ s.ownB F.SETT_ACCn_CFG_CLR n = true := by
  simp [foldKeys, n.isLt]

/-- What step 1 makes of an accumulator that a fold changes, the fold leaves. -/
theorem foldBegin_of_mem {p : AccView → Prop} (hk : n.val ∈ foldKeys s)
    (h : ∀ t : State, t.acc n = (foldFinish s).acc n → p ((foldFirst t n).acc n)) : p ((foldBegin s).acc n) :=
  foldl_region (pre := fun t => t.acc n = (foldFinish s).acc n) (post := fun t => p (t.acc n)) (List.nodup_range.filter _) hk
    (fun t _ _ hq ht => (foldFirst_ne t hq.symm).trans ht) h
    (fun t _ _ hq ht => by rw [foldFirst_ne t hq.symm]; exact ht) rfl

theorem foldBegin_of_not_mem (hk : n.val ∉ foldKeys s) : (foldBegin s).acc n = (foldFinish s).acc n :=
  List.foldlRecOn (motive := fun t => State.acc t n = (foldFinish s).acc n) _ _ rfl fun t ht q hq =>
    (foldFirst_ne t fun e : n.val = q => hk (by rw [e]; exact hq)).trans ht

/-- CLR is a field of an accumulator's words. -/
theorem clr_congr {s t : State} (h : t.acc n = s.acc n) : t.ownB F.SETT_ACCn_CFG_CLR n = s.ownB F.SETT_ACCn_CFG_CLR n := by
  simp only [State.acc, AccView.mk.injEq] at h
  obtain ⟨-, -, -, -, hcfg⟩ := h
  rw [State.ownB, State.ownB, own_congr (f := F.SETT_ACCn_CFG_CLR) hcfg]

theorem energyFold_ends (hb : s.sett.brownOut = false) (hc : s.ownB F.SETT_ACCn_CFG_CLR n = false) :
    Ends (execEnergyFold s) fun t => t.ownW R.SETT_ACCn_C0 n = s.ownW R.SETT_ACCn_C0 n + BitVec.ofNat 32 (s.sett.sums.get n) ∧
      t.sett.sums.get n = 0 := by
  apply ends_of_ending
  rw [if_neg (by simp [hb]), ending_ownW, ending_sett]
  obtain ⟨hsum, h0, hclr⟩ := foldFinish_acc s n
  by_cases hk : n.val ∈ foldKeys s
  · refine foldBegin_of_mem
      (p := fun x => x.c0 = s.ownW R.SETT_ACCn_C0 n + BitVec.ofNat 32 (s.sett.sums.get n) ∧ x.sum = 0) hk fun t ht => ?_
    have hadd := foldFirst_add ((clr_congr ht).trans (hclr.trans hc))
    simp only [State.acc, AccView.mk.injEq] at ht
    obtain ⟨hts, ht0, -⟩ := ht
    rw [ht0, hts, h0, hsum] at hadd
    exact hadd
  · have hz : s.sett.sums.get n = 0 := by
      by_contra hne
      exact hk (mem_foldKeys.2 (Or.inl hne))
    have hn := foldBegin_of_not_mem hk
    simp only [State.acc, AccView.mk.injEq] at hn
    obtain ⟨hns, hn0, -⟩ := hn
    rw [hn0, hns, h0, hsum, hz]
    simp

theorem energyFold_clear_ends (hb : s.sett.brownOut = false) (hc : s.ownB F.SETT_ACCn_CFG_CLR n = true) :
    Ends (execEnergyFold s) fun t => t.ownW R.SETT_ACCn_C0 n = 0 ∧ t.ownW R.SETT_ACCn_C1 n = 0 ∧ t.ownW R.SETT_ACCn_C2 n = 0 ∧
      t.ownB F.SETT_ACCn_CFG_CLR n = false := by
  apply ends_of_ending
  rw [if_neg (by simp [hb]), ending_ownW, ending_ownW, ending_ownW, ending_ownB]
  obtain ⟨-, -, hclr⟩ := foldFinish_acc s n
  refine foldBegin_of_mem (p := fun x => x.c0 = 0 ∧ x.c1 = 0 ∧ x.c2 = 0 ∧ (fOf x.cfg F.SETT_ACCn_CFG_CLR != 0) = false)
    (mem_foldKeys.2 (Or.inr hc)) fun t ht => ?_
  exact foldFirst_clear ((clr_congr ht).trans (hclr.trans hc))

/-! ### Reads and telemetry -/

/-- The one enabled accumulator. -/
theorem enabled_one (h : ∀ m : Fin 128, s.ownB F.SETT_ACCn_CFG_EN m = decide (m = n)) :
    ((List.range 128).filter fun m => s.ownB F.SETT_ACCn_CFG_EN m) = [n.val] := by
  have hf : (List.range 128).filter (fun m => s.ownB F.SETT_ACCn_CFG_EN m) = (List.range 128).filter (fun m => m == n.val) :=
    List.filter_congr fun m hm => by
      rw [show m = ((⟨m, List.mem_range.1 hm⟩ : Fin 128) : Nat) from rfl, h]
      simp [Fin.ext_iff, Bool.beq_eq_decide_eq]
  rw [hf, List.filter_beq, List.count_eq_one_of_mem List.nodup_range (List.mem_range.2 n.isLt)]
  rfl

/-- A record that nothing drops waits at its source interface. -/
theorem produce_waits {s : State} {i : Item} (hd : sourceDrop s i.cls i.flow = 0) (ha : flowAccepted s i.flow = false) :
    (s.produce i).spoor.srcQ.get i.src.key =
      s.spoor.srcQ.get i.src.key ++ [{ i with prio := if i.flow = 0 then 0 else (s.flow i.flow).prio }] := by
  unfold State.produce
  rw [hd]
  simp only [ha, Bool.false_and, Bool.false_eq_true, if_false]
  exact Tab.get_set_self _ _ _

theorem energyTelemetry_ends {f : Nat} (hb : s.sett.brownOut = false) (ht : s.ownB F.SETT_ACC_CTRL_TEL_EN 0 = true)
    (hn : ∀ m : Fin 128, s.ownB F.SETT_ACCn_CFG_EN m = decide (m = n)) (hf : s.own F.SETT_ACC_CTRL_FLOW 0 = f)
    (hd : sourceDrop s 2 f = 0) (ha : flowAccepted s f = false) :
    Ends (execEnergyTelemetry s) fun t => t.spoor.srcQ.get settSrc.key = s.spoor.srcQ.get settSrc.key ++
      [{ energyRecord s n with prio := if f = 0 then 0 else (s.flow f).prio }] := by
  apply ends_of_ending
  subst hf
  rw [hb, ht, enabled_one hn, ending_spoor]
  exact produce_waits (i := energyRecord s n) hd ha

theorem accC0Read_ends {a : Reader} (hr : reaches s a R.SETT_ACCn_C0.off = true)
    (hv : s.ownB F.SETT_ACC_STAT_ENERGY_VALID 0 = true) (hn : s.sett.folds.get n = ⟨none, false⟩) :
    Ends (execAccC0Read a n s) fun t => t.resp.get a.code = some ((s.ownW R.SETT_ACCn_C0 n).setWidth 64) ∧
      t.hold.get (accKey a (R.SETT_ACCn_C1.addr 0 n)) = some (s.ownW R.SETT_ACCn_C1 n) ∧
      t.hold.get (accKey a (R.SETT_ACCn_C2.addr 0 n)) = some (s.ownW R.SETT_ACCn_C2 n) := by
  have hc : accCells s n = (s.ownW R.SETT_ACCn_C0 n, s.ownW R.SETT_ACCn_C1 n, s.ownW R.SETT_ACCn_C2 n) := by
    rw [accCells, if_pos hv, hn]
    have h1 := (s.ownW R.SETT_ACCn_C1 n).isLt
    simp [Nat.div_eq_of_lt h1]
  have hk1 : accKey a (R.SETT_ACCn_C1.addr 0 n) = a.code * 2 ^ 25 + R.SETT_ACCn_C0.addr 0 n + 4 := by
    simp only [accKey, Reg.addr, R.SETT_ACCn_C0, R.SETT_ACCn_C1]
    omega
  have hk2 : accKey a (R.SETT_ACCn_C2.addr 0 n) = a.code * 2 ^ 25 + R.SETT_ACCn_C0.addr 0 n + 8 := by
    simp only [accKey, Reg.addr, R.SETT_ACCn_C0, R.SETT_ACCn_C2]
    omega
  apply ends_of_ending
  rw [State.byPath, if_pos hr, ending_resp, ending_hold, answer_resp, accRead, hc, hk1, hk2]
  refine ⟨rfl, ?_, ?_⟩
  · exact (Tab.get_set_ne _ _ (by omega)).trans (Tab.get_set_self _ _ _)
  · exact Tab.get_set_self _ _ _
end

end Sys2Proof.Machine

/-! ## Wear, hub memory and the mirror of the Sett (R68, R508, R519 to R526) -/

namespace Sys2Proof.Machine

/-! ### The starts of substitutions leave the ledger's data -/

theorem migResult_sett (s : State) (b r c : Nat) : (migResult s b r c).sett = s.sett := by rw [migResult, sf_sett, sf_sett]
theorem chkResult_sett (s : State) (b r c : Nat) : (chkResult s b r c).sett = s.sett := by rw [chkResult, sf_sett, sf_sett]
theorem pgSubResult_sett (s : State) (b r c : Nat) : (pgSubResult s b r c).sett = s.sett := by rw [pgSubResult, sf_sett, sf_sett]
theorem laneResult_sett (s : State) (b r c : Nat) : (laneResult s b r c).sett = s.sett := by rw [laneResult, sf_sett, sf_sett]
theorem rlResult_sett (s : State) (b r c : Nat) : (rlResult s b r c).sett = s.sett := by rw [rlResult, sf_sett, sf_sett]

section
variable (s : State)

theorem migStart_lasting (r k n : Nat) : (migStart s r k n false).sett.lasting = s.sett.lasting := by
  unfold migStart
  extract_lets b no t c s2
  split_ifs
  · rw [migResult_sett]; rfl
  · rw [migResult_sett]; rfl
  · rw [migResult_sett]; rfl
  · rw [migResult_sett, sf_sett]
    refine (useSpare_lasting _ 0 r k 0).trans ?_
    rw [sb_sett, sf_sett, wr_sett]
  · rw [migResult_sett, sf_sett, sf_sett]
    rfl

theorem chkStart_sett (r k m : Nat) (sub : Bool) : (chkStart s r k m sub).sett = s.sett := by
  unfold chkStart
  split
  · rw [chkGo, setCmp_sett, sf_sett, sf_sett, chkResult_sett, setCmp_sett]
  · exact chkResult_sett _ _ _ _

theorem pgSubStart_lasting (r c : Nat) : (pgSubStart s r c).sett.lasting = s.sett.lasting := by
  unfold pgSubStart
  extract_lets b s2
  split_ifs
  · rw [pgSubResult_sett]
  · rw [pgSubResult_sett]
  · rw [pgSubResult_sett]
  · rw [pgSubResult_sett]
    refine (useSpare_lasting _ 3 r c 0).trans ?_
    rw [sb_sett, sf_sett]
  · have h2 : s2.sett = s.sett := (sf_sett _ _ _ _ _).trans (pgSubResult_sett _ _ _ _)
    dsimp only
    rw [h2]

theorem laneStart_sett (r l : Nat) : (laneStart s r l).sett = s.sett := by
  unfold laneStart
  extract_lets b x
  split_ifs
  · exact laneResult_sett _ _ _ _
  · exact laneResult_sett _ _ _ _
  · exact laneResult_sett _ _ _ _
  · exact (sf_sett _ _ _ _ _).trans ((setEng_sett _ _ _).trans (laneResult_sett _ _ _ _))

theorem rlStart_sett (r kind t : Nat) : (rlStart s r kind t).sett = s.sett := by
  unfold rlStart
  split
  · exact rlResult_sett _ _ _ _
  · next sp _ =>
    extract_lets src s1
    have h1 : s1.sett = s.sett := (sf_sett _ _ _ _ _).trans (rlResult_sett _ _ _ _)
    split_ifs
    · exact rlResult_sett _ _ _ _
    · exact rlResult_sett _ _ _ _
    · exact rlResult_sett _ _ _ _
    · split
      · exact (emit_sett _ _).trans h1
      · exact h1
    · exact h1

/-- What R520 makes of a unit that crosses 80 % leaves the ledger's data. -/
theorem wearAct_lasting (r : Rgn) (blk unit : Nat) : (wearAct s r blk unit).sett.lasting = s.sett.lasting := by
  unfold wearAct
  extract_lets n warn kind
  have hw : ∀ k, (warn k).sett.lasting = s.sett.lasting := fun k => (alarm_raise s settSrc 0x167 _).alarm_lasting
  have hc : ∀ p : Prop, [Decidable p] → ∀ a k, a.sett.lasting = s.sett.lasting →
      (if p then a else warn k).sett.lasting = s.sett.lasting := by
    intro p _ a k ha
    split
    · exact ha
    · exact hw k
  by_cases h12 : blk < 12
  · rw [if_pos h12]
    split
    · exact hc _ _ _ (migStart_lasting s _ _ _)
    · exact hc _ _ _ (congrArg _ (chkStart_sett s _ _ _ _))
  rw [if_neg h12]
  by_cases h16 : blk < 16
  · rw [if_pos h16]
    exact hw 2
  rw [if_neg h16]
  split
  · exact hc _ _ _ (pgSubStart_lasting s _ _)
  · split
    · exact hc _ _ _ (congrArg _ (laneStart_sett s _ _))
    · exact hc _ _ _ (congrArg _ (rlStart_sett s _ _ _))
end

/-! ### Wear, the projected life and the ledger -/

section
variable {s : State} {r : Rgn} {blk : Fin 64} {index : Nat} {unit : Fin 128}

theorem wear_of_lasting {x y : SettS} (h : y.lasting = x.lasting) : y.wear = x.wear := by
  simp only [SettS.lasting, Prod.mk.injEq] at h
  obtain ⟨-, hw, -⟩ := h
  exact hw

theorem wearSample_ends (hk : blk.val < 22) (hb : s.sett.brownOut = false) :
    Ends (execWearSample r blk index unit s) fun t => t.sett.wear.get (wearKey r blk) = index := by
  unfold execWearSample
  extract_lets k old hour last act bin src s1
  apply ends_of_ending
  rw [if_neg (by rw [hb]; simp; omega), ending_sett]
  have h1 : s1.sett.wear.get k = index :=
    (congrArg (·.get k) (wear_of_lasting (ledgerChanged_lasting _))).trans (Tab.get_set_self s.sett.wear k index)
  split
  · rw [wear_of_lasting (wearAct_lasting s1 r _ _)]
    exact h1
  · exact h1

/-- A converter group that crosses 80 % for the first time in 24 hours is warned of. -/
theorem wearSample_warns_ends (hk : 12 ≤ blk.val ∧ blk.val < 16) (hb : s.sett.brownOut = false)
    (hx : s.sett.wear.get (wearKey r blk) < 80 ∧ 80 ≤ index ∧ s.sett.wearAt.get (wearKey r blk) = 0) :
    Ends (execWearSample r blk index unit s) fun t => (t.spoor.slots.get (slotKey settSrc 0x167 0)).isSome = true := by
  obtain ⟨hlo, hhi⟩ := hk
  obtain ⟨hold, hnew, hat⟩ := hx
  unfold execWearSample
  extract_lets k old hour last act bin src s1
  have hact : act = true := by
    have h1 : old < 80 := hold
    have h2 : last = 0 := hat
    simp [act, h1, h2, hnew]
  apply ends_of_ending
  rw [if_neg (by rw [hb]; simp; omega), ending_spoor]
  rw [if_pos hact, wearAct]
  extract_lets n
  rw [if_neg (by omega), if_pos hhi]
  exact raise_slot s1 settSrc 0x167 _

/-- The Sett's registers that the ledger and R525 leave. -/
theorem Within.worn_ownW {s t : State} (h : Within wornScope s t) {r : Reg} {n : Nat}
    (hr : r.addr 0 n ∉ [R.SETT_LOG_WP.addr 0 0, R.SETT_DEGR.addr 0 0, R.SETT_EVT.addr 0 0]) : t.ownW r n = s.ownW r n := by
  refine (h.own _).resolve_right ?_
  rintro ⟨x, hx, hc⟩
  have hone : ∀ q ∈ [R.SETT_LOG_WP, R.SETT_DEGR, R.SETT_EVT], (Spot.one q 0 0).covers .sett (r.addr 0 n) →
      r.addr 0 n = q.addr 0 0 := by
    intro q hq ha
    have hw : ∀ q ∈ [R.SETT_LOG_WP, R.SETT_DEGR, R.SETT_EVT], q.words 0 0 = [q.addr 0 0] := by decide
    exact List.mem_singleton.1 (hw q hq ▸ ha.2)
  simp only [wornScope, logS, degrS, List.mem_cons, List.not_mem_nil, or_false] at hx
  obtain rfl | rfl | rfl := hx <;> exact hr (by rw [hone _ (by decide) hc]; decide)

theorem lifeProjection_ends (months : Fin 65536) (hb : s.sett.brownOut = false) :
    Ends (execLifeProjection months s) fun t => t.own F.SETT_LIFE_MONTHS 0 = months.val ∧
      (t.own F.SETT_DEGR_COND 0).testBit 2 = decide (months.val < s.own F.SETT_THR_LIFE 0) := by
  apply ends_of_ending
  rw [if_neg (by simp [hb]), ending_own, ending_own]
  refine ⟨?_, ?_⟩
  · rw [own_congr ((worn_ledgerChanged _).worn_ownW (by decide)), own_setOwn_self _ _ _ _ (by decide)]
    exact Nat.mod_eq_of_lt months.isLt
  · rw [State.ledgerChanged, evalDegraded_cond, (degrCond_spec _).2.2]
    refine congrArg₂ (fun x y => decide (x < y)) ?_ (own_setOwn_ne s _ (by decide))
    exact (own_setOwn_self s F.SETT_LIFE_MONTHS 0 _ (by decide)).trans (Nat.mod_eq_of_lt months.isLt)

theorem ledgerMirror_ends (hh : hubOn s = true) (hb : s.sett.brownOut = false) (hm : s.sett.mirror = none) :
    Ends (execLedgerMirror s) fun t => t.sett.mirror = some false ∧ t.cfg.jobs = s.cfg.jobs ++ [FlJob.ledger] := by
  apply ends_of_ending
  rw [if_pos ⟨hh, hm, hb⟩, ending_sett, ending_cfg]
  exact ⟨rfl, rfl⟩

theorem replaceRepeat_ends (hd : degraded s = true) (hb : s.sett.brownOut = false) :
    Ends (execReplaceRepeat s) fun t => (t.spoor.slots.get (slotKey settSrc 0x160 0)).isSome = true := by
  apply ends_of_ending
  rw [if_pos ⟨hd, hb⟩, ending_spoor]
  exact raise_slot s settSrc 0x160 _
end

/-! ### Hub memory -/

/-- A permanent failure is kept in the ledger, and leaves its other data. -/
theorem failPermanent_lasting (s : State) : s.failPermanent.sett.lasting = { s.sett with degrPerm := true }.lasting :=
  evalDegraded_lasting _

/-- What a retirement does: nothing to a retired row or column, a permanent failure without a spare, else the spare's use. -/
theorem retire_cases (s : State) (kind n : Nat) : (s.sett.retired.get (2 * n + (kind - 8)) ≠ 0 ∧ retire s kind n = s) ∨
    (s.sett.retired.get (2 * n + (kind - 8)) = 0 ∧ s.own F.SETT_SPAREk_FREE kind = 0 ∧ retire s kind n = s.failPermanent) ∨
    (s.sett.retired.get (2 * n + (kind - 8)) = 0 ∧ s.own F.SETT_SPAREk_FREE kind ≠ 0 ∧ (retire s kind n).sett.lasting =
      { s.sett with
        retired := s.sett.retired.set (2 * n + (kind - 8)) 1
        rowErr := if kind = 8 then s.sett.rowErr.set n 0 else s.sett.rowErr }.lasting) := by
  unfold retire
  extract_lets key
  split
  · next h => exact Or.inl ⟨h, rfl⟩
  · next h =>
    split
    · next h' => exact Or.inr (Or.inl ⟨not_not.1 h, h', rfl⟩)
    · next h' => exact Or.inr (Or.inr ⟨not_not.1 h, h', useSpare_lasting _ kind 0 0 0⟩)

/-- A column's retirement leaves what is known of the rows. -/
theorem retire_column (s : State) (n row : Nat) : (retire s 9 n).sett.rowErr = s.sett.rowErr ∧
    (retire s 9 n).sett.retired.get (2 * row) = s.sett.retired.get (2 * row) := by
  obtain ⟨-, h⟩ | ⟨-, -, h⟩ | ⟨-, -, h⟩ := retire_cases s 9 n
  · rw [h]
    exact ⟨rfl, rfl⟩
  · have hl := failPermanent_lasting s
    simp only [SettS.lasting, Prod.mk.injEq] at hl
    obtain ⟨-, -, -, -, he, hr⟩ := hl
    rw [h, he, hr]
    exact ⟨rfl, rfl⟩
  · simp only [SettS.lasting, Prod.mk.injEq] at h
    obtain ⟨-, -, -, -, he, hr⟩ := h
    rw [he, hr, Tab.get_set_ne _ _ (by omega)]
    exact ⟨rfl, rfl⟩

/-- A row with a free spare is retired. -/
theorem retire_row {s : State} {row : Nat} (h0 : s.sett.retired.get (2 * row) = 0) (hs : s.own F.SETT_SPAREk_FREE 8 ≠ 0) :
    (retire s 8 row).sett.retired.get (2 * row) = 1 := by
  obtain ⟨h, -⟩ | ⟨-, h, -⟩ | ⟨-, -, h⟩ := retire_cases s 8 row
  · exact absurd h0 h
  · exact absurd h hs
  · simp only [SettS.lasting, Prod.mk.injEq] at h
    obtain ⟨-, -, -, -, -, hr⟩ := h
    rw [hr]
    exact Tab.get_set_self _ _ _

theorem scrub_counts_ends {s : State} {row : Nat} (col : Nat) (word : Fin 2097152) (h : s.sett.rowErr.get row + 1 < 3) :
    Ends (execHubMemoryScrub row col word .corrected s) fun t => t.sett.rowErr.get row = s.sett.rowErr.get row + 1 := by
  unfold execHubMemoryScrub
  dsimp -zeta only
  extract_lets k rows rows1 src s1 s2
  apply ends_of_ending
  rw [ending_sett]
  have h2 : s2 = s1 := if_neg (by omega)
  rw [h2]
  split
  · rw [(retire_column _ col row).1]
    exact Tab.get_set_self _ _ _
  · exact Tab.get_set_self _ _ _

theorem scrub_retires_ends {s : State} {row : Nat} (col : Nat) (word : Fin 2097152) (h : 3 ≤ s.sett.rowErr.get row + 1)
    (h0 : s.sett.retired.get (2 * row) = 0) (hs : s.own F.SETT_SPAREk_FREE 8 ≠ 0) :
    Ends (execHubMemoryScrub row col word .corrected s) fun t => t.sett.retired.get (2 * row) = 1 := by
  unfold execHubMemoryScrub
  dsimp -zeta only
  extract_lets k rows rows1 src s1 s2
  apply ends_of_ending
  rw [ending_sett]
  have h2 : s2 = retire s1 8 row := if_pos h
  rw [h2]
  split
  · rw [(retire_column _ col row).2]
    exact retire_row h0 hs
  · exact retire_row h0 hs

theorem scrub_rowFails_ends {s : State} {row : Nat} (col : Nat) (word : Fin 2097152)
    (h0 : s.sett.retired.get (2 * row) = 0) (hs : s.own F.SETT_SPAREk_FREE 8 = 0) :
    Ends (execHubMemoryScrub row col word .rowFails s) fun t => t.sett.degrPerm = true ∧
      (t.own F.SETT_DEGR_COND 0).testBit 0 = true ∧ t.sett.retired = s.sett.retired := by
  apply ends_of_ending
  rw [ending_sett, ending_own]
  obtain ⟨h, -⟩ | ⟨-, -, h⟩ | ⟨-, h, -⟩ := retire_cases s 8 row
  · exact absurd h0 h
  · have hl := failPermanent_lasting s
    simp only [SettS.lasting, Prod.mk.injEq] at hl
    obtain ⟨hp, -, -, -, -, hr⟩ := hl
    dsimp only
    rw [h, hp, hr]
    refine ⟨rfl, ?_, rfl⟩
    rw [State.failPermanent, evalDegraded_cond, (degrCond_spec _).2.1]
  · exact absurd hs h

/-! ### A Sett cycle and the mirror -/

/-- The next value of SETT_RTC. -/
def rtcNext (s : State) : DWord := DWord.ofHalves (s.rtc + 1).lo ((s.rtc + 1).hi &&& 0xFFFF)

/-- Two halves, the high one cut to 16 bits, are 48 bits. -/
theorem halves48_toNat (d : DWord) : (DWord.ofHalves d.lo (d.hi &&& 0xFFFF)).toNat = d.toNat % 2 ^ 48 := by
  have hand : (d.hi &&& 0xFFFF).toNat = d.toNat / 2 ^ 32 % 2 ^ 16 := by
    rw [BitVec.toNat_and, show (0xFFFF : Word).toNat = 2 ^ 16 - 1 from rfl, Nat.and_two_pow_sub_one_eq_mod, DWord.hi,
      BitVec.toNat_setWidth, BitVec.toNat_ushiftRight, Nat.shiftRight_eq_div_pow]
    omega
  have hlo : d.lo.toNat = d.toNat % 2 ^ 32 := BitVec.toNat_setWidth _ _
  rw [DWord.ofHalves, BitVec.toNat_append, ← Nat.shiftLeft_add_eq_or_of_lt d.lo.isLt, Nat.shiftLeft_eq, hand, hlo]
  omega

theorem rtcNext_toNat (s : State) : (rtcNext s).toNat = (s.rtc.toNat + 1) % 2 ^ 48 := by
  rw [rtcNext, halves48_toNat, BitVec.toNat_add]
  show (s.rtc.toNat + 1) % 2 ^ 64 % 2 ^ 48 = _
  omega

theorem countHour_spec (s : State) : (∃ o d, countHour s = { s with sett := { s.sett with own := o, dirty := d } }) ∧
    ∀ a, a ≠ R.SETT_HOURS.addr 0 0 → (countHour s).sett.own.get a = s.sett.own.get a := by
  unfold countHour
  split
  · exact ⟨⟨_, _, rfl⟩, fun _ ha => Tab.get_set_ne _ _ ha⟩
  · exact ⟨⟨s.sett.own, s.sett.dirty, rfl⟩, fun _ _ => rfl⟩

/-- What a Sett cycle leaves: SETT_RTC one on, SETT_DEGR and all but SETT_HOURS, the accumulators' cells and the ledger's mark as
they were. -/
structure Cycled (s t : State) : Prop where
  frame : ∃ o f d, t = { s with sett := { s.sett with own := o, folds := f, dirty := d } }
  rtc : t.rtc = rtcNext s
  degr : t.ownW R.SETT_DEGR 0 = s.ownW R.SETT_DEGR 0

/-- The state in which a Sett cycle has counted. -/
def rtcCounted (s : State) : State :=
  { s with sett := { s.sett with own := (s.sett.own.set 0x100020 (rtcNext s).lo).set 0x100024 (rtcNext s).hi } }

theorem settCycle_eq (s : State) : settCycle s = countHour (foldStep (rtcCounted s)) := rfl

theorem settCycle_spec (s : State) : Cycled s (settCycle s) := by
  rw [settCycle_eq]
  obtain ⟨⟨o, f, hf⟩, hown⟩ := carries_foldStep (rtcCounted s)
  obtain ⟨⟨o', d, hd⟩, hown'⟩ := countHour_spec (foldStep (rtcCounted s))
  have hkeep : ∀ a, a < 0x101000 ∧ a ≠ R.SETT_HOURS.addr 0 0 →
      (countHour (foldStep (rtcCounted s))).sett.own.get a = (rtcCounted s).sett.own.get a :=
    fun a ha => (hown' a ha.2).trans (hown a fun hc => absurd hc.1 (by omega))
  have hlo : (rtcCounted s).sett.own.get 0x100020 = (rtcNext s).lo :=
    (Tab.get_set_ne _ _ (by decide)).trans (Tab.get_set_self _ _ _)
  have hhi : (rtcCounted s).sett.own.get 0x100024 = (rtcNext s).hi := Tab.get_set_self _ _ _
  refine ⟨⟨o', f, d, by rw [hd, hf]; rfl⟩, ?_, ?_⟩
  · rw [State.rtc, hkeep _ (by decide), hkeep _ (by decide), hlo, hhi, ofHalves_lo_hi]
  · refine (hkeep (R.SETT_DEGR.addr 0 0) (by decide)).trans ?_
    exact (Tab.get_set_ne _ _ (by decide)).trans (Tab.get_set_ne _ _ (by decide))

/-- The mode follows from what no Sett cycle changes. -/
theorem Cycled.modeCode {s t : State} (h : Cycled s t) : modeCode t = modeCode s := by
  have hd : degraded t = degraded s := by
    rw [degraded, degraded, own_congr (f := F.SETT_DEGR_COND) h.degr]
  obtain ⟨o, f, d, ht⟩ := h.frame
  have hs : someTorpor t = someTorpor s := by rw [ht]; rfl
  simp only [Machine.modeCode, hd, hs]
  rw [ht]
  rfl

theorem modeCode_lt (s : State) : modeCode s < 16 := by
  unfold modeCode
  split
  · decide
  · split
    · decide
    · decide
    · split_ifs <;> decide
    · decide

/-- SETT_MODE.MODE is the mode. -/
theorem modeWord_mode (s : State) : fOf (modeWord s) F.SETT_MODE_MODE = modeCode s := by
  have key : ∀ a b c d e f : Bool, ((if a then 2 ^ 13 else 0) + (if b then 2 ^ 12 else 0) + (if c then 2 ^ 11 else 0)
      + (if d then 2 ^ 10 else 0) + (if e then 2 ^ 9 else 0) + (if f then 2 ^ 8 else 0)) % 16 = 0 := by decide
  unfold modeWord
  extract_lets frozen flags
  have hf : flags % 16 = 0 := key _ _ _ _ _ _
  have hm := modeCode_lt s
  show (BitVec.ofNat 32 (frozen * 2 ^ 16 + flags + modeCode s)).toNat / 2 ^ 0 % 2 ^ 4 = modeCode s
  rw [BitVec.toNat_ofNat]
  omega

section
variable {s : State}

theorem settMirrorRefresh_ends (hb : s.sett.brownOut = false) (hw : s.sett.writes = []) :
    Ends (execSettMirrorRefresh s) fun t => t.rtc.toNat = (s.rtc.toNat + 1) % 2 ^ 48 ∧ t.gf F.SETT_MODE_MODE 0 = modeCode s ∧
      t.regs.sett = t.sett.own := by
  unfold execSettMirrorRefresh
  rw [if_neg (by simp [hb])]
  extract_lets s0 s1
  have hc := settCycle_spec s
  have hw1 : s1.sett.writes = [] := by
    obtain ⟨o, f, d, h⟩ := hc.frame
    rw [show s1.sett.writes = s0.sett.writes from rfl, show s0 = _ from h]
    exact hw
  apply ends_of_ending
  simp only [hw1, List.foldl_nil]
  rw [ending_regs, State.rtc, ending_sett, ending_gf]
  refine ⟨?_, ?_, rfl⟩
  · rw [← rtcNext_toNat, ← hc.rtc]
    exact congrArg₂ (fun x y => (DWord.ofHalves x y).toNat) (Tab.get_set_ne _ _ (by decide)) (Tab.get_set_ne _ _ (by decide))
  · refine (congrArg (fOf · F.SETT_MODE_MODE) (Tab.get_set_self s0.sett.own (R.SETT_MODE.addr 0 0) (modeWord s0))).trans ?_
    rw [modeWord_mode, hc.modeCode]

theorem settMirrorApply_ends {a : Nat} {v : Word} {l : List (Nat × Word)} (hb : s.sett.brownOut = false)
    (hw : s.sett.writes = (a, v) :: l) (hc : a ≠ R.SETT_CMD.addr 0 0 ∧ a ≠ R.SETT_THR.addr 0 0)
    (hp : a < R.SETT_PWRk.addr 0 0 ∨ R.SETT_PWRk.addr 0 3 < a) :
    Ends (execSettMirrorApply s) fun t => t.sett.writes = l ∧
      t.sett.own.get a = mergeFields (s.ownB F.SETT_CTRL_LOCK) (settFields a) (s.sett.own.get a) v := by
  obtain ⟨hcmd, hthr⟩ := hc
  apply ends_of_ending
  rw [hw, ending_sett]
  dsimp only
  rw [if_neg (by simp [hb, hcmd]), settTake]
  extract_lets s1
  rw [if_neg (by simp [hcmd]), if_neg hthr, if_neg (by omega)]
  exact ⟨rfl, Tab.get_set_self _ _ _⟩

theorem settMirrorApply_waits_ends {v : Word} {l : List (Nat × Word)} (hw : s.sett.writes = (R.SETT_CMD.addr 0 0, v) :: l)
    (hv : v.bit 31 = true) (hs : s.ownB F.SETT_CMD_START = true) : Ends (execSettMirrorApply s) fun t => t.sett = s.sett := by
  apply ends_of_ending
  rw [hw, ending_sett]
  dsimp only
  rw [if_pos (by simp [hv, hs])]
end

/-- Settles O46: what folds, reads, wear, the ledger, hub memory's errors and the Sett's cycles and writes leave. -/
theorem energyWearAndMirror : Obligations.EnergyWearAndMirror :=
  ⟨fun _ _ ⟨hb, hc⟩ => energyFold_ends hb hc,
   fun _ _ ⟨hb, hc⟩ => energyFold_clear_ends hb hc,
   fun _ _ _ ⟨hb, ht⟩ hn hf ⟨hd, ha⟩ => energyTelemetry_ends hb ht hn hf hd ha,
   fun _ _ _ hr hv hn => accC0Read_ends hr hv hn,
   fun _ _ _ _ _ ⟨hk, hb⟩ => wearSample_ends hk hb,
   fun _ _ _ _ _ ⟨hlo, hhi, hb⟩ hx => wearSample_warns_ends ⟨hlo, hhi⟩ hb hx,
   fun _ months hb => lifeProjection_ends months hb,
   fun _ ⟨hh, hb⟩ hm => ledgerMirror_ends hh hb hm,
   fun _ ⟨hd, hb⟩ => replaceRepeat_ends hd hb,
   fun _ _ col word h => scrub_counts_ends col word h,
   fun _ _ col word h ⟨h0, hs⟩ => scrub_retires_ends col word h h0 hs,
   fun _ _ col word ⟨h0, hs⟩ => scrub_rowFails_ends col word h0 hs,
   fun _ hb hw => settMirrorRefresh_ends hb hw,
   fun _ _ _ _ hb hw ⟨hc, ht, hp⟩ => settMirrorApply_ends hb hw ⟨hc, ht⟩ hp,
   fun _ _ _ _ hw ⟨hv, hs⟩ => settMirrorApply_waits_ends hw hv hs⟩

end Sys2Proof.Machine

/-! ## Flip-flops of a fabric: what a reset and an edge of a tree make of them (R281, R282, R289 to R291) -/

namespace Sys2Proof.Machine

/-! ### Words of bits -/

theorem sum_bits_succ (n : Nat) (p : Nat → Bool) : ((List.range (n + 1)).map fun j => if p j then 2 ^ j else 0).sum =
    ((List.range n).map fun j => if p j then 2 ^ j else 0).sum + if p n then 2 ^ n else 0 := by
  rw [List.range_succ, List.map_append, List.sum_append]
  simp

theorem sum_bits_lt (n : Nat) (p : Nat → Bool) : ((List.range n).map fun j => if p j then 2 ^ j else 0).sum < 2 ^ n := by
  induction n with
  | zero => exact Nat.one_pos
  | succ n ih =>
    rw [sum_bits_succ, Nat.pow_succ]
    split <;> omega

/-- A sum of powers of two has the bits of its terms. -/
theorem sum_bits_testBit (n : Nat) (p : Nat → Bool) (i : Nat) :
    (((List.range n).map fun j => if p j then 2 ^ j else 0).sum).testBit i = (decide (i < n) && p i) := by
  induction n with
  | zero => simp
  | succ n ih =>
    have hlt := sum_bits_lt n p
    rw [sum_bits_succ]
    generalize ((List.range n).map fun j => if p j then 2 ^ j else 0).sum = x at ih hlt ⊢
    obtain h | h | h := Nat.lt_trichotomy i n
    · have hx : (x + if p n then 2 ^ n else 0).testBit i = x.testBit i := by
        split
        · rw [Nat.add_comm, Nat.testBit_two_pow_add_gt h]
        · rfl
      rw [hx, ih]
      simp [h, Nat.lt_succ_of_lt h]
    · subst h
      have hx : x.testBit i = false := Nat.testBit_lt_two_pow hlt
      split
      · next hp => rw [Nat.add_comm, Nat.testBit_two_pow_add_eq, hx, hp]; simp
      · next hp => simpa [hp] using hx
    · have hx : (x + if p n then 2 ^ n else 0) < 2 ^ i := by
        have := Nat.pow_le_pow_right (show 0 < 2 by decide) h
        rw [Nat.pow_succ] at this
        split <;> omega
      rw [Nat.testBit_lt_two_pow hx]
      simp [Nat.not_lt.2 h]

theorem wordOf_getLsbD (p : Nat → Bool) {j : Nat} (h : j < 32) : (wordOf p).getLsbD j = p j := by
  rw [wordOf, BitVec.getLsbD_ofNat, sum_bits_testBit]
  simp [h]

/-- A word put through a mask shows, in the mask's part, the word that it takes there. -/
theorem masked_and {a b n p : Word} (h : ∀ i, p.getLsbD i = true → n.getLsbD i = true) :
    ((a &&& ~~~ n) ||| (b &&& n)) &&& p = b &&& p := by
  refine BitVec.eq_of_getLsbD_eq fun i hi => ?_
  have hn := h i
  simp only [BitVec.getLsbD_and, BitVec.getLsbD_or, BitVec.getLsbD_not, hi, decide_true, Bool.true_and]
  cases hp : p.getLsbD i
  · simp
  · simp [hn hp]

/-! ### Folds that touch each key once -/

/-- A fold that brings a fact about one of its items at that item's step, and keeps it and what it needs at the others. -/
theorem foldl_once {β : Type} {f : β → Nat → β} {l : List Nat} {i : Nat} {pre post : β → Prop} (hn : l.Nodup) (hi : i ∈ l)
    (hpre : ∀ y q, q ≠ i → pre y → pre (f y q)) (hat : ∀ y, pre y → post (f y i)) (hpost : ∀ y q, q ≠ i → post y → post (f y q))
    {y : β} (h : pre y) : post (l.foldl f y) := by
  induction l generalizing y with
  | nil => exact absurd hi List.not_mem_nil
  | cons q l ih =>
    obtain ⟨hq, hl⟩ := List.nodup_cons.1 hn
    obtain rfl | hi := List.mem_cons.1 hi
    · exact List.foldlRecOn (motive := post) l _ (hat y h) fun z hz q' hq' => hpost z q' (fun e => hq (e ▸ hq')) hz
    · exact ih hl hi (hpre y q (fun e => hq (e ▸ hi)) h)

/-- What a fold that replaces the entries of its keys leaves at a key. -/
theorem Tab.get_foldl_set {α : Type} [DecidableEq α] {d : Nat → α} {l : List Nat} {i : Nat} (f : Nat → α → α) (hn : l.Nodup)
    (hi : i ∈ l) (t : Tab α d) : (l.foldl (fun t q => t.set q (f q (t.get q))) t).get i = f i (t.get i) :=
  foldl_once (pre := fun u : Tab α d => u.get i = t.get i) (post := fun u : Tab α d => u.get i = f i (t.get i)) hn hi
    (fun _ _ hq h => (Tab.get_set_ne _ _ hq.symm).trans h) (fun u h => by rw [Tab.get_set_self, h])
    (fun _ _ hq h => (Tab.get_set_ne _ _ hq.symm).trans h) rfl

/-! ### What follows from the image alone -/

theorem fab_setFab_ne (s : State) {q r : Nat} (h : r ≠ q) (x : FabS) : (s.setFab q x).fab r = s.fab r := Tab.get_set_ne _ _ h

section
variable {s t : State} (h : t.img = s.img) (r c : Nat)
include h

theorem imgWord_congr (o : Nat) : imgWord t r o = imgWord s r o := by rw [imgWord, imgWord, h]
theorem ffInit_congr : ffInit t r c = ffInit s r c := imgWord_congr h r _
theorem resetsUsed_congr : resetsUsed t r c = resetsUsed s r c := by simp only [resetsUsed, imgWord_congr h]
theorem ffResets_congr (k : Nat) : ffResets t r k c = ffResets s r k c := by
  simp only [ffResets, resetsUsed_congr h, imgWord_congr h]
theorem cellWord_congr (i j : Nat) : cellWord t r c i j = cellWord s r c i j := imgWord_congr h r _
theorem ffCode_congr (j : Nat) : ffCode t r c j = ffCode s r c j := by simp only [ffCode, cellWord_congr h]
theorem clusterClock_congr (n : Nat) : clusterClock t r c n = clusterClock s r c n := by
  simp only [clusterClock, imgWord_congr h]
end

/-! ### Global resets -/

/-- The flip-flops of a cluster that use one of some global resets. -/
def resetMask (s : State) (r ks c : Nat) : Word :=
  (resetsUsed s r c).foldl (fun m k => if ks.testBit k then m ||| ffResets s r k c else m) 0

/-- Those of them that are reset at once. -/
def resetNow (s : State) (r ks c : Nat) : Word := resetMask s r ks c &&& wordOf fun j => !(ffCode s r c j).testBit 6

theorem resetNow_congr {s t : State} (h : t.img = s.img) (r ks c : Nat) : resetNow t r ks c = resetNow s r ks c := by
  simp only [resetNow, resetMask, resetsUsed_congr h, ffResets_congr h, ffCode_congr h]

/-- A reset that has a flip-flop is among those its cluster uses. -/
theorem mem_resetsUsed {s : State} {r k c i : Nat} (h : (ffResets s r k c).getLsbD i = true) : k ∈ resetsUsed s r c := by
  by_contra hk
  rw [ffResets, if_neg hk] at h
  simp at h

/-- The resets that pulse have their flip-flops in the mask. -/
theorem resetMask_getLsbD {s : State} {r ks k c i : Nat} (hk : ks.testBit k = true) (h : (ffResets s r k c).getLsbD i = true) :
    (resetMask s r ks c).getLsbD i = true := by
  have keep : ∀ (m : Word) (q : Nat), m.getLsbD i = true →
      (if ks.testBit q then m ||| ffResets s r q c else m).getLsbD i = true := by
    intro m q hm
    split
    · simp [hm]
    · exact hm
  refine foldl_once (pre := fun _ => True) (post := fun m : Word => m.getLsbD i = true)
    ((List.nodup_range.filter _).sublist (List.take_sublist _ _)) (mem_resetsUsed h) (fun _ _ _ _ => trivial) (fun m _ => ?_)
    (fun m q _ hm => keep m q hm) trivial
  rw [if_pos hk, BitVec.getLsbD_or, h, Bool.or_true]

/-- What resets make of a cluster's flip-flops. -/
theorem ffReset_get (s : State) (r ks : Nat) {c : Nat} (hc : c < 96) : ((ffReset s r ks).fab r).ff.get c =
    ((s.fab r).ff.get c &&& ~~~ resetNow s r ks c) ||| (ffInit s r c &&& resetNow s r ks c) := by
  rw [ffReset, fab_setFab_self]
  exact Tab.get_foldl_set (fun c w => (w &&& ~~~ resetNow s r ks c) ||| (ffInit s r c &&& resetNow s r ks c)) List.nodup_range
    (List.mem_range.2 hc) _

/-- A reset that pulses puts its flip-flops, but the synchronously reset ones, at their initial values. -/
theorem ffReset_and {s : State} {r ks k : Nat} (c : Fin 96) (hk : ks.testBit k = true) :
    ((ffReset s r ks).fab r).ff.get c &&& (ffResets s r k c &&& wordOf fun j => !(ffCode s r c j).testBit 6) =
      ffInit s r c &&& (ffResets s r k c &&& wordOf fun j => !(ffCode s r c j).testBit 6) := by
  rw [ffReset_get s r ks c.isLt]
  refine masked_and fun i hi => ?_
  rw [BitVec.getLsbD_and, Bool.and_eq_true] at hi
  obtain ⟨hr, ha⟩ := hi
  rw [resetNow, BitVec.getLsbD_and, resetMask_getLsbD hk hr, ha]
  rfl

/-- A synchroniser of a reset that leaves stands at two edges. -/
theorem resetLeaves_stage (s : State) (r : Nat) {ks k : Nat} (hk : ks.testBit k = true) (h8 : k < 8) (c : Fin 24) :
    ((resetLeaves s r ks).fab r).rstStage.get (k * 24 + c) = 2 := by
  have hc := c.isLt
  rw [resetLeaves, fab_setFab_self]
  have hmem : k * 24 + c.val ∈ List.range (8 * 24) := List.mem_range.2 (by omega)
  refine foldl_once (pre := fun _ => True) (post := fun u : NatTab => u.get (k * 24 + c) = 2) List.nodup_range
    hmem (fun _ _ _ _ => trivial) (fun u _ => ?_) (fun u q hq hu => ?_) trivial
  · rw [if_pos (by rw [show (k * 24 + c.val) / 24 = k by omega]; exact hk)]
    exact Tab.get_set_self _ _ _
  · split
    · exact (Tab.get_set_ne _ _ hq.symm).trans hu
    · exact hu

/-- Global reset k asserts in a region. -/
def resetAssert (s : State) (r k : Nat) : State := ffReset (s.setFab r { s.fab r with grst := (s.fab r).grst ||| 2 ^ k }) r (2 ^ k)

/-- It is released there. -/
def resetRelease (s : State) (r k : Nat) : State :=
  if (s.fab r).grst.testBit k then resetLeaves (s.setFab r { s.fab r with grst := clearBit (s.fab r).grst k }) r (2 ^ k) else s

theorem resetAssert_ne (s : State) {q r : Nat} (k : Nat) (h : r ≠ q) : (resetAssert s q k).fab r = s.fab r := by
  rw [resetAssert, ffReset, fab_setFab_ne _ h, fab_setFab_ne _ h]

theorem resetRelease_ne (s : State) {q r : Nat} (k : Nat) (h : r ≠ q) : (resetRelease s q k).fab r = s.fab r := by
  rw [resetRelease]
  split
  · rw [resetLeaves, fab_setFab_ne _ h, fab_setFab_ne _ h]
  · rfl

theorem resetAssert_img (s : State) (r k : Nat) : (resetAssert s r k).img = s.img := rfl

theorem resetAssert_grst (s : State) (r k : Nat) : ((resetAssert s r k).fab r).grst = (s.fab r).grst ||| 2 ^ k := by
  rw [resetAssert, ffReset, fab_setFab_self, fab_setFab_self]

theorem resetAssert_ff (s : State) (r k : Nat) (c : Fin 96) :
    ((resetAssert s r k).fab r).ff.get c &&& (ffResets s r k c &&& wordOf fun j => !(ffCode s r c j).testBit 6) =
      ffInit s r c &&& (ffResets s r k c &&& wordOf fun j => !(ffCode s r c j).testBit 6) :=
  ffReset_and (s := s.setFab r { s.fab r with grst := (s.fab r).grst ||| 2 ^ k }) c Nat.testBit_two_pow_self

/-- A release leaves the flip-flops; where the reset was asserted, its synchronisers stand at two edges. -/
theorem resetRelease_spec (s : State) (r : Nat) (k : Fin 8) : ((resetRelease s r k).fab r).grst.testBit k = false ∧
    ((resetRelease s r k).fab r).ff = (s.fab r).ff ∧
    ((s.fab r).grst.testBit k = true → ∀ c : Fin 24, ((resetRelease s r k).fab r).rstStage.get (k * 24 + c) = 2) := by
  rw [resetRelease]
  split
  · refine ⟨?_, ?_, fun _ c => resetLeaves_stage _ r Nat.testBit_two_pow_self k.isLt c⟩
    · rw [resetLeaves, fab_setFab_self, fab_setFab_self]
      exact clearBit_testBit _ _
    · rw [resetLeaves, fab_setFab_self, fab_setFab_self]
  · next h => exact ⟨by simpa using h, rfl, fun h' => absurd h' h⟩

/-- An asserted reset holds its flip-flops. -/
theorem ffHeld_of_grst {s : State} {r k c j : Nat} (hk : (s.fab r).grst.testBit k = true)
    (hj : (ffResets s r k c).getLsbD j = true) : ffHeld s r c j = true := by
  refine List.any_eq_true.2 ⟨k, mem_resetsUsed hj, ?_⟩
  rw [hj, Bool.true_and]
  split
  · rw [resetHolds, hk, Bool.true_or]
  · exact hk

section
variable {s : State} {d : Fin 2} {k : Fin 8}

theorem globalReset_on_eq (h : resetSource s d k ≠ 0) : execGlobalReset d k true s =
    s.after ((List.range 8).foldl (fun s i => resetAssert s (d * 8 + i) k) s) := by
  rw [execGlobalReset, if_neg h]
  rfl

theorem globalReset_off_eq (h : resetSource s d k ≠ 0) : execGlobalReset d k false s =
    s.after ((List.range 8).foldl (fun s i => resetRelease s (d * 8 + i) k) s) := by
  rw [execGlobalReset, if_neg h]
  rfl

/-- Regions of a die are numbered from its first. -/
theorem die_region {r : Rgn} (h : r.val / 8 = d.val) : ∃ i ∈ List.range 8, r.val = d * 8 + i :=
  ⟨r.val % 8, List.mem_range.2 (by omega), by omega⟩

theorem globalReset_on_ends (h : resetSource s d k ≠ 0) : Ends (execGlobalReset d k true s) fun t => ∀ r : Rgn,
    r.val / 8 = d.val → (t.fab r).grst.testBit k = true ∧
      (∀ c : Fin 96, (t.fab r).ff.get c &&& (ffResets s r k c &&& wordOf fun j => !(ffCode s r c j).testBit 6) =
        ffInit s r c &&& (ffResets s r k c &&& wordOf fun j => !(ffCode s r c j).testBit 6)) ∧
      (∀ (c : Fin 96) (j : Fin 32), (ffResets s r k c).getLsbD j = true → ffHeld t r c j = true) := by
  rw [globalReset_on_eq h]
  apply ends_of_ending
  intro r hr
  generalize hu : (List.range 8).foldl (fun s i => resetAssert s (d * 8 + i) k) s = u
  obtain ⟨i, hi, hri⟩ := die_region hr
  have himg : (s.ending u).img = s.img := by
    rw [ending_img, ← hu]
    exact foldl_kept (·.img) (fun t q => resetAssert_img t _ k) _ s
  have hfab : (s.ending u).fab r = u.fab r := fab_congr (ending_fabs s u) r
  have hstep : (u.fab r).grst.testBit k = true ∧ ∀ c : Fin 96,
      (u.fab r).ff.get c &&& (ffResets s r k c &&& wordOf fun j => !(ffCode s r c j).testBit 6) =
        ffInit s r c &&& (ffResets s r k c &&& wordOf fun j => !(ffCode s r c j).testBit 6) := by
    rw [← hu]
    refine foldl_region (pre := fun t => t.img = s.img) (post := fun t => (t.fab r).grst.testBit k = true ∧ ∀ c : Fin 96,
      (t.fab r).ff.get c &&& (ffResets s r k c &&& wordOf fun j => !(ffCode s r c j).testBit 6) =
        ffInit s r c &&& (ffResets s r k c &&& wordOf fun j => !(ffCode s r c j).testBit 6)) List.nodup_range hi
      (fun t q _ _ ht => (resetAssert_img t _ k).trans ht) (fun t ht => ?_) (fun t q _ hq ht => ?_) rfl
    · rw [← hri, resetAssert_grst, Nat.testBit_or, Nat.testBit_two_pow_self, Bool.or_true]
      refine ⟨rfl, fun c => ?_⟩
      have hc := resetAssert_ff t r k c
      simp only [ffResets_congr ht, ffCode_congr ht, ffInit_congr ht] at hc
      exact hc
    · rw [resetAssert_ne t k (by omega)]
      exact ht
  obtain ⟨hg, hff⟩ := hstep
  rw [hfab]
  refine ⟨hg, hff, fun c j hj => ffHeld_of_grst (k := k) (by rw [hfab]; exact hg) ?_⟩
  rw [ffResets_congr himg]
  exact hj

theorem globalReset_off_ends (h : resetSource s d k ≠ 0) : Ends (execGlobalReset d k false s) fun t => ∀ r : Rgn,
    r.val / 8 = d.val → (t.fab r).grst.testBit k = false ∧ (t.fab r).ff = (s.fab r).ff ∧
      ((s.fab r).grst.testBit k = true → ∀ c : Fin 24, (t.fab r).rstStage.get (k * 24 + c) = 2) := by
  rw [globalReset_off_eq h]
  apply ends_of_ending
  intro r hr
  obtain ⟨i, hi, hri⟩ := die_region hr
  rw [fab_congr (ending_fabs s _)]
  refine foldl_region (pre := fun t => t.fab r = s.fab r) (post := fun t => (t.fab r).grst.testBit k = false ∧
    (t.fab r).ff = (s.fab r).ff ∧ ((s.fab r).grst.testBit k = true → ∀ c : Fin 24, (t.fab r).rstStage.get (k * 24 + c) = 2))
    List.nodup_range hi (fun t q _ hq ht => ?_) (fun t ht => ?_) (fun t q _ hq ht => ?_) rfl
  · rw [resetRelease_ne t k (by omega)]
    exact ht
  · rw [← hri, ← ht]
    exact resetRelease_spec t r k
  · rw [resetRelease_ne t k (by omega)]
    exact ht
end

theorem started_fabs (s t : State) (r : Nat) : (s.started t r).fabs = t.fabs := by
  unfold State.started
  split <;> rfl

theorem resetLeaves_ff (s : State) (r ks : Nat) : ((resetLeaves s r ks).fab r).ff = (s.fab r).ff := by
  rw [resetLeaves, fab_setFab_self]

theorem fabRstPulse_ends {s : State} {a : Reader} {r : Rgn} {v : Word} {k : Fin 8} (c : Fin 96) (hm : s.mayWrite a r = true)
    (hk : (fOf v F.FAB_RST_PULSE).testBit k = true) : Ends (execFabRstPulse a r v s) fun t =>
      (t.fab r).ff.get c &&& (ffResets s r k c &&& wordOf fun j => !(ffCode s r c j).testBit 6) =
        ffInit s r c &&& (ffResets s r k c &&& wordOf fun j => !(ffCode s r c j).testBit 6) := by
  apply ends_of_ending
  rw [fab_congr (ending_fabs s _), fabRstWrite, fabOwner, if_pos hm, fab_congr (started_fabs s _ r), resetLeaves_ff]
  exact ffReset_and c hk

/-! ### An edge of a tree -/

theorem edgeResets_ff (t : Nat) (y : FabS) : (edgeResets t y).ff = y.ff := by simp only [edgeResets]

/-- What an edge of a tree makes of a cluster it clocks. -/
theorem treeEdge_ff {s : State} {r t c : Nat} (at_ : DWord) (ho : branchOpen s r t = true) (hc : c ∈ clustersOn s r t) :
    ((treeEdge s r t at_).fab r).ff.get c = edgeValue s r c t := by
  have hset : ∀ y, (edgeCluster s r t y c).ff.get c = edgeValue s r c t := by
    intro y
    unfold edgeCluster
    extract_lets y1
    split <;> exact Tab.get_set_self _ _ _
  have hne : ∀ y q, q ≠ c → (edgeCluster s r t y q).ff.get c = y.ff.get c := by
    intro y q hq
    unfold edgeCluster
    extract_lets y1
    split <;> exact Tab.get_set_ne _ _ hq.symm
  rw [treeEdge, if_pos ho]
  extract_lets s1
  rw [fab_setFab_self, edgeResets_ff]
  exact foldl_once (pre := fun _ => True) (post := fun y : FabS => y.ff.get c = edgeValue s r c t)
    (List.nodup_range.filter _) hc (fun _ _ _ _ => trivial) (fun y _ => hset y) (fun y q hq h => (hne y q hq).trans h) trivial

theorem captureTrigger_ff (s : State) (r code : Nat) : ((captureTrigger s r code).fab r).ff = (s.fab r).ff := by
  rw [captureTrigger, captureArm]
  split
  · split
    · rw [fab_setFab_self]
    · rfl
  · rfl

/-- A flip-flop on a tree, enabled, takes what its cell makes or, held, its initial value. -/
theorem edgeValue_getLsbD {s : State} {r c t : Nat} {j : Fin 32} (hc : clusterClock s r c (ffCode s r c j / 8 % 2) = some t)
    (he : ffEnabled s r c j = true) : (edgeValue s r c t).getLsbD j =
      if ffHeld s r c j then (ffInit s r c).getLsbD j else ffData s r c j := by
  have hm : (onTree s r c t).getLsbD j = true := by
    rw [onTree, wordOf_getLsbD _ j.isLt]
    exact decide_eq_true hc
  unfold edgeValue
  extract_lets q m
  rw [wordOf_getLsbD _ j.isLt, if_neg (by rw [show m = onTree s r c t from rfl, hm]; decide), if_pos he]

/-- A cluster with a flip-flop on a tree is among those the tree clocks. -/
theorem mem_clustersOn {s : State} {r t : Nat} {c : Fin 96} {n : Nat} (h : clusterClock s r c (n % 2) = some t) :
    c.val ∈ clustersOn s r t := by
  refine List.mem_filter.2 ⟨List.mem_range.2 c.isLt, ?_⟩
  obtain hn | hn := Nat.mod_two_eq_zero_or_one n <;> rw [hn] at h <;> simp [h]

theorem edge_ends {s : State} {r : Rgn} {code : Fin 64} {tr : Fin 24} {sub : Fin 40} {c : Fin 96} {j : Fin 32}
    (ho : branchOpen s r tr = true) (hc : clusterClock s r c (ffCode s r c j / 8 % 2) = some tr.val)
    (he : ffEnabled s r c j = true) : Ends (execCaptureTrigger r code [.edge tr] [] sub s) fun t =>
      ((t.fab r).ff.get c).getLsbD j = if ffHeld s r c j then (ffInit s r c).getLsbD j else ffData s r c j := by
  apply ends_of_ending
  rw [fab_congr (ending_fabs s _)]
  show (((captureTrigger (treeEdge s r tr (s.stamp sub)) r code).fab r).ff.get c).getLsbD j = _
  rw [captureTrigger_ff, treeEdge_ff _ ho (mem_clustersOn hc), edgeValue_getLsbD hc he]

end Sys2Proof.Machine

/-! ## The lines of a fabric: run request, triggers and spoor ports (R60, R116, R289, R294, R377) -/

namespace Sys2Proof.Machine

theorem runRequest_ends (s : State) (r : Rgn) (on : Bool) : Ends (execRunRequest r on s) fun t =>
    (t.fab r).runReq = on ∧ ((on = true ∧ (s.clk r = 1 ∨ s.clk r = 2)) → (t.rgnS r).synthOn = true) := by
  unfold execRunRequest
  extract_lets src s1 x
  have h1 : (s1.fab r).runReq = on := by rw [fab_setFab_self]
  apply ends_of_ending
  rw [fab_congr (ending_fabs s _), ending_rgnS]
  split
  · next hon =>
    split
    · next hc => exact ⟨h1, fun h => by omega⟩
    · rw [rgnS_setRgn_self]
      exact ⟨h1, fun _ => rfl⟩
  · next hon => exact ⟨h1, fun h => absurd h.1 hon⟩

/-! ### A trigger line -/

/-- What a trigger of R116 may change for a group: what the group holds, and its events and counts. -/
def triggerScope (r q : Nat) : Scope :=
  ⟨0, [.conv (some (grpKey r q))], [.one R.CG_EVT (cgB r q) 0, .one R.CG_URG_STAT (cgB r q) 0]⟩

theorem trigger_setGrp (s : State) (r q : Nat) (x : GrpS) : Within (triggerScope r q) s (s.setGrp r q x) :=
  within_setGrp s r q x (Or.inr (List.mem_singleton.2 rfl))

theorem trigger_sb (s : State) (r q : Nat) {f : Fld} (v : Bool) (h : f.reg = R.CG_EVT ∨ f.reg = R.CG_URG_STAT) :
    Within (triggerScope r q) s (s.sb f (cgB r q) 0 v) := by
  refine within_sb s f _ 0 v ?_ ?_
  · obtain h | h := h <;> rw [h] <;> decide
  · obtain h | h := h <;> rw [h] <;> exact Scope.word_one (by simp [triggerScope])

theorem trigger_bump (s : State) (r q : Nat) {f : Fld} (h : f.reg = R.CG_URG_STAT) :
    Within (triggerScope r q) s (s.bump f (cgB r q)) := by
  refine within_bump s f _ 0 ?_ ?_
  · rw [h]; decide
  · rw [h]; exact Scope.word_one (by simp [triggerScope])

theorem trigger_scanRequest (s : State) (r q : Nat) : Within (triggerScope r q) s (scanRequest s r q) :=
  Within.ite (fun _ => trigger_sb s r q true (Or.inl rfl)) fun _ => Within.ite (fun _ => trigger_setGrp s r q _) fun _ =>
    Within.ite (fun _ => trigger_sb s r q true (Or.inl rfl)) fun _ => trigger_setGrp s r q _

theorem trigger_urgentRequest (s : State) (r q chan : Nat) : Within (triggerScope r q) s (urgentRequest s r q chan) :=
  Within.ite (fun _ => trigger_setGrp s r q _) fun _ =>
    (trigger_bump s r q rfl).trans (trigger_sb _ r q true (Or.inl rfl))

theorem trigger_groupTrigger (s : State) (r q code : Nat) : Within (triggerScope r q) s (groupTrigger s r q code) := by
  unfold groupTrigger
  extract_lets b s1
  have h1 : Within (triggerScope r q) s s1 := Within.foldl (fun t k => Within.ite (fun _ => Within.ite
    (fun _ => trigger_urgentRequest t r q _) fun _ => Within.refl _ t) fun _ => Within.refl _ t) _ s
  exact h1.trans (Within.ite (fun _ => Within.ite (fun _ => trigger_scanRequest s1 r q) fun _ => Within.refl _ s1)
    fun _ => Within.refl _ s1)

/-- What a group's trigger shows of a group: its registers, what it holds, and its region's Torpor. -/
structure SameGroup (r g : Nat) (s t : State) : Prop where
  word : ∀ a, cgB r g ≤ a → a < cgB r g + 0x1000 → (t.regs.tab .cg).get a = (s.regs.tab .cg).get a
  torpor : t.inTorpor r = s.inTorpor r
  grp : t.grp r g = s.grp r g

theorem SameGroup.refl (r g : Nat) (s : State) : SameGroup r g s s := ⟨fun _ _ _ => rfl, rfl, rfl⟩

theorem SameGroup.trans {r g : Nat} {s t u : State} (h : SameGroup r g s t) (k : SameGroup r g t u) : SameGroup r g s u :=
  ⟨fun a hl hu => (k.word a hl hu).trans (h.word a hl hu), k.torpor.trans h.torpor, k.grp.trans h.grp⟩

/-- A trigger at a group leaves the others. -/
theorem Within.sameGroup {r q g : Nat} {s t : State} (h : Within (triggerScope r q) s t) (hq : g ≠ q) (hg : g < 4 ∧ q < 4) :
    SameGroup r g s t := by
  obtain ⟨hg4, hq4⟩ := hg
  have hword : ∀ k a, (triggerScope r q).word k a → k = .cg ∧ cgB r q ≤ a ∧ a < cgB r q + 0x1000 := by
    rintro k a ⟨x, hx, hc⟩
    have hw : ∀ y ∈ [R.CG_EVT, R.CG_URG_STAT], y ∉ wideRegs ∧ y.blk = .cg ∧ y.stride = 0 ∧ y.off < 0x1000 := by decide
    have hone : ∀ y ∈ [R.CG_EVT, R.CG_URG_STAT], (Spot.one y (cgB r q) 0).covers k a →
        k = .cg ∧ cgB r q ≤ a ∧ a < cgB r q + 0x1000 := by
      intro y hy ⟨hk, ha⟩
      obtain ⟨hn, hb, hs, ho⟩ := hw y hy
      rw [Reg.words, if_neg hn, List.mem_singleton, Reg.addr, hs] at ha
      exact ⟨hk.trans hb, by omega, by omega⟩
    simp only [triggerScope, List.mem_cons, List.not_mem_nil, or_false] at hx
    obtain rfl | rfl := hx
    · exact hone _ (by decide) hc
    · exact hone _ (by decide) hc
  refine ⟨fun a hl hu => (h.regs .cg a (by decide)).resolve_right fun hw => ?_, ?_, ?_⟩
  · obtain ⟨-, hal, hau⟩ := hword _ _ hw
    simp only [cgB] at hal hau hl hu
    omega
  · refine congrArg (fun w : Word => w.bits F.RGN_STAT_TORPOR.hi F.RGN_STAT_TORPOR.lo != 0)
      ((h.regs .rgn _ (by decide)).resolve_right fun hw => ?_)
    exact absurd (hword _ _ hw).1 (by decide)
  · refine (h.conv (grpKey r g)).resolve_right ?_
    rintro (hk | hk) <;> simp [triggerScope, grpKey] at hk
    omega

section
variable {r g : Nat} {s t : State} (h : SameGroup r g s t)
include h

theorem SameGroup.rd {q : Reg} {n : Nat} (hq : q.blk = .cg) (hn : q.off + n * q.stride < 0x1000) :
    t.rd q (cgB r g) n = s.rd q (cgB r g) n := by
  rw [State.rd, State.rd, hq]
  exact h.word _ (by rw [Reg.addr]; omega) (by rw [Reg.addr]; omega)

theorem SameGroup.gf {f : Fld} {n : Nat} (hq : f.reg.blk = .cg) (hn : f.reg.off + n * f.reg.stride < 0x1000) :
    t.gf f (cgB r g) n = s.gf f (cgB r g) n := by rw [State.gf, State.gf, h.rd hq hn]

theorem SameGroup.converting : converting t r g = converting s r g := by
  have hs : cgState t r g = cgState s r g := h.gf (f := F.CG_STAT_STATE) (n := 0) rfl (by decide)
  simp only [Machine.converting, hs, h.torpor]

theorem SameGroup.passOf (m : Nat) : passOf t (cgB r g) m = passOf s (cgB r g) m := by
  unfold Machine.passOf
  cases hc : lowChan m with
  | none => rfl
  | some c =>
    have hlt : c < 32 := List.mem_range.1 (List.mem_of_find?_eq_some hc)
    have hrd : t.rd R.CG_CHc_CFG (cgB r g) c = s.rd R.CG_CHc_CFG (cgB r g) c :=
      h.rd rfl (by simp only [R.CG_CHc_CFG]; omega)
    rw [Option.map_some, Option.map_some, hrd]
end

/-- A trigger that a group's scan selects, and none of its urgent slots, starts a pass. -/
theorem groupTrigger_pass {s : State} {r g code : Nat} (hsrc : s.gf F.CG_SCAN_TRIG_SRC (cgB r g) = code)
    (hurg : ∀ k ∈ [0, 1, 2, 3], s.gf F.CG_URGk_CFG_SRC (cgB r g) k ≠ code) (hmode : s.gf F.CG_SCAN_SMODE (cgB r g) = 2)
    (hc : converting s r g = true) (hp : (s.grp r g).pass = none) :
    ((groupTrigger s r g code).grp r g).pass = passOf s (cgB r g) (s.gf F.CG_MASK_MASK (cgB r g)) := by
  have hslots : ([0, 1, 2, 3].foldl (fun t k => if State.gf t F.CG_URGk_CFG_SRC (cgB r g) k = code then urgTrig t r g k else t) s) = s :=
    List.foldlRecOn (motive := fun t => t = s) _ _ rfl fun t ht k hk => by rw [ht, if_neg (hurg k hk)]
  unfold groupTrigger
  extract_lets b s1
  rw [show s1 = s from hslots, if_pos hsrc, scanTrig, if_pos hmode, scanRequest, hc, hp]
  exact congrArg GrpS.pass (Tab.get_set_self _ _ _)

theorem sameGroup_captureTrigger (s : State) (r g code : Nat) : SameGroup r g s (captureTrigger s r code) := by
  rw [captureTrigger, captureArm]
  split
  · split
    · exact ⟨fun _ _ _ => rfl, rfl, rfl⟩
    · exact SameGroup.refl r g s
  · exact SameGroup.refl r g s

theorem fabricTrigger_ends {s : State} {r : Rgn} {line : Fin 8} {g : Fin 4} (hclk : s.clk r = 0)
    (hsrc : s.gf F.CG_SCAN_TRIG_SRC (cgB r g) = 0x18 + line.val)
    (hurg : ∀ k : Fin 4, s.gf F.CG_URGk_CFG_SRC (cgB r g) k ≠ 0x18 + line.val) (hmode : s.gf F.CG_SCAN_SMODE (cgB r g) = 2)
    (hc : converting s r g = true) (hp : (s.grp r g).pass = none) :
    Ends (execFabricTrigger r line s) fun t => (t.grp r g).pass = passOf s (cgB r g) (s.gf F.CG_MASK_MASK (cgB r g)) := by
  apply ends_of_ending
  rw [if_pos hclk, State.grp, ending_conv, ← State.grp, fireTrigger]
  have hgl : g.val ∈ [0, 1, 2, 3] := by
    have := g.isLt
    simp only [List.mem_cons, List.not_mem_nil, or_false]
    omega
  have hlt : ∀ q ∈ [0, 1, 2, 3], q < 4 := by decide
  refine foldl_region (pre := SameGroup r g s) (post := fun t => (t.grp r g).pass = _) (by decide) hgl
    (fun t q hq hne ht => ht.trans ((trigger_groupTrigger t r q _).sameGroup hne.symm ⟨g.isLt, hlt q hq⟩)) (fun t ht => ?_)
    (fun t q hq hne ht => ?_) (sameGroup_captureTrigger s r g _)
  · rw [groupTrigger_pass ((ht.gf rfl (by decide)).trans hsrc) ?_ ((ht.gf rfl (by decide)).trans hmode)
      (ht.converting.trans hc) (by rw [ht.grp]; exact hp), ht.passOf, ht.gf rfl (by decide)]
    intro k hk
    rw [ht.gf rfl (by have := hlt k hk; simp only [F.CG_URGk_CFG_SRC, R.CG_URGk_CFG]; omega)]
    exact hurg ⟨k, hlt k hk⟩
  · rw [((trigger_groupTrigger t r q _).sameGroup hne.symm ⟨g.isLt, hlt q hq⟩).grp]
    exact ht

/-! ### A spoor port -/

theorem spoorStrobe_ends {s : State} {r : Rgn} {p : Fin 4} {payload : BitVec 128} {cls flow : Nat}
    (hen : s.gb F.FAB_SPRp_EN (fabB r) p = true) (hclk : s.clk r = 0) (hcls : s.gf F.FAB_SPRp_CLASS (fabB r) p = cls)
    (h0 : cls ≠ 0) (hflow : s.gf F.FAB_SPRp_FLOW (fabB r) p = flow) (hd : sourceDrop s cls flow = 0)
    (ha : flowAccepted s flow = false) : Ends (execFabricSpoorStrobe r p payload s) fun t =>
      ((t.spoor.srcQ.get (srcRgn r (unitFabPort p)).key).map fun i => (i.typ, i.cls, i.flow, i.payload)) =
        ((s.spoor.srcQ.get (srcRgn r (unitFabPort p)).key).map fun i => (i.typ, i.cls, i.flow, i.payload)) ++
          [(3, cls, flow, payload)] := by
  apply ends_of_ending
  rw [hcls, hflow, if_neg (by simp [hen, hclk]), if_neg h0, ending_spoor]
  have hw := produce_waits (s := s) (i := mkItem s (srcRgn r (unitFabPort p)) 3 cls flow 0 payload) hd ha
  rw [show (srcRgn r (unitFabPort p)).key = (mkItem s (srcRgn r (unitFabPort p)) 3 cls flow 0 payload).src.key from rfl, hw,
    List.map_append]
  rfl

/-- An alarm in a free slot leaves its type, code and detail there. -/
theorem raiseT_new {s : State} {x : Src} {typ code flow : Nat} {detail : BitVec 80}
    (h : s.spoor.slots.get (slotKey x code flow) = none) :
    ((s.raiseT x typ code flow detail).spoor.slots.get (slotKey x code flow)).map (fun y => (y.typ, y.code, y.detail)) =
      some (typ, code, detail) := by
  unfold State.raiseT
  extract_lets k s0 spoor sl item i
  split
  · next sl' hs => exact absurd (h.symm.trans hs) (by simp)
  · exact congrArg (Option.map fun y : Slot => (y.typ, y.code, y.detail)) (Tab.get_set_self s0.spoor.slots k (some sl))

theorem spoorAlarm_ends {s : State} {r : Rgn} {p : Fin 4} {payload : BitVec 128}
    (hen : s.gb F.FAB_SPRp_EN (fabB r) p = true) (hclk : s.clk r = 0) (hcls : s.gf F.FAB_SPRp_CLASS (fabB r) p = 0)
    (hfree : s.spoor.slots.get (slotKey (srcRgn r (unitFabPort p)) (payloadGet payload 0 2) 0) = none) :
    Ends (execFabricSpoorStrobe r p payload s) fun t =>
      (t.spoor.slots.get (slotKey (srcRgn r (unitFabPort p)) (payloadGet payload 0 2) 0)).map
        (fun x => (x.typ, x.code, x.detail)) = some (3, payloadGet payload 0 2, (payload >>> 16).setWidth 80) := by
  apply ends_of_ending
  rw [hcls, if_neg (by simp [hen, hclk]), if_pos rfl, portBusy, hfree, Bool.and_false, if_neg (by decide), ending_spoor]
  exact raiseT_new hfree

end Sys2Proof.Machine

/-! ## Groups of user registers (R305, R306) -/

namespace Sys2Proof.Machine

/-! ### The fabric at the latch edge -/

/-- The registers of a group show their values. -/
def uregsShown (s : State) (r : Nat) (ps : List (Nat × Word × Fin 4)) : State :=
  ps.foldl (fun s p => s.wr R.FAB_UREGn (fabB r) p.1 p.2.1) s

/-- The state at the latch edge: with its value each register shows the carries out of its segments. -/
def groupShown (s : State) (r : Nat) (ps : List (Nat × Word × Fin 4)) : State :=
  (uregsShown s r ps).setFab r { (uregsShown s r ps).fab r with
    carry := ((uregsShown s r ps).fab r).carry.setAll (ps.map fun p => (p.1, p.2.2.val)) }

/-- What a register of a group is latched as. -/
def latchedAs (s : State) (r n m : Nat) : Word :=
  if uregWide s r m then
    BitVec.ofNat 32 (folded s r ((groupOf s r n).filter (uregWide s r))
      / 2 ^ (32 * ((groupOf s r n).filter (uregWide s r)).idxOf m))
  else uregLive s r m

/-- A read of a group's first register answers what it is latched as, and holds what each is. -/
theorem uregRead_start {s : State} {r n : Nat} (a : Reader) (h : groupStart s r n = true) :
    uregRead s a r n = (latchedAs s r n n, { s with hold := s.hold.setAll ((groupOf s r n).map fun m =>
      (accKey a (R.FAB_UREGn.addr (fabB r) m), some (latchedAs s r n m))) }) := by
  have hv : groupValues s r n = (groupOf s r n).map fun m => (m, latchedAs s r n m) := rfl
  have hf : ((groupValues s r n).find? fun p => p.1 = n) = some (n, latchedAs s r n n) := by
    rw [hv, groupOf, List.map_cons, List.find?_cons_of_pos (by simp)]
  unfold uregRead
  extract_lets f vs
  rw [if_pos h, hf, show vs = _ from hv, List.map_map]
  rfl

section
variable (s : State) (r : Nat) (ps : List (Nat × Word × Fin 4))

/-- What a write of a register leaves, the values shown leave. -/
theorem uregsShown_kept {β : Type} (g : State → β) (hg : ∀ (t : State) (q n : Nat) (v : Word),
    g (t.wr R.FAB_UREGn (fabB q) n v) = g t) : g (uregsShown s r ps) = g s :=
  foldl_kept g (f := fun t (p : Nat × Word × Fin 4) => t.wr R.FAB_UREGn (fabB r) p.1 p.2.1) (fun t p => hg t r p.1 p.2.1) ps s

theorem groupShown_img : (groupShown s r ps).img = s.img :=
  (setFab_img _ _ _).trans (uregsShown_kept s r ps (·.img) fun _ _ _ _ => wr_img _ _ _ _ _)

theorem groupShown_hold : (groupShown s r ps).hold = s.hold :=
  (setFab_hold _ _ _).trans (uregsShown_kept s r ps (·.hold) fun _ _ _ _ => wr_hold _ _ _ _ _)

theorem groupShown_ff : ((groupShown s r ps).fab r).ff = (s.fab r).ff := by
  rw [groupShown, fab_setFab_self]
  dsimp only
  rw [fab_congr (uregsShown_kept s r ps (·.fabs) fun _ _ _ _ => wr_fabs _ _ _ _ _) r]
end

theorem uregWide_congr {s t : State} (h : t.img = s.img) (r n : Nat) : uregWide t r n = uregWide s r n := by
  rw [uregWide, uregWide, h]

theorem uregSegment_congr {s t : State} (h : t.img = s.img) (r n i : Nat) : uregSegment t r n i = uregSegment s r n i := by
  simp only [uregSegment, imgWord_congr h]

/-- The values shown leave where the groups begin. -/
theorem groupShown_start {s : State} {r : Nat} {ps : List (Nat × Word × Fin 4)} (h : ∀ p ∈ ps, p.1 < 64) (n : Nat) :
    groupStart (groupShown s r ps) r n = groupStart s r n := by
  have hrd : ∀ q, q = R.FAB_UGRP0 ∨ q = R.FAB_UGRP1 → (groupShown s r ps).rd q (fabB r) = s.rd q (fabB r) := by
    intro q hq
    rw [groupShown, rd_congr (setFab_regs _ r _)]
    refine List.foldlRecOn (motive := fun t => State.rd t q (fabB r) = s.rd q (fabB r)) ps _ rfl fun t ht p hp => ?_
    refine (rd_wr_ne t _ (Or.inr ?_)).trans ht
    have hp64 := h p hp
    obtain rfl | rfl := hq <;> simp only [Reg.addr, R.FAB_UREGn, R.FAB_UGRP0, R.FAB_UGRP1] <;> omega
  simp only [groupStart, hrd _ (Or.inl rfl), hrd _ (Or.inr rfl)]

theorem groupOf_lt {s : State} {r n : Nat} (hn : n < 64) : ∀ m ∈ groupOf s r n, m < 64 := by
  intro m hm
  obtain rfl | hm := List.mem_cons.1 hm
  · exact hn
  · exact List.mem_range.1 (List.mem_of_mem_filter ((List.takeWhile_sublist _).subset hm))

theorem groupShown_groupOf {s : State} {r : Nat} {ps : List (Nat × Word × Fin 4)} (h : ∀ p ∈ ps, p.1 < 64) (n : Nat) :
    groupOf (groupShown s r ps) r n = groupOf s r n := by
  simp only [groupOf, groupShown_start h]

/-- The whole command, where the fabric does nothing up to the latch edge. -/
theorem uregGroupRead_eq {s : State} {a : Reader} {r : Rgn} {n : Fin 64} (live : List (Word × Fin 4))
    (hs : groupStart s r n = true) (hr : reaches s a (R.FAB_UREGn.addr (fabB r) n) = true) :
    ∃ u : State, execUregGroupRead a r n [] live s = s.after (u.answer a
        ((latchedAs (groupShown s r ((groupOf s r n).zip live)) r n n).setWidth 64)) ∧
      u.hold = s.hold.setAll ((groupOf s r n).map fun m => (accKey a (R.FAB_UREGn.addr (fabB r) m),
        some (latchedAs (groupShown s r ((groupOf s r n).zip live)) r n m))) := by
  have h64 : ∀ p ∈ (groupOf s r n).zip live, p.1 < 64 := fun p hp => groupOf_lt n.isLt _ (List.of_mem_zip hp).1
  have hread := uregRead_start a ((groupShown_start h64 n).trans hs)
  rw [groupShown_groupOf h64] at hread
  have he : execUregGroupRead a r n [] live s = s.after ((uregRead (groupShown s r ((groupOf s r n).zip live)) a r n).2.answer a
      ((uregRead (groupShown s r ((groupOf s r n).zip live)) a r n).1.setWidth 64)) := by
    unfold execUregGroupRead
    extract_lets f ps
    rw [if_pos (by rw [hs, hr]; rfl)]
    rfl
  rw [he, hread]
  exact ⟨_, rfl, by rw [groupShown_hold]⟩

/-! ### Groups of two registers -/

section
variable {s : State} {r : Rgn} {n m : Fin 64} {v w : Word} {c d : Fin 4}

/-- The second register of a group stands after the first. -/
theorem groupOf_two_lt (h : groupOf s r n = [n.val, m.val]) : n.val < m.val := by
  have hm : m.val ∈ ((List.range 64).filter fun q => n.val < q).takeWhile fun q => !groupStart s r q := by
    rw [(List.cons.inj h).2]
    exact List.mem_singleton.2 rfl
  have := List.of_mem_filter ((List.takeWhile_sublist _).subset hm)
  simpa using this

/-- What two registers show: their words and their carries. -/
theorem groupShown_two (h : n.val < m.val) : ((groupShown s r [(n.val, v, c), (m.val, w, d)]).rd R.FAB_UREGn (fabB r) n = v ∧
    (groupShown s r [(n.val, v, c), (m.val, w, d)]).rd R.FAB_UREGn (fabB r) m = w) ∧
    ((groupShown s r [(n.val, v, c), (m.val, w, d)]).fab r).carry.get n = c.val ∧
    ((groupShown s r [(n.val, v, c), (m.val, w, d)]).fab r).carry.get m = d.val := by
  have hs1 : uregsShown s r [(n.val, v, c), (m.val, w, d)] = (s.wr R.FAB_UREGn (fabB r) n v).wr R.FAB_UREGn (fabB r) m w := rfl
  have hkeys : (([(n.val, v, c), (m.val, w, d)].map fun p : Nat × Word × Fin 4 => (p.1, p.2.2.val)).map (·.1)).Nodup := by
    simp only [List.map_cons, List.map_nil, List.nodup_cons, List.mem_singleton, List.not_mem_nil, not_false_eq_true,
      List.nodup_nil, and_self, and_true]
    omega
  rw [groupShown, rd_congr (setFab_regs _ r _), rd_congr (setFab_regs _ r _), fab_setFab_self, hs1, rd_wr_self]
  refine ⟨⟨?_, rfl⟩, Tab.get_setAll_mem hkeys (by simp), Tab.get_setAll_mem hkeys (by simp)⟩
  rw [rd_wr_ne _ _ (Or.inr (by simp only [Reg.addr, R.FAB_UREGn]; omega)), rd_wr_self]

/-- A register without segments of its own shows its word. -/
theorem uregLive_word {t : State} {q : Nat} (h : ∀ i : Fin 2, uregSegment t r q i = none) :
    uregLive t r q = t.rd R.FAB_UREGn (fabB r) q := by
  have h0 : segment t r q 0 = (t.rd R.FAB_UREGn (fabB r) q).toNat / 2 ^ 0 % 2 ^ 16 := by
    rw [segment, show uregSegment t r q 0 = none from h 0]
  have h1 : segment t r q 1 = (t.rd R.FAB_UREGn (fabB r) q).toNat / 2 ^ 16 % 2 ^ 16 := by
    rw [segment, show uregSegment t r q 1 = none from h 1]
  refine BitVec.eq_of_toNat_eq ?_
  have hlt := (t.rd R.FAB_UREGn (fabB r) q).isLt
  rw [uregLive, h0, h1, BitVec.toNat_ofNat]
  omega

theorem carryOut_word {t : State} {q i : Nat} (h : uregSegment t r q i = none) :
    carryOut t r q i = ((t.fab r).carry.get q).testBit i := by rw [carryOut, h]

/-- The holding register of the second of two registers. -/
theorem held_second {a : Reader} {f : Nat → Word} (t : Tab (Option Word) fun _ => none) (h : n.val < m.val) :
    (t.setAll ([n.val, m.val].map fun q => (accKey a (R.FAB_UREGn.addr (fabB r) q), some (f q)))).get
      (accKey a (R.FAB_UREGn.addr (fabB r) m)) = some (f m) := by
  refine Tab.get_setAll_mem ?_ (by simp)
  simp only [List.map_cons, List.map_nil, List.nodup_cons, List.mem_singleton, List.not_mem_nil, not_false_eq_true,
    List.nodup_nil, and_self, and_true, accKey, Reg.addr, R.FAB_UREGn]
  omega

theorem uregGroup_ends {a : Reader} (hg : groupOf s r n = [n.val, m.val]) (hs : groupStart s r n = true)
    (hr : reaches s a (R.FAB_UREGn.addr (fabB r) n) = true) (hw : uregWide s r n = false ∧ uregWide s r m = false)
    (hseg : ∀ h : Fin 2, uregSegment s r n h = none ∧ uregSegment s r m h = none) :
    Ends (execUregGroupRead a r n [] [(v, c), (w, d)] s) fun t => t.resp.get a.code = some (v.setWidth 64) ∧
      t.hold.get (accKey a (R.FAB_UREGn.addr (fabB r) m)) = some w := by
  have hnm := groupOf_two_lt hg
  obtain ⟨u, he, hold⟩ := uregGroupRead_eq [(v, c), (w, d)] hs hr
  rw [hg] at he hold
  obtain ⟨⟨hn, hm⟩, -⟩ := groupShown_two (s := s) (r := r) (v := v) (w := w) (c := c) (d := d) hnm
  have himg := groupShown_img s r [(n.val, v, c), (m.val, w, d)]
  have hval : ∀ q : Nat, uregWide s r q = false → (∀ h : Fin 2, uregSegment s r q h = none) →
      latchedAs (groupShown s r [(n.val, v, c), (m.val, w, d)]) r n q =
        (groupShown s r [(n.val, v, c), (m.val, w, d)]).rd R.FAB_UREGn (fabB r) q := by
    intro q hq hqs
    rw [latchedAs, uregWide_congr himg, hq, if_neg (by decide)]
    exact uregLive_word fun h => (uregSegment_congr himg r q h).trans (hqs h)
  rw [he]
  apply ends_of_ending
  rw [ending_resp, ending_hold, answer_resp]
  refine ⟨?_, ?_⟩
  · rw [show ([n.val, m.val].zip [(v, c), (w, d)]) = [(n.val, v, c), (m.val, w, d)] from rfl, hval n hw.1 fun h => (hseg h).1, hn]
  · show u.hold.get _ = _
    rw [hold, held_second s.hold hnm]
    exact congrArg some ((hval m hw.2 fun h => (hseg h).2).trans hm)

/-- What a register adds to its counter: its value and the carries out of its segments. -/
def foldedAt (s : State) (r m i : Nat) : Nat := (uregLive s r m).toNat * 2 ^ (32 * i)
  + (if carryOut s r m 0 then 2 ^ (32 * i + 16) else 0) + (if carryOut s r m 1 then 2 ^ (32 * i + 32) else 0)

theorem folded_eq (s : State) (r : Nat) (ms : List Nat) :
    folded s r ms = ((List.range ms.length).map fun i => foldedAt s r (ms.getD i 0) i).sum := rfl

theorem folded_two (s : State) (r p q : Nat) : folded s r [p, q] = foldedAt s r p 0 + foldedAt s r q 1 := by
  have h2 : List.range [p, q].length = [0, 1] := rfl
  rw [folded_eq, h2, List.map_cons, List.map_cons, List.map_nil, List.sum_cons, List.sum_cons, List.sum_nil, Nat.add_zero,
    List.getD_cons_zero, List.getD_cons_succ, List.getD_cons_zero]

theorem uregGroup_wide_ends {a : Reader} (hg : groupOf s r n = [n.val, m.val]) (hs : groupStart s r n = true)
    (hr : reaches s a (R.FAB_UREGn.addr (fabB r) n) = true) (hw : uregWide s r n = true ∧ uregWide s r m = true)
    (hseg : ∀ h : Fin 2, uregSegment s r n h = none ∧ uregSegment s r m h = none) :
    Ends (execUregGroupRead a r n [] [(v, c), (w, d)] s) fun t =>
      (let total := v.toNat + (if c.val.testBit 0 then 2 ^ 16 else 0) + (if c.val.testBit 1 then 2 ^ 32 else 0)
          + w.toNat * 2 ^ 32 + (if d.val.testBit 0 then 2 ^ 48 else 0);
        t.resp.get a.code = some ((BitVec.ofNat 32 total).setWidth 64) ∧
        t.hold.get (accKey a (R.FAB_UREGn.addr (fabB r) m)) = some (BitVec.ofNat 32 (total / 2 ^ 32))) := by
  obtain ⟨hwn, hwm⟩ := hw
  have hnm := groupOf_two_lt hg
  have h64 : ∀ p ∈ [(n.val, v, c), (m.val, w, d)], p.1 < 64 := by simp [n.isLt, m.isLt]
  obtain ⟨u, he, hold⟩ := uregGroupRead_eq [(v, c), (w, d)] hs hr
  rw [hg, show ([n.val, m.val].zip [(v, c), (w, d)]) = [(n.val, v, c), (m.val, w, d)] from rfl] at he hold
  obtain ⟨⟨hn, hm⟩, hcn, hcm⟩ := groupShown_two (s := s) (r := r) (v := v) (w := w) (c := c) (d := d) hnm
  have himg := groupShown_img s r [(n.val, v, c), (m.val, w, d)]
  have hgx := (groupShown_groupOf (s := s) (r := r) h64 n).trans hg
  generalize groupShown s r [(n.val, v, c), (m.val, w, d)] = x at *
  have hsn : ∀ h : Fin 2, uregSegment x r n h = none := fun h => (uregSegment_congr himg r n h).trans (hseg h).1
  have hsm : ∀ h : Fin 2, uregSegment x r m h = none := fun h => (uregSegment_congr himg r m h).trans (hseg h).2
  have hwide : (groupOf x r n).filter (uregWide x r) = [n.val, m.val] := by
    rw [hgx, List.filter_cons_of_pos (by rw [uregWide_congr himg, hwn]), List.filter_cons_of_pos (by rw [uregWide_congr himg, hwm]),
      List.filter_nil]
  have htotal := folded_two x r n m
  rw [foldedAt, foldedAt, uregLive_word hsn, uregLive_word hsm, hn, hm, carryOut_word (i := 0) (hsn 0), carryOut_word (i := 1) (hsn 1),
    carryOut_word (i := 0) (hsm 0), carryOut_word (i := 1) (hsm 1), hcn, hcm] at htotal
  have hln : latchedAs x r n n = BitVec.ofNat 32 (folded x r [n.val, m.val]) := by
    rw [latchedAs, uregWide_congr himg, hwn, if_pos rfl, hwide, List.idxOf_cons_self, Nat.mul_zero, Nat.pow_zero, Nat.div_one]
  have hlm : latchedAs x r n m = BitVec.ofNat 32 (folded x r [n.val, m.val] / 2 ^ 32) := by
    rw [latchedAs, uregWide_congr himg, hwm, if_pos rfl, hwide, List.idxOf_cons_ne _ (by omega), List.idxOf_cons_self]
  rw [he]
  apply ends_of_ending
  intro total
  -- the carry out of the upper register leaves the counter
  have hlow : folded x r [n.val, m.val] % 2 ^ 64 = total % 2 ^ 64 := by
    rw [htotal]
    simp only [total]
    split_ifs <;> omega
  generalize folded x r [n.val, m.val] = full at *
  rw [ending_resp, ending_hold, answer_resp, hln]
  refine ⟨?_, ?_⟩
  · have h : BitVec.ofNat 32 full = BitVec.ofNat 32 total := BitVec.eq_of_toNat_eq (by simp only [BitVec.toNat_ofNat]; omega)
    rw [h]
  · show u.hold.get _ = _
    rw [hold, held_second s.hold hnm, hlm]
    exact congrArg some (BitVec.eq_of_toNat_eq (by simp only [BitVec.toNat_ofNat]; omega))

/-! ### A register of two segments -/

/-- Bit 2i of a segment's cluster is bit i of the segment. -/
theorem segment_testBit {t : State} {q i c' : Nat} (h : uregSegment t r q i = some c') (j : Fin 16) :
    (segment t r q i).testBit j = ((t.fab r).ff.get c').getLsbD (2 * j) := by
  rw [segment, h]
  exact (sum_bits_testBit 16 (fun k => ((t.fab r).ff.get c').getLsbD (2 * k)) j).trans (by simp [j.isLt])

theorem segment_lt {t : State} {q i c' : Nat} (h : uregSegment t r q i = some c') : segment t r q i < 2 ^ 16 := by
  rw [segment, h]
  exact sum_bits_lt 16 fun k => ((t.fab r).ff.get c').getLsbD (2 * k)

/-- A register shows its two clusters' flip-flops FF0. -/
theorem uregLive_getLsbD {t : State} {q c' d' : Nat} (h0 : uregSegment t r q 0 = some c') (h1 : uregSegment t r q 1 = some d')
    (j : Fin 16) : (uregLive t r q).getLsbD j = ((t.fab r).ff.get c').getLsbD (2 * j) ∧
      (uregLive t r q).getLsbD (16 + j) = ((t.fab r).ff.get d').getLsbD (2 * j) := by
  have hj := j.isLt
  have hbit : ∀ i < 32, (uregLive t r q).getLsbD i =
      if i < 16 then (segment t r q 0).testBit i else (segment t r q 1).testBit (i - 16) := by
    intro i hi
    rw [uregLive, BitVec.getLsbD_ofNat, Nat.add_comm, Nat.mul_comm, Nat.testBit_two_pow_mul_add _ (segment_lt h0)]
    simp [hi]
  rw [hbit _ (by omega), hbit _ (by omega), if_pos hj, if_neg (by omega), Nat.add_sub_cancel_left, segment_testBit h0,
    segment_testBit h1]
  exact ⟨rfl, rfl⟩

theorem uregSegments_ends {a : Reader} {c' d' : Fin 96} (live : List (Word × Fin 4)) (hs : groupStart s r n = true)
    (hr : reaches s a (R.FAB_UREGn.addr (fabB r) n) = true) (hw : uregWide s r n = false)
    (hc : uregSegment s r n 0 = some c'.val) (hd : uregSegment s r n 1 = some d'.val) :
    Ends (execUregGroupRead a r n [] live s) fun t => ∀ i : Fin 16,
      ((t.resp.get a.code).getD 0).getLsbD i = ((s.fab r).ff.get c').getLsbD (2 * i) ∧
        ((t.resp.get a.code).getD 0).getLsbD (16 + i) = ((s.fab r).ff.get d').getLsbD (2 * i) := by
  obtain ⟨u, he, -⟩ := uregGroupRead_eq live hs hr
  have himg := groupShown_img s r ((groupOf s r n).zip live)
  have hff := groupShown_ff s r ((groupOf s r n).zip live)
  generalize groupShown s r ((groupOf s r n).zip live) = x at *
  rw [he]
  apply ends_of_ending
  intro i
  have hi := i.isLt
  have hlive := uregLive_getLsbD ((uregSegment_congr himg r n 0).trans hc) ((uregSegment_congr himg r n 1).trans hd) i
  rw [hff] at hlive
  rw [ending_resp, answer_resp, latchedAs, uregWide_congr himg, hw, if_neg (by decide), Option.getD_some, BitVec.getLsbD_setWidth,
    BitVec.getLsbD_setWidth, decide_eq_true (by omega), decide_eq_true (by omega), Bool.true_and, Bool.true_and]
  exact hlive
end

end Sys2Proof.Machine

/-! ## The capture snapshot (R289, R308, R309) -/

namespace Sys2Proof.Machine

/-! ### What an edge captures -/

/-- The capture as it stands: whether it waits for edges, on which trees, the first one's time, and the latches. -/
def FabS.capture (x : FabS) : Bool × Nat × Option DWord × WordTab := (x.capTrig, x.capPend, x.capFirst, x.capLatch)

theorem edgeCluster_capture (s : State) (r t : Nat) (y : FabS) (c : Nat) : (edgeCluster s r t y c).capture = y.capture := by
  unfold edgeCluster
  extract_lets y1
  split <;> simp only [FabS.capture, y1]

theorem edgeResets_capture (t : Nat) (y : FabS) : (edgeResets t y).capture = y.capture := by
  simp only [edgeResets, FabS.capture]

/-- The edge itself leaves what it has captured. -/
theorem treeEdge_capture {s : State} {r t : Nat} (at_ : DWord) (ho : branchOpen s r t = true) :
    ((treeEdge s r t at_).fab r).capture = ((captureTree s r t at_).fab r).capture := by
  rw [treeEdge, if_pos ho]
  extract_lets s1
  rw [fab_setFab_self, edgeResets_capture]
  exact List.foldlRecOn (motive := fun y : FabS => y.capture = (s1.fab r).capture) _ _ rfl fun y hy c _ =>
    (edgeCluster_capture s r t y c).trans hy

theorem treeEdge_closed {s : State} {r t : Nat} (at_ : DWord) (ho : branchOpen s r t = false) : treeEdge s r t at_ = s :=
  if_neg (by rw [ho]; decide)

/-- A cluster that a tree does not clock has no flip-flop on it. -/
theorem onTree_of_not_mem {s : State} {r t : Nat} {c : Fin 96} (h : c.val ∉ clustersOn s r t) : onTree s r c t = 0 := by
  refine BitVec.eq_of_getLsbD_eq fun j hj => ?_
  rw [onTree, wordOf_getLsbD _ hj, decide_eq_false fun hc => h (mem_clustersOn hc)]
  simp

/-- A selected tree's first edge: its flip-flops are latched, it waits no longer, and the first edge of all is kept. -/
theorem captureTree_spec {s : State} {r t : Nat} (at_ : DWord) (hp : (s.fab r).capPend.testBit t = true) :
    ((captureTree s r t at_).fab r).capTrig = (s.fab r).capTrig ∧
    ((captureTree s r t at_).fab r).capPend = clearBit (s.fab r).capPend t ∧
    ((captureTree s r t at_).fab r).capFirst = some ((s.fab r).capFirst.getD at_) ∧
    ∀ c : Fin 96, ((captureTree s r t at_).fab r).capLatch.get c &&& onTree s r c t = (s.fab r).ff.get c &&& onTree s r c t := by
  unfold captureTree
  extract_lets x latch carries bms
  rw [if_neg (by rw [hp]; decide), fab_setFab_self]
  refine ⟨rfl, rfl, ?_, fun c => ?_⟩
  · show _ = some (x.capFirst.getD at_)
    cases x.capFirst <;> rfl
  · by_cases hc : c.val ∈ clustersOn s r t
    · have hl : latch.get c = (x.capLatch.get c &&& ~~~ onTree s r c t) ||| (x.ff.get c &&& onTree s r c t) :=
        Tab.get_foldl_set (fun c w => (w &&& ~~~ onTree s r c t) ||| (x.ff.get c &&& onTree s r c t))
          (List.nodup_range.filter _) hc x.capLatch
      rw [hl]
      exact masked_and fun _ h => h
    · rw [onTree_of_not_mem hc]
      simp

/-- An edge of a selected tree, whole. -/
theorem treeEdge_captures {s : State} {r t : Nat} (at_ : DWord) (ho : branchOpen s r t = true)
    (hp : (s.fab r).capPend.testBit t = true) : ((treeEdge s r t at_).fab r).capTrig = (s.fab r).capTrig ∧
    ((treeEdge s r t at_).fab r).capPend = clearBit (s.fab r).capPend t ∧
    ((treeEdge s r t at_).fab r).capFirst = some ((s.fab r).capFirst.getD at_) ∧
    ∀ c : Fin 96, ((treeEdge s r t at_).fab r).capLatch.get c &&& onTree s r c t = (s.fab r).ff.get c &&& onTree s r c t := by
  have h := treeEdge_capture at_ ho
  simp only [FabS.capture, Prod.mk.injEq] at h
  obtain ⟨ht, hpend, hf, hl⟩ := h
  rw [ht, hpend, hf, hl]
  exact captureTree_spec at_ hp

/-! ### Arming and the trigger -/

/-- An armed capture that sees its trigger waits for the trees that GMASK and RMASK select. -/
theorem captureArm_armed {s : State} {r : Nat} (hst : s.gf F.FAB_CAP_STAT_STATE (fabB r) = 1) (ht : (s.fab r).capTrig = false) :
    captureArm s r = s.setFab r { s.fab r with
      capTrig := true
      capFirst := none
      capPend := s.gf F.FAB_CAP_CTRL_GMASK (fabB r) + s.gf F.FAB_CAP_CTRL_RMASK (fabB r) * 2 ^ 16 } := if_pos ⟨hst, ht⟩

/-- A capture that waits for edges takes no further trigger. -/
theorem captureTrigger_waiting {s : State} {r : Nat} (code : Nat) (ht : (s.fab r).capTrig = true) : captureTrigger s r code = s := by
  have ha : captureArm s r = s := if_neg (by rw [ht]; simp)
  rw [captureTrigger, ha]
  split <;> rfl

theorem captureTrigger_regs (s : State) (r code : Nat) : (captureTrigger s r code).regs = s.regs := by
  rw [captureTrigger, captureArm]
  split
  · split <;> rfl
  · rfl

section
variable {s : State} {r : Rgn} {code : Fin 64} {tr : Fin 24} {sub : Fin 40}

theorem captureTrigger_ends (hst : s.gf F.FAB_CAP_STAT_STATE (fabB r) = 1) (ht : (s.fab r).capTrig = false) :
    Ends (execCaptureTrigger r code [] [] sub s) fun t => if s.gf F.FAB_CAP_CTRL_TRIG (fabB r) = code then
      (t.fab r).capTrig = true ∧ t.gf F.FAB_CAP_STAT_STATE (fabB r) = 1 ∧
        (t.fab r).capPend = s.gf F.FAB_CAP_CTRL_GMASK (fabB r) + s.gf F.FAB_CAP_CTRL_RMASK (fabB r) * 2 ^ 16
      else t.fabs = s.fabs ∧ t.regs = s.regs := by
  have hu : execCaptureTrigger r code [] [] sub s = s.after (captureTrigger s r code) := rfl
  rw [hu]
  apply ends_of_ending
  rw [fab_congr (ending_fabs s _), ending_gf, ending_fabs, ending_regs]
  split
  · next hc =>
    rw [captureTrigger, if_pos hc, captureArm_armed hst ht, fab_setFab_self]
    exact ⟨rfl, hst, rfl⟩
  · next hc =>
    rw [captureTrigger, if_neg hc]
    exact ⟨rfl, rfl⟩

theorem captureEdge_eq (ht : (s.fab r).capTrig = true) :
    execCaptureTrigger r code [] [.edge tr] sub s = s.after (treeEdge s r tr (s.stamp sub)) := by
  have hu : execCaptureTrigger r code [] [.edge tr] sub s = s.after (treeEdge (captureTrigger s r code) r tr (s.stamp sub)) := rfl
  rw [hu, captureTrigger_waiting _ ht]

theorem captureEdge_ends (ht : (s.fab r).capTrig = true) (hp : (s.fab r).capPend.testBit tr = true)
    (ho : branchOpen s r tr = true) : Ends (execCaptureTrigger r code [] [.edge tr] sub s) fun t =>
      (t.fab r).capPend.testBit tr = false ∧ (t.fab r).capFirst = some ((s.fab r).capFirst.getD (s.stamp sub)) ∧
        ∀ c : Fin 96, (t.fab r).capLatch.get c &&& onTree s r c tr = (s.fab r).ff.get c &&& onTree s r c tr := by
  rw [captureEdge_eq ht]
  apply ends_of_ending
  obtain ⟨-, hpend, hf, hl⟩ := treeEdge_captures (s.stamp sub) ho hp
  rw [fab_congr (ending_fabs s _), hpend, hf]
  exact ⟨clearBit_testBit _ _, rfl, hl⟩

theorem captureEdge_closed_ends (ht : (s.fab r).capTrig = true) (hp : (s.fab r).capPend.testBit tr = true) (hc : s.clk r ≠ 0) :
    Ends (execCaptureTrigger r code [] [.edge tr] sub s) fun t =>
      (t.fab r).capPend.testBit tr = true ∧ (t.fab r).capLatch = (s.fab r).capLatch ∧ (t.fab r).ff = (s.fab r).ff := by
  rw [captureEdge_eq ht, treeEdge_closed _ (by rw [branchOpen, decide_eq_false hc, Bool.false_and])]
  apply ends_of_ending
  rw [fab_congr (ending_fabs s _)]
  exact ⟨hp, rfl, rfl⟩

/-! ### The end of a capture -/

theorem reg_addr_ne {p q : Reg} (h : p.off ≠ q.off) (b : Nat) : p.addr b 0 ≠ q.addr b 0 := by
  simp only [Reg.addr]
  omega

/-- A write of a register leaves a 64-bit register apart from it. -/
theorem rd64_wr_ne (s : State) {p q : Reg} (b : Nat) (v : Word) (h : p.off ≠ q.off ∧ p.off + 4 ≠ q.off) :
    (s.wr q b 0 v).rd64 p b = s.rd64 p b := by
  obtain ⟨hl, hh⟩ := h
  have hlo : ((s.wr q b 0 v).regs.tab p.blk).get (p.addr b 0) = (s.regs.tab p.blk).get (p.addr b 0) :=
    rd_wr_ne s (q := p) v (Or.inr (reg_addr_ne hl b))
  have hhi : ((s.wr q b 0 v).regs.tab p.blk).get (p.addr b 0 + 4) = (s.regs.tab p.blk).get (p.addr b 0 + 4) := by
    have := rd_wr_ne s (q := ⟨p.blk, p.off + 4, p.stride⟩) (c := b) (m := 0) v (Or.inr (reg_addr_ne hh b))
    simp only [State.rd, Reg.addr] at this
    rw [Reg.addr, show b + p.off + 0 * p.stride + 4 = b + (p.off + 4) + 0 * p.stride by omega]
    exact this
  rw [State.rd64, State.rd64, hlo, hhi]

/-- A capture that ends, with the time of its first edge. -/
def captureEnded (s : State) (r : Nat) (x : DWord) : State :=
  (((((s.setFab r { s.fab r with capTrig := false, capFirst := none }).wr64 R.FAB_CAP_TIME (fabB r) 0 x).sf
    F.FAB_CAP_STAT_STATE (fabB r) 0 3).count F.FAB_CAP_STAT_CAP_CNT (fabB r)).sb F.FAB_EVT_CAP_DONE (fabB r) 0 true).sb
      F.FAB_CAP_CTRL_START (fabB r) 0 false

theorem captureEnded_latch (s : State) (r : Nat) (x : DWord) :
    ((captureEnded s r x).fab r).capLatch = (s.fab r).capLatch := by
  rw [captureEnded, fab_congr (sb_fabs _ _ _ _ _), fab_congr (sb_fabs _ _ _ _ _), State.count, fab_congr (sf_fabs _ _ _ _ _),
    fab_congr (sf_fabs _ _ _ _ _), fab_congr (wr64_fabs _ _ _ _ _), fab_setFab_self]

/-- What the end of a capture shows. -/
theorem captureEnded_regs (s : State) (r : Nat) (x : DWord) : (captureEnded s r x).rd64 R.FAB_CAP_TIME (fabB r) = x ∧
    (captureEnded s r x).gf F.FAB_CAP_STAT_STATE (fabB r) = 3 ∧ (captureEnded s r x).gb F.FAB_EVT_CAP_DONE (fabB r) = true ∧
    (captureEnded s r x).gb F.FAB_CAP_CTRL_START (fabB r) = false := by
  unfold captureEnded State.count
  generalize hu : State.wr64 _ R.FAB_CAP_TIME (fabB r) 0 x = u
  have hx : u.rd64 R.FAB_CAP_TIME (fabB r) = x := by rw [← hu, rd64_wr64_self]
  refine ⟨?_, ?_, ?_, gb_sb_self _ F.FAB_CAP_CTRL_START _ _ _ (by decide) (by decide)⟩
  · rw [State.sb, State.sf, rd64_wr_ne _ _ _ (by decide), State.sb, State.sf, rd64_wr_ne _ _ _ (by decide), State.sf,
      rd64_wr_ne _ _ _ (by decide), State.sf, rd64_wr_ne _ _ _ (by decide), hx]
  · rw [State.sb, gf_sf_ne _ _ F.FAB_CAP_STAT_STATE _ _ _ _ _ (Or.inr (reg_addr_ne (by decide) _)), State.sb,
      gf_sf_ne _ _ F.FAB_CAP_STAT_STATE _ _ _ _ _ (Or.inr (reg_addr_ne (by decide) _)),
      gf_sf_same_reg _ F.FAB_CAP_STAT_CAP_CNT F.FAB_CAP_STAT_STATE _ _ _ rfl (by decide) (by decide), gf_sf_self _ _ _ _ _ (by decide)]
    rfl
  · refine (congrArg (· != 0) (gf_sf_ne _ F.FAB_CAP_CTRL_START F.FAB_EVT_CAP_DONE _ _ _ _ _
      (Or.inr (reg_addr_ne (by decide) _)))).trans ?_
    exact gb_sb_self _ F.FAB_EVT_CAP_DONE _ _ _ (by decide) (by decide)

theorem captureDone_eq {steps : List FabStep} {u : State} {x : DWord} (hu : runFab s r steps (s.stamp sub) = u)
    (ht : (u.fab r).capTrig = true) (hp : (u.fab r).capPend = 0) (hf : (u.fab r).capFirst = some x) :
    execCaptureDone r steps sub s = s.after (captureEnded u r x) := by
  unfold execCaptureDone
  rw [hu]
  extract_lets f s1 y s2
  have hy : (y.capTrig && decide (y.capPend = 0)) = true := by
    rw [show y.capTrig = true from ht, show y.capPend = 0 from hp]
    rfl
  have hx : y.capFirst.getD (s.stamp sub) = x := by
    rw [show y.capFirst = some x from hf]
    rfl
  rw [if_pos hy, captureEnded, ← hx]

theorem captureDone_ends {x : DWord} (ht : (s.fab r).capTrig = true) (hf : (s.fab r).capFirst = some x)
    (ho : branchOpen s r tr = true) (hp : (s.fab r).capPend = 2 ^ tr.val) :
    Ends (execCaptureDone r [.edge tr] sub s) fun t => t.rd64 R.FAB_CAP_TIME (fabB r) = x ∧
      t.gf F.FAB_CAP_STAT_STATE (fabB r) = 3 ∧ t.gb F.FAB_EVT_CAP_DONE (fabB r) = true ∧
      t.gb F.FAB_CAP_CTRL_START (fabB r) = false ∧
      ∀ c : Fin 96, (t.fab r).capLatch.get c &&& onTree s r c tr = (s.fab r).ff.get c &&& onTree s r c tr := by
  obtain ⟨htr, hpend, hfirst, hl⟩ := treeEdge_captures (s := s) (r := r) (t := tr) (s.stamp sub) ho
    (by rw [hp]; exact Nat.testBit_two_pow_self)
  rw [hp, clearBit, if_pos Nat.testBit_two_pow_self, Nat.sub_self] at hpend
  rw [hf, Option.getD_some] at hfirst
  rw [captureDone_eq (steps := [.edge tr]) (u := treeEdge s r tr (s.stamp sub)) rfl (htr.trans ht) hpend hfirst]
  apply ends_of_ending
  obtain ⟨h1, h2, h3, h4⟩ := captureEnded_regs (treeEdge s r tr (s.stamp sub)) r x
  rw [rd64_congr (ending_regs s _), ending_gf, ending_gb, ending_gb, fab_congr (ending_fabs s _), captureEnded_latch]
  exact ⟨h1, h2, h3, h4, hl⟩

theorem captureDone_waits_ends (hp : (s.fab r).capPend ≠ 0) :
    Ends (execCaptureDone r [] sub s) fun t => t.fabs = s.fabs ∧ t.regs = s.regs := by
  unfold execCaptureDone
  rw [show runFab s r [] (s.stamp sub) = s from rfl]
  apply ends_of_ending
  rw [if_neg (by simp [hp]), ending_fabs, ending_regs]
  exact ⟨rfl, rfl⟩
end

/-! ### Writes of FAB_CAP_CTRL -/

/-- The fields of FAB_CAP_CTRL above ABORT and START. -/
def capCtrlHigh : List FldRow :=
  [⟨31, 16, .rw, [], false⟩, ⟨15, 8, .rw, [], false⟩, ⟨7, 2, .rw, [(0, 47), (63, 63)], false⟩]

/-- A write of FAB_CAP_CTRL leaves START set if it was set or is written so. -/
theorem capCtrl_start (s : State) (b : Nat) (v : Word) :
    (s.plainWrite R.FAB_CAP_CTRL b 0 v).gb F.FAB_CAP_CTRL_START b = (s.gb F.FAB_CAP_CTRL_START b || v.getLsbD 0) :=
  written_w1s (f := F.FAB_CAP_CTRL_START) s (as := capCtrlHigh ++ [⟨1, 1, .w1s, [], false⟩]) (bs := []) (img := false)
    (by decide) (by decide +kernel) (by decide)

/-- The two bits that a command sets in the word it writes. -/
theorem capWord_bits (v : Word) {n : Nat} (h : n < 4) : fOf (v.setBits 1 0 n) F.FAB_CAP_CTRL_START = n % 2 ∧
    fOf (v.setBits 1 0 n) F.FAB_CAP_CTRL_ABORT = n / 2 := by
  have hbit : ∀ i < 2, (v.setBits 1 0 n).getLsbD i = n.testBit i := by
    intro i hi
    rw [Word.setBits_getLsbD _ _ _ _ _ (by omega), if_pos (by omega), Nat.sub_zero]
  have key : ∀ n < 4, (n.testBit 0).toNat = n % 2 ∧ (n.testBit 1).toNat = n / 2 := by decide
  rw [fOf_eq_bit _ rfl, fOf_eq_bit _ rfl, show F.FAB_CAP_CTRL_START.lo = 0 from rfl, show F.FAB_CAP_CTRL_ABORT.lo = 1 from rfl,
    hbit 0 (by decide), hbit 1 (by decide)]
  exact key n h

/-- The capture of a region at rest. -/
def State.captureIdle (s : State) (r : Nat) : State :=
  s.setFab r { s.fab r with capTrig := false, capPend := 0, capFirst := none }

/-- What a write of FAB_CAP_CTRL makes of its fields, before START and ABORT act. -/
def capWritten (s : State) (r : Nat) (v : Word) : State :=
  (s.plainWrite R.FAB_CAP_CTRL (fabB r) 0 v).sb F.FAB_CAP_CTRL_ABORT (fabB r) 0 false

theorem capWritten_start (s : State) (r : Nat) (v : Word) :
    (capWritten s r v).gb F.FAB_CAP_CTRL_START (fabB r) = (s.gb F.FAB_CAP_CTRL_START (fabB r) || v.getLsbD 0) :=
  (congrArg (· != 0) (gf_sf_same_reg _ F.FAB_CAP_CTRL_ABORT F.FAB_CAP_CTRL_START _ _ _ rfl (by decide) (by decide))).trans
    (capCtrl_start s (fabB r) v)

section
variable {s : State} {a : Reader} {r : Rgn}

/-- A write with START, while none runs. -/
theorem capWrite_start {v : Word} (hm : s.mayWrite a r = true) (hs : s.gb F.FAB_CAP_CTRL_START (fabB r) = false)
    (h1 : fOf v F.FAB_CAP_CTRL_START = 1) (h0 : fOf v F.FAB_CAP_CTRL_ABORT = 0) : capWrite s a r v = s.started
      (captureTrigger (((capWritten s r v).sf F.FAB_CAP_STAT_STATE (fabB r) 0 1).captureIdle r) r 0x3F) r := by
  rw [capWrite, fabOwner, if_pos hm]
  dsimp only
  rw [if_neg (by rw [h0]; decide), if_pos ⟨h1, hs⟩, State.captureIdle, fab_congr (sf_fabs _ _ _ _ _), capWritten]

/-- A write with ABORT, while one runs. -/
theorem capWrite_abort {v : Word} (hm : s.mayWrite a r = true) (hs : s.gb F.FAB_CAP_CTRL_START (fabB r) = true)
    (h1 : fOf v F.FAB_CAP_CTRL_ABORT = 1) : capWrite s a r v = s.started
      ((((capWritten s r v).sb F.FAB_CAP_CTRL_START (fabB r) 0 false).sf F.FAB_CAP_STAT_STATE (fabB r) 0 0).captureIdle r) r := by
  rw [capWrite, fabOwner, if_pos hm]
  dsimp only
  rw [if_pos h1, if_pos hs, State.captureIdle, fab_congr (sf_fabs _ _ _ _ _), fab_congr (sb_fabs _ F.FAB_CAP_CTRL_START _ _ _),
    capWritten]

theorem captureStart_ends (v : Word) (hm : s.mayWrite a r = true) (hs : s.gb F.FAB_CAP_CTRL_START (fabB r) = false) :
    Ends (execCaptureStart a r v s) fun t => t.gf F.FAB_CAP_STAT_STATE (fabB r) = 1 ∧
      t.gb F.FAB_CAP_CTRL_START (fabB r) = true ∧
      ((t.fab r).capTrig = true ↔ t.gf F.FAB_CAP_CTRL_TRIG (fabB r) = 0x3F) ∧ (t.fab r).capFirst = none := by
  obtain ⟨h1, h0⟩ := capWord_bits v (n := 1) (by decide)
  apply ends_of_ending
  rw [capWrite_start hm hs h1 h0]
  generalize hu : State.captureIdle _ r = u
  have hregs : u.regs = ((capWritten s r (v.setBits 1 0 1)).sf F.FAB_CAP_STAT_STATE (fabB r) 0 1).regs := by
    rw [← hu]
    exact setFab_regs _ _ _
  have hst : u.gf F.FAB_CAP_STAT_STATE (fabB r) = 1 := by
    rw [gf_congr hregs, gf_sf_self _ _ _ _ _ (by decide)]
    rfl
  have hstart : u.gb F.FAB_CAP_CTRL_START (fabB r) = true := by
    rw [gb_congr hregs]
    refine (congrArg (· != 0) (gf_sf_ne _ F.FAB_CAP_STAT_STATE F.FAB_CAP_CTRL_START _ _ _ _ _
      (Or.inr (reg_addr_ne (by decide) _)))).trans ?_
    refine (capWritten_start s r _).trans ?_
    rw [Word.setBits_getLsbD _ _ _ _ _ (by decide), if_pos (by decide)]
    simp
  have hidle : (u.fab r).capTrig = false ∧ (u.fab r).capFirst = none := by
    rw [← hu, State.captureIdle, fab_setFab_self]
    exact ⟨rfl, rfl⟩
  obtain ⟨htrig, hfirst⟩ := hidle
  have hend : (s.ending (s.started (captureTrigger u r 0x3F) r)).regs = u.regs := by
    rw [ending_regs, started_regs, captureTrigger_regs]
  rw [gf_congr hend, gb_congr hend, gf_congr hend, fab_congr (ending_fabs s _), fab_congr (started_fabs s _ r)]
  refine ⟨hst, hstart, ?_⟩
  by_cases hc : u.gf F.FAB_CAP_CTRL_TRIG (fabB r) = 0x3F
  · rw [captureTrigger, if_pos hc, captureArm_armed hst htrig, fab_setFab_self]
    exact ⟨⟨fun _ => hc, fun _ => rfl⟩, rfl⟩
  · rw [captureTrigger, if_neg hc, htrig]
    exact ⟨⟨fun h => absurd h (by decide), fun h => absurd h hc⟩, hfirst⟩

theorem captureAbort_ends (hm : s.mayWrite a r = true) (hs : s.gb F.FAB_CAP_CTRL_START (fabB r) = true) :
    Ends (execCaptureAbort a r s) fun t => t.gf F.FAB_CAP_STAT_STATE (fabB r) = 0 ∧
      t.gb F.FAB_CAP_CTRL_START (fabB r) = false ∧ (t.fab r).capTrig = false := by
  obtain ⟨-, h1⟩ := capWord_bits (s.rd R.FAB_CAP_CTRL (fabB r)) (n := 2) (by decide)
  apply ends_of_ending
  rw [capWrite_abort hm hs h1]
  generalize hw : (capWritten s r _).sb F.FAB_CAP_CTRL_START (fabB r) 0 false = w
  have hend : (s.ending (s.started ((w.sf F.FAB_CAP_STAT_STATE (fabB r) 0 0).captureIdle r) r)).regs =
      (w.sf F.FAB_CAP_STAT_STATE (fabB r) 0 0).regs := by
    rw [ending_regs, started_regs]
    exact setFab_regs _ _ _
  rw [gf_congr hend, gb_congr hend, fab_congr (ending_fabs s _), fab_congr (started_fabs s _ r), State.captureIdle,
    fab_setFab_self, gf_sf_self _ _ _ _ _ (by decide)]
  refine ⟨Nat.zero_mod _, ?_, rfl⟩
  refine (congrArg (· != 0) (gf_sf_ne _ F.FAB_CAP_STAT_STATE F.FAB_CAP_CTRL_START _ _ _ _ _
    (Or.inr (reg_addr_ne (by decide) _)))).trans ?_
  rw [← hw]
  exact gb_sb_self _ F.FAB_CAP_CTRL_START _ _ _ (by decide) (by decide)
end

/-- Settles O26: what resets, edges, lines, spoor ports, groups of user registers and the capture snapshot leave. -/
theorem fabricLines : Obligations.FabricLines :=
  ⟨fun _ _ _ h => globalReset_on_ends h,
   fun _ _ _ h => globalReset_off_ends h,
   fun _ _ _ _ _ c hm hk => fabRstPulse_ends c hm hk,
   fun _ _ _ _ _ _ _ ho hc he => edge_ends ho hc he,
   runRequest_ends,
   fun _ _ _ _ hclk hsrc hurg hmode hc hp => fabricTrigger_ends hclk hsrc hurg hmode hc hp,
   fun _ _ _ _ _ _ hen hclk ⟨hcls, h0⟩ hflow hd ha => spoorStrobe_ends hen hclk hcls h0 hflow hd ha,
   fun _ _ _ _ hen hclk hcls hfree => spoorAlarm_ends hen hclk hcls hfree,
   fun _ _ _ _ _ _ _ _ _ hg ⟨hs, hr⟩ hw hseg => uregGroup_ends hg hs hr hw hseg,
   fun _ _ _ _ _ _ _ _ _ hg ⟨hs, hr⟩ hw hseg => uregGroup_wide_ends hg hs hr hw hseg,
   fun _ _ _ _ _ _ live ⟨hs, hr⟩ hw ⟨hc, hd⟩ => uregSegments_ends live hs hr hw hc hd,
   fun _ _ _ v hm hs => captureStart_ends v hm hs,
   fun _ _ _ _ ⟨hst, ht⟩ => captureTrigger_ends hst ht,
   fun _ _ _ _ _ ⟨ht, hp⟩ ho => captureEdge_ends ht hp ho,
   fun _ _ _ _ _ ⟨ht, hp⟩ hc => captureEdge_closed_ends ht hp hc,
   fun _ _ _ _ _ ⟨ht, hf⟩ ho hp => captureDone_ends ht hf ho hp,
   fun _ _ _ hp => captureDone_waits_ends hp,
   fun _ _ _ hm hs => captureAbort_ends hm hs⟩

end Sys2Proof.Machine

/-! ## Analogue cells, sample-and-hold and clipping (R74 to R82, R100) -/

namespace Sys2Proof.Machine

/-! ### What a cluster holds -/

@[simp] theorem started_ana (s t : State) (r : Nat) : (s.started t r).ana = t.ana := by
  unfold State.started
  split <;> rfl

@[simp] theorem ending_ana (s t : State) : (s.ending t).ana = t.ana := settle_ana t

theorem clu_congr {s t : State} (h : t.ana = s.ana) (r k : Nat) : t.clu r k = s.clu r k := by rw [State.clu, State.clu, h]

theorem clu_setClu_self (s : State) (r k : Nat) (x : CluS) : (s.setClu r k x).clu r k = x := Tab.get_set_self _ _ _

theorem clu_setClu_ne (s : State) {r j k : Nat} (h : j ≠ k) (x : CluS) : (s.setClu r k x).clu r j = s.clu r j :=
  Tab.get_set_ne _ _ (by simp only [cluKey]; omega)

/-- A fold that gives each cluster of a list its value. -/
theorem clu_foldl_setClu (f : Nat → CluS) (r j : Nat) (l : List Nat) (s : State) :
    (l.foldl (fun t k => t.setClu r k (f k)) s).clu r j = if j ∈ l then f j else s.clu r j := by
  induction l generalizing s with
  | nil => rfl
  | cons k l ih =>
    rw [List.foldl_cons, ih]
    by_cases hl : j ∈ l
    · rw [if_pos hl, if_pos (List.mem_cons_of_mem _ hl)]
    · rw [if_neg hl]
      by_cases hk : j = k
      · rw [hk, clu_setClu_self, if_pos List.mem_cons_self]
      · rw [clu_setClu_ne _ hk, if_neg (by simp [hk, hl])]

/-! ### A write by the owner -/

/-- What a write by the owner leaves: its effect, with the start of a clock that it asks for (R29, R65). -/
theorem ends_asOwner {s : State} {a : Reader} {r : Nat} {f : State → State} {p : State → Prop} (hm : s.mayWrite a r = true)
    (h : p (s.ending (s.started (f s) r))) : Ends (s.after (s.asOwner a r f)) p := by
  rw [State.asOwner, if_pos hm]
  exact ends_of_ending h

section
variable {s : State} {a : Reader} {r : Rgn} {k : Fin 12} {n : Fin 8} {v w : Word}

/-! ### AC_CELLn_CFG -/

/-- The registers of a cell that takes a configuration word: the word and ACTIVE. -/
theorem applyCellCfg_regs (s : State) (r k n : Nat) (w : Word) :
    (applyCellCfg s r k n w).regs = ((s.wr R.AC_CELLn_CFG (acB r k) n w).sb F.AC_CELLn_STAT_ACTIVE (acB r k) n
      (fOf w F.AC_CELLn_CFG_MODE != 0)).regs := by
  unfold applyCellCfg
  extract_lets b old mode opens s1 s2 c
  have h2 : s2.regs = s1.regs := by
    show (if opens then s1.setOut r k n false else s1).regs = _
    split
    · exact setClu_regs _ _ _ _
    · rfl
  split
  · exact h2
  · rw [setClu_regs, h2]

/-- A change of FUNC opens the output switches (R78). -/
theorem applyCellCfg_opens (s : State) (r k n : Nat) (w : Word)
    (h : fOf w F.AC_CELLn_CFG_FUNC ≠ s.gf F.AC_CELLn_CFG_FUNC (acB r k) n) :
    ((applyCellCfg s r k n w).clu r k).closedOut.get n = 0 := by
  unfold applyCellCfg
  extract_lets b old mode opens s1 s2 c
  have ho : opens = true := by
    have : (fOf w F.AC_CELLn_CFG_FUNC != fOf old F.AC_CELLn_CFG_FUNC) = true := bne_iff_ne.2 h
    simp only [opens, this, Bool.true_or]
  have h2 : (s2.clu r k).closedOut.get n = 0 := by
    rw [show s2 = s1.setOut r k n false from if_pos ho, State.setOut, clu_setClu_self]
    exact Tab.get_set_self _ _ _
  split
  · exact h2
  · rw [clu_setClu_self]
    exact h2

theorem acCellCfgWrite_ends (hm : s.mayWrite a r = true) (hg : cellMigrating s r k n = false)
    (hw : cellWithin (s.merged R.AC_CELLn_CFG (acB r k) n v) (s.rd R.AC_CELLn_FILT (acB r k) n)
      (s.gf F.AC_CTRL_SC_DIV (acB r k)) = true) :
    Ends (execAcCellCfgWrite a r k n v s) fun t =>
      t.rd R.AC_CELLn_CFG (acB r k) n = s.merged R.AC_CELLn_CFG (acB r k) n v ∧
      t.gb F.AC_CELLn_STAT_ACTIVE (acB r k) n = (fOf (s.merged R.AC_CELLn_CFG (acB r k) n v) F.AC_CELLn_CFG_MODE != 0) ∧
      (fOf (s.merged R.AC_CELLn_CFG (acB r k) n v) F.AC_CELLn_CFG_FUNC ≠ s.gf F.AC_CELLn_CFG_FUNC (acB r k) n →
        (t.clu r k).closedOut.get n = 0) := by
  refine ends_asOwner hm ?_
  simp only [hg, hw, Bool.false_or, Bool.not_true, Bool.false_eq_true, if_false]
  have hr := (ending_regs s _).trans ((started_regs s _ r.val).trans
    (applyCellCfg_regs s r k n (s.merged R.AC_CELLn_CFG (acB r k) n v)))
  refine ⟨?_, ?_, fun hf => ?_⟩
  · rw [rd_congr hr, State.sb, State.sf, rd_wr_ne _ _ (Or.inr (by simp [Reg.addr, R.AC_CELLn_CFG, F.AC_CELLn_STAT_ACTIVE,
      R.AC_CELLn_STAT])), rd_wr_self]
  · rw [gb_congr hr, gb_sb_self _ _ _ _ _ (by decide) (by decide)]
  · rw [clu_congr ((ending_ana s _).trans (started_ana s _ r.val))]
    exact applyCellCfg_opens s r k n _ hf

/-! ### AC_CELLn_FILT, AC_CELLn_ROUTE and AC_CTRL -/

/-- What a write of one register by the owner leaves in it. -/
theorem ends_ownerWr {q : Reg} {b m : Nat} {f : State → State} (hm : s.mayWrite a r = true) (hf : f s = s.wr q b m w) :
    Ends (s.after (s.asOwner a r f)) fun t => t.rd q b m = w := by
  refine ends_asOwner hm ?_
  rw [rd_congr ((ending_regs s _).trans (started_regs s _ r.val)), hf, rd_wr_self]

theorem acCellFiltWrite_ends (hm : s.mayWrite a r = true) (hg : cellMigrating s r k n = false)
    (hw : cellWithin (s.rd R.AC_CELLn_CFG (acB r k) n) (s.merged R.AC_CELLn_FILT (acB r k) n v)
      (s.gf F.AC_CTRL_SC_DIV (acB r k)) = true) :
    Ends (execAcCellFiltWrite a r k n v s) fun t =>
      t.rd R.AC_CELLn_FILT (acB r k) n = s.merged R.AC_CELLn_FILT (acB r k) n v :=
  ends_ownerWr hm (if_neg (by simp [hg, hw]))

theorem acCellRouteWrite_ends (hm : s.mayWrite a r = true) (hg : cellMigrating s r k n = false)
    (hl : missingLine r (routeWord s r k n v) = false) (hd : secondDriver s r k n (routeWord s r k n v) = false) :
    Ends (execAcCellRouteWrite a r k n v s) fun t => t.rd R.AC_CELLn_ROUTE (acB r k) n = routeWord s r k n v :=
  ends_ownerWr hm ((if_neg (by simp [hg, hl])).trans (if_neg (by simp [hd])))

theorem acCtrlWrite_ends (hm : s.mayWrite a r = true) (hw : ((List.range 8).all fun n =>
      s.gf F.AC_CELLn_CFG_FUNC (acB r k) n != 5 || cellWithin (s.rd R.AC_CELLn_CFG (acB r k) n)
        (s.rd R.AC_CELLn_FILT (acB r k) n) (fOf (s.merged R.AC_CTRL (acB r k) 0 v) F.AC_CTRL_SC_DIV)) = true) :
    Ends (execAcCtrlWrite a r k v s) fun t => t.rd R.AC_CTRL (acB r k) = s.merged R.AC_CTRL (acB r k) 0 v :=
  ends_ownerWr hm (if_pos hw)

/-! ### Output switches and clipping -/

theorem outputSwitchClose_ends (h : cellOn s r k n = true) :
    Ends (execOutputSwitchClose r k n s) fun t => (t.clu r k).closedOut.get n = 1 := by
  apply ends_of_ending
  rw [if_pos h, clu_congr (ending_ana s _), State.setOut, clu_setClu_self]
  exact Tab.get_set_self _ _ _

theorem cellClip_ends {e : Levels} (ho : cellOn s r k n = true) (hc : clips (cellWants s e r k n) = true) :
    Ends (execCellClip r k n e s) fun t => t.gb F.AC_CELLn_STAT_CLIP (acB r k) n = true := by
  apply ends_of_ending
  rw [if_pos (by rw [ho, hc]; rfl), ending_gb, gb_sb_self _ _ _ _ _ (by decide) (by decide)]

/-! ### Sample-and-hold -/

/-- What a sample-and-hold cell holds: the time left, and the level it took. -/
def CluS.holds (c : CluS) (n : Nat) : Option Nat × Option Volt := (c.hold.get n, c.held.get n)

/-- A trigger edge changes what one cell holds, and only where the cell takes it. -/
theorem holds_holdCell (s : State) (e : Option Levels) (r k trig : Nat) (c : CluS) (m n : Nat) :
    (holdCell s e r k trig c m).holds n = if n = m ∧ takesTrigger s r k n trig = true then
      (some (10 * s.gf F.AC_CELLn_AUX_HOLD_T (acB r k) n),
        e.map fun e => inputLevel s e r k (s.gf F.AC_CELLn_ROUTE_INP (acB r k) n)) else c.holds n := by
  unfold holdCell
  by_cases hn : n = m
  · subst hn
    by_cases ht : takesTrigger s r k n trig = true
    · rw [if_pos ht, if_pos ⟨rfl, ht⟩, CluS.holds, Tab.get_set_self, Tab.get_set_self]
    · rw [if_neg ht, if_neg fun h => ht h.2]
  · rw [if_neg (show ¬(n = m ∧ takesTrigger s r k n trig = true) from fun h => hn h.1)]
    split
    · rw [CluS.holds, Tab.get_set_ne _ _ hn, Tab.get_set_ne _ _ hn, CluS.holds]
    · rfl

/-- A cell of a list that takes a trigger edge holds the level of its P input for its hold time. -/
theorem holds_foldl_holdCell (s : State) (e : Option Levels) (r k trig : Nat) {n : Nat} (ht : takesTrigger s r k n trig = true)
    (l : List Nat) (c : CluS) :
    (l.foldl (holdCell s e r k trig) c).holds n = if n ∈ l then
      (some (10 * s.gf F.AC_CELLn_AUX_HOLD_T (acB r k) n),
        e.map fun e => inputLevel s e r k (s.gf F.AC_CELLn_ROUTE_INP (acB r k) n)) else c.holds n := by
  induction l generalizing c with
  | nil => rfl
  | cons m l ih =>
    rw [List.foldl_cons, ih, holds_holdCell]
    by_cases hl : n ∈ l
    · rw [if_pos hl, if_pos (List.mem_cons_of_mem _ hl)]
    · rw [if_neg hl]
      by_cases hm : n = m
      · rw [if_pos ⟨hm, ht⟩, if_pos (hm ▸ List.mem_cons_self)]
      · rw [if_neg fun h => hm h.1, if_neg fun h => (List.mem_cons.1 h).elim hm hl]

theorem shTrigger_ends {trig : Fin 32} {e : Levels} (ht : takesTrigger s r k n trig = true) :
    Ends (execShTrigger r trig e s) fun t => (t.clu r k).hold.get n = some (10 * s.gf F.AC_CELLn_AUX_HOLD_T (acB r k) n) ∧
      (t.clu r k).held.get n = some (inputLevel s e r k (s.gf F.AC_CELLn_ROUTE_INP (acB r k) n)) := by
  apply ends_of_ending
  rw [clu_congr (ending_ana s _), shEdge, clu_foldl_setClu, if_pos (List.mem_range.2 k.isLt)]
  have h := holds_foldl_holdCell s (some e) r k trig ht (List.range 8) (s.clu r k)
  rw [if_pos (List.mem_range.2 n.isLt)] at h
  exact ⟨congrArg Prod.fst h, congrArg Prod.snd h⟩

theorem shHoldEnd_ends : Ends (execShHoldEnd r k n s) fun t => (t.clu r k).hold.get n = none := by
  apply ends_of_ending
  rw [clu_congr (ending_ana s _), clu_setClu_self]
  exact Tab.get_set_self _ _ _
end

/-- Settles O11: what each write that is allowed, a switch, a trigger, the end of a hold and a clip leave. -/
theorem analogueCells : Obligations.AnalogueCells :=
  ⟨fun _ _ _ _ _ _ hm hg hw => acCellCfgWrite_ends hm hg hw,
   fun _ _ _ _ _ _ hm hg hw => acCellFiltWrite_ends hm hg hw,
   fun _ _ _ _ _ _ hm hg hl hd => acCellRouteWrite_ends hm hg hl hd,
   fun _ _ _ _ _ hm hw => acCtrlWrite_ends hm hw,
   fun _ _ _ _ h => outputSwitchClose_ends h,
   fun _ _ _ _ _ _ ht => shTrigger_ends ht,
   fun _ _ _ _ => shHoldEnd_ends,
   fun _ _ _ _ _ ho hc => cellClip_ends ho hc⟩

end Sys2Proof.Machine

/-! ## References, injection and live migration (R88 to R99, R134) -/

namespace Sys2Proof.Machine

/-! ### Fields of a cluster's registers -/

/-- A field written leaves the fields of the registers at other offsets of its block. -/
theorem gf_sf_off (s : State) {f g : Fld} (b v : Nat) (h : g.reg.off ≠ f.reg.off) :
    (s.sf f b 0 v).gf g b = s.gf g b := gf_sf_ne s f g b 0 v b 0 (Or.inr (reg_addr_ne h b))

theorem gf_sb_off (s : State) {f g : Fld} (b : Nat) (v : Bool) (h : g.reg.off ≠ f.reg.off) :
    (s.sb f b 0 v).gf g b = s.gf g b := gf_sf_off s b _ h

theorem gb_sf_off (s : State) {f g : Fld} (b v : Nat) (h : g.reg.off ≠ f.reg.off) :
    (s.sf f b 0 v).gb g b = s.gb g b := congrArg (· != 0) (gf_sf_off s b v h)

/-- The registers of a cell stand apart from those that a cluster has one of. -/
theorem cellReg_addr_ne {p q : Reg} {n : Nat} (b : Nat) (hp : (p.off < 0x100 ∨ 0x200 ≤ p.off) ∧ p.stride = 0)
    (hq : 0x100 ≤ q.off ∧ q.off < 0x120 ∧ q.stride = 0x20) (hn : n < 8) : p.addr b 0 ≠ q.addr b n := by
  obtain ⟨hp, hs⟩ := hp
  obtain ⟨hlo, hhi, hst⟩ := hq
  simp only [Reg.addr, hst]
  omega

/-! ### References (R88) -/

/-- A flag written in each cluster of a list reads so in those, and elsewhere as before. -/
theorem gb_foldl_sb (f : Fld) (hf : f.hi < 32 ∧ f.lo ≤ f.hi) (r j : Nat) (on : Bool) (l : List Nat) (s : State) :
    (l.foldl (fun s k => s.sb f (acB r k) 0 on) s).gb f (acB r j) = if j ∈ l then on else s.gb f (acB r j) := by
  induction l generalizing s with
  | nil => rfl
  | cons k l ih =>
    rw [List.foldl_cons, ih]
    by_cases hl : j ∈ l
    · rw [if_pos hl, if_pos (List.mem_cons_of_mem _ hl)]
    · rw [if_neg hl]
      by_cases hk : j = k
      · rw [hk, gb_sb_self _ _ _ _ _ hf.1 hf.2, if_pos List.mem_cons_self]
      · rw [if_neg fun h => (List.mem_cons.1 h).elim hk hl]
        refine congrArg (· != 0) (gf_sf_ne s f f _ _ _ _ _ (Or.inr ?_))
        simp only [Reg.addr, acB]
        omega

theorem setRefFault_refFault (s : State) (r : Nat) (on : Bool) {k : Nat} (hk : k < 12) :
    (setRefFault s r on).gb F.AC_STATUS_REF_FAULT (acB r k) = on :=
  (gb_foldl_sb _ (by decide) r k on _ s).trans (if_pos (List.mem_range.2 hk))

theorem setRefFault_rgn (s : State) (r : Nat) (on : Bool) : (setRefFault s r on).rgn = s.rgn :=
  foldl_kept State.rgn (fun t _ => sb_rgn t _ _ _ _) _ s

section
variable {s : State} {a : Reader} {r : Rgn} {k : Fin 12}

theorem refFault_ends {diff : Int} (hf : (s.rgnS r).refFault = false) (hr : refRuns s = true) (hd : 60 < diff.natAbs) :
    Ends (execRefFault r diff s) fun t => (t.rgnS r).refFault = true ∧ t.gb F.AC_STATUS_REF_FAULT (acB r k) = true := by
  apply ends_of_ending
  rw [if_neg (by simp [hf, hr, hd]), ending_rgnS, ending_gb, rgnS_congr (raise_rgn _ _ _ _), gb_congr (raise_regs _ _ _ _),
    rgnS_congr (setRefFault_rgn _ _ _), rgnS_setRgn_self, setRefFault_refFault _ _ _ k.isLt]
  exact ⟨rfl, rfl⟩

theorem refFaultClear_ends :
    Ends (execRefFaultClear r s) fun t => (t.rgnS r).refFault = false ∧ t.gb F.AC_STATUS_REF_FAULT (acB r k) = false := by
  apply ends_of_ending
  rw [ending_rgnS, ending_gb, rgnS_congr (setRefFault_rgn _ _ _), rgnS_setRgn_self, setRefFault_refFault _ _ _ k.isLt]
  exact ⟨rfl, rfl⟩

/-! ### Injection (R90, R91, R134) -/

/-- The registers of the injection detectors show the bits of those that are tripped. -/
theorem showInjected_aio (s : State) (r : Nat) : (showInjected s r).gf F.AC_INJ_AIO_AIO (acB r 0) =
    (s.gf F.AC_INJ_AIO_AIO (acB r 0) ||| (s.rgnS r).injNow % 2 ^ 32) % 2 ^ 32 :=
  (gf_sf_off _ _ _ (by decide)).trans (gf_sf_self s _ _ _ _ (by decide))

theorem showInjected_fin (s : State) (r : Nat) : (showInjected s r).gf F.AC_INJ_FIN_FIN (acB r 0) =
    (s.gf F.AC_INJ_FIN_FIN (acB r 0) ||| (s.rgnS r).injNow / 2 ^ 32) % 2 ^ 8 :=
  gf_sf_self _ _ _ _ _ (by decide)

theorem showInjected_rgn (s : State) (r : Nat) : (showInjected s r).rgn = s.rgn :=
  (sf_rgn _ _ _ _ _).trans (sf_rgn s _ _ _ _)

/-- The cells that clip leave the detectors' registers, and what region control holds. -/
theorem clipInjected_rgn (s : State) (r j : Nat) : (clipInjected s r j).rgn = s.rgn :=
  by
  refine foldl_kept State.rgn (fun t c => ?_) _ s
  split
  · exact sb_rgn t _ _ _ _
  · rfl

theorem clipInjected_aio (s : State) (r j : Nat) :
    (clipInjected s r j).gf F.AC_INJ_AIO_AIO (acB r 0) = s.gf F.AC_INJ_AIO_AIO (acB r 0) := by
  refine foldl_kept (fun t => t.gf F.AC_INJ_AIO_AIO (acB r 0)) (fun t c => ?_) _ s
  split
  · refine gf_sf_ne t F.AC_CELLn_STAT_CLIP F.AC_INJ_AIO_AIO _ _ _ _ _ (Or.inr ?_)
    simp only [Reg.addr, F.AC_INJ_AIO_AIO, F.AC_CELLn_STAT_CLIP, R.AC_INJ_AIO, R.AC_CELLn_STAT, acB]
    omega
  · rfl

theorem injectionDetect_aio_ends {ball : Fin 40} (hb : ball.val < 32) : Ends (execInjectionDetect r ball s) fun t =>
    (t.gf F.AC_INJ_AIO_AIO (acB r 0)).testBit ball = true ∧ (t.rgnS r).injSettle = true := by
  apply ends_of_ending
  rw [if_pos hb, ending_gf, ending_rgnS, clipInjected_aio, rgnS_congr (clipInjected_rgn _ _ _), rgnS_congr (showInjected_rgn _ _),
    showInjected_aio, rgnS_setRgn_self]
  refine ⟨?_, rfl⟩
  rw [Nat.testBit_mod_two_pow, Nat.testBit_or, Nat.testBit_mod_two_pow, Nat.testBit_or, Nat.testBit_two_pow_self]
  simp [hb]

theorem injectionDetect_fin_ends {ball : Fin 40} (hb : 32 ≤ ball.val) : Ends (execInjectionDetect r ball s) fun t =>
    (t.gf F.AC_INJ_FIN_FIN (acB r 0)).testBit (ball - 32) = true ∧ (t.rgnS r).injSettle = true := by
  apply ends_of_ending
  rw [if_neg (by omega), ending_gf, ending_rgnS, rgnS_congr (showInjected_rgn _ _), showInjected_fin, rgnS_setRgn_self]
  refine ⟨?_, rfl⟩
  have hw : ball.val - 32 < 8 := by omega
  rw [Nat.testBit_mod_two_pow, Nat.testBit_or, Nat.testBit_div_two_pow, Nat.sub_add_cancel hb]
  simp [Nat.testBit_or, hw]

theorem injectionRelease_ends :
    Ends (execInjectionRelease r s) fun t => (t.rgnS r).injNow = 0 ∧ (t.rgnS r).injSettle = false := by
  apply ends_of_ending
  rw [ending_rgnS, rgnS_setRgn_self]
  exact ⟨rfl, rfl⟩

/-! ### The registers of a migration (R92 to R100) -/

theorem migResult_state (s : State) (b x y : Nat) :
    (migResult s b x y).gf F.AC_MIG_STAT_STATE b = s.gf F.AC_MIG_STAT_STATE b :=
  (gf_sf_same_reg _ F.AC_MIG_STAT_CAUSE F.AC_MIG_STAT_STATE _ _ _ rfl (by decide) (by decide)).trans
    (gf_sf_same_reg s F.AC_MIG_STAT_RESULT F.AC_MIG_STAT_STATE _ _ _ rfl (by decide) (by decide))

theorem migResult_result (s : State) (b x y : Nat) : (migResult s b x y).gf F.AC_MIG_STAT_RESULT b = x % 4 :=
  (gf_sf_same_reg _ F.AC_MIG_STAT_CAUSE F.AC_MIG_STAT_RESULT _ _ _ rfl (by decide) (by decide)).trans
    (gf_sf_self s _ _ _ _ (by decide))

theorem migResult_ana (s : State) (b x y : Nat) : (migResult s b x y).ana = s.ana :=
  (sf_ana _ _ _ _ _).trans (sf_ana s _ _ _ _)

theorem migEnd_state (s : State) (r k : Nat) : (migEnd s r k).gf F.AC_MIG_STAT_STATE (acB r k) = 0 :=
  (gf_sb_off _ _ _ (by decide)).trans (gf_sf_self s _ _ _ _ (by decide))

theorem migEnd_result (s : State) (r k : Nat) :
    (migEnd s r k).gf F.AC_MIG_STAT_RESULT (acB r k) = s.gf F.AC_MIG_STAT_RESULT (acB r k) :=
  (gf_sb_off _ _ _ (by decide)).trans
    (gf_sf_same_reg s F.AC_MIG_STAT_STATE F.AC_MIG_STAT_RESULT _ _ _ rfl (by decide) (by decide))

theorem migGo_state (s : State) (r k st ns : Nat) : (migGo s r k st ns).gf F.AC_MIG_STAT_STATE (acB r k) = st % 8 :=
  (gf_congr (setClu_regs _ _ _ _) _ _ _).trans (gf_sf_self s _ _ _ _ (by decide))

theorem migGo_forced (s : State) (r k st ns : Nat) : ((migGo s r k st ns).clu r k).forced = (s.clu r k).forced := by
  rw [migGo, clu_setClu_self]

/-! ### A migration begins (R92 to R94) -/

/-- A request that nothing refuses, of a cell that is on: step 1, and the cell that moves. -/
theorem migStart_runs {s : State} {r k n : Nat} (w : Bool) (hf : s.gb F.AC_SPARE_STAT_FREE (acB r k) = true)
    (hs : s.gf F.AC_MIG_STAT_STATE (acB r k) = 0) (ho : s.gf F.RGN_STAT_OWNER (rgB r) ≠ 0)
    (hm : s.gf F.AC_CELLn_CFG_MODE (acB r k) n ≠ 0) :
    (migStart s r k n w).gf F.AC_MIG_STAT_STATE (acB r k) = 1 ∧ ((migStart s r k n w).clu r k).migCell = n := by
  rw [migStart, if_neg (by simp [hf]), if_neg (by simp [hs]), if_neg ho, if_neg hm]
  refine ⟨?_, ?_⟩
  · rw [migResult_state, gf_sf_same_reg _ F.AC_MIG_STAT_OFS_RES F.AC_MIG_STAT_STATE _ _ _ rfl (by decide) (by decide),
      gf_sf_self _ _ _ _ _ (by decide)]
    rfl
  · rw [clu_congr (migResult_ana _ _ _ _), clu_congr ((sf_ana _ _ _ _ _).trans (sf_ana _ _ _ _ _)), clu_setClu_self]

/-- A region that takes a write has an owner. -/
theorem owner_of_mayWrite {s : State} {a : Reader} {r : Nat} (h : s.mayWrite a r = true) : s.gf F.RGN_STAT_OWNER (rgB r) ≠ 0 := by
  intro h0
  unfold State.mayWrite at h
  simp [h0] at h

/-- The word of a request: the cell, and START. -/
theorem migWord_fields : ∀ n : Fin 8,
    fOf (((0 : Word).setBits F.AC_MIG_CELL.hi F.AC_MIG_CELL.lo n.val).setBits F.AC_MIG_START.hi F.AC_MIG_START.lo 1)
      F.AC_MIG_CELL = n ∧
    fOf (((0 : Word).setBits F.AC_MIG_CELL.hi F.AC_MIG_CELL.lo n.val).setBits F.AC_MIG_START.hi F.AC_MIG_START.lo 1)
      F.AC_MIG_START = 1 := by decide

theorem migrationStart_ends {n : Fin 8} (hm : s.mayWrite a r = true) (hst : s.gb F.AC_MIG_START (acB r k) = false)
    (hf : s.gb F.AC_SPARE_STAT_FREE (acB r k) = true) (hs : s.gf F.AC_MIG_STAT_STATE (acB r k) = 0)
    (hmode : s.gf F.AC_CELLn_CFG_MODE (acB r k) n ≠ 0) : Ends (execMigrationStart (.by a) r k n s) fun t =>
      t.gf F.AC_MIG_STAT_STATE (acB r k) = 1 ∧ t.gb F.AC_MIG_START (acB r k) = true ∧ (t.clu r k).migCell = n := by
  obtain ⟨hcell, hreq⟩ := migWord_fields n
  refine ends_asOwner hm ?_
  simp only [hcell, hreq, hst, hs, one_ne_zero, false_or, true_and, Bool.false_eq_true, if_false]
  generalize hs1 : s.sf F.AC_MIG_CELL (acB r k) 0 n = s1
  obtain ⟨hstate, hmig⟩ : (migStart s1 r k n true).gf F.AC_MIG_STAT_STATE (acB r k) = 1 ∧
      ((migStart s1 r k n true).clu r k).migCell = n := by
    subst hs1
    refine migStart_runs true ?_ ?_ ?_ ?_
    · rw [gb_sf_off _ _ _ (by decide), hf]
    · rw [gf_sf_off _ _ _ (by decide), hs]
    · rw [gf_sf_ne _ F.AC_MIG_CELL F.RGN_STAT_OWNER _ _ _ _ _ (Or.inl (by decide))]
      exact owner_of_mayWrite hm
    · rw [gf_sf_ne _ F.AC_MIG_CELL F.AC_CELLn_CFG_MODE _ _ _ _ _
        (Or.inr (cellReg_addr_ne _ (by decide) (by decide) n.isLt).symm)]
      exact hmode
  rw [if_pos (by rw [hstate]; decide), ending_gf, ending_gb, gf_congr (started_regs _ _ _), gb_congr (started_regs _ _ _),
    gf_sb_off _ _ _ (by decide), gb_sb_self _ _ _ _ _ (by decide) (by decide),
    clu_congr ((ending_ana s _).trans ((started_ana s _ r.val).trans (sb_ana _ _ _ _ _)))]
  exact ⟨hstate, rfl, hmig⟩

/-! ### The steps of a migration (R95 to R99) -/

variable {ok : Bool} {trim meas : Nat}

theorem migrationStep1_ends (hp : (s.clu r k).paused = false) (hs : s.gf F.AC_MIG_STAT_STATE (acB r k) = 1) :
    Ends (execMigrationStepEnd r k ok trim meas s) fun t => t.gf F.AC_MIG_STAT_STATE (acB r k) = 2 := by
  apply ends_of_ending
  simp only [hp, hs, Bool.false_eq_true, if_false]
  rw [ending_gf, migGo_state]

/-- A spare that cannot match is failed and consumed, and the migration has ended without success (R99). -/
theorem migSpareFail_spec (s : State) (r : Rgn) (k : Fin 12) (n cause : Nat) :
    (migSpareFail s r k n cause).gf F.AC_MIG_STAT_STATE (acB r k) = 0 ∧
    (migSpareFail s r k n cause).gb F.AC_SPARE_STAT_FAILED (acB r k) = true ∧
    (migSpareFail s r k n cause).gb F.AC_SPARE_STAT_FREE (acB r k) = false ∧
    (migSpareFail s r k n cause).gf F.AC_MIG_STAT_RESULT (acB r k) = 3 := by
  have hr : (migSpareFail s r k n cause).regs = (((migEnd (migResult s (acB r k) 3 cause) r k).sb F.AC_SPARE_STAT_FAILED
      (acB r k) 0 true).sb F.AC_SPARE_STAT_FREE (acB r k) 0 false).regs := (raise_regs _ _ _ _).trans (useSpare_regs _ _ _ _ _)
  refine ⟨?_, ?_, ?_, ?_⟩
  · rw [gf_congr hr, gf_sb_off _ _ _ (by decide), gf_sb_off _ _ _ (by decide), migEnd_state]
  · rw [gb_congr hr]
    refine (congrArg (· != 0) (gf_sf_same_reg _ F.AC_SPARE_STAT_FREE F.AC_SPARE_STAT_FAILED _ _ _ rfl (by decide)
      (by decide))).trans ?_
    exact gb_sb_self _ _ _ _ _ (by decide) (by decide)
  · rw [gb_congr hr, gb_sb_self _ _ _ _ _ (by decide) (by decide)]
  · rw [gf_congr hr, gf_sb_off _ _ _ (by decide), gf_sb_off _ _ _ (by decide), migEnd_result, migResult_result]

/-- Step 2 or 4 whose trim lay out of range, or left too large a difference. -/
theorem migrationStep_fails (hp : (s.clu r k).paused = false)
    (h : (s.gf F.AC_MIG_STAT_STATE (acB r k) = 2 ∧ (ok = false ∨ gainLimit < meas)) ∨
      (s.gf F.AC_MIG_STAT_STATE (acB r k) = 4 ∧ (ok = false ∨ offsetLimit < meas))) :
    Ends (execMigrationStepEnd r k ok trim meas s) fun t => t.gf F.AC_MIG_STAT_STATE (acB r k) = 0 ∧
      t.gb F.AC_SPARE_STAT_FAILED (acB r k) = true ∧ t.gb F.AC_SPARE_STAT_FREE (acB r k) = false ∧
      t.gf F.AC_MIG_STAT_RESULT (acB r k) = 3 := by
  have hbad : ∀ {l : Nat}, ok = false ∨ l < meas → ¬(ok && decide (meas ≤ l)) = true := by
    intro l hl
    obtain hl | hl := hl <;> simp [hl]
  apply ends_of_ending
  obtain ⟨hs, hl⟩ | ⟨hs, hl⟩ := h
  · simp only [hp, hs, Bool.false_eq_true, if_false]
    rw [if_neg (hbad hl)]
    simpa only [ending_gf, ending_gb] using migSpareFail_spec s r k _ 4
  · simp only [hp, hs, Bool.false_eq_true, if_false]
    rw [if_neg (hbad hl)]
    simpa only [ending_gf, ending_gb] using migSpareFail_spec s r k _ 5

/-- Step 3 that finds the outputs more than 20 mV apart forces the handover (R98). -/
theorem migrationStep3_forced_ends (hp : (s.clu r k).paused = false) (hs : s.gf F.AC_MIG_STAT_STATE (acB r k) = 3)
    (hd : 20000 < meas) : Ends (execMigrationStepEnd r k ok trim meas s) fun t =>
      t.gf F.AC_MIG_STAT_STATE (acB r k) = 5 ∧ (t.clu r k).forced = true := by
  apply ends_of_ending
  simp only [hp, hs, Bool.false_eq_true, if_false]
  rw [if_pos hd, ending_gf, gf_congr (raise_regs _ _ _ _), migGo_state, clu_congr ((ending_ana s _).trans (raise_ana _ _ _ _)),
    migGo_forced, clu_congr (migResult_ana _ _ _ _), clu_setClu_self]
  exact ⟨rfl, rfl⟩

/-- Step 6 exchanges the mapping (R94, R95). -/
theorem migrationStep6_ends (hp : (s.clu r k).paused = false) (hs : s.gf F.AC_MIG_STAT_STATE (acB r k) = 6)
    (hf : (s.clu r k).forced = false) (hn : (s.clu r k).migCell < 8) :
    Ends (execMigrationStepEnd r k ok trim meas s) fun t => t.gf F.AC_MIG_STAT_STATE (acB r k) = 0 ∧
      t.gf F.AC_CELLn_STAT_PHYS (acB r k) (s.clu r k).migCell = 8 ∧ t.gf F.AC_MIG_STAT_RESULT (acB r k) = 1 := by
  apply ends_of_ending
  simp only [hp, hs, hf, Bool.false_eq_true, if_false]
  generalize hs1 : migEnd (s.wr R.AC_CELLn_TRIM (acB r k) (s.clu r k).migCell (s.clu r k).trim) r k = s1
  generalize hc : (s.clu r k).migCell = n at hn
  have hr : (migMap s1 r k n 0).regs =
      ((s1.sf F.AC_CELLn_STAT_PHYS (acB r k) n 8).sb F.AC_SPARE_STAT_FREE (acB r k) 0 false).regs := useSpare_regs _ _ _ _ _
  refine ⟨?_, ?_, ?_⟩
  · rw [ending_gf, migResult_state, gf_congr hr, gf_sb_off _ _ _ (by decide),
      gf_sf_ne _ F.AC_CELLn_STAT_PHYS F.AC_MIG_STAT_STATE _ _ _ _ _
        (Or.inr (cellReg_addr_ne _ (by decide) (by decide) hn)), ← hs1, migEnd_state]
  · have hne : ∀ {f : Fld}, (f.reg.off < 0x100 ∨ 0x200 ≤ f.reg.off) ∧ f.reg.stride = 0 → ∀ (u : State) (v : Nat),
        (u.sf f (acB r k) 0 v).gf F.AC_CELLn_STAT_PHYS (acB r k) n = u.gf F.AC_CELLn_STAT_PHYS (acB r k) n :=
      fun h u v => gf_sf_ne u _ F.AC_CELLn_STAT_PHYS _ _ _ _ _ (Or.inr (cellReg_addr_ne _ h (by decide) hn).symm)
    rw [ending_gf, migResult, hne (by decide), hne (by decide), gf_congr hr, State.sb, hne (by decide),
      gf_sf_self _ _ _ _ _ (by decide)]
    rfl
  · rw [ending_gf, migResult_result]
end

/-- Settles O12: what reference faults, injections, and the steps of a migration leave. -/
theorem referencesAndMigration : Obligations.ReferencesAndMigration :=
  ⟨fun _ _ _ _ hf hr hd => refFault_ends hf hr hd,
   fun _ _ _ => refFaultClear_ends,
   fun _ _ _ hb => injectionDetect_aio_ends hb,
   fun _ _ _ hb => injectionDetect_fin_ends hb,
   fun _ _ => injectionRelease_ends,
   fun _ _ _ _ _ hm hst hf hs hmode => migrationStart_ends hm hst hf hs hmode,
   fun _ _ _ _ _ _ hp hs => migrationStep1_ends hp hs,
   fun _ _ _ _ _ _ hp h => migrationStep_fails hp h,
   fun _ _ _ _ _ _ hp hs hd => migrationStep3_forced_ends hp hs hd,
   fun _ _ _ _ _ _ hp hs hf hn => migrationStep6_ends hp hs hf hn⟩

end Sys2Proof.Machine

/-! ## Frames: what a scope names -/

namespace Sys2Proof.Machine

/-! ### A scope that allows what another allows -/

/-- Every member of one list is a member of another: an inductive predicate, so that `repeat' constructor` finds the proof for
two lists that are written out. -/
inductive Listed {α : Type} (m : List α) : List α → Prop where
  | nil : Listed m []
  | cons {x : α} {l : List α} (hx : x ∈ m) (hl : Listed m l) : Listed m (x :: l)

theorem Listed.mem {α : Type} {l m : List α} (h : Listed m l) : ∀ x ∈ l, x ∈ m := by
  induction h with
  | nil => exact List.forall_mem_nil _
  | cons hx _ ih => exact List.forall_mem_cons.2 ⟨hx, ih⟩

theorem Listed.of_mem {α : Type} {m : List α} : {l : List α} → (∀ x ∈ l, x ∈ m) → Listed m l
  | [], _ => .nil
  | _ :: _, h => .cons (h _ List.mem_cons_self) (.of_mem fun x hx => h x (List.mem_cons_of_mem _ hx))

/-- A scope names every place and spot of another. -/
structure Scope.Has (c d : Scope) : Prop where
  places : Listed c.places d.places
  spots : Listed c.spots d.spots

theorem Scope.Has.trans {c d e : Scope} (h : c.Has d) (g : d.Has e) : c.Has e :=
  ⟨.of_mem fun p hp => h.places.mem p (g.places.mem p hp), .of_mem fun x hx => h.spots.mem x (g.spots.mem x hx)⟩

theorem Within.of_has {c d : Scope} {s t : State} (h : Within d s t) (hd : c.Has d) : Within c s t :=
  h.mono hd.places.mem hd.spots.mem

/-- A scope names a key of a table, or the whole table. -/
theorem Scope.key_some {c : Scope} {p : Option Nat → Place} {k : Nat}
    (h : p (some k) ∈ c.places) : c.key p k := Or.inr h

theorem Scope.key_none {c : Scope} {p : Option Nat → Place} {k : Nat}
    (h : p none ∈ c.places) : c.key p k := Or.inl h

/-! ### Registers that a scope names -/

/-- A scope names number `n` of each register of a list, in the block at `b`. -/
def Scope.Names (c : Scope) (b n : Nat) (l : List Reg) : Prop := ∀ q ∈ l, c.word q.blk (q.addr b n)

theorem Scope.names_one {c : Scope} {b n : Nat} {l : List Reg}
    (h : Listed c.spots (l.map (Spot.one · b n))) : c.Names b n l :=
  fun _ hq => Scope.word_one (h.mem _ (List.mem_map_of_mem hq))

theorem Scope.names_inBlock {c : Scope} {b n : Nat} {l : List Reg}
    (h : Listed c.spots (l.map (Spot.inBlock · b))) : c.Names b n l :=
  fun _ hq => Scope.word_inBlock n (h.mem _ (List.mem_map_of_mem hq))

/-- Registers of unit `u` of region `q`, which the scope names in every block. -/
theorem Scope.names_every {c : Scope} (k : Blk) (q u : Nat) {n : Nat} {l : List Reg} (hk : (l.all (·.blk = k)) = true)
    (h : Listed c.spots (l.map Spot.every)) : c.Names (k.base q u) n l := fun r hr =>
  of_decide_eq_true (List.all_eq_true.1 hk r hr) ▸ Scope.word_every q u n (h.mem _ (List.mem_map_of_mem hr))

/-- Registers of unit `u` of region `q`, which the scope names in every block of the region. -/
theorem Scope.names_here {c : Scope} (k : Blk) (q u : Nat) {n : Nat} {l : List Reg} (hk : (l.all (·.blk = k)) = true)
    (h : Listed c.spots (l.map (Spot.here · q))) : c.Names (k.base q u) n l := fun r hr =>
  of_decide_eq_true (List.all_eq_true.1 hk r hr) ▸ Scope.word_here u n (h.mem _ (List.mem_map_of_mem hr))

/-! Side conditions on registers and fields are Boolean equations, which `rfl` decides where the field is written out. -/

namespace Scope.Names
variable {c : Scope} {b n : Nat} {l m : List Reg} (h : c.Names b n l) (s : State)
include h

theorem mono (hm : (m.all (· ∈ l)) = true) : c.Names b n m := fun q hq =>
  h q (of_decide_eq_true (List.all_eq_true.1 hm q hq))

theorem append (g : c.Names b n m) : c.Names b n (l ++ m) := fun q hq => (List.mem_append.1 hq).elim (h q) (g q)

theorem wr (q : Reg) (hq : decide (q ∈ l ∧ q.blk ≠ .sett) = true) (v : Word) : Within c s (s.wr q b n v) :=
  have hq := of_decide_eq_true hq
  within_wr s q b n v hq.2 (h q hq.1)

theorem sf (f : Fld) (hf : decide (f.reg ∈ l ∧ f.reg.blk ≠ .sett) = true) (v : Nat) : Within c s (s.sf f b n v) :=
  h.wr s f.reg hf _

theorem sb (f : Fld) (hf : decide (f.reg ∈ l ∧ f.reg.blk ≠ .sett) = true) (v : Bool) : Within c s (s.sb f b n v) :=
  h.sf s f hf _

theorem bump (f : Fld) (hf : decide (f.reg ∈ l ∧ f.reg.blk ≠ .sett) = true) : Within c s (s.bump f b n) := h.sf s f hf _

theorem count (f : Fld) (hf : decide (f.reg ∈ l ∧ f.reg.blk ≠ .sett) = true) : Within c s (s.count f b n) :=
  h.sf s f hf _

end Scope.Names

/-! ### Shared operations -/

section
variable {c : Scope} (s : State)

/-- What a register write of an owner changes beside its effect: the start of a clock, or the count of the refusal (R29, R65). -/
def ownerScope (r : Nat) : Scope := ⟨0, [.rgn (some r)], ownerS r⟩

theorem within_started (t : State) (r : Nat) : Within (ownerScope r) t (s.started t r) :=
  Within.ite (fun _ => within_setRgn t r _ (Scope.key_some (by repeat' constructor))) fun _ => Within.refl _ t

theorem within_ownerReject (r : Nat) : Within (ownerScope r) s (s.ownerReject r) := by
  have h : (ownerScope r).Names (rgB r) 0 [R.RGN_EVT, R.RGN_REJ] := Scope.names_one (by repeat' constructor)
  exact (h.sb s F.RGN_EVT_WR_REJ rfl true).trans (h.bump _ F.RGN_REJ_COUNT rfl)

theorem within_byPath (a : Reader) (addr : Nat) {t : State} (h : Within c s t) : Within c s (s.byPath a addr t) :=
  Within.ite (fun _ => h) fun _ => Within.refl _ s

theorem within_asOwner {a : Reader} {r : Nat} {f : State → State} (ho : c.Has (ownerScope r)) (hf : Within c s (f s)) :
    Within c s (s.asOwner a r f) :=
  Within.ite (fun _ => hf.trans ((within_started s _ r).of_has ho)) fun _ =>
    within_byPath s a _ ((within_ownerReject s r).of_has ho)

theorem within_atCount (sub : Fin 40) {f : State → State} (hh : .hub ∈ c.places) (hf : ∀ u, Within c u (f u)) :
    Within c s (s.atCount sub f) := by
  have hub : ∀ (u : State) (x : HubS), Within c u { u with hub := x } := fun u x =>
    { Within.refl c u with hub := Or.inr hh }
  exact ((hub s _).trans (hf _)).trans (hub _ _)

/-! ### Alarms, spares and Degraded -/

theorem within_spare {k : Nat} (r b x : Nat) (hw : c.Has wornScope) (hk : .one R.SETT_SPAREk 0 k ∈ c.spots) :
    Within c s (s.useSpare k r b x) := by
  have ha : c.Has alarmScope := hw.trans (by repeat' constructor)
  exact ((within_setOwn s _ k _ (Scope.word_one (r := R.SETT_SPAREk) hk)).trans ((alarm_raise _ _ _ _).of_has ha)).trans
    ((worn_ledgerChanged _).of_has hw)

/-! ### Records that a source drops or keeps (R370, R371, R381) -/

/-- Records at their sources and in the hops, the counts of what is dropped. -/
def dropScope : Scope := ⟨0, [.flows none, .records], dropS⟩

theorem drop_records (x : SpoorS)
    (h : x.flows = s.spoor.flows ∧ x.slots = s.spoor.slots ∧ x.admitPart = s.spoor.admitPart) :
    Within dropScope s { s with spoor := x } := by
  obtain ⟨hflows, hslots, hadmit⟩ := h
  exact { Within.refl dropScope s with
    records := Or.inr (by decide), flows := fun _ => Or.inl (by rw [hflows]), alarms := Or.inl hslots
    admission := Or.inl hadmit }

theorem drop_noteDrop (h : Nat) (x : Src) : Within dropScope s (s.noteDrop h x) := drop_records s _ ⟨rfl, rfl, rfl⟩

theorem drop_taken (t : NatTab) : Within dropScope s { s with spoor := { s.spoor with taken := t } } :=
  drop_records s _ ⟨rfl, rfl, rfl⟩

theorem drop_takeToken (x : Src) (f : Nat) : Within dropScope s (s.takeToken x f) := drop_taken s _

theorem drop_countDrop (f : Nat) : Within dropScope s (s.countDrop f) :=
  within_setFlow s f _ (Scope.key_none (by repeat' constructor))

theorem drop_countLoss (cls flow : Nat) : Within dropScope s (s.countLoss cls flow) := by
  have h : dropScope.Names 0 0 [R.SPR_EVT, R.SPR_LOSS_BE, R.SPR_LOSS_TRACE] := Scope.names_one (by repeat' constructor)
  unfold State.countLoss
  extract_lets s1
  have h1 : Within dropScope s s1 := Within.ite
    (fun _ => (h.bump s F.SPR_LOSS_TRACE_COUNT rfl).trans (h.sb _ F.SPR_EVT_TRACE_DROP rfl true))
    fun _ => (h.bump s F.SPR_LOSS_BE_COUNT rfl).trans (h.sb _ F.SPR_EVT_BE_DROP rfl true)
  exact Within.ite (fun _ => h1) fun _ => h1.trans (drop_countDrop s1 flow)

theorem drop_dropAt (h : Nat) (i : Item) : Within dropScope s (s.dropAt h i) :=
  (drop_countLoss s _ _).trans (drop_noteDrop _ _ _)

theorem drop_produce (i : Item) : Within dropScope s (s.produce i) := by
  unfold State.produce
  split
  · exact Within.ite (fun _ => drop_dropAt s _ i) fun _ => drop_records s _ ⟨rfl, rfl, rfl⟩
  · exact (drop_countDrop s _).trans (drop_noteDrop _ _ _)
  · exact drop_dropAt s _ i

theorem drop_enterHop {t : State} (h : Nat) (i : Item) (ht : s.enterHop h i = some t) : Within dropScope s t := by
  unfold State.enterHop at ht
  extract_lets l put at ht
  have hput : ∀ u l', Within dropScope u (put u l') := fun u l' => drop_records u _ ⟨rfl, rfl, rfl⟩
  split at ht
  · obtain rfl := Option.some.inj ht
    exact hput s l
  · split at ht
    · next v _ =>
      obtain rfl := Option.some.inj ht
      exact (drop_dropAt s h v).trans (hput _ _)
    · split at ht
      · obtain rfl := Option.some.inj ht
        exact hput s l
      · split at ht
        · exact absurd ht (by simp)
        · obtain rfl := Option.some.inj ht
          exact drop_dropAt s h i

/-! ### Events of an engine and wakes of its region (R63, R195, R260) -/

/-- The pending events of a region's engine, and what region control holds. -/
def eventScope (r : Nat) : Scope := ⟨0, [.rgn (some r)], [.one R.LE_EVPEND (leB r) 0]⟩

theorem event_eventPend (r n : Nat) : Within (eventScope r) s (s.eventPend r n) := by
  have h : (eventScope r).Names (leB r) 0 [R.LE_EVPEND] := Scope.names_one (by repeat' constructor)
  exact Within.ite (fun _ => h.sf s F.LE_EVPEND_PEND rfl _)
    fun _ => within_setRgn s r _ (Scope.key_some (by repeat' constructor))

theorem event_wake (r : Nat) : Within (eventScope r) s (s.wake r) :=
  Within.ite (fun _ => Within.refl _ s) fun _ =>
    (within_setRgn s r _ (Scope.key_some (by repeat' constructor))).trans (event_eventPend _ r 31)

/-! ### Safe hold and the trip inputs (R180 to R185, R219 to R225, R500) -/

/-- A source of Safe hold: the Sett's registers and log, an alarm, and the edges of the balls that follow. -/
def safeScope : Scope := ⟨0, .ana none :: .comp none :: .pgSub none :: .safeHold :: alarmP, logS :: safeS⟩

theorem safe_setSafe {f : Fld} (v : Nat) (h : f.reg = R.SETT_SAFE ∨ f.reg = R.SETT_EVT) :
    Within safeScope s (s.setOwn f 0 v) := by
  refine within_setOwn s f 0 v ?_
  obtain h | h := h <;> rw [h]
  · exact Scope.word_one (r := R.SETT_SAFE) (by decide)
  · exact Scope.word_one (r := R.SETT_EVT) (by decide)

/-- The parts of the Sett that Safe hold has for its own. -/
theorem safe_part (x : SettS)
    (h : x.own = s.sett.own ∧ (x.ret, x.retLost) = (s.sett.ret, s.sett.retLost) ∧ x.writes = s.sett.writes ∧
      x.powerPart = s.sett.powerPart ∧ x.energyPart = s.sett.energyPart ∧ x.wearPart = s.sett.wearPart) :
    Within safeScope s { s with sett := x } := by
  obtain ⟨hown, hret, hwrites, hpower, henergy, hwear⟩ := h
  exact { Within.refl safeScope s with
    safeHold := Or.inr (by decide), own := fun _ => Or.inl (by rw [hown]), retention := Or.inl hret
    settWrites := Or.inl hwrites, power := Or.inl hpower, energy := Or.inl henergy, wear := Or.inl hwear }

theorem safe_safeEval : Within safeScope s s.safeEval := by
  unfold State.safeEval
  extract_lets s1
  have h1 : Within safeScope s s1 := safe_setSafe s _ (Or.inl rfl)
  refine Within.ite (fun _ => h1.trans ?_) fun _ => h1
  refine Within.trans (t := { s1 with sett := { s1.sett with safe := true } })
    (safe_part s1 _ ⟨rfl, rfl, rfl, rfl, rfl, rfl⟩) ?_
  exact ((safe_setSafe _ _ (Or.inl rfl)).trans (safe_setSafe _ _ (Or.inr rfl))).trans
    ((alarm_raise _ _ _ _).of_has (by repeat' constructor))

theorem safe_safeAssert (bit : Nat) (l m : Bool) : Within safeScope s (s.safeAssert bit l m) := by
  refine Within.trans ?_ (safe_safeEval _)
  exact safe_part s _ ⟨rfl, rfl, rfl, rfl, rfl, rfl⟩

theorem safe_safeOn (bit : Nat) (l m : Bool) : Within safeScope s (safeOn s bit l m) :=
  (safe_safeAssert s bit l m).trans ((edge_safeFollow s _).of_has (by repeat' constructor))

theorem safe_safeRelease (bit : Nat) : Within safeScope s (s.safeRelease bit) := by
  refine Within.trans ?_ (safe_setSafe _ _ (Or.inl rfl))
  exact safe_part s _ ⟨rfl, rfl, rfl, rfl, rfl, rfl⟩

theorem safe_syncSafe : Within safeScope s (syncSafe s) :=
  Within.ite (fun _ => safe_safeOn s 2 true true) fun _ =>
    Within.ite (fun _ => safe_safeRelease s 2) fun _ => Within.refl _ s

/-- What a trip input that asserts may change: the channels' trip states with their counts, events and alarms, and the edges of
the balls. -/
def tripScope : Scope :=
  ⟨0, .ana none :: .comp none :: .pgSub none :: .pwm none :: alarmP,
    [.every R.PG_CHcc_CNT, .every R.PG_CHcc_STAT, .every R.PG_EVT, logS]⟩

theorem trip_names (r n : Nat) : tripScope.Names (pgB r) n [R.PG_CHcc_CNT, R.PG_CHcc_STAT, R.PG_EVT] :=
  (Scope.names_every .pg r 0 rfl (by repeat' constructor))

theorem trip_setCh (r n : Nat) (x : ChS) : Within tripScope s (s.setCh r n x) :=
  within_setCh s r n x (Scope.key_none (by repeat' constructor))

theorem trip_raise (x : Src) (n : Nat) (d : BitVec 80) : Within tripScope s (s.raise x n d) :=
  (alarm_raise s x n d).of_has (by repeat' constructor)

theorem trip_tripFollow (l : List (Nat × Nat)) (t : State) : Within tripScope t (tripFollow l s t) :=
  (edge_tripFollow l s t).of_has (by repeat' constructor)

theorem trip_enterCbc (r n : Nat) (b : Bool) : Within tripScope s (enterCbc s r n b) :=
  Within.ite (fun _ => Within.refl _ s) fun _ =>
    ((trip_setCh s r n _).trans ((trip_names r n).bump _ F.PG_CHcc_CNT_CBC rfl)).trans
        ((trip_names r 0).sb _ F.PG_EVT_CBC rfl true)

theorem trip_enterLatch (r : Rgn) (n : Fin 16) (b : Bool) : Within tripScope s (enterLatch s r n b) :=
  (((trip_setCh s r n _).trans ((trip_names r n).sf _ F.PG_CHcc_STAT_CAUSE rfl _)).trans
    ((trip_names r 0).sb _ F.PG_EVT_LATCHOFF rfl true)).trans (trip_raise _ _ _ _)

theorem trip_enterRail (r : Rgn) (n : Fin 16) (b : Bool) : Within tripScope s (enterRail s r n b) :=
  ((Within.foldl (fun t _ => trip_setCh t _ _ _) _ s).trans ((trip_names r 0).sb _ F.PG_EVT_RAILSAFE rfl true)).trans
    (trip_raise _ _ _ _)

theorem trip_tripEnter (r : Rgn) (n : Fin 16) (b : Bool) : Within tripScope s (tripEnter s r n b) := by
  refine Within.ite (fun _ => ?_) fun _ => Within.refl _ s
  split
  · exact (trip_enterCbc s r n b).trans (trip_tripFollow s _ _)
  · exact (trip_enterLatch s r n b).trans (trip_tripFollow s _ _)
  · exact (trip_enterRail s r n b).trans (trip_tripFollow s _ _)
  · exact Within.refl _ s

theorem trip_refreshTrip (r : Rgn) (n : Fin 16) (b : Bool) : Within tripScope s (refreshTrip s r n b) := by
  unfold refreshTrip
  extract_lets f now was s1
  have h1 : Within tripScope s s1 := (trip_names r n).sb s f (by cases b <;> rfl) now
  exact Within.ite (fun _ => h1.trans (trip_tripEnter s1 r n b)) fun _ => h1

theorem trip_refreshTrips (r : Rgn) : Within tripScope s (refreshTrips s r) :=
  Within.foldl (fun t _ => Within.foldl (fun t _ => (trip_refreshTrip t _ _ _).trans
      (trip_refreshTrip _ _ _ _)) _ t) _ s

end

end Sys2Proof.Machine

/-! ## Frames: analogue cells -/

namespace Sys2Proof.Machine

/-! ### Cells, references and injection -/

section
variable {c : Scope} (s : State)

theorem within_acReject {b : Nat} (h : c.Names b 0 [R.AC_STATUS]) : Within c s (acReject s b) :=
  within_reject s _ _ b (by decide) (by decide) (h R.AC_STATUS (by decide)) (h R.AC_STATUS (by decide))

theorem within_setOut {r k : Nat} (hk : c.key .ana (cluKey r k)) (n : Nat) (b : Bool) : Within c s (s.setOut r k n b) :=
  within_setClu s r k _ hk

theorem within_applyCellCfg {r k n : Nat} (hk : c.key .ana (cluKey r k)) (w : Word)
    (h : c.Names (acB r k) n [R.AC_CELLn_CFG, R.AC_CELLn_STAT]) : Within c s (applyCellCfg s r k n w) := by
  unfold applyCellCfg
  extract_lets b old mode opens s1 s2 x
  have h1 : Within c s s1 := (h.wr s R.AC_CELLn_CFG rfl w).trans (h.sb _ F.AC_CELLn_STAT_ACTIVE rfl _)
  have h2 : Within c s s2 := Within.ite (fun _ => h1.trans (within_setOut s1 hk n false)) fun _ => h1
  exact Within.ite (fun _ => h2) fun _ => h2.trans (within_setClu s2 r k _ hk)

theorem within_setRefFault {r : Nat} (b : Bool) (h : ∀ k, c.Names (acB r k) 0 [R.AC_STATUS]) :
    Within c s (setRefFault s r b) :=
  Within.foldl (fun t k => (h k).sb t F.AC_STATUS_REF_FAULT rfl b) _ s

theorem within_showInjected {r : Nat} (h : c.Names (acB r 0) 0 [R.AC_INJ_AIO, R.AC_INJ_FIN]) :
    Within c s (showInjected s r) := (h.sf s F.AC_INJ_AIO_AIO rfl _).trans (h.sf _ F.AC_INJ_FIN_FIN rfl _)

theorem within_clipInjected {r : Nat} (j : Nat) (h : ∀ k n, c.Names (acB r k) n [R.AC_CELLn_STAT]) :
    Within c s (clipInjected s r j) :=
  Within.foldl (fun t x => Within.ite (fun _ => (h x.1 x.2).sb t F.AC_CELLn_STAT_CLIP rfl true)
    fun _ => Within.refl _ t) _ s

end

/-! ### Live migration (R92 to R100) -/

/-- What the migration of a cell of cluster k of region r may change. -/
structure Scope.Migrates (c : Scope) (r k : Nat) : Prop where
  clu : c.key .ana (cluKey r k)
  regs : c.Names (acB r k) 0 [R.AC_MIG, R.AC_MIG_STAT, R.AC_SPARE_STAT]
  cell : ∀ n, c.Names (acB r k) n [R.AC_CELLn_STAT, R.AC_CELLn_TRIM]
  wear : c.Has wornScope
  spares : Spot.one R.SETT_SPAREk 0 0 ∈ c.spots

section
variable {c : Scope} {r k : Nat} (h : c.Migrates r k) (s : State)
include h

theorem Scope.Migrates.raise (x : Src) (n : Nat) (d : BitVec 80) : Within c s (s.raise x n d) :=
  (alarm_raise s x n d).of_has (h.wear.trans (by repeat' constructor))

theorem within_migResult (result cause : Nat) : Within c s (migResult s (acB r k) result cause) :=
  (h.regs.sf s F.AC_MIG_STAT_RESULT rfl _).trans (h.regs.sf _ F.AC_MIG_STAT_CAUSE rfl _)

theorem within_migMap (n cause : Nat) : Within c s (migMap s r k n cause) :=
  (((h.cell n).sf s F.AC_CELLn_STAT_PHYS rfl _).trans (h.regs.sb _ F.AC_SPARE_STAT_FREE rfl _)).trans
    (within_spare _ r k cause h.wear h.spares)

theorem within_migEnd : Within c s (migEnd s r k) :=
  (h.regs.sf s F.AC_MIG_STAT_STATE rfl _).trans (h.regs.sb _ F.AC_MIG_START rfl _)

theorem within_migGo (state ns : Nat) : Within c s (migGo s r k state ns) :=
  (h.regs.sf s F.AC_MIG_STAT_STATE rfl _).trans (within_setClu _ r k _ h.clu)

theorem within_migStart (n : Nat) (written : Bool) (hs : written = true → c.Names (acB r k) 0 [R.AC_STATUS]) :
    Within c s (migStart s r k n written) := by
  unfold migStart
  extract_lets b no t x s2
  have hno : Within c s no := Within.ite (fun hw => within_acReject s (hs hw)) fun _ => Within.refl _ s
  have refused : ∀ cause, Within c s (migResult no b 3 cause) := fun cause => hno.trans (within_migResult h no 3 cause)
  have off : Within c s (migResult ((migMap t r k n 0).sf F.AC_MIG_STAT_OFS_RES b 0 0) b 1 0) :=
    ((((h.cell n).wr s R.AC_CELLn_TRIM rfl _).trans (within_migMap h t n 0)).trans
        (h.regs.sf _ F.AC_MIG_STAT_OFS_RES rfl 0)).trans
      (within_migResult h _ 1 0)
  have begun : Within c s (migResult ((s2.sf F.AC_MIG_STAT_STATE b 0 1).sf F.AC_MIG_STAT_OFS_RES b 0 0) b 0 0) :=
    (((within_setClu s r k _ h.clu).trans (h.regs.sf s2 F.AC_MIG_STAT_STATE rfl 1)).trans
      (h.regs.sf _ F.AC_MIG_STAT_OFS_RES rfl 0)).trans (within_migResult h _ 0 0)
  exact Within.ite (fun _ => refused 1) fun _ => Within.ite (fun _ => refused 2)
    fun _ => Within.ite (fun _ => refused 3)
    fun _ => Within.ite (fun _ => off) fun _ => begun

theorem within_migWrite (a : Reader) (v : Word) (ho : c.Has (ownerScope r)) (hs : c.Names (acB r k) 0 [R.AC_STATUS]) :
    Within c s (migWrite s a r k v) := by
  refine within_asOwner s ho ?_
  extract_lets b s1 s2
  have h1 : Within c s s1 := h.regs.sf s F.AC_MIG_CELL rfl _
  have h2 : Within c s s2 := h1.trans (within_migStart h s1 _ true fun _ => hs)
  exact Within.ite (fun _ => h1) fun _ => Within.ite (fun _ => h2.trans (h.regs.sb s2 F.AC_MIG_START rfl true))
    fun _ => h2

end

section
variable {c : Scope} {r : Rgn} {k : Fin 12} (h : c.Migrates r.val k.val) (s : State)
include h

theorem within_migSpareFail (n cause : Nat) : Within c s (migSpareFail s r k n cause) :=
  (((((within_migResult h s 3 cause).trans (within_migEnd h _)).trans
      (h.regs.sb _ F.AC_SPARE_STAT_FAILED rfl true)).trans
    (h.regs.sb _ F.AC_SPARE_STAT_FREE rfl false)).trans (within_spare _ _ _ _ h.wear h.spares)).trans (h.raise _ _ _ _)

theorem within_migrationStepEnd (ok : Bool) (trim meas : Nat) :
    Keeps (execMigrationStepEnd r k ok trim meas s) (Within c s) := by
  unfold execMigrationStepEnd
  extract_lets b clu n mode
  have trimmed : ∀ w, Within c s (s.setClu r.val k.val { clu with trim := w }) := fun w => within_setClu s _ _ _ h.clu
  refine keeps_after (Within.ite (fun _ => Within.refl c s) fun _ => ?_)
  split
  · exact within_migGo h s 2 _
  · exact Within.ite (fun _ => (trimmed _).trans (within_migGo h _ 3 _)) fun _ => within_migSpareFail h s n 4
  · refine Within.ite (fun _ => ?_) fun _ => within_migGo h s 4 _
    exact (((within_setClu s _ _ _ h.clu).trans (within_migResult h _ 2 6)).trans (within_migGo h _ 5 _)).trans
        (h.raise _ _ _ _)
  · exact Within.ite
      (fun _ => ((trimmed _).trans (h.regs.sf _ F.AC_MIG_STAT_OFS_RES rfl _)).trans (within_migGo h _ 5 _))
      fun _ => within_migSpareFail h s n 5
  · exact within_migGo h s 6 _
  · have h2 : Within c s (migMap (migEnd (s.wr R.AC_CELLn_TRIM b n clu.trim) r.val k.val) r.val k.val n
        (if clu.forced then 6 else 0)) :=
      (((h.cell n).wr s R.AC_CELLn_TRIM rfl _).trans (within_migEnd h _)).trans (within_migMap h _ n _)
    exact Within.ite (fun _ => h2.trans (within_migResult h _ 2 6)) fun _ => h2.trans (within_migResult h _ 1 0)
  · exact Within.refl c s

end

/-! ### The commands -/

section
variable (r : Rgn) (k : Fin 12) (n : Fin 8) (a : Reader) (v : Word) (s : State)

theorem frame_acCellCfgWrite :
    Keeps (execAcCellCfgWrite a r k n v s) (Within (scope (.acCellCfgWrite a r k n v) s) s) := by
  refine keeps_after <| within_asOwner s ?_ <| Within.ite
    (fun _ => within_acReject s (Scope.names_one ?_)) fun _ => within_applyCellCfg s (Scope.key_some ?_) _ (Scope.names_one ?_)
  all_goals repeat' constructor

theorem frame_acCellFiltWrite :
    Keeps (execAcCellFiltWrite a r k n v s) (Within (scope (.acCellFiltWrite a r k n v) s) s) := by
  have h : (scope (.acCellFiltWrite a r k n v) s).Names (acB r.val k.val) n [R.AC_CELLn_FILT] :=
    Scope.names_one (by repeat' constructor)
  exact keeps_after <| within_asOwner s (by repeat' constructor) <| Within.ite
    (fun _ => within_acReject s (Scope.names_one (by repeat' constructor))) fun _ => h.wr s R.AC_CELLn_FILT rfl _

theorem frame_acCellRouteWrite :
    Keeps (execAcCellRouteWrite a r k n v s) (Within (scope (.acCellRouteWrite a r k n v) s) s) := by
  have hr : (scope (.acCellRouteWrite a r k n v) s).Names (acB r.val k.val) n [R.AC_CELLn_ROUTE] :=
    Scope.names_one (by repeat' constructor)
  have hs : (scope (.acCellRouteWrite a r k n v) s).Names (acB r.val k.val) 0 [R.AC_STATUS] :=
    Scope.names_one (by repeat' constructor)
  exact keeps_after <| within_asOwner s (by repeat' constructor) <| Within.ite (fun _ => within_acReject s hs)
    fun _ => Within.ite
    (fun _ => (hs.sb s F.AC_STATUS_BUS_CONFLICT rfl true).trans (within_acReject _ hs))
    fun _ => hr.wr s R.AC_CELLn_ROUTE rfl _

theorem frame_acCtrlWrite : Keeps (execAcCtrlWrite a r k v s) (Within (scope (.acCtrlWrite a r k v) s) s) := by
  have h : (scope (.acCtrlWrite a r k v) s).Names (acB r.val k.val) 0 [R.AC_CTRL] :=
    Scope.names_one (by repeat' constructor)
  exact keeps_after <| within_asOwner s (by repeat' constructor) <| Within.ite
    (fun _ => h.wr s R.AC_CTRL rfl _) fun _ => within_acReject s (Scope.names_one (by repeat' constructor))

theorem frame_outputSwitchClose :
    Keeps (execOutputSwitchClose r k n s) (Within (scope (.outputSwitchClose r k n) s) s) :=
  keeps_after <| Within.ite (fun _ => within_setOut s (Scope.key_some (by repeat' constructor)) _ true)
    fun _ => Within.refl _ s

theorem frame_shTrigger (trig : Fin 32) (e : Levels) :
    Keeps (execShTrigger r trig e s) (Within (scope (.shTrigger r trig e) s) s) :=
  keeps_after <| Within.foldl (fun t _ => within_setClu t _ _ _ (Scope.key_none (by repeat' constructor))) _ s

theorem frame_shHoldEnd : Keeps (execShHoldEnd r k n s) (Within (scope (.shHoldEnd r k n) s) s) :=
  keeps_after <| within_setClu s _ _ _ (Scope.key_some (by repeat' constructor))

theorem frame_cellClip (e : Levels) : Keeps (execCellClip r k n e s) (Within (scope (.cellClip r k n e) s) s) := by
  have h : (scope (.cellClip r k n e) s).Names (acB r.val k.val) n [R.AC_CELLn_STAT] :=
    Scope.names_one (by repeat' constructor)
  exact keeps_after <| Within.ite (fun _ => h.sb s F.AC_CELLn_STAT_CLIP rfl true) fun _ => Within.refl _ s

theorem frame_refFault (diff : Int) : Keeps (execRefFault r diff s) (Within (scope (.refFault r diff) s) s) := by
  refine keeps_after <| Within.ite (fun _ => Within.refl _ s) fun _ =>
    ((within_setRgn s _ _ (Scope.key_some ?_)).trans
      (within_setRefFault _ true fun k => Scope.names_every .ac r k rfl ?_)).trans ((alarm_raise _ _ _ _).of_has ?_)
  all_goals repeat' constructor

theorem frame_refFaultClear : Keeps (execRefFaultClear r s) (Within (scope (.refFaultClear r) s) s) := by
  refine keeps_after <| (within_setRgn s _ _ (Scope.key_some ?_)).trans
    (within_setRefFault _ false fun k => Scope.names_every .ac r k rfl ?_)
  all_goals repeat' constructor

theorem frame_injectionDetect (ball : Fin 40) :
    Keeps (execInjectionDetect r ball s) (Within (scope (.injectionDetect r ball) s) s) := by
  unfold execInjectionDetect
  extract_lets g s1
  have h1 : Within (scope (.injectionDetect r ball) s) s s1 :=
    (within_setRgn s _ _ (Scope.key_some (by repeat' constructor))).trans
        (within_showInjected _ (Scope.names_one (by repeat' constructor)))
  exact keeps_after <| Within.ite
    (fun _ => h1.trans (within_clipInjected s1 _ fun k _ => Scope.names_every .ac r k rfl (by repeat' constructor)))
    fun _ => h1

theorem frame_injectionRelease : Keeps (execInjectionRelease r s) (Within (scope (.injectionRelease r) s) s) :=
  keeps_after <| within_setRgn s _ _ (Scope.key_some (by repeat' constructor))

theorem frame_migrationStart (x : Starter) :
    Keeps (execMigrationStart x r k n s) (Within (scope (.migrationStart x r k n) s) s) := by
  have h : (scope (.migrationStart x r k n) s).Migrates r k := by
    refine ⟨Scope.key_some ?_, Scope.names_one ?_, fun _ => Scope.names_inBlock ?_, ?_, ?_⟩ <;> repeat' constructor
  refine keeps_after ?_
  match x with
  | .by a => exact within_migWrite h s a _ (by repeat' constructor) (Scope.names_one (by repeat' constructor))
  | .wear =>
    exact Within.ite (fun _ => within_migStart h s _ false (absurd · Bool.false_ne_true)) fun _ => Within.refl _ s

theorem frame_migrationStepEnd (ok : Bool) (trim meas : Nat) :
    Keeps (execMigrationStepEnd r k ok trim meas s) (Within (scope (.migrationStepEnd r k ok trim meas) s) s) := by
  refine within_migrationStepEnd
    ⟨Scope.key_some ?_, Scope.names_one ?_, fun _ => Scope.names_inBlock ?_, ?_, ?_⟩ s ok trim meas
  all_goals repeat' constructor

end

end Sys2Proof.Machine

/-! ## Frames: converter groups -/

namespace Sys2Proof.Machine

/-! ### Scanning, urgent requests and modes -/

section
variable {c : Scope} (s : State) {r g : Nat}

theorem within_setCgState (v : Nat) (h : c.Names (cgB r g) 0 [R.CG_STAT]) : Within c s (setCgState s r g v) :=
  h.sf s F.CG_STAT_STATE rfl v

theorem within_cgReject {b : Nat} (h : c.Names b 0 [R.CG_EVT, R.CG_STAT]) : Within c s (cgReject s b) :=
  within_reject s _ _ b (by decide) (by decide) (h R.CG_EVT (by decide)) (h R.CG_STAT (by decide))

theorem within_rotStop (h : c.Names (cgB r g) 0 [R.CG_ROT_STAT]) : Within c s (rotStop s r g) :=
  h.sf s F.CG_ROT_STAT_PHASE rfl 0

theorem within_rotResume (h : c.Names (cgB r g) 0 [R.CG_ROT_STAT]) : Within c s (rotResume s r g) :=
  Within.ite (fun _ => h.sf s F.CG_ROT_STAT_PHASE rfl _) fun _ => Within.refl c s

theorem within_ditherClip (d : Bool) (h : c.Names (cgB r g) 0 [R.CG_INTEG_EVT]) : Within c s (ditherClip s r g d) :=
  Within.ite (fun _ => h.sb s F.CG_INTEG_EVT_DITHER_CLIP rfl true) fun _ => Within.refl c s

theorem within_fourSlice (h : c.Names (cgB r g) 0 [R.CG_INTEG_EVT, R.CG_ROT_STAT]) : Within c s (fourSlice s r g) := by
  unfold fourSlice
  extract_lets b w kept pos s1
  have h1 : Within c s s1 :=
    ((h.sf s F.CG_ROT_STAT_POS rfl pos).trans (h.sf _ F.CG_ROT_STAT_SVC rfl 7)).trans (h.sf _ F.CG_ROT_STAT_PHASE rfl 0)
  exact Within.ite (fun _ => h1) fun _ =>
    (h1.trans (h.sb s1 F.CG_ROT_STAT_DEGRADED rfl true)).trans (h.sb _ F.CG_INTEG_EVT_DEGRADED rfl true)

variable (hk : c.key .conv (grpKey r g))
include hk

theorem within_kickScan : Within c s (kickScan s r g) :=
  Within.ite (fun _ => within_setGrp s r g _ hk) fun _ => Within.refl c s

theorem within_scanRequest (h : c.Names (cgB r g) 0 [R.CG_EVT]) : Within c s (scanRequest s r g) :=
  Within.ite (fun _ => h.sb s F.CG_EVT_TRIG_MISS rfl true)
    fun _ => Within.ite (fun _ => within_setGrp s r g _ hk) fun _ =>
    Within.ite (fun _ => h.sb s F.CG_EVT_TRIG_MISS rfl true) fun _ => within_setGrp s r g _ hk

theorem within_goRequest (h : c.Names (cgB r g) 0 [R.CG_EVT, R.CG_SCAN]) : Within c s (goRequest s r g) :=
  Within.ite (fun _ => h.sb s F.CG_EVT_TRIG_MISS rfl true) fun _ =>
    (within_scanRequest s hk (h.mono rfl)).trans (h.sb _ F.CG_SCAN_GO rfl _)

theorem within_cgScanWrite (a : Reader) (v : Word) (ho : c.Has (ownerScope r))
    (h : c.Names (cgB r g) 0 [R.CG_EVT, R.CG_SCAN, R.CG_STAT]) : Within c s (cgScanWrite s a r g v) := by
  refine within_asOwner s ho (Within.ite (fun _ => within_cgReject s (h.mono rfl)) fun _ => ?_)
  extract_lets go s1 s2
  have h1 : Within c s s1 := (h.wr s R.CG_SCAN rfl _).trans (h.sb _ F.CG_SCAN_GO rfl go)
  have h2 : Within c s s2 := Within.ite (fun _ => h1.trans (within_goRequest s1 hk (h.mono rfl))) fun _ => h1
  exact h2.trans (within_kickScan s2 hk)

theorem within_urgentRequest (chan : Nat) (h : c.Names (cgB r g) 0 [R.CG_EVT, R.CG_URG_STAT]) :
    Within c s (urgentRequest s r g chan) :=
  Within.ite (fun _ => within_setGrp s r g _ hk) fun _ =>
    (h.bump s F.CG_URG_STAT_LOST rfl).trans (h.sb _ F.CG_EVT_URG_LOST rfl true)

theorem within_urgTrig (k : Nat) (h : c.Names (cgB r g) 0 [R.CG_EVT, R.CG_URG_STAT]) : Within c s (urgTrig s r g k) :=
  Within.ite (fun _ => within_urgentRequest s hk _ h) fun _ => Within.refl c s

theorem within_stopConversions (h : c.Names (cgB r g) 0 [R.CG_EVT, R.CG_SCAN, R.CG_URG_STAT]) :
    Within c s (stopConversions s r g) :=
  ((Within.foldl (fun t _ => (h.bump t F.CG_URG_STAT_LOST rfl).trans (h.sb _ F.CG_EVT_URG_LOST rfl true)) _ s).trans
    (within_setGrp _ r g _ hk)).trans (h.sb _ F.CG_SCAN_GO rfl false)

theorem within_makeStale (h : c.Names (cgB r g) 0 [R.CG_ROT_STAT]) : Within c s (makeStale s r g) :=
  (within_setGrp s r g _ hk).trans (h.sb _ F.CG_ROT_STAT_STALE rfl _)

theorem within_startWindow (h : c.Names (cgB r g) 0 [R.CG_ROT_STAT]) : Within c s (startWindow s r g) := by
  unfold startWindow
  extract_lets b fresh s1
  have h1 : Within c s s1 :=
    Within.ite (fun _ => (h.sf s F.CG_ROT_STAT_POS rfl _).trans (h.sf _ F.CG_ROT_STAT_SVC rfl _))
    fun _ => Within.refl c s
  have window : ∀ x ph, Within c s ((s1.setGrp r g x).sf F.CG_ROT_STAT_PHASE b 0 ph) := fun x ph =>
    (h1.trans (within_setGrp s1 r g x hk)).trans (h.sf _ F.CG_ROT_STAT_PHASE rfl ph)
  exact Within.ite (fun _ => Within.refl c s) fun _ => Within.ite (fun _ => window _ 3) fun _ => window _ 1

theorem within_toLowPower (h : c.Names (cgB r g) 0 [R.CG_ROT_STAT, R.CG_STAT]) : Within c s (toLowPower s r g) :=
  (((within_setGrp s r g _ hk).trans (within_rotStop _ (h.mono rfl))).trans
      (within_setCgState _ 2 (h.mono rfl))).trans (within_kickScan _ hk)

theorem within_toFullRate (h : c.Names (cgB r g) 0 [R.CG_ROT_STAT, R.CG_STAT]) : Within c s (toFullRate s r g) := by
  unfold toFullRate
  extract_lets s1
  have h1 : Within c s s1 := (within_setGrp s r g _ hk).trans (within_setCgState _ 3 (h.mono rfl))
  refine Within.trans (Within.trans ?_ (within_startWindow _ hk (h.mono rfl))) (within_kickScan _ hk)
  exact Within.ite (fun _ => h1.trans (within_makeStale s1 hk (h.mono rfl))) fun _ => h1

end

/-! ### Changes of mode (R107, R108, R136) -/

/-- What a write of CG_CTRL of group g of region r may change beside what its owner's writes do. -/
structure Scope.Modes (c : Scope) (r g : Nat) : Prop where
  grp : c.key .conv (grpKey r g)
  pair : ∀ q, c.Names (cgB r q) 0 [R.CG_CTRL, R.CG_ROT_STAT, R.CG_SCAN, R.CG_STAT]
  regs : c.Names (cgB r g) 0 [R.CG_EVT, R.CG_ROT_CTRL, R.CG_URG_STAT]

section
variable {c : Scope} {r g : Nat} (h : c.Modes r g) (s : State)
include h

theorem Scope.Modes.all : c.Names (cgB r g) 0
    [R.CG_CTRL, R.CG_ROT_STAT, R.CG_SCAN, R.CG_STAT, R.CG_EVT, R.CG_ROT_CTRL, R.CG_URG_STAT] := (h.pair g).append h.regs

theorem Scope.Modes.state (q v : Nat) : Within c s (setCgState s r q v) := within_setCgState s v ((h.pair q).mono rfl)

theorem Scope.Modes.stop : Within c s (stopConversions s r g) := within_stopConversions s h.grp (h.all.mono rfl)

theorem Scope.Modes.rotStop (q : Nat) : Within c s (rotStop s r q) := within_rotStop s ((h.pair q).mono rfl)

theorem within_leavePair : Within c s (leavePair s r g) :=
  Within.ite (fun _ => (((within_setGrp s r g _ h.grp).trans ((h.pair _).sf _ F.CG_CTRL_MODE rfl 2)).trans
    ((h.pair _).sf _ F.CG_SCAN_SMODE rfl 0)).trans ((h.pair g).sf _ F.CG_SCAN_SMODE rfl 0)) fun _ => Within.refl c s

theorem within_applyMode (new : Nat) : Within c s (applyMode s r g new) := by
  unfold applyMode
  extract_lets b old s1 s2 s3
  have h1 : Within c s s1 := (h.pair g).sf s F.CG_CTRL_MODE rfl new
  have off : Within c s s2 :=
    (((h1.trans (h.stop s1)).trans (h.state _ g 0)).trans (h.rotStop _ g)).trans (within_leavePair h _)
  have unpaired : Within c s s3 := ((h1.trans (h.stop s1)).trans (h.state _ g 1)).trans (h.state _ _ 1)
  refine Within.ite (fun _ => h1) fun _ => Within.ite (fun _ => ?_) fun _ => Within.ite (fun _ => ?_) fun _ =>
    Within.ite (fun _ => ?_) fun _ => Within.ite (fun _ => h1.trans (h.state s1 g 1)) fun _ => h1
  · exact Within.ite (fun _ => (off.trans (h.state s2 _ 0)).trans (h.rotStop _ _)) fun _ => off
  · exact (h1.trans (h.state s1 g 1)).trans (h.state _ _ 1)
  · exact unpaired.trans (within_setGrp s3 r g _ h.grp)

theorem within_startCal : Within c s (startCal s r g) :=
  ((((h.stop s).trans ((h.pair g).sb _ F.CG_CTRL_CAL rfl true)).trans (h.state _ g 6)).trans
      (within_setGrp _ r g _ h.grp)).trans
    (h.rotStop _ g)

theorem within_cgCtrlWrite (a : Reader) (v : Word) (ho : c.Has (ownerScope r)) :
    Within c s (cgCtrlWrite s a r g v) := by
  refine within_asOwner s ho ?_
  extract_lets b old want new cal s1 s2 s3 s4
  have h1 : Within c s s1 := (h.pair g).sf s F.CG_CTRL_LIVE rfl _
  have h2 : Within c s s2 := Within.ite (fun _ => h1.trans ((h.pair g).sb s1 F.CG_CTRL_LOCK rfl true)) fun _ => h1
  have h3 : Within c s s3 := Within.ite
    (fun _ => ((h2.trans (h.regs.sb s2 F.CG_ROT_CTRL_EST_FREEZE rfl false)).trans
        (h.regs.sb _ F.CG_ROT_CTRL_ROT_HOLD rfl false)).trans
      (within_rotResume _ (h.all.mono rfl))) fun _ => h2
  have h4 : Within c s s4 := Within.ite (fun _ => h3.trans (within_applyMode h s3 new)) fun _ => h3
  exact Within.ite (fun _ => within_cgReject s (h.all.mono rfl)) fun _ =>
    Within.ite (fun _ => h4.trans (within_startCal h s4)) fun _ => h4

end

/-! ### Results, the data register and stream taps (R122 to R134) -/

/-- A register of 64 bits. -/
theorem within_wr64 {c : Scope} (s : State) (r : Reg) (b n : Nat) (v : DWord) (hw : r ∈ wideRegs) (hj : r.blk ≠ .sett)
    (h : .one r b n ∈ c.spots) : Within c s (s.wr64 r b n v) := by
  have covers : ∀ a ∈ [r.addr b n, r.addr b n + 4], c.word r.blk a := fun a ha =>
    ⟨_, h, rfl, by rwa [Reg.words, if_pos hw]⟩
  apply within_regs
  · intro k a _
    by_cases hk : k = r.blk
    · subst hk
      by_cases ha : a ∈ [r.addr b n, r.addr b n + 4]
      · exact Or.inr (covers a ha)
      · simp only [List.mem_cons, List.not_mem_nil, or_false, not_or] at ha
        left
        rw [Regs.tab_put_self, Tab.get_set_ne _ _ ha.2, Tab.get_set_ne _ _ ha.1]
    · left; rw [Regs.tab_put_ne _ _ hk]
  · left; generalize r.blk = j at hj; cases j <;> first | rfl | exact absurd rfl hj

/-- What a result of group g of region r may change. -/
structure Scope.Delivers (c : Scope) (r g : Nat) : Prop where
  grp : c.key .conv (grpKey r g)
  regs : c.Names (cgB r g) 0 [R.CG_EVT, R.CG_INTEG_EVT]
  taps : ∀ t, c.Names (cgB r g) t [R.CG_TAPt_STAT]
  drops : c.Has dropScope
  result : Spot.one R.CG_RESULT (cgB r g) 0 ∈ c.spots

section
variable {c : Scope} {r g : Nat} (h : c.Delivers r g) (s : State)
include h

theorem within_tapDropFlow (t : Nat) : Within c s (tapDropFlow s r g t) :=
  Within.ite (fun _ => ((drop_countLoss s _ _).trans (drop_noteDrop _ _ _)).of_has h.drops) fun _ => Within.refl c s

theorem within_tapTake (res time : DWord) (chan t : Nat) : Within c s (tapTake s r g res time chan t) := by
  have tap : ∀ x, Within c s (s.setGrp r g x) := fun x => within_setGrp s r g x h.grp
  refine Within.ite (fun _ => Within.ite (fun _ => Within.ite (fun _ => tap _) fun _ => ?_) fun _ => tap _)
    fun _ => Within.refl c s
  exact (((tap _).trans ((h.taps t).bump _ F.CG_TAPt_STAT_DROP rfl)).trans
      (h.regs.sb _ F.CG_EVT_TAP_DROP rfl true)).trans
    (within_tapDropFlow h _ t)

theorem within_deliverResult (chan : Nat) (code : Int) (ovr settle inj urg : Bool) (time : DWord) :
    Within c s (deliverResult s r g chan code ovr settle inj urg time) := by
  unfold deliverResult
  extract_lets b s1 s2 s3 seq kept res x s4
  have h1 : Within c s s1 := Within.ite (fun _ => h.regs.sb s F.CG_EVT_OVR_SEEN rfl true) fun _ => Within.refl c s
  have h2 : Within c s s2 := Within.ite (fun _ => h1.trans (h.regs.sb s1 F.CG_EVT_SETTLE_SEEN rfl true)) fun _ => h1
  have h3 : Within c s s3 := Within.ite (fun _ => h2.trans (h.regs.sb s2 F.CG_EVT_INJ_SETTLE rfl true)) fun _ => h2
  have h4 : Within c s s4 := Within.ite
    (fun _ => (h3.trans (within_wr64 s3 R.CG_RESULT b 0 res (by decide) (by decide) h.result)).trans
      (within_setGrp _ r g _ h.grp)) fun _ => h3
  exact h4.trans (Within.foldl (fun t i => within_tapTake h t res time chan i) _ s4)

theorem within_formResult (chan : Nat) (mean : Int) (clamped exc near inj urg : Bool) (time : DWord) :
    Within c s (formResult s r g chan mean clamped exc near inj urg time) :=
  (within_setGrp s r g _ h.grp).trans (within_deliverResult h _ _ _ _ _ _ _ _)

end

end Sys2Proof.Machine

/-! ## Frames: converter integrity -/

namespace Sys2Proof.Machine

/-! ### Slices that are calibrated, in service or retired (R136 to R149, R159 to R167) -/

/-- What the service of a slice of group g of region r may change, its retirement among it. -/
structure Scope.Serves (c : Scope) (r g : Nat) : Prop where
  grp : c.key .conv (grpKey r g)
  regs : c.Names (cgB r g) 0 [R.CG_CAL_STAT, R.CG_EVT, R.CG_INTEG_EVT, R.CG_ROT_STAT, R.CG_STAT]
  svcs : ∀ n, c.Names (cgB r g) n [R.CG_SVCs]
  wear : c.Has wornScope
  spares : Spot.one R.SETT_SPAREk 0 2 ∈ c.spots

section
variable {c : Scope} {r g : Nat} (h : c.Serves r g) (s : State)
include h

theorem Scope.Serves.raise (x : Src) (n : Nat) (d : BitVec 80) : Within c s (s.raise x n d) :=
  (alarm_raise s x n d).of_has (h.wear.trans (by repeat' constructor))

theorem Scope.Serves.spare (q b x : Nat) : Within c s (s.useSpare 2 q b x) := within_spare s q b x h.wear h.spares

theorem Scope.Serves.permanent : Within c s s.failPermanent := (worn_failPermanent s).of_has h.wear

theorem within_rotPhase (ph : Nat) : Within c s (rotPhase s r g ph) :=
  Within.ite (fun _ => ((within_setGrp s r g _ h.grp).trans (h.regs.sf _ F.CG_ROT_STAT_PHASE rfl 3)).trans
    (within_makeStale _ h.grp (h.regs.mono rfl))) fun _ => h.regs.sf s F.CG_ROT_STAT_PHASE rfl ph

theorem within_handOver (p out new : Nat) (hc : c.Names (cgB r g) 0 [R.CG_ROT_CNT]) :
    Within c s (handOver s r g p out new) := by
  unfold handOver
  extract_lets b pos s1 x s2
  have h1 : Within c s s1 := ((h.regs.sf s F.CG_ROT_STAT_POS rfl _).trans (h.regs.sf _ F.CG_ROT_STAT_SVC rfl out)).trans
    ((h.svcs new).count _ F.CG_SVCs_COUNT rfl)
  have h2 : Within c s s2 := (h1.trans (hc.count s1 F.CG_ROT_CNT_HANDOVERS rfl)).trans (within_setGrp _ r g _ h.grp)
  exact h2.trans (h.regs.sb s2 F.CG_ROT_STAT_STALE rfl _)

theorem within_recordService (slice : Nat) (cal : Word) (hc : c.Names (cgB r g) slice [R.CG_CALs]) :
    Within c s (recordService s r g slice cal) :=
  ((hc.sf s F.CG_CALs_OFS rfl _).trans (hc.sf _ F.CG_CALs_GAIN rfl _)).trans ((h.svcs slice).sf _ F.CG_SVCs_TEMP rfl _)

end

section
variable {c : Scope} {r : Rgn} {g : Fin 4} (h : c.Serves r.val g.val) (s : State)
include h

theorem within_retireSlice (slice at_ : Nat) (hs : c.Names (cgB r.val g.val) 0 [R.CG_SCAN, R.CG_URG_STAT]) :
    Within c s (retireSlice s r g slice at_) := by
  unfold retireSlice
  extract_lets b n fail s1 src s2
  have h1 : Within c s s1 :=
    (h.regs.sf s F.CG_CAL_STAT_SLICE_FAIL rfl fail).trans (h.regs.sb _ F.CG_INTEG_EVT_SLICE_RETIRED rfl true)
  have stops : c.Names (cgB r.val g.val) 0 [R.CG_EVT, R.CG_SCAN, R.CG_URG_STAT] := (h.regs.append hs).mono rfl
  have h2 : Within c s s2 :=
    (((h1.trans (within_stopConversions s1 h.grp stops)).trans (within_setCgState _ 7 (h.regs.mono rfl))).trans
    (h.regs.sb _ F.CG_STAT_CAL_VALID rfl false)).trans (h.permanent _)
  exact Within.ite
    (fun _ => ((h1.trans (h.spare s1 _ _ 0)).trans (h.raise _ _ _ _)).trans (within_fourSlice _ (h.regs.mono rfl)))
    fun _ => (h2.trans (h.raise s2 _ _ _)).trans (h.raise _ _ _ _)

theorem within_sliceFailed (fail slice : Nat) : Within c s (sliceFailed s r g fail slice) := h.raise s _ _ _

theorem within_calShort (oldFail fail : Nat) (newFail : List Nat) :
    Within c s (calShort s r g oldFail fail newFail) := by
  unfold calShort
  extract_lets n b s1 had s1' s2
  have failed : ∀ t, Within c t (newFail.foldl (fun t i => sliceFailed t r g fail i) t) := fun t =>
    Within.foldl (fun t i => within_sliceFailed h t fail i) _ t
  have four : Within c s s1 := Within.foldl (fun t i => (h.spare t _ _ 0).trans (within_sliceFailed h _ fail i)) _ s
  have h1 : Within c s s1' := Within.ite (fun _ => h.spare s _ _ 0) fun _ => Within.refl c s
  have h2 : Within c s s2 := Within.ite
    (fun _ => (h1.trans (h.regs.sb s1' F.CG_INTEG_EVT_SLICE_RETIRED rfl true)).trans (failed _)) fun _ => h1
  exact Within.ite
    (fun _ => ((four.trans (within_fourSlice s1 (h.regs.mono rfl))).trans
        (within_setCgState _ _ (h.regs.mono rfl))).trans
      (within_kickScan _ h.grp))
    fun _ => ((h2.trans (within_setCgState s2 7 (h.regs.mono rfl))).trans (h.permanent _)).trans (h.raise _ _ _ _)

/-- The coefficients and counts that a self-calibration writes beside what the service of a slice does. -/
structure Scope.Calibrates (c : Scope) (r g : Nat) : Prop extends c.Serves r g where
  cal : c.Names (cgB r g) 0 [R.CG_CTRL, R.CG_EST_STAT]
  slices : ∀ n, c.Names (cgB r g) n [R.CG_CALs, R.CG_SKEWs, R.CG_BWs]

end

theorem within_calSlice {c : Scope} {r g : Nat} (h : c.Calibrates r g) (s : State) (oldFail fail : Nat)
    (cals skews bws : List Word) (temp : Int) (i : Nat) :
    Within c s (calSlice s (cgB r g) oldFail fail cals skews bws temp i) := by
  unfold calSlice
  extract_lets s1
  have h1 : Within c s s1 := Within.ite (fun _ => Within.refl c s) fun _ => (h.slices i).wr s R.CG_CALs rfl _
  exact Within.ite (fun _ => h1) fun _ => ((h1.trans ((h.slices i).wr s1 R.CG_SKEWs rfl _)).trans
    ((h.slices i).wr _ R.CG_BWs rfl _)).trans ((h.svcs i).sf _ F.CG_SVCs_TEMP rfl _)

theorem within_calibrationDone {c : Scope} {r : Rgn} {g : Fin 4} (h : c.Calibrates r.val g.val) (s : State) (passed : Nat)
    (cals skews bws : List Word) : Keeps (execCalibrationDone r g passed cals skews bws s) (Within c s) := by
  unfold execCalibrationDone
  extract_lets b oldFail fail newFail n temp s1 s3 s4 s5 x s6 s7 after s8
  have h1 : Within c s s1 := (h.regs.sf s F.CG_CAL_STAT_SLICE_FAIL rfl fail).trans
    (Within.foldl (fun t i => within_calSlice h t oldFail fail cals skews bws temp i) _ _)
  have h3 : Within c s s3 :=
    (h1.trans (h.regs.sf s1 F.CG_CAL_STAT_TEMP rfl _)).trans (h.regs.count _ F.CG_CAL_STAT_CAL_CNT rfl)
  have h4 : Within c s s4 := ((h3.trans (h.cal.sf s3 F.CG_EST_STAT_SKEW_HOLD rfl 0)).trans
    (h.cal.sf _ F.CG_EST_STAT_HOLD_BLK rfl 0)).trans (h.cal.sf _ F.CG_EST_STAT_USABLE_RUN rfl 0)
  have h5 : Within c s s5 := ((h4.trans (h.cal.sb s4 F.CG_CTRL_CAL rfl false)).trans
    (h.regs.sb _ F.CG_EVT_CAL_DONE rfl true)).trans (h.regs.sb _ F.CG_STAT_CAL_VALID rfl _)
  have h6 : Within c s s6 := h5.trans (within_setGrp s5 _ _ _ h.grp)
  have h7 : Within c s s7 := Within.trans
    (Within.ite (fun _ => h6) fun _ => h6.trans (h.regs.sb s6 F.CG_EVT_CAL_FAIL rfl true))
    (h.regs.sb _ F.CG_ROT_STAT_STALE rfl false)
  have h8 : Within c s s8 := h7.trans (within_setCgState s7 _ (h.regs.mono rfl))
  exact keeps_after <| Within.ite (fun _ => Within.refl c s) fun _ => Within.ite
    (fun _ => Within.trans (Within.ite (fun _ => h8.trans (within_startWindow s8 h.grp (h.regs.mono rfl))) fun _ => h8)
      (within_kickScan _ h.grp))
    fun _ => h7.trans (within_calShort h.toServes s7 _ _ _)

/-! ### The background estimator (R150 to R152) -/

/-- What a block of the estimator of group g of region r may change. -/
structure Scope.Estimates (c : Scope) (r g : Nat) : Prop where
  grp : c.key .conv (grpKey r g)
  regs : c.Names (cgB r g) 0 [R.CG_EST_STAT, R.CG_INTEG_EVT]
  slices : ∀ n, c.Names (cgB r g) n [R.CG_SKEWs, R.CG_BWs]
  alarms : c.Has alarmScope

section
variable {c : Scope} {r g : Nat} (h : c.Estimates r g) (s : State)
include h

theorem within_moveField {f : Fld} (i n : Nat) (d : Int)
    (hf : decide (f.reg ∈ [R.CG_SKEWs, R.CG_BWs] ∧ f.reg.blk ≠ .sett) = true) :
    Within c s (moveField s f (cgB r g) i n d) := (h.slices i).sf s f hf _

theorem within_moveSlice (slice : Nat) (m : EstMove) : Within c s (moveSlice s (cgB r g) slice m) :=
  ((within_moveField h s slice 12 _ rfl).trans (within_moveField h _ slice 12 _ rfl)).trans
    (within_moveField h _ slice 16 _ rfl)

theorem within_moveAll (moves : List EstMove) : Within c s (moveAll s r g moves) := by
  unfold moveAll
  have one : ∀ t (p : Nat × EstMove), Within c t (moveSlice t (cgB r g) p.1 p.2) :=
    fun t p => within_moveSlice h t p.1 p.2
  exact Within.ite (fun _ => Within.refl c s) fun _ => Within.foldl one _ s

theorem within_blockUsable (moves : List EstMove) : Within c s (blockUsable s r g moves) := by
  unfold blockUsable
  extract_lets b s1 s2 s3
  have h2 : Within c s s2 := ((within_moveAll h s moves).trans (h.regs.sf s1 F.CG_EST_STAT_HOLD_BLK rfl 0)).trans
    (h.regs.bump _ F.CG_EST_STAT_USABLE_RUN rfl)
  have h3 : Within c s s3 := Within.ite (fun _ => h2.trans (h.regs.sb s2 F.CG_EST_STAT_SKEW_HOLD rfl false)) fun _ => h2
  exact h3.trans (within_setGrp s3 r g _ h.grp)

end

theorem within_blockUnusable {c : Scope} {r : Rgn} {g : Fin 4} (h : c.Estimates r.val g.val) (s : State) :
    Within c s (blockUnusable s r g) := by
  unfold blockUnusable
  extract_lets b s1 blk s2
  have h1 : Within c s s1 :=
    (h.regs.sf s F.CG_EST_STAT_USABLE_RUN rfl 0).trans (h.regs.bump _ F.CG_EST_STAT_HOLD_BLK rfl)
  have h2 : Within c s s2 := (h1.trans (h.regs.sb s1 F.CG_EST_STAT_SKEW_HOLD rfl true)).trans
    (h.regs.sb _ F.CG_INTEG_EVT_HOLD_SET rfl true)
  exact Within.ite (fun _ => h1) fun _ =>
    (h2.trans (within_setGrp s2 _ _ _ h.grp)).trans ((alarm_raise _ _ _ _).of_has h.alarms)

end Sys2Proof.Machine

/-! ## Frames: the commands of converter groups and their integrity -/

namespace Sys2Proof.Machine

/-! ### Stream taps at their destinations (R128 to R130) -/

section
variable {c : Scope} (s : State)

/-- What the delivery of a tap's result may change at its destination. -/
def tapScope : Scope := ⟨0, [.engines none, .fabs none, .rgn none], [.every R.LE_EVPEND, .every R.LE_INp_STAT]⟩

theorem tap_eventPend (r n : Nat) : Within tapScope s (s.eventPend r n) := by
  have h : tapScope.Names (leB r) 0 [R.LE_EVPEND] := Scope.names_every .le r 0 rfl (by repeat' constructor)
  exact Within.ite (fun _ => h.sf s F.LE_EVPEND_PEND rfl _)
    fun _ => within_setRgn s r _ (Scope.key_none (by repeat' constructor))

theorem tap_portOffer {t : State} (q p : Nat) (x : Xfer) (ht : portOffer s q p x = some t) : Within tapScope s t := by
  unfold portOffer at ht
  extract_lets y o b latest s1 s2 x s3 at ht
  have h : tapScope.Names b p [R.LE_INp_STAT] := Scope.names_every .le q 0 rfl (by repeat' constructor)
  have h1 : Within tapScope s s1 := Within.ite (fun _ => h.bump s F.LE_INp_STAT_OVW rfl) fun _ => Within.refl _ s
  have h2 : Within tapScope s s2 := h1.trans (within_setEng s1 q _ (Scope.key_none (by repeat' constructor)))
  have h3 : Within tapScope s s3 :=
    Within.ite (fun _ => h2.trans (within_setRgn s2 q _ (Scope.key_none (by repeat' constructor)))) fun _ => h2
  split at ht
  · exact absurd ht (by simp)
  · obtain rfl := Option.some.inj ht
    exact Within.ite (fun _ => h3.trans (tap_eventPend s3 q 28)) fun _ => h3

theorem tap_setQc (r q : Nat) (x : QcS) : Within tapScope s (s.setQc r q x) :=
  within_setFab s r _ (Scope.key_none (by repeat' constructor))

theorem tap_streamPush {t : State} (r q w : Nat) (v : BitVec 72) (ht : streamPush s r q w v = some t) :
    Within tapScope s t := by
  unfold streamPush at ht
  split at ht
  · obtain rfl := Option.some.inj ht
    exact Within.ite (fun _ => Within.ite (fun _ => tap_setQc s r q _) fun _ => tap_setQc s r q _)
      fun _ => tap_setQc s r q _
  · exact absurd ht (by simp)

theorem Within.getD {o : Option State} (h : ∀ t, o = some t → Within c s t) : Within c s (o.getD s) := by
  cases o with
  | none => exact Within.refl c s
  | some t => exact h t rfl

theorem within_tapEmit {r : Rgn} {g : Fin 4} (t : Nat) (e : TapEntry) (hk : c.key .conv (grpKey r.val g.val))
    (hd : c.Has dropScope) : Within c s (tapEmit s r g t e) := by
  unfold tapEmit
  extract_lets i h s1 acc j
  have h1 : Within c s s1 := within_setGrp s _ _ _ hk
  have enter : ∀ u v, Within c s u → u.enterHop h j = some v → Within c s v := fun u v hu hv =>
    hu.trans ((drop_enterHop u h j hv).of_has hd)
  split
  · refine Within.ite (fun _ => Within.ite (fun _ => ?_) fun _ => Within.refl c s) fun _ =>
      Within.ite (fun _ => ?_) fun _ => Within.refl c s
    · exact Within.getD s fun v => enter _ v (h1.trans ((drop_takeToken s1 _ _).of_has hd))
    · exact Within.getD s fun v => enter s1 v h1
  · exact h1.trans (((drop_countDrop s1 _).trans (drop_noteDrop _ _ _)).of_has hd)
  · exact h1.trans ((drop_dropAt s1 _ _).of_has hd)

end

/-! ### The commands of converter groups -/

section
variable (r : Rgn) (g : Fin 4) (a : Reader) (v : Word) (s : State)

theorem frame_cgModeChange : Keeps (execCgModeChange a r g v s) (Within (scope (.cgModeChange a r g v) s) s) := by
  refine keeps_after <| within_cgCtrlWrite
    ⟨Scope.key_some ?_, fun q => Scope.names_every .cg r q rfl ?_, Scope.names_one ?_⟩ s a v ?_
  all_goals repeat' constructor

theorem frame_selfCalibration :
    Keeps (execSelfCalibration a r g s) (Within (scope (.selfCalibration a r g) s) s) := by
  refine keeps_after <| within_cgCtrlWrite
    ⟨Scope.key_some ?_, fun q => Scope.names_every .cg r q rfl ?_, Scope.names_one ?_⟩ s a _ ?_
  all_goals repeat' constructor

theorem frame_cgModeReady : Keeps (execCgModeReady r g s) (Within (scope (.cgModeReady r g) s) s) := by
  unfold execCgModeReady
  extract_lets b o st x s1
  have hk : ∀ q, (scope (.cgModeReady r g) s).key .conv (grpKey r q) := fun q => Scope.key_none (by repeat' constructor)
  have hs : ∀ q, (scope (.cgModeReady r g) s).Names (cgB r q) 0 [R.CG_ROT_STAT, R.CG_STAT] := fun q =>
    Scope.names_every .cg r q rfl (by repeat' constructor)
  have hr : ∀ q, (scope (.cgModeReady r g) s).Names (cgB r q) 0 [R.CG_CTRL, R.CG_SCAN] := fun q =>
    Scope.names_here .cg r q rfl (by repeat' constructor)
  have window : ∀ t q, Within (scope (.cgModeReady r g) s) t (startWindow t r q) := fun t q =>
    within_startWindow t (hk q) ((hs q).mono rfl)
  have state : ∀ t q v, Within (scope (.cgModeReady r g) s) t (setCgState t r q v) := fun t q v =>
    within_setCgState t v ((hs q).mono rfl)
  have h1 : Within (scope (.cgModeReady r g) s) s s1 := Within.ite
    (fun _ => (((((state s o 3).trans ((hr o).sf _ F.CG_CTRL_MODE rfl 2)).trans
        ((hr g).sf _ F.CG_SCAN_SMODE rfl 0)).trans
      ((hr o).sf _ F.CG_SCAN_SMODE rfl 0)).trans (within_setGrp _ r g _ (hk g))).trans (window _ o))
        fun _ => Within.refl _ s
  refine keeps_after (Within.ite (fun _ => Within.refl _ s) fun _ => ?_)
  split
  · exact within_toLowPower s (hk g) (hs g)
  · exact Within.ite (fun _ => Within.refl _ s) fun _ => h1.trans (within_toFullRate s1 (hk g) (hs g))
  · exact ((((state s g 4).trans (state _ o 5)).trans (window _ g)).trans (window _ o)).trans (within_kickScan _ (hk g))
  · exact Within.refl _ s

theorem frame_calibrationDone (passed : Nat) (cals skews bws : List Word) :
    Keeps (execCalibrationDone r g passed cals skews bws s)
      (Within (scope (.calibrationDone r g passed cals skews bws) s) s) := by
  refine within_calibrationDone
    ⟨⟨Scope.key_some ?_, Scope.names_one ?_, fun _ => Scope.names_inBlock ?_,
      ?_, ?_⟩, Scope.names_one ?_, fun _ => Scope.names_inBlock ?_⟩ s passed cals skews bws
  all_goals repeat' constructor

theorem frame_scanGo : Keeps (execScanGo a r g s) (Within (scope (.scanGo a r g) s) s) := by
  refine keeps_after <| within_cgScanWrite s (Scope.key_some ?_) a _ ?_ (Scope.names_one ?_)
  all_goals repeat' constructor

theorem frame_scanTrigger : Keeps (execScanTrigger r g s) (Within (scope (.scanTrigger r g) s) s) := by
  refine keeps_after <| Within.ite (fun _ => within_scanRequest s (Scope.key_some ?_) (Scope.names_one ?_))
    fun _ => Within.refl _ s
  all_goals repeat' constructor

theorem frame_scanPassEnd : Keeps (execScanPassEnd r g s) (Within (scope (.scanPassEnd r g) s) s) := by
  unfold execScanPassEnd
  extract_lets b x s1 s2
  have grp : ∀ t y, Within (scope (.scanPassEnd r g) s) t (t.setGrp r g y) :=
    fun t y => within_setGrp t r g y (Scope.key_some (by repeat' constructor))
  have go : (scope (.scanPassEnd r g) s).Names b 0 [R.CG_SCAN] := Scope.names_one (by repeat' constructor)
  have h2 : Within (scope (.scanPassEnd r g) s) s s2 := Within.ite (fun _ => grp s _) fun _ =>
    Within.ite (fun _ => (grp s _).trans (grp s1 _)) fun _ => grp s _
  refine keeps_after ?_
  split
  · exact Within.ite (fun _ => Within.ite (fun _ => h2.trans (go.sb s2 F.CG_SCAN_GO rfl false)) fun _ => h2)
      fun _ => Within.refl _ s
  · exact Within.refl _ s

theorem frame_batchDone (xs : List Sample) (sub : Fin 40) :
    Keeps (execBatchDone r g xs sub s) (Within (scope (.batchDone r g xs sub) s) s) := by
  have h : (scope (.batchDone r g xs sub) s).Delivers r g := by
    refine ⟨Scope.key_some ?_, Scope.names_one ?_, fun _ => Scope.names_inBlock ?_, ?_, ?_⟩ <;> repeat' constructor
  refine keeps_after ?_
  split
  · exact Within.ite
      (fun _ => ((within_ditherClip s _ (h.regs.mono rfl)).trans (within_formResult h _ _ _ _ _ _ _ _ _)).trans
        (within_setGrp _ _ _ _ h.grp)) fun _ => Within.refl _ s
  · exact Within.refl _ s

theorem frame_excursion (disc : Bool) : Keeps (execExcursion r g disc s) (Within (scope (.excursion r g disc) s) s) := by
  refine keeps_after ?_
  split
  · exact Within.ite (fun _ => within_setGrp s _ _ _ (Scope.key_some (by repeat' constructor))) fun _ => Within.refl _ s
  · exact Within.refl _ s

theorem frame_hostUrgentRequest :
    Keeps (execHostUrgentRequest a r g v s) (Within (scope (.hostUrgentRequest a r g v) s) s) := by
  refine keeps_after <| within_asOwner s ?_ <| Within.ite (fun _ => within_cgReject s (Scope.names_one ?_)) fun _ =>
    within_urgentRequest s (Scope.key_some ?_) _ (Scope.names_one ?_)
  all_goals repeat' constructor

theorem frame_urgentTrigger (k : Fin 4) : Keeps (execUrgentTrigger r g k s) (Within (scope (.urgentTrigger r g k) s) s) := by
  refine keeps_after <| within_urgTrig s (Scope.key_some ?_) _ (Scope.names_one ?_)
  all_goals repeat' constructor

theorem frame_urgentSample (x : Sample) (sub : Fin 40) :
    Keeps (execUrgentSample r g x sub s) (Within (scope (.urgentSample r g x sub) s) s) := by
  have h : (scope (.urgentSample r g x sub) s).Delivers r g := by
    refine ⟨Scope.key_some ?_, Scope.names_one ?_, fun _ => Scope.names_inBlock ?_, ?_, ?_⟩ <;> repeat' constructor
  refine keeps_after ?_
  split
  · exact Within.ite
      (fun _ => ((within_setGrp s _ _ _ h.grp).trans (within_ditherClip _ _ (h.regs.mono rfl))).trans
        (within_formResult h _ _ _ _ _ _ _ _ _)) fun _ => Within.refl _ s
  · exact Within.refl _ s

theorem within_resultHigh {c : Scope} (hk : c.key .conv (grpKey r.val g.val)) : Within c s (resultHigh s a r g).2 := by
  unfold resultHigh
  extract_lets x q
  split <;> exact within_setGrp s _ _ _ hk

theorem frame_cgResultLowRead :
    Keeps (execCgResultLowRead a r g s) (Within (scope (.cgResultLowRead a r g) s) s) :=
  keeps_after <| Within.ite
    (fun _ => (within_setGrp s _ _ _ (Scope.key_some (by repeat' constructor))).trans
        (within_answer _ a _ List.mem_cons_self))
    fun _ => Within.refl _ s

theorem frame_cgResultHighRead :
    Keeps (execCgResultHighRead a r g s) (Within (scope (.cgResultHighRead a r g) s) s) :=
  keeps_after <| Within.ite
    (fun _ => (within_resultHigh r g a s (Scope.key_some (by repeat' constructor))).trans
        (within_answer _ a _ List.mem_cons_self))
    fun _ => Within.refl _ s

theorem frame_tapDeliver (t : Fin 3) : Keeps (execTapDeliver r g t s) (Within (scope (.tapDeliver r g t) s) s) := by
  have hk : (scope (.tapDeliver r g t) s).key .conv (grpKey r.val g.val) := Scope.key_some (by repeat' constructor)
  have hd : (scope (.tapDeliver r g t) s).Has tapScope := (by repeat' constructor)
  unfold execTapDeliver
  extract_lets b dst port s1
  refine keeps_after ?_
  split
  · exact Within.refl _ s
  · have h1 : Within (scope (.tapDeliver r g t) s) s s1 := within_setGrp s _ _ _ hk
    split
    · exact Within.getD s fun u hu => h1.trans ((tap_portOffer s1 _ _ _ hu).of_has hd)
    · exact Within.getD s fun u hu => h1.trans ((tap_streamPush s1 _ _ _ _ hu).of_has hd)
    · exact within_tapEmit s _ _ hk (by repeat' constructor)

/-! ### The commands of converter integrity -/

theorem frame_rotationPoint (diff : Nat) :
    Keeps (execRotationPoint r g diff s) (Within (scope (.rotationPoint r g diff) s) s) := by
  have h : (scope (.rotationPoint r g diff) s).Serves r g := by
    refine ⟨Scope.key_some ?_, Scope.names_one ?_, fun _ => Scope.names_inBlock ?_, ?_, ?_⟩ <;> repeat' constructor
  unfold execRotationPoint
  extract_lets b p out s1
  have h1 : Within (scope (.rotationPoint r g diff) s) s s1 :=
    within_handOver h s p out _ (Scope.names_one (by repeat' constructor))
  exact keeps_after <| Within.ite (fun _ => Within.refl _ s) fun _ => Within.ite
    (fun _ => (h1.trans (h.regs.sb s1 F.CG_INTEG_EVT_SHADOW_FAIL rfl true)).trans
      (within_retireSlice h _ out 3 (Scope.names_one (by repeat' constructor))))
    fun _ => h1.trans (within_rotPhase h s1 1)

theorem frame_shadowStart (cal : Word) (dev : Nat) :
    Keeps (execShadowStart r g cal dev s) (Within (scope (.shadowStart r g cal dev) s) s) := by
  have h : (scope (.shadowStart r g cal dev) s).Serves r g := by
    refine ⟨Scope.key_some ?_, Scope.names_one ?_, fun _ => Scope.names_inBlock ?_, ?_, ?_⟩ <;> repeat' constructor
  exact keeps_after <| Within.ite (fun _ => Within.refl _ s) fun _ => Within.ite
    (fun _ => within_retireSlice h s _ 2 (Scope.names_one (by repeat' constructor)))
    fun _ => ((within_setGrp s _ _ _ h.grp).trans
        (within_recordService h _ _ cal (Scope.names_inBlock (by repeat' constructor)))).trans
      (within_rotPhase h _ 2)

theorem frame_estimatorBlock (exc : Nat) (moves : List EstMove) :
    Keeps (execEstimatorBlock r g exc moves s) (Within (scope (.estimatorBlock r g exc moves) s) s) := by
  have h : (scope (.estimatorBlock r g exc moves) s).Estimates r g := by
    refine ⟨Scope.key_some ?_, Scope.names_one ?_, fun _ => Scope.names_inBlock ?_, ?_⟩ <;> repeat' constructor
  unfold execEstimatorBlock
  extract_lets s0
  have h0 : Within (scope (.estimatorBlock r g exc moves) s) s s0 := h.regs.sf s F.CG_EST_STAT_EXC rfl _
  exact keeps_after <| Within.ite (fun _ => Within.refl _ s) fun _ => Within.ite
    (fun _ => h0.trans (within_blockUsable h s0 moves)) fun _ => h0.trans (within_blockUnusable h s0)

theorem frame_cgRotCtrlWrite :
    Keeps (execCgRotCtrlWrite a r g v s) (Within (scope (.cgRotCtrlWrite a r g v) s) s) := by
  have h : (scope (.cgRotCtrlWrite a r g v) s).Names (cgB r g) 0 [R.CG_INTEG_EVT, R.CG_ROT_CTRL, R.CG_ROT_STAT] :=
    Scope.names_one (by repeat' constructor)
  exact keeps_after <| within_asOwner s (by repeat' constructor) <| Within.ite
    (fun _ => h.sb s F.CG_INTEG_EVT_TEST_REJ rfl true)
    fun _ => (h.wr s R.CG_ROT_CTRL rfl _).trans (within_rotResume _ (h.mono rfl))

theorem frame_lowPowerHandover (cal : Word) (dev diff : Nat) :
    Keeps (execLowPowerHandover r g cal dev diff s) (Within (scope (.lowPowerHandover r g cal dev diff) s) s) := by
  have h : (scope (.lowPowerHandover r g cal dev diff) s).Serves r g := by
    refine ⟨Scope.key_some ?_, Scope.names_one ?_, fun _ => Scope.names_inBlock ?_, ?_, ?_⟩ <;> repeat' constructor
  have hc : (scope (.lowPowerHandover r g cal dev diff) s).Names (cgB r g) 0 [R.CG_ROT_CNT, R.CG_SCAN, R.CG_URG_STAT] :=
    Scope.names_one (by repeat' constructor)
  unfold execLowPowerHandover
  extract_lets b x nxt s1 s2
  have h1 : Within (scope (.lowPowerHandover r g cal dev diff) s) s s1 :=
    ((within_recordService h s nxt cal (Scope.names_inBlock (by repeat' constructor))).trans
        ((h.svcs nxt).count _ F.CG_SVCs_COUNT rfl)).trans
      (hc.count _ F.CG_ROT_CNT_HANDOVERS rfl)
  have h2 : Within (scope (.lowPowerHandover r g cal dev diff) s) s s2 := h1.trans (within_setGrp s1 _ _ _ h.grp)
  refine keeps_after <| Within.ite (fun _ => Within.refl _ s) fun _ => Within.ite (fun _ => ?_) fun _ =>
    Within.ite (fun _ => within_retireSlice h s nxt 2 (hc.mono rfl)) fun _ => Within.ite (fun _ => ?_) fun _ => h2
  · exact (hc.count s F.CG_ROT_CNT_HANDOVERS rfl).trans (within_setGrp _ _ _ _ h.grp)
  · exact (h2.trans (h.regs.sb s2 F.CG_INTEG_EVT_SHADOW_FAIL rfl true)).trans (within_retireSlice h _ _ 3 (hc.mono rfl))

end

end Sys2Proof.Machine

/-! ## Frames: window comparators -/

namespace Sys2Proof.Machine

/-! ### Latches and what follows from them (R177 to R185, R195) -/

/-- What a latch may drive: trip inputs, the record of the trip, the event line and the wake of region r, the Safe request. -/
def latchScope (r : Nat) : Scope :=
  ⟨0, .ana none :: .comp none :: .flows none :: .pgSub none :: .pwm none :: .rgn (some r) :: .safeHold :: alarmP,
    .every R.PG_CHcc_CNT :: .every R.PG_CHcc_STAT :: .every R.PG_EVT :: .one R.LE_EVPEND (leB r) 0 :: logS :: (dropS ++ safeS)⟩

/-- What a change of the latch of comparator m of cluster k of region r may change. -/
structure Scope.Latches (c : Scope) (r k m : Nat) : Prop where
  parts : c.Has (latchScope r)
  stat : ∀ n, c.Names (acB r k) n [R.WC_CMPm_STAT]
  sets : c.Names (acB r k) m [R.WC_CMPm_CNT]
  status : c.Names (acB r k) 0 [R.WC_STATUS]

theorem Scope.Latches.of_listed {c : Scope} {r k m : Nat} (parts : c.Has (latchScope r))
    (h : Listed c.spots [.inBlock R.WC_CMPm_STAT (acB r k), .one R.WC_CMPm_CNT (acB r k) m, .one R.WC_STATUS (acB r k) 0]) :
    c.Latches r k m := by
  match h with
  | .cons stat (.cons sets (.cons status .nil)) =>
    exact ⟨parts, fun _ => Scope.names_inBlock (.cons stat .nil), Scope.names_one (.cons sets .nil),
      Scope.names_one (.cons status .nil)⟩

namespace Scope.Latches
variable {c : Scope} {r k m : Nat} (h : c.Latches r k m)
include h

theorem comp (n : Nat) : c.key .comp n := Scope.key_none (h.parts.places.mem _ (by repeat' constructor))
theorem trips : c.Has tripScope := h.parts.trans (by repeat' constructor)
theorem drops : c.Has dropScope := h.parts.trans (by repeat' constructor)
theorem events : c.Has (eventScope r) := h.parts.trans (by repeat' constructor)
theorem safe : c.Has safeScope := h.parts.trans (by repeat' constructor)
theorem alarms : c.Has alarmScope := h.parts.trans (by repeat' constructor)

end Scope.Latches

theorem within_wcReject {c : Scope} (s : State) {b : Nat} (h : c.Names b 0 [R.WC_STATUS]) : Within c s (wcReject s b) :=
  within_reject s _ _ b (by decide) (by decide) (h R.WC_STATUS (by decide)) (h R.WC_STATUS (by decide))

theorem within_wcOwner {c : Scope} (s : State) {a : Reader} {r k : Nat} {f : State → State} (ho : c.Has (ownerScope r))
    (h : c.Names (acB r k) 0 [R.WC_STATUS]) (hf : Within c s (f s)) : Within c s (wcOwner s a r k f) :=
  Within.ite (fun _ => hf.trans ((within_started s _ r).of_has ho)) fun _ =>
    within_byPath s a _ (((within_ownerReject s r).of_has ho).trans (within_wcReject _ h))

section
variable {c : Scope} {r : Rgn} {k : Fin 12} {m : Fin 2} (h : c.Latches r.val k.val m.val) (s : State)
include h

theorem within_syncComp : Within c s (syncComp s r k.val) := by
  unfold syncComp
  extract_lets b put s1 s2
  have hput : ∀ t n, Within c t (put t n) := fun t n =>
    ((h.stat n).sb t F.WC_CMPm_STAT_RAW rfl _).trans ((h.stat n).sb _ F.WC_CMPm_STAT_LATCHED rfl _)
  have h2 : Within c s s2 := ((hput s 0).trans (hput _ 1)).trans (h.status.sb s1 F.WC_STATUS_SAFE_REQ rfl _)
  exact (h2.trans ((safe_syncSafe s2).of_has h.safe)).trans ((trip_refreshTrips _ r).of_has h.trips)

theorem within_tripRecord (halves : Nat) : Within c s (tripRecord s r k m halves) :=
  Within.ite (fun _ => within_raiseT s _ _ _ _ _ h.alarms.places.mem (h.alarms.spots.mem _ List.mem_cons_self))
    fun _ => (drop_produce s _).of_has h.drops

theorem within_latchSet (halves : Nat) : Within c s (latchSet s r k m halves) := by
  unfold latchSet
  extract_lets b s1 s2 s3
  have h1 : Within c s s1 := h.sets.bump s F.WC_CMPm_CNT_SETS rfl
  have h2 : Within c s s2 := Within.ite (fun _ => h1.trans (within_tripRecord h s1 halves)) fun _ => h1
  have h3 : Within c s s3 := Within.ite (fun _ => h2.trans ((event_wake s2 r).of_has h.events)) fun _ => h2
  exact Within.ite (fun _ => h3.trans ((event_eventPend s3 r _).of_has h.events)) fun _ => h3

theorem within_compChange (x : CmpS) : Within c s (compChange s r k m x) := by
  unfold compChange
  extract_lets s1 s2
  have h1 : Within c s s1 := within_setCmp s _ _ x (h.comp _)
  have h2 : Within c s s2 := Within.ite (fun _ => h1.trans (within_latchSet h s1 _)) fun _ => h1
  exact h2.trans (within_syncComp h s2)

theorem within_halvesChange (spare : Bool) (halves : Nat) (rise : Bool) :
    Within c s (halvesChange s r k m spare halves rise) :=
  Within.ite (fun _ => within_compChange h s _) fun _ => Within.refl c s

theorem within_clearLatch : Within c s (clearLatch s r k m) := within_compChange h s _

theorem within_wcStatWrite (a : Reader) (v : Word) (ho : c.Has (ownerScope r)) : Within c s (wcStatWrite s a r k m v) :=
  within_wcOwner s ho h.status <| Within.ite (fun _ => within_clearLatch h s) fun _ =>
    Within.ite (fun _ => within_wcReject s h.status) fun _ => Within.refl c s

theorem within_wcCfgWrite (a : Reader) (v : Word) (ho : c.Has (ownerScope r))
    (hc : c.Names (acB r.val k.val) m.val [R.WC_CMPm_CFG]) : Within c s (wcCfgWrite s a r k m v) :=
  within_wcOwner s ho h.status <| Within.ite (fun _ => within_wcReject s h.status) fun _ =>
    ((hc.wr s R.WC_CMPm_CFG rfl _).trans ((h.stat m).sb _ F.WC_CMPm_STAT_ACTIVE rfl _)).trans (within_compChange h _ _)

theorem within_wcRouteWrite (a : Reader) (trip : Bool) (v : Word) (ho : c.Has (ownerScope r))
    (hc : c.Names (acB r.val k.val) m.val [R.WC_CMPm_TRIP, R.WC_CMPm_ROUTE]) :
    Within c s (wcRouteWrite s a r k m trip v) := by
  refine within_wcOwner s ho h.status (Within.ite (fun _ => within_wcReject s h.status) fun _ => ?_)
  extract_lets s1 x lm s2
  have h1 : Within c s s1 := hc.wr s _ (by cases trip <;> rfl) _
  have h2 : Within c s s2 := Within.ite (fun _ => h1.trans (within_compChange h s1 _)) fun _ => h1
  exact h2.trans (within_syncComp h s2)

end

/-! ### Self-check and substitution (R186 to R194) -/

/-- What a check of a comparator of cluster k of region r may change until its end. -/
structure Scope.Checks (c : Scope) (r k : Nat) : Prop where
  comp : c.key .comp (r * 12 + k)
  regs : c.Names (acB r k) 0 [R.WC_CHK_STAT, R.WC_SPARE_STAT]

section
variable {c : Scope} {r k : Nat} (h : c.Checks r k) (s : State)
include h

theorem within_chkResult (result cause : Nat) : Within c s (chkResult s (acB r k) result cause) :=
  (h.regs.sf s F.WC_CHK_STAT_RESULT rfl _).trans (h.regs.sf _ F.WC_CHK_STAT_CAUSE rfl _)

theorem within_chkGo (st dur : Nat) : Within c s (chkGo s r k st dur) :=
  (h.regs.sf s F.WC_CHK_STAT_STATE rfl _).trans (within_setCmp _ r k _ h.comp)

theorem within_chkStart (m : Nat) (sub : Bool) : Within c s (chkStart s r k m sub) := by
  unfold chkStart
  extract_lets b x s1
  split
  · exact (((within_setCmp s r k _ h.comp).trans (within_chkResult h s1 0 0)).trans
      (h.regs.sf _ F.WC_SPARE_STAT_SHADOW rfl _)).trans (within_chkGo h _ 1 _)
  · exact within_chkResult h s 3 _

variable (hc : c.Names (acB r k) 0 [R.WC_CHK])
include hc

theorem within_wcChkWrite (a : Reader) (v : Word) (ho : c.Has (ownerScope r)) (hs : c.Names (acB r k) 0 [R.WC_STATUS]) :
    Within c s (wcChkWrite s a r k v) := by
  refine within_wcOwner s ho hs ?_
  extract_lets b s1 s2
  have h1 : Within c s s1 := (hc.sf s F.WC_CHK_SUB rfl _).trans (hc.sf _ F.WC_CHK_CMP rfl _)
  have h2 : Within c s s2 := h1.trans (within_chkStart h s1 _ _)
  exact Within.ite (fun _ => h1) fun _ => Within.ite (fun _ => h2.trans (hc.sb s2 F.WC_CHK_START rfl true)) fun _ => h2

theorem within_chkEnd : Within c s (chkEnd s r k) :=
  (((h.regs.sf s F.WC_CHK_STAT_STATE rfl 0).trans (h.regs.sf _ F.WC_SPARE_STAT_SHADOW rfl 0)).trans
    (hc.sb _ F.WC_CHK_START rfl false)).trans (within_setCmp _ r k _ h.comp)

end

/-- What the end of a check may change, the loss of the spare among it. -/
structure Scope.Replaces (c : Scope) (r k : Nat) : Prop extends c.Checks r k where
  start : c.Names (acB r k) 0 [R.WC_CHK]
  stat : ∀ n, c.Names (acB r k) n [R.WC_CMPm_STAT]
  trim : ∀ n, c.Names (acB r k) n [R.WC_CMPm_TRIM]
  status : c.Names (acB r k) 0 [R.WC_STATUS]
  wear : c.Has wornScope
  spares : Spot.one R.SETT_SPAREk 0 1 ∈ c.spots

section
variable {c : Scope} {r : Rgn} {k : Fin 12} (h : c.Replaces r.val k.val) (s : State)
include h

theorem Scope.Replaces.raise (x : Src) (n : Nat) (d : BitVec 80) : Within c s (s.raise x n d) :=
  (alarm_raise s x n d).of_has (h.wear.trans (by repeat' constructor))

theorem within_chkReplace (m : Fin 2) (bad cause : Nat) : Within c s (chkReplace s r k m bad cause) := by
  unfold chkReplace
  extract_lets b x old s1 s2
  have h1 : Within c s s1 := ((within_setCmp s _ _ _ h.comp).trans (within_chkResult h.toChecks _ 2 cause)).trans
    (within_chkEnd h.toChecks _ h.start)
  have h2 : Within c s s2 :=
    (h1.trans ((h.stat m).sf s1 F.WC_CMPm_STAT_PHYS rfl 2)).trans ((h.trim m).wr _ R.WC_CMPm_TRIM rfl _)
  exact (((h2.trans (h.status.sb s2 F.WC_STATUS_CHK_FAIL rfl true)).trans (h.raise _ _ _ _)).trans
    (h.regs.sb _ F.WC_SPARE_STAT_FREE rfl false)).trans (within_spare _ _ _ _ h.wear h.spares)

theorem within_chkSpareFail (m : Fin 2) : Within c s (chkSpareFail s r k m) := by
  unfold chkSpareFail
  extract_lets b s1
  have h1 : Within c s s1 := (((within_chkResult h.toChecks s 3 6).trans (within_chkEnd h.toChecks _ h.start)).trans
    (h.regs.sb _ F.WC_SPARE_STAT_FAILED rfl true)).trans (h.regs.sb _ F.WC_SPARE_STAT_FREE rfl false)
  exact (h1.trans (h.raise s1 _ _ _)).trans (within_spare _ _ _ _ h.wear h.spares)

theorem within_selfCheckStepEnd (hl : ∀ m, c.Latches r.val k.val m) (disagree : Bool) (obs : List (Fin 4 × Fin 4))
    (e : Levels) : Keeps (execSelfCheckStepEnd r k disagree obs e s) (Within c s) := by
  unfold execSelfCheckStepEnd
  extract_lets b x m mode lm put bad
  have hput : ∀ y, Within c s (put y) := within_compChange (hl m) s
  have step : ∀ y st dur, Within c s (chkGo (put y) r.val k.val st dur) := fun y st dur =>
    (hput y).trans (within_chkGo h.toChecks _ st dur)
  have replaced : ∀ n cause, Within c s (syncComp (chkReplace s r k m n cause) r k.val) := fun n cause =>
    (within_chkReplace h s m n cause).trans (within_syncComp (hl m) _)
  refine keeps_after (Within.ite (fun _ => Within.refl c s) fun _ => ?_)
  split
  · exact within_chkGo h.toChecks s 2 _
  · exact step _ 3 1
  · exact Within.ite (fun _ => step _ 7 100) fun _ => step _ 4 _
  · exact Within.ite (fun _ => replaced bad 5) fun _ => Within.ite (fun _ => step _ 5 _) fun _ => step _ 6 _
  · exact Within.ite (fun _ => within_chkSpareFail h s m) fun _ => 
      Within.ite (fun _ => step _ 7 100) fun _ => step _ 6 _
  · exact Within.ite (fun _ => Within.ite (fun _ => step _ 5 _) fun _ => step _ 7 100) fun _ =>
      (hput _).trans (within_setCmp _ _ _ _ h.comp)
  · exact Within.ite (fun _ => replaced 0 0) fun _ =>
      (within_chkResult h.toChecks s 1 _).trans (within_chkEnd h.toChecks _ h.start)
  · exact Within.refl c s

end

/-! ### The commands -/

section
variable {c : Scope} {r : Rgn} {k : Fin 12} (s : State)

theorem within_comparatorCrossing {m : Fin 2} (h : c.Latches r.val k.val m.val) (hh : .hub ∈ c.places) (spare : Bool)
    (e : Levels) (sub : Fin 40) : Keeps (execComparatorCrossing r k m spare e sub s) (Within c s) :=
  keeps_after <| within_atCount s sub hh fun t => within_halvesChange h t spare _ true

theorem within_clearPoint (h : ∀ k m : Nat, c.Latches r.val k m) (x : Fin 16) : Keeps (execClearPoint r x s) (Within c s) :=
  keeps_after <| Within.foldl (fun t p =>
    Within.ite (fun _ => within_clearLatch (h p.1.val p.2.val) t) fun _ => Within.refl c t) _ s

theorem within_blankingEnd {m : Fin 2} (h : c.Latches r.val k.val m.val) (hh : .hub ∈ c.places) (sub : Fin 40) :
    Keeps (execBlankingEnd r k m sub s) (Within c s) :=
  keeps_after <| Within.ite (fun _ => Within.refl c s) fun _ =>
    within_atCount s sub hh fun t => within_compChange h t _

theorem within_wcThrWrite {m : Fin 2} (a : Reader) (v : Word) (ho : c.Has (ownerScope r))
    (h : c.Names (acB r.val k.val) 0 [R.WC_STATUS]) (hc : c.Names (acB r.val k.val) m.val [R.WC_CMPm_THR]) :
    Within c s (wcThrWrite s a r k m v) :=
  within_wcOwner s ho h <| Within.ite (fun _ => within_wcReject s h) fun _ => hc.wr s R.WC_CMPm_THR rfl _

theorem within_comparatorSubstitution {m : Fin 2} (h : c.Checks r.val k.val) (ho : c.Has (ownerScope r))
    (hs : c.Names (acB r.val k.val) 0 [R.WC_STATUS]) (hc : c.Names (acB r.val k.val) 0 [R.WC_CHK]) (x : Starter) :
    Keeps (execComparatorSubstitution x r k m s) (Within c s) := by
  refine keeps_after ?_
  match x with
  | .by a => exact within_wcChkWrite h s hc a _ ho hs
  | .wear => exact Within.ite (fun _ => within_chkStart h s _ true) fun _ => Within.refl c s

theorem within_periodicCheck (h : c.Checks r.val k.val) : Keeps (execPeriodicCheck r k s) (Within c s) := by
  have next : ∀ y, Within c s (s.setCmp r.val k.val y) := fun y => within_setCmp s _ _ y h.comp
  refine keeps_after (Within.ite (fun _ => Within.refl c s) fun _ => ?_)
  split
  · exact Within.refl c s
  · exact Within.ite (fun _ => (next _).trans (within_chkStart h _ _ false)) fun _ =>
      (next _).trans (h.regs.bump _ F.WC_CHK_STAT_SKIPS rfl)

end

section
variable (r : Rgn) (k : Fin 12) (m : Fin 2) (a : Reader) (v : Word) (s : State)

theorem frame_comparatorCrossing (spare : Bool) (e : Levels) (sub : Fin 40) :
    Keeps (execComparatorCrossing r k m spare e sub s) (Within (scope (.comparatorCrossing r k m spare e sub) s) s) := by
  refine within_comparatorCrossing s (.of_listed ?_ ?_) ?_ spare e sub
  all_goals repeat' constructor

theorem frame_rawDeassert (spare : Bool) (e : Levels) :
    Keeps (execRawDeassert r k m spare e s) (Within (scope (.rawDeassert r k m spare e) s) s) := by
  refine keeps_after <| within_halvesChange (.of_listed ?_ ?_) s spare _ false
  all_goals repeat' constructor

theorem frame_latchClear : Keeps (execLatchClear a r k m s) (Within (scope (.latchClear a r k m) s) s) := by
  refine keeps_after <| within_wcStatWrite (.of_listed ?_ ?_) s a 2 ?_
  all_goals repeat' constructor

theorem frame_clearPoint (x : Fin 16) : Keeps (execClearPoint r x s) (Within (scope (.clearPoint r x) s) s) := by
  refine within_clearPoint s (fun k m =>
    ⟨?_, fun _ => Scope.names_every .ac r k rfl ?_, Scope.names_every .ac r k rfl ?_,
      Scope.names_every .ac r k rfl ?_⟩) x
  all_goals repeat' constructor

theorem frame_blankingEnd (sub : Fin 40) :
    Keeps (execBlankingEnd r k m sub s) (Within (scope (.blankingEnd r k m sub) s) s) := by
  refine within_blankingEnd s (.of_listed ?_ ?_) ?_ sub
  all_goals repeat' constructor

theorem frame_wcCmpCfgWrite :
    Keeps (execWcCmpCfgWrite a r k m v s) (Within (scope (.wcCmpCfgWrite a r k m v) s) s) := by
  refine keeps_after <| within_wcCfgWrite (.of_listed ?_ ?_) s a v ?_ (Scope.names_one ?_)
  all_goals repeat' constructor

theorem frame_wcCmpThrWrite :
    Keeps (execWcCmpThrWrite a r k m v s) (Within (scope (.wcCmpThrWrite a r k m v) s) s) := by
  refine keeps_after <| within_wcThrWrite s a v ?_ (Scope.names_one ?_) (Scope.names_one ?_)
  all_goals repeat' constructor

theorem frame_wcRouteWrite (trip : Bool) :
    Keeps (execWcRouteWrite a r k m trip v s) (Within (scope (.wcRouteWrite a r k m trip v) s) s) := by
  refine keeps_after <| within_wcRouteWrite (.of_listed ?_ ?_) s a trip v ?_ (Scope.names_one ?_)
  all_goals repeat' constructor

theorem frame_selfCheck : Keeps (execSelfCheck a r k m s) (Within (scope (.selfCheck a r k m) s) s) := by
  refine keeps_after <| within_wcChkWrite ⟨Scope.key_some ?_, Scope.names_one ?_⟩ s (Scope.names_one ?_) a _ ?_
    (Scope.names_one ?_)
  all_goals repeat' constructor

theorem frame_selfCheckStepEnd (disagree : Bool) (obs : List (Fin 4 × Fin 4)) (e : Levels) :
    Keeps (execSelfCheckStepEnd r k disagree obs e s) (Within (scope (.selfCheckStepEnd r k disagree obs e) s) s) := by
  refine within_selfCheckStepEnd ⟨⟨Scope.key_none ?_, Scope.names_one ?_⟩, Scope.names_one ?_, fun _ => Scope.names_inBlock ?_,
    fun _ => Scope.names_inBlock ?_, Scope.names_one ?_, ?_, ?_⟩ s (fun _ => ⟨?_, fun _ => Scope.names_inBlock ?_,
    Scope.names_inBlock ?_, Scope.names_one ?_⟩) disagree obs e
  all_goals repeat' constructor

theorem frame_comparatorSubstitution (x : Starter) :
    Keeps (execComparatorSubstitution x r k m s) (Within (scope (.comparatorSubstitution x r k m) s) s) := by
  refine within_comparatorSubstitution s ⟨Scope.key_some ?_, Scope.names_one ?_⟩ ?_ (Scope.names_one ?_)
    (Scope.names_one ?_) x
  all_goals repeat' constructor

theorem frame_periodicCheck : Keeps (execPeriodicCheck r k s) (Within (scope (.periodicCheck r k) s) s) := by
  refine within_periodicCheck s ⟨Scope.key_some ?_, Scope.names_one ?_⟩
  all_goals repeat' constructor

end

end Sys2Proof.Machine

/-! ## The frame of chapters 2 to 5 -/

namespace Sys2Proof.Machine

/-- The chapters of analogue cells, converter groups, their integrity and comparators. -/
def conversionChapter (n : Nat) : Bool := n == 2 || n == 3 || n == 4 || n == 5

theorem conversionChapter_iff (n : Nat) : conversionChapter n = true ↔ n = 2 ∨ n = 3 ∨ n = 4 ∨ n = 5 := by
  simp only [conversionChapter, Bool.or_eq_true, beq_iff_eq, or_assoc]

/-- Every command of those chapters keeps to its scope; a command of another is excluded by its chapter. -/
theorem within_scope_of_conversionChapter (i : Instr) (s : State) (h : conversionChapter (scope i s).chapter = true) :
    Keeps (exec i s) (Within (scope i s) s) := by
  cases i
  case acCellCfgWrite => apply frame_acCellCfgWrite
  case acCellFiltWrite => apply frame_acCellFiltWrite
  case acCellRouteWrite => apply frame_acCellRouteWrite
  case acCtrlWrite => apply frame_acCtrlWrite
  case outputSwitchClose => apply frame_outputSwitchClose
  case shTrigger => apply frame_shTrigger
  case shHoldEnd => apply frame_shHoldEnd
  case cellClip => apply frame_cellClip
  case refFault => apply frame_refFault
  case refFaultClear => apply frame_refFaultClear
  case injectionDetect => apply frame_injectionDetect
  case injectionRelease => apply frame_injectionRelease
  case migrationStart => apply frame_migrationStart
  case migrationStepEnd => apply frame_migrationStepEnd
  case cgModeChange => apply frame_cgModeChange
  case selfCalibration => apply frame_selfCalibration
  case cgModeReady => apply frame_cgModeReady
  case calibrationDone => apply frame_calibrationDone
  case scanGo => apply frame_scanGo
  case scanTrigger => apply frame_scanTrigger
  case scanPassEnd => apply frame_scanPassEnd
  case batchDone => apply frame_batchDone
  case excursion => apply frame_excursion
  case hostUrgentRequest => apply frame_hostUrgentRequest
  case urgentTrigger => apply frame_urgentTrigger
  case urgentSample => apply frame_urgentSample
  case cgResultLowRead => apply frame_cgResultLowRead
  case cgResultHighRead => apply frame_cgResultHighRead
  case tapDeliver => apply frame_tapDeliver
  case rotationPoint => apply frame_rotationPoint
  case shadowStart => apply frame_shadowStart
  case estimatorBlock => apply frame_estimatorBlock
  case cgRotCtrlWrite => apply frame_cgRotCtrlWrite
  case lowPowerHandover => apply frame_lowPowerHandover
  case comparatorCrossing => apply frame_comparatorCrossing
  case rawDeassert => apply frame_rawDeassert
  case latchClear => apply frame_latchClear
  case clearPoint => apply frame_clearPoint
  case blankingEnd => apply frame_blankingEnd
  case wcCmpCfgWrite => apply frame_wcCmpCfgWrite
  case wcCmpThrWrite => apply frame_wcCmpThrWrite
  case wcRouteWrite => apply frame_wcRouteWrite
  case selfCheck => apply frame_selfCheck
  case selfCheckStepEnd => apply frame_selfCheckStepEnd
  case comparatorSubstitution => apply frame_comparatorSubstitution
  case periodicCheck => apply frame_periodicCheck
  all_goals exact absurd h Bool.false_ne_true

end Sys2Proof.Machine

namespace Sys2Proof.Machine

/-- Settles O54: each command's function is taken apart into the register writes, table writes and shared operations that it is
made of, and each of these keeps to registers and parts that the command's scope names. -/
theorem frameAnalogueAndConversion : Obligations.FrameAnalogueAndConversion := fun i s h =>
  within_scope_of_conversionChapter i s ((conversionChapter_iff _).2 h)

end Sys2Proof.Machine

/-! ## Converter groups: what their shared operations leave (R107 to R149) -/

namespace Sys2Proof.Machine

/-! ### What a group holds -/

theorem grp_setGrp_self (s : State) (r g : Nat) (x : GrpS) : (s.setGrp r g x).grp r g = x := Tab.get_set_self _ _ _

theorem grp_congr {s t : State} (h : t.conv = s.conv) (r g : Nat) : t.grp r g = s.grp r g := by rw [State.grp, State.grp, h]

@[simp] theorem started_conv (s t : State) (r : Nat) : (s.started t r).conv = t.conv := by
  unfold State.started
  split <;> rfl

theorem ending_grp (s t : State) (r g : Nat) : (s.ending t).grp r g = t.grp r g := grp_congr (ending_conv s t) r g

/-- A command by the owner shows the registers and the group of its effect. -/
theorem ownerEnding_grp (s t : State) (r q g : Nat) : (s.ending (s.started t q)).grp r g = t.grp r g :=
  grp_congr ((ending_conv _ _).trans (started_conv _ _ _)) r g

theorem ownerEnding_regs (s t : State) (q : Nat) : (s.ending (s.started t q)).regs = t.regs :=
  (ending_regs _ _).trans (started_regs _ _ _)

/-! ### The state of a group -/

theorem cgState_congr {s t : State} (h : t.regs = s.regs) (r g : Nat) : cgState t r g = cgState s r g := gf_congr h _ _ _

theorem cgState_setCgState (s : State) (r g v : Nat) : cgState (setCgState s r g v) r g = v % 8 :=
  gf_sf_self s F.CG_STAT_STATE _ _ _ (by decide)

/-- A register of a group at another offset than CG_STAT. -/
theorem gf_setCgState (s : State) (r g v : Nat) {f : Fld} (h : f.reg.off ≠ R.CG_STAT.off) :
    (setCgState s r g v).gf f (cgB r g) = s.gf f (cgB r g) := gf_sf_off s _ _ h

theorem cgState_sf (s : State) (r g v : Nat) {f : Fld} (h : R.CG_STAT.off ≠ f.reg.off) :
    cgState (s.sf f (cgB r g) 0 v) r g = cgState s r g := gf_sf_off s (g := F.CG_STAT_STATE) _ _ h

/-- A group that converts is in low-power mode, at full rate or the even member of a pair, outside Torpor. -/
theorem converting_iff (s : State) (r g : Nat) : converting s r g = true ↔
    (cgState s r g = 2 ∨ cgState s r g = 3 ∨ cgState s r g = 4) ∧ s.inTorpor r = false := by
  simp [converting, or_assoc]

theorem converting_congr {s t : State} {r g : Nat} (hs : cgState t r g = cgState s r g) (ht : t.inTorpor r = s.inTorpor r) :
    converting t r g = converting s r g := by simp only [converting, hs, ht]

theorem inTorpor_sf (s : State) (b n v r : Nat) {f : Fld} (h : f.reg.blk ≠ .rgn) : (s.sf f b n v).inTorpor r = s.inTorpor r :=
  congrArg (· != 0) (gf_sf_ne s f F.RGN_STAT_TORPOR b n v (rgB r) 0 (Or.inl h.symm))

/-! ### Operations that change what a group holds and no register -/

theorem startPass_regs (s : State) (r g : Nat) : (startPass s r g).regs = s.regs := setGrp_regs _ _ _ _

theorem startPass_pass (s : State) (r g : Nat) :
    ((startPass s r g).grp r g).pass = passOf s (cgB r g) (s.gf F.CG_MASK_MASK (cgB r g)) :=
  congrArg GrpS.pass (grp_setGrp_self _ _ _ _)

theorem kickScan_regs (s : State) (r g : Nat) : (kickScan s r g).regs = s.regs := by
  unfold kickScan
  split
  · exact startPass_regs s r g
  · rfl

/-- Continuous scanning starts nothing where a pass runs. -/
theorem kickScan_of_pass {s : State} {r g : Nat} (h : (s.grp r g).pass.isSome = true) : kickScan s r g = s :=
  if_neg (by simp [Option.isNone_eq_false_iff.2 h])

theorem restartBatch_regs (s : State) (r g : Nat) : (restartBatch s r g).regs = s.regs := setGrp_regs _ _ _ _

theorem abortBatch_torpor (x : GrpS) : (abortBatch x).torpor = x.torpor := by
  unfold abortBatch
  split
  · split <;> rfl
  · rfl

theorem abortBatch_urg (x : GrpS) : (abortBatch x).urg = x.urg := by
  unfold abortBatch
  split
  · split <;> rfl
  · rfl

end Sys2Proof.Machine

/-! ## Modes of a converter group, self-calibration and scanning (R107 to R114, R136 to R140) -/

namespace Sys2Proof.Machine

/-- What both branches of a choice show, the choice shows. -/
theorem ite_shows {β : Type} (g : State → β) {p : Prop} [Decidable p] {t u : State} {x : β} (ht : g t = x) (hu : g u = x) :
    g (if p then t else u) = x := by
  split
  · exact ht
  · exact hu

section
variable {s : State} {a : Reader} {r : Rgn} {g : Fin 4}

/-! ### A change of mode from Off (R107, R108) -/

theorem gf_rotResume (s : State) (r g : Nat) {f : Fld} (h : f.reg.off ≠ R.CG_ROT_STAT.off) :
    (rotResume s r g).gf f (cgB r g) = s.gf f (cgB r g) :=
  ite_shows (State.gf · f (cgB r g)) (gf_sf_off s _ _ h) rfl

/-- From Off a released, calibrated group may go to low power or full rate. -/
theorem modeAllowed_from_off {r g new : Nat} (hn : new = 1 ∨ new = 2) (ho : s.gf F.CG_CTRL_MODE (cgB r g) = 0)
    (hs : cgState s r g = 0) (hv : s.gb F.CG_STAT_CAL_VALID (cgB r g) = true) (hr : s.gb F.RGN_STAT_RESET (rgB r) = false) :
    modeAllowed s r g new = true := by
  unfold modeAllowed
  simp only [ho, hs, hv, hr]
  obtain rfl | rfl := hn <;> rfl

/-- A group that leaves Off starts. -/
theorem applyMode_from_off {r g new : Nat} (hn : new = 1 ∨ new = 2) (ho : s.gf F.CG_CTRL_MODE (cgB r g) = 0)
    (hs : cgState s r g = 0) : applyMode s r g new = setCgState (s.sf F.CG_CTRL_MODE (cgB r g) 0 new) r g 1 := by
  have h0 : new ≠ 0 := by omega
  have h3 : new ≠ 3 := by omega
  unfold applyMode
  simp [ho, hs, h0, h3]

theorem cgModeChange_ends {v : Word} (hm : s.mayWrite a r = true) (hn : fOf v F.CG_CTRL_MODE = 1 ∨ fOf v F.CG_CTRL_MODE = 2)
    (hc : fOf v F.CG_CTRL_CAL = 0) (ho : s.gf F.CG_CTRL_MODE (cgB r g) = 0) (hs : cgState s r g = 0)
    (hv : s.gb F.CG_STAT_CAL_VALID (cgB r g) = true) (hr : s.gb F.RGN_STAT_RESET (rgB r) = false) :
    Ends (execCgModeChange a r g v s) fun t => t.gf F.CG_CTRL_MODE (cgB r g) = fOf v F.CG_CTRL_MODE ∧ cgState t r g = 1 := by
  refine ends_asOwner hm ?_
  rw [gf_congr (ownerEnding_regs _ _ _), cgState_congr (ownerEnding_regs _ _ _)]
  extract_lets b old want new cal s1 s2 s3 s4
  have hnew : new = want := if_neg fun h => by omega
  have hcal : cal = false := by simp [cal, hc]
  have hne : (new != old) = true := bne_iff_ne.2 fun h => by
    rw [hnew, show old = 0 from ho] at h
    exact absurd (hn.imp h.symm.trans h.symm.trans) (by decide)
  have hallow : modeAllowed s r g new = true := modeAllowed_from_off (hnew ▸ hn) ho hs hv hr
  have h3 : ∀ f ∈ [F.CG_CTRL_MODE, F.CG_STAT_STATE], s3.gf f b = s.gf f b := by
    intro f hf
    have h1 : s1.gf f b = s.gf f b := by
      fin_cases hf
      · exact gf_sf_same_reg s F.CG_CTRL_LIVE F.CG_CTRL_MODE _ _ _ rfl (by decide) (by decide)
      · exact gf_sf_off s _ _ (by decide)
    have h2 : s2.gf f b = s.gf f b := by
      refine ite_shows (State.gf · f b) ?_ h1
      fin_cases hf
      · exact (gf_sf_same_reg s1 F.CG_CTRL_LOCK F.CG_CTRL_MODE _ _ _ rfl (by decide) (by decide)).trans h1
      · exact (gf_sb_off s1 _ _ (by decide)).trans h1
    refine ite_shows (State.gf · f b) ?_ h2
    have hoff : f.reg.off ≠ R.CG_ROT_CTRL.off ∧ f.reg.off ≠ R.CG_ROT_STAT.off := by fin_cases hf <;> decide
    rw [gf_rotResume _ _ _ hoff.2, gf_sb_off _ _ _ hoff.1, gf_sb_off _ _ _ hoff.1, h2]
  have h4 : s4 = setCgState (s3.sf F.CG_CTRL_MODE b 0 new) r g 1 := (if_pos hne).trans
    (applyMode_from_off (hnew ▸ hn) ((h3 _ (by simp)).trans ho) ((h3 F.CG_STAT_STATE (by simp)).trans hs))
  rw [if_neg (by simp [hallow, hcal]), if_neg (by simp [hcal]), h4, gf_setCgState _ _ _ _ (by decide),
    gf_sf_self _ _ _ _ _ (by decide), cgState_setCgState, hnew]
  exact ⟨Nat.mod_eq_of_lt (Word.bits_lt v 1 0), rfl⟩

/-! ### Results begin in the mode (R107, R149) -/

theorem toLowPower_ends (hs : cgState s r g = 1) (hmode : s.gf F.CG_CTRL_MODE (cgB r g) = 1) :
    Ends (execCgModeReady r g s) fun t => cgState t r g = 2 ∧ t.gf F.CG_ROT_STAT_PHASE (cgB r g) = 0 := by
  apply ends_of_ending
  simp only [hs, hmode]
  rw [cgState_congr (ending_regs _ _), ending_gf, if_neg (by omega), toLowPower,
    cgState_congr (kickScan_regs _ _ _), gf_congr (kickScan_regs _ _ _), cgState_setCgState,
    gf_setCgState _ _ _ _ (by decide), rotStop, gf_sf_self _ _ _ _ _ (by decide)]
  exact ⟨rfl, rfl⟩

theorem working_congr {s t : State} {r g : Nat}
    (h : t.gf F.CG_CAL_STAT_SLICE_FAIL (cgB r g) = s.gf F.CG_CAL_STAT_SLICE_FAIL (cgB r g)) :
    working t r g = working s r g := by simp only [working, h]

/-- A service window changes no register of its group but CG_ROT_STAT. -/
theorem rd_startWindow (s : State) {r g n : Nat} {q : Reg} (h : q.addr (cgB r g) n ≠ R.CG_ROT_STAT.addr (cgB r g) 0) :
    (startWindow s r g).rd q (cgB r g) n = s.rd q (cgB r g) n := by
  unfold startWindow
  extract_lets b fresh s1
  have h1 : s1.rd q b n = s.rd q b n :=
    ite_shows (State.rd · q b n) ((rd_wr_ne _ _ (Or.inr h)).trans (rd_wr_ne _ _ (Or.inr h))) rfl
  refine ite_shows (State.rd · q b n) rfl (ite_shows (State.rd · q b n) ?_ ?_) <;>
    exact (rd_wr_ne _ _ (Or.inr h)).trans ((rd_congr (setGrp_regs _ _ _ _) _ _ _).trans h1)

theorem gf_startWindow (s : State) (r g : Nat) {f : Fld} (h : f.reg.off ≠ R.CG_ROT_STAT.off) :
    (startWindow s r g).gf f (cgB r g) = s.gf f (cgB r g) :=
  congrArg (Word.bits · f.hi f.lo) (rd_startWindow s (reg_addr_ne h _))

/-- With five working slices, and nothing that holds the rotation, PHASE reads 1 (R146, R149). -/
theorem startWindow_phase {r g : Nat} (hw : (working s r g).length = 5) (hp : rotPaused s r g = false) :
    (startWindow s r g).gf F.CG_ROT_STAT_PHASE (cgB r g) = 1 := by
  unfold startWindow
  extract_lets b fresh s1
  have h1 : rotPaused s1 r g = false :=
    ite_shows (rotPaused · r g) (by
      rw [rotPaused, gb_sf_off _ _ _ (by decide), gb_sf_off _ _ _ (by decide),
        grp_congr ((sf_conv _ _ _ _ _).trans (sf_conv _ _ _ _ _))]
      exact hp) hp
  rw [if_neg (by omega), if_neg (by simp [h1]), gf_sf_self _ _ _ _ _ (by decide)]
  rfl

theorem toFullRate_ends (hs : cgState s r g = 1) (hmode : s.gf F.CG_CTRL_MODE (cgB r g) = 2) (hu : (s.grp r g).unpair = false) :
    Ends (execCgModeReady r g s) fun t => cgState t r g = 3 ∧
      ((working s r g).length = 5 → rotPaused s r g = false → t.gf F.CG_ROT_STAT_PHASE (cgB r g) = 1) := by
  apply ends_of_ending
  simp only [hs, hmode]
  rw [cgState_congr (ending_regs _ _), ending_gf, if_neg (by omega), if_neg (by simp), if_neg (by simp [hu])]
  unfold toFullRate
  extract_lets s1
  have hc : s1.conv = (restartBatch s r g).conv := sf_conv _ _ _ _ _
  have hoff : ∀ {f : Fld}, f.reg.off ≠ R.CG_STAT.off → s1.gf f (cgB r g) = s.gf f (cgB r g) := fun h =>
    (gf_setCgState _ _ _ _ h).trans (gf_congr (restartBatch_regs _ _ _) _ _ _)
  rw [if_neg (by omega), cgState_congr (kickScan_regs _ _ _), gf_congr (kickScan_regs _ _ _)]
  refine ⟨(gf_startWindow s1 r g (f := F.CG_STAT_STATE) (by decide)).trans (cgState_setCgState _ _ _ _), fun hw hp => ?_⟩
  refine startWindow_phase ((congrArg List.length (working_congr (hoff (by decide)))).trans hw) ?_
  have ht : (s1.grp r g).torpor = (s.grp r g).torpor := by
    rw [grp_congr hc, restartBatch, grp_setGrp_self, abortBatch_torpor]
  rw [rotPaused, State.gb, hoff (by decide), ht]
  exact hp

/-! ### Self-calibration starts (R136, R138) -/

theorem stopConversions_pass (s : State) (r g : Nat) : ((stopConversions s r g).grp r g).pass = none := by
  rw [stopConversions, grp_congr (sb_conv _ _ _ _ _), grp_setGrp_self]

theorem startCal_spec (s : State) (r g : Nat) : cgState (startCal s r g) r g = 6 ∧
    (startCal s r g).gb F.CG_CTRL_CAL (cgB r g) = true ∧ ((startCal s r g).grp r g).pass = none := by
  refine ⟨?_, ?_, ?_⟩
  · rw [startCal, rotStop, cgState_sf _ _ _ _ (by decide), beginCal_state]
  · rw [startCal, rotStop, gb_sf_off _ _ _ (by decide), beginCal, gb_congr (setGrp_regs _ _ _ _), State.gb,
      gf_setCgState _ _ _ _ (by decide)]
    exact gb_sb_self _ _ _ _ _ (by decide) (by decide)
  · rw [startCal, rotStop, grp_congr (sf_conv _ _ _ _ _), beginCal, grp_setGrp_self]
    exact stopConversions_pass s r g

/-- The word of the command: CAL, and MODE as it is. -/
theorem calWord_fields (w : Word) :
    fOf ((w.setBits 8 8 1).setBits 31 31 0) F.CG_CTRL_MODE = w.bits 1 0 ∧
    fOf ((w.setBits 8 8 1).setBits 31 31 0) F.CG_CTRL_CAL = 1 :=
  ⟨(Word.bits_setBits_ne _ 31 31 0 1 0 (by omega) (by omega)).trans (Word.bits_setBits_ne w 8 8 1 1 0 (by omega) (by omega)),
   (Word.bits_setBits_ne _ 31 31 0 8 8 (by omega) (by omega)).trans (Word.bits_setBits_self w 8 8 1 (by omega))⟩

theorem selfCalibration_ends (hm : s.mayWrite a r = true) (hc : s.gb F.CG_CTRL_CAL (cgB r g) = false)
    (hallow : calAllowed s r g = true) : Ends (execSelfCalibration a r g s) fun t =>
      cgState t r g = 6 ∧ t.gb F.CG_CTRL_CAL (cgB r g) = true ∧ (t.grp r g).pass = none := by
  refine ends_asOwner hm ?_
  rw [cgState_congr (ownerEnding_regs _ _ _), gb_congr (ownerEnding_regs _ _ _), ownerEnding_grp]
  obtain ⟨hmode, hcal1⟩ := calWord_fields (s.rd R.CG_CTRL (cgB r g))
  extract_lets b old want new cal s1 s2 s3 s4
  have hw : want = old := hmode
  have hnew : new = old := by
    show (if _ then old else want) = old
    rw [hw, ite_self]
  have hcal : cal = true := by simp [cal, hcal1, b, hc]
  rw [if_neg (by simp [hnew, hallow]), if_pos hcal]
  exact startCal_spec s4 r g
end

/-! ### Self-calibration ends (R137 to R140, R167) -/

/-- The registers of a slice that a self-calibration may write. -/
def sliceRegs : List Reg := [R.CG_CALs, R.CG_SKEWs, R.CG_BWs, R.CG_SVCs]

section
variable (s : State) (b oldFail fail : Nat) (cals skews bws : List Word) (temp : Int)

/-- A calibrated slice leaves every register but its own. -/
theorem rd_calSlice (i : Nat) {q : Reg} {c m : Nat} (h : ∀ p ∈ sliceRegs, q.blk ≠ p.blk ∨ q.addr c m ≠ p.addr b i) :
    (calSlice s b oldFail fail cals skews bws temp i).rd q c m = s.rd q c m := by
  unfold calSlice
  extract_lets s1
  have h1 : s1.rd q c m = s.rd q c m := ite_shows (State.rd · q c m) rfl (rd_wr_ne _ _ (h R.CG_CALs (by decide)))
  exact ite_shows (State.rd · q c m) h1 ((rd_wr_ne _ _ (h R.CG_SVCs (by decide))).trans
    ((rd_wr_ne _ _ (h R.CG_BWs (by decide))).trans ((rd_wr_ne _ _ (h R.CG_SKEWs (by decide))).trans h1)))

/-- The five slices of a group, one after the other. -/
def calSlices : State := (List.range 5).foldl (fun s i => calSlice s b oldFail fail cals skews bws temp i) s

theorem rd_calSlices {q : Reg} {c m : Nat} (h : ∀ i < 5, ∀ p ∈ sliceRegs, q.blk ≠ p.blk ∨ q.addr c m ≠ p.addr b i) :
    (calSlices s b oldFail fail cals skews bws temp).rd q c m = s.rd q c m :=
  List.foldlRecOn (motive := fun t => t.rd q c m = s.rd q c m) _ _ rfl fun t ht i hi =>
    (rd_calSlice t b oldFail fail cals skews bws temp i (h i (List.mem_range.1 hi))).trans ht

theorem gf_calSlices {f : Fld} {c m : Nat} (h : ∀ i < 5, ∀ p ∈ sliceRegs, f.reg.blk ≠ p.blk ∨ f.reg.addr c m ≠ p.addr b i) :
    (calSlices s b oldFail fail cals skews bws temp).gf f c m = s.gf f c m :=
  congrArg (Word.bits · f.hi f.lo) (rd_calSlices s b oldFail fail cals skews bws temp h)

theorem calSlice_sett (i : Nat) : (calSlice s b oldFail fail cals skews bws temp i).sett = s.sett := by
  unfold calSlice
  extract_lets s1
  have h1 : s1.sett = s.sett := ite_shows State.sett rfl (wr_sett _ _ _ _ _)
  exact ite_shows State.sett h1 (by simp only [sf_sett, wr_sett, h1])

theorem calSlices_sett : (calSlices s b oldFail fail cals skews bws temp).sett = s.sett :=
  foldl_kept State.sett (fun t i => calSlice_sett t b oldFail fail cals skews bws temp i) _ s

/-- The last slice, where none has failed, takes the words found. -/
theorem calSlices_last : (calSlices s b 0 0 cals skews bws temp).rd R.CG_CALs b 4 = cals.getD 4 0 ∧
    (calSlices s b 0 0 cals skews bws temp).rd R.CG_BWs b 4 = bws.getD 4 0 := by
  rw [calSlices, List.range_succ, List.foldl_append, List.foldl_cons, List.foldl_nil, calSlice]
  simp only [Nat.zero_testBit, Bool.false_eq_true, if_false]
  have hne : ∀ {p q : Reg} (u : State) (v : Word), p.off ≠ q.off ∧ p.stride = q.stride → (u.wr q b 4 v).rd p b 4 = u.rd p b 4 :=
    fun u v h => rd_wr_ne u v (Or.inr (by simp only [Reg.addr]; omega))
  rw [State.sf, hne _ _ (by decide), hne _ _ (by decide), hne _ _ (by decide), rd_wr_self, hne _ _ (by decide), rd_wr_self]
  exact ⟨rfl, rfl⟩
end

theorem stateAfterCal_lt (s : State) (r g : Nat) : stateAfterCal s r g < 8 := by
  unfold stateAfterCal
  split
  · omega
  · split <;> omega

theorem stateAfterCal_congr {s t : State} {r g : Nat} (hm : t.gf F.CG_CTRL_MODE (cgB r g) = s.gf F.CG_CTRL_MODE (cgB r g))
    (hr : t.gb F.RGN_STAT_RESET (rgB r) = s.gb F.RGN_STAT_RESET (rgB r)) (hp : t.sett.phase = s.sett.phase) :
    stateAfterCal t r g = stateAfterCal s r g := by simp only [stateAfterCal, hm, hr, hp]

/-- Registers that a group has one of, below its slices' words or between them, and registers of other kinds of blocks. -/
theorem apart_from_slices {q : Reg} {c m : Nat} (b : Nat)
    (h : q.blk ≠ .cg ∨ (c = b ∧ q.stride = 0 ∧ (q.off < 0x200 ∨ 0x214 ≤ q.off ∧ q.off < 0x320))) :
    ∀ i < 5, ∀ p ∈ sliceRegs, q.blk ≠ p.blk ∨ q.addr c m ≠ p.addr b i := by
  intro i hi p hp
  obtain h | ⟨rfl, hs, ho⟩ := h
  · exact Or.inl fun he => h (by fin_cases hp <;> exact he)
  · right
    fin_cases hp <;> simp only [Reg.addr, hs, R.CG_CALs, R.CG_SKEWs, R.CG_BWs, R.CG_SVCs] <;> omega

/-- What the end of a self-calibration in which every slice works shows in its group's registers, its slices' apart. -/
def calShown (s : State) (b : Nat) (temp : Int) : State :=
  let s1 := (s.sf F.CG_CAL_STAT_TEMP b 0 (codeOf 16 temp)).count F.CG_CAL_STAT_CAL_CNT b
  let s2 := ((s1.sf F.CG_EST_STAT_SKEW_HOLD b 0 0).sf F.CG_EST_STAT_HOLD_BLK b 0 0).sf F.CG_EST_STAT_USABLE_RUN b 0 0
  (((s2.sb F.CG_CTRL_CAL b 0 false).sb F.CG_EVT_CAL_DONE b 0 true).sb F.CG_STAT_CAL_VALID b 0 true).sb F.CG_ROT_STAT_STALE b 0 false

theorem calShown_spec (s : State) (b : Nat) (temp : Int) :
    (calShown s b temp).gb F.CG_EVT_CAL_DONE b = true ∧ (calShown s b temp).gb F.CG_STAT_CAL_VALID b = true ∧
    (calShown s b temp).gb F.CG_CTRL_CAL b = false ∧
    (calShown s b temp).gf F.CG_CAL_STAT_TEMP b = codeOf 16 temp % 2 ^ 16 ∧
    (calShown s b temp).gf F.CG_CTRL_MODE b = s.gf F.CG_CTRL_MODE b := by
  simp (disch := decide) only [calShown, gb_eq_fld, gf_eq_fld, sb_regs, sf_regs, count_regs, Regs.fld_setFld_off,
    Regs.fld_setFld_reg, Regs.fld_setFld_self]
  exact ⟨rfl, rfl, rfl, rfl, trivial⟩

theorem calShown_sett (s : State) (b : Nat) (temp : Int) : (calShown s b temp).sett = s.sett := by
  rw [calShown, sb_sett, sb_sett, sb_sett, sb_sett, sf_sett, sf_sett, sf_sett, count_sett, sf_sett]

theorem codeOf_lt (n : Nat) (i : Int) : codeOf n i < 2 ^ n := by
  have h := Int.emod_lt_of_pos i (b := ((2 ^ n : Nat) : Int)) (by positivity)
  have h0 := Int.emod_nonneg i (b := ((2 ^ n : Nat) : Int)) (by positivity)
  rw [codeOf]
  omega

/-- The words of the slices lie apart from the registers that the end of a self-calibration shows. -/
theorem rd_calShown (s : State) (b : Nat) (temp : Int) {q : Reg} {c m : Nat}
    (h : q.blk ≠ .cg ∨ (c = b ∧ 0x200 ≤ q.off + m * q.stride ∧ q.off + m * q.stride < 0x220) ∨
      (c = b ∧ 0x320 ≤ q.off + m * q.stride)) : (calShown s b temp).rd q c m = s.rd q c m := by
  have hne : ∀ (f : Fld) (u : State) (v : Nat), f.reg.blk = .cg ∧ f.reg.stride = 0 ∧
      (f.reg.off < 0x200 ∨ 0x220 ≤ f.reg.off ∧ f.reg.off < 0x320) → (u.sf f b 0 v).rd q c m = u.rd q c m := by
    intro f u v ⟨hb, hs, ho⟩
    refine rd_wr_ne u _ (h.imp (fun h => hb ▸ h) fun h => ?_)
    simp only [Reg.addr, hs]
    omega
  simp (disch := decide) only [calShown, State.sb, State.count, hne]

theorem gf_calShown (s : State) (b : Nat) (temp : Int) {f : Fld} {c m : Nat}
    (h : f.reg.blk ≠ .cg ∨ (c = b ∧ 0x200 ≤ f.reg.off + m * f.reg.stride ∧ f.reg.off + m * f.reg.stride < 0x220) ∨
      (c = b ∧ 0x320 ≤ f.reg.off + m * f.reg.stride)) : (calShown s b temp).gf f c m = s.gf f c m :=
  congrArg (Word.bits · f.hi f.lo) (rd_calShown s b temp h)

/-- A calibrated group goes on in its mode (R138). -/
def calGoesOn (s : State) (r g : Nat) : State :=
  let on := setCgState s r g (stateAfterCal s r g)
  kickScan (if stateAfterCal s r g = 3 then startWindow on r g else on) r g

theorem rd_calGoesOn (s : State) {r g i : Nat} {q : Reg} (hs : q.addr (cgB r g) i ≠ R.CG_STAT.addr (cgB r g) 0)
    (hr : q.addr (cgB r g) i ≠ R.CG_ROT_STAT.addr (cgB r g) 0) : (calGoesOn s r g).rd q (cgB r g) i = s.rd q (cgB r g) i := by
  have hon : ∀ v, (setCgState s r g v).rd q (cgB r g) i = s.rd q (cgB r g) i := fun v => rd_wr_ne s _ (Or.inr hs)
  rw [calGoesOn, rd_congr (kickScan_regs _ _ _)]
  exact ite_shows (State.rd · q (cgB r g) i) ((rd_startWindow _ hr).trans (hon _)) (hon _)

/-- CG_STAT takes the state alone. -/
theorem gf_calGoesOn_stat (s : State) {r g : Nat} {f : Fld} (h : f.reg = R.CG_STAT) :
    (calGoesOn s r g).gf f (cgB r g) = (setCgState s r g (stateAfterCal s r g)).gf f (cgB r g) := by
  rw [calGoesOn, gf_congr (kickScan_regs _ _ _)]
  exact ite_shows (State.gf · f (cgB r g)) (gf_startWindow _ r g (by rw [h]; decide)) rfl

/-- The command where every slice works: what the slices take, what the group shows, and then its mode. -/
theorem execCalibrationDone_all_work {s : State} {r : Rgn} {g : Fin 4} (cals skews bws : List Word) (hs : cgState s r g = 6)
    (hf : s.gf F.CG_CAL_STAT_SLICE_FAIL (cgB r g) = 0) :
    ∃ u, execCalibrationDone r g 31 cals skews bws s = s.after (calGoesOn u r g) ∧ u.sett = s.sett ∧
      u.regs = (calShown (calSlices (s.sf F.CG_CAL_STAT_SLICE_FAIL (cgB r g) 0 0) (cgB r g) 0 0 cals skews bws
        (s.grp r g).calTemp) (cgB r g) (s.grp r g).calTemp).regs := by
  unfold execCalibrationDone
  extract_lets b oldFail fail newFail n temp s1 s3 s4 s5 x s6 s7 after s8
  rw [if_neg (by simp [hs])]
  have hold : oldFail = 0 := hf
  have hfail : fail = 0 := by simp [fail, hold]
  have hnew : newFail = [] := by simp [newFail, hold, hfail]
  have hn : n = 5 := by simp [n, hfail]
  have hs1 : s1 = calSlices (s.sf F.CG_CAL_STAT_SLICE_FAIL b 0 0) b 0 0 cals skews bws temp := by
    simp only [s1, hold, hfail, calSlices]
  have hs6 : s6.sb F.CG_ROT_STAT_STALE b 0 false = s7 := by simp only [s7, hnew, List.isEmpty_nil, if_true]
  have hs5 : s5.sb F.CG_ROT_STAT_STALE b 0 false = calShown s1 b temp := by
    have hv : decide (4 ≤ n) = true := by rw [hn]; rfl
    simp only [calShown, s5, s4, s3, hv]
  refine ⟨s7, by rw [if_pos hn]; rfl, ?_, ?_⟩
  · calc s7.sett = s5.sett := by rw [← hs6, sb_sett, setGrp_sett]
      _ = (calShown s1 b temp).sett := by rw [← hs5, sb_sett s5]
      _ = s.sett := by rw [calShown_sett, hs1, calSlices_sett, sf_sett]
  · rw [← hs6, ← hs1, ← hs5, sb_regs, sb_regs, setGrp_regs]

/-- The registers that the state after the calibration reads are as they were. -/
theorem calShown_calSlices_keeps (s : State) (r g v : Nat) (cals skews bws : List Word) (temp : Int) :
    (calShown (calSlices (s.sf F.CG_CAL_STAT_SLICE_FAIL (cgB r g) 0 v) (cgB r g) 0 0 cals skews bws temp) (cgB r g) temp).gf
      F.CG_CTRL_MODE (cgB r g) = s.gf F.CG_CTRL_MODE (cgB r g) ∧
    (calShown (calSlices (s.sf F.CG_CAL_STAT_SLICE_FAIL (cgB r g) 0 v) (cgB r g) 0 0 cals skews bws temp) (cgB r g) temp).gf
      F.RGN_STAT_RESET (rgB r) = s.gf F.RGN_STAT_RESET (rgB r) := by
  constructor
  · obtain ⟨-, -, -, -, hmode⟩ := calShown_spec
      (calSlices (s.sf F.CG_CAL_STAT_SLICE_FAIL (cgB r g) 0 v) (cgB r g) 0 0 cals skews bws temp) (cgB r g) temp
    rw [hmode, gf_calSlices _ _ _ _ _ _ _ _ (apart_from_slices _ (Or.inr ⟨rfl, rfl, Or.inl (by decide)⟩)),
      gf_sf_off _ _ _ (by decide)]
  · rw [gf_calShown _ _ _ (Or.inl (by decide)), gf_calSlices _ _ _ _ _ _ _ _ (apart_from_slices _ (Or.inl (by decide))),
      gf_sf_ne _ _ _ _ _ _ _ _ (Or.inl (by decide))]

theorem calibrationDone_ends {s : State} {r : Rgn} {g : Fin 4} (cals skews bws : List Word) (hs : cgState s r g = 6)
    (hf : s.gf F.CG_CAL_STAT_SLICE_FAIL (cgB r g) = 0) :
    Ends (execCalibrationDone r g 31 cals skews bws s) fun t => cgState t r g = stateAfterCal s r g ∧
      t.gb F.CG_EVT_CAL_DONE (cgB r g) = true ∧ t.gb F.CG_STAT_CAL_VALID (cgB r g) = true ∧
      t.gb F.CG_CTRL_CAL (cgB r g) = false ∧ t.gf F.CG_CAL_STAT_TEMP (cgB r g) = codeOf 16 (s.grp r g).calTemp ∧
      t.rd R.CG_CALs (cgB r g) 4 = cals.getD 4 0 ∧ t.rd R.CG_BWs (cgB r g) 4 = bws.getD 4 0 := by
  obtain ⟨u, hexec, hsett, hregs⟩ := execCalibrationDone_all_work cals skews bws hs hf
  obtain ⟨hmode, hreset⟩ := calShown_calSlices_keeps s r g 0 cals skews bws (s.grp r g).calTemp
  generalize s.sf F.CG_CAL_STAT_SLICE_FAIL (cgB r g) 0 0 = s1 at hregs hmode hreset
  generalize (s.grp r g).calTemp = temp at hregs hmode hreset ⊢
  obtain ⟨hcal, hbw⟩ := calSlices_last s1 (cgB r g) cals skews bws temp
  obtain ⟨hdone, hvalid, hctrl, htemp, -⟩ := calShown_spec (calSlices s1 (cgB r g) 0 0 cals skews bws temp) (cgB r g) temp
  have hafter : stateAfterCal u r g = stateAfterCal s r g :=
    stateAfterCal_congr ((gf_congr hregs _ _ _).trans hmode) (congrArg (· != 0) ((gf_congr hregs _ _ _).trans hreset))
      (congrArg SettS.phase hsett)
  have hgf : ∀ {f : Fld}, f.reg.off ≠ R.CG_STAT.off → f.reg.off ≠ R.CG_ROT_STAT.off →
      (calGoesOn u r g).gf f (cgB r g) = u.gf f (cgB r g) := fun {f} hs hr =>
    congrArg (Word.bits · f.hi f.lo) (rd_calGoesOn u (reg_addr_ne hs _) (reg_addr_ne hr _))
  rw [hexec]
  apply ends_of_ending
  simp only [ending_gb, ending_gf, ending_rd, cgState_congr (ending_regs _ _)]
  refine ⟨?_, ?_, ?_, ?_, ?_, ?_, ?_⟩
  · rw [cgState, gf_calGoesOn_stat u rfl]
    exact (cgState_setCgState _ _ _ _).trans ((Nat.mod_eq_of_lt (stateAfterCal_lt _ _ _)).trans hafter)
  · rw [State.gb, hgf (by decide) (by decide), gf_congr hregs]
    exact hdone
  · rw [State.gb, gf_calGoesOn_stat u rfl, setCgState,
      gf_sf_same_reg _ F.CG_STAT_STATE F.CG_STAT_CAL_VALID _ _ _ rfl (by decide) (by decide), gf_congr hregs]
    exact hvalid
  · rw [State.gb, hgf (by decide) (by decide), gf_congr hregs]
    exact hctrl
  · rw [hgf (by decide) (by decide), gf_congr hregs, htemp]
    exact Nat.mod_eq_of_lt (codeOf_lt 16 temp)
  · rw [rd_calGoesOn u (by simp only [Reg.addr, R.CG_CALs, R.CG_STAT]; omega)
      (by simp only [Reg.addr, R.CG_CALs, R.CG_ROT_STAT]; omega), rd_congr hregs,
      rd_calShown _ _ _ (Or.inr (Or.inl ⟨rfl, by decide⟩)), hcal]
  · rw [rd_calGoesOn u (by simp only [Reg.addr, R.CG_BWs, R.CG_STAT]; omega)
      (by simp only [Reg.addr, R.CG_BWs, R.CG_ROT_STAT]; omega), rd_congr hregs,
      rd_calShown _ _ _ (Or.inr (Or.inr ⟨rfl, by decide⟩)), hbw]

/-! ### Scan passes (R114, R115, R132) -/

theorem passOf_congr {s t : State} {b m : Nat} (h : ∀ c < 32, t.rd R.CG_CHc_CFG b c = s.rd R.CG_CHc_CFG b c) :
    passOf t b m = passOf s b m := by
  unfold passOf
  cases hc : lowChan m with
  | none => rfl
  | some c => rw [Option.map_some, Option.map_some, h c (List.mem_range.1 (List.mem_of_find?_eq_some hc))]

/-- The last field of a row, where every encoding is listed, takes the value written. -/
theorem mergeFields_rw_last (locked : Bool) (v w : Word) (as : List FldRow) {hi lo : Nat} {img : Bool} (h : hi < 32) :
    (mergeFields locked (as ++ [⟨hi, lo, .rw, [], img⟩]) w v).bits hi lo = v.bits hi lo := by
  rw [mergeFields, List.foldl_append, List.foldl_cons, List.foldl_nil]
  exact (Word.bits_setBits_self _ hi lo _ h).trans (Nat.mod_eq_of_lt (Word.bits_lt v hi lo))

section
variable {s : State} {a : Reader} {r : Rgn} {g : Fin 4}

theorem scanRequest_starts {r g : Nat} (hc : converting s r g = true) (hp : (s.grp r g).pass = none) :
    scanRequest s r g = startPass s r g := by
  rw [scanRequest, hc, hp]
  rfl

/-- A write of CG_SCAN leaves every other register. -/
theorem rd_scanWritten (w : Word) (go : Bool) {q : Reg} {b c n : Nat} (h : q.blk ≠ .cg ∨ q.addr c n ≠ R.CG_SCAN.addr b 0) :
    ((s.wr R.CG_SCAN b 0 w).sb F.CG_SCAN_GO b 0 go).rd q c n = s.rd q c n :=
  (rd_wr_ne _ _ h).trans (rd_wr_ne _ _ h)

/-- A GO that the group takes starts a pass, and GO reads 1. -/
theorem goRequest_starts {r g c : Nat} (hmode : s.gf F.CG_SCAN_SMODE (cgB r g) = 3) (hc : converting s r g = true)
    (hp : (s.grp r g).pass = none) (hm : lowChan (s.gf F.CG_MASK_MASK (cgB r g)) = some c) :
    ((goRequest s r g).grp r g).pass = passOf s (cgB r g) (s.gf F.CG_MASK_MASK (cgB r g)) ∧
      (goRequest s r g).gb F.CG_SCAN_GO (cgB r g) = true := by
  have hsome : ((startPass s r g).grp r g).pass.isSome = true := by rw [startPass_pass, passOf, hm]; rfl
  unfold goRequest
  extract_lets b s1
  rw [if_neg (by simp [b, hmode, hc]), show s1 = startPass s r g from scanRequest_starts hc hp, hsome,
    grp_congr (sb_conv _ _ _ _ _)]
  exact ⟨startPass_pass s r g, gb_sb_self _ _ _ _ _ (by decide) (by decide)⟩

/-- The word of the command leaves SMODE. -/
theorem scanGo_mode (b : Nat) (go : Bool) :
    ((s.wr R.CG_SCAN b 0 (s.merged R.CG_SCAN b 0 ((s.rd R.CG_SCAN b).setBits 8 8 1))).sb F.CG_SCAN_GO b 0 go).gf
      F.CG_SCAN_SMODE b = s.gf F.CG_SCAN_SMODE b := by
  rw [State.sb, gf_sf_same_reg _ F.CG_SCAN_GO F.CG_SCAN_SMODE _ _ _ rfl (by decide) (by decide), State.gf,
    show F.CG_SCAN_SMODE.reg = R.CG_SCAN from rfl, rd_wr_self]
  calc _ = fOf ((s.rd R.CG_SCAN b).setBits 8 8 1) F.CG_SCAN_SMODE :=
        mergeFields_rw_last _ _ _ [⟨21, 16, .rw, [(0, 47), (63, 63)], true⟩, ⟨8, 8, .w1s, [], false⟩] (by decide)
    _ = _ := Word.bits_setBits_ne _ 8 8 1 1 0 (by omega) (by omega)

theorem converting_scanWritten (r g : Nat) (w : Word) (go : Bool) :
    converting ((s.wr R.CG_SCAN (cgB r g) 0 w).sb F.CG_SCAN_GO (cgB r g) 0 go) r g = converting s r g :=
  converting_congr
    (congrArg (Word.bits · F.CG_STAT_STATE.hi F.CG_STAT_STATE.lo) (rd_scanWritten w go (Or.inr (reg_addr_ne (by decide) _))))
    (congrArg (fun w : Word => w.bits F.RGN_STAT_TORPOR.hi F.RGN_STAT_TORPOR.lo != 0) (rd_scanWritten w go (Or.inl (by decide))))

theorem scanGo_ends {c : Nat} (hm : s.mayWrite a r = true) (hmode : s.gf F.CG_SCAN_SMODE (cgB r g) = 3)
    (hc : converting s r g = true) (hp : (s.grp r g).pass = none) (hmask : lowChan (s.gf F.CG_MASK_MASK (cgB r g)) = some c) :
    Ends (execScanGo a r g s) fun t => (t.grp r g).pass = passOf s (cgB r g) (s.gf F.CG_MASK_MASK (cgB r g)) ∧
      t.gb F.CG_SCAN_GO (cgB r g) = true := by
  refine ends_asOwner hm ?_
  rw [ownerEnding_grp, gb_congr (ownerEnding_regs _ _ _)]
  extract_lets b go s1 s2
  obtain ⟨hst, -⟩ := (converting_iff s r g).1 hc
  have hgrp1 : s1.grp r g = s.grp r g := grp_congr ((sb_conv _ _ _ _ _).trans (wr_conv _ _ _ _ _)) r g
  have hmask1 : s1.gf F.CG_MASK_MASK b = s.gf F.CG_MASK_MASK b :=
    congrArg (Word.bits · F.CG_MASK_MASK.hi F.CG_MASK_MASK.lo) (rd_scanWritten _ go (Or.inr (reg_addr_ne (by decide) _)))
  have hpass1 : passOf s1 b (s.gf F.CG_MASK_MASK b) = passOf s b (s.gf F.CG_MASK_MASK b) :=
    passOf_congr fun c _ => rd_scanWritten _ go (Or.inr (by simp only [Reg.addr, R.CG_CHc_CFG, R.CG_SCAN]; omega))
  obtain ⟨hpass, hgo⟩ := goRequest_starts ((scanGo_mode b go).trans hmode) ((converting_scanWritten r g _ go).trans hc)
    (by rw [hgrp1]; exact hp) (hmask1 ▸ hmask)
  rw [hmask1, hpass1] at hpass
  have hs2 : s2 = goRequest s1 r g := if_pos (Word.bits_setBits_self _ 8 8 1 (by omega))
  have hsome : (s2.grp r g).pass.isSome = true := by rw [hs2, hpass, passOf, hmask]; rfl
  rw [if_neg (by omega), kickScan_of_pass hsome, hs2]
  exact ⟨hpass, hgo⟩

theorem scanTrigger_ends (hmode : s.gf F.CG_SCAN_SMODE (cgB r g) = 2) (hc : converting s r g = true)
    (hp : (s.grp r g).pass = none) : Ends (execScanTrigger r g s) fun t =>
      (t.grp r g).pass = passOf s (cgB r g) (s.gf F.CG_MASK_MASK (cgB r g)) := by
  apply ends_of_ending
  rw [ending_grp, scanTrig, if_pos hmode, scanRequest_starts hc hp, startPass_pass]

theorem scanPassEnd_ends {p : PassS} (hp : (s.grp r g).pass = some p) (hd : p.done = true)
    (hr : (s.grp r g).remembered = false) (hmode : s.gf F.CG_SCAN_SMODE (cgB r g) ≠ 1) :
    Ends (execScanPassEnd r g s) fun t => (t.grp r g).pass = none ∧ t.gb F.CG_SCAN_GO (cgB r g) = false := by
  apply ends_of_ending
  simp only [hp, hd, hr, hmode, decide_false, Bool.or_false, Bool.not_false, Bool.or_true, if_true, Bool.false_eq_true, if_false,
    ite_self]
  rw [ending_grp, grp_congr (sb_conv _ _ _ _ _), grp_setGrp_self, ending_gb]
  exact ⟨rfl, gb_sb_self _ _ _ _ _ (by decide) (by decide)⟩

theorem excursion_ends {p : PassS} {disc : Bool} (hp : (s.grp r g).pass = some p) (hd : p.done = false)
    (hc : converting s r g = true) : Ends (execExcursion r g disc s) fun t =>
      (t.grp r g).pass = some { p with excAvg := p.excAvg || !disc, excDisc := p.excDisc || disc } := by
  apply ends_of_ending
  simp only [hp, hd, hc, Bool.not_false, Bool.and_true, if_true]
  rw [ending_grp, grp_setGrp_self]
end

/-- Settles O13: converter groups take a mode, begin results in it, calibrate and scan. -/
theorem converterGroups : Obligations.ConverterGroups :=
  ⟨fun _ _ _ _ _ => cgModeChange_ends, fun _ _ _ => toLowPower_ends, fun _ _ _ => toFullRate_ends,
    fun _ _ _ _ => selfCalibration_ends, fun _ _ _ => calibrationDone_ends, fun _ _ _ _ _ => scanGo_ends,
    fun _ _ _ => scanTrigger_ends, fun _ _ _ _ => scanPassEnd_ends, fun _ _ _ _ _ => excursion_ends⟩

end Sys2Proof.Machine

/-! ## Results, urgent requests and the readers of a converter group (R113 to R125) -/

namespace Sys2Proof.Machine

/-! ### What a result shows -/

theorem resultWord_fields (time : Word) (code : Int) (chan seq : Nat) (ovr settle urg : Bool) :
    (resultWord time code chan ovr settle urg seq).lo.bits 31 16 = codeOf 16 code ∧
    (resultWord time code chan ovr settle urg seq).lo.bits 15 11 = chan % 32 ∧
    (resultWord time code chan ovr settle urg seq).lo.bit 8 = urg := by
  have hcode := codeOf_lt 16 code
  have hchan := Nat.mod_lt chan (show 0 < 32 by decide)
  have hseq := Nat.mod_lt seq (show 0 < 64 by decide)
  have hovr : (if ovr then 2 ^ 10 else 0) = 2 ^ 10 * ovr.toNat := by cases ovr <;> rfl
  have hsettle : (if settle then 2 ^ 9 else 0) = 2 ^ 9 * settle.toNat := by cases settle <;> rfl
  have hurg : (if urg then 2 ^ 8 else 0) = 2 ^ 8 * urg.toNat := by cases urg <;> rfl
  have := ovr.toNat_le
  have := settle.toNat_le
  have hu := urg.toNat_le
  rw [resultWord, lo_ofHalves, hovr, hsettle, hurg]
  generalize codeOf 16 code = x at hcode ⊢
  generalize chan % 32 = c at hchan ⊢
  generalize seq % 64 = q at hseq ⊢
  refine ⟨?_, ?_, ?_⟩
  · rw [Word.bits, BitVec.toNat_ofNat]
    omega
  · rw [Word.bits, BitVec.toNat_ofNat]
    omega
  · rw [Word.bit, ← bits_ne_zero, Word.bits, BitVec.toNat_ofNat]
    rw [show _ / 2 ^ 8 % 2 ^ (8 + 1 - 8) = urg.toNat by omega]
    cases urg <;> rfl

/-! ### What follows a result keeps it -/

/-- The group shows the same result and the same queued requests. -/
structure SameResult (r g : Nat) (s t : State) : Prop where
  result : t.rd64 R.CG_RESULT (cgB r g) = s.rd64 R.CG_RESULT (cgB r g)
  urg : (t.grp r g).urg = (s.grp r g).urg

theorem SameResult.refl (r g : Nat) (s : State) : SameResult r g s s := ⟨rfl, rfl⟩

theorem SameResult.trans {r g : Nat} {s t u : State} (h : SameResult r g s t) (k : SameResult r g t u) : SameResult r g s u :=
  ⟨k.result.trans h.result, k.urg.trans h.urg⟩

theorem SameResult.ite {r g : Nat} {s t u : State} {p : Prop} [Decidable p] (ht : p → SameResult r g s t)
    (hu : ¬p → SameResult r g s u) : SameResult r g s (if p then t else u) := by
  split
  · next h => exact ht h
  · next h => exact hu h

section
variable {r g : Nat} (s : State)

theorem sameResult_setGrp {x : GrpS} (h : x.urg = (s.grp r g).urg) : SameResult r g s (s.setGrp r g x) :=
  ⟨rd64_congr (setGrp_regs _ _ _ _) _ _ _, by rw [grp_setGrp_self, h]⟩

/-- A register of the group beside its result. -/
theorem sameResult_sf {f : Fld} (n v : Nat) (h : f.reg.off ≤ 0x3C ∨ 0x48 ≤ f.reg.off) (hn : n = 0 ∨ 0x48 ≤ f.reg.off) :
    SameResult r g s (s.sf f (cgB r g) n v) := by
  have hlo : R.CG_RESULT.addr (cgB r g) 0 ≠ f.reg.addr (cgB r g) n := by
    obtain rfl | hn := hn <;> simp only [Reg.addr, R.CG_RESULT] <;> omega
  have hhi : Reg.addr ⟨.cg, 0x44, 0⟩ (cgB r g) 0 ≠ f.reg.addr (cgB r g) n := by
    obtain rfl | hn := hn <;> simp only [Reg.addr] <;> omega
  refine ⟨?_, congrArg GrpS.urg (grp_congr (sf_conv _ _ _ _ _) r g)⟩
  exact congrArg₂ DWord.ofHalves (rd_wr_ne s (q := R.CG_RESULT) _ (Or.inr hlo))
    (rd_wr_ne s (q := ⟨.cg, 0x44, 0⟩) _ (Or.inr hhi))

theorem sameResult_tapDropFlow (t : Nat) : SameResult r g s (tapDropFlow s r g t) := by
  refine SameResult.ite (fun _ => ?_) fun _ => SameResult.refl r g s
  have h : Within dropScope s (State.noteDrop _ (hopCluster r (12 + g)) _) :=
    (drop_countLoss s 2 (s.gf F.CG_TAPt_CFG_FLOW (cgB r g) t)).trans
      (drop_noteDrop _ _ ⟨false, Fin.ofNat 16 r, Fin.ofNat 256 (0x30 + g)⟩)
  have hword : ∀ a, ¬ dropScope.word .cg a := by
    rintro a ⟨x, hx, hc⟩
    fin_cases hx <;> exact absurd hc.1 (by decide)
  have hkey : ¬ dropScope.key .conv (grpKey r g) := by
    rintro (hk | hk) <;> simp [dropScope] at hk
  exact ⟨congrArg₂ DWord.ofHalves ((h.regs .cg _ (by decide)).resolve_right (hword _))
    ((h.regs .cg _ (by decide)).resolve_right (hword _)), congrArg GrpS.urg ((h.conv _).resolve_right hkey)⟩

theorem sameResult_tapTake (res time : DWord) (chan t : Nat) : SameResult r g s (tapTake s r g res time chan t) := by
  refine SameResult.ite (fun _ => SameResult.ite (fun _ => SameResult.ite (fun _ => sameResult_setGrp s rfl) fun _ => ?_)
    fun _ => sameResult_setGrp s rfl) fun _ => SameResult.refl r g s
  refine SameResult.trans ?_ (sameResult_tapDropFlow _ t)
  refine SameResult.trans ?_ (sameResult_sf _ (f := F.CG_EVT_TAP_DROP) 0 _ (by decide) (Or.inl rfl))
  refine SameResult.trans ?_ (sameResult_sf _ (f := F.CG_TAPt_STAT_DROP) t _ (by decide) (Or.inr (by decide)))
  exact sameResult_setGrp s rfl

/-- A result that CG_RES_MASK lets in stands in CG_RESULT; the queued requests stay. -/
theorem deliverResult_shows {chan : Nat} (h : (s.gf F.CG_RES_MASK_MASK (cgB r g)).testBit chan = true) (code : Int)
    (ovr settle inj urg : Bool) (time : DWord) :
    (∃ settle' seq, (deliverResult s r g chan code ovr settle inj urg time).rd64 R.CG_RESULT (cgB r g) =
      resultWord time.lo code chan ovr settle' urg seq) ∧
    ((deliverResult s r g chan code ovr settle inj urg time).grp r g).urg = (s.grp r g).urg := by
  unfold deliverResult
  extract_lets b s1 s2 s3 seq kept res x s4
  have hsb : ∀ {p : Prop} [Decidable p] {t : State} (f : Fld), f.reg = R.CG_EVT → SameResult r g s t →
      t.gf F.CG_RES_MASK_MASK b = s.gf F.CG_RES_MASK_MASK b → SameResult r g s (if p then t.sb f b 0 true else t) ∧
        (if p then t.sb f b 0 true else t).gf F.CG_RES_MASK_MASK b = s.gf F.CG_RES_MASK_MASK b := fun f hf ht hm =>
    ⟨SameResult.ite (fun _ => ht.trans (sameResult_sf _ 0 _ (by rw [hf]; decide) (Or.inl rfl))) fun _ => ht,
      ite_shows (State.gf · F.CG_RES_MASK_MASK b) ((gf_sb_off _ _ _ (by rw [hf]; decide)).trans hm) hm⟩
  obtain ⟨h1, hm1⟩ := hsb (p := ovr = true) F.CG_EVT_OVR_SEEN rfl (SameResult.refl r g s) rfl
  obtain ⟨h2, hm2⟩ := hsb (p := settle = true) F.CG_EVT_SETTLE_SEEN rfl h1 hm1
  obtain ⟨h3, hm3⟩ := hsb (p := inj = true) F.CG_EVT_INJ_SETTLE rfl h2 hm2
  have hk : kept = true := (congrArg (Nat.testBit · chan) hm3).trans h
  have h4 : s4.rd64 R.CG_RESULT b = res ∧ (s4.grp r g).urg = (s.grp r g).urg := by
    rw [show s4 = _ from if_pos hk, rd64_congr (setGrp_regs _ _ _ _), rd64_wr64_self, grp_setGrp_self]
    exact ⟨rfl, h3.urg⟩
  have htap : SameResult r g s4 ([0, 1, 2].foldl (fun s t => tapTake s r g res time chan t) s4) :=
    List.foldlRecOn (motive := SameResult r g s4) _ _ (SameResult.refl r g s4) fun t ht i _ =>
      ht.trans (sameResult_tapTake t res time chan i)
  exact ⟨⟨settle || inj, _, htap.result.trans h4.1⟩, htap.urg.trans h4.2⟩

/-- A result formed of a batch or a sample: the code that the channel's correction makes of it (R122). -/
theorem formResult_shows {chan : Nat} (h : (s.gf F.CG_RES_MASK_MASK (cgB r g)).testBit chan = true) (mean : Int)
    (clamped exc near inj urg : Bool) (time : DWord) :
    (∃ ovr settle seq, (formResult s r g chan mean clamped exc near inj urg time).rd64 R.CG_RESULT (cgB r g) =
      resultWord time.lo (correct mean (s.rd R.CG_CHc_COR (cgB r g) chan)).1 chan ovr settle urg seq) ∧
    ((formResult s r g chan mean clamped exc near inj urg time).grp r g).urg = (s.grp r g).urg := by
  unfold formResult
  extract_lets x y s1
  have hm : (s1.gf F.CG_RES_MASK_MASK (cgB r g)).testBit chan = true := by rw [gf_congr (setGrp_regs _ _ _ _)]; exact h
  obtain ⟨⟨settle, seq, hres⟩, hurg⟩ := deliverResult_shows s1 hm y.1 (clamped || y.2 || exc)
    (exc || near || decide (0 < x.excLeft)) inj urg time
  have h1 : SameResult r g s s1 := sameResult_setGrp s (by rfl)
  exact ⟨⟨_, settle, seq, hres⟩, hurg.trans h1.urg⟩

/-- The channels of a mask register. -/
theorem chan_lt_of_testBit {f : Fld} {b n chan : Nat} (hf : f.hi + 1 - f.lo = 32) (h : (s.gf f b n).testBit chan = true) :
    chan < 32 := by
  have hlt := Word.bits_lt (s.rd f.reg b n) f.hi f.lo
  rw [hf] at hlt
  exact Nat.lt_of_not_le fun hle => by
    rw [State.gf, Nat.testBit_eq_false_of_lt (lt_of_lt_of_le hlt (Nat.pow_le_pow_right (by decide) hle))] at h
    exact absurd h (by decide)

/-- The clamp for the dither alone shows in CG_INTEG_EVT. -/
theorem ditherClip_keeps (d : Bool) : (∀ chan < 32, (ditherClip s r g d).rd R.CG_CHc_COR (cgB r g) chan =
      s.rd R.CG_CHc_COR (cgB r g) chan) ∧
    (ditherClip s r g d).gf F.CG_RES_MASK_MASK (cgB r g) = s.gf F.CG_RES_MASK_MASK (cgB r g) ∧
    (ditherClip s r g d).grp r g = s.grp r g :=
  ⟨fun chan h => ite_shows (State.rd · R.CG_CHc_COR (cgB r g) chan) (rd_wr_ne _ _ (Or.inr (by
      simp only [Reg.addr, R.CG_CHc_COR, F.CG_INTEG_EVT_DITHER_CLIP, R.CG_INTEG_EVT]; omega))) rfl,
    ite_shows (State.gf · F.CG_RES_MASK_MASK (cgB r g)) (gf_sb_off _ _ _ (by decide)) rfl,
    ite_shows (State.grp · r g) (grp_congr (sb_conv _ _ _ _ _) r g) rfl⟩

theorem nextBatch_regs (p : PassS) : (nextBatch s r g p).regs = s.regs := setGrp_regs _ _ _ _
end

section
variable {s : State} {a : Reader} {r : Rgn} {g : Fin 4}

theorem ending_rd64 (s t : State) (q : Reg) (b : Nat) : (s.ending t).rd64 q b = t.rd64 q b := rd64_congr (ending_regs s t) q b 0

theorem batchDone_ends {p : PassS} {xs : List Sample} {sub : Fin 40} (hp : (s.grp r g).pass = some p) (hd : p.done = false)
    (hc : converting s r g = true) (hn : xs.length = 2 ^ fOf p.cfg F.CG_CHc_CFG_AVG)
    (hm : (s.gf F.CG_RES_MASK_MASK (cgB r g)).testBit p.chan = true) :
    Ends (execBatchDone r g xs sub s) fun t => (t.rd64 R.CG_RESULT (cgB r g)).lo.bits 31 16 =
        codeOf 16 (correct (batchMean ((takeAll s r g p.chan xs).map (·.value))) (s.rd R.CG_CHc_COR (cgB r g) p.chan)).1 ∧
      (t.rd64 R.CG_RESULT (cgB r g)).lo.bits 15 11 = p.chan % 32 := by
  apply ends_of_ending
  simp only [hp, hd, hc, hn, Bool.not_false, Bool.and_true, decide_true, if_true]
  rw [ending_rd64, rd64_congr (nextBatch_regs _ _)]
  obtain ⟨hcor, hmask, -⟩ := ditherClip_keeps (r := r) (g := g) s ((takeAll s r g p.chan xs).any (·.dithered))
  obtain ⟨⟨ovr, settle, seq, hres⟩, -⟩ := formResult_shows (ditherClip s r g ((takeAll s r g p.chan xs).any (·.dithered)))
    (hmask.symm ▸ hm) (batchMean ((takeAll s r g p.chan xs).map (·.value))) _ _ _ _ _ _
  rw [hres, hcor _ (chan_lt_of_testBit s (by decide) hm)]
  obtain ⟨hcode, hchan, -⟩ := resultWord_fields _ _ p.chan seq ovr settle false
  exact ⟨hcode, hchan⟩

/-! ### Urgent requests (R117 to R120) -/

/-- A group that converts, with room in its queue, takes a request. -/
theorem urgentRequest_queued {r g : Nat} (hc : converting s r g = true) (hl : (s.grp r g).urg.length < 4) (chan : Nat) :
    ((urgentRequest s r g chan).grp r g).urg = (s.grp r g).urg ++ [chan] := by
  obtain ⟨hst, ht⟩ := (converting_iff s r g).1 hc
  unfold urgentRequest
  extract_lets x st
  rw [if_pos ⟨hl, by omega, by omega, by omega, by omega, ht⟩, grp_setGrp_self]

theorem hostUrgentRequest_ends {v : Word} (hm : s.mayWrite a r = true) (hc : converting s r g = true)
    (hl : (s.grp r g).urg.length < 4) : Ends (execHostUrgentRequest a r g v s) fun t =>
      (t.grp r g).urg = (s.grp r g).urg ++ [fOf v F.CG_URG_CH] := by
  refine ends_asOwner hm ?_
  obtain ⟨hst, -⟩ := (converting_iff s r g).1 hc
  rw [ownerEnding_grp, if_neg (by omega), urgentRequest_queued hc hl]

theorem urgentTrigger_ends {k : Fin 4} (he : s.gb F.CG_URGk_CFG_EN (cgB r g) k = true) (hc : converting s r g = true)
    (hl : (s.grp r g).urg.length < 4) : Ends (execUrgentTrigger r g k s) fun t =>
      (t.grp r g).urg = (s.grp r g).urg ++ [s.gf F.CG_URGk_CFG_CH (cgB r g) k] := by
  apply ends_of_ending
  rw [ending_grp, urgTrig, if_pos he, urgentRequest_queued hc hl]

theorem urgentSample_ends {chan : Nat} {rest : List Nat} {x : Sample} {sub : Fin 40} (hu : (s.grp r g).urg = chan :: rest)
    (hc : converting s r g = true) (hm : (s.gf F.CG_RES_MASK_MASK (cgB r g)).testBit chan = true) :
    Ends (execUrgentSample r g x sub s) fun t => (t.grp r g).urg = rest ∧
      (t.rd64 R.CG_RESULT (cgB r g)).lo.bit 8 = true ∧ (t.rd64 R.CG_RESULT (cgB r g)).lo.bits 31 16 =
        codeOf 16 (correct (takeSample s r g chan x).value (s.rd R.CG_CHc_COR (cgB r g) chan)).1 := by
  apply ends_of_ending
  simp only [hu, hc, if_true]
  rw [ending_grp, ending_rd64]
  generalize hs1 : s.setGrp r g (abortBatch { s.grp r g with urg := rest }) = s1
  have hregs : s1.regs = s.regs := by rw [← hs1, setGrp_regs]
  obtain ⟨hcor, hmask, hgrp⟩ := ditherClip_keeps (r := r) (g := g) s1 (takeSample s r g chan x).dithered
  obtain ⟨⟨ovr, settle, seq, hres⟩, hurg⟩ := formResult_shows (ditherClip s1 r g (takeSample s r g chan x).dithered)
    (chan := chan) (by rw [hmask, gf_congr hregs]; exact hm) (takeSample s r g chan x).value (takeSample s r g chan x).clamped
    (takeSample s r g chan x).beyond false (injMarks s r sub 0) true (s.stamp sub)
  rw [hres, hurg, hgrp, ← hs1, grp_setGrp_self, abortBatch_urg, hs1, hcor _ (chan_lt_of_testBit s (by decide) hm), rd_congr hregs]
  obtain ⟨hcode, -, hbit⟩ := resultWord_fields (s.stamp sub).lo _ chan seq ovr settle true
  exact ⟨rfl, hbit, hcode⟩

/-! ### The halves of CG_RESULT (R125) -/

/-- A read of half of CG_RESULT: the answer, and what its reader holds. -/
theorem resultRead_ends {p : Word × State} (hr : reaches s a (cgB r g) = true) {h : Option Word}
    (hh : ((p.2.grp r g).readers.get a.code).hold = h) :
    Ends (s.after (if reaches s a (cgB r g) then p.2.answer a (p.1.setWidth 64) else s)) fun t =>
      t.resp.get a.code = some (p.1.setWidth 64) ∧ ((t.grp r g).readers.get a.code).hold = h := by
  apply ends_of_ending
  rw [if_pos hr, ending_resp, ending_grp, answer_resp]
  exact ⟨rfl, hh⟩

theorem cgResultLowRead_ends (hr : reaches s a (cgB r g) = true) : Ends (execCgResultLowRead a r g s) fun t =>
    t.resp.get a.code = some ((resultLow s a r g).1.setWidth 64) ∧
      ((t.grp r g).readers.get a.code).hold = some (s.rd64 R.CG_RESULT (cgB r g)).hi :=
  resultRead_ends hr (by rw [resultLow, grp_setGrp_self, Tab.get_set_self])

theorem cgResultHighRead_ends {h : Word} (hr : reaches s a (cgB r g) = true)
    (hh : ((s.grp r g).readers.get a.code).hold = some h) : Ends (execCgResultHighRead a r g s) fun t =>
      t.resp.get a.code = some (h.setWidth 64) ∧ ((t.grp r g).readers.get a.code).hold = none := by
  have hp : resultHigh s a r g = (h, s.setGrp r g { s.grp r g with
      readers := (s.grp r g).readers.set a.code ⟨none, ovrnPend (s.grp r g) ((s.grp r g).readers.get a.code), true,
        ((s.grp r g).readers.get a.code).atLow⟩ }) := by
    simp only [resultHigh, hh]
  unfold execCgResultHighRead
  rw [hp]
  exact resultRead_ends hr (by rw [grp_setGrp_self, Tab.get_set_self])
end

/-- Settles O14: what CG_RESULT shows of a batch and of an urgent sample, the queue of requests, and the reads of its halves. -/
theorem resultsAndReaders : Obligations.ResultsAndReaders :=
  ⟨fun _ _ _ _ _ _ => batchDone_ends, fun _ _ _ _ _ => hostUrgentRequest_ends, fun _ _ _ _ => urgentTrigger_ends,
    fun _ _ _ _ _ _ _ => urgentSample_ends, fun _ _ _ _ => cgResultLowRead_ends, fun _ _ _ _ _ => cgResultHighRead_ends⟩

end Sys2Proof.Machine

/-! ## Periods, edges, epochs and triggers of the pulse generators (R201 to R217) -/

namespace Sys2Proof.Machine

/-! ### What a channel and a group slot hold -/

theorem ch_setCh_self (s : State) (r c : Nat) (x : ChS) : (s.setCh r c x).ch r c = x := Tab.get_set_self _ _ _

theorem ch_congr {s t : State} (h : t.pwm = s.pwm) (r c : Nat) : t.ch r c = s.ch r c := by rw [State.ch, State.ch, h]

theorem slot_setSlot_self (s : State) (r g : Nat) (x : SlotS) : (s.setSlot r g x).slot r g = x := Tab.get_set_self _ _ _

theorem slot_congr {s t : State} (h : t.slots = s.slots) (r g : Nat) : t.slot r g = s.slot r g := by rw [State.slot, State.slot, h]

theorem ending_ch (s t : State) (r c : Nat) : (s.ending t).ch r c = t.ch r c := ch_congr (settle_pwm t) r c

theorem ending_slot (s t : State) (r g : Nat) : (s.ending t).slot r g = t.slot r g := slot_congr (settle_slots t) r g

/-! ### What an edge of a ball leaves -/

section
variable {s t : State} (h : Within edgeScope s t)
include h

theorem Within.edge_rd {q : Reg} {b n : Nat} (hq : q.blk ≠ .sett) : t.rd q b n = s.rd q b n :=
  (h.regs q.blk _ hq).resolve_right fun ⟨_, hx, _⟩ => absurd hx List.not_mem_nil

theorem Within.edge_gf {f : Fld} {b n : Nat} (hf : f.reg.blk ≠ .sett) : t.gf f b n = s.gf f b n :=
  congrArg (Word.bits · f.hi f.lo) (h.edge_rd hf)

theorem Within.edge_ch (r c : Nat) : t.ch r c = s.ch r c := by
  refine (h.pwm _).resolve_right ?_
  rintro (hk | hk) <;> simp [edgeScope] at hk
end

theorem edge_subPeriod (s t : State) (r c : Nat) : Within edgeScope t (subPeriod s t r c) := by
  refine Within.ite (fun _ => ?_) fun _ => Within.refl _ t
  exact { Within.refl edgeScope t with pgSub := set_part t.pgSub _ _ _ (Or.inl (by decide)) }

/-! ### A period start (R201, R203, R213) -/

section
variable {s t : State} {r c : Nat}

theorem perOf_congr (hr : t.regs = s.regs) (hp : (t.ch r c).per = (s.ch r c).per) : perOf t r c = perOf s r c := by
  have hg : grpOf t r c = grpOf s r c := by simp only [grpOf, gf_congr hr]
  unfold perOf
  rw [hg, gf_congr hr, hp]

theorem limitOn_congr (hr : t.regs = s.regs) (hp : (t.ch r c).per = (s.ch r c).per) (on : Nat) :
    limitOn t r c on = limitOn s r c on := by
  simp only [limitOn, gf_congr hr, perOf_congr hr hp]

theorem periodJoin_running (he : enabled s r c = true) (hr : (s.ch r c).run ≠ .off) : periodJoin s r c = s := by
  simp only [periodJoin, he, if_true, if_neg hr]

theorem periodRelease_none (h : (s.ch r c).relLat = false ∧ (s.ch r c).relRs = false) : periodRelease s r c = s := by
  obtain ⟨hl, hr⟩ := h
  simp only [periodRelease, hl, hr, Bool.or_false, Bool.false_eq_true, if_false]

/-- Without a cycle-by-cycle response none is entered. -/
theorem periodCbc_none (h : respOf s r c false ≠ 1 ∧ respOf s r c true ≠ 1) :
    periodCbc s r c = s.setCh r c { s.ch r c with cbcA := false, cbcB := false } := by
  obtain ⟨ha, hb⟩ := h
  simp only [periodCbc, ha, hb, decide_false, Bool.false_and, Bool.false_eq_true, if_false]

/-- A duty value that arrived in time, outside trip states, Safe hold and freezes, applies within its limits. -/
theorem periodUpdate_applies {n : Nat} (hr : (s.ch r c).run ≠ .off) (hf : (s.ch r c).full = true)
    (ht : (s.ch r c).tripped = false) (hs : s.safeHold = false ∧ frozen s r = false) (hn : (s.ch r c).at_ + 384 ≤ n) :
    ((periodUpdate s r c n).ch r c).run = .switching ∧ ((periodUpdate s r c n).ch r c).full = false ∧
    ((periodUpdate s r c n).ch r c).per = (s.ch r c).per ∧
    (periodUpdate s r c n).gf F.PG_CHcc_ON_ON (pgB r) c = limitOn s r c (s.gf F.PG_CHcc_DUTY_ON (pgB r) c) % 2 ^ 20 := by
  obtain ⟨hsafe, hfrozen⟩ := hs
  unfold periodUpdate
  extract_lets x s1
  rw [if_neg (by simp [x, hr, hf, ht, hsafe, hfrozen]), if_neg (by simp only [x]; omega), ch_setCh_self,
    gf_congr (setCh_regs _ _ _ _), gf_sf_self _ _ _ _ _ (by decide)]
  exact ⟨rfl, rfl, rfl, rfl⟩

/-- What the watchdog and the waveform of a period leave. -/
theorem periodWatch_keeps (s : State) (r c : Nat) : (periodWatch s r c).regs = s.regs ∧
    ((periodWatch s r c).ch r c).run = (s.ch r c).run ∧ ((periodWatch s r c).ch r c).full = (s.ch r c).full ∧
    ((periodWatch s r c).ch r c).per = (s.ch r c).per := by
  unfold periodWatch
  extract_lets x b
  split <;> exact ⟨rfl, by rw [ch_setCh_self], by rw [ch_setCh_self], by rw [ch_setCh_self]⟩

theorem periodWave_keeps (s : State) (r c n : Nat) : (periodWave s r c n).regs = s.regs ∧
    ((periodWave s r c n).ch r c).run = (s.ch r c).run ∧ ((periodWave s r c n).ch r c).full = (s.ch r c).full ∧
    ((periodWave s r c n).ch r c).per = (s.ch r c).per := by
  unfold periodWave
  extract_lets x h
  rw [ch_setCh_self, setCh_regs]
  refine ⟨rfl, ?_⟩
  split
  · exact ⟨rfl, rfl, rfl⟩
  · split
    · exact ⟨rfl, rfl, rfl⟩
    · split <;> exact ⟨rfl, rfl, rfl⟩
/-- The update point of a period, its watchdog and its waveform, where the value applies. -/
theorem periodRun_applies {n : Nat} (hr : (s.ch r c).run ≠ .off) (hf : (s.ch r c).full = true)
    (ht : (s.ch r c).tripped = false) (hs : s.safeHold = false ∧ frozen s r = false) (hn : (s.ch r c).at_ + 384 ≤ n) :
    ((periodWave (periodWatch (periodUpdate s r c n) r c) r c n).ch r c).run = .switching ∧
    ((periodWave (periodWatch (periodUpdate s r c n) r c) r c n).ch r c).full = false ∧
    ((periodWave (periodWatch (periodUpdate s r c n) r c) r c n).ch r c).per = (s.ch r c).per ∧
    (periodWave (periodWatch (periodUpdate s r c n) r c) r c n).gf F.PG_CHcc_ON_ON (pgB r) c =
      limitOn s r c (s.gf F.PG_CHcc_DUTY_ON (pgB r) c) % 2 ^ 20 := by
  obtain ⟨hrun, hfull, hper, hon⟩ := periodUpdate_applies hr hf ht hs hn
  obtain ⟨hregs', hrun', hfull', hper'⟩ := periodWatch_keeps (periodUpdate s r c n) r c
  obtain ⟨hregs'', hrun'', hfull'', hper''⟩ := periodWave_keeps (periodWatch (periodUpdate s r c n) r c) r c n
  exact ⟨hrun''.trans (hrun'.trans hrun), hfull''.trans (hfull'.trans hfull), hper''.trans (hper'.trans hper),
    (gf_congr (hregs''.trans hregs') _ _ _).trans hon⟩
end

theorem periodStart_ends {s : State} {r : Rgn} {c : Fin 16} {sub : Fin 120}
    (hgrid : enabled s r c = true ∧ (s.ch r c).everEn = true ∧ (s.ch r c).per ≠ 0) (hnow : (s.ch r c).next ≤ fineNow s sub)
    (hrun : (s.ch r c).run ≠ .off) (hfull : (s.ch r c).full = true) (hat : (s.ch r c).at_ + 384 ≤ (s.ch r c).next)
    (htrip : (s.ch r c).relLat = false ∧ (s.ch r c).relRs = false ∧ (s.ch r c).lat = false ∧ (s.ch r c).rs = false)
    (hresp : respOf s r c false ≠ 1 ∧ respOf s r c true ≠ 1) (hhold : s.safeHold = false ∧ frozen s r = false) :
    Ends (execPeriodStart r c sub s) fun t => (t.ch r c).run = .switching ∧ (t.ch r c).full = false ∧
      t.gf F.PG_CHcc_ON_ON (pgB r) c = limitOn s r c (s.gf F.PG_CHcc_DUTY_ON (pgB r) c) % 2 ^ 20 ∧
      (t.ch r c).start = (s.ch r c).next ∧ (t.ch r c).next = (s.ch r c).next + (s.ch r c).per := by
  obtain ⟨hen, hever, hper⟩ := hgrid
  obtain ⟨hrl, hrr, hlat, hrs⟩ := htrip
  apply ends_of_ending
  rw [if_pos ⟨hever, hper, hnow⟩, ending_ch, ending_gf]
  unfold periodStart
  rw [periodJoin_running hen hrun, periodRelease_none ⟨hrl, hrr⟩, periodCbc_none hresp]
  extract_lets src s1 s2 x
  have hx : s1.ch r c = { s.ch r c with cbcA := false, cbcB := false } := ch_setCh_self _ _ _ _
  have htrip1 : (s1.ch r c).tripped = false := by
    rw [hx, ChS.tripped, hrs, ChS.lat, show ((s.ch r c).latA || (s.ch r c).latB || (s.ch r c).latW) = false from hlat]
    rfl
  obtain ⟨hrun2, hfull2, hper2, hon2⟩ := periodRun_applies (s := s1) (n := (s.ch r c).next) (by rw [hx]; exact hrun)
    (by rw [hx]; exact hfull) htrip1 hhold (by rw [hx]; exact hat)
  rw [limitOn_congr (s := s) (t := s1) rfl (by rw [hx]), gf_congr (s := s) (t := s1) rfl] at hon2
  have hedge := (edge_ballEdges (s2.setCh r c { x with start := (s.ch r c).next, next := (s.ch r c).next + x.per, fired := false })
    r c (s.ch r c).next (ballOf s r c)).trans (edge_subPeriod s _ r c)
  rw [hedge.edge_ch, hedge.edge_gf (by decide), ch_setCh_self, gf_congr (setCh_regs _ _ _ _), hon2]
  exact ⟨hrun2, hfull2, rfl, rfl, congrArg _ (hper2.trans (by rw [hx]))⟩

/-! ### Edges within a period (R201, R202) -/

section
variable {s : State} {r : Rgn} {c : Fin 16} {sub : Fin 120}

/-- An edge that is due gives a switching channel its waveform. -/
theorem pwmEdge_due {e : PwmEdge} {x : ChS} {n : Nat} (hr : (s.ch r c).run = .switching)
    (hd : edgeDue s r c e (fineNow s sub) = some (x, n)) : Ends (execPwmEdge r c e sub s) fun t => t.ch r c = x := by
  apply ends_of_ending
  simp only [hd, hr, if_true]
  rw [ending_ch, (edge_ballEdges _ _ _ _ _).edge_ch, ch_setCh_self]

theorem Ends.mono {o : Host.Outcome State Fault Refusal} {p q : State → Prop} (h : Ends o p) (hpq : ∀ t, p t → q t) :
    Ends o q := by
  obtain ⟨t, ht, hp⟩ := h
  exact ⟨t, ht, hpq t hp⟩

theorem fallEdge_ends {u : Nat} (hr : (s.ch r c).run = .switching) (hw : (s.ch r c).wave = .high) (hu : (s.ch r c).up = some u)
    (hn : u + (s.ch r c).high ≤ fineNow s sub) :
    Ends (execPwmEdge r c .fall sub s) fun t => (t.ch r c).wave = .low ∧ (t.ch r c).fell = u + (s.ch r c).high := by
  refine (pwmEdge_due hr (x := { s.ch r c with wave := .low, fell := u + (s.ch r c).high }) (n := u + (s.ch r c).high) ?_).mono
    fun t ht => by rw [ht]; exact ⟨rfl, rfl⟩
  simp only [edgeDue, hu]
  rw [if_pos ⟨hw, hn⟩]

theorem riseEdge_ends (hr : (s.ch r c).run = .switching) (hh : (s.ch r c).high ≠ 0) (hu : (s.ch r c).up = none)
    (hn : riseAt s r c ≤ fineNow s sub) :
    Ends (execPwmEdge r c .rise sub s) fun t => (t.ch r c).wave = .high ∧ (t.ch r c).up = some (riseAt s r c) :=
  (pwmEdge_due (e := .rise) (n := riseAt s r c) hr (if_pos ⟨hh, hu, hn⟩)).mono fun t ht => by rw [ht]; exact ⟨rfl, rfl⟩

theorem lowEndEdge_ends (hr : (s.ch r c).run = .switching) (hw : (s.ch r c).wave = .low)
    (hl : s.gb F.PG_CHcc_CFG_LEVELS (pgB r) c = true) (h0 : s.gf F.PG_CHcc_LOWMAX_LOWMAX (pgB r) c ≠ 0)
    (hn : (s.ch r c).fell + s.gf F.PG_CHcc_LOWMAX_LOWMAX (pgB r) c ≤ fineNow s sub) :
    Ends (execPwmEdge r c .lowEnd sub s) fun t => (t.ch r c).wave = .mid :=
  (pwmEdge_due (e := .lowEnd) (n := (s.ch r c).fell + s.gf F.PG_CHcc_LOWMAX_LOWMAX (pgB r) c) hr
    (if_pos ⟨hl, hw, h0, hn⟩)).mono fun t ht => by rw [ht]
end

/-! ### Epochs (R207, R209) -/

theorem memberEpoch_keeps (s : State) (m : Nat × Nat) (e per : Nat) (first : Bool) :
    (memberEpoch s m e per first).regs = s.regs ∧ (memberEpoch s m e per first).slots = s.slots := by
  have hsub : ∀ t : State, (subRestart t m.1 m.2).regs = t.regs ∧ (subRestart t m.1 m.2).slots = t.slots := by
    intro t
    unfold subRestart
    extract_lets x
    split <;> exact ⟨rfl, rfl⟩
  unfold memberEpoch
  extract_lets x ph ofs high s1
  split
  · exact ⟨rfl, rfl⟩
  · split
    · exact ⟨rfl, rfl⟩
    · split
      · split
        · exact hsub s1
        · exact ⟨rfl, rfl⟩
      · exact ⟨rfl, rfl⟩

/-- An epoch that is due puts PER in force, and the next follows it. -/
theorem groupEpoch_due {s : State} {r g : Fin 16} {sub : Fin 120} (hen : s.gb F.PG_GRPg_CTRL_EN (pgB r) g = true)
    (hrun : (s.slot r g).first.isSome = true ∨ s.gf F.PG_GRPg_APPLIED_PER (pgB r) g ≠ 0) (hn : epochDue s r g ≤ fineNow s sub) :
    Ends (execGroupEpoch r g sub s) fun t => t.gf F.PG_GRPg_APPLIED_PER (pgB r) g = s.gf F.PG_GRPg_PER_PER (pgB r) g ∧
      t.slot r g = ⟨none, epochDue s r g⟩ := by
  apply ends_of_ending
  rw [if_pos ⟨hen, hrun, hn⟩, ending_gf, ending_slot]
  extract_lets per s1
  have hregs := foldl_kept State.regs (fun t m => (memberEpoch_keeps t m (epochDue s r g) per (s.slot r g).first.isSome).1)
    (members s r g) s1
  have hslots := foldl_kept State.slots (fun t m => (memberEpoch_keeps t m (epochDue s r g) per (s.slot r g).first.isSome).2)
    (members s r g) s1
  rw [gf_congr hregs, slot_congr hslots, slot_setSlot_self, gf_congr (setSlot_regs _ _ _ _), gf_sf_self _ _ _ _ _ (by decide)]
  exact ⟨Nat.mod_eq_of_lt (Word.bits_lt _ 19 0), rfl⟩

section
variable {s : State} {r g : Fin 16} {sub : Fin 120}

theorem firstEpoch_ends {e : Nat} (hen : s.gb F.PG_GRPg_CTRL_EN (pgB r) g = true) (hf : (s.slot r g).first = some e)
    (hn : e ≤ fineNow s sub) : Ends (execGroupEpoch r g sub s) fun t =>
      t.gf F.PG_GRPg_APPLIED_PER (pgB r) g = s.gf F.PG_GRPg_PER_PER (pgB r) g ∧ t.slot r g = ⟨none, e⟩ := by
  have he : epochDue s r g = e := by simp only [epochDue, hf]
  have := groupEpoch_due (sub := sub) hen (Or.inl (by rw [hf]; rfl)) (he.symm ▸ hn)
  rwa [he] at this

theorem nextEpoch_ends (hen : s.gb F.PG_GRPg_CTRL_EN (pgB r) g = true) (hf : (s.slot r g).first = none)
    (h0 : s.gf F.PG_GRPg_APPLIED_PER (pgB r) g ≠ 0)
    (hn : (s.slot r g).epoch + s.gf F.PG_GRPg_APPLIED_PER (pgB r) g ≤ fineNow s sub) :
    Ends (execGroupEpoch r g sub s) fun t => t.gf F.PG_GRPg_APPLIED_PER (pgB r) g = s.gf F.PG_GRPg_PER_PER (pgB r) g ∧
      t.slot r g = ⟨none, (s.slot r g).epoch + s.gf F.PG_GRPg_APPLIED_PER (pgB r) g⟩ := by
  have he : epochDue s r g = (s.slot r g).epoch + s.gf F.PG_GRPg_APPLIED_PER (pgB r) g := by simp only [epochDue, hf]
  have := groupEpoch_due (sub := sub) hen (Or.inr h0) (he.symm ▸ hn)
  rwa [he] at this
end

/-! ### A trigger that names a scan (R116, R217) -/

/-- What an urgent request leaves of a group: its pass, its registers but the two that count and show it, its region's
Torpor. -/
structure SameScan (r g : Nat) (s t : State) : Prop where
  word : ∀ a, a ≠ R.CG_EVT.addr (cgB r g) 0 → a ≠ R.CG_URG_STAT.addr (cgB r g) 0 → (t.regs.tab .cg).get a = (s.regs.tab .cg).get a
  torpor : t.inTorpor r = s.inTorpor r
  pass : (t.grp r g).pass = (s.grp r g).pass

theorem SameScan.refl (r g : Nat) (s : State) : SameScan r g s s := ⟨fun _ _ _ => rfl, rfl, rfl⟩

theorem SameScan.trans {r g : Nat} {s t u : State} (h : SameScan r g s t) (k : SameScan r g t u) : SameScan r g s u :=
  ⟨fun a he hu => (k.word a he hu).trans (h.word a he hu), k.torpor.trans h.torpor, k.pass.trans h.pass⟩

theorem sameScan_urgentRequest (s : State) (r g chan : Nat) : SameScan r g s (urgentRequest s r g chan) := by
  have h := trigger_urgentRequest s r g chan
  have hword : ∀ k a, (triggerScope r g).word k a → k = .cg ∧
      (a = R.CG_EVT.addr (cgB r g) 0 ∨ a = R.CG_URG_STAT.addr (cgB r g) 0) := by
    rintro k a ⟨x, hx, hc⟩
    simp only [triggerScope, List.mem_cons, List.not_mem_nil, or_false] at hx
    obtain rfl | rfl := hx
    · obtain ⟨hk, ha⟩ := hc
      exact ⟨hk, Or.inl (List.mem_singleton.1 ha)⟩
    · obtain ⟨hk, ha⟩ := hc
      exact ⟨hk, Or.inr (List.mem_singleton.1 ha)⟩
  refine ⟨fun a he hu => (h.regs .cg a (by decide)).resolve_right fun hw => ?_, ?_, ?_⟩
  · exact (hword _ _ hw).2.elim he hu
  · refine congrArg (fun w : Word => w.bits F.RGN_STAT_TORPOR.hi F.RGN_STAT_TORPOR.lo != 0)
      ((h.regs .rgn _ (by decide)).resolve_right fun hw => absurd (hword _ _ hw).1 (by decide))
  · exact ite_shows (fun t => (t.grp r g).pass) (by rw [grp_setGrp_self])
      (congrArg GrpS.pass (grp_congr ((sb_conv _ _ _ _ _).trans (sf_conv _ _ _ _ _)) r g))

section
variable {r g : Nat} {s t : State} (h : SameScan r g s t)
include h

theorem SameScan.rd {q : Reg} {n : Nat} (hq : q.blk = .cg)
    (hn : q.off + n * q.stride ≠ R.CG_EVT.off ∧ q.off + n * q.stride ≠ R.CG_URG_STAT.off) :
    t.rd q (cgB r g) n = s.rd q (cgB r g) n := by
  obtain ⟨he, hu⟩ := hn
  rw [State.rd, State.rd, hq]
  exact h.word _ (by simp only [Reg.addr]; omega) (by simp only [Reg.addr]; omega)

theorem SameScan.gf {f : Fld} (hq : f.reg.blk = .cg) (hn : f.reg.off ≠ R.CG_EVT.off ∧ f.reg.off ≠ R.CG_URG_STAT.off) :
    t.gf f (cgB r g) = s.gf f (cgB r g) := congrArg (Word.bits · f.hi f.lo) (h.rd hq (by simpa using hn))

theorem SameScan.converting : converting t r g = converting s r g :=
  converting_congr (h.gf (f := F.CG_STAT_STATE) rfl (by decide)) h.torpor

theorem SameScan.passOf (m : Nat) : passOf t (cgB r g) m = passOf s (cgB r g) m :=
  passOf_congr fun c _ => h.rd rfl (by simp only [R.CG_CHc_CFG, R.CG_EVT, R.CG_URG_STAT]; omega)
end

/-- A trigger that a group's scan selects starts a pass, whatever urgent slots it serves first. -/
theorem groupTrigger_startsPass {s : State} {r g code : Nat} (hsrc : s.gf F.CG_SCAN_TRIG_SRC (cgB r g) = code)
    (hmode : s.gf F.CG_SCAN_SMODE (cgB r g) = 2) (hc : converting s r g = true) (hp : (s.grp r g).pass = none) :
    ((groupTrigger s r g code).grp r g).pass = passOf s (cgB r g) (s.gf F.CG_MASK_MASK (cgB r g)) := by
  unfold groupTrigger
  extract_lets b s1
  have h : SameScan r g s s1 := List.foldlRecOn (motive := SameScan r g s) _ _ (SameScan.refl r g s) fun t ht k _ => by
    refine ht.trans ?_
    split
    · rw [urgTrig]
      split
      · exact sameScan_urgentRequest t r g _
      · exact SameScan.refl r g t
    · exact SameScan.refl r g t
  rw [if_pos ((h.gf rfl (by decide)).trans hsrc), scanTrig, if_pos ((h.gf rfl (by decide)).trans hmode),
    scanRequest_starts (h.converting.trans hc) (h.pass.trans hp), startPass_pass, h.gf rfl (by decide), h.passOf]

theorem fireTrigger_startsPass {s : State} {r code : Nat} {g : Fin 4} (hsrc : s.gf F.CG_SCAN_TRIG_SRC (cgB r g) = code)
    (hmode : s.gf F.CG_SCAN_SMODE (cgB r g) = 2) (hc : converting s r g = true) (hp : (s.grp r g).pass = none) :
    ((fireTrigger s r code).grp r g).pass = passOf s (cgB r g) (s.gf F.CG_MASK_MASK (cgB r g)) := by
  have hgl : g.val ∈ [0, 1, 2, 3] := by
    have := g.isLt
    simp only [List.mem_cons, List.not_mem_nil, or_false]
    omega
  have hlt : ∀ q ∈ [0, 1, 2, 3], q < 4 := by decide
  have hother : ∀ t q, q ∈ [0, 1, 2, 3] → q ≠ g.val → SameGroup r g t (groupTrigger t r q code) := fun t q hq hne =>
    (trigger_groupTrigger t r q code).sameGroup hne.symm ⟨g.isLt, hlt q hq⟩
  refine foldl_region (pre := SameGroup r g s) (post := fun t => (t.grp r g).pass = _) (by decide) hgl
    (fun t q hq hne ht => ht.trans (hother t q hq hne)) (fun t ht => ?_) (fun t q hq hne ht => ?_)
    (sameGroup_captureTrigger s r g _)
  · rw [groupTrigger_startsPass ((ht.gf rfl (by decide)).trans hsrc) ((ht.gf rfl (by decide)).trans hmode)
      (ht.converting.trans hc) (by rw [ht.grp]; exact hp), ht.passOf, ht.gf rfl (by decide)]
  · rw [(hother t q hq hne).grp]
    exact ht

theorem fireTrigger_ch (s : State) (r code q c : Nat) : (fireTrigger s r code).ch q c = s.ch q c := by
  have hgroup : ∀ t g, (groupTrigger t r g code).ch q c = t.ch q c := fun t g =>
    ((trigger_groupTrigger t r g code).pwm _).resolve_right (by rintro (hk | hk) <;> simp [triggerScope] at hk)
  have hcap : (captureTrigger s r code).ch q c = s.ch q c := by
    rw [captureTrigger, captureArm]
    split
    · split <;> rfl
    · rfl
  exact (foldl_kept (fun t => t.ch q c) hgroup _ _).trans hcap

theorem pgTrigger_ends {s : State} {r : Rgn} {c : Fin 16} {g : Fin 4} {sub : Fin 120}
    (hch : enOf s r c = true ∧ (s.ch r c).everEn = true ∧ (s.ch r c).fired = false)
    (htrig : s.gf F.PG_CHcc_TRIG_TRIG (pgB r) c < perOf s r c)
    (hnow : (s.ch r c).start + s.gf F.PG_CHcc_TRIG_TRIG (pgB r) c ≤ fineNow s sub)
    (hscan : s.gf F.CG_SCAN_TRIG_SRC (cgB r g) = c.val ∧ s.gf F.CG_SCAN_SMODE (cgB r g) = 2) (hc : converting s r g = true)
    (hp : (s.grp r g).pass = none) : Ends (execPgTrigger r c sub s) fun t =>
      (t.ch r c).fired = true ∧ (t.grp r g).pass = passOf s (cgB r g) (s.gf F.CG_MASK_MASK (cgB r g)) := by
  obtain ⟨hen, hever, hfired⟩ := hch
  obtain ⟨hsrc, hmode⟩ := hscan
  apply ends_of_ending
  rw [if_pos ⟨hen, hever, hfired, htrig, hnow⟩, ending_ch, ending_grp, fireTrigger_ch, ch_setCh_self]
  exact ⟨rfl, fireTrigger_startsPass (s := s.setCh r c _) hsrc hmode hc hp⟩

/-! ### PER, PHASE and LIM (R203, R209, R232) -/

section
variable {s : State} {a : Reader} {r : Rgn} {c : Fin 16} {v : Word}

/-- A period that every member's minima fit in, within a factor of two of the one in force, is taken. -/
theorem pgGrpPerWrite_ends (hm : s.mayWrite a r = true) (hper : s.gb F.PG_GRPg_CTRL_EN (pgB r) c = false ∨
      s.gf F.PG_GRPg_APPLIED_PER (pgB r) c = 0 ∨
      (fOf (s.merged R.PG_GRPg_PER (pgB r) c v) F.PG_GRPg_PER_PER ≤ 2 * s.gf F.PG_GRPg_APPLIED_PER (pgB r) c ∧
        s.gf F.PG_GRPg_APPLIED_PER (pgB r) c ≤ 2 * fOf (s.merged R.PG_GRPg_PER (pgB r) c v) F.PG_GRPg_PER_PER))
    (hmin : (members s r c).all (fun m => decide (s.gf F.PG_CHcc_LIM_MIN_ON (pgB m.1) m.2 +
      s.gf F.PG_CHcc_LIM_MIN_OFF (pgB m.1) m.2 ≤ fOf (s.merged R.PG_GRPg_PER (pgB r) c v) F.PG_GRPg_PER_PER)) = true) :
    Ends (execPgGrpPerWrite a r c v s) fun t => t.rd R.PG_GRPg_PER (pgB r) c = s.merged R.PG_GRPg_PER (pgB r) c v := by
  refine ends_ownerWr hm ?_
  extract_lets b w per cur minBad
  have hbad : minBad = false := by
    simp only [minBad, List.any_eq_false, decide_eq_true_eq, Nat.not_lt]
    exact fun m hmem => of_decide_eq_true (List.all_eq_true.1 hmin m hmem)
  have hrange : (s.gb F.PG_GRPg_CTRL_EN b c && decide (cur ≠ 0) && decide (2 * cur < per ∨ 2 * per < cur)) = false := by
    obtain h | h | ⟨hu, hl⟩ := hper
    · simp only [b, h, Bool.false_and]
    · simp only [cur, b, h, ne_eq, not_true_eq_false, decide_false, Bool.and_false, Bool.false_and]
    · rw [decide_eq_false (p := 2 * cur < per ∨ 2 * per < cur) (by simp only [cur, per, b, w]; omega), Bool.and_false]
  rw [hbad, hrange]
  rfl

theorem pgPhaseWrite_ends (hm : s.mayWrite a r = true) (hs : substituting s r c = false) :
    Ends (execPgPhaseWrite a r c v s) fun t => t.rd R.PG_CHcc_PHASE (pgB r) c = s.merged R.PG_CHcc_PHASE (pgB r) c v :=
  ends_ownerWr hm (if_neg (by simp [hs]))

theorem pgLimWrite_ends (hm : s.mayWrite a r = true) (hs : substituting s r c = false)
    (hper : s.gf F.PG_GRPg_PER_PER (pgB (grpOf s r c).1) (grpOf s r c).2 = 0 ∨
      fOf (s.merged R.PG_CHcc_LIM (pgB r) c v) F.PG_CHcc_LIM_MIN_ON +
          fOf (s.merged R.PG_CHcc_LIM (pgB r) c v) F.PG_CHcc_LIM_MIN_OFF ≤
        s.gf F.PG_GRPg_PER_PER (pgB (grpOf s r c).1) (grpOf s r c).2) :
    Ends (execPgLimWrite a r c v s) fun t => t.rd R.PG_CHcc_LIM (pgB r) c = s.merged R.PG_CHcc_LIM (pgB r) c v := by
  refine ends_ownerWr hm (if_neg ?_)
  simp only [hs, Bool.false_or, Bool.and_eq_true, decide_eq_true_eq]
  omega
end

/-- Settles O17: period starts, edges, epochs and triggers, and the writes of PER, PHASE and LIM. -/
theorem pulseTiming : Obligations.PulseTiming :=
  ⟨fun _ _ _ _ => periodStart_ends, fun _ _ _ _ _ => fallEdge_ends, fun _ _ _ _ => riseEdge_ends,
    fun _ _ _ _ => lowEndEdge_ends, fun _ _ _ _ _ => firstEpoch_ends, fun _ _ _ _ => nextEpoch_ends,
    fun _ _ _ _ _ => pgTrigger_ends, fun _ _ _ _ _ => pgGrpPerWrite_ends, fun _ _ _ _ _ => pgPhaseWrite_ends,
    fun _ _ _ _ _ => pgLimWrite_ends⟩

end Sys2Proof.Machine

/-! ## Control of the Loop Engines, their memories and their transfers (R128, R129, R212, R272 to R280) -/

namespace Sys2Proof.Machine

/-! ### What an engine holds -/

theorem eng_setEng_self (s : State) (r : Nat) (x : EngS) : (s.setEng r x).eng r = x := Tab.get_set_self _ _ _

theorem eng_congr {s t : State} (h : t.engines = s.engines) (r : Nat) : t.eng r = s.eng r := by rw [State.eng, State.eng, h]

theorem ending_eng (s t : State) (r : Nat) : (s.ending t).eng r = t.eng r := eng_congr (ending_engines s t) r

/-- A command by the owner shows the engine of its effect. -/
theorem ownerEnding_eng (s t : State) (q r : Nat) : (s.ending (s.started t q)).eng r = t.eng r :=
  eng_congr ((ending_engines _ _).trans (started_engines _ _ _)) r

theorem ownerEnding_lemem (s t : State) (q : Nat) : (s.ending (s.started t q)).lemem = t.lemem :=
  (settle_lemem _).trans (ite_shows State.lemem rfl rfl)

/-! ### LE_CTRL (R272, R275) -/

theorem leRun_keepsRegs (s : State) (r : Nat) : (leRun s r).regs = s.regs := by
  unfold leRun
  extract_lets x
  split
  · split <;> rfl
  · split <;> rfl

/-- Without RUN an engine that runs or waits for an input or an event halts. -/
theorem leRun_halts {s : State} {r : Nat} (h : s.gb F.LE_CTRL_RUN (leB r) = false)
    (hm : (s.eng r).mode = .running ∨ (s.eng r).mode = .waitIn ∨ (s.eng r).mode = .waitEv ∨ (s.eng r).mode = .halted) :
    ((leRun s r).eng r).mode = .halted := by
  obtain hm | hm | hm | hm := hm <;> simp only [leRun, h, hm, Bool.false_eq_true, if_false]
  · rw [eng_setEng_self]
  · rw [eng_setEng_self]
  · rw [eng_setEng_self]

/-- A CRD that waits for data, or a CWR that waits to be sent, ends first. -/
theorem leRun_waits {s : State} {r off k : Nat} (h : s.gb F.LE_CTRL_RUN (leB r) = false)
    (hm : (s.eng r).mode = .crd off k ∨ (s.eng r).mode = .cwr off k) : leRun s r = s := by
  obtain hm | hm := hm <;> simp only [leRun, h, hm, Bool.false_eq_true, if_false]

section
variable {s : State} {a : Reader} {r : Rgn}

theorem leRun_runs (hm : s.mayWrite a r = true) (hc : s.gb F.LE_CTRL_STEP (leB r) = false ∧ s.gb F.LE_CTRL_ERST (leB r) = false)
    (hmode : (s.eng r).mode = .halted) : Ends (execLeRun a r s) fun t =>
      (t.eng r).mode = .running ∧ t.gb F.LE_CTRL_RUN (leB r) = true := by
  have hrun : (s.plainWrite R.LE_CTRL (leB r) 0 (runWord (s.rd R.LE_CTRL (leB r)))).gb F.LE_CTRL_RUN (leB r) = true :=
    (leCtrl_written s _ _).1.trans (runWord_bit _ (by decide))
  have hexec : execLeRun a r s = s.after (leCtrlWrite s a r (runWord (s.rd R.LE_CTRL (leB r)))) := rfl
  rw [hexec, leCtrlWrite_run hm hc.1]
  apply ends_of_ending
  rw [ownerEnding_eng, gb_congr (ownerEnding_regs _ _ _), eng_congr (sb_engines _ _ _ _ _), State.gb, State.sb,
    gf_sf_same_reg _ F.LE_CTRL_STEP F.LE_CTRL_RUN _ _ _ rfl (by decide) (by decide), gf_congr (leRun_keepsRegs _ _)]
  exact ⟨leRun_running hrun ((congrArg EngS.mode (eng_congr (plainWrite_engines _ _ _ _ _) r)).trans hmode), hrun⟩

/-- LE_CTRL with RUN, STEP and ERST written 0. -/
theorem haltWord_bit (w : Word) {i : Nat} (h : i < 3) : (w.setBits 2 0 0).getLsbD i = false := by
  rw [Word.setBits_getLsbD _ _ _ _ _ (by omega), if_pos (by omega), Nat.zero_testBit]

/-- A halt request, and what it makes of the engine. -/
theorem leHaltRequest_runs (hm : s.mayWrite a r = true)
    (hc : s.gb F.LE_CTRL_STEP (leB r) = false ∧ s.gb F.LE_CTRL_ERST (leB r) = false) (hl : s.gb F.LE_CTRL_LIVE (leB r) = false) :
    ∃ u : State, u.gb F.LE_CTRL_RUN (leB r) = false ∧ u.eng r = s.eng r ∧
      Ends (execLeHaltRequest a r s) fun t => t.eng r = (leRun u r).eng r ∧ t.gb F.LE_CTRL_RUN (leB r) = false := by
  have hfld : ∀ f : Fld, f.hi = f.lo → f.lo < 3 → fOf ((s.rd R.LE_CTRL (leB r)).setBits 2 0 0) f = 0 := fun f hf h3 => by
    rw [fOf_eq_bit _ hf, haltWord_bit _ h3]
    rfl
  obtain ⟨hrun, hstep⟩ := leCtrl_written s (leB r) ((s.rd R.LE_CTRL (leB r)).setBits 2 0 0)
  rw [haltWord_bit _ (by decide)] at hrun hstep
  refine ⟨_, hrun, eng_congr (plainWrite_engines _ _ _ _ _) r, ends_asOwner hm ?_⟩
  rw [ownerEnding_eng, gb_congr (ownerEnding_regs _ _ _)]
  extract_lets b x stops s1
  have he : ¬ fOf ((s.rd R.LE_CTRL (leB r)).setBits 2 0 0) F.LE_CTRL_ERST = 1 := by
    rw [hfld _ (by decide) (by decide)]
    decide
  rw [if_neg (by simp [b, hl]), if_neg he, if_neg (by simp [s1, b, hstep, hc.1]), eng_congr (sb_engines _ _ _ _ _), State.gb,
    State.sb, gf_sf_same_reg _ F.LE_CTRL_STEP F.LE_CTRL_RUN _ _ _ rfl (by decide) (by decide), gf_congr (leRun_keepsRegs _ _)]
  exact ⟨rfl, hrun⟩

theorem leHaltRequest_halts (hm : s.mayWrite a r = true)
    (hc : s.gb F.LE_CTRL_STEP (leB r) = false ∧ s.gb F.LE_CTRL_ERST (leB r) = false) (hl : s.gb F.LE_CTRL_LIVE (leB r) = false)
    (hmode : (s.eng r).mode = .running ∨ (s.eng r).mode = .waitIn ∨ (s.eng r).mode = .waitEv ∨ (s.eng r).mode = .halted) :
    Ends (execLeHaltRequest a r s) fun t => (t.eng r).mode = .halted ∧ t.gb F.LE_CTRL_RUN (leB r) = false := by
  obtain ⟨u, hu, he, h⟩ := leHaltRequest_runs hm hc hl
  exact h.mono fun t ht => ⟨by rw [ht.1]; exact leRun_halts hu (by rwa [he]), ht.2⟩

theorem leHaltRequest_waits {off k : Nat} (hm : s.mayWrite a r = true)
    (hc : s.gb F.LE_CTRL_STEP (leB r) = false ∧ s.gb F.LE_CTRL_ERST (leB r) = false) (hl : s.gb F.LE_CTRL_LIVE (leB r) = false)
    (hmode : (s.eng r).mode = .crd off k ∨ (s.eng r).mode = .cwr off k) :
    Ends (execLeHaltRequest a r s) fun t => (t.eng r).mode = (s.eng r).mode ∧ t.gb F.LE_CTRL_RUN (leB r) = false := by
  obtain ⟨u, hu, he, h⟩ := leHaltRequest_runs hm hc hl
  exact h.mono fun t ht => ⟨by rw [ht.1, leRun_waits hu (by rwa [he]), he], ht.2⟩

/-- The words of LE_STEP and ERST: their bits, and RUN as it is. -/
theorem stepWord_bits (w : Word) (n i : Nat) (hi : i < 3) :
    (w.setBits 2 1 n).getLsbD i = if i = 0 then w.getLsbD 0 else n.testBit (i - 1) := by
  rw [Word.setBits_getLsbD _ _ _ _ _ (by omega)]
  obtain rfl | h := Nat.eq_zero_or_pos i
  · rfl
  · rw [if_pos (by omega), if_neg (by omega)]

/-- ERST in the words of LE_STEP and ERST. -/
theorem stepWord_erst (w : Word) (n : Nat) : fOf (w.setBits 2 1 n) F.LE_CTRL_ERST = (n.testBit 1).toNat := by
  rw [fOf_eq_bit _ (show F.LE_CTRL_ERST.hi = F.LE_CTRL_ERST.lo from rfl)]
  exact congrArg Bool.toNat (stepWord_bits w n 2 (by decide))

theorem leStep_ends (hm : s.mayWrite a r = true) (hl : s.gb F.LE_CTRL_LIVE (leB r) = false) (hmode : (s.eng r).mode = .halted) :
    Ends (execLeStep a r s) fun t => t.gb F.LE_CTRL_STEP (leB r) = true ∧ (t.eng r).mode = .halted ∧
      t.gb F.LE_CTRL_RUN (leB r) = s.gb F.LE_CTRL_RUN (leB r) := by
  have hbit := stepWord_bits (s.rd R.LE_CTRL (leB r)) 1
  obtain ⟨hrun, hstep⟩ := leCtrl_written s (leB r) ((s.rd R.LE_CTRL (leB r)).setBits 2 1 1)
  rw [hbit 0 (by decide)] at hrun
  rw [hbit 1 (by decide), show (if 1 = 0 then (s.rd R.LE_CTRL (leB r)).getLsbD 0 else Nat.testBit 1 (1 - 1)) = true from rfl,
    Bool.or_true] at hstep
  refine ends_asOwner hm ?_
  rw [ownerEnding_eng, gb_congr (ownerEnding_regs _ _ _), gb_congr (ownerEnding_regs _ _ _)]
  extract_lets b x stops s1
  have he : ¬ fOf ((s.rd R.LE_CTRL (leB r)).setBits 2 1 1) F.LE_CTRL_ERST = 1 := by
    rw [stepWord_erst]
    decide
  rw [if_neg (by simp [b, hl]), if_neg he, if_pos (by simp [s1, b, x, hstep, hmode]), eng_congr (plainWrite_engines _ _ _ _ _)]
  exact ⟨hstep, hmode, hrun.trans (gb_eq_bit s _ _ (show F.LE_CTRL_RUN.hi = F.LE_CTRL_RUN.lo from rfl)).symm⟩

/-- The reset of an engine. -/
theorem engReset_spec (s : State) (r : Nat) : ((engReset s r).eng r).mode = .halted ∧
    ((engReset s r).eng r).pc = s.gf F.LE_START_ADDR (leB r) ∧ ((engReset s r).eng r).main = RegSet.reset ∧
    (engReset s r).gf F.LE_EVPEND_PEND (leB r) = 0 := by
  unfold engReset
  extract_lets x y
  rw [eng_congr (sf_engines _ _ _ _ _), eng_setEng_self, gf_sf_self _ _ _ _ _ (by decide)]
  exact ⟨rfl, rfl, rfl, rfl⟩

theorem erst_ends (hm : s.mayWrite a r = true) (hl : s.gb F.LE_CTRL_LIVE (leB r) = false ∨ (s.eng r).mode = .faulted) :
    Ends (execErst a r s) fun t => (t.eng r).mode = .halted ∧ (t.eng r).pc = s.gf F.LE_START_ADDR (leB r) ∧
      (t.eng r).main = RegSet.reset ∧ t.gf F.LE_EVPEND_PEND (leB r) = 0 := by
  refine ends_asOwner hm ?_
  rw [ownerEnding_eng, gf_congr (ownerEnding_regs _ _ _)]
  extract_lets b x stops s1
  have he : fOf ((s.rd R.LE_CTRL (leB r)).setBits 2 1 2) F.LE_CTRL_ERST = 1 := stepWord_erst _ 2
  obtain ⟨hmode, hpc, hmain, hpend⟩ := engReset_spec s1 r
  have hstart : s1.gf F.LE_START_ADDR (leB r) = s.gf F.LE_START_ADDR (leB r) :=
    congrArg (Word.bits · F.LE_START_ADDR.hi F.LE_START_ADDR.lo) (rd_wr_ne s _ (Or.inr (reg_addr_ne (by decide) _)))
  rw [if_neg (by obtain h | h := hl <;> simp [b, x, h]), if_pos he,
    eng_congr ((sb_engines _ _ _ _ _).trans (sb_engines _ _ _ _ _)), State.sb, gf_sf_off _ _ _ (by decide), State.sb,
    gf_sf_off _ _ _ (by decide)]
  exact ⟨hmode, hpc.trans hstart, hmain, hpend⟩

/-! ### Program memory, X and Y memory and the window (R70, R272, R274, R280, R335) -/

theorem progVolatile_lemem (s : State) (r n : Nat) : (progVolatile s r n).lemem = s.lemem := by
  unfold progVolatile
  split <;> rfl

theorem programMemoryWrite_ends {n : Fin 8192} {v : DWord} (hm : s.mayWrite a r = true) (hst : leStopped s r = true) :
    Ends (execProgramMemoryWrite a r n v s) fun t => packet t r n = v := by
  refine ends_asOwner hm ?_
  rw [if_pos hst, packet, ownerEnding_lemem, progVolatile_lemem, Tab.get_set_self, Tab.get_set_ne _ _ (by omega), Tab.get_set_self,
    ofHalves_lo_hi]

theorem xyHostWrite_ends {y : Bool} {n : Fin 16384} {v : Word} (hm : s.mayWrite a r = true) :
    Ends (execXyHostWrite a r y n v false s) fun t => xyGet t r y n = v.setWidth 24 := by
  refine ends_asOwner hm ?_
  rw [if_neg (by simp), xyGet, ownerEnding_lemem, xySet, Tab.get_set_self]
  exact BitVec.setWidth_setWidth_of_le _ (by decide)

theorem xyHostWrite_lost {y : Bool} {n : Fin 16384} {v : Word} (hm : s.mayWrite a r = true)
    (hs : (s.eng r).stored.contains (y, n.val) = true) : Ends (execXyHostWrite a r y n v true s) fun t =>
      t.gb F.LE_EVT_HOST_LOST (leB r) = true ∧ t.lemem = s.lemem := by
  refine ends_asOwner hm ?_
  rw [if_pos (by rw [hs]; rfl), gb_congr (ownerEnding_regs _ _ _), ownerEnding_lemem, sb_lemem]
  exact ⟨gb_sb_self _ _ _ _ _ (by decide) (by decide), rfl⟩

/-- A write of the window of a stopped engine. -/
theorem leWindowWrite_puts {n : Fin 76} {v : DWord} (hm : s.mayWrite a r = true) (hst : leStopped s r = true) :
    Ends (execLeWindowWrite a r n v s) fun t => t.eng r = winPut (s.eng r) (s.gb F.LE_CTRL_VIEW (leB r)) n v := by
  refine ends_asOwner hm ?_
  rw [if_pos hst, ownerEnding_eng, eng_setEng_self]

theorem winPut_data (x : EngS) (view : Bool) {i : Nat} (v : DWord) (h : i < 16) :
    ((winPut x view i v).setOf view).d.get i = v.setWidth 24 := by
  rw [winPut, if_pos h]
  cases view <;> exact Tab.get_set_self _ _ _

theorem leWindowWrite_data {n : Fin 76} {v : DWord} (hm : s.mayWrite a r = true) (hst : leStopped s r = true) (hn : n.val < 16) :
    Ends (execLeWindowWrite a r n v s) fun t =>
      ((t.eng r).setOf (s.gb F.LE_CTRL_VIEW (leB r))).d.get n = v.setWidth 24 :=
  (leWindowWrite_puts hm hst).mono fun t ht => by rw [ht]; exact winPut_data _ _ v hn

theorem leWindowWrite_pc {v : DWord} (hm : s.mayWrite a r = true) (hst : leStopped s r = true) :
    Ends (execLeWindowWrite a r 74 v s) fun t => (t.eng r).pc = v.toNat % 8192 :=
  (leWindowWrite_puts hm hst).mono fun t ht => by rw [ht]; rfl

end

/-! ### Results and duty values on their way (R128, R129, R212, R213) -/

section
variable {s : State} {r g n : Nat}

theorem tapPop_taps (s : State) (r g n : Nat) : ((tapPop s r g n).grp r g).taps.get n =
    { (s.grp r g).taps.get n with buf := ((s.grp r g).taps.get n).buf.tail } := by
  rw [tapPop, grp_setGrp_self]
  exact Tab.get_set_self _ _ _

theorem eventPend_keeps (s : State) (r n : Nat) : (s.eventPend r n).engines = s.engines ∧ (s.eventPend r n).conv = s.conv := by
  unfold State.eventPend
  extract_lets x
  split
  · exact ⟨orf_engines _ _ _ _ _, orf_conv _ _ _ _ _⟩
  · exact ⟨rfl, rfl⟩

/-- An input port in FIFO mode with room takes a transfer at its end. -/
theorem portOffer_takes {q p : Nat} (hm : s.gb F.LE_INp_CFG_MODE (leB q) p = false) (hp : p < 8)
    (hl : ((s.eng q).ports.get p).buf.length < 4) (x : Xfer) : ∃ t, portOffer s q p x = some t ∧ t.conv = s.conv ∧
      ((t.eng q).ports.get p).buf = ((s.eng q).ports.get p).buf ++ [x] := by
  unfold portOffer
  extract_lets e o b latest s1 s2 y s3
  have hlatest : latest = false := hm
  have h1 : s1 = s := if_neg (by simp [hlatest])
  have h3 : s3.engines = s2.engines ∧ s3.conv = s2.conv :=
    ⟨ite_shows State.engines rfl rfl, ite_shows State.conv rfl rfl⟩
  obtain ⟨he, hc⟩ := eventPend_keeps s3 q 28
  rw [if_neg (by simp only [hlatest, o, e]; omega)]
  refine ⟨_, rfl, (ite_shows State.conv hc rfl).trans (h3.2.trans (by rw [setEng_conv, h1])), ?_⟩
  rw [eng_congr ((ite_shows State.engines he rfl).trans h3.1), eng_setEng_self, Tab.get_set_self, hlatest]
  rfl

theorem streamPush_conv {t : State} {q w : Nat} {v : BitVec 72} (h : streamPush s r q w v = some t) : t.conv = s.conv := by
  rw [streamPush] at h
  split at h
  · rw [← Option.some.inj h, qcPush]
    exact ite_shows State.conv (ite_shows State.conv rfl rfl) rfl
  · exact absurd h (by simp)

theorem outPop_out (s : State) (r p : Nat) : ((outPop s r p).eng r).outq.get p = ((s.eng r).outq.get p).tail := by
  rw [outPop, eng_setEng_self]
  exact Tab.get_set_self _ _ _

/-- A duty value that arrives fills the shadow. -/
theorem dutyArrive_spec (s : State) (r c on : Nat) (skip : Bool) (n : Nat) :
    ((dutyArrive s r c on skip n).ch r c).full = true ∧ ((dutyArrive s r c on skip n).ch r c).at_ = n ∧
    (dutyArrive s r c on skip n).gf F.PG_CHcc_DUTY_ON (pgB r) c = on % 2 ^ 20 ∧
    (dutyArrive s r c on skip n).engines = s.engines := by
  unfold dutyArrive
  extract_lets s1
  rw [ch_setCh_self, gf_congr (setCh_regs _ _ _ _), setCh_engines]
  refine ⟨rfl, rfl, ?_, (sb_engines _ _ _ _ _).trans (sf_engines _ _ _ _ _)⟩
  simp (disch := decide) only [s1, gf_eq_fld, sb_regs, sf_regs, Regs.fld_setFld_reg, Regs.fld_setFld_self]
  rfl
end

section
variable {s : State} {r : Rgn} {g : Fin 4} {n : Fin 3} {e : TapEntry} {l : List TapEntry} {q i : Nat}

theorem tapDeliver_port (hc : s.clk r = 0 ∧ cgState s r g ≠ 6 ∧ cgState s r g ≠ 7)
    (hb : ((s.grp r g).taps.get n).buf = e :: l) (hd : s.gf F.CG_TAPt_CFG_DEST (cgB r g) n = 0)
    (hp : s.gf F.CG_TAPt_CFG_RGN (cgB r g) n = q ∧ s.gf F.CG_TAPt_CFG_PORT (cgB r g) n = i ∧ i < 8)
    (hm : s.gb F.LE_INp_CFG_MODE (leB q) i = false) (hl : ((s.eng q).ports.get i).buf.length < 4) :
    Ends (execTapDeliver r g n s) fun t => ((t.eng q).ports.get i).buf = ((s.eng q).ports.get i).buf ++ [resultXfer e] ∧
      ((t.grp r g).taps.get n).buf = l := by
  obtain ⟨rfl, rfl, hi⟩ := hp
  obtain ⟨t, ht, hconv, hbuf⟩ := portOffer_takes (s := tapPop s r g n) (q := s.gf F.CG_TAPt_CFG_RGN (cgB r g) n) hm hi hl
    (resultXfer e)
  apply ends_of_ending
  rw [if_pos hc, hb]
  simp only [hd, ht, Option.getD_some]
  rw [ending_eng, ending_grp, hbuf, grp_congr hconv, tapPop_taps, hb]
  exact ⟨rfl, rfl⟩

theorem tapDeliver_stream (hc : s.clk r = 0 ∧ cgState s r g ≠ 6 ∧ cgState s r g ≠ 7)
    (hb : ((s.grp r g).taps.get n).buf = e :: l) (hd : s.gf F.CG_TAPt_CFG_DEST (cgB r g) n = 1)
    (hp : s.gf F.CG_TAPt_CFG_RGN (cgB r g) n = q ∧ s.gf F.CG_TAPt_CFG_PORT (cgB r g) n = i)
    (hs : (streamPush (tapPop s r g n) q i 1 (e.result.setWidth 72)).isSome = true) :
    Ends (execTapDeliver r g n s) fun t => ((t.grp r g).taps.get n).buf = l ∧
      t.qc q i = ((streamPush (tapPop s r g n) q i 1 (e.result.setWidth 72)).getD s).qc q i := by
  obtain ⟨rfl, rfl⟩ := hp
  obtain ⟨t, ht⟩ := Option.isSome_iff_exists.1 hs
  apply ends_of_ending
  rw [if_pos hc, hb]
  simp only [hd, ht, Option.getD_some]
  rw [ending_grp, grp_congr (streamPush_conv ht), tapPop_taps, hb, State.qc, fab_congr (ending_fabs _ _)]
  exact ⟨rfl, rfl⟩

/-- The value of a duty transfer, as the channel takes it. -/
theorem signedOf_word (x : BitVec 24) : signedOf 24 (Word.bits (x.setWidth 32) 23 0) = x.toInt := by
  have hx : (x.setWidth 32).toNat = x.toNat := BitVec.toNat_setWidth_of_le (by decide)
  have hlt := x.isLt
  rw [Word.bits, hx, signedOf, BitVec.toInt_eq_toNat_cond]
  split <;> split <;> omega

theorem dutyTransfer_ends {p : Fin 8} {sub : Fin 120} {x : Xfer} {l : List Xfer} {q : Rgn} {c : Fin 16}
    (hc : s.clk r = 0 ∧ (q = r ∨ s.clk q = 0)) (ho : (s.eng r).outq.get p = x :: l) (hd : s.gf F.LE_OUTp_CFG_DEST (leB r) p = 0)
    (hx : Word.bits (x.w1.setWidth 32) 23 20 = q.val ∧ Word.bits (x.w1.setWidth 32) 19 16 = c.val ∧ dieOf q = dieOf r)
    (hsrc : s.gf F.PG_CHcc_CFG_DSRC (pgB q) c = 1)
    (hport : s.gf F.PG_CHcc_CFG_SRC_RGN (pgB q) c = r.val ∧ s.gf F.PG_CHcc_CFG_SRC_PORT (pgB q) c = p.val) :
    Ends (execDutyTransfer r p sub s) fun t => (t.eng r).outq.get p = l ∧ (t.ch q c).full = true ∧
      (t.ch q c).at_ = fineNow s sub ∧ t.gf F.PG_CHcc_DUTY_ON (pgB q) c =
        (if x.w0.toInt ≤ 0 then 0 else (x.w0.toInt.toNat * perOf s q c * 2 + 2 ^ 23) / 2 ^ 24) % 2 ^ 20 := by
  obtain ⟨hclk, hq⟩ := hc
  obtain ⟨hrgn, hch, hdie⟩ := hx
  apply ends_of_ending
  rw [if_pos hclk, ho]
  simp only [hd, if_true]
  unfold dutyTransfer
  rw [hrgn, hch, if_pos ⟨hsrc, hport.1, hport.2, hdie, hq.imp (congrArg Fin.val) id⟩, signedOf_word,
    perOf_congr (s := s) (t := outPop s r p) rfl rfl, ending_eng, ending_ch, ending_gf]
  obtain ⟨hfull, hat, hon, heng⟩ := dutyArrive_spec (outPop s r p) q c
    (if x.w0.toInt ≤ 0 then 0 else (x.w0.toInt.toNat * perOf s q c * 2 + 2 ^ 23) / 2 ^ 24) (Word.bit (x.w1.setWidth 32) 15)
    (fineNow s sub)
  refine ⟨?_, hfull, hat, hon⟩
  rw [eng_congr heng, outPop_out, ho]
  rfl
end

/-! ### The spare MAC lane (R276 to R279) -/

section
variable {s : State} {r : Nat}

theorem laneState_state (s : State) (r st : Nat) : (laneState s r st).gf F.LE_SUB_STAT_STATE (leB r) = st % 8 :=
  gf_sf_self s _ _ _ _ (by decide)

theorem laneResult_fields (s : State) (r result cause : Nat) :
    (laneResult s r result cause).gf F.LE_SUB_STAT_RESULT (leB r) = result % 4 ∧
    (laneResult s r result cause).gf F.LE_SUB_STAT_CAUSE (leB r) = cause % 16 := by
  simp (disch := decide) only [laneResult, gf_eq_fld, sf_regs, Regs.fld_setFld_reg, Regs.fld_setFld_self]
  exact ⟨rfl, rfl⟩

/-- The end of a substitution: STATE, and what it leaves of LE_SUB_STAT. -/
theorem laneEnd_fields (s : State) (r : Nat) : (laneEnd s r).gf F.LE_SUB_STAT_STATE (leB r) = 0 ∧
    (laneEnd s r).gf F.LE_SUB_STAT_RESULT (leB r) = s.gf F.LE_SUB_STAT_RESULT (leB r) ∧
    (laneEnd s r).gf F.LE_SUB_STAT_CAUSE (leB r) = s.gf F.LE_SUB_STAT_CAUSE (leB r) := by
  simp (disch := decide) only [laneEnd, laneState, gf_eq_fld, sb_regs, sf_regs, Regs.fld_setFld_off, Regs.fld_setFld_reg,
    Regs.fld_setFld_self]
  exact ⟨rfl, trivial, trivial⟩

/-- A register of an engine that LE_SUB and LE_SUB_STAT are not. -/
theorem gb_laneEnd_laneResult (s : State) (r result cause : Nat) {f : Fld}
    (h : f.reg.off ≠ R.LE_SUB.off ∧ f.reg.off ≠ R.LE_SUB_STAT.off) :
    (laneEnd (laneResult s r result cause) r).gb f (leB r) = s.gb f (leB r) := by
  obtain ⟨hs, ht⟩ := h
  rw [laneEnd, State.sb, gb_sf_off _ _ _ hs, laneState, gb_sf_off _ _ _ ht, laneResult, gb_sf_off _ _ _ ht, gb_sf_off _ _ _ ht]

theorem pausing_congr {t : State} (hr : t.inTorpor r = s.inTorpor r) (hw : t.rgn = s.rgn) : pausing t r = pausing s r := by
  rw [pausing, pausing, hr, rgnS_congr hw]

/-- A step of a substitution begins, or waits for the end of a Torpor. -/
theorem laneNext_spec (s : State) (r st steps : Nat) :
    (laneNext s r st steps).gf F.LE_SUB_STAT_STATE (leB r) = (if pausing s r then 5 else st) % 8 ∧
    ((laneNext s r st steps).eng r).laneSteps = steps ∧ ((laneNext s r st steps).eng r).lane = (s.eng r).lane := by
  unfold laneNext
  extract_lets x
  rw [laneState_state, laneState, eng_congr (sf_engines _ _ _ _ _), eng_setEng_self]
  exact ⟨rfl, rfl, rfl⟩

/-- A substitution that nothing refuses starts at step 1. -/
theorem laneStart_starts {l : Nat} (hf : s.gb F.LE_SPARE_STAT_FREE (leB r) = true) (hs : s.gf F.LE_SUB_STAT_STATE (leB r) = 0)
    (ho : s.gf F.RGN_STAT_OWNER (rgB r) ≠ 0) :
    (laneStart s r l).gf F.LE_SUB_STAT_STATE (leB r) = (if pausing s r then 5 else 1) ∧ ((laneStart s r l).eng r).lane = l := by
  unfold laneStart
  extract_lets b x
  rw [if_neg (by simp [b, hf]), if_neg (by simp [b, hs]), if_neg ho]
  obtain ⟨hstate, -, hlane⟩ := laneNext_spec (laneResult (s.setEng r { x with lane := l, forced := false }) r 0 0) r 1 8192
  have htor : (laneResult (s.setEng r { x with lane := l, forced := false }) r 0 0).inTorpor r = s.inTorpor r :=
    (inTorpor_sf _ _ _ _ _ (by decide)).trans (inTorpor_sf _ _ _ _ _ (by decide))
  rw [hstate, hlane, pausing_congr htor ((sf_rgn _ _ _ _ _).trans (sf_rgn _ _ _ _ _)), laneResult,
    eng_congr ((sf_engines _ _ _ _ _).trans (sf_engines _ _ _ _ _)), eng_setEng_self]
  refine ⟨?_, rfl⟩
  split <;> rfl
end

section
variable {s : State} {a : Reader} {r : Rgn}

theorem laneWord_fields : ∀ lane : Fin 4, fOf (BitVec.ofNat 32 (lane.val * 2 + 1)) F.LE_SUB_LANE = lane.val ∧
    fOf (BitVec.ofNat 32 (lane.val * 2 + 1)) F.LE_SUB_START = 1 := by decide

theorem laneSubstitution_ends {lane : Fin 4} (hm : s.mayWrite a r = true) (hst : s.gb F.LE_SUB_START (leB r) = false)
    (hf : s.gb F.LE_SPARE_STAT_FREE (leB r) = true) (hs : s.gf F.LE_SUB_STAT_STATE (leB r) = 0) :
    Ends (execLaneSubstitution (.by a) r lane s) fun t => t.gf F.LE_SUB_STAT_STATE (leB r) = (if pausing s r then 5 else 1) ∧
      t.gb F.LE_SUB_START (leB r) = true ∧ (t.eng r).lane = lane := by
  obtain ⟨hlane, hstart⟩ := laneWord_fields lane
  refine ends_asOwner hm ?_
  rw [gf_congr (ownerEnding_regs _ _ _), gb_congr (ownerEnding_regs _ _ _), ownerEnding_eng, hlane, hstart]
  extract_lets b s1 s2
  have howner : s1.gf F.RGN_STAT_OWNER (rgB r) ≠ 0 := by
    rw [gf_sf_ne _ _ _ _ _ _ _ _ (Or.inl (by decide))]
    exact owner_of_mayWrite hm
  obtain ⟨hstate, hl⟩ := laneStart_starts (s := s1) (l := lane) ((gb_sf_off s _ _ (by decide)).trans hf)
    ((gf_sf_off s _ _ (by decide)).trans hs) howner
  rw [pausing_congr (s := s) (t := s1) (inTorpor_sf _ _ _ _ _ (by decide))
    (sf_rgn _ _ _ _ _)] at hstate
  have h0 : s2.gf F.LE_SUB_STAT_STATE b ≠ 0 := by
    rw [hstate]
    split <;> decide
  rw [if_neg (by simp [b, hst]), if_pos ⟨hs, h0⟩]
  refine ⟨?_, gb_sb_self _ _ _ _ _ (by decide) (by decide), ?_⟩
  · rw [State.sb, gf_sf_off _ _ _ (by decide)]
    exact hstate
  · rw [eng_congr (sb_engines _ _ _ _ _)]
    exact hl

theorem laneStepEnd_selfTest (h1 : s.gf F.LE_SUB_STAT_STATE (leB r) = 1) (hp : pausing s r = false) :
    Ends (execLaneStepEnd r true s) fun t => t.gf F.LE_SUB_STAT_STATE (leB r) = 2 ∧ (t.eng r).laneSteps = 16384 := by
  apply ends_of_ending
  simp only [h1, if_true]
  obtain ⟨hstate, hsteps, -⟩ := laneNext_spec s r 2 16384
  rw [ending_gf, ending_eng, hstate, hsteps, hp]
  exact ⟨rfl, rfl⟩

theorem laneStepEnd_testFails (h1 : s.gf F.LE_SUB_STAT_STATE (leB r) = 1) :
    Ends (execLaneStepEnd r false s) fun t => t.gf F.LE_SUB_STAT_STATE (leB r) = 0 ∧ t.gf F.LE_SUB_STAT_RESULT (leB r) = 3 ∧
      t.gf F.LE_SUB_STAT_CAUSE (leB r) = 6 ∧ t.gb F.LE_SPARE_STAT_FAILED (leB r) = true ∧
      t.gb F.LE_SPARE_STAT_FREE (leB r) = false := by
  apply ends_of_ending
  simp only [h1, Bool.false_eq_true, if_false]
  obtain ⟨hstate, hresult, hcause⟩ := laneEnd_fields (laneResult s r 3 6) r
  obtain ⟨hr, hc⟩ := laneResult_fields s r 3 6
  generalize laneEnd (laneResult s r 3 6) r = u at hstate hresult hcause ⊢
  simp only [ending_gf, ending_gb, gf_congr (raise_regs _ _ _ _), gb_congr (raise_regs _ _ _ _), gf_congr (useSpare_regs _ _ _ _ _),
    gb_congr (useSpare_regs _ _ _ _ _)]
  have hoff : ∀ f : Fld, f.reg.off ≠ R.LE_SPARE_STAT.off →
      ((u.sb F.LE_SPARE_STAT_FAILED (leB r) 0 true).sb F.LE_SPARE_STAT_FREE (leB r) 0 false).gf f (leB r) = u.gf f (leB r) :=
    fun f hf => (gf_sf_off _ _ _ hf).trans (gf_sf_off u _ _ hf)
  refine ⟨(hoff _ (by decide)).trans hstate, (hoff _ (by decide)).trans (hresult.trans hr),
    (hoff _ (by decide)).trans (hcause.trans hc), ?_, gb_sb_self _ _ _ _ _ (by decide) (by decide)⟩
  rw [State.gb, State.sb, gf_sf_same_reg _ F.LE_SPARE_STAT_FREE F.LE_SPARE_STAT_FAILED _ _ _ rfl (by decide) (by decide)]
  exact gb_sb_self u _ _ _ _ (by decide) (by decide)

theorem laneStepEnd_done {ok : Bool} (h4 : s.gf F.LE_SUB_STAT_STATE (leB r) = 4) (hf : (s.eng r).forced = false) :
    Ends (execLaneStepEnd r ok s) fun t => t.gf F.LE_SUB_STAT_STATE (leB r) = 0 ∧ t.gf F.LE_SUB_STAT_RESULT (leB r) = 1 := by
  apply ends_of_ending
  simp only [h4, hf, Bool.false_eq_true, if_false]
  obtain ⟨hstate, hresult, -⟩ := laneEnd_fields (laneResult s r 1 0) r
  rw [ending_gf, ending_gf, hstate, hresult, (laneResult_fields s r 1 0).1]
  exact ⟨rfl, rfl⟩

theorem laneMap_free (s : State) (r l cause : Nat) : (laneMap s r l cause).gb F.LE_SPARE_STAT_FREE (leB r) = false := by
  rw [laneMap, gb_congr (useSpare_regs _ _ _ _ _)]
  exact gb_sb_self _ _ _ _ _ (by decide) (by decide)

theorem laneShadowMismatch_ends (h2 : s.gf F.LE_SUB_STAT_STATE (leB r) = 2) : Ends (execLaneShadowMismatch r s) fun t =>
    t.gf F.LE_SUB_STAT_STATE (leB r) = 0 ∧ t.gf F.LE_SUB_STAT_RESULT (leB r) = 2 ∧ t.gb F.LE_EVT_SUB_FAIL (leB r) = true ∧
      t.gb F.LE_SPARE_STAT_FREE (leB r) = false := by
  apply ends_of_ending
  rw [if_pos h2]
  extract_lets s1
  obtain ⟨hstate, hresult, -⟩ := laneEnd_fields (laneResult s1 r 2 5) r
  have hfree : (laneEnd (laneResult s1 r 2 5) r).gb F.LE_SPARE_STAT_FREE (leB r) = false :=
    (gb_laneEnd_laneResult s1 r 2 5 (by decide)).trans (laneMap_free _ _ _ _)
  rw [(laneResult_fields s1 r 2 5).1] at hresult
  generalize laneEnd (laneResult s1 r 2 5) r = u at hstate hresult hfree ⊢
  simp only [ending_gf, ending_gb, gf_congr (raise_regs _ _ _ _), gb_congr (raise_regs _ _ _ _)]
  refine ⟨(gf_sf_off u _ _ (by decide)).trans hstate, (gf_sf_off u _ _ (by decide)).trans hresult,
    gb_sb_self _ _ _ _ _ (by decide) (by decide), (gb_sf_off u _ _ (by decide)).trans hfree⟩
end

/-- Settles O25: the control of an engine, its memories and window, its transfers, and its spare lane. -/
theorem engineAccess : Obligations.EngineAccess :=
  ⟨fun _ _ _ => leRun_runs, fun _ _ _ => leHaltRequest_halts, fun _ _ _ _ _ => leHaltRequest_waits, fun _ _ _ => leStep_ends,
    fun _ _ _ => erst_ends, fun _ _ _ _ _ => programMemoryWrite_ends, fun _ _ _ _ _ _ => xyHostWrite_ends,
    fun _ _ _ _ _ _ => xyHostWrite_lost, fun _ _ _ _ _ => leWindowWrite_data, fun _ _ _ _ => leWindowWrite_pc,
    fun _ _ _ _ _ _ _ _ => tapDeliver_port, fun _ _ _ _ _ _ _ _ => tapDeliver_stream, fun _ _ _ _ _ _ _ _ => dutyTransfer_ends,
    fun _ _ _ _ => laneSubstitution_ends, fun _ _ => laneStepEnd_selfTest, fun _ _ => laneStepEnd_testFails,
    fun _ _ _ => laneStepEnd_done, fun _ _ => laneShadowMismatch_ends⟩

end Sys2Proof.Machine
